-- ==== Sys2Proof/Word.lean ====
section
/-! DEFINITION. Word and byte types, and the index types of R10. -/
namespace Sys2Proof

/-- A 64-bit register or memory word (R11). -/
abbrev Word := BitVec 64

/-- One byte. -/
abbrev Byte := BitVec 8

/-- Die Q0 to Q3 (R10). -/
abbrev Die := Fin 4
/-- Cluster 0 to 15; cluster = 4 × die + local cluster (R10). -/
abbrev Cluster := Fin 16
/-- Physical core 0 to 79; core = 5 × cluster + local core (R10). -/
abbrev CoreId := Fin 80
/-- Logical core 0 to 63, 4 × cluster + local core (R22). -/
abbrev LCore := Fin 64
/-- Reduction engine 0 to 15; engine = 4 × die + local engine (R10). -/
abbrev Engine := Fin 16
/-- Bundle 0 to 31 (R10). -/
abbrev Bundle := Fin 32
/-- Port, named by its lowest lane, 0 to 1023 (R10). -/
abbrev Port := Fin 1024
/-- Command or completion ring 0 to 255 (R388). -/
abbrev RingId := Fin 256
/-- Puppeteer core 0 to 7 (R382). -/
abbrev PupId := Fin 8
/-- A general register number g0 to g31 (R177). -/
abbrev GReg := Fin 32
/-- A flow register number f0 to f15 (R182). -/
abbrev FReg := Fin 16
/-- A virtual channel 0 to 7. -/
abbrev Vc := Fin 8
/-- A power domain 0 to 127 (R406). -/
abbrev DomainId := Fin 128
/-- An FT alarm 0 to 1023 (R47). -/
abbrev AlarmId := Fin 1024

end Sys2Proof
end

