-- ==== Sys2Proof/Machine/Descr.lean ====
section
/-! DEFINITION. Operand types of the commands: what the outside of the block hands in with an event.
Each structure's fields are inputs that the spec says the device reads, measures or receives. -/
namespace Sys2Proof

/-- A unit that runs Z-S instructions (Table 7.1): a core sequencer or a Puppeteer core. -/
inductive ZsUnit where
  | core (n : CoreId)
  | pup (p : PupId)
deriving DecidableEq, Repr

/-- Where a packet entered the switch core (the inputs of R292 that carry packets). -/
inductive PktSrc where
  | port (p : Port)
  /-- The pair link from a die to another, and the buffer class that moves: VC and twin. -/
  | mesh (src dst : Die) (v : Vc) (twin : Bool)
  /-- A local unit, and the VC that moves. -/
  | engine (e : Engine) (v : Vc)
  | dma (n : CoreId) (v : Vc)
  | mgmt (d : Die) (v : Vc)
  | mirror (d : Die)
deriving DecidableEq, Repr

/-- What a lane chiplet makes of the words of a packet (R324): good, perhaps after FEC has corrected codewords, a failed LCRC, or
a FEC codeword with an uncorrectable error. -/
inductive Reception where
  | good
  | corrected (codewords : BitVec 32)
  | badLcrc
  | uncorrectable
deriving DecidableEq, Repr

/-- A PFP packet with its link framing (Tables 9.1 and 12.4): `hdr` is the 64-byte header, word 0 in the
low 64 bits; the other fields travel in the SOP and EOP words. -/
structure Packet where
  hdr : BitVec 512
  payload : List Byte
  bvc : Fin 8
  twin : Bool
  credit : Fin 4
  age : BitVec 40
  seq : BitVec 12
  stomp : Bool
deriving DecidableEq, Repr

/-- What a CTRL packet carries to the hub (R250). The spec does not lay out these payloads. -/
inductive CtrlContent where
  /-- A Puppeteer exchange. -/
  | exchange
  /-- A replica's digest of one shard, from another device of the group (R119, R120). -/
  | herdDigest (launch : Nat) (shard replica : Nat) (digest : BitVec 256)
  /-- Another device's part of a launch's statistics (R115): the sums, in units of 2^-298, and whether a special term
  entered each. -/
  | statistics (launch : Nat) (s1 : Nat) (special1 : Bool) (s2 : Nat) (special2 : Bool)
  /-- The verdict other devices have reached on a HERD launch. -/
  | herdVerdict (launch : Nat)
  /-- The acknowledgement of a fenced VC4 packet of a core (R281). -/
  | fenceAck (lcore : LCore) (dstRank : BitVec 20) (birth : BitVec 40)
  /-- Notice that a device in a job's path was lost (R289), for `job`. -/
  | pathLost (job : BitVec 16)
deriving DecidableEq, Repr

/-- The public halves of two key pairs (R454, R457): the RSA-3072 modulus and the SLH-DSA public key. -/
structure PubKeys where
  rsa : BitVec 3072
  slh : BitVec 512
deriving DecidableEq, Repr

/-- A certificate (R457): role, certified keys, SHA3-256 of the issuer's two public keys, and the issuer's two signatures
over all of it. -/
structure Certificate where
  role : Byte
  keys : PubKeys
  issuer : BitVec 256
  sigRsa : BitVec 3072
  sigSlh : List Byte
deriving DecidableEq, Repr

/-- A signed object (Table 18.2). Of a body whose contents the spec names without a layout, the bytes stand here and what
they say stands in the structure around the object. (DESIGN CHOICE, log entry 5.) -/
structure Signed where
  magic : BitVec 32
  kind : Byte
  body : List Byte
  signFt : Word
  cert : Certificate
  sigRsa : BitVec 3072
  sigSlh : List Byte
deriving DecidableEq, Repr

/-- What the SEC unit's signature arithmetic finds (R458): the issuer's two signatures on the certificate, and the object's
own two under the certified keys. Every other condition the model itself checks. (DESIGN CHOICE, log entry 5.) -/
structure SigCheck where
  certRsaOk : Bool
  certSlhOk : Bool
  rsaOk : Bool
  slhOk : Bool
deriving DecidableEq, Repr

/-- A discovery statement or endpoint identity (R334, R335, R336). -/
structure Statement where
  /-- The object, and the MANUFACTURING certificate that its chain to the Fjarestan roots passes through; of a KV6 and of an
  unsigned endpoint neither counts. -/
  obj : Signed
  mfr : Certificate
  /-- 1 KV9, 2 KV6, 3 endpoint, as LNK_PORT_PEER2 codes it. -/
  kind : BitVec 3
  deviceId : Word
  plane : Byte
  x : Byte
  y : Byte
  z : Byte
  port : BitVec 10
  nonce : BitVec 128
  /-- Digest of the identity key, for policy KEY (R336). -/
  keyDigest : BitVec 256
deriving DecidableEq, Repr

/-- A firmware bundle as it stands in a flash slot, host memory or hub SRAM (R382, R462): the code words of the CONTROL images
of Puppeteer cores 0 to 7 and the roles of the cores, the PHY and memory-training firmware, the digests of the LIBRARY keys,
and the expected digests of the kernels WAKE, FULL and ENGINE. -/
structure BundleImage where
  obj : Signed
  version : BitVec 32
  control : List (List (BitVec 32))
  roles : List Byte
  phy : List Byte
  libraryKeys : List (BitVec 256)
  kernelDigests : List (BitVec 256)
deriving DecidableEq, Repr

/-- The configuration record body (Table 18.4). Lists hold the 16 CLU_MAP values and the 320 CORE_ROWMAP
values (array a of core n at index 4n + a). -/
structure ConfigRecord where
  obj : Signed
  stepping : Byte
  grade : Byte
  variant : Byte
  disabledMap : List (BitVec 64)
  rowMap : List (BitVec 64)
  vcoreMv : BitVec 16
  baseMac : BitVec 48
  optSites : BitVec 16
  /-- Certificate of the device keys, ROLE 5; their public halves stand in it. -/
  deviceCert : Certificate
deriving DecidableEq, Repr

/-- What a plan expects of a port (R336). -/
inductive Expect where
  | none
  | kv9 (deviceId : Word) (port : BitVec 10) (plane x y z : Byte)
  | kv6 (deviceId : Word) (port : BitVec 10) (plane x y z : Byte)
  | endpointAny
  | endpointKey (keyDigest : BitVec 256)
  | ethAny
  | ethKey (keyDigest : BitVec 256)
deriving DecidableEq, Repr

/-- One port of a topology plan: its lowest lane, width code, direction (0–5 for +X, −X, +Y, −Y, +Z, −Z of
class T) and expectation. -/
structure PlanPort where
  port : Port
  width : BitVec 2
  dir : Option (Fin 6)
  expect : Expect
deriving DecidableEq, Repr

/-- A signed topology plan's body, as far as the spec names its contents (R270, R271, R316, R336, R466). -/
structure Plan where
  obj : Signed
  pos : Word
  classes : List (BitVec 2)
  ports : List PlanPort
  ftuCtrl : Word
deriving DecidableEq, Repr

/-- What the start-up steps meet (Table 18.5): the outcome of each check the device makes of its parts. -/
structure BootInputs where
  romOk : Bool
  /-- Power-up state of the PUF's 4 KiB SRAM, and whether the root key can be reconstructed from it (R453). -/
  puf : List Byte := []
  pufOk : Bool
  /-- The boot flash answers (R463). -/
  flashOk : Bool := true
  cfgA : SigCheck
  cfgB : SigCheck
  slot0 : SigCheck
  slot1 : SigCheck
  planSlot : SigCheck
  pllOk : Bool
  bufferSramOk : Bool
  /-- Cores whose SRAM failed self-test (R466). -/
  badCores : List CoreId
  /-- MEM_TIER_SIZE of dies 0 to 3 as training finds it; 0 in a field is a window that failed or is absent. -/
  tierSize : List Word
  /-- Windows (3 × die + tier) whose training failed (R362). -/
  failedWindows : List (Fin 12)
  /-- A die whose channels disagree in capacity (R353). -/
  mixedTier1 : List Die
  /-- FT, in ns, of the reset sequencer's arrival at its alignment stage (R46). -/
  alignArrival : Word
  /-- Warm reset only: what the bundle held in hub SRAM has become, if it has changed (R469). -/
  held : Option BundleImage := none
  /-- Black-box cells (MRAM offsets / 8) that fail from now on (R436). -/
  worn : List Nat := []
deriving DecidableEq, Repr

/-- Contents of this device's discovery statement (R334); its kind is KV9. -/
structure OwnStatement where
  deviceId : Word
  plane : Byte
  x : Byte
  y : Byte
  z : Byte
  verMin : Byte
  verMax : Byte
  nonce : BitVec 128
  /-- FT of signing, ns. -/
  signFt : Word
  /-- Both public keys, and their certificate. -/
  cert : Certificate
deriving DecidableEq, Repr

/-- What a configuration request does beside being answered (R383, R396): nothing, a write of the power state, or one of
MSI-X Enable and Function Mask. -/
inductive CfgOp where
  | read
  | power (d3 : Bool)
  | msix (enable mask : Bool)
deriving DecidableEq, Repr

/-- How an MCTP message reaches the device (R404): over PCIe VDM or over I3C, and the endpoint ID that it is addressed to; 0
addresses the device by its place. -/
structure MctpTo where
  vdm : Bool
  eid : Byte
deriving DecidableEq, Repr

/-- The delay mechanism of a PTP delay request (R39). -/
inductive DelayMech where
  | endToEnd
  | peerToPeer
deriving DecidableEq, Repr

/-- An Ethernet frame received on a class H port (R343), by the checks the port makes. -/
structure EthFrame where
  fcsOk : Bool
  /-- Destination is the port's own address. -/
  toPort : Bool
  etherType : BitVec 16
  /-- To a PTP multicast address or group, UDP port 319 or 320 (R343). -/
  ptpAddressed : Bool
  bytes : Nat
  /-- Buffer VC from the SOP word. -/
  vc : Vc
deriving DecidableEq, Repr

/-- Who met a memory error (Table 13.4). -/
inductive MemReader where
  | core (n : CoreId)
  | engine (e : Engine) (launch : Nat)
  | staging (e : Engine) (launch : Nat)
  | slice (pkt : Nat)
  | dataPacket (job : BitVec 16)
  | host
  | scrub
deriving DecidableEq, Repr

/-- Instructions of the test access port (R487). `drive` stands for any other instruction that drives a ball. -/
inductive TapIns where
  | idcode
  | bypass
  | sample
  | extest
  | extestPulse
  | extestTrain
  | drive
deriving DecidableEq, Repr

/-- Operations on TCK, TMS and TDI (R487): an instruction is shifted in, data are shifted, or the controller returns to
Test-Logic-Reset. -/
inductive TapOp where
  | shiftIr (ins : TapIns)
  | shiftDr (tdi : List Bool)
  | reset
deriving DecidableEq, Repr

/-- A waiter on synchronisation objects (R153). -/
inductive Waiter where
  | core (n : CoreId)
  | flow (e : Engine) (launch : Nat)
  | prov
deriving DecidableEq, Repr

/-- A stream (R280). -/
structure Stream where
  job : BitVec 16
  srcRank : BitVec 20
  origin : BitVec 16
  dstRank : BitVec 20
  vc : Vc
deriving DecidableEq, Repr

/-- One regulator's readings (R418). -/
structure RailReading where
  milliVolt : BitVec 16
  current : BitVec 16
  temp : BitVec 16
deriving DecidableEq, Repr

end Sys2Proof
end

