-- ==== Sys2Proof/Syntax.lean ====
section
/-! DEFINITION. The commands of the block: one constructor for each row of the spec's table of operations
and events, with the operands the spec gives it. Operands that the device measures or reads from outside
(a timestamp, a host read, a check's outcome) stand here, because the outside decides them. -/
namespace Sys2Proof

/-- What an interruption of more than 4 cycles holds: the feed of an MMA, or its drain (R138). -/
inductive Stretch where
  | feed
  | drain
deriving DecidableEq, Repr

/-- One command: an operation of a unit, a command of a ring, a register access, a packet, or an event of a
pin, a clock or a measurement. Docstrings name the row's rule. -/
inductive Instr where
  /-- POWER_ON_RESET (R483): PORST_N goes low, for `low` ns at least (R482); 1 ms unless said (Table 19.7). -/
  | powerOnReset (low : Nat := 1000000)
  /-- COLD_START_UP (R465): PORST_N is released and the start-up steps run on what `b` says they meet. -/
  | coldStartUp (b : BootInputs)
  /-- WARM_RESET (R483): WRST_N low, for so many ns at least (R482), or a register request. -/
  | warmReset (pin : Option Nat)
  /-- WARM_RESET_EXIT (R469). -/
  | warmResetExit (b : BootInputs)
  /-- RESET_ALIGNMENT (R46): the first RREFCLK edge at or after T_align, at FT `edge` ns. -/
  | resetAlignment (edge : Word)
  /-- READY (R44). -/
  | ready
  /-- PERST_N (R386): it goes low, for `low` ns at least (R482); 1 ms unless said. -/
  | perstN (low : Nat := 1000000)
  /-- FUNCTION_LEVEL_RESET (R386). -/
  | functionLevelReset
  /-- PCIE_LINK_DOWN (R386). -/
  | pcieLinkDown
  /-- D3HOT (R383). -/
  | d3hot
  /-- CONFIGURATION_REQUEST (R467): what it writes, if anything. -/
  | configurationRequest (op : CfgOp := .read)
  /-- CLOCK_LOST (R480). -/
  | clockLost
  /-- VSTBY_REMOVED (R442). -/
  | vstbyRemoved
  /-- SUPPLY (R484): rail index in Table 16.4 order. -/
  | supply (rail : Fin 11)
  /-- EDC_ALERT (R420). -/
  | edcAlert
  /-- PM_ALERT (R477): the STATUS_WORDs read, in regulator address order 0x40–0x4A. -/
  | pmAlert (statusWords : List (BitVec 16))
  /-- FT_PPS_EDGE (R41): local FT of the edge in units of 0.125 ns before PPS_COMP, and the PTP offset from the time
  transmitter as the protocol reports it then, in units of 2^-16 ns, signed (R42). -/
  | ftPpsEdge (stamp : Nat) (ptpOffset : Word)
  /-- HOLDOVER (R41). -/
  | holdover
  /-- FT_UNSYNC (R42). -/
  | ftUnsync
  /-- SYNC_ACQUIRED (R43). -/
  | syncAcquired
  /-- PTP_MESSAGE (R39): port, timestamp in 0.125 ns, the seconds value that the protocol engine draws from it, and the
  delay request that it then sends, if any. -/
  | ptpMessage (port : Port) (stamp : Nat) (seconds : Option Word) (request : Option DelayMech := none)
  /-- PFP_TIME_SEND (R40). -/
  | pfpTimeSend
  /-- FTU_TIME_READ (R35). -/
  | ftuTimeRead
  /-- FTU_CTRL_WRITE (R38): access source (0 PCIe, 1 MCTP, 2 Puppeteer). -/
  | ftuCtrlWrite (src : Fin 3) (v : Word)
  /-- ALARM_FIRE (R47). -/
  | alarmFire (n : AlarmId)
  /-- GATE_CYCLE (R302): alarm `n`'s action takes effect. -/
  | gateCycle (n : AlarmId)
  /-- RING_FETCH (R389). -/
  | ringFetch (n : AlarmId)
  /-- SYNC_SIGNAL (R152). -/
  | syncSignal (n : AlarmId)
  /-- PWR_WAKE (R407). -/
  | pwrWake (n : AlarmId)
  /-- TEST_START (R447). -/
  | testStart (n : AlarmId)
  /-- STEP_START (R193). -/
  | stepStart (n : AlarmId)
  /-- PUP_IRQ (R218). -/
  | pupIrq (n : AlarmId)
  /-- ALU (R211). -/
  | alu (u : ZsUnit) (gd ga gb : GReg) (func : BitVec 9)
  /-- ADDI (R210). -/
  | addi (u : ZsUnit) (gd ga : GReg) (imm : BitVec 14)
  /-- ANDI (R210). -/
  | andi (u : ZsUnit) (gd ga : GReg) (imm : BitVec 14)
  /-- ORI (R210). -/
  | ori (u : ZsUnit) (gd ga : GReg) (imm : BitVec 14)
  /-- XORI (R210). -/
  | xori (u : ZsUnit) (gd ga : GReg) (imm : BitVec 14)
  /-- SHLI (R210). -/
  | shli (u : ZsUnit) (gd ga : GReg) (imm : BitVec 14)
  /-- SHRI (R210). -/
  | shri (u : ZsUnit) (gd ga : GReg) (imm : BitVec 14)
  /-- SHRAI (R210). -/
  | shrai (u : ZsUnit) (gd ga : GReg) (imm : BitVec 14)
  /-- SLTI (R210). -/
  | slti (u : ZsUnit) (gd ga : GReg) (imm : BitVec 14)
  /-- SLTIU (R210). -/
  | sltiu (u : ZsUnit) (gd ga : GReg) (imm : BitVec 14)
  /-- LD8 (R213). -/
  | ld8 (u : ZsUnit) (gd ga : GReg) (imm : BitVec 14)
  /-- LD8U (R213). -/
  | ld8u (u : ZsUnit) (gd ga : GReg) (imm : BitVec 14)
  /-- LD16 (R213). -/
  | ld16 (u : ZsUnit) (gd ga : GReg) (imm : BitVec 14)
  /-- LD16U (R213). -/
  | ld16u (u : ZsUnit) (gd ga : GReg) (imm : BitVec 14)
  /-- LD32 (R213). -/
  | ld32 (u : ZsUnit) (gd ga : GReg) (imm : BitVec 14)
  /-- LD32U (R213). -/
  | ld32u (u : ZsUnit) (gd ga : GReg) (imm : BitVec 14)
  /-- LD64 (R213). -/
  | ld64 (u : ZsUnit) (gd ga : GReg) (imm : BitVec 14)
  /-- ST8 (R213); bits [12:8] name the source register gs. -/
  | st8 (u : ZsUnit) (gs ga : GReg) (imm : BitVec 14)
  /-- ST16 (R213). -/
  | st16 (u : ZsUnit) (gs ga : GReg) (imm : BitVec 14)
  /-- ST32 (R213). -/
  | st32 (u : ZsUnit) (gs ga : GReg) (imm : BitVec 14)
  /-- ST64 (R213). -/
  | st64 (u : ZsUnit) (gs ga : GReg) (imm : BitVec 14)
  /-- BEQ (R214). -/
  | beq (u : ZsUnit) (ga gb : GReg) (off : BitVec 14)
  /-- BNE (R214). -/
  | bne (u : ZsUnit) (ga gb : GReg) (off : BitVec 14)
  /-- BLT (R214). -/
  | blt (u : ZsUnit) (ga gb : GReg) (off : BitVec 14)
  /-- BGE (R214). -/
  | bge (u : ZsUnit) (ga gb : GReg) (off : BitVec 14)
  /-- BLTU (R214). -/
  | bltu (u : ZsUnit) (ga gb : GReg) (off : BitVec 14)
  /-- BGEU (R214). -/
  | bgeu (u : ZsUnit) (ga gb : GReg) (off : BitVec 14)
  /-- JAL (R214). -/
  | jal (u : ZsUnit) (gd : GReg) (imm : BitVec 32)
  /-- JALR (R214). -/
  | jalr (u : ZsUnit) (gd ga : GReg)
  /-- ALUL (R210). -/
  | alul (u : ZsUnit) (gd ga : GReg) (func : BitVec 14) (imm : BitVec 32)
  /-- LI (R210). -/
  | li (u : ZsUnit) (gd : GReg) (imm : BitVec 32)
  /-- LIH (R210). -/
  | lih (u : ZsUnit) (gd ga : GReg) (imm : BitVec 32)
  /-- MFS (R215): core sequencers only (R218). -/
  | mfs (n : CoreId) (gd : GReg) (func : BitVec 9)
  /-- TIME.READ (R216). -/
  | timeRead (u : ZsUnit) (gd gb : GReg)
  /-- STEP.END (R217). -/
  | stepEnd (n : CoreId)
  /-- TRAP (R198): the TRAP instruction of a core. -/
  | trap (n : CoreId)
  /-- NOP (R217). -/
  | nop (u : ZsUnit)
  /-- CSR.R (R218). -/
  | csrR (p : PupId) (gd ga : GReg)
  /-- CSR.W (R218). -/
  | csrW (p : PupId) (ga gb : GReg)
  /-- IRQ.WAIT (R218). -/
  | irqWait (p : PupId) (gd : GReg)
  /-- DMA (R148): the 128-bit descriptor of Table 5.6. -/
  | dma (n : CoreId) (d : BitVec 128)
  /-- DMA_COMPLETION (R150): the core's DMA at place `k` of its engine's queue, the first unless said, finishes. -/
  | dmaCompletion (n : CoreId) (k : Fin 9 := 0)
  /-- MMA (R222): the 128-bit descriptor of Table 8.5. -/
  | mma (n : CoreId) (d : BitVec 128)
  /-- MMA_COMPLETION (R142): the oldest MMA finishes, or, before it does, an interruption of its feed or drain passes 4
  cycles and its completion moves away (R138). -/
  | mmaCompletion (n : CoreId) (held : Option Stretch)
  /-- WLD (R134): the 128-bit descriptor of Table 8.6. -/
  | wld (n : CoreId) (d : BitVec 128)
  /-- WLD_COMPLETION (R224). -/
  | wldCompletion (n : CoreId)
  /-- SWAP (R135). -/
  | swap (n : CoreId)
  /-- VEC (R228): the 128-bit descriptor of Table 8.7. -/
  | vec (n : CoreId) (d : BitVec 128)
  /-- VEC_COMPLETION (R232). -/
  | vecCompletion (n : CoreId)
  /-- CVT (R234): the 128-bit descriptor of Table 8.10. -/
  | cvt (n : CoreId) (d : BitVec 128)
  /-- CVT_COMPLETION (R235). -/
  | cvtCompletion (n : CoreId)
  /-- SYNC_OP_SIGNAL (R237): the 128-bit descriptor of Table 8.11. -/
  | syncOpSignal (n : CoreId) (d : BitVec 128)
  /-- SYNC_OP_ADD (R237). -/
  | syncOpAdd (n : CoreId) (d : BitVec 128)
  /-- SYNC_OP_SET (R237). -/
  | syncOpSet (n : CoreId) (d : BitVec 128)
  /-- SYNC_OP_WAIT (R237). -/
  | syncOpWait (n : CoreId) (d : BitVec 128)
  /-- SYNC_FIRST (R237). -/
  | syncFirst (n : CoreId) (d : BitVec 128)
  /-- SYNC_RELEASE (R201): the oldest held release of each listed core takes effect in one ACLK cycle. -/
  | syncRelease (cores : List CoreId)
  /-- WAIT_WAKE (R153). -/
  | waitWake (w : Waiter)
  /-- SLOT_ENTRY (R193): the logical core begins its SLOT entry for the next token. -/
  | slotEntry (l : LCore)
  /-- STEP_COMPLETION (R194). -/
  | stepCompletion (n : CoreId)
  /-- STEP_TIMEOUT (R197). -/
  | stepTimeout (n : CoreId)
  /-- STEP_RETRY (R195). -/
  | stepRetry (n : CoreId)
  /-- FALU (R241): engine and launch of the flow program. -/
  | falu (e : Engine) (l : Nat) (fd fa fb : FReg) (func : BitVec 14) (imm : BitVec 32)
  /-- FPARAM (R241). -/
  | fparam (e : Engine) (l : Nat) (fd : FReg) (imm : BitVec 32)
  /-- FBR (R241). -/
  | fbr (e : Engine) (l : Nat) (fa fb : FReg) (func : BitVec 14) (imm : BitVec 32)
  /-- FWAIT (R241). -/
  | fwait (e : Engine) (l : Nat) (fa : FReg) (imm : BitVec 32)
  /-- FSIG (R241). -/
  | fsig (e : Engine) (l : Nat) (fa : FReg) (imm : BitVec 32)
  /-- CH_OPEN (R241). -/
  | chOpen (e : Engine) (l : Nat) (fa : FReg)
  /-- CH_CLOSE (R241). `residueOk` is the outcome of the residue checks of a chunk that closes at once (R111). -/
  | chClose (e : Engine) (l : Nat) (fa : FReg) (residueOk : Bool)
  /-- CH_DOWN (R241). -/
  | chDown (e : Engine) (l : Nat) (fa : FReg)
  /-- GA_SRC (R241). -/
  | gaSrc (e : Engine) (l : Nat) (fa : FReg)
  /-- GA_FWD (R241). -/
  | gaFwd (e : Engine) (l : Nat) (fa : FReg)
  /-- HH_LEAF (R118). -/
  | hhLeaf (e : Engine) (l : Nat) (fa fb : FReg)
  /-- HH_FINAL (R118). -/
  | hhFinal (e : Engine) (l : Nat) (fb : FReg)
  /-- ST_FINAL (R115). -/
  | stFinal (e : Engine) (l : Nat)
  /-- FEND (R241). -/
  | fend (e : Engine) (l : Nat)
  /-- COLL (R106): the front entry of a command ring. -/
  | coll (r : RingId)
  /-- LAUNCH_ADMIT (R110). -/
  | launchAdmit (l : Nat)
  /-- GAP_TIMER_EXPIRY (R107): conflict-set slot in RED_CSET_NEXT. -/
  | gapTimerExpiry (cset : Fin 1024)
  /-- DATA_TIMEOUT (R124). -/
  | dataTimeout (l : Nat)
  /-- ENGINE_FENCE (R113). -/
  | engineFence (e : Engine)
  /-- GROUP_REG (R95): the group map read from host memory, as 32-bit words; none when the read fails. -/
  | groupReg (r : RingId) (block : Option (List (BitVec 32)))
  /-- GROUP_DEREG (R392). -/
  | groupDereg (r : RingId)
  /-- PACKET_FORWARD (R250). -/
  | packetForward (src : PktSrc) (p : Packet)
  /-- DATA_PACKET (R250): the local packet of this number. -/
  | dataPacket (k : Nat)
  /-- COLL_PACKET (R99). `residueOk` is the outcome of the engine's residue checks (R111). -/
  | collPacket (k : Nat) (residueOk : Bool)
  /-- SLOT_PACKET (R250). -/
  | slotPacket (k : Nat)
  /-- RADD (R154). -/
  | radd (k : Nat)
  /-- CTRL_PACKET (R250). -/
  | ctrlPacket (k : Nat) (c : CtrlContent)
  /-- TIME_PACKET (R40): direction, neighbour's offset with the link delay removed. -/
  | timePacket (k : Nat) (dir : Fin 6) (offset : Word)
  /-- MGMT_PACKET (R250). -/
  | mgmtPacket (k : Nat)
  /-- REFUSE_PACKET (R250). -/
  | refusePacket (k : Nat)
  /-- PACKET_TRANSMIT (R298). -/
  | packetTransmit (port : Port)
  /-- BUFFER_GRANT (R261): die, pool and requester. -/
  | bufferGrant (d : Die) (pool : Fin 3) (r : Fin 37)
  /-- FENCE_HOLD_EXPIRY (R282). -/
  | fenceHoldExpiry (k : Nat)
  /-- STREAM_ENTRY_CLOSE (R283). -/
  | streamEntryClose (d : Die) (st : Stream)
  /-- EOP (R324): the word, and whether LCRC and every codeword held. -/
  | eop (port : Port) (w : Word) (seq : BitVec 12) (rx : Reception)
  /-- IDLE (R323). -/
  | idle (port : Port) (w : Word)
  /-- INIT (R331). -/
  | init (port : Port) (w : Word)
  /-- LPI (R412). -/
  | lpi (port : Port) (w : Word)
  /-- REPLAY_TIMEOUT (R324). -/
  | replayTimeout (port : Port)
  /-- LINK_DOWN (R326). -/
  | linkDown (port : Port)
  /-- LINK_TRAINING_DONE (R329). -/
  | linkTrainingDone (port : Port) (ok reversed : Bool)
  /-- PORT_FAILED (R326). -/
  | portFailed (port : Port)
  /-- REHASH (R279). -/
  | rehash (port : Port)
  /-- LOSS_LIMIT (R296). -/
  | lossLimit
  /-- OPTICAL_FAULT (R322). -/
  | opticalFault (site : Fin 16) (temp : Byte)
  /-- CONTROL_FRAME (R342). -/
  | controlFrame (port : Port)
  /-- ETHERNET_FRAME (R343). -/
  | ethernetFrame (port : Port) (f : EthFrame)
  /-- DISCOVERY_STATEMENT (R334). -/
  | discoveryStatement (port : Port) (st : Statement) (challenge : BitVec 128)
  /-- LINK_PROOF (R334). -/
  | linkProof (port : Port)
  /-- VERIFICATION_COMPLETE (R458): the SEC unit finishes the object at the front of its work. `proofOk`
  is the RSA-3072 check of a link proof, or of a KV6's legacy identity (R335). -/
  | verificationComplete (c : SigCheck) (proofOk : Bool)
  /-- DISCOVERY_TIMEOUT (R336). -/
  | discoveryTimeout (port : Port)
  /-- GATE_ENTRY_BOUNDARY (R301). -/
  | gateEntryBoundary (port : Port)
  /-- THROTTLE_EVALUATION (R312). -/
  | throttleEvaluation (port : Port)
  /-- TELEMETRY_SAMPLE (R313): whether the sample before it is not yet fully written. -/
  | telemetrySample (late : Bool := false)
  /-- TSC_TEL_CTRL_WRITE (R313). -/
  | tscTelCtrlWrite (src : Fin 3) (v : Word)
  /-- MEM_REREAD (R357): the word's address, whether the re-read passes, and who read. -/
  | memReread (addr : BitVec 48) (passes : Bool) (reader : MemReader)
  /-- SCRUB_READ (R358): device address of a tier word, and whether its code holds. -/
  | scrubRead (addr : BitVec 48) (codeOk : Bool) (lastOfPass : Bool)
  /-- WINDOW_LOST (R359). -/
  | windowLost (d : Die) (tier : Fin 3)
  /-- CXL_LINK_DOWN (R354). -/
  | cxlLinkDown (d : Die)
  /-- BAR2_READ (R385). -/
  | bar2Read (off : BitVec 38) (n : Nat)
  /-- BAR2_WRITE (R356). -/
  | bar2Write (off : BitVec 38) (bytes : List Byte)
  /-- PERIODIC_FETCH (R389). -/
  | periodicFetch (r : RingId)
  /-- FETCH_AT_POINT (R389). -/
  | fetchAtPoint (r : RingId)
  /-- FETCH_COMPLETION (R390): the TAIL read, and the entries from HEAD on that host memory holds. -/
  | fetchCompletion (r : RingId) (tail : BitVec 32) (entries : List (List Word))
  /-- NOP_COMMAND (R392). -/
  | nopCommand (r : RingId)
  /-- FETCH_AT (R389). -/
  | fetchAt (r : RingId)
  /-- PLAN (R461): the plan read from host memory and the outcome of its check; none when the read fails. -/
  | plan (r : RingId) (body : Option (Plan × SigCheck))
  /-- JOB_ADMIT (R392): the admission block, as 64-bit words; none when the read fails. -/
  | jobAdmit (r : RingId) (block : Option (List Word))
  /-- JOB_END (R392). -/
  | jobEnd (r : RingId)
  /-- LOAD (R191): the image as 64-bit words (for a host image), the signatures' outcome for a FLOW image,
  the OP codes a FLOW image names, and where its relocation records place the data section. -/
  | load (r : RingId) (image : Option (List Word)) (sig : SigCheck) (flowOps : BitVec 6)
      (relocs : List (BitVec 48 × Nat × Nat))
  /-- PROV (R371): the request read from host memory; none when the read fails. -/
  | prov (r : RingId) (req : Option (List Word))
  /-- PROV_RECORD_WRITE (R374): the 32-byte roots read for the HOST_ROOT spans, in order. -/
  | provRecordWrite (roots : List (Option (BitVec 256)))
  /-- PROV_WAIT_TIMEOUT (R376). -/
  | provWaitTimeout
  /-- QUIESCE (R397). -/
  | quiesce (r : RingId)
  /-- QUIESCED (R397). -/
  | quiesced (qid : Fin 64)
  /-- DRAIN_TIMEOUT (R397). -/
  | drainTimeout (qid : Fin 64)
  /-- RESTART (R399). -/
  | restart (r : RingId)
  /-- RESTART_FT (R400): of the RESTART that names this QID. -/
  | restartFt (qid : Fin 64)
  /-- RESERVED_COMMAND (R392). -/
  | reservedCommand (r : RingId)
  /-- CQ_FULL_POLL (R395): the HEAD that host memory holds. -/
  | cqFullPoll (q : RingId) (head : BitVec 32)
  /-- HOLDOFF_EXPIRY (R396). -/
  | holdoffExpiry (q : RingId)
  /-- REGISTER_WRITE (R13): source, address (a BAR0 offset from PCIe, a CSR offset otherwise), value, and the
  W1C bits that hardware sets in the same cycle (R402). -/
  | registerWrite (src : Fin 3) (addr : Word) (v : Word) (hwSet : Word)
  /-- FLT_ACK (R431). -/
  | fltAck (src : Fin 3) (v : Word)
  /-- FLT_FORCE (R434). -/
  | fltForce (n : Fin 192) (v : Word)
  /-- FLT_RETURN (R450). -/
  | fltReturn (v : Word)
  /-- UNSEAL (R443). -/
  | unseal
  /-- FLT_BB_DATA_READ (R440). -/
  | fltBbDataRead
  /-- ATTESTATION_REQUEST (R470). -/
  | attestationRequest
  /-- ATTESTATION_SIGNED (R470): the random bytes that the two signatures take. -/
  | attestationSigned (random : List Byte)
  /-- SEC_ATT_DATA_READ (R471). -/
  | secAttDataRead
  /-- BOOT_GO (R463). -/
  | bootGo
  /-- PCIE_BOOT_VERIFY_DONE (R463). -/
  | pcieBootVerifyDone (img : BundleImage) (c : SigCheck) (b : BootInputs)
  /-- PWR_CTRL_WRITE (R423). -/
  | pwrCtrlWrite (src : Fin 3) (v : Word)
  /-- MCTP_CSR_READ (R404). -/
  | mctpCsrRead (off : Word) (via : MctpTo := ⟨false, 0⟩)
  /-- MCTP_CSR_WRITE (R404). -/
  | mctpCsrWrite (off : Word) (v : Word) (hwSet : Word) (via : MctpTo := ⟨false, 0⟩)
  /-- MCTP_BLACK_BOX_READ (R440): requester's endpoint ID, first offset, 8-byte words to read. -/
  | mctpBlackBoxRead (eid : Byte) (off : BitVec 24) (words : Nat) (via : MctpTo := ⟨false, 0⟩)
  /-- OWNER_SET (R461): the record, what the arithmetic finds of its signatures, and whether its certificate's signatures hold
  under the keys of the record's own root, and under those of the current owner's root. -/
  | ownerSet (record : Signed) (c : SigCheck) (byOwnRoot byOwner : Bool)
  /-- PLDM_FIRMWARE_UPDATE (R464). -/
  | pldmFirmwareUpdate (img : BundleImage) (c : SigCheck)
  /-- PLDM_MONITORING (R404): sensor or rail read, or that of an HBM stack's temperature. -/
  | pldmMonitoring (rail : Bool) (k : Fin 64) (stack : Option (Fin 8) := none)
  /-- ENTDAA (R403). -/
  | entdaa (addr : BitVec 7)
  /-- SENSOR_SAMPLE (R422): the readings of sensors 0 to 59, signed, 0.25 °C. -/
  | sensorSample (temps : List (BitVec 16))
  /-- HBM_TEMPERATURE_REPORT (R422): stack and temperature. -/
  | hbmTemperatureReport (stack : Fin 8) (temp : BitVec 16)
  /-- THERMAL_FAULT (R422). -/
  | thermalFault (sensor : Fin 60)
  /-- POWER_LEVEL_STEP (R420): whether the step that comes due is a rise or a fall, and its FT in ns. -/
  | powerLevelStep (up : Bool) (at_ : Word)
  /-- THERMAL_LEVEL_STEP (R421). -/
  | thermalLevelStep (d : Die)
  /-- VCORE_TELEMETRY (R418): mV and A; none where the stage does not answer the read. -/
  | vcoreTelemetry (milliVolt amps : Option (BitVec 16))
  /-- REGULATOR_POLL (R418): rail and reading; none when it does not answer. -/
  | regulatorPoll (rail : Fin 11) (reading : Option RailReading)
  /-- REGULATOR_NO_ANSWER (R418). -/
  | regulatorNoAnswer (rail : Fin 11)
  /-- WAKE_COMPLETE (R407): with the cores whose WAKE kernel failed (R415). -/
  | wakeComplete (u : DomainId) (kernelFails : List CoreId)
  /-- HALT (R441): source, cause and detail of a HALT cause. -/
  | halt (source : Fin 192) (cause : Byte) (detail : BitVec 32)
  /-- SEALED (R441): black-box cells (MRAM offsets / 8) that fail from now on (R436). -/
  | sealed (worn : List Nat)
  /-- HISTORY_RECORD (R439): cells that fail from now on. -/
  | historyRecord (worn : List Nat)
  /-- PUP_FAIL (R429). -/
  | pupFail (p : PupId)
  /-- MESH_RETRY (R429): pair link 0–5 or hub link 6–9. -/
  | meshRetry (link : Fin 10)
  /-- MESH_DOWN (R429). -/
  | meshDown (link : Fin 10)
  /-- TEST_DUE (R447). -/
  | testDue (n : CoreId)
  /-- TEST_LATE (R447). -/
  | testLate (n : CoreId)
  /-- KNOWN_ANSWER_RESULT (R448): unit 0–79 a core, 80–95 an engine; whether the digest matched. -/
  | knownAnswerResult (u : Fin 96) (passed : Bool)
  /-- OBSERVATION_END (R449). -/
  | observationEnd (n : CoreId)
  /-- SPARE_SWAP (R156). -/
  | spareSwap (l : LCore)
  /-- SWAP_COMPLETE (R156). -/
  | swapComplete (c : Cluster) (copyOk : Bool)
  /-- SIGNAL_DETECT (R413). -/
  | signalDetect (b : Bundle)
  /-- OPT_FAULT_CLEARED (R322). -/
  | optFaultCleared (site : Fin 16)
  /-- DOMAIN_ENTRY_COMPLETE (R407). -/
  | domainEntryComplete (u : DomainId)
  /-- SNAPSHOT_WRITTEN (R438). -/
  | snapshotWritten
  /-- LINK_PROOF_SIGNED (R335). -/
  | linkProofSigned (port : Port)
  /-- PERST_N_RELEASE (R482). -/
  | perstNRelease
  /-- PCIE_LINK_UP (R467). -/
  | pcieLinkUp
  /-- TEST_ACCESS_PORT (R487). -/
  | testAccessPort (op : TapOp)
  /-- LPI_HOLD_SEND (R412). -/
  | lpiHoldSend (port : Port)
  /-- POLICER_TOKENS_RETURN (R253). -/
  | policerTokensReturn (port : Port) (v : Vc)
  /-- POWER_ON (R417): the board has raised the rails. -/
  | powerOn
deriving DecidableEq, Repr

end Sys2Proof
end

