-- ==== Sys2Proof/Machine/Bits.lean ====
section
/-! DEFINITION. Bit fields, sign extension, byte order and saturating counts (R9, R12 and the tables'
"bits [hi:lo]"). -/
namespace Sys2Proof.Machine

/-- A field of a word: its lowest bit and its width. -/
structure Fld where
  lo : Nat
  w : Nat
deriving DecidableEq, Repr

/-- The value of a field. -/
def fget (f : Fld) (x : Word) : Nat := (x.toNat >>> f.lo) % 2 ^ f.w

/-- The word with a field replaced. -/
def fset (f : Fld) (x : Word) (v : Nat) : Word :=
  let m : Word := BitVec.ofNat 64 ((2 ^ f.w - 1) <<< f.lo)
  (x &&& ~~~m) ||| BitVec.ofNat 64 ((v % 2 ^ f.w) <<< f.lo)

/-- Bits [hi:lo] of a natural number. -/
def bits (x hi lo : Nat) : Nat := (x >>> lo) % 2 ^ (hi + 1 - lo)

/-- Bit `i` of a natural number. -/
def bit (x i : Nat) : Bool := (x >>> i) % 2 == 1

/-- A field of a descriptor of any width, as a bit vector. -/
def ext {n : Nat} (x : BitVec n) (lo w : Nat) : BitVec w := BitVec.extractLsb' lo w x

/-- Sign-extend to 64 bits. -/
def sext {n : Nat} (x : BitVec n) : Word := x.signExtend 64

/-- Zero-extend to 64 bits. -/
def zext {n : Nat} (x : BitVec n) : Word := x.setWidth 64

/-- 1 for true, 0 for false. -/
def b2w (b : Bool) : Word := if b then 1 else 0

/-- 1 for true, 0 for false. -/
def b2n (b : Bool) : Nat := if b then 1 else 0

/-- Saturating add in `w` bits. -/
def satAdd (w a b : Nat) : Nat := min (a + b) (2 ^ w - 1)

/-- Clamp to a range. -/
def clamp (lo hi x : Nat) : Nat := max lo (min hi x)

/-- The bytes of `n`-byte little-endian value (R9). -/
def toBytes : Nat → Nat → List Byte
  | 0, _ => []
  | n + 1, x => BitVec.ofNat 8 x :: toBytes n (x / 256)

/-- The value of little-endian bytes (R9). -/
def ofBytes : List Byte → Nat
  | [] => 0
  | b :: bs => b.toNat + 256 * ofBytes bs

/-- Signed value of a `w`-bit field held as a natural number. -/
def signed (w x : Nat) : Int := if x % 2 ^ w < 2 ^ (w - 1) then (x % 2 ^ w : Nat) else (x % 2 ^ w : Nat) - (2 ^ w : Nat)

/-- Two's complement of an integer in `w` bits, as a natural number. -/
def unsigned (w : Nat) (x : Int) : Nat := (x % (2 ^ w : Nat)).toNat

/-- Ceiling division. -/
def cdiv (a b : Nat) : Nat := (a + b - 1) / b

/-- Words as little-endian bytes. -/
def wordsToBytes : List Word → List Byte
  | [] => []
  | w :: ws => toBytes 8 w.toNat ++ wordsToBytes ws

/-- The `i`-th word of a list, 0 past its end. -/
def wordAt (l : List Word) (i : Nat) : Word := l.getD i 0

/-- The 64-bit words of a little-endian byte list; the last is padded with zeros. -/
def bytesToWords : Nat → List Byte → List Word
  | 0, _ => []
  | n + 1, bs => BitVec.ofNat 64 (ofBytes (bs.take 8)) :: bytesToWords n (bs.drop 8)

end Sys2Proof.Machine
end

