-- ==== Sys2Proof/Machine/Digest.lean ====
section
/-! DEFINITION. The two check functions the spec names by their standards: CRC-32C (R245) and SHA3-256 (FIPS 202). -/
namespace Sys2Proof.Machine

/-- Eight steps of the reflected CRC-32C register (structural in the step count). -/
def crcBits : Nat → BitVec 32 → BitVec 32
  | 0, c => c
  | k + 1, c => crcBits k (if c.getLsbD 0 then (c >>> 1) ^^^ 0x82F63B78#32 else c >>> 1)

/-- The register after a byte list. -/
def crcBytes : List Byte → BitVec 32 → BitVec 32
  | [], c => c
  | b :: bs, c => crcBytes bs (crcBits 8 (c ^^^ b.setWidth 32))

/-- CRC-32C of R245. -/
def crc32c (bs : List Byte) : BitVec 32 := ~~~(crcBytes bs 0xFFFFFFFF#32)

/-! SHA3-256 (FIPS 202, Keccak-f[1600]). Lane (x, y) of the state is element x + 5y of a 25-word list. The offsets
of ρ and the constants of ι are computed by the walk and the shift register that define them. -/

/-- Lane `i`. -/
def lane (a : List Word) (i : Nat) : Word := a.getD i 0

/-- The walk of ρ from (x, y), at its step `t`: the rotation of the lane that it visits, 0 where it never comes. -/
def rhoWalk : Nat → Nat → Nat → Nat → Nat → Nat
  | 0, _, _, _, _ => 0
  | fuel + 1, t, x, y, i => if i = x + 5 * y then (t + 1) * (t + 2) / 2 % 64 else rhoWalk fuel (t + 1) y ((2 * x + 3 * y) % 5) i

/-- Rotation of every lane. -/
def rhoTable : List Nat := (List.range 25).map (rhoWalk 24 0 1 0)

/-- XOR of the column of lane `i`. -/
def columnSum (a : List Word) (i : Nat) : Word := (List.range 5).foldl (fun w y => w ^^^ lane a (i % 5 + 5 * y)) 0

/-- θ, ρ and π together: lane (x, y) of the result is a rotated lane `j` with its two neighbour columns added. -/
def mixLanes (a : List Word) : List Word :=
  let c := (List.range 5).map (columnSum a)
  (List.range 25).map (fun i =>
    let j := (i % 5 + 3 * (i / 5)) % 5 + 5 * (i % 5)
    (lane a j ^^^ lane c ((j + 4) % 5) ^^^ (lane c ((j + 1) % 5)).rotateLeft 1).rotateLeft (rhoTable.getD j 0))

/-- χ: in each row, a lane takes the complement of the next lane AND the one after it. -/
def chiRows : List Word → List Word
  | p :: q :: r :: s :: t :: rest =>
    (p ^^^ (~~~q &&& r)) :: (q ^^^ (~~~r &&& s)) :: (r ^^^ (~~~s &&& t)) :: (s ^^^ (~~~t &&& p)) :: (t ^^^ (~~~p &&& q))
      :: chiRows rest
  | _ => []

/-- One shift of the register of ι, over x^8 + x^6 + x^5 + x^4 + 1. -/
def iotaShift (r : Byte) : Byte := (r <<< 1) ^^^ (if r.getLsbD 7 then 0x71#8 else 0#8)

/-- The register's next bits, placed at bit positions of a lane: the register and the lane after them. -/
def iotaBits : List Nat → Byte → Word → Byte × Word
  | [], r, w => (r, w)
  | k :: ks, r, w => iotaBits ks (iotaShift r) (w ^^^ ((r &&& 1#8).setWidth 64 <<< k))

/-- Rounds, with the register of ι. -/
def keccakRounds : Nat → Byte → List Word → List Word
  | 0, _, a => a
  | n + 1, r, a =>
    let (r, c) := iotaBits [0, 1, 3, 7, 15, 31, 63] r 0
    keccakRounds n r ((chiRows (mixLanes a)).modifyHead (· ^^^ c))

/-- Keccak-f[1600]: 24 rounds. -/
def keccakF (a : List Word) : List Word := keccakRounds 24 1 a

/-- XOR a block of 17 words into the state. -/
def absorb (a block : List Word) : List Word :=
  (List.range 25).map (fun i => if i < 17 then lane a i ^^^ lane block i else lane a i)

/-- Absorb `n` blocks of 136 bytes. -/
def spongeIn : Nat → List Byte → List Word → List Word
  | 0, _, a => a
  | n + 1, bs, a => spongeIn n (bs.drop 136) (keccakF (absorb a (bytesToWords 17 (bs.take 136))))

/-- The padded message of SHA3: domain bits 01, then 10*1. -/
def sha3Pad (bs : List Byte) : List Byte :=
  let p := 136 - bs.length % 136
  if p = 1 then bs ++ [0x86#8] else bs ++ [0x06#8] ++ List.replicate (p - 2) 0#8 ++ [0x80#8]

/-- SHA3-256; digest byte 0 stands in bits [7:0]. (PRESUMED, log entry 61.) -/
def sha3 (bs : List Byte) : BitVec 256 :=
  let a := spongeIn (bs.length / 136 + 1) (sha3Pad bs) (List.replicate 25 0)
  lane a 3 ++ lane a 2 ++ lane a 1 ++ lane a 0

/-- The bytes of a digest. -/
def digestBytes (d : BitVec 256) : List Byte := toBytes 32 d.toNat

/-- Word `i` of a digest, digest bytes 8i to 8i + 7. -/
def digestWord (d : BitVec 256) (i : Nat) : Word := ext d (64 * i) 64

end Sys2Proof.Machine
end

