-- ==== Sys2Proof/Config.lean ====
section
/-! DEFINITION. What one part fixes and what the spec leaves open. Each value the spec leaves open is an opaque
constant: nothing in Lean can evaluate it, so a theorem about it holds whatever it is. -/
namespace Sys2Proof

/-- The free value number `n` of a run: a result that the spec leaves open. The state counts how many a run
has used (`State.free`), and each use takes the next number. -/
opaque Config.freeWord : Nat → Word

/-- A byte of tier 2 that nothing has written since power-on (R361), by device address. -/
opaque Config.tier2Byte : Nat → Byte

/-- The public halves of the part's device keys (R454). The spec gives no part's keys. (DESIGN CHOICE, log entry 56.) -/
opaque Config.deviceRsa : BitVec 3072
opaque Config.deviceSlh : BitVec 512

/-- The root key that the SEC unit reconstructs from the PUF's power-up state with the helper data (R453); the spec does not
give the code. (DESIGN CHOICE, log entry 5.) -/
opaque Config.pufRoot : List Byte → List Byte → BitVec 256

/-- The private halves of the device keys, RSA and SLH-DSA, that AES-256-GCM unwraps with a wrapping key (R454). (DESIGN
CHOICE, log entry 5.) -/
opaque Config.unwrapKeys : BitVec 256 → List Byte → List Byte × List Byte

/-- The RSA-3072 PSS and the SLH-DSA signature of a message with a private key and random bytes (R456). (DESIGN CHOICE, log
entry 5.) -/
opaque Config.rsaSign : List Byte → List Byte → List Byte → BitVec 3072
opaque Config.slhSign : List Byte → List Byte → List Byte → BitVec 238336

/-- Digest of this device's discovery statement, whose body the spec does not lay out (R334). (DESIGN CHOICE, log entry 91.) -/
opaque Config.statementDigest : OwnStatement → BitVec 256

/-- The 32-bit IDCODE of the test access port (R487). The spec gives no value. -/
opaque Config.idcode : BitVec 32

/-- Fjarestan's MIPI manufacturer ID in the provisioned ID of the I3C target (R403). -/
opaque Config.mipiId : BitVec 16

/-- The servo's filtered offset, from its samples since it took its source, newest first (R42). The spec does not give the
filter. (DESIGN CHOICE, log entry 76.) -/
opaque Config.servoFilter : List Word → Word

/-- The planned offset from ENTRY_FT of a slot's input, by job and slot, if the job's schedule gives one (R169). The
spec does not say where the offset stands. (DESIGN CHOICE, log entry 57.) -/
opaque Config.stageOffset : Nat → Nat → Option Nat

end Sys2Proof
end

