-- ==== Sys2Proof/Machine/NumFmt.lean ====
section
/-! DEFINITION. Number formats, rounding and conversion (R55–R77, R81, R212, R229–R231): every value is handled
exactly, as a dyadic number, and rounded once. -/
namespace Sys2Proof.Machine

/-- The exception flags of Table 3.8. -/
structure Fl where
  invalid : Bool := false
  overflow : Bool := false
  underflow : Bool := false
  denorm : Bool := false
  inexact : Bool := false
deriving DecidableEq, Repr

/-- No flag. -/
def Fl.none : Fl := {}

/-- Flags of two events together. -/
def Fl.or (a b : Fl) : Fl :=
  ⟨a.invalid || b.invalid, a.overflow || b.overflow, a.underflow || b.underflow,
   a.denorm || b.denorm, a.inexact || b.inexact⟩

/-- Rounding modes (R62). -/
inductive RMode where
  | rne | rz | sr
deriving DecidableEq, Repr

/-- An exact value: NaN, an infinity, or (−1)^neg × (m + δ) × 2^e with 0 < δ < 1 when `st` is set, δ = 0
otherwise. -/
inductive Num where
  | nan
  | inf (neg : Bool)
  | fin (neg : Bool) (m : Nat) (e : Int) (st : Bool)
deriving DecidableEq, Repr

/-- Exponent bits, mantissa bits and bias of a floating-point format (Table 3.2); `kind`: 0 with infinities,
1 E4M3, 2 every code finite. -/
structure FFmt where
  eb : Nat
  mb : Nat
  bias : Nat
  kind : Nat
deriving DecidableEq, Repr

/-- Floating-point format of a code of Table 3.1. -/
def ffmt (code : Nat) : Option FFmt :=
  match code with
  | 0 => some ⟨8, 23, 127, 0⟩
  | 1 => some ⟨8, 7, 127, 0⟩
  | 2 => some ⟨5, 10, 15, 0⟩
  | 3 => some ⟨4, 3, 7, 1⟩
  | 4 => some ⟨5, 2, 15, 0⟩
  | 5 => some ⟨3, 2, 3, 2⟩
  | 6 => some ⟨2, 3, 1, 2⟩
  | 7 => some ⟨2, 1, 1, 2⟩
  | _ => none

/-- Width and signedness of an integer code (R60). -/
def ifmt (code : Nat) : Option (Nat × Bool) :=
  match code with
  | 8 => some (32, true)
  | 9 => some (8, true)
  | 10 => some (8, false)
  | 11 => some (4, true)
  | 12 => some (4, false)
  | _ => none

/-- Width in bits of a format code (Table 3.1). -/
def fmtWidth (code : Nat) : Nat :=
  match code with
  | 0 => 32 | 1 => 16 | 2 => 16 | 3 => 8 | 4 => 8 | 5 => 6 | 6 => 6 | 7 => 4 | 8 => 32 | 9 => 8 | 10 => 8
  | 11 => 4 | 12 => 4 | 13 => 8 | 14 => 96 | _ => 320

/-- `m × 2^s` for a shift of either sign, rounded down. -/
def shl (m : Nat) (s : Int) : Nat := if 0 ≤ s then m <<< s.toNat else m >>> (-s).toNat

/-- Whether m × 2^e ≥ t × 2^k. -/
def geScaled (m : Nat) (e : Int) (t : Nat) (k : Int) : Bool :=
  if k ≤ e then decide (t ≤ m <<< (e - k).toNat) else decide (t <<< (k - e).toNat ≤ m)

/-- Mantissa field of the largest finite value. -/
def FFmt.maxM (f : FFmt) : Nat := if f.kind = 1 then 2 ^ f.mb - 2 else 2 ^ f.mb - 1
/-- Exponent field of the largest finite value. -/
def FFmt.maxE (f : FFmt) : Nat := if f.kind = 0 then 2 ^ f.eb - 2 else 2 ^ f.eb - 1
/-- Significand of the largest finite value, in units of its last place. -/
def FFmt.topN (f : FFmt) : Nat := 2 ^ f.mb + f.maxM
/-- Exponent of one unit in the last place at the largest finite value. -/
def FFmt.topQ (f : FFmt) : Int := (f.maxE : Int) - f.bias - f.mb
/-- Exponent of the smallest normal value. -/
def FFmt.emin (f : FFmt) : Int := 1 - (f.bias : Int)
/-- Code of the largest finite value. -/
def FFmt.maxCode (f : FFmt) : Nat := f.maxE <<< f.mb + f.maxM
/-- Code of +∞ of a format that has it. -/
def FFmt.infCode (f : FFmt) : Nat := (2 ^ f.eb - 1) <<< f.mb
/-- Canonical NaN (Table 3.2); +0 for a format without NaN (R70). -/
def FFmt.nanCode (f : FFmt) : Nat :=
  if f.kind = 0 then f.infCode + 2 ^ (f.mb - 1) else if f.kind = 1 then 2 ^ (f.eb + f.mb) - 1 else 0
/-- Sign bit in place. -/
def FFmt.sign (f : FFmt) (neg : Bool) : Nat := if neg then 2 ^ (f.eb + f.mb) else 0

/-- The value of a floating-point code, and whether R59 flushed it (FP32 subnormals). -/
def decodeF (f : FFmt) (c : Nat) : Num × Bool :=
  let m := c % 2 ^ f.mb
  let e := (c >>> f.mb) % 2 ^ f.eb
  let neg := bit c (f.eb + f.mb)
  if f.kind = 0 ∧ e = 2 ^ f.eb - 1 then (if m = 0 then .inf neg else .nan, false)
  else if f.kind = 1 ∧ e = 2 ^ f.eb - 1 ∧ m = 2 ^ f.mb - 1 then (.nan, false)
  else if e = 0 then
    if f.mb = 23 then (.fin neg 0 0 false, decide (m ≠ 0))
    else (.fin neg m (f.emin - f.mb) false, false)
  else (.fin neg (2 ^ f.mb + m) ((e : Int) - f.bias - f.mb) false, false)

/-- The value of a code of any of the formats 0x0–0xC, with its flush flag. -/
def decodeNum (code c : Nat) : Num × Fl :=
  match ffmt code with
  | some f => let (v, fl) := decodeF f c; (v, { denorm := fl })
  | none =>
    match ifmt code with
    | some (w, sg) =>
      let v : Int := if sg then signed w c else ((c % 2 ^ w : Nat) : Int)
      (.fin (decide (v < 0)) v.natAbs 0 false, .none)
    | none => (.nan, .none)

/-- R63, R64: round (m + δ) at a quantum `s` bits above its last bit; the integer and whether it is inexact. -/
def roundAt (mode : RMode) (u : BitVec 32) (m : Nat) (st : Bool) (s : Nat) : Nat × Bool :=
  let n := m >>> s
  let r := m % 2 ^ s
  let inexact := decide (r ≠ 0) || st
  let up := match mode with
    | .rne => decide (2 ^ s < 2 * r) || (decide (2 * r = 2 ^ s) && decide (s ≠ 0) && (st || n % 2 == 1))
    | .rz => false
    | .sr => inexact && decide (2 ^ 32 ≤ (r <<< 32) >>> s + u.toNat)
  (if up then n + 1 else n, inexact)

/-- Result code of an overflow (R66, R68). -/
def overflowCode (f : FFmt) (neg : Bool) (mode : RMode) (sat : Bool) : Nat :=
  f.sign neg +
    (if mode = .rz ∨ sat = true ∨ f.kind = 2 then f.maxCode
     else if f.kind = 1 then 0 else f.infCode)

/-- R66: an overflow without saturation gives the canonical NaN in E4M3, whatever the sign. -/
def overflowResult (f : FFmt) (neg : Bool) (mode : RMode) (sat : Bool) : Nat :=
  if f.kind = 1 ∧ mode ≠ .rz ∧ sat = false then f.nanCode else overflowCode f neg mode sat

/-- A finite value rounded once into a floating-point format (R59, R63–R68). A flushed FP32 result counts as INEXACT
though the subnormal would have been exact. (DESIGN CHOICE, log entry 75.) -/
def encodeFin (f : FFmt) (mode : RMode) (sat : Bool) (u : BitVec 32) (neg : Bool) (m : Nat) (e : Int) (st : Bool) :
    Nat × Fl :=
  if m = 0 ∧ st = false then (f.sign neg, .none)
  else
    let lead : Int := (Nat.log2 m : Int) + e
    let q : Int := max (lead - f.mb) (f.emin - f.mb)
    let m' := if e < q then m else m <<< (e - q).toNat
    let s := if e < q then (q - e).toNat else 0
    let (n, inexact) := roundAt mode u m' st s
    let ovf := match mode with
      | .rne => geScaled m e (2 * f.topN + 1) (f.topQ - 1)
      | .rz => geScaled m e (f.topN + 1) f.topQ
      | .sr => geScaled n q (f.topN + 1) f.topQ
    let clampRz := decide (mode = .rz) && geScaled n q (f.topN + 1) f.topQ
    if ovf || clampRz then
      (overflowResult f neg mode sat, { overflow := ovf, inexact := true })
    else
      let tiny := decide (lead < f.emin)
      if f.mb = 23 ∧ n ≠ 0 ∧ n < 2 ^ f.mb then
        (f.sign neg, { denorm := true, underflow := true, inexact := true })
      else
        (f.sign neg + (((q - (f.emin - f.mb)).toNat <<< f.mb) + n),
          { inexact := inexact, underflow := inexact && tiny })

/-- A value converted to a floating-point format (R66–R70). (DEDUCED, log entry 62.) -/
def encodeF (f : FFmt) (mode : RMode) (sat : Bool) (u : BitVec 32) (v : Num) : Nat × Fl :=
  match v with
  | .nan => (f.nanCode, { invalid := decide (f.kind = 2) })
  | .inf neg =>
    if f.kind = 0 then (f.sign neg + f.infCode, .none)
    else (overflowResult f neg .rne sat, { invalid := true })
  | .fin neg m e st => encodeFin f mode sat u neg m e st

/-- A value converted to an integer format (R71). A saturated value counts as INEXACT only where its rounding dropped
bits. (DESIGN CHOICE, log entry 75.) -/
def encodeI (w : Nat) (sg : Bool) (mode : RMode) (u : BitVec 32) (v : Num) : Nat × Fl :=
  let lo : Int := if sg then -(2 ^ (w - 1) : Int) else 0
  let hi : Int := if sg then 2 ^ (w - 1) - 1 else 2 ^ w - 1
  match v with
  | .nan => (0, { invalid := true })
  | .inf neg => (unsigned w (if neg then lo else hi), { invalid := true })
  | .fin neg m e st =>
    let (n, inexact) := if 0 ≤ e then (m <<< e.toNat, st) else roundAt mode u m st (-e).toNat
    let x : Int := if neg then -(n : Int) else n
    if x < lo then (unsigned w lo, { overflow := true, inexact := inexact })
    else if hi < x then (unsigned w hi, { overflow := true, inexact := inexact })
    else (unsigned w x, { inexact := inexact })

/-- A value written in format `code`. -/
def encodeNum (code : Nat) (mode : RMode) (sat : Bool) (u : BitVec 32) (v : Num) : Nat × Fl :=
  match ffmt code with
  | some f => encodeF f mode sat u v
  | none =>
    match ifmt code with
    | some (w, sg) => encodeI w sg mode u v
    | none => (0, .none)

/-- CVT of one element (R59, R63–R71). -/
def convert (src dst : Nat) (mode : RMode) (sat : Bool) (u : BitVec 32) (c : Nat) : Nat × Fl :=
  let (v, f0) := decodeNum src c
  let (r, f1) := encodeNum dst mode sat u v
  (r, f0.or f1)

/-! ### Exact arithmetic -/

/-- Sign as an integer factor. -/
def sgn (neg : Bool) : Int := if neg then -1 else 1

/-- Exact sum of two finite dyadics; a cancelled sum of nonzero terms is +0, −0 + −0 is −0 (R72). -/
def addFin (n1 : Bool) (m1 : Nat) (e1 : Int) (n2 : Bool) (m2 : Nat) (e2 : Int) : Num :=
  if m1 = 0 ∧ m2 = 0 then .fin (n1 && n2) 0 0 false
  else if m1 = 0 then .fin n2 m2 e2 false
  else if m2 = 0 then .fin n1 m1 e1 false
  else
    let e := min e1 e2
    let s : Int := sgn n1 * ((m1 <<< (e1 - e).toNat : Nat) : Int) + sgn n2 * ((m2 <<< (e2 - e).toNat : Nat) : Int)
    .fin (decide (s < 0)) s.natAbs e false

/-- Exact sum; +∞ and −∞ together give NaN and INVALID. -/
def addNum (a b : Num) : Num × Fl :=
  match a, b with
  | .nan, _ => (.nan, .none)
  | _, .nan => (.nan, .none)
  | .inf s, .inf t => if s = t then (.inf s, .none) else (.nan, { invalid := true })
  | .inf s, .fin _ _ _ _ => (.inf s, .none)
  | .fin _ _ _ _, .inf t => (.inf t, .none)
  | .fin n1 m1 e1 _, .fin n2 m2 e2 _ => (addFin n1 m1 e1 n2 m2 e2, .none)

/-- Exact product; 0 × ∞ gives NaN and INVALID. A zero product takes the XOR of the signs, integers too: 0 times a
negative integer is −0. (DESIGN CHOICE, log entry 75.) -/
def mulNum (a b : Num) : Num × Fl :=
  match a, b with
  | .nan, _ => (.nan, .none)
  | _, .nan => (.nan, .none)
  | .inf s, .inf t => (.inf (s != t), .none)
  | .inf s, .fin t m _ _ => if m = 0 then (.nan, { invalid := true }) else (.inf (s != t), .none)
  | .fin s m _ _, .inf t => if m = 0 then (.nan, { invalid := true }) else (.inf (s != t), .none)
  | .fin s m1 e1 _, .fin t m2 e2 _ => (.fin (s != t) (m1 * m2) (e1 + e2) false, .none)

/-- The negated value. -/
def negNum (a : Num) : Num :=
  match a with
  | .nan => .nan
  | .inf s => .inf (!s)
  | .fin s m e st => .fin (!s) m e st

/-- Largest n with n² ≤ x, bit by bit from bit `k` (structural in `k`). -/
def isqrtAux (x : Nat) : Nat → Nat → Nat
  | 0, r => r
  | k + 1, r =>
    let r' := r + 2 ^ k
    isqrtAux x k (if r' * r' ≤ x then r' else r)

/-- Integer square root. -/
def isqrt (x : Nat) : Nat := isqrtAux x (Nat.log2 x / 2 + 1) 0

/-- Bits kept in a quotient or root beyond the widest significand: enough for SR's 32 and a sticky bit. -/
def guard : Nat := 96

/-- Exact quotient to 96 bits and a sticky bit, with the specials of Table 8.9. -/
def divNum (a b : Num) : Num × Fl :=
  match a, b with
  | .nan, _ => (.nan, .none)
  | _, .nan => (.nan, .none)
  | .inf _, .inf _ => (.nan, { invalid := true })
  | .inf s, .fin t _ _ _ => (.inf (s != t), .none)
  | .fin s _ _ _, .inf t => (.fin (s != t) 0 0 false, .none)
  | .fin s m1 e1 _, .fin t m2 e2 _ =>
    if m2 = 0 then
      if m1 = 0 then (.nan, { invalid := true }) else (.inf (s != t), .none)
    else
      let k := guard + Nat.log2 m2
      let n := m1 <<< k
      (.fin (s != t) (n / m2) (e1 - e2 - k) (decide (n % m2 ≠ 0)), .none)

/-- Square root, with the specials of Table 8.9. -/
def sqrtNum (a : Num) : Num × Fl :=
  match a with
  | .nan => (.nan, .none)
  | .inf true => (.nan, { invalid := true })
  | .inf false => (.inf false, .none)
  | .fin neg m e _ =>
    if m = 0 then (.fin neg 0 0 false, .none)
    else if neg then (.nan, { invalid := true })
    else
      -- m × 2^e = (m × 2^k) × 2^(e − k) with e − k even
      let k := 2 * guard + (if (e % 2 = 0) then 0 else 1)
      let x := m <<< k
      let r := isqrt x
      (.fin false r ((e - k) / 2) (decide (r * r ≠ x)), .none)

/-- Reciprocal. -/
def rcpNum (a : Num) : Num × Fl := divNum (.fin false 1 0 false) a

/-- Reciprocal square root, with the specials of Table 8.9. -/
def rsqrtNum (a : Num) : Num × Fl :=
  match a with
  | .nan => (.nan, .none)
  | .inf true => (.nan, { invalid := true })
  | .inf false => (.fin false 0 0 false, .none)
  | .fin neg m e _ =>
    if m = 0 then (.inf neg, .none)
    else if neg then (.nan, { invalid := true })
    else
      let (m', e') := if e % 2 = 0 then (m, e) else (2 * m, e - 1)
      let k := guard + Nat.log2 m'
      let x := 2 ^ (2 * k) / m'
      let r := isqrt x
      (.fin false r (-(k : Int) - e' / 2) (decide (r * r * m' ≠ 2 ^ (2 * k))), .none)

/-- Fraction bits of the fixed-point evaluation of EXP2. -/
def expBits : Nat := 224

/-- ln 2 to `expBits` bits, by Σ 1 / (i × 2^i) (structural in the number of terms). -/
def ln2Aux : Nat → Nat → Nat
  | 0, _ => 0
  | k + 1, i => (2 ^ (expBits + 32)) / (i * 2 ^ i) + ln2Aux k (i + 1)

/-- ln 2 × 2^expBits. -/
def ln2Fix : Nat := ln2Aux 280 1 >>> 32

/-- Σ x^i / i! of a fixed-point x, from term `i` (structural in the number of terms). -/
def expAux (x : Nat) : Nat → Nat → Nat → Nat
  | 0, _, _ => 0
  | k + 1, i, t => t + expAux x k (i + 1) ((t * x) >>> expBits / (i + 1))

/-- 2^f × 2^expBits for a fixed-point 0 ≤ f < 1. -/
def exp2Fix (f : Nat) : Nat := expAux ((f * ln2Fix) >>> expBits) 64 0 (2 ^ expBits)

/-- EXP2: exact at integers, else evaluated to `expBits` fraction bits with a sticky bit. -/
def exp2Num (a : Num) : Num × Fl :=
  match a with
  | .nan => (.nan, .none)
  | .inf true => (.fin false 0 0 false, .none)
  | .inf false => (.inf false, .none)
  | .fin neg m e _ =>
    if m = 0 then (.fin false 1 0 false, .none)
    else if 0 ≤ (Nat.log2 m : Int) + e - 20 then
      -- far beyond every exponent range
      (.fin false 1 (if neg then -(2 ^ 20 : Int) else 2 ^ 20) false, .none)
    else
      let x : Int := sgn neg * (shl m (e + expBits) : Int)
      let k : Int := x / (2 ^ expBits : Int)
      let f : Nat := (x % (2 ^ expBits : Int)).toNat
      if f = 0 then (.fin false 1 k false, .none)
      else (.fin false (exp2Fix f) (k - expBits) true, .none)

/-- Working bits of the digit-by-digit logarithm, and digits produced. -/
def logBits : Nat := 448
/-- Fraction digits of the logarithm. -/
def logDigits : Nat := 160

/-- Digits of log2 t for 1 ≤ t < 2 in fixed point (structural in the number of digits). -/
def logAux : Nat → Nat → Nat → Nat
  | 0, _, acc => acc
  | k + 1, t, acc =>
    let t2 := (t * t) >>> logBits
    if 2 ^ (logBits + 1) ≤ t2 then logAux k (t2 / 2) (2 * acc + 1) else logAux k t2 (2 * acc)

/-- LOG2: exact at powers of two, else evaluated to `logDigits` fraction bits with a sticky bit. -/
def log2Num (a : Num) : Num × Fl :=
  match a with
  | .nan => (.nan, .none)
  | .inf true => (.nan, { invalid := true })
  | .inf false => (.inf false, .none)
  | .fin neg m e _ =>
    if m = 0 then (.inf true, .none)
    else if neg then (.nan, { invalid := true })
    else
      let l := Nat.log2 m
      let k : Int := (l : Int) + e
      if m = 2 ^ l then (.fin (decide (k < 0)) k.natAbs 0 false, .none)
      else
        let t := m <<< (logBits - l)
        let d := logAux logDigits t 0
        let v : Int := k * (2 ^ logDigits : Int) + d
        -- the exact value lies between v and v + 1
        if 0 ≤ v then (.fin false v.toNat (-(logDigits : Int)) true, .none)
        else (.fin true ((-v) - 1).toNat (-(logDigits : Int)) true, .none)

/-! ### Comparison, MAX, MIN -/

/-- Whether a < b, for values without NaN. -/
def ltNum (a b : Num) : Bool :=
  match a, b with
  | .nan, _ => false
  | _, .nan => false
  | .inf s, .inf t => s && !t
  | .inf s, .fin _ _ _ _ => s
  | .fin _ _ _ _, .inf t => !t
  | .fin n1 m1 e1 _, .fin n2 m2 e2 _ =>
    let e := min e1 e2
    decide (sgn n1 * ((m1 <<< (e1 - e).toNat : Nat) : Int) < sgn n2 * ((m2 <<< (e2 - e).toNat : Nat) : Int))

/-- Whether a value is NaN. -/
def isNan (a : Num) : Bool := match a with | .nan => true | _ => false
/-- Whether a value is a zero of either sign. -/
def isZero (a : Num) : Bool := match a with | .fin _ 0 _ _ => true | _ => false
/-- Sign of a value. -/
def negOf (a : Num) : Bool := match a with | .nan => false | .inf s => s | .fin s _ _ _ => s

/-- MAX and MIN (R73). -/
def maxNum (a b : Num) : Num :=
  if isNan a || isNan b then .nan
  else if isZero a && isZero b then .fin (negOf a && negOf b) 0 0 false
  else if ltNum a b then b else a
/-- MIN (R73). -/
def minNum (a b : Num) : Num :=
  if isNan a || isNan b then .nan
  else if isZero a && isZero b then .fin (negOf a || negOf b) 0 0 false
  else if ltNum b a then b else a

/-- The predicates of CMP: 0 EQ, 1 NE, 2 LT, 3 LE, 4 GT, 5 GE. -/
def predNum (p : Nat) (a b : Num) : Bool :=
  if isNan a || isNan b then p == 1
  else match p with
    | 0 => !(ltNum a b) && !(ltNum b a)
    | 1 => ltNum a b || ltNum b a
    | 2 => ltNum a b
    | 3 => !(ltNum b a)
    | 4 => ltNum b a
    | _ => !(ltNum a b)

/-! ### MX blocks (R77) -/

/-- Element exponent e of R77. -/
def mxE (code : Nat) : Int :=
  match code with
  | 3 => 8 | 4 => 15 | 5 => 4 | 6 => 2 | 7 => 2 | _ => 6

/-- Exponent of the leading bit of the largest magnitude; none when every element is zero. -/
def mxLead : List Num → Option Int
  | [] => none
  | .fin _ m e _ :: vs =>
    if m = 0 then mxLead vs
    else
      let l : Int := (Nat.log2 m : Int) + e
      match mxLead vs with
      | none => some l
      | some l' => some (max l l')
  | _ :: vs => mxLead vs

/-- Whether a block holds a NaN or an infinity. -/
def mxSpecial : List Num → Bool
  | [] => false
  | .fin _ _ _ _ :: vs => mxSpecial vs
  | _ :: _ => true

/-- A value times 2^k, exactly. -/
def scaleNum (v : Num) (k : Int) : Num :=
  match v with
  | .fin s m e st => .fin s m (e + k) st
  | w => w

/-- Elements of a block, each divided by the scale and converted with SAT set. -/
def mxElems (dst : Nat) (mode : RMode) (k : Int) : List Num → List (BitVec 32) → List Nat × Fl
  | [], _ => ([], .none)
  | v :: vs, us =>
    let (c, f) := encodeNum dst mode true (us.headD 0) (scaleNum v k)
    let (cs, fs) := mxElems dst mode k vs us.tail
    (c :: cs, f.or fs)

/-- An MX block: element codes, scale code, flags. -/
def mxBlock (dst : Nat) (mode : RMode) (vs : List Num) (us : List (BitVec 32)) : List Nat × Nat × Fl :=
  if mxSpecial vs then (vs.map (fun _ => 0), 0xFF, { invalid := true })
  else
    let x : Int := match mxLead vs with
      | none => 0
      | some l => max (-127) (min 127 (l - mxE dst)) + 127
    let (cs, f) := mxElems dst mode (127 - x) vs us
    (cs, x.toNat, f)

/-! ### Packing (R56) -/

/-- Element `i` of `w`-bit elements packed from byte 0 of a little-endian number. -/
def unpackAt (w x i : Nat) : Nat := (x >>> (w * i)) % 2 ^ w

/-- Pack `w`-bit codes into a little-endian number. -/
def packCodes (w : Nat) : List Nat → Nat
  | [] => 0
  | c :: cs => c % 2 ^ w + (packCodes w cs) <<< w

/-! ### The generator of SR (R64): Philox4x32-10 -/

/-- One Philox round and key step, `k` rounds. -/
def philoxAux : Nat → BitVec 32 → BitVec 32 → BitVec 32 → BitVec 32 → BitVec 32 → BitVec 32 → BitVec 32
  | 0, c0, _, _, _, _, _ => c0
  | k + 1, c0, c1, c2, c3, k0, k1 =>
    let p0 := 0xD2511F53 * c0.toNat
    let p1 := 0xCD9E8D57 * c2.toNat
    philoxAux k
      (BitVec.ofNat 32 (p1 >>> 32) ^^^ c1 ^^^ k0) (BitVec.ofNat 32 p1)
      (BitVec.ofNat 32 (p0 >>> 32) ^^^ c3 ^^^ k1) (BitVec.ofNat 32 p0)
      (k0 + 0x9E3779B9#32) (k1 + 0xBB67AE85#32)

/-- u of R64 for a seed, an instruction index and an element index. -/
def philox (seed : Word) (instr elem : BitVec 32) : BitVec 32 :=
  philoxAux 10 instr elem 0 0 (seed.setWidth 32) ((seed >>> 32).setWidth 32)

end Sys2Proof.Machine
end

