-- ==== Sys2Proof/Machine/Map.lean ====
section
/-! DEFINITION. Sparse maps: a list of (key, value) pairs in one canonical form, keys strictly rising and no
entry equal to what an unlisted key reads as (`d`). Memory, registers and tables all use it. -/
namespace Sys2Proof.Machine

/-- The value at `k`; an unlisted key reads `d k`. -/
def mapGet {α : Type} (d : Nat → α) : List (Nat × α) → Nat → α
  | [], k => d k
  | (k', v) :: m, k => if k' = k then v else mapGet d m k

/-- The map without any entry at `k`. -/
def mapErase {α : Type} : List (Nat × α) → Nat → List (Nat × α)
  | [], _ => []
  | (k', v) :: m, k => if k' = k then mapErase m k else (k', v) :: mapErase m k

/-- Put an entry before the first larger key. -/
def mapInsert {α : Type} : List (Nat × α) → Nat → α → List (Nat × α)
  | [], k, v => [(k, v)]
  | (k', v') :: m, k, v => if k < k' then (k, v) :: (k', v') :: m else (k', v') :: mapInsert m k v

/-- Write `v` at `k`; writing the default removes the entry, so equal maps are equal lists. -/
def mapSet {α : Type} [DecidableEq α] (d : Nat → α) (m : List (Nat × α)) (k : Nat) (v : α) : List (Nat × α) :=
  if v = d k then mapErase m k else mapInsert (mapErase m k) k v

/-- Every key of `m` lies above `b`, in strictly rising order, and no entry is a default. -/
def mapWfFrom {α : Type} [DecidableEq α] (d : Nat → α) : Nat → List (Nat × α) → Bool
  | _, [] => true
  | b, (k, v) :: m => decide (b ≤ k) && decide (v ≠ d k) && mapWfFrom d (k + 1) m

/-- The canonical form. -/
def mapWf {α : Type} [DecidableEq α] (d : Nat → α) (m : List (Nat × α)) : Bool := mapWfFrom d 0 m

/-- A map whose unlisted keys hold nothing. -/
def mapFind {α : Type} (m : List (Nat × α)) (k : Nat) : Option α :=
  match m with
  | [] => none
  | (k', v) :: m => if k' = k then some v else mapFind m k

/-- Write an entry in a map whose unlisted keys hold nothing. -/
def mapPut {α : Type} (m : List (Nat × α)) (k : Nat) (v : α) : List (Nat × α) :=
  mapInsert (mapErase m k) k v

/-! ### Sets of numbers, as rising runs (first, length) that do not touch -/

/-- Whether a number is in a set. -/
def runsHas (l : List (Nat × Nat)) (k : Nat) : Bool := l.any (fun r => decide (r.1 ≤ k) && decide (k < r.1 + r.2))

/-- The least number from `k` on that is not in a set. -/
def runsFree : List (Nat × Nat) → Nat → Nat
  | [], k => k
  | (a, n) :: l, k => if k < a then k else if k < a + n then runsFree l (a + n) else runsFree l k

/-- The least number from `k` on that is in a set. -/
def runsNext : List (Nat × Nat) → Nat → Option Nat
  | [], _ => none
  | (a, n) :: l, k => if k < a then some a else if k < a + n then some k else runsNext l k

/-- A number enters a set. -/
def runsAdd : List (Nat × Nat) → Nat → List (Nat × Nat)
  | [], k => [(k, 1)]
  | (a, n) :: l, k =>
    if k + 1 < a then (k, 1) :: (a, n) :: l
    else if k + 1 = a then (k, n + 1) :: l
    else if k < a + n then (a, n) :: l
    else if k = a + n then
      (match l with
        | (b, m) :: l' => if b = k + 1 then (a, n + 1 + m) :: l' else (a, n + 1) :: l
        | [] => [(a, n + 1)])
    else (a, n) :: runsAdd l k

/-- A number leaves a set. -/
def runsDel : List (Nat × Nat) → Nat → List (Nat × Nat)
  | [], _ => []
  | (a, n) :: l, k =>
    if k < a then (a, n) :: l
    else if k < a + n then [(a, k - a), (k + 1, a + n - (k + 1))].filter (fun r => r.2 != 0) ++ l
    else (a, n) :: runsDel l k

end Sys2Proof.Machine
end

