-- ==== Sys2Proof/Machine/RegMap.lean ====
section
/-! DEFINITION. The register map: every CSR of the device by the manual's own name, at its CSR offset
(Table 15.2 and the chapters' register tables), with the named fields of its field table. -/
namespace Sys2Proof.Machine

/-! ### HUB -/

/-- HUB_ID (R490). -/
def HUB_ID : Nat := 0x0000000

/-- HUB_BOOT. -/
def HUB_BOOT : Nat := 0x0000100
def HUB_BOOT_STEP : Fld := ⟨0, 4⟩
def HUB_BOOT_READY : Fld := ⟨4, 1⟩
def HUB_BOOT_FAIL : Fld := ⟨8, 4⟩
def HUB_BOOT_SOURCE : Fld := ⟨12, 2⟩
def HUB_BOOT_COLD_BOOTS : Fld := ⟨16, 32⟩

/-- HUB_BOOT_ADDR. -/
def HUB_BOOT_ADDR : Nat := 0x0000108
def HUB_BOOT_ADDR_ADDR : Fld := ⟨0, 64⟩

/-- HUB_BOOT_LEN. -/
def HUB_BOOT_LEN : Nat := 0x0000110
def HUB_BOOT_LEN_BYTES : Fld := ⟨0, 32⟩
def HUB_BOOT_LEN_GO : Fld := ⟨63, 1⟩

/-- HUB_RT_POS. -/
def HUB_RT_POS : Nat := 0x0040000
def HUB_RT_POS_X : Fld := ⟨0, 8⟩
def HUB_RT_POS_Y : Fld := ⟨8, 8⟩
def HUB_RT_POS_Z : Fld := ⟨16, 8⟩
def HUB_RT_POS_PLANE : Fld := ⟨24, 8⟩
def HUB_RT_POS_SX : Fld := ⟨32, 8⟩
def HUB_RT_POS_SY : Fld := ⟨40, 8⟩
def HUB_RT_POS_SZ : Fld := ⟨48, 8⟩
def HUB_RT_POS_WRAP : Fld := ⟨56, 3⟩

/-- HUB_RT_STATUS. -/
def HUB_RT_STATUS : Nat := 0x0040010
def HUB_RT_STATUS_FENCE_EXPIRED_EVENT : Fld := ⟨0, 1⟩
def HUB_RT_STATUS_FENCE_FULL_EVENT : Fld := ⟨1, 1⟩
def HUB_RT_STATUS_LINK_LOSS_EVENT : Fld := ⟨2, 1⟩
def HUB_RT_STATUS_LOSS_LIMIT_EVENT : Fld := ⟨3, 1⟩
def HUB_RT_STATUS_HOLDING : Fld := ⟨4, 1⟩
def HUB_RT_STATUS_RESET_CNT : Fld := ⟨56, 8⟩

/-- HUB_CNT_FENCE_HOLD (Table 10.4). -/
def HUB_CNT_FENCE_HOLD : Nat := 0x0040020
def HUB_CNT_FENCE_HOLD_COUNT : Fld := ⟨0, 48⟩

/-- HUB_CNT_FENCE_EXPIRED (Table 10.4). -/
def HUB_CNT_FENCE_EXPIRED : Nat := 0x0040028
def HUB_CNT_FENCE_EXPIRED_COUNT : Fld := ⟨0, 48⟩

/-- HUB_CNT_FENCE_UNTRACKED (Table 10.4). -/
def HUB_CNT_FENCE_UNTRACKED : Nat := 0x0040030
def HUB_CNT_FENCE_UNTRACKED_COUNT : Fld := ⟨0, 48⟩

/-- HUB_CNT_REHASH (Table 10.4). -/
def HUB_CNT_REHASH : Nat := 0x0040038
def HUB_CNT_REHASH_COUNT : Fld := ⟨0, 48⟩

/-- HUB_CNT_LINK_LOSS (Table 10.4). -/
def HUB_CNT_LINK_LOSS : Nat := 0x0040040
def HUB_CNT_LINK_LOSS_COUNT : Fld := ⟨0, 48⟩

/-- HUB_RT_DOWN. -/
def HUB_RT_DOWN (i : Nat) : Nat := 0x0040100 + 0x8 * i
def HUB_RT_DOWN_DOWN : Fld := ⟨0, 64⟩

/-- HUB_RT_JOB. -/
def HUB_RT_JOB (i : Nat) : Nat := 0x0050000 + 0x8 * i
def HUB_RT_JOB_X0 : Fld := ⟨0, 8⟩
def HUB_RT_JOB_LX : Fld := ⟨8, 8⟩
def HUB_RT_JOB_Y0 : Fld := ⟨16, 8⟩
def HUB_RT_JOB_LY : Fld := ⟨24, 8⟩
def HUB_RT_JOB_Z0 : Fld := ⟨32, 8⟩
def HUB_RT_JOB_LZ : Fld := ⟨40, 8⟩

/-- HUB_CIRCUIT (Table 10.9). -/
def HUB_CIRCUIT (i : Nat) : Nat := 0x0060000 + 0x10 * i
def HUB_CIRCUIT_VALID : Fld := ⟨0, 1⟩
def HUB_CIRCUIT_TRANSIT : Fld := ⟨1, 1⟩
def HUB_CIRCUIT_JOB_ID : Fld := ⟨2, 16⟩
def HUB_CIRCUIT_IN_PORT : Fld := ⟨18, 10⟩
def HUB_CIRCUIT_OUT_PORT : Fld := ⟨28, 10⟩
def HUB_CIRCUIT_VC_MASK : Fld := ⟨38, 8⟩

/-- HUB_CIRCUIT_W1 (Table 10.9). -/
def HUB_CIRCUIT_W1 (i : Nat) : Nat := 0x0060008 + 0x10 * i
def HUB_CIRCUIT_W1_WIN_FIRST : Fld := ⟨0, 10⟩
def HUB_CIRCUIT_W1_WIN_COUNT : Fld := ⟨10, 11⟩

/-! ### FTU -/

/-- FTU_ID (R490). -/
def FTU_ID : Nat := 0x0100000

/-- FTU_CTRL. -/
def FTU_CTRL : Nat := 0x0100008
def FTU_CTRL_SRC : Fld := ⟨0, 3⟩
def FTU_CTRL_PTP_PORT : Fld := ⟨4, 10⟩
def FTU_CTRL_PFP_TX_EN : Fld := ⟨14, 1⟩
def FTU_CTRL_PPS_COMP : Fld := ⟨32, 16⟩

/-- FTU_STATUS. -/
def FTU_STATUS : Nat := 0x0100010
def FTU_STATUS_VALID : Fld := ⟨0, 1⟩
def FTU_STATUS_SYNC : Fld := ⟨1, 1⟩
def FTU_STATUS_HOLDOVER : Fld := ⟨2, 1⟩
def FTU_STATUS_UNSYNC_EVENT : Fld := ⟨3, 1⟩
def FTU_STATUS_PPS_GLITCH : Fld := ⟨4, 1⟩
def FTU_STATUS_LATE_ALARM : Fld := ⟨5, 1⟩
def FTU_STATUS_RESET_CNT : Fld := ⟨56, 8⟩

/-- FTU_TIME_FRAC (Table 2.4). -/
def FTU_TIME_FRAC : Nat := 0x0100020
def FTU_TIME_FRAC_FRAC : Fld := ⟨0, 16⟩

/-- FTU_OFFSET (R41). -/
def FTU_OFFSET : Nat := 0x0100028
def FTU_OFFSET_PHASE : Fld := ⟨0, 64⟩

/-- FTU_RATE_ADJ (R34). -/
def FTU_RATE_ADJ : Nat := 0x0100030
def FTU_RATE_ADJ_ADJ : Fld := ⟨0, 32⟩

/-- FTU_LIMITS. -/
def FTU_LIMITS : Nat := 0x0100038
def FTU_LIMITS_SYNC_LIMIT : Fld := ⟨0, 16⟩
def FTU_LIMITS_HOLDOVER_MAX : Fld := ⟨16, 16⟩

/-- FTU_ALIGN (R46). -/
def FTU_ALIGN : Nat := 0x0100040
def FTU_ALIGN_T_ALIGN : Fld := ⟨0, 64⟩

/-- FTU_SRC_OFFSET (R42). -/
def FTU_SRC_OFFSET : Nat := 0x0100048
def FTU_SRC_OFFSET_OFFSET : Fld := ⟨0, 64⟩

/-- FTU_PEER_OFFSET (R40). -/
def FTU_PEER_OFFSET (i : Nat) : Nat := 0x0100080 + 0x8 * i
def FTU_PEER_OFFSET_OFFSET : Fld := ⟨0, 64⟩

/-- FTU_SLIP (R51). -/
def FTU_SLIP (i : Nat) : Nat := 0x0100100 + 0x8 * i
def FTU_SLIP_COUNT : Fld := ⟨0, 48⟩

/-- FTU_SLIP_LAST. -/
def FTU_SLIP_LAST : Nat := 0x0100140
def FTU_SLIP_LAST_CLASS : Fld := ⟨0, 4⟩
def FTU_SLIP_LAST_DELAY : Fld := ⟨8, 24⟩
def FTU_SLIP_LAST_PLANNED : Fld := ⟨32, 32⟩

/-- FTU_ALARM_TARGET (R47). -/
def FTU_ALARM_TARGET (i : Nat) : Nat := 0x0101000 + 0x10 * i
def FTU_ALARM_TARGET_TARGET : Fld := ⟨0, 64⟩

/-- FTU_ALARM_CTRL. -/
def FTU_ALARM_CTRL (i : Nat) : Nat := 0x0101008 + 0x10 * i
def FTU_ALARM_CTRL_EN : Fld := ⟨0, 1⟩
def FTU_ALARM_CTRL_ACTION : Fld := ⟨4, 4⟩
def FTU_ALARM_CTRL_TARGET_INDEX : Fld := ⟨8, 24⟩
def FTU_ALARM_CTRL_PERIOD : Fld := ⟨32, 32⟩

/-! ### PWR -/

/-- PWR_ID (R490). -/
def PWR_ID : Nat := 0x0200000

/-- PWR_CTRL. -/
def PWR_CTRL : Nat := 0x0200008
def PWR_CTRL_MAX_CORE : Fld := ⟨0, 2⟩
def PWR_CTRL_CLUSTER_DIKDIK : Fld := ⟨2, 1⟩
def PWR_CTRL_MAX_BUNDLE : Fld := ⟨3, 2⟩

/-- PWR_STATUS. -/
def PWR_STATUS : Nat := 0x0200010
def PWR_STATUS_THROTTLE_EVENT : Fld := ⟨0, 1⟩
def PWR_STATUS_EDC_EVENT : Fld := ⟨1, 1⟩
def PWR_STATUS_THERMAL_EVENT : Fld := ⟨2, 1⟩
def PWR_STATUS_REG_EVENT : Fld := ⟨3, 1⟩
def PWR_STATUS_PLANNING : Fld := ⟨4, 1⟩
def PWR_STATUS_RESET_CNT : Fld := ⟨56, 8⟩

/-- PWR_LIMIT. -/
def PWR_LIMIT : Nat := 0x0200018
def PWR_LIMIT_PL : Fld := ⟨0, 16⟩
def PWR_LIMIT_WINDOW : Fld := ⟨16, 8⟩
def PWR_LIMIT_TDC_LIMIT : Fld := ⟨24, 16⟩

/-- PWR_THERM (Table 16.5). -/
def PWR_THERM : Nat := 0x0200020
def PWR_THERM_T_THROTTLE : Fld := ⟨0, 7⟩

/-- PWR_LEVEL (Table 16.5). -/
def PWR_LEVEL : Nat := 0x0200028
def PWR_LEVEL_POWER : Fld := ⟨0, 4⟩
def PWR_LEVEL_THERMAL0 : Fld := ⟨4, 4⟩
def PWR_LEVEL_THERMAL1 : Fld := ⟨8, 4⟩
def PWR_LEVEL_THERMAL2 : Fld := ⟨12, 4⟩
def PWR_LEVEL_THERMAL3 : Fld := ⟨16, 4⟩

/-- PWR_VCORE (Table 16.5). -/
def PWR_VCORE : Nat := 0x0200030
def PWR_VCORE_SETPOINT : Fld := ⟨0, 16⟩
def PWR_VCORE_MEASURED : Fld := ⟨16, 16⟩
def PWR_VCORE_CURRENT : Fld := ⟨32, 16⟩

/-- PWR_PKG (Table 16.5). -/
def PWR_PKG : Nat := 0x0200038
def PWR_PKG_POWER : Fld := ⟨0, 16⟩

/-- PWR_TEMP (Table 16.5). -/
def PWR_TEMP (i : Nat) : Nat := 0x0200100 + 0x8 * i
def PWR_TEMP_TEMP : Fld := ⟨0, 16⟩

/-- PWR_HBM_TEMP (Table 16.5). -/
def PWR_HBM_TEMP (i : Nat) : Nat := 0x0200300 + 0x8 * i
def PWR_HBM_TEMP_TEMP : Fld := ⟨0, 16⟩

/-- PWR_RAIL (Table 16.5). -/
def PWR_RAIL (i : Nat) : Nat := 0x0200400 + 0x8 * i
def PWR_RAIL_MV : Fld := ⟨0, 16⟩
def PWR_RAIL_CURRENT : Fld := ⟨16, 16⟩

/-- PWR_DOMAIN (Table 16.5). -/
def PWR_DOMAIN (i : Nat) : Nat := 0x0200800 + 0x8 * i
def PWR_DOMAIN_STATE : Fld := ⟨0, 2⟩
def PWR_DOMAIN_NEXT : Fld := ⟨8, 56⟩

/-- PWR_CNT_ENTRY (Table 16.5; index 0 is IMPALA). -/
def PWR_CNT_ENTRY (i : Nat) : Nat := 0x0201008 + 0x8 * i
def PWR_CNT_ENTRY_COUNT : Fld := ⟨0, 48⟩

/-- PWR_CNT_DEMAND (Table 16.5). -/
def PWR_CNT_DEMAND : Nat := 0x0201020
def PWR_CNT_DEMAND_COUNT : Fld := ⟨0, 48⟩

/-- PWR_CNT_THROTTLE (Table 16.5). -/
def PWR_CNT_THROTTLE : Nat := 0x0201028
def PWR_CNT_THROTTLE_COUNT : Fld := ⟨0, 48⟩

/-- PWR_CNT_NO_ALARM (Table 16.5). -/
def PWR_CNT_NO_ALARM : Nat := 0x0201030
def PWR_CNT_NO_ALARM_COUNT : Fld := ⟨0, 48⟩

/-! ### FLT -/

/-- FLT_ID (R490). -/
def FLT_ID : Nat := 0x0300000

/-- FLT_CTRL. -/
def FLT_CTRL : Nat := 0x0300008
def FLT_CTRL_TEST_HOURS : Fld := ⟨0, 5⟩
def FLT_CTRL_TEST_EN : Fld := ⟨5, 1⟩
def FLT_CTRL_SNAP_EN : Fld := ⟨6, 1⟩
def FLT_CTRL_HALT_FORCE_EN : Fld := ⟨7, 1⟩

/-- FLT_STATUS. -/
def FLT_STATUS : Nat := 0x0300010
def FLT_STATUS_OPEN : Fld := ⟨0, 1⟩
def FLT_STATUS_OPEN_EVENT : Fld := ⟨1, 1⟩
def FLT_STATUS_ACK_STALE_EVENT : Fld := ⟨2, 1⟩
def FLT_STATUS_HALTED : Fld := ⟨3, 1⟩
def FLT_STATUS_SEALED : Fld := ⟨4, 1⟩
def FLT_STATUS_PREV_HALT : Fld := ⟨5, 1⟩
def FLT_STATUS_BB_ERR_EVENT : Fld := ⟨6, 1⟩
def FLT_STATUS_TEST_LATE_EVENT : Fld := ⟨7, 1⟩
def FLT_STATUS_RESET_CNT : Fld := ⟨56, 8⟩

/-- FLT_ACK. -/
def FLT_ACK : Nat := 0x0300018
def FLT_ACK_SEQ : Fld := ⟨0, 32⟩
def FLT_ACK_MERGE_CNT : Fld := ⟨32, 16⟩

/-- FLT_RETURN. -/
def FLT_RETURN : Nat := 0x0300020
def FLT_RETURN_INDEX : Fld := ⟨0, 7⟩
def FLT_RETURN_ENGINE : Fld := ⟨7, 1⟩
def FLT_RETURN_REQ : Fld := ⟨8, 1⟩
def FLT_RETURN_PASSED : Fld := ⟨9, 1⟩

/-- FLT_BB_CTRL (Table 17.8). -/
def FLT_BB_CTRL : Nat := 0x0300028
def FLT_BB_CTRL_UNSEAL : Fld := ⟨0, 1⟩

/-- FLT_BB_ADDR. -/
def FLT_BB_ADDR : Nat := 0x0300030
def FLT_BB_ADDR_OFFSET : Fld := ⟨0, 24⟩

/-- FLT_CNT (R433). -/
def FLT_CNT (i : Nat) : Nat := 0x0300080 + 0x8 * i
def FLT_CNT_COUNT : Fld := ⟨0, 48⟩

/-- FLT_FORCE. -/
def FLT_FORCE (i : Nat) : Nat := 0x0300400 + 0x8 * i
def FLT_FORCE_CAUSE : Fld := ⟨0, 8⟩
def FLT_FORCE_CLASS : Fld := ⟨8, 2⟩
def FLT_FORCE_ACT : Fld := ⟨10, 1⟩
def FLT_FORCE_JOB_ID : Fld := ⟨16, 16⟩
def FLT_FORCE_DETAIL : Fld := ⟨32, 32⟩

/-- FLT_SRC. -/
def FLT_SRC (i : Nat) : Nat := 0x0301000 + 0x8 * i
def FLT_SRC_COUNT : Fld := ⟨0, 16⟩
def FLT_SRC_LAST_CLASS : Fld := ⟨16, 2⟩
def FLT_SRC_LAST_FT : Fld := ⟨24, 40⟩

/-! ### SEC -/

/-- SEC_ID (R490). -/
def SEC_ID : Nat := 0x0400000

/-- SEC_STATUS. -/
def SEC_STATUS : Nat := 0x0400008
def SEC_STATUS_KEYS_READY : Fld := ⟨0, 1⟩
def SEC_STATUS_OWNED : Fld := ⟨1, 1⟩
def SEC_STATUS_VERIFY_FAIL_EVENT : Fld := ⟨2, 1⟩
def SEC_STATUS_ATT_DONE_EVENT : Fld := ⟨3, 1⟩
def SEC_STATUS_OWNER_EVENT : Fld := ⟨4, 1⟩
def SEC_STATUS_RESET_CNT : Fld := ⟨56, 8⟩

/-- SEC_DEVICE_ID (R334). -/
def SEC_DEVICE_ID : Nat := 0x0400010
def SEC_DEVICE_ID_ID : Fld := ⟨0, 64⟩

/-- SEC_CFG_DIGEST (Table 18.8). -/
def SEC_CFG_DIGEST (i : Nat) : Nat := 0x0400020 + 0x8 * i
def SEC_CFG_DIGEST_DIGEST : Fld := ⟨0, 64⟩

/-- SEC_BUNDLE_DIGEST (Table 18.8). -/
def SEC_BUNDLE_DIGEST (i : Nat) : Nat := 0x0400040 + 0x8 * i
def SEC_BUNDLE_DIGEST_DIGEST : Fld := ⟨0, 64⟩

/-- SEC_PLAN_DIGEST (Table 18.8). -/
def SEC_PLAN_DIGEST (i : Nat) : Nat := 0x0400060 + 0x8 * i
def SEC_PLAN_DIGEST_DIGEST : Fld := ⟨0, 64⟩

/-- SEC_OWNER_DIGEST (Table 18.8). -/
def SEC_OWNER_DIGEST (i : Nat) : Nat := 0x0400080 + 0x8 * i
def SEC_OWNER_DIGEST_DIGEST : Fld := ⟨0, 64⟩

/-- SEC_FP (R364). -/
def SEC_FP (i : Nat) : Nat := 0x0400100 + 0x8 * i
def SEC_FP_DIGEST : Fld := ⟨0, 64⟩

/-- SEC_FP_INFO. -/
def SEC_FP_INFO : Nat := 0x0400120
def SEC_FP_INFO_STEPPING : Fld := ⟨0, 8⟩
def SEC_FP_INFO_GRADE : Fld := ⟨8, 8⟩
def SEC_FP_INFO_ARITH_REV : Fld := ⟨16, 8⟩
def SEC_FP_INFO_BUNDLE : Fld := ⟨32, 32⟩

/-- SEC_FP_MAP (Table 14.7). -/
def SEC_FP_MAP : Nat := 0x0400128
def SEC_FP_MAP_MAP : Fld := ⟨0, 64⟩

/-- SEC_PROV_STATUS. -/
def SEC_PROV_STATUS : Nat := 0x0400130
def SEC_PROV_STATUS_BUSY : Fld := ⟨0, 1⟩
def SEC_PROV_STATUS_FP_CHANGED_EVENT : Fld := ⟨1, 1⟩
def SEC_PROV_STATUS_PROV_FAIL_EVENT : Fld := ⟨2, 1⟩
def SEC_PROV_STATUS_RESET_CNT : Fld := ⟨56, 8⟩

/-- SEC_CNT_PROV (Table 14.7). -/
def SEC_CNT_PROV : Nat := 0x0400138
def SEC_CNT_PROV_WRITTEN : Fld := ⟨0, 32⟩
def SEC_CNT_PROV_FAILED : Fld := ⟨32, 32⟩

/-- SEC_ATT_CTRL. -/
def SEC_ATT_CTRL : Nat := 0x0400200
def SEC_ATT_CTRL_REQ : Fld := ⟨0, 1⟩
def SEC_ATT_CTRL_STATUS : Fld := ⟨4, 4⟩
def SEC_ATT_CTRL_LENGTH : Fld := ⟨8, 16⟩

/-- SEC_ATT_QUOTE (Table 18.8). -/
def SEC_ATT_QUOTE (i : Nat) : Nat := 0x0400208 + 0x8 * i
def SEC_ATT_QUOTE_QUOTE : Fld := ⟨0, 64⟩

/-- SEC_ATT_ADDR (Table 18.8). -/
def SEC_ATT_ADDR : Nat := 0x0400228
def SEC_ATT_ADDR_ADDR : Fld := ⟨0, 16⟩

/-- SEC_CNT_VERIFY (Table 18.8). -/
def SEC_CNT_VERIFY : Nat := 0x0400238
def SEC_CNT_VERIFY_ACCEPTED : Fld := ⟨0, 32⟩
def SEC_CNT_VERIFY_REJECTED : Fld := ⟨32, 32⟩

/-! ### HIF -/

/-- HIF_ID (R490). -/
def HIF_ID : Nat := 0x0500000

/-- HIF_STATUS (Table 15.10). -/
def HIF_STATUS : Nat := 0x0500008
def HIF_STATUS_RING_ERR_EVENT : Fld := ⟨0, 1⟩
def HIF_STATUS_CQ_FULL_EVENT : Fld := ⟨1, 1⟩
def HIF_STATUS_RESET_CNT : Fld := ⟨56, 8⟩

/-- HIF_BAR2_BASE (Table 15.10). -/
def HIF_BAR2_BASE : Nat := 0x0500010
def HIF_BAR2_BASE_WIN : Fld := ⟨0, 2⟩

/-- HIF_EVT_EN (Table 15.10). -/
def HIF_EVT_EN : Nat := 0x0500018
def HIF_EVT_EN_EN : Fld := ⟨0, 5⟩

/-- HIF_APERTURE (Table 15.16). -/
def HIF_APERTURE (i : Nat) : Nat := 0x0500020 + 0x8 * i
def HIF_APERTURE_BASE : Fld := ⟨23, 9⟩

/-- HIF_CR_BASE (Table 15.10). -/
def HIF_CR_BASE (i : Nat) : Nat := 0x0510000 + 0x40 * i
def HIF_CR_BASE_ADDR : Fld := ⟨12, 52⟩

/-- HIF_CR_CTRL. -/
def HIF_CR_CTRL (i : Nat) : Nat := 0x0510008 + 0x40 * i
def HIF_CR_CTRL_EN : Fld := ⟨0, 1⟩
def HIF_CR_CTRL_LOG2SIZE : Fld := ⟨1, 5⟩
def HIF_CR_CTRL_CQ : Fld := ⟨6, 8⟩
def HIF_CR_CTRL_FETCH_MAX : Fld := ⟨14, 8⟩
def HIF_CR_CTRL_PERIOD : Fld := ⟨24, 20⟩
def HIF_CR_CTRL_PHASE : Fld := ⟨44, 20⟩

/-- HIF_CR_PTR (Table 15.10). -/
def HIF_CR_PTR (i : Nat) : Nat := 0x0510010 + 0x40 * i
def HIF_CR_PTR_ADDR : Fld := ⟨4, 60⟩

/-- HIF_CR_STATUS (Table 15.10). -/
def HIF_CR_STATUS (i : Nat) : Nat := 0x0510018 + 0x40 * i
def HIF_CR_STATUS_HEAD : Fld := ⟨0, 32⟩
def HIF_CR_STATUS_RING_ERR : Fld := ⟨32, 1⟩
def HIF_CR_STATUS_FETCH_AT : Fld := ⟨33, 1⟩

/-- HIF_QR_BASE (Table 15.10). -/
def HIF_QR_BASE (i : Nat) : Nat := 0x0520000 + 0x40 * i
def HIF_QR_BASE_ADDR : Fld := ⟨12, 52⟩

/-- HIF_QR_CTRL. -/
def HIF_QR_CTRL (i : Nat) : Nat := 0x0520008 + 0x40 * i
def HIF_QR_CTRL_EN : Fld := ⟨0, 1⟩
def HIF_QR_CTRL_LOG2SIZE : Fld := ⟨1, 5⟩
def HIF_QR_CTRL_VECTOR : Fld := ⟨6, 9⟩
def HIF_QR_CTRL_COUNT : Fld := ⟨15, 8⟩
def HIF_QR_CTRL_HOLDOFF : Fld := ⟨23, 16⟩

/-- HIF_QR_PTR (Table 15.10). -/
def HIF_QR_PTR (i : Nat) : Nat := 0x0520010 + 0x40 * i
def HIF_QR_PTR_ADDR : Fld := ⟨4, 60⟩

/-- HIF_QR_STATUS (Table 15.10). -/
def HIF_QR_STATUS (i : Nat) : Nat := 0x0520018 + 0x40 * i
def HIF_QR_STATUS_TAIL : Fld := ⟨0, 32⟩
def HIF_QR_STATUS_RING_ERR : Fld := ⟨32, 1⟩
def HIF_QR_STATUS_FULL_CNT : Fld := ⟨40, 24⟩

/-- HIF_MSIX_ADDR (Table 15.10). -/
def HIF_MSIX_ADDR (i : Nat) : Nat := 0x0540000 + 0x10 * i
def HIF_MSIX_ADDR_ADDR : Fld := ⟨0, 64⟩

/-- HIF_MSIX_DATA (Table 15.10; layout of the PCIe MSI-X table). -/
def HIF_MSIX_DATA (i : Nat) : Nat := 0x0540008 + 0x10 * i
def HIF_MSIX_DATA_DATA : Fld := ⟨0, 32⟩
def HIF_MSIX_DATA_MASK : Fld := ⟨32, 1⟩

/-- HIF_MSIX_PEND (Table 15.10). -/
def HIF_MSIX_PEND (i : Nat) : Nat := 0x0542000 + 0x8 * i
def HIF_MSIX_PEND_BITS : Fld := ⟨0, 64⟩

/-! ### PUP -/

/-- PUP_ID (R490). -/
def PUP_ID : Nat := 0x0600000

/-- PUP_STATUS (Table 15.11). -/
def PUP_STATUS : Nat := 0x0600008
def PUP_STATUS_DROP_EVENT : Fld := ⟨0, 1⟩
def PUP_STATUS_TIMEOUT_EVENT : Fld := ⟨1, 1⟩
def PUP_STATUS_RESET_CNT : Fld := ⟨56, 8⟩

/-- PUP_QER_DROP. -/
def PUP_QER_DROP : Nat := 0x0600010
def PUP_QER_DROP_COUNT : Fld := ⟨0, 16⟩
def PUP_QER_DROP_OFFSET : Fld := ⟨16, 32⟩
def PUP_QER_DROP_SOURCE : Fld := ⟨48, 2⟩

/-- PUP_QER_TIMEOUT (Table 15.11). -/
def PUP_QER_TIMEOUT : Nat := 0x0600018
def PUP_QER_TIMEOUT_MS : Fld := ⟨0, 16⟩

/-- PUP_QER (Table 15.11). -/
def PUP_QER (i : Nat) : Nat := 0x0600100 + 0x8 * i
def PUP_QER_STATE : Fld := ⟨0, 2⟩
def PUP_QER_KIND : Fld := ⟨2, 3⟩
def PUP_QER_ID : Fld := ⟨16, 16⟩

/-- PUP_CORE (Table 15.11). -/
def PUP_CORE (i : Nat) : Nat := 0x0600400 + 0x8 * i
def PUP_CORE_ROLE : Fld := ⟨0, 8⟩
def PUP_CORE_STATE : Fld := ⟨8, 2⟩

/-! ### LNK -/

/-- LNK_ID (R490). -/
def LNK_ID (i : Nat) : Nat := 0x1000000 + 0x10000 * i

/-- LNK_BUNDLE_CTRL. -/
def LNK_BUNDLE_CTRL (i : Nat) : Nat := 0x1000008 + 0x10000 * i
def LNK_BUNDLE_CTRL_CLASS : Fld := ⟨0, 2⟩
def LNK_BUNDLE_CTRL_REACH : Fld := ⟨2, 2⟩
def LNK_BUNDLE_CTRL_ETH : Fld := ⟨4, 1⟩
def LNK_BUNDLE_CTRL_ADV_MAX : Fld := ⟨5, 8⟩
def LNK_BUNDLE_CTRL_DISC_TO : Fld := ⟨13, 8⟩

/-- LNK_BUNDLE_STATUS. -/
def LNK_BUNDLE_STATUS (i : Nat) : Nat := 0x1000010 + 0x10000 * i
def LNK_BUNDLE_STATUS_OPT_PRESENT : Fld := ⟨0, 1⟩
def LNK_BUNDLE_STATUS_OPT_FAULT : Fld := ⟨1, 1⟩
def LNK_BUNDLE_STATUS_OPT_FAULT_EVENT : Fld := ⟨2, 1⟩
def LNK_BUNDLE_STATUS_PORT_EVENT : Fld := ⟨3, 1⟩
def LNK_BUNDLE_STATUS_CTRL_REJECT : Fld := ⟨4, 1⟩
def LNK_BUNDLE_STATUS_RESET_CNT : Fld := ⟨56, 8⟩

/-- LNK_OPT_CTRL (Table 12.9). -/
def LNK_OPT_CTRL (i : Nat) : Nat := 0x1000018 + 0x10000 * i
def LNK_OPT_CTRL_LASER_EN : Fld := ⟨0, 1⟩

/-- LNK_OPT_STATUS (Table 12.9). -/
def LNK_OPT_STATUS (i : Nat) : Nat := 0x1000020 + 0x10000 * i
def LNK_OPT_STATUS_TEMP : Fld := ⟨0, 8⟩
def LNK_OPT_STATUS_FAULT : Fld := ⟨8, 1⟩
def LNK_OPT_STATUS_PRESENT : Fld := ⟨9, 1⟩

/-- LNK_LANE_STAT (Table 12.9). -/
def LNK_LANE_STAT (i j : Nat) : Nat := 0x1000100 + 0x10000 * i + 0x8 * j
def LNK_LANE_STAT_SYMBOLS : Fld := ⟨0, 32⟩
def LNK_LANE_STAT_RX_POWER : Fld := ⟨32, 16⟩

/-- LNK_PORT_CTRL. -/
def LNK_PORT_CTRL (i j : Nat) : Nat := 0x1001000 + 0x10000 * i + 0x80 * j
def LNK_PORT_CTRL_EN : Fld := ⟨0, 1⟩
def LNK_PORT_CTRL_WIDTH : Fld := ⟨1, 2⟩
def LNK_PORT_CTRL_VER_MAX : Fld := ⟨3, 8⟩

/-- LNK_PORT_STATUS. -/
def LNK_PORT_STATUS (i j : Nat) : Nat := 0x1001008 + 0x10000 * i + 0x80 * j
def LNK_PORT_STATUS_STATE : Fld := ⟨0, 3⟩
def LNK_PORT_STATUS_DISC : Fld := ⟨3, 3⟩
def LNK_PORT_STATUS_VERSION : Fld := ⟨6, 8⟩
def LNK_PORT_STATUS_REVERSED : Fld := ⟨14, 1⟩
def LNK_PORT_STATUS_UP_EVENT : Fld := ⟨16, 1⟩
def LNK_PORT_STATUS_DOWN_EVENT : Fld := ⟨17, 1⟩
def LNK_PORT_STATUS_DISC_EVENT : Fld := ⟨18, 1⟩
def LNK_PORT_STATUS_VERSION_EVENT : Fld := ⟨19, 1⟩
def LNK_PORT_STATUS_RESET_CNT : Fld := ⟨56, 8⟩

/-- LNK_PORT_PEER (Table 12.9). -/
def LNK_PORT_PEER (i j : Nat) : Nat := 0x1001010 + 0x10000 * i + 0x80 * j
def LNK_PORT_PEER_DEVICE_ID : Fld := ⟨0, 64⟩

/-- LNK_PORT_PEER2 (Table 12.9). -/
def LNK_PORT_PEER2 (i j : Nat) : Nat := 0x1001018 + 0x10000 * i + 0x80 * j
def LNK_PORT_PEER2_PORT : Fld := ⟨0, 10⟩
def LNK_PORT_PEER2_PLANE : Fld := ⟨10, 8⟩
def LNK_PORT_PEER2_X : Fld := ⟨18, 8⟩
def LNK_PORT_PEER2_Y : Fld := ⟨26, 8⟩
def LNK_PORT_PEER2_Z : Fld := ⟨34, 8⟩
def LNK_PORT_PEER2_KIND : Fld := ⟨42, 3⟩

/-- LNK_PORT_LINK. -/
def LNK_PORT_LINK (i j : Nat) : Nat := 0x1001020 + 0x10000 * i + 0x80 * j
def LNK_PORT_LINK_RTT : Fld := ⟨0, 16⟩
def LNK_PORT_LINK_ADV : Fld := ⟨16, 8⟩
def LNK_PORT_LINK_RETRY_RUN : Fld := ⟨24, 3⟩

/-- LNK_CNT_RETRY (Table 12.9). -/
def LNK_CNT_RETRY (i j : Nat) : Nat := 0x1001028 + 0x10000 * i + 0x80 * j
def LNK_CNT_RETRY_COUNT : Fld := ⟨0, 48⟩

/-- LNK_CNT_FEC (Table 12.9). -/
def LNK_CNT_FEC (i j : Nat) : Nat := 0x1001030 + 0x10000 * i + 0x80 * j
def LNK_CNT_FEC_CORRECTED : Fld := ⟨0, 32⟩
def LNK_CNT_FEC_UNCORRECTABLE : Fld := ⟨32, 32⟩

/-- LNK_CNT_DOWN (Table 12.9). -/
def LNK_CNT_DOWN (i j : Nat) : Nat := 0x1001038 + 0x10000 * i + 0x80 * j
def LNK_CNT_DOWN_COUNT : Fld := ⟨0, 32⟩

/-- LNK_CNT_LCRC (Table 12.9). -/
def LNK_CNT_LCRC (i j : Nat) : Nat := 0x1001040 + 0x10000 * i + 0x80 * j
def LNK_CNT_LCRC_COUNT : Fld := ⟨0, 32⟩

/-- LNK_ETH_CTRL. -/
def LNK_ETH_CTRL (i j : Nat) : Nat := 0x1001048 + 0x10000 * i + 0x80 * j
def LNK_ETH_CTRL_PCP_MAP : Fld := ⟨0, 24⟩
def LNK_ETH_CTRL_TAG_EN : Fld := ⟨24, 1⟩
def LNK_ETH_CTRL_VID : Fld := ⟨25, 12⟩
def LNK_ETH_CTRL_PTP_EN : Fld := ⟨37, 1⟩

/-- LNK_ETH_PEER (Table 12.9). -/
def LNK_ETH_PEER (i j : Nat) : Nat := 0x1001050 + 0x10000 * i + 0x80 * j
def LNK_ETH_PEER_ADDR : Fld := ⟨0, 48⟩

/-- LNK_ETH_ADDR (Table 12.9). -/
def LNK_ETH_ADDR (i j : Nat) : Nat := 0x1001058 + 0x10000 * i + 0x80 * j
def LNK_ETH_ADDR_ADDR : Fld := ⟨0, 48⟩

/-- LNK_ETH_DISCARD (Table 12.9). -/
def LNK_ETH_DISCARD (i j : Nat) : Nat := 0x1001060 + 0x10000 * i + 0x80 * j
def LNK_ETH_DISCARD_FCS : Fld := ⟨0, 32⟩
def LNK_ETH_DISCARD_FRAMES : Fld := ⟨32, 32⟩

/-! ### SWC -/

/-- SWC_ID (R490). -/
def SWC_ID (i : Nat) : Nat := 0x2000000 + 0x400000 * i

/-- SWC_STATUS. -/
def SWC_STATUS (i : Nat) : Nat := 0x2000010 + 0x400000 * i
def SWC_STATUS_DFREE_EVENT : Fld := ⟨0, 1⟩
def SWC_STATUS_REFUSE_EVENT : Fld := ⟨1, 1⟩
def SWC_STATUS_STOMP_EVENT : Fld := ⟨2, 1⟩
def SWC_STATUS_QUOTA_REJECT : Fld := ⟨3, 1⟩
def SWC_STATUS_MIR_SKIP_EVENT : Fld := ⟨4, 1⟩
def SWC_STATUS_ALLOC_WAITING : Fld := ⟨5, 1⟩
def SWC_STATUS_RESET_CNT : Fld := ⟨56, 8⟩

/-- SWC_FENCE_TIMEOUT. -/
def SWC_FENCE_TIMEOUT (i : Nat) : Nat := 0x2000018 + 0x400000 * i
def SWC_FENCE_TIMEOUT_VALUE : Fld := ⟨0, 32⟩

/-- SWC_DFREE. -/
def SWC_DFREE (i : Nat) : Nat := 0x2000020 + 0x400000 * i
def SWC_DFREE_REQUESTER : Fld := ⟨0, 6⟩
def SWC_DFREE_POOL : Fld := ⟨6, 2⟩
def SWC_DFREE_BUFFER : Fld := ⟨8, 24⟩
def SWC_DFREE_COUNT : Fld := ⟨32, 16⟩

/-- SWC_LAST_REFUSE. -/
def SWC_LAST_REFUSE (i : Nat) : Nat := 0x2000028 + 0x400000 * i
def SWC_LAST_REFUSE_CAUSE : Fld := ⟨0, 4⟩
def SWC_LAST_REFUSE_PORT : Fld := ⟨4, 10⟩
def SWC_LAST_REFUSE_JOB_ID : Fld := ⟨14, 16⟩
def SWC_LAST_REFUSE_SRC_RANK : Fld := ⟨30, 20⟩

/-- SWC_POOL_STAT (Table 9.8). -/
def SWC_POOL_STAT (i j : Nat) : Nat := 0x2000040 + 0x400000 * i + 0x8 * j
def SWC_POOL_STAT_FREE : Fld := ⟨0, 32⟩
def SWC_POOL_STAT_LOWEST : Fld := ⟨32, 32⟩

/-- SWC_CNT_REFUSE (Table 9.8). -/
def SWC_CNT_REFUSE (i : Nat) : Nat := 0x2000080 + 0x400000 * i
def SWC_CNT_REFUSE_COUNT : Fld := ⟨0, 48⟩

/-- SWC_CNT_STOMP (Table 9.8). -/
def SWC_CNT_STOMP (i : Nat) : Nat := 0x2000088 + 0x400000 * i
def SWC_CNT_STOMP_COUNT : Fld := ⟨0, 48⟩

/-- SWC_CNT_FALLBACK (Table 9.8). -/
def SWC_CNT_FALLBACK (i : Nat) : Nat := 0x2000090 + 0x400000 * i
def SWC_CNT_FALLBACK_COUNT : Fld := ⟨0, 48⟩

/-- SWC_CNT_ALLOC_WAIT (Table 9.8). -/
def SWC_CNT_ALLOC_WAIT (i : Nat) : Nat := 0x2000098 + 0x400000 * i
def SWC_CNT_ALLOC_WAIT_COUNT : Fld := ⟨0, 48⟩

/-- SWC_CNT_SLOT_HOLD (Table 9.8). -/
def SWC_CNT_SLOT_HOLD (i : Nat) : Nat := 0x20000A0 + 0x400000 * i
def SWC_CNT_SLOT_HOLD_COUNT : Fld := ⟨0, 48⟩

/-- SWC_CNT_HOLD (Table 9.8). -/
def SWC_CNT_HOLD (i j : Nat) : Nat := 0x20000C0 + 0x400000 * i + 0x8 * j
def SWC_CNT_HOLD_COUNT : Fld := ⟨0, 48⟩

/-- SWC_QUOTA. -/
def SWC_QUOTA (i j k : Nat) : Nat := 0x2001000 + 0x400000 * i + 0x20 * j + 0x8 * k
def SWC_QUOTA_MIN : Fld := ⟨0, 20⟩
def SWC_QUOTA_MAX : Fld := ⟨20, 20⟩
def SWC_QUOTA_USE : Fld := ⟨40, 20⟩

/-- SWC_MIR_CTRL. -/
def SWC_MIR_CTRL (i j : Nat) : Nat := 0x2002000 + 0x400000 * i + 0x40 * j
def SWC_MIR_CTRL_EN : Fld := ⟨0, 1⟩
def SWC_MIR_CTRL_SRC_KIND : Fld := ⟨1, 2⟩
def SWC_MIR_CTRL_SRC_PORT : Fld := ⟨3, 10⟩
def SWC_MIR_CTRL_DST_PORT : Fld := ⟨13, 10⟩
def SWC_MIR_CTRL_TRUNC : Fld := ⟨23, 12⟩
def SWC_MIR_CTRL_MAX_OUT : Fld := ⟨35, 16⟩

/-- SWC_MIR_MATCH (Table 9.8). -/
def SWC_MIR_MATCH (i j k : Nat) : Nat := 0x2002008 + 0x400000 * i + 0x40 * j + 0x8 * k
def SWC_MIR_MATCH_MATCH : Fld := ⟨0, 64⟩

/-- SWC_MIR_MASK (Table 9.8). -/
def SWC_MIR_MASK (i j k : Nat) : Nat := 0x2002018 + 0x400000 * i + 0x40 * j + 0x8 * k
def SWC_MIR_MASK_MASK : Fld := ⟨0, 64⟩

/-- SWC_MIR_CNT (Table 9.8). -/
def SWC_MIR_CNT (i j : Nat) : Nat := 0x2002028 + 0x400000 * i + 0x40 * j
def SWC_MIR_CNT_MADE : Fld := ⟨0, 32⟩
def SWC_MIR_CNT_SKIPPED : Fld := ⟨32, 32⟩

/-- SWC_JOB. -/
def SWC_JOB (i j : Nat) : Nat := 0x2010000 + 0x400000 * i + 0x10 * j
def SWC_JOB_VALID : Fld := ⟨0, 1⟩
def SWC_JOB_JOB_ID : Fld := ⟨1, 16⟩
def SWC_JOB_RTT_BASE : Fld := ⟨17, 17⟩
def SWC_JOB_RTT_COUNT : Fld := ⟨34, 18⟩
def SWC_JOB_VC_EN : Fld := ⟨52, 8⟩

/-- SWC_JOBQ. -/
def SWC_JOBQ (i j : Nat) : Nat := 0x2010008 + 0x400000 * i + 0x10 * j
def SWC_JOBQ_P3_QUOTA : Fld := ⟨0, 11⟩
def SWC_JOBQ_P3_USE : Fld := ⟨16, 11⟩

/-- SWC_PCNT (Table 9.8). -/
def SWC_PCNT (i j k l : Nat) : Nat := 0x2080000 + 0x400000 * i + 0x100 * j + 0x20 * k + 0x8 * l
def SWC_PCNT_COUNT : Fld := ⟨0, 48⟩

/-- SWC_RTT (Table 9.4). -/
def SWC_RTT (i j : Nat) : Nat := 0x2200000 + 0x400000 * i + 0x10 * j
def SWC_RTT_VALID : Fld := ⟨0, 1⟩
def SWC_RTT_KIND : Fld := ⟨1, 2⟩
def SWC_RTT_PORT : Fld := ⟨6, 10⟩
def SWC_RTT_X : Fld := ⟨16, 8⟩
def SWC_RTT_Y : Fld := ⟨24, 8⟩
def SWC_RTT_Z : Fld := ⟨32, 8⟩
def SWC_RTT_PLANE : Fld := ⟨40, 8⟩

/-- SWC_RTT_W1 (Table 9.4). -/
def SWC_RTT_W1 (i j : Nat) : Nat := 0x2200008 + 0x400000 * i + 0x10 * j
def SWC_RTT_W1_RANK : Fld := ⟨0, 20⟩
def SWC_RTT_W1_JOB_ID : Fld := ⟨20, 16⟩

/-! ### TSC -/

/-- TSC_ID (R490). -/
def TSC_ID (i : Nat) : Nat := 0x3000000 + 0x1000 * i

/-- TSC_GATE_CTRL. -/
def TSC_GATE_CTRL (i : Nat) : Nat := 0x3000008 + 0x1000 * i
def TSC_GATE_CTRL_BASE : Fld := ⟨0, 17⟩
def TSC_GATE_CTRL_LEN : Fld := ⟨17, 11⟩
def TSC_GATE_CTRL_LEADER : Fld := ⟨28, 10⟩

/-- TSC_GATE_TIME. -/
def TSC_GATE_TIME (i : Nat) : Nat := 0x3000010 + 0x1000 * i
def TSC_GATE_TIME_CYCLE : Fld := ⟨0, 30⟩
def TSC_GATE_TIME_PHASE : Fld := ⟨32, 30⟩

/-- TSC_GATE_STATUS (Table 11.5). -/
def TSC_GATE_STATUS (i : Nat) : Nat := 0x3000018 + 0x1000 * i
def TSC_GATE_STATUS_ENTRY : Fld := ⟨0, 10⟩
def TSC_GATE_STATUS_MASK : Fld := ⟨10, 8⟩
def TSC_GATE_STATUS_CYCLES : Fld := ⟨32, 32⟩

/-- TSC_STATUS. -/
def TSC_STATUS (i : Nat) : Nat := 0x3000020 + 0x1000 * i
def TSC_STATUS_OVERRUN_EVENT : Fld := ⟨0, 1⟩
def TSC_STATUS_POLICE_EVENT : Fld := ⟨1, 1⟩
def TSC_STATUS_THROTTLE_EVENT : Fld := ⟨2, 1⟩
def TSC_STATUS_DEFAULT_LIST : Fld := ⟨3, 1⟩
def TSC_STATUS_RESET_CNT : Fld := ⟨56, 8⟩

/-- TSC_THROTTLE. -/
def TSC_THROTTLE (i : Nat) : Nat := 0x3000028 + 0x1000 * i
def TSC_THROTTLE_THRESH : Fld := ⟨0, 16⟩
def TSC_THROTTLE_LOW : Fld := ⟨16, 16⟩
def TSC_THROTTLE_MIN_LEVEL : Fld := ⟨32, 4⟩
def TSC_THROTTLE_INTERVAL : Fld := ⟨36, 8⟩
def TSC_THROTTLE_LEVEL4 : Fld := ⟨44, 4⟩
def TSC_THROTTLE_LEVEL6 : Fld := ⟨48, 4⟩
def TSC_THROTTLE_LEVEL7 : Fld := ⟨52, 4⟩
def TSC_THROTTLE_EN : Fld := ⟨63, 1⟩

/-- TSC_SHAPER. -/
def TSC_SHAPER (i j : Nat) : Nat := 0x3000040 + 0x1000 * i + 0x8 * j
def TSC_SHAPER_RATE : Fld := ⟨0, 21⟩
def TSC_SHAPER_BURST : Fld := ⟨24, 24⟩
def TSC_SHAPER_START_FULL : Fld := ⟨62, 1⟩
def TSC_SHAPER_EN : Fld := ⟨63, 1⟩

/-- TSC_POLICER. -/
def TSC_POLICER (i j : Nat) : Nat := 0x3000080 + 0x1000 * i + 0x8 * j
def TSC_POLICER_RATE : Fld := ⟨0, 21⟩
def TSC_POLICER_BURST : Fld := ⟨24, 24⟩
def TSC_POLICER_EN : Fld := ⟨63, 1⟩

/-- TSC_CNT_DEFER (Table 11.5). -/
def TSC_CNT_DEFER (i : Nat) : Nat := 0x3000100 + 0x1000 * i
def TSC_CNT_DEFER_COUNT : Fld := ⟨0, 48⟩

/-- TSC_CNT_OVERRUN (Table 11.5). -/
def TSC_CNT_OVERRUN (i : Nat) : Nat := 0x3000108 + 0x1000 * i
def TSC_CNT_OVERRUN_COUNT : Fld := ⟨0, 48⟩

/-- TSC_CNT_THROTTLE (Table 11.5). -/
def TSC_CNT_THROTTLE (i : Nat) : Nat := 0x3000110 + 0x1000 * i
def TSC_CNT_THROTTLE_COUNT : Fld := ⟨0, 48⟩

/-- TSC_CNT_POLICE_DROP (Table 11.5). -/
def TSC_CNT_POLICE_DROP (i : Nat) : Nat := 0x3000118 + 0x1000 * i
def TSC_CNT_POLICE_DROP_COUNT : Fld := ⟨0, 48⟩

/-- TSC_GMEM (Table 11.6). -/
def TSC_GMEM (i j : Nat) : Nat := 0x3400000 + 0x80000 * i + 0x8 * j
def TSC_GMEM_WORD : Fld := ⟨0, 64⟩

/-- TSC_TEL_CTRL (Table 11.6). -/
def TSC_TEL_CTRL : Nat := 0x3600000
def TSC_TEL_CTRL_EN : Fld := ⟨0, 1⟩

/-- TSC_SAMPLE_PERIOD (Table 11.6). -/
def TSC_SAMPLE_PERIOD : Nat := 0x3600008
def TSC_SAMPLE_PERIOD_US : Fld := ⟨0, 20⟩

/-- TSC_TEL_BASE (Table 11.6). -/
def TSC_TEL_BASE : Nat := 0x3600010
def TSC_TEL_BASE_ADDR : Fld := ⟨12, 52⟩

/-- TSC_TEL_SIZE (Table 11.6). -/
def TSC_TEL_SIZE : Nat := 0x3600018
def TSC_TEL_SIZE_LOG2 : Fld := ⟨0, 5⟩

/-- TSC_TEL_HEAD (Table 11.6). -/
def TSC_TEL_HEAD : Nat := 0x3600020
def TSC_TEL_HEAD_HEAD : Fld := ⟨0, 64⟩

/-- TSC_TEL_TAIL (Table 11.6). -/
def TSC_TEL_TAIL : Nat := 0x3600028
def TSC_TEL_TAIL_TAIL : Fld := ⟨0, 64⟩

/-- TSC_TEL_SKIPPED (Table 11.6). -/
def TSC_TEL_SKIPPED : Nat := 0x3600030
def TSC_TEL_SKIPPED_COUNT : Fld := ⟨0, 48⟩

/-- TSC_TEL_PORTMASK (Table 11.6). -/
def TSC_TEL_PORTMASK (i : Nat) : Nat := 0x3600100 + 0x8 * i
def TSC_TEL_PORTMASK_MASK : Fld := ⟨0, 64⟩

/-! ### RED -/

/-- RED_ID (R490). -/
def RED_ID (i : Nat) : Nat := 0x4000000 + 0x10000 * i

/-- RED_CTRL. -/
def RED_CTRL (i : Nat) : Nat := 0x4000008 + 0x10000 * i
def RED_CTRL_EN : Fld := ⟨0, 1⟩

/-- RED_STATUS. -/
def RED_STATUS (i : Nat) : Nat := 0x4000010 + 0x10000 * i
def RED_STATUS_FENCED : Fld := ⟨0, 1⟩
def RED_STATUS_RESIDUE_EVENT : Fld := ⟨1, 1⟩
def RED_STATUS_SEQ_GAP_EVENT : Fld := ⟨2, 1⟩
def RED_STATUS_HERD_EVENT : Fld := ⟨3, 1⟩
def RED_STATUS_EARLY_HOLD : Fld := ⟨4, 1⟩
def RED_STATUS_RESET_CNT : Fld := ⟨56, 8⟩

/-- RED_TAG_TIMEOUT (Table 4.15). -/
def RED_TAG_TIMEOUT (i : Nat) : Nat := 0x4000018 + 0x10000 * i
def RED_TAG_TIMEOUT_VALUE : Fld := ⟨0, 32⟩

/-- RED_DATA_TIMEOUT (Table 4.15). -/
def RED_DATA_TIMEOUT (i : Nat) : Nat := 0x4000020 + 0x10000 * i
def RED_DATA_TIMEOUT_VALUE : Fld := ⟨0, 32⟩

/-- RED_RESIDUE (Table 4.12). -/
def RED_RESIDUE (i : Nat) : Nat := 0x4000028 + 0x10000 * i
def RED_RESIDUE_COUNT : Fld := ⟨0, 16⟩
def RED_RESIDUE_FT : Fld := ⟨16, 48⟩

/-- RED_STAGING (Table 4.12). -/
def RED_STAGING (i : Nat) : Nat := 0x4000030 + 0x10000 * i
def RED_STAGING_NOW : Fld := ⟨0, 16⟩
def RED_STAGING_PEAK : Fld := ⟨16, 16⟩

/-- RED_ACTIVE (Table 4.12). -/
def RED_ACTIVE (i : Nat) : Nat := 0x4000038 + 0x10000 * i
def RED_ACTIVE_ADMITTED : Fld := ⟨0, 16⟩
def RED_ACTIVE_HELD : Fld := ⟨16, 16⟩

/-- RED_CNT_LAUNCH (Table 4.12). -/
def RED_CNT_LAUNCH (i : Nat) : Nat := 0x4000040 + 0x10000 * i
def RED_CNT_LAUNCH_COUNT : Fld := ⟨0, 48⟩

/-- RED_CNT_ELEM (Table 4.12). -/
def RED_CNT_ELEM (i : Nat) : Nat := 0x4000048 + 0x10000 * i
def RED_CNT_ELEM_COUNT : Fld := ⟨0, 48⟩

/-- RED_CNT_ESCAPE (Table 4.12). -/
def RED_CNT_ESCAPE (i : Nat) : Nat := 0x4000050 + 0x10000 * i
def RED_CNT_ESCAPE_COUNT : Fld := ⟨0, 48⟩

/-- RED_CNT_EARLY (Table 4.12). -/
def RED_CNT_EARLY (i : Nat) : Nat := 0x4000058 + 0x10000 * i
def RED_CNT_EARLY_COUNT : Fld := ⟨0, 48⟩

/-- RED_CNT_DUP (Table 4.12). -/
def RED_CNT_DUP (i : Nat) : Nat := 0x4000060 + 0x10000 * i
def RED_CNT_DUP_COUNT : Fld := ⟨0, 48⟩

/-- RED_CNT_IGNORED (Table 4.12). -/
def RED_CNT_IGNORED (i : Nat) : Nat := 0x4000068 + 0x10000 * i
def RED_CNT_IGNORED_COUNT : Fld := ⟨0, 48⟩

/-- RED_CSET_NEXT (Table 4.12). -/
def RED_CSET_NEXT (i j : Nat) : Nat := 0x4001000 + 0x10000 * i + 0x8 * j
def RED_CSET_NEXT_E : Fld := ⟨0, 32⟩
def RED_CSET_NEXT_BROKEN : Fld := ⟨32, 1⟩
def RED_CSET_NEXT_SET_ID : Fld := ⟨48, 16⟩

/-! ### CORE -/

/-- CORE_ID (R490). -/
def CORE_ID (i : Nat) : Nat := 0x5000000 + 0x10000 * i

/-- CORE_CTRL. -/
def CORE_CTRL (i : Nat) : Nat := 0x5000008 + 0x10000 * i
def CORE_CTRL_EN : Fld := ⟨0, 1⟩

/-- CORE_STATUS. -/
def CORE_STATUS (i : Nat) : Nat := 0x5000010 + 0x10000 * i
def CORE_STATUS_STATE : Fld := ⟨0, 3⟩
def CORE_STATUS_OBSERVE : Fld := ⟨3, 1⟩
def CORE_STATUS_PSTATE : Fld := ⟨4, 2⟩
def CORE_STATUS_LOGICAL : Fld := ⟨8, 8⟩
def CORE_STATUS_STALL_EVENT : Fld := ⟨16, 1⟩
def CORE_STATUS_FLAG_EVENT : Fld := ⟨17, 1⟩
def CORE_STATUS_SWAP_EVENT : Fld := ⟨18, 1⟩
def CORE_STATUS_RESET_CNT : Fld := ⟨56, 8⟩

/-- CORE_STALL (Table 5.12). -/
def CORE_STALL (i : Nat) : Nat := 0x5000038 + 0x10000 * i
def CORE_STALL_FEED : Fld := ⟨0, 32⟩
def CORE_STALL_DRAIN : Fld := ⟨32, 32⟩

/-- CORE_ROWMAP. -/
def CORE_ROWMAP (i j : Nat) : Nat := 0x5000040 + 0x10000 * i + 0x8 * j
def CORE_ROWMAP_FAULT0 : Fld := ⟨0, 7⟩
def CORE_ROWMAP_FAULT1 : Fld := ⟨8, 7⟩

/-- CORE_IDLE (R159). -/
def CORE_IDLE (i j : Nat) : Nat := 0x5000100 + 0x10000 * i + 0x8 * j
def CORE_IDLE_COUNT : Fld := ⟨0, 48⟩

/-- CORE_CNT_ISSUE (R159). -/
def CORE_CNT_ISSUE (i : Nat) : Nat := 0x5000148 + 0x10000 * i
def CORE_CNT_ISSUE_COUNT : Fld := ⟨0, 48⟩

/-- CORE_CNT_BUSY (R159). -/
def CORE_CNT_BUSY (i : Nat) : Nat := 0x5000150 + 0x10000 * i
def CORE_CNT_BUSY_COUNT : Fld := ⟨0, 48⟩

/-! ### CLU -/

/-- CLU_ID (R490). -/
def CLU_ID (i : Nat) : Nat := 0x6000000 + 0x10000 * i

/-- CLU_MAP. -/
def CLU_MAP (i : Nat) : Nat := 0x6000008 + 0x10000 * i
def CLU_MAP_PHYS0 : Fld := ⟨0, 3⟩
def CLU_MAP_PHYS1 : Fld := ⟨3, 3⟩
def CLU_MAP_PHYS2 : Fld := ⟨6, 3⟩
def CLU_MAP_PHYS3 : Fld := ⟨9, 3⟩
def CLU_MAP_SPARE : Fld := ⟨12, 3⟩
def CLU_MAP_REDUCED : Fld := ⟨15, 1⟩

/-- CLU_STATUS. -/
def CLU_STATUS (i : Nat) : Nat := 0x6000010 + 0x10000 * i
def CLU_STATUS_SWAP_BUSY : Fld := ⟨0, 1⟩
def CLU_STATUS_NO_SPARE : Fld := ⟨1, 1⟩
def CLU_STATUS_SWAP_EVENT : Fld := ⟨2, 1⟩
def CLU_STATUS_REFUSED_EVENT : Fld := ⟨3, 1⟩
def CLU_STATUS_RESET_CNT : Fld := ⟨56, 8⟩

/-- CLU_SWAP. -/
def CLU_SWAP (i : Nat) : Nat := 0x6000018 + 0x10000 * i
def CLU_SWAP_LOGICAL : Fld := ⟨0, 2⟩
def CLU_SWAP_REQ : Fld := ⟨2, 1⟩

/-- CLU_CNT_SWAP. -/
def CLU_CNT_SWAP (i : Nat) : Nat := 0x6000020 + 0x10000 * i
def CLU_CNT_SWAP_COUNT : Fld := ⟨0, 48⟩
def CLU_CNT_SWAP_REASON : Fld := ⟨48, 2⟩
def CLU_CNT_SWAP_LOGICAL : Fld := ⟨50, 2⟩

/-- CLU_SYNC_REFUSED (R154). -/
def CLU_SYNC_REFUSED (i : Nat) : Nat := 0x6000028 + 0x10000 * i
def CLU_SYNC_REFUSED_COUNT : Fld := ⟨0, 48⟩

/-! ### MEM -/

/-- MEM_ID (R490). -/
def MEM_ID : Nat := 0x7000000

/-- MEM_STATUS. -/
def MEM_STATUS : Nat := 0x7000008
def MEM_STATUS_T0_OK : Fld := ⟨0, 4⟩
def MEM_STATUS_T1_OK : Fld := ⟨4, 4⟩
def MEM_STATUS_T2_OK : Fld := ⟨8, 4⟩
def MEM_STATUS_REREAD_EVENT : Fld := ⟨12, 1⟩
def MEM_STATUS_PERSIST_EVENT : Fld := ⟨13, 1⟩
def MEM_STATUS_WINDOW_LOST_EVENT : Fld := ⟨14, 1⟩
def MEM_STATUS_SCRUB_DONE_EVENT : Fld := ⟨15, 1⟩
def MEM_STATUS_RESET_CNT : Fld := ⟨56, 8⟩

/-- MEM_SCRUB. -/
def MEM_SCRUB : Nat := 0x7000010
def MEM_SCRUB_EN : Fld := ⟨0, 1⟩
def MEM_SCRUB_PERIOD : Fld := ⟨1, 8⟩

/-- MEM_ERR_LAST. -/
def MEM_ERR_LAST : Nat := 0x7000018
def MEM_ERR_LAST_ADDR : Fld := ⟨0, 48⟩
def MEM_ERR_LAST_STORE : Fld := ⟨48, 3⟩
def MEM_ERR_LAST_PERSIST : Fld := ⟨51, 1⟩

/-- MEM_TIER_SIZE (Table 13.6). -/
def MEM_TIER_SIZE (i : Nat) : Nat := 0x7000040 + 0x8 * i
def MEM_TIER_SIZE_T0 : Fld := ⟨0, 16⟩
def MEM_TIER_SIZE_T1 : Fld := ⟨16, 16⟩
def MEM_TIER_SIZE_T2 : Fld := ⟨32, 16⟩

/-- MEM_CNT_REREAD (Table 13.6). -/
def MEM_CNT_REREAD (i : Nat) : Nat := 0x7000080 + 0x8 * i
def MEM_CNT_REREAD_COUNT : Fld := ⟨0, 48⟩

/-- MEM_CNT_PERSIST (Table 13.6). -/
def MEM_CNT_PERSIST (i : Nat) : Nat := 0x70000C0 + 0x8 * i
def MEM_CNT_PERSIST_COUNT : Fld := ⟨0, 48⟩

/-- MEM_REGION (Table 13.9). -/
def MEM_REGION (i : Nat) : Nat := 0x7001000 + 0x10 * i
def MEM_REGION_BASE : Fld := ⟨0, 48⟩
def MEM_REGION_VALID : Fld := ⟨48, 1⟩
def MEM_REGION_REMOTE_W : Fld := ⟨49, 1⟩

/-- MEM_REGION_W1 (Table 13.9). -/
def MEM_REGION_W1 (i : Nat) : Nat := 0x7001008 + 0x10 * i
def MEM_REGION_W1_LENGTH : Fld := ⟨0, 48⟩
def MEM_REGION_W1_JOB_ID : Fld := ⟨48, 16⟩

end Sys2Proof.Machine
end

