-- ==== Sys2Proof/Machine/RegTable.lean ====
section
/-! DEFINITION. The access code, cold value and warm value of every register field (R13, R15), as one table
with a row for each register of the map; instances of a register share a row (`dims` gives stride and count). -/
namespace Sys2Proof.Machine

/-- Access codes (Table 0.3). -/
inductive Acc where
  | ro | rw | rwq | w1c | w1s | rc | sc | wo
deriving DecidableEq, Repr

/-- Reset value of a field: a number; `seq a b`, the number a + b × the innermost instance index; `pool`, the
buffer count of the pool that the innermost index names (Table 9.6). -/
inductive RVal where
  | v (n : Nat)
  | seq (a b : Nat)
  | pool
deriving DecidableEq, Repr

/-- Warm column (R15): the field survives, takes a value, or shows hardware state at all times. -/
inductive WVal where
  | keep
  | live
  | v (n : Nat)
  | seq (a b : Nat)
deriving DecidableEq, Repr

/-- One row of a field table. -/
structure FieldDef where
  fld : Fld
  acc : Acc
  cold : RVal
  warm : WVal
deriving DecidableEq, Repr

/-- One register: its first offset, the stride and count of each instance index, and its fields. -/
structure RegDef where
  base : Nat
  dims : List (Nat × Nat)
  fields : List FieldDef
deriving DecidableEq, Repr

/-- Registers of the HUB block. -/
def regsHUB : List RegDef := [
  -- HUB_ID
  ⟨0x0000000, [],
    [⟨⟨0, 64⟩, .ro, .v 11534337, .keep⟩]⟩,
  -- HUB_BOOT
  ⟨0x0000100, [],
    [⟨⟨0, 4⟩, .ro, .v 4, .live⟩,
     ⟨⟨4, 1⟩, .ro, .v 0, .live⟩,
     ⟨⟨8, 4⟩, .ro, .v 0, .live⟩,
     ⟨⟨12, 2⟩, .ro, .v 0, .keep⟩,
     ⟨⟨16, 32⟩, .ro, .v 0, .keep⟩]⟩,
  -- HUB_BOOT_ADDR
  ⟨0x0000108, [],
    [⟨⟨0, 64⟩, .rw, .v 0, .keep⟩]⟩,
  -- HUB_BOOT_LEN
  ⟨0x0000110, [],
    [⟨⟨0, 32⟩, .rw, .v 0, .keep⟩,
     ⟨⟨63, 1⟩, .sc, .v 0, .v 0⟩]⟩,
  -- HUB_RT_POS
  ⟨0x0040000, [],
    [⟨⟨0, 8⟩, .ro, .v 0, .keep⟩,
     ⟨⟨8, 8⟩, .ro, .v 0, .keep⟩,
     ⟨⟨16, 8⟩, .ro, .v 0, .keep⟩,
     ⟨⟨24, 8⟩, .ro, .v 0, .keep⟩,
     ⟨⟨32, 8⟩, .ro, .v 0, .keep⟩,
     ⟨⟨40, 8⟩, .ro, .v 0, .keep⟩,
     ⟨⟨48, 8⟩, .ro, .v 0, .keep⟩,
     ⟨⟨56, 3⟩, .ro, .v 0, .keep⟩]⟩,
  -- HUB_RT_STATUS
  ⟨0x0040010, [],
    [⟨⟨0, 1⟩, .w1c, .v 0, .keep⟩,
     ⟨⟨1, 1⟩, .w1c, .v 0, .keep⟩,
     ⟨⟨2, 1⟩, .w1c, .v 0, .keep⟩,
     ⟨⟨3, 1⟩, .w1c, .v 0, .keep⟩,
     ⟨⟨4, 1⟩, .ro, .v 0, .live⟩,
     ⟨⟨56, 8⟩, .ro, .v 0, .keep⟩]⟩,
  -- HUB_CNT_FENCE_HOLD
  ⟨0x0040020, [],
    [⟨⟨0, 48⟩, .ro, .v 0, .v 0⟩]⟩,
  -- HUB_CNT_FENCE_EXPIRED
  ⟨0x0040028, [],
    [⟨⟨0, 48⟩, .ro, .v 0, .v 0⟩]⟩,
  -- HUB_CNT_FENCE_UNTRACKED
  ⟨0x0040030, [],
    [⟨⟨0, 48⟩, .ro, .v 0, .v 0⟩]⟩,
  -- HUB_CNT_REHASH
  ⟨0x0040038, [],
    [⟨⟨0, 48⟩, .ro, .v 0, .v 0⟩]⟩,
  -- HUB_CNT_LINK_LOSS
  ⟨0x0040040, [],
    [⟨⟨0, 48⟩, .ro, .v 0, .v 0⟩]⟩,
  -- HUB_RT_DOWN
  ⟨0x0040100, [(0x8, 16)],
    [⟨⟨0, 64⟩, .ro, .v 0, .live⟩]⟩,
  -- HUB_RT_JOB
  ⟨0x0050000, [(0x8, 4096)],
    [⟨⟨0, 8⟩, .rwq, .v 0, .v 0⟩,
     ⟨⟨8, 8⟩, .rwq, .v 0, .v 0⟩,
     ⟨⟨16, 8⟩, .rwq, .v 0, .v 0⟩,
     ⟨⟨24, 8⟩, .rwq, .v 0, .v 0⟩,
     ⟨⟨32, 8⟩, .rwq, .v 0, .v 0⟩,
     ⟨⟨40, 8⟩, .rwq, .v 0, .v 0⟩]⟩,
  -- HUB_CIRCUIT
  ⟨0x0060000, [(0x10, 4096)],
    [⟨⟨0, 1⟩, .rwq, .v 0, .v 0⟩,
     ⟨⟨1, 1⟩, .rwq, .v 0, .v 0⟩,
     ⟨⟨2, 16⟩, .rwq, .v 0, .v 0⟩,
     ⟨⟨18, 10⟩, .rwq, .v 0, .v 0⟩,
     ⟨⟨28, 10⟩, .rwq, .v 0, .v 0⟩,
     ⟨⟨38, 8⟩, .rwq, .v 0, .v 0⟩]⟩,
  -- HUB_CIRCUIT_W1
  ⟨0x0060008, [(0x10, 4096)],
    [⟨⟨0, 10⟩, .rwq, .v 0, .v 0⟩,
     ⟨⟨10, 11⟩, .rwq, .v 0, .v 0⟩]⟩]

/-- Registers of the FTU block. -/
def regsFTU : List RegDef := [
  -- FTU_ID
  ⟨0x0100000, [],
    [⟨⟨0, 64⟩, .ro, .v 11534338, .keep⟩]⟩,
  -- FTU_CTRL
  ⟨0x0100008, [],
    [⟨⟨0, 3⟩, .rw, .v 0, .keep⟩,
     ⟨⟨4, 10⟩, .rw, .v 0, .keep⟩,
     ⟨⟨14, 1⟩, .rw, .v 1, .keep⟩,
     ⟨⟨32, 16⟩, .rw, .v 0, .keep⟩]⟩,
  -- FTU_STATUS
  ⟨0x0100010, [],
    [⟨⟨0, 1⟩, .ro, .v 1, .keep⟩,
     ⟨⟨1, 1⟩, .ro, .v 0, .live⟩,
     ⟨⟨2, 1⟩, .ro, .v 0, .live⟩,
     ⟨⟨3, 1⟩, .w1c, .v 0, .keep⟩,
     ⟨⟨4, 1⟩, .w1c, .v 0, .keep⟩,
     ⟨⟨5, 1⟩, .w1c, .v 0, .v 0⟩,
     ⟨⟨56, 8⟩, .ro, .v 0, .keep⟩]⟩,
  -- FTU_TIME_FRAC
  ⟨0x0100020, [],
    [⟨⟨0, 16⟩, .ro, .v 0, .keep⟩]⟩,
  -- FTU_OFFSET
  ⟨0x0100028, [],
    [⟨⟨0, 64⟩, .ro, .v 0, .keep⟩]⟩,
  -- FTU_RATE_ADJ
  ⟨0x0100030, [],
    [⟨⟨0, 32⟩, .rw, .v 0, .keep⟩]⟩,
  -- FTU_LIMITS
  ⟨0x0100038, [],
    [⟨⟨0, 16⟩, .rw, .v 1000, .keep⟩,
     ⟨⟨16, 16⟩, .rw, .v 2000, .keep⟩]⟩,
  -- FTU_ALIGN
  ⟨0x0100040, [],
    [⟨⟨0, 64⟩, .ro, .v 0, .keep⟩]⟩,
  -- FTU_SRC_OFFSET
  ⟨0x0100048, [],
    [⟨⟨0, 64⟩, .ro, .v 0, .keep⟩]⟩,
  -- FTU_PEER_OFFSET
  ⟨0x0100080, [(0x8, 6)],
    [⟨⟨0, 64⟩, .ro, .v 0, .keep⟩]⟩,
  -- FTU_SLIP
  ⟨0x0100100, [(0x8, 8)],
    [⟨⟨0, 48⟩, .ro, .v 0, .v 0⟩]⟩,
  -- FTU_SLIP_LAST
  ⟨0x0100140, [],
    [⟨⟨0, 4⟩, .ro, .v 0, .v 0⟩,
     ⟨⟨8, 24⟩, .ro, .v 0, .v 0⟩,
     ⟨⟨32, 32⟩, .ro, .v 0, .v 0⟩]⟩,
  -- FTU_ALARM_TARGET
  ⟨0x0101000, [(0x10, 1024)],
    [⟨⟨0, 64⟩, .rwq, .v 0, .keep⟩]⟩,
  -- FTU_ALARM_CTRL
  ⟨0x0101008, [(0x10, 1024)],
    [⟨⟨0, 1⟩, .rwq, .v 0, .v 0⟩,
     ⟨⟨4, 4⟩, .rwq, .v 0, .keep⟩,
     ⟨⟨8, 24⟩, .rwq, .v 0, .keep⟩,
     ⟨⟨32, 32⟩, .rwq, .v 0, .keep⟩]⟩]

/-- Registers of the PWR block. -/
def regsPWR : List RegDef := [
  -- PWR_ID
  ⟨0x0200000, [],
    [⟨⟨0, 64⟩, .ro, .v 11534339, .keep⟩]⟩,
  -- PWR_CTRL
  ⟨0x0200008, [],
    [⟨⟨0, 2⟩, .rw, .v 2, .keep⟩,
     ⟨⟨2, 1⟩, .rw, .v 1, .keep⟩,
     ⟨⟨3, 2⟩, .rw, .v 3, .keep⟩]⟩,
  -- PWR_STATUS
  ⟨0x0200010, [],
    [⟨⟨0, 1⟩, .w1c, .v 0, .keep⟩,
     ⟨⟨1, 1⟩, .w1c, .v 0, .keep⟩,
     ⟨⟨2, 1⟩, .w1c, .v 0, .keep⟩,
     ⟨⟨3, 1⟩, .w1c, .v 0, .keep⟩,
     ⟨⟨4, 1⟩, .ro, .v 0, .live⟩,
     ⟨⟨56, 8⟩, .ro, .v 0, .keep⟩]⟩,
  -- PWR_LIMIT
  ⟨0x0200018, [],
    [⟨⟨0, 16⟩, .rw, .v 2900, .keep⟩,
     ⟨⟨16, 8⟩, .rw, .v 10, .keep⟩,
     ⟨⟨24, 16⟩, .rw, .v 2200, .keep⟩]⟩,
  -- PWR_THERM
  ⟨0x0200020, [],
    [⟨⟨0, 7⟩, .rw, .v 100, .keep⟩]⟩,
  -- PWR_LEVEL
  ⟨0x0200028, [],
    [⟨⟨0, 4⟩, .ro, .v 0, .keep⟩,
     ⟨⟨4, 4⟩, .ro, .v 0, .keep⟩,
     ⟨⟨8, 4⟩, .ro, .v 0, .keep⟩,
     ⟨⟨12, 4⟩, .ro, .v 0, .keep⟩,
     ⟨⟨16, 4⟩, .ro, .v 0, .keep⟩]⟩,
  -- PWR_VCORE
  ⟨0x0200030, [],
    [⟨⟨0, 16⟩, .ro, .v 0, .keep⟩,
     ⟨⟨16, 16⟩, .ro, .v 0, .keep⟩,
     ⟨⟨32, 16⟩, .ro, .v 0, .keep⟩]⟩,
  -- PWR_PKG
  ⟨0x0200038, [],
    [⟨⟨0, 16⟩, .ro, .v 0, .keep⟩]⟩,
  -- PWR_TEMP
  ⟨0x0200100, [(0x8, 64)],
    [⟨⟨0, 16⟩, .ro, .v 0, .keep⟩]⟩,
  -- PWR_HBM_TEMP
  ⟨0x0200300, [(0x8, 8)],
    [⟨⟨0, 16⟩, .ro, .v 0, .keep⟩]⟩,
  -- PWR_RAIL
  ⟨0x0200400, [(0x8, 11)],
    [⟨⟨0, 16⟩, .ro, .v 0, .keep⟩,
     ⟨⟨16, 16⟩, .ro, .v 0, .keep⟩]⟩,
  -- PWR_DOMAIN
  ⟨0x0200800, [(0x8, 128)],
    [⟨⟨0, 2⟩, .ro, .v 0, .live⟩,
     ⟨⟨8, 56⟩, .ro, .v 72057594037927935, .live⟩]⟩,
  -- PWR_CNT_ENTRY
  ⟨0x0201008, [(0x8, 3)],
    [⟨⟨0, 48⟩, .ro, .v 0, .keep⟩]⟩,
  -- PWR_CNT_DEMAND
  ⟨0x0201020, [],
    [⟨⟨0, 48⟩, .ro, .v 0, .keep⟩]⟩,
  -- PWR_CNT_THROTTLE
  ⟨0x0201028, [],
    [⟨⟨0, 48⟩, .ro, .v 0, .keep⟩]⟩,
  -- PWR_CNT_NO_ALARM
  ⟨0x0201030, [],
    [⟨⟨0, 48⟩, .ro, .v 0, .keep⟩]⟩]

/-- Registers of the FLT block. -/
def regsFLT : List RegDef := [
  -- FLT_ID
  ⟨0x0300000, [],
    [⟨⟨0, 64⟩, .ro, .v 11534340, .keep⟩]⟩,
  -- FLT_CTRL
  ⟨0x0300008, [],
    [⟨⟨0, 5⟩, .rw, .v 24, .keep⟩,
     ⟨⟨5, 1⟩, .rw, .v 1, .keep⟩,
     ⟨⟨6, 1⟩, .rw, .v 1, .keep⟩,
     ⟨⟨7, 1⟩, .rw, .v 0, .v 0⟩]⟩,
  -- FLT_STATUS
  ⟨0x0300010, [],
    [⟨⟨0, 1⟩, .ro, .v 0, .live⟩,
     ⟨⟨1, 1⟩, .w1c, .v 0, .keep⟩,
     ⟨⟨2, 1⟩, .w1c, .v 0, .keep⟩,
     ⟨⟨3, 1⟩, .ro, .v 0, .live⟩,
     ⟨⟨4, 1⟩, .ro, .v 0, .keep⟩,
     ⟨⟨5, 1⟩, .ro, .v 0, .keep⟩,
     ⟨⟨6, 1⟩, .w1c, .v 0, .keep⟩,
     ⟨⟨7, 1⟩, .w1c, .v 0, .keep⟩,
     ⟨⟨56, 8⟩, .ro, .v 0, .keep⟩]⟩,
  -- FLT_ACK
  ⟨0x0300018, [],
    [⟨⟨0, 32⟩, .wo, .v 0, .v 0⟩,
     ⟨⟨32, 16⟩, .wo, .v 0, .v 0⟩]⟩,
  -- FLT_RETURN
  ⟨0x0300020, [],
    [⟨⟨0, 7⟩, .rw, .v 0, .v 0⟩,
     ⟨⟨7, 1⟩, .rw, .v 0, .v 0⟩,
     ⟨⟨8, 1⟩, .sc, .v 0, .v 0⟩,
     ⟨⟨9, 1⟩, .ro, .v 0, .v 0⟩]⟩,
  -- FLT_BB_CTRL
  ⟨0x0300028, [],
    [⟨⟨0, 1⟩, .sc, .v 0, .v 0⟩]⟩,
  -- FLT_BB_ADDR
  ⟨0x0300030, [],
    [⟨⟨0, 24⟩, .rw, .v 2097152, .keep⟩]⟩,
  -- FLT_CNT
  ⟨0x0300080, [(0x8, 4)],
    [⟨⟨0, 48⟩, .ro, .v 0, .keep⟩]⟩,
  -- FLT_FORCE
  ⟨0x0300400, [(0x8, 192)],
    [⟨⟨0, 8⟩, .wo, .v 0, .v 0⟩,
     ⟨⟨8, 2⟩, .wo, .v 0, .v 0⟩,
     ⟨⟨10, 1⟩, .wo, .v 0, .v 0⟩,
     ⟨⟨16, 16⟩, .wo, .v 0, .v 0⟩,
     ⟨⟨32, 32⟩, .wo, .v 0, .v 0⟩]⟩,
  -- FLT_SRC
  ⟨0x0301000, [(0x8, 192)],
    [⟨⟨0, 16⟩, .ro, .v 0, .keep⟩,
     ⟨⟨16, 2⟩, .ro, .v 0, .keep⟩,
     ⟨⟨24, 40⟩, .ro, .v 0, .keep⟩]⟩]

/-- Registers of the SEC block. -/
def regsSEC : List RegDef := [
  -- SEC_ID
  ⟨0x0400000, [],
    [⟨⟨0, 64⟩, .ro, .v 11534341, .keep⟩]⟩,
  -- SEC_STATUS
  ⟨0x0400008, [],
    [⟨⟨0, 1⟩, .ro, .v 0, .keep⟩,
     ⟨⟨1, 1⟩, .ro, .v 0, .live⟩,
     ⟨⟨2, 1⟩, .w1c, .v 0, .keep⟩,
     ⟨⟨3, 1⟩, .w1c, .v 0, .keep⟩,
     ⟨⟨4, 1⟩, .w1c, .v 0, .keep⟩,
     ⟨⟨56, 8⟩, .ro, .v 0, .keep⟩]⟩,
  -- SEC_DEVICE_ID
  ⟨0x0400010, [],
    [⟨⟨0, 64⟩, .ro, .v 0, .keep⟩]⟩,
  -- SEC_CFG_DIGEST
  ⟨0x0400020, [(0x8, 4)],
    [⟨⟨0, 64⟩, .ro, .v 0, .keep⟩]⟩,
  -- SEC_BUNDLE_DIGEST
  ⟨0x0400040, [(0x8, 4)],
    [⟨⟨0, 64⟩, .ro, .v 0, .keep⟩]⟩,
  -- SEC_PLAN_DIGEST
  ⟨0x0400060, [(0x8, 4)],
    [⟨⟨0, 64⟩, .ro, .v 0, .keep⟩]⟩,
  -- SEC_OWNER_DIGEST
  ⟨0x0400080, [(0x8, 4)],
    [⟨⟨0, 64⟩, .ro, .v 0, .keep⟩]⟩,
  -- SEC_FP
  ⟨0x0400100, [(0x8, 4)],
    [⟨⟨0, 64⟩, .ro, .v 0, .keep⟩]⟩,
  -- SEC_FP_INFO
  ⟨0x0400120, [],
    [⟨⟨0, 8⟩, .ro, .v 0, .keep⟩,
     ⟨⟨8, 8⟩, .ro, .v 0, .keep⟩,
     ⟨⟨16, 8⟩, .ro, .v 1, .v 1⟩,
     ⟨⟨32, 32⟩, .ro, .v 0, .keep⟩]⟩,
  -- SEC_FP_MAP
  ⟨0x0400128, [],
    [⟨⟨0, 64⟩, .ro, .v 0, .keep⟩]⟩,
  -- SEC_PROV_STATUS
  ⟨0x0400130, [],
    [⟨⟨0, 1⟩, .ro, .v 0, .live⟩,
     ⟨⟨1, 1⟩, .w1c, .v 0, .keep⟩,
     ⟨⟨2, 1⟩, .w1c, .v 0, .keep⟩,
     ⟨⟨56, 8⟩, .ro, .v 0, .keep⟩]⟩,
  -- SEC_CNT_PROV
  ⟨0x0400138, [],
    [⟨⟨0, 32⟩, .ro, .v 0, .keep⟩,
     ⟨⟨32, 32⟩, .ro, .v 0, .keep⟩]⟩,
  -- SEC_ATT_CTRL
  ⟨0x0400200, [],
    [⟨⟨0, 1⟩, .sc, .v 0, .v 0⟩,
     ⟨⟨4, 4⟩, .ro, .v 0, .v 0⟩,
     ⟨⟨8, 16⟩, .ro, .v 0, .v 0⟩]⟩,
  -- SEC_ATT_QUOTE
  ⟨0x0400208, [(0x8, 4)],
    [⟨⟨0, 64⟩, .rw, .v 0, .keep⟩]⟩,
  -- SEC_ATT_ADDR
  ⟨0x0400228, [],
    [⟨⟨0, 16⟩, .rw, .v 0, .keep⟩]⟩,
  -- SEC_CNT_VERIFY
  ⟨0x0400238, [],
    [⟨⟨0, 32⟩, .ro, .v 0, .keep⟩,
     ⟨⟨32, 32⟩, .ro, .v 0, .keep⟩]⟩]

/-- Registers of the HIF block. (PRESUMED, log entry 73.) -/
def regsHIF : List RegDef := [
  -- HIF_ID
  ⟨0x0500000, [],
    [⟨⟨0, 64⟩, .ro, .v 11534342, .keep⟩]⟩,
  -- HIF_STATUS
  ⟨0x0500008, [],
    [⟨⟨0, 1⟩, .w1c, .v 0, .keep⟩,
     ⟨⟨1, 1⟩, .w1c, .v 0, .keep⟩,
     ⟨⟨56, 8⟩, .ro, .v 0, .keep⟩]⟩,
  -- HIF_BAR2_BASE
  ⟨0x0500010, [],
    [⟨⟨0, 2⟩, .rw, .v 0, .keep⟩]⟩,
  -- HIF_EVT_EN
  ⟨0x0500018, [],
    [⟨⟨0, 5⟩, .rw, .v 0, .keep⟩]⟩,
  -- HIF_APERTURE
  ⟨0x0500020, [(0x8, 4)],
    [⟨⟨23, 9⟩, .rw, .seq 4 2, .keep⟩]⟩,
  -- HIF_CR_BASE
  ⟨0x0510000, [(0x40, 256)],
    [⟨⟨12, 52⟩, .rw, .v 0, .keep⟩]⟩,
  -- HIF_CR_CTRL
  ⟨0x0510008, [(0x40, 256)],
    [⟨⟨0, 1⟩, .rw, .v 0, .v 0⟩,
     ⟨⟨1, 5⟩, .rw, .v 4, .keep⟩,
     ⟨⟨6, 8⟩, .rw, .v 0, .keep⟩,
     ⟨⟨14, 8⟩, .rw, .v 16, .keep⟩,
     ⟨⟨24, 20⟩, .rw, .v 0, .keep⟩,
     ⟨⟨44, 20⟩, .rw, .v 0, .keep⟩]⟩,
  -- HIF_CR_PTR
  ⟨0x0510010, [(0x40, 256)],
    [⟨⟨4, 60⟩, .rw, .v 0, .keep⟩]⟩,
  -- HIF_CR_STATUS
  ⟨0x0510018, [(0x40, 256)],
    [⟨⟨0, 32⟩, .ro, .v 0, .keep⟩,
     ⟨⟨32, 1⟩, .ro, .v 0, .keep⟩,
     ⟨⟨33, 1⟩, .ro, .v 0, .keep⟩]⟩,
  -- HIF_QR_BASE
  ⟨0x0520000, [(0x40, 256)],
    [⟨⟨12, 52⟩, .rw, .v 0, .keep⟩]⟩,
  -- HIF_QR_CTRL
  ⟨0x0520008, [(0x40, 256)],
    [⟨⟨0, 1⟩, .rw, .v 0, .v 0⟩,
     ⟨⟨1, 5⟩, .rw, .v 4, .keep⟩,
     ⟨⟨6, 9⟩, .rw, .seq 0 1, .keep⟩,
     ⟨⟨15, 8⟩, .rw, .v 0, .keep⟩,
     ⟨⟨23, 16⟩, .rw, .v 0, .keep⟩]⟩,
  -- HIF_QR_PTR
  ⟨0x0520010, [(0x40, 256)],
    [⟨⟨4, 60⟩, .rw, .v 0, .keep⟩]⟩,
  -- HIF_QR_STATUS
  ⟨0x0520018, [(0x40, 256)],
    [⟨⟨0, 32⟩, .ro, .v 0, .keep⟩,
     ⟨⟨32, 1⟩, .ro, .v 0, .keep⟩,
     ⟨⟨40, 24⟩, .ro, .v 0, .keep⟩]⟩,
  -- HIF_MSIX_ADDR
  ⟨0x0540000, [(0x10, 288)],
    [⟨⟨0, 64⟩, .rw, .v 0, .keep⟩]⟩,
  -- HIF_MSIX_DATA
  ⟨0x0540008, [(0x10, 288)],
    [⟨⟨0, 32⟩, .rw, .v 0, .keep⟩,
     ⟨⟨32, 1⟩, .rw, .v 1, .keep⟩]⟩,
  -- HIF_MSIX_PEND
  ⟨0x0542000, [(0x8, 5)],
    [⟨⟨0, 64⟩, .ro, .v 0, .keep⟩]⟩]

/-- Registers of the PUP block. -/
def regsPUP : List RegDef := [
  -- PUP_ID
  ⟨0x0600000, [],
    [⟨⟨0, 64⟩, .ro, .v 11534343, .keep⟩]⟩,
  -- PUP_STATUS
  ⟨0x0600008, [],
    [⟨⟨0, 1⟩, .w1c, .v 0, .keep⟩,
     ⟨⟨1, 1⟩, .w1c, .v 0, .keep⟩,
     ⟨⟨56, 8⟩, .ro, .v 0, .keep⟩]⟩,
  -- PUP_QER_DROP
  ⟨0x0600010, [],
    [⟨⟨0, 16⟩, .ro, .v 0, .keep⟩,
     ⟨⟨16, 32⟩, .ro, .v 0, .keep⟩,
     ⟨⟨48, 2⟩, .ro, .v 0, .keep⟩]⟩,
  -- PUP_QER_TIMEOUT
  ⟨0x0600018, [],
    [⟨⟨0, 16⟩, .rw, .v 2000, .keep⟩]⟩,
  -- PUP_QER
  ⟨0x0600100, [(0x8, 64)],
    [⟨⟨0, 2⟩, .ro, .v 0, .v 0⟩,
     ⟨⟨2, 3⟩, .ro, .v 0, .v 0⟩,
     ⟨⟨16, 16⟩, .ro, .v 0, .v 0⟩]⟩,
  -- PUP_CORE
  ⟨0x0600400, [(0x8, 8)],
    [⟨⟨0, 8⟩, .ro, .seq 1 1, .keep⟩,
     ⟨⟨8, 2⟩, .ro, .v 0, .v 0⟩]⟩]

/-- Registers of the LNK block. -/
def regsLNK : List RegDef := [
  -- LNK_ID
  ⟨0x1000000, [(0x10000, 32)],
    [⟨⟨0, 64⟩, .ro, .v 11534352, .keep⟩]⟩,
  -- LNK_BUNDLE_CTRL
  ⟨0x1000008, [(0x10000, 32)],
    [⟨⟨0, 2⟩, .ro, .v 0, .keep⟩,
     ⟨⟨2, 2⟩, .rwq, .v 0, .keep⟩,
     ⟨⟨4, 1⟩, .rwq, .v 0, .keep⟩,
     ⟨⟨5, 8⟩, .rwq, .v 255, .keep⟩,
     ⟨⟨13, 8⟩, .rwq, .v 20, .keep⟩]⟩,
  -- LNK_BUNDLE_STATUS
  ⟨0x1000010, [(0x10000, 32)],
    [⟨⟨0, 1⟩, .ro, .v 0, .keep⟩,
     ⟨⟨1, 1⟩, .ro, .v 0, .live⟩,
     ⟨⟨2, 1⟩, .w1c, .v 0, .keep⟩,
     ⟨⟨3, 1⟩, .w1c, .v 0, .keep⟩,
     ⟨⟨4, 1⟩, .w1c, .v 0, .keep⟩,
     ⟨⟨56, 8⟩, .ro, .v 0, .keep⟩]⟩,
  -- LNK_OPT_CTRL
  ⟨0x1000018, [(0x10000, 32)],
    [⟨⟨0, 1⟩, .rwq, .v 1, .keep⟩]⟩,
  -- LNK_OPT_STATUS
  ⟨0x1000020, [(0x10000, 32)],
    [⟨⟨0, 8⟩, .ro, .v 0, .keep⟩,
     ⟨⟨8, 1⟩, .ro, .v 0, .keep⟩,
     ⟨⟨9, 1⟩, .ro, .v 0, .keep⟩]⟩,
  -- LNK_LANE_STAT
  ⟨0x1000100, [(0x10000, 32), (0x8, 32)],
    [⟨⟨0, 32⟩, .ro, .v 0, .v 0⟩,
     ⟨⟨32, 16⟩, .ro, .v 0, .v 0⟩]⟩,
  -- LNK_PORT_CTRL
  ⟨0x1001000, [(0x10000, 32), (0x80, 32)],
    [⟨⟨0, 1⟩, .rwq, .v 0, .keep⟩,
     ⟨⟨1, 2⟩, .rwq, .v 0, .keep⟩,
     ⟨⟨3, 8⟩, .rwq, .v 82, .keep⟩]⟩,
  -- LNK_PORT_STATUS
  ⟨0x1001008, [(0x10000, 32), (0x80, 32)],
    [⟨⟨0, 3⟩, .ro, .v 0, .live⟩,
     ⟨⟨3, 3⟩, .ro, .v 0, .live⟩,
     ⟨⟨6, 8⟩, .ro, .v 0, .live⟩,
     ⟨⟨14, 1⟩, .ro, .v 0, .live⟩,
     ⟨⟨16, 1⟩, .w1c, .v 0, .keep⟩,
     ⟨⟨17, 1⟩, .w1c, .v 0, .keep⟩,
     ⟨⟨18, 1⟩, .w1c, .v 0, .keep⟩,
     ⟨⟨19, 1⟩, .w1c, .v 0, .keep⟩,
     ⟨⟨56, 8⟩, .ro, .v 0, .keep⟩]⟩,
  -- LNK_PORT_PEER
  ⟨0x1001010, [(0x10000, 32), (0x80, 32)],
    [⟨⟨0, 64⟩, .ro, .v 0, .v 0⟩]⟩,
  -- LNK_PORT_PEER2
  ⟨0x1001018, [(0x10000, 32), (0x80, 32)],
    [⟨⟨0, 10⟩, .ro, .v 0, .v 0⟩,
     ⟨⟨10, 8⟩, .ro, .v 0, .v 0⟩,
     ⟨⟨18, 8⟩, .ro, .v 0, .v 0⟩,
     ⟨⟨26, 8⟩, .ro, .v 0, .v 0⟩,
     ⟨⟨34, 8⟩, .ro, .v 0, .v 0⟩,
     ⟨⟨42, 3⟩, .ro, .v 0, .v 0⟩]⟩,
  -- LNK_PORT_LINK
  ⟨0x1001020, [(0x10000, 32), (0x80, 32)],
    [⟨⟨0, 16⟩, .ro, .v 0, .live⟩,
     ⟨⟨16, 8⟩, .ro, .v 0, .live⟩,
     ⟨⟨24, 3⟩, .ro, .v 0, .live⟩]⟩,
  -- LNK_CNT_RETRY
  ⟨0x1001028, [(0x10000, 32), (0x80, 32)],
    [⟨⟨0, 48⟩, .ro, .v 0, .v 0⟩]⟩,
  -- LNK_CNT_FEC
  ⟨0x1001030, [(0x10000, 32), (0x80, 32)],
    [⟨⟨0, 32⟩, .ro, .v 0, .v 0⟩,
     ⟨⟨32, 32⟩, .ro, .v 0, .v 0⟩]⟩,
  -- LNK_CNT_DOWN
  ⟨0x1001038, [(0x10000, 32), (0x80, 32)],
    [⟨⟨0, 32⟩, .ro, .v 0, .v 0⟩]⟩,
  -- LNK_CNT_LCRC
  ⟨0x1001040, [(0x10000, 32), (0x80, 32)],
    [⟨⟨0, 32⟩, .ro, .v 0, .v 0⟩]⟩,
  -- LNK_ETH_CTRL
  ⟨0x1001048, [(0x10000, 32), (0x80, 32)],
    [⟨⟨0, 24⟩, .rwq, .v 16434824, .keep⟩,
     ⟨⟨24, 1⟩, .rwq, .v 1, .keep⟩,
     ⟨⟨25, 12⟩, .rwq, .v 1, .keep⟩,
     ⟨⟨37, 1⟩, .rwq, .v 1, .keep⟩]⟩,
  -- LNK_ETH_PEER
  ⟨0x1001050, [(0x10000, 32), (0x80, 32)],
    [⟨⟨0, 48⟩, .rwq, .v 0, .keep⟩]⟩,
  -- LNK_ETH_ADDR
  ⟨0x1001058, [(0x10000, 32), (0x80, 32)],
    [⟨⟨0, 48⟩, .ro, .v 0, .keep⟩]⟩,
  -- LNK_ETH_DISCARD
  ⟨0x1001060, [(0x10000, 32), (0x80, 32)],
    [⟨⟨0, 32⟩, .ro, .v 0, .v 0⟩,
     ⟨⟨32, 32⟩, .ro, .v 0, .v 0⟩]⟩]

/-- Registers of the SWC block. -/
def regsSWC : List RegDef := [
  -- SWC_ID
  ⟨0x2000000, [(0x400000, 4)],
    [⟨⟨0, 64⟩, .ro, .v 11534353, .keep⟩]⟩,
  -- SWC_STATUS
  ⟨0x2000010, [(0x400000, 4)],
    [⟨⟨0, 1⟩, .w1c, .v 0, .keep⟩,
     ⟨⟨1, 1⟩, .w1c, .v 0, .keep⟩,
     ⟨⟨2, 1⟩, .w1c, .v 0, .keep⟩,
     ⟨⟨3, 1⟩, .w1c, .v 0, .keep⟩,
     ⟨⟨4, 1⟩, .w1c, .v 0, .keep⟩,
     ⟨⟨5, 1⟩, .ro, .v 0, .live⟩,
     ⟨⟨56, 8⟩, .ro, .v 0, .keep⟩]⟩,
  -- SWC_FENCE_TIMEOUT
  ⟨0x2000018, [(0x400000, 4)],
    [⟨⟨0, 32⟩, .rw, .v 200, .keep⟩]⟩,
  -- SWC_DFREE
  ⟨0x2000020, [(0x400000, 4)],
    [⟨⟨0, 6⟩, .ro, .v 0, .keep⟩,
     ⟨⟨6, 2⟩, .ro, .v 0, .keep⟩,
     ⟨⟨8, 24⟩, .ro, .v 0, .keep⟩,
     ⟨⟨32, 16⟩, .ro, .v 0, .keep⟩]⟩,
  -- SWC_LAST_REFUSE
  ⟨0x2000028, [(0x400000, 4)],
    [⟨⟨0, 4⟩, .ro, .v 0, .keep⟩,
     ⟨⟨4, 10⟩, .ro, .v 0, .keep⟩,
     ⟨⟨14, 16⟩, .ro, .v 0, .keep⟩,
     ⟨⟨30, 20⟩, .ro, .v 0, .keep⟩]⟩,
  -- SWC_POOL_STAT
  ⟨0x2000040, [(0x400000, 4), (0x8, 4)],
    [⟨⟨0, 32⟩, .ro, .pool, .live⟩,
     ⟨⟨32, 32⟩, .ro, .pool, .keep⟩]⟩,
  -- SWC_CNT_REFUSE
  ⟨0x2000080, [(0x400000, 4)],
    [⟨⟨0, 48⟩, .ro, .v 0, .v 0⟩]⟩,
  -- SWC_CNT_STOMP
  ⟨0x2000088, [(0x400000, 4)],
    [⟨⟨0, 48⟩, .ro, .v 0, .v 0⟩]⟩,
  -- SWC_CNT_FALLBACK
  ⟨0x2000090, [(0x400000, 4)],
    [⟨⟨0, 48⟩, .ro, .v 0, .v 0⟩]⟩,
  -- SWC_CNT_ALLOC_WAIT
  ⟨0x2000098, [(0x400000, 4)],
    [⟨⟨0, 48⟩, .ro, .v 0, .v 0⟩]⟩,
  -- SWC_CNT_SLOT_HOLD
  ⟨0x20000A0, [(0x400000, 4)],
    [⟨⟨0, 48⟩, .ro, .v 0, .v 0⟩]⟩,
  -- SWC_CNT_HOLD
  ⟨0x20000C0, [(0x400000, 4), (0x8, 3)],
    [⟨⟨0, 48⟩, .ro, .v 0, .v 0⟩]⟩,
  -- SWC_QUOTA
  ⟨0x2001000, [(0x400000, 4), (0x20, 37), (0x8, 3)],
    [⟨⟨0, 20⟩, .rwq, .v 0, .keep⟩,
     ⟨⟨20, 20⟩, .rwq, .v 1048575, .keep⟩,
     ⟨⟨40, 20⟩, .ro, .v 0, .live⟩]⟩,
  -- SWC_MIR_CTRL
  ⟨0x2002000, [(0x400000, 4), (0x40, 2)],
    [⟨⟨0, 1⟩, .rw, .v 0, .v 0⟩,
     ⟨⟨1, 2⟩, .rw, .v 0, .keep⟩,
     ⟨⟨3, 10⟩, .rw, .v 0, .keep⟩,
     ⟨⟨13, 10⟩, .rw, .v 0, .keep⟩,
     ⟨⟨23, 12⟩, .rw, .v 128, .keep⟩,
     ⟨⟨35, 16⟩, .rw, .v 64, .keep⟩]⟩,
  -- SWC_MIR_MATCH
  ⟨0x2002008, [(0x400000, 4), (0x40, 2), (0x8, 2)],
    [⟨⟨0, 64⟩, .rw, .v 0, .keep⟩]⟩,
  -- SWC_MIR_MASK
  ⟨0x2002018, [(0x400000, 4), (0x40, 2), (0x8, 2)],
    [⟨⟨0, 64⟩, .rw, .v 0, .keep⟩]⟩,
  -- SWC_MIR_CNT
  ⟨0x2002028, [(0x400000, 4), (0x40, 2)],
    [⟨⟨0, 32⟩, .ro, .v 0, .v 0⟩,
     ⟨⟨32, 32⟩, .ro, .v 0, .v 0⟩]⟩,
  -- SWC_JOB
  ⟨0x2010000, [(0x400000, 4), (0x10, 4096)],
    [⟨⟨0, 1⟩, .rwq, .v 0, .v 0⟩,
     ⟨⟨1, 16⟩, .rwq, .v 0, .v 0⟩,
     ⟨⟨17, 17⟩, .rwq, .v 0, .v 0⟩,
     ⟨⟨34, 18⟩, .rwq, .v 0, .v 0⟩,
     ⟨⟨52, 8⟩, .rwq, .v 0, .v 0⟩]⟩,
  -- SWC_JOBQ
  ⟨0x2010008, [(0x400000, 4), (0x10, 4096)],
    [⟨⟨0, 11⟩, .rwq, .v 0, .v 0⟩,
     ⟨⟨16, 11⟩, .ro, .v 0, .v 0⟩]⟩,
  -- SWC_PCNT
  ⟨0x2080000, [(0x400000, 4), (0x100, 256), (0x20, 8), (0x8, 4)],
    [⟨⟨0, 48⟩, .ro, .v 0, .v 0⟩]⟩,
  -- SWC_RTT
  ⟨0x2200000, [(0x400000, 4), (0x10, 131072)],
    [⟨⟨0, 1⟩, .rwq, .v 0, .v 0⟩,
     ⟨⟨1, 2⟩, .rwq, .v 0, .v 0⟩,
     ⟨⟨6, 10⟩, .rwq, .v 0, .v 0⟩,
     ⟨⟨16, 8⟩, .rwq, .v 0, .v 0⟩,
     ⟨⟨24, 8⟩, .rwq, .v 0, .v 0⟩,
     ⟨⟨32, 8⟩, .rwq, .v 0, .v 0⟩,
     ⟨⟨40, 8⟩, .rwq, .v 0, .v 0⟩]⟩,
  -- SWC_RTT_W1
  ⟨0x2200008, [(0x400000, 4), (0x10, 131072)],
    [⟨⟨0, 20⟩, .rwq, .v 0, .v 0⟩,
     ⟨⟨20, 16⟩, .rwq, .v 0, .v 0⟩]⟩]

/-- Registers of the TSC block. -/
def regsTSC : List RegDef := [
  -- TSC_ID
  ⟨0x3000000, [(0x1000, 1024)],
    [⟨⟨0, 64⟩, .ro, .v 11534354, .keep⟩]⟩,
  -- TSC_GATE_CTRL
  ⟨0x3000008, [(0x1000, 1024)],
    [⟨⟨0, 17⟩, .rwq, .v 0, .v 0⟩,
     ⟨⟨17, 11⟩, .rwq, .v 0, .v 0⟩,
     ⟨⟨28, 10⟩, .rwq, .seq 0 1, .seq 0 1⟩]⟩,
  -- TSC_GATE_TIME
  ⟨0x3000010, [(0x1000, 1024)],
    [⟨⟨0, 30⟩, .rwq, .v 0, .v 0⟩,
     ⟨⟨32, 30⟩, .rwq, .v 0, .v 0⟩]⟩,
  -- TSC_GATE_STATUS
  ⟨0x3000018, [(0x1000, 1024)],
    [⟨⟨0, 10⟩, .ro, .v 0, .live⟩,
     ⟨⟨10, 8⟩, .ro, .v 255, .live⟩,
     ⟨⟨32, 32⟩, .ro, .v 0, .v 0⟩]⟩,
  -- TSC_STATUS
  ⟨0x3000020, [(0x1000, 1024)],
    [⟨⟨0, 1⟩, .w1c, .v 0, .keep⟩,
     ⟨⟨1, 1⟩, .w1c, .v 0, .keep⟩,
     ⟨⟨2, 1⟩, .w1c, .v 0, .keep⟩,
     ⟨⟨3, 1⟩, .ro, .v 1, .live⟩,
     ⟨⟨56, 8⟩, .ro, .v 0, .keep⟩]⟩,
  -- TSC_THROTTLE
  ⟨0x3000028, [(0x1000, 1024)],
    [⟨⟨0, 16⟩, .rwq, .v 256, .keep⟩,
     ⟨⟨16, 16⟩, .rwq, .v 64, .keep⟩,
     ⟨⟨32, 4⟩, .rwq, .v 1, .keep⟩,
     ⟨⟨36, 8⟩, .rwq, .v 1, .keep⟩,
     ⟨⟨44, 4⟩, .ro, .v 8, .v 8⟩,
     ⟨⟨48, 4⟩, .ro, .v 8, .v 8⟩,
     ⟨⟨52, 4⟩, .ro, .v 8, .v 8⟩,
     ⟨⟨63, 1⟩, .rwq, .v 1, .keep⟩]⟩,
  -- TSC_SHAPER
  ⟨0x3000040, [(0x1000, 1024), (0x8, 8)],
    [⟨⟨0, 21⟩, .rwq, .v 0, .keep⟩,
     ⟨⟨24, 24⟩, .rwq, .v 0, .keep⟩,
     ⟨⟨62, 1⟩, .rwq, .v 0, .keep⟩,
     ⟨⟨63, 1⟩, .rwq, .v 0, .keep⟩]⟩,
  -- TSC_POLICER
  ⟨0x3000080, [(0x1000, 1024), (0x8, 8)],
    [⟨⟨0, 21⟩, .rwq, .v 0, .keep⟩,
     ⟨⟨24, 24⟩, .rwq, .v 0, .keep⟩,
     ⟨⟨63, 1⟩, .rwq, .v 0, .keep⟩]⟩,
  -- TSC_CNT_DEFER
  ⟨0x3000100, [(0x1000, 1024)],
    [⟨⟨0, 48⟩, .ro, .v 0, .v 0⟩]⟩,
  -- TSC_CNT_OVERRUN
  ⟨0x3000108, [(0x1000, 1024)],
    [⟨⟨0, 48⟩, .ro, .v 0, .v 0⟩]⟩,
  -- TSC_CNT_THROTTLE
  ⟨0x3000110, [(0x1000, 1024)],
    [⟨⟨0, 48⟩, .ro, .v 0, .v 0⟩]⟩,
  -- TSC_CNT_POLICE_DROP
  ⟨0x3000118, [(0x1000, 1024)],
    [⟨⟨0, 48⟩, .ro, .v 0, .v 0⟩]⟩,
  -- TSC_GMEM
  ⟨0x3400000, [(0x80000, 4), (0x8, 65536)],
    [⟨⟨0, 64⟩, .rwq, .v 0, .v 0⟩]⟩,
  -- TSC_TEL_CTRL
  ⟨0x3600000, [],
    [⟨⟨0, 1⟩, .rw, .v 0, .v 0⟩]⟩,
  -- TSC_SAMPLE_PERIOD
  ⟨0x3600008, [],
    [⟨⟨0, 20⟩, .rw, .v 0, .v 0⟩]⟩,
  -- TSC_TEL_BASE
  ⟨0x3600010, [],
    [⟨⟨12, 52⟩, .rw, .v 0, .v 0⟩]⟩,
  -- TSC_TEL_SIZE
  ⟨0x3600018, [],
    [⟨⟨0, 5⟩, .rw, .v 0, .v 0⟩]⟩,
  -- TSC_TEL_HEAD
  ⟨0x3600020, [],
    [⟨⟨0, 64⟩, .ro, .v 0, .v 0⟩]⟩,
  -- TSC_TEL_TAIL
  ⟨0x3600028, [],
    [⟨⟨0, 64⟩, .rw, .v 0, .v 0⟩]⟩,
  -- TSC_TEL_SKIPPED
  ⟨0x3600030, [],
    [⟨⟨0, 48⟩, .ro, .v 0, .v 0⟩]⟩,
  -- TSC_TEL_PORTMASK
  ⟨0x3600100, [(0x8, 16)],
    [⟨⟨0, 64⟩, .rw, .v 0, .v 0⟩]⟩]

/-- Registers of the RED block. -/
def regsRED : List RegDef := [
  -- RED_ID
  ⟨0x4000000, [(0x10000, 16)],
    [⟨⟨0, 64⟩, .ro, .v 11534355, .keep⟩]⟩,
  -- RED_CTRL
  ⟨0x4000008, [(0x10000, 16)],
    [⟨⟨0, 1⟩, .rwq, .v 1, .keep⟩]⟩,
  -- RED_STATUS
  ⟨0x4000010, [(0x10000, 16)],
    [⟨⟨0, 1⟩, .ro, .v 0, .keep⟩,
     ⟨⟨1, 1⟩, .w1c, .v 0, .keep⟩,
     ⟨⟨2, 1⟩, .w1c, .v 0, .keep⟩,
     ⟨⟨3, 1⟩, .w1c, .v 0, .keep⟩,
     ⟨⟨4, 1⟩, .ro, .v 0, .live⟩,
     ⟨⟨56, 8⟩, .ro, .v 0, .keep⟩]⟩,
  -- RED_TAG_TIMEOUT
  ⟨0x4000018, [(0x10000, 16)],
    [⟨⟨0, 32⟩, .rw, .v 50000, .keep⟩]⟩,
  -- RED_DATA_TIMEOUT
  ⟨0x4000020, [(0x10000, 16)],
    [⟨⟨0, 32⟩, .rw, .v 100000, .keep⟩]⟩,
  -- RED_RESIDUE
  ⟨0x4000028, [(0x10000, 16)],
    [⟨⟨0, 16⟩, .ro, .v 0, .keep⟩,
     ⟨⟨16, 48⟩, .ro, .v 0, .keep⟩]⟩,
  -- RED_STAGING
  ⟨0x4000030, [(0x10000, 16)],
    [⟨⟨0, 16⟩, .ro, .v 0, .v 0⟩,
     ⟨⟨16, 16⟩, .ro, .v 0, .keep⟩]⟩,
  -- RED_ACTIVE
  ⟨0x4000038, [(0x10000, 16)],
    [⟨⟨0, 16⟩, .ro, .v 0, .v 0⟩,
     ⟨⟨16, 16⟩, .ro, .v 0, .v 0⟩]⟩,
  -- RED_CNT_LAUNCH
  ⟨0x4000040, [(0x10000, 16)],
    [⟨⟨0, 48⟩, .ro, .v 0, .v 0⟩]⟩,
  -- RED_CNT_ELEM
  ⟨0x4000048, [(0x10000, 16)],
    [⟨⟨0, 48⟩, .ro, .v 0, .v 0⟩]⟩,
  -- RED_CNT_ESCAPE
  ⟨0x4000050, [(0x10000, 16)],
    [⟨⟨0, 48⟩, .ro, .v 0, .v 0⟩]⟩,
  -- RED_CNT_EARLY
  ⟨0x4000058, [(0x10000, 16)],
    [⟨⟨0, 48⟩, .ro, .v 0, .v 0⟩]⟩,
  -- RED_CNT_DUP
  ⟨0x4000060, [(0x10000, 16)],
    [⟨⟨0, 48⟩, .ro, .v 0, .v 0⟩]⟩,
  -- RED_CNT_IGNORED
  ⟨0x4000068, [(0x10000, 16)],
    [⟨⟨0, 48⟩, .ro, .v 0, .v 0⟩]⟩,
  -- RED_CSET_NEXT
  ⟨0x4001000, [(0x10000, 16), (0x8, 1024)],
    [⟨⟨0, 32⟩, .ro, .v 0, .v 0⟩,
     ⟨⟨32, 1⟩, .ro, .v 0, .v 0⟩,
     ⟨⟨48, 16⟩, .ro, .v 0, .v 0⟩]⟩]

/-- Registers of the CORE block. -/
def regsCORE : List RegDef := [
  -- CORE_ID
  ⟨0x5000000, [(0x10000, 80)],
    [⟨⟨0, 64⟩, .ro, .v 11534356, .keep⟩]⟩,
  -- CORE_CTRL
  ⟨0x5000008, [(0x10000, 80)],
    [⟨⟨0, 1⟩, .rwq, .v 1, .keep⟩]⟩,
  -- CORE_STATUS
  ⟨0x5000010, [(0x10000, 80)],
    [⟨⟨0, 3⟩, .ro, .v 0, .live⟩,
     ⟨⟨3, 1⟩, .ro, .v 0, .keep⟩,
     ⟨⟨4, 2⟩, .ro, .v 0, .live⟩,
     ⟨⟨8, 8⟩, .ro, .v 0, .keep⟩,
     ⟨⟨16, 1⟩, .w1c, .v 0, .v 0⟩,
     ⟨⟨17, 1⟩, .w1c, .v 0, .v 0⟩,
     ⟨⟨18, 1⟩, .w1c, .v 0, .keep⟩,
     ⟨⟨56, 8⟩, .ro, .v 0, .keep⟩]⟩,
  -- CORE_STALL
  ⟨0x5000038, [(0x10000, 80)],
    [⟨⟨0, 32⟩, .ro, .v 0, .v 0⟩,
     ⟨⟨32, 32⟩, .ro, .v 0, .v 0⟩]⟩,
  -- CORE_ROWMAP
  ⟨0x5000040, [(0x10000, 80), (0x8, 4)],
    [⟨⟨0, 7⟩, .ro, .v 0, .keep⟩,
     ⟨⟨8, 7⟩, .ro, .v 0, .keep⟩]⟩,
  -- CORE_IDLE
  ⟨0x5000100, [(0x10000, 80), (0x8, 9)],
    [⟨⟨0, 48⟩, .ro, .v 0, .v 0⟩]⟩,
  -- CORE_CNT_ISSUE
  ⟨0x5000148, [(0x10000, 80)],
    [⟨⟨0, 48⟩, .ro, .v 0, .v 0⟩]⟩,
  -- CORE_CNT_BUSY
  ⟨0x5000150, [(0x10000, 80)],
    [⟨⟨0, 48⟩, .ro, .v 0, .v 0⟩]⟩]

/-- Registers of the CLU block. -/
def regsCLU : List RegDef := [
  -- CLU_ID
  ⟨0x6000000, [(0x10000, 16)],
    [⟨⟨0, 64⟩, .ro, .v 11534357, .keep⟩]⟩,
  -- CLU_MAP
  ⟨0x6000008, [(0x10000, 16)],
    [⟨⟨0, 3⟩, .ro, .v 0, .keep⟩,
     ⟨⟨3, 3⟩, .ro, .v 0, .keep⟩,
     ⟨⟨6, 3⟩, .ro, .v 0, .keep⟩,
     ⟨⟨9, 3⟩, .ro, .v 0, .keep⟩,
     ⟨⟨12, 3⟩, .ro, .v 0, .keep⟩,
     ⟨⟨15, 1⟩, .ro, .v 0, .keep⟩]⟩,
  -- CLU_STATUS
  ⟨0x6000010, [(0x10000, 16)],
    [⟨⟨0, 1⟩, .ro, .v 0, .live⟩,
     ⟨⟨1, 1⟩, .ro, .v 0, .live⟩,
     ⟨⟨2, 1⟩, .w1c, .v 0, .keep⟩,
     ⟨⟨3, 1⟩, .w1c, .v 0, .keep⟩,
     ⟨⟨56, 8⟩, .ro, .v 0, .keep⟩]⟩,
  -- CLU_SWAP
  ⟨0x6000018, [(0x10000, 16)],
    [⟨⟨0, 2⟩, .rwq, .v 0, .v 0⟩,
     ⟨⟨2, 1⟩, .rwq, .v 0, .v 0⟩]⟩,
  -- CLU_CNT_SWAP
  ⟨0x6000020, [(0x10000, 16)],
    [⟨⟨0, 48⟩, .ro, .v 0, .keep⟩,
     ⟨⟨48, 2⟩, .ro, .v 0, .keep⟩,
     ⟨⟨50, 2⟩, .ro, .v 0, .keep⟩]⟩,
  -- CLU_SYNC_REFUSED
  ⟨0x6000028, [(0x10000, 16)],
    [⟨⟨0, 48⟩, .ro, .v 0, .keep⟩]⟩]

/-- Registers of the MEM block. -/
def regsMEM : List RegDef := [
  -- MEM_ID
  ⟨0x7000000, [],
    [⟨⟨0, 64⟩, .ro, .v 11534358, .keep⟩]⟩,
  -- MEM_STATUS
  ⟨0x7000008, [],
    [⟨⟨0, 4⟩, .ro, .v 0, .live⟩,
     ⟨⟨4, 4⟩, .ro, .v 0, .live⟩,
     ⟨⟨8, 4⟩, .ro, .v 0, .live⟩,
     ⟨⟨12, 1⟩, .w1c, .v 0, .keep⟩,
     ⟨⟨13, 1⟩, .w1c, .v 0, .keep⟩,
     ⟨⟨14, 1⟩, .w1c, .v 0, .keep⟩,
     ⟨⟨15, 1⟩, .w1c, .v 0, .keep⟩,
     ⟨⟨56, 8⟩, .ro, .v 0, .keep⟩]⟩,
  -- MEM_SCRUB
  ⟨0x7000010, [],
    [⟨⟨0, 1⟩, .rw, .v 1, .keep⟩,
     ⟨⟨1, 8⟩, .rw, .v 24, .keep⟩]⟩,
  -- MEM_ERR_LAST
  ⟨0x7000018, [],
    [⟨⟨0, 48⟩, .ro, .v 0, .keep⟩,
     ⟨⟨48, 3⟩, .ro, .v 0, .keep⟩,
     ⟨⟨51, 1⟩, .ro, .v 0, .keep⟩]⟩,
  -- MEM_TIER_SIZE
  ⟨0x7000040, [(0x8, 4)],
    [⟨⟨0, 16⟩, .ro, .v 0, .live⟩,
     ⟨⟨16, 16⟩, .ro, .v 0, .live⟩,
     ⟨⟨32, 16⟩, .ro, .v 0, .live⟩]⟩,
  -- MEM_CNT_REREAD
  ⟨0x7000080, [(0x8, 4)],
    [⟨⟨0, 48⟩, .ro, .v 0, .keep⟩]⟩,
  -- MEM_CNT_PERSIST
  ⟨0x70000C0, [(0x8, 4)],
    [⟨⟨0, 48⟩, .ro, .v 0, .keep⟩]⟩,
  -- MEM_REGION
  ⟨0x7001000, [(0x10, 1024)],
    [⟨⟨0, 48⟩, .rwq, .v 0, .keep⟩,
     ⟨⟨48, 1⟩, .rwq, .v 0, .keep⟩,
     ⟨⟨49, 1⟩, .rwq, .v 0, .keep⟩]⟩,
  -- MEM_REGION_W1
  ⟨0x7001008, [(0x10, 1024)],
    [⟨⟨0, 48⟩, .rwq, .v 0, .keep⟩,
     ⟨⟨48, 16⟩, .rwq, .v 0, .keep⟩]⟩]

/-- Every register of the device. -/
def regTable : List RegDef :=
  regsHUB ++ regsFTU ++ regsPWR ++ regsFLT ++ regsSEC ++ regsHIF ++ regsPUP ++ regsLNK ++ regsSWC ++ regsTSC ++ regsRED ++ regsCORE ++ regsCLU ++ regsMEM

end Sys2Proof.Machine
end

