-- ==== Sys2Proof/Machine/Regs.lean ====
section
/-! DEFINITION. Which register stands at a CSR offset, and its value after cold and warm reset (R12, R15, R387). -/
namespace Sys2Proof.Machine

/-- The instance indices that a distance from a register's base spells, outermost first. -/
def matchDims : List (Nat × Nat) → Nat → Option (List Nat)
  | [], x => if x = 0 then some [] else none
  | (st, n) :: ds, x =>
    if x / st < n then (matchDims ds (x % st)).map (fun l => (x / st) :: l) else none

/-- A register of a list and its indices, by CSR offset. -/
def findIn : List RegDef → Nat → Option (RegDef × List Nat)
  | [], _ => none
  | r :: rs, off =>
    if off < r.base then findIn rs off
    else match matchDims r.dims (off - r.base) with
      | some ix => some (r, ix)
      | none => findIn rs off

/-- The registers of the block that an offset falls in (Table 15.2). -/
def blockOf (off : Nat) : List RegDef :=
  if off < 0x100000 then regsHUB
  else if off < 0x200000 then regsFTU
  else if off < 0x300000 then regsPWR
  else if off < 0x400000 then regsFLT
  else if off < 0x500000 then regsSEC
  else if off < 0x600000 then regsHIF
  else if off < 0x700000 then regsPUP
  else if off < 0x1000000 then []
  else if off < 0x2000000 then regsLNK
  else if off < 0x3000000 then regsSWC
  else if off < 0x4000000 then regsTSC
  else if off < 0x5000000 then regsRED
  else if off < 0x6000000 then regsCORE
  else if off < 0x7000000 then regsCLU
  else if off < 0x7100000 then regsMEM
  else []

/-- The register at a CSR offset; none where the map assigns none (R12). -/
def findReg (off : Nat) : Option (RegDef × List Nat) := findIn (blockOf off) off

/-- Buffers of pool P0 to P3 on each die (Table 9.6). -/
def poolSize (i : Nat) : Nat :=
  match i with
  | 0 => 65536
  | 1 => 32768
  | 2 => 26744
  | _ => 1024

/-- Buffers of a pool that are free when no fabric port is up: the pair links of a die hold 48 dedicated P2 buffers
(R255, R259). -/
def poolFree (i : Nat) : Nat := if i = 2 then poolSize 2 - 48 else poolSize i

/-- A reset value for the innermost index `i`. -/
def RVal.at (r : RVal) (i : Nat) : Nat :=
  match r with
  | .v n => n
  | .seq a b => a + b * i
  | .pool => poolFree i

/-- Cold value of a register's fields. (DESIGN CHOICE, log entry 71.) -/
def coldFields : List FieldDef → Nat → Word
  | [], _ => 0
  | f :: fs, i => fset f.fld (coldFields fs i) (f.cold.at i)

/-- The cold value at a CSR offset; an unassigned offset reads 0 (R12, R15). (DESIGN CHOICE, log entry 72.) -/
def coldValue (off : Nat) : Word :=
  match findReg off with
  | none => 0
  | some (r, ix) => coldFields r.fields (ix.getLastD 0)

/-- The Warm column applied to a value (R15). -/
def warmFields : List FieldDef → Nat → Word → Word
  | [], _, v => v
  | f :: fs, i, v =>
    let v' := warmFields fs i v
    match f.warm with
    | .keep => v'
    | .live => v'
    | .v n => fset f.fld v' n
    | .seq a b => fset f.fld v' (a + b * i)

/-- The value a register takes at a warm reset. -/
def warmValue (off : Nat) (v : Word) : Word :=
  match findReg off with
  | none => v
  | some (r, ix) => warmFields r.fields (ix.getLastD 0) v

end Sys2Proof.Machine
end

