-- ==== Sys2Proof/Machine/State.lean ====
section
/-! DEFINITION. The state of the device, as plain data; the reasons a step can stop; the state after reset. -/
namespace Sys2Proof.Machine

/-! ### Power, pins and start-up -/

/-- The pins, the rails and where start-up stands (R386, R417, R441, R465, R483). -/
structure Boot where
  /-- VSTBY is up: the standby domain runs. -/
  vstby : Bool
  /-- Every other rail is up. -/
  rails : Bool
  /-- PORST_N is low: the device is held in cold reset. -/
  porst : Bool
  /-- A warm reset is running. -/
  warm : Bool
  /-- Start-up has passed step 11: every unit runs. -/
  up : Bool
  /-- Step 13 has ended: the PCIe endpoint is fully open (R465, R467); and FT, in ns, at which the step in progress began. -/
  opened : Bool
  stepAt : Word
  /-- PCIe boot: waiting at step 7 for a bundle (R463). -/
  pcieBoot : Bool
  /-- The HALT latch of the standby domain (R441). -/
  halt : Bool
  /-- PERST_N is low. -/
  perst : Bool
  /-- The PCIe link is up. -/
  pcieUp : Bool
  /-- Power state D3hot (R383). -/
  d3hot : Bool
  /-- T_align that the crossings still wait for (R46). -/
  aligning : Option Word
  /-- RREFCLK is lost: FT runs from the standby oscillator (R480). -/
  clockLost : Bool
  /-- The start-up in progress left a warm reset (R469). -/
  fromWarm : Bool
  /-- Instruction of the test access port (R487), and the boundary register's bits that drive the balls. -/
  tapIr : TapIns
  tapDr : List Bool
  /-- Dynamic address of the management port; none while it answers at its SMBus address (R403). -/
  mgmtAddr : Option (BitVec 7)
  /-- MSI-X Enable and Function Mask of the function (R396). -/
  msixEn : Bool
  msixMask : Bool
  /-- MCTP endpoint IDs, over I3C and over PCIe VDM; 0 while none is assigned (R404). -/
  eidI3c : Byte
  eidVdm : Byte
deriving DecidableEq, Repr

/-- One copy of an area of MRAM and its CRC-32C (Table 18.1). -/
structure Copy where
  bytes : List Byte
  crc : BitVec 32
deriving DecidableEq, Repr

/-- What survives in MRAM below the black box (Table 18.1), in the boot ROM (R457) and in the boot flash (R462). -/
structure Nvm where
  cfgA : ConfigRecord
  cfgB : ConfigRecord
  /-- PUF helper data, and the wrapped device keys, two copies each (R453, R454). -/
  helperA : Copy
  helperB : Copy
  wrappedA : Copy
  wrappedB : Copy
  /-- The owner slot's OWNER object, if it holds one (R461). -/
  owner : Option Signed
  /-- The two copies of the cold-boot count. -/
  coldA : BitVec 32
  coldB : BitVec 32
  /-- What certificates name the Fjarestan roots by; the boot ROM holds the roots' digests. (DESIGN CHOICE, log entry 5.) -/
  roots : List (BitVec 256)
  /-- SEQUENCE and bundle of flash slots 0 and 1. -/
  slot0 : Option (BitVec 32 × BundleImage)
  slot1 : Option (BitVec 32 × BundleImage)
  planSlot : Option Plan
deriving DecidableEq, Repr

/-! ### Fabric time -/

/-- An alarm that has fired and whose action has not yet taken effect. -/
structure Fired where
  alarm : AlarmId
  action : BitVec 4
  index : BitVec 24
  /-- The target FT, and whether the alarm fired late (R49). -/
  target : Word
  late : Bool
  /-- FT at which it takes effect: the target, or, of a late alarm, the firing and the action's lead after it. -/
  due : Word
  /-- It has met a waking domain, and its POWER_WAKE slip has been counted (R51). -/
  met : Bool
deriving DecidableEq, Repr

/-- The fabric time unit (R33–R51). -/
structure Ftu where
  /-- FT in units of 2^-16 ns. -/
  ft : Nat
  /-- Fractional accumulator of R34, in units of 2^-32 of a unit. -/
  acc : Nat
  /-- Seconds value yielded by the source and not yet applied. -/
  seconds : Option Word
  /-- FT of the last FT_PPS edge, in 2^-16 ns (R481). -/
  lastEdge : Option Nat
  /-- FT of the last accepted edge or of entering the discipline, in 2^-16 ns (R41). -/
  lastGood : Nat
  /-- Phase errors of the latest consecutive glitch edges, newest first, 2^-16 ns. -/
  glitches : List Int
  /-- FT at which holdover began. -/
  holdStart : Option Nat
  /-- Consecutive edges with the measured offset within 10 ns (R43). -/
  inRange : Nat
  fired : List Fired
  /-- Job whose schedule holds each alarm (R50). -/
  owner : List (Nat × BitVec 16)
  /-- Seconds value reported so far by PFP: the last seconds of each direction. -/
  peerSeen : List (Nat × Word)
  /-- Torus directions whose neighbour has reported an offset since SRC last changed (R40). -/
  peers : List Nat
  /-- The servo's samples since SRC last changed, newest first (R42). -/
  samples : List Word
deriving DecidableEq, Repr

/-! ### Faults and the black box -/

/-- An event record (Table 17.4). -/
structure EventRec where
  seq : BitVec 32
  cls : BitVec 2
  forced : Bool
  closed : Bool
  kind : BitVec 4
  mergeCnt : BitVec 16
  firstFt : Word
  firstDetail : BitVec 32
  topDetail : BitVec 32
  firstSource : Byte
  firstCause : Byte
  topSource : Byte
  topCause : Byte
  job : BitVec 16
  sources : BitVec 192
deriving DecidableEq, Repr

/-- The fault collector, the black box and the in-field test plan (R430–R451). -/
structure Flt where
  /-- The open record. -/
  cur : Option EventRec
  /-- SEQ of the next record. -/
  nextSeq : BitVec 32
  /-- The black box, by 8-byte word: MRAM offset / 8 (Table 17.5). Unlisted words are 0 (R437). -/
  bb : List (Nat × Word)
  /-- Record slots (MRAM offsets) whose cells fail verification (R436). -/
  bbBad : List Nat
  /-- A snapshot being written: FT of its start and SEQ of its record. -/
  snap : Option (Word × BitVec 32)
  /-- The HALT being sealed: FT of t0 and the record at t0. -/
  haltRec : Option (Word × EventRec)
  /-- SEQ of the sealed record. -/
  sealedSeq : BitVec 32
  /-- The HALT was forced: only a power cycle ends it (R434). -/
  haltForced : Bool
  /-- History: page being written, records in it. -/
  histPage : Nat
  histCount : Nat
  /-- The page in hand: its start in whole seconds of FT, then its records, oldest first. -/
  hist : List (BitVec 32)
  /-- Levels and events since the last history record (R439). -/
  secPower : BitVec 4
  secThermal : BitVec 4
  secTemp : Nat
  secThrottled : Bool
  secEdc : Bool
  secFault : Bool
  /-- Package power samples of the second: their sum in mW, and how many. -/
  secWatts : Nat
  secSamples : Nat
  /-- Units under observation and what remains of their 168 powered hours, in seconds (R449): cores 0–79, engines 80–95. -/
  obs : List (Nat × Nat)
  /-- Units with a lasting fence, kept in the black box (R450). -/
  lasting : List Nat
  /-- Tests that run or wait: unit and reason (0 periodic, 1 observation, 2 return, 3 after a failed WAKE); 4 is the WAKE
  kernel of a core that is to be a spare, and 5 marks a core that waits for the swap of R448 at its next step boundary. -/
  tests : List (Nat × Nat)
  /-- Cores whose FULL test is due and waits for a window (R447). -/
  due : List Nat
  /-- TEST_START requests that wait for one of alarms 960–967 (R409). -/
  wantAlarm : List Nat
  /-- FT, in ns, from which the next FULL test of a core falls due (R447): its last pass, or the start of its observation;
  unlisted, 0. -/
  passed : List (Nat × Word)
  /-- Cores that a swap of reason TEST has taken out, until their test ends (R157). -/
  swapped : List Nat
deriving DecidableEq, Repr

/-! ### Security -/

/-- A unit of SEC work (R459). -/
inductive SecWork where
  | statement (port : Port) (st : Statement)
  | proof (port : Port)
  | signProof (port : Port)
  | attest
  | prov
  /-- The plan or the FLOW image of the entry at the front of a command ring. -/
  | ring (r : RingId)
  /-- An owner record. -/
  | owner (record : Signed)
deriving DecidableEq, Repr

/-- A provenance request in progress (R371–R376). -/
structure ProvReq where
  ring : RingId
  index : BitVec 16
  tag : BitVec 32
  job : BitVec 16
  words : List Word
  /-- FT at which the request came to the front. -/
  since : Word
  /-- Its wait has been satisfied (R374); a read of it from host memory failed (R376). -/
  met : Bool
  lost : Bool
deriving DecidableEq, Repr

/-- A provenance record that the device keeps for PRIOR spans (R377): its ID, job and 32 words. -/
structure ProvRec where
  id : BitVec 32
  job : BitVec 16
  words : List Word
deriving DecidableEq, Repr

/-- The SEC unit (R453–R471, R371–R377). -/
structure Sec where
  /-- Verified configuration record in use, and which copy. -/
  cfg : ConfigRecord
  /-- The PUF's power-up state as read, the root key, and the key store: the private halves of the device keys, RSA and
  SLH-DSA (R453, R454). -/
  puf : List Byte
  rootKey : Option (BitVec 256)
  keys : Option (List Byte × List Byte)
  bundle : Option BundleImage
  plan : Option Plan
  work : List SecWork
  /-- Statements verified since cold reset (R335), and those received per port. -/
  known : List Statement
  peers : List (Nat × Statement)
  nonce : BitVec 128
  /-- FT at which the device's own statement was signed (R334). -/
  signFt : Word
  /-- Challenge sent on each port (R334). -/
  challenge : List (Nat × BitVec 128)
  /-- The latched attestation body and the finished report. -/
  body : List Byte
  report : List Byte
  prov : List ProvReq
  records : List ProvRec
  nextRecord : BitVec 32
  /-- Fingerprint of the last computation (R365). -/
  fp : BitVec 256
  /-- Steps run again since cold reset, a timing source of Table 14.2 (R370). -/
  reruns : Nat
deriving DecidableEq, Repr

/-! ### Power -/

/-- The power manager's working state (R406–R422). -/
structure Pwr where
  /-- Domains whose wake is in progress, and those still entering a state. -/
  waking : List Nat
  entering : List Nat
  /-- Wake alarms held: domain and alarm number (R409). -/
  alarms : List (Nat × Nat)
  /-- Domains held shallower for want of an alarm, to be evaluated again. -/
  starved : List Nat
  /-- A job RESTART FT has passed since reset, and, once it had, SYNC was 1 or SRC FREE (R411). -/
  restarted : Bool
  planned : Bool
  /-- Consecutive samples at or above 110 °C, and 10 µs samples above 105 °C, by sensor. -/
  hot110 : List (Nat × Nat)
  hot105 : List (Nat × Nat)
  /-- Consecutive unanswered reads by rail (R418). -/
  silent : List (Nat × Nat)
  /-- FT until which the EDC alert holds level 8 (R420). -/
  edcUntil : Word
  /-- FT of the last rise and fall of the power level and of each die's thermal level. -/
  lastStep : List (Nat × Word)
  /-- HBM stacks at double refresh (R422). -/
  refresh : List Nat
  /-- PMBus readings of VCORE, kept apart from PWR_RAIL (R418): mV, current. -/
  vcorePmbus : Word
  /-- READ_TEMPERATURE_1 of each rail's regulator (R418), and the STATUS_WORDs last read (R477). -/
  railTemp : List (Nat × BitVec 16)
  statusWords : List (BitVec 16)
  /-- Package power in mW at each AVSBus read, and the VCORE current in A, newest first (R420). -/
  watts : List Nat
  amps : List Nat
  /-- The last 1,000 samples of the sensors, newest first, each with VCORE's millivolts and amperes (R443). -/
  trace : List (List (BitVec 16) × BitVec 16 × BitVec 16)
deriving DecidableEq, Repr

/-! ### Host interface -/

/-- A command entry in the device's queue of a ring (R390, R392). -/
structure CmdEntry where
  index : BitVec 16
  words : List Word
deriving DecidableEq, Repr

/-- A command ring's working state. -/
structure CmdRing where
  queue : List CmdEntry
  fetchAt : Option Word
  /-- A fetch runs; the planned FT it serves. -/
  fetching : Option Word
  /-- A second fetch waits for the first to end (R389). -/
  again : Option Word
  /-- A serial command holds back later entries (R392). -/
  serial : Bool
  /-- HCLK cycle of the latest fetch point (R389). -/
  point : Nat
deriving DecidableEq, Repr

/-- A completion entry before it is written (Table 15.5): kind, ring, index, job and words 2 on. -/
structure Cpl where
  kind : BitVec 3
  cmdRing : Byte
  cmdIndex : BitVec 16
  job : BitVec 16
  body : List Word
  /-- Work that waits for the entry's writing (R123, R374): an object to signal. -/
  signal : Option (Nat × BitVec 64)
  /-- The completion of a serial command (R392). -/
  serial : Bool := false
deriving DecidableEq, Repr

/-- A completion ring's working state. -/
structure CplRing where
  /-- HEAD as last read from host memory. -/
  head : BitVec 32
  waiting : List Cpl
  /-- Entries written that no message has yet covered, and FT of the first of them. -/
  uncovered : Nat
  holdFirst : Option Word
  polling : Bool
  /-- The wait has been found full, and counted (R395). -/
  full : Bool
deriving DecidableEq, Repr

/-- A quiesced domain (R397–R400): beside PUP_QER, what the QID drains and who asked. -/
structure Qid where
  ring : RingId
  index : BitVec 16
  tag : BitVec 32
  /-- Jobs that the QID drains or holds. -/
  jobs : List (BitVec 16)
  portMap : BitVec 1024
  /-- The QID was made by the Puppeteer for a faulted or admitted job, not by a QUIESCE. -/
  internal : Bool
  restartFt : Word
  /-- QIDs of the same RESTART. -/
  group : List Nat
  /-- FT at which the domain began to drain. -/
  since : Word
  /-- Alarms that the QUIESCE stopped. -/
  stopped : List Nat
deriving DecidableEq, Repr

/-- Identity in configuration space (R383). -/
structure PciIdentity where
  vendor : BitVec 16
  device : BitVec 16
  revision : Byte
  classCode : BitVec 24
  subVendor : BitVec 16
  subsystem : BitVec 16
  /-- Of the Device Serial Number capability. -/
  serial : Word
deriving DecidableEq, Repr

/-- What the device has sent out, newest first. -/
inductive Out where
  /-- A posted write to host memory. -/
  | hostWrite (addr : Word) (data : List Word)
  | msix (vector : Nat)
  /-- The value that a host, MCTP or TAP read returned. -/
  | read (v : Word)
  | readBytes (b : List Byte)
  /-- A read completion that carries poison (Table 13.4). -/
  | poisoned
  /-- A PCIe unsupported request or Request Retry Status. -/
  | unsupported
  | retryStatus
  /-- A configuration request answered normally, from a function of this identity (R383, R467). -/
  | configOk (id : PciIdentity)
  /-- A packet that began transmission on a port. -/
  | packet (port : Port) (p : Packet)
  /-- A frame of EtherType 0x88B5 to the broadcast address, with its source address and payload (R268). -/
  | copyFrame (port : Port) (src : BitVec 48) (payload : List Byte)
  /-- The head of a PFP frame, EtherType 0x88B6, around the packet or the IDLE word that follows: destination, source, and
  PCP and VID of its 802.1Q tag, if it has one; the PCP of a control frame is not stated (R342). -/
  | pfpFrame (port : Port) (dst src : BitVec 48) (tag : Option (Option (BitVec 3) × BitVec 12))
  /-- A control word sent on a port. -/
  | word (port : Port) (w : Word)
  /-- A packet for the management or PTP firmware. -/
  | mgmt (port : Port) (p : Packet)
  | ptp (port : Port)
  /-- The timestamp of a PTP message, for the protocol engine, and a delay request that the engine sends (R39). -/
  | ptpStamp (port : Port) (stamp : Nat)
  | delayRequest (port : Port) (m : DelayMech)
  /-- The device's signed statement and its challenge to the partner; and its signature over the partner's challenge, its
  DEVICE_ID, the port and the statement (R334). -/
  | statement (port : Port) (st : OwnStatement) (challenge : BitVec 128)
  | linkProof (port : Port) (challenge : BitVec 128) (deviceId : Word) (statement : BitVec 256)
  | timeMessage (dir : Fin 6)
  | shift (b : List Bool)
deriving DecidableEq, Repr

/-! ### Compute cores -/

/-- Sticky flags of one unit: the program index of the first instruction that raised each, and the count of
inexact instructions (R85, R86). -/
structure UnitFlags where
  inv : Option (BitVec 32)
  ovf : Option (BitVec 32)
  unf : Option (BitVec 32)
  den : Option (BitVec 32)
  inexact : Nat
deriving DecidableEq, Repr

/-- A weight bank (R133, R134, R140, R224): format, whether it carries scales, K_ROWS, weight codes (row k,
column n at 64k + n) and scale codes (column n, block b at 2n + b). -/
structure Bank where
  fmt : Option (BitVec 4)
  scaled : Bool
  kRows : Nat
  w : List Nat
  scale : List Byte
deriving DecidableEq, Repr

/-- A byte range of storage: first storage key and length. -/
structure Span where
  lo : Nat
  len : Nat
deriving DecidableEq, Repr

/-- A Z-T operation that has issued and not completed: its descriptor, the register values read at issue, its
place in program order, and the ranges it reads and writes (R181, R199). -/
structure ZtOp where
  no : Nat
  pc : BitVec 32
  d : BitVec 128
  /-- Registers named by the descriptor, in the order the unit's layout names them. -/
  r : List Word
  /-- SR position of the instruction (R64). -/
  sr : BitVec 32
  /-- Bank select at issue (R133). -/
  bank : Bool
  reads : List Span
  writes : List Span
  /-- A remote DMA whose packets have been formed (R149). -/
  formed : Bool
  /-- A DMA that has completed and waits for its predecessors to signal (R150). -/
  finished : Bool
deriving DecidableEq, Repr

/-- A release that waits for the core's earlier writes (R201). `kind`: 0 SIGNAL, 1 ADD, 2 SET. -/
structure Held where
  no : Nat
  kind : Fin 3
  obj : Nat
  v : Word
deriving DecidableEq, Repr

/-- A WAIT or FIRST in progress: objects `obj` to `obj + count`, value, and the register FIRST writes. -/
structure CoreWait where
  obj : Nat
  count : Nat
  v : Word
  dst : Option GReg
  /-- The condition has held at the end of a cycle: the smallest index that it held for then (R153, R237). -/
  hit : Option Nat
deriving DecidableEq, Repr

/-- A core sequencer and its units (R177, R133, R85, R181, R193–R198), by physical core. -/
structure Core where
  g : Vector Word 32
  pc : BitVec 32
  /-- Program index of the last instruction run (R214). -/
  lastPc : BitVec 32
  /-- The instruction store, by program index; unlisted words are 0. -/
  code : List (BitVec 32)
  srPos : BitVec 32
  job : BitVec 16
  rank : BitVec 20
  entry : BitVec 16
  slot : BitVec 7
  token : Word
  step : Word
  /-- A step is in progress. -/
  running : Bool
  /-- STEP.END has issued. -/
  ended : Bool
  /-- A trap has stopped the step: its cause (Table 7.11). -/
  trap : Option (BitVec 8)
  errPc : BitVec 32
  wait : Option CoreWait
  /-- Next number in program order. -/
  nextNo : Nat
  dma : List ZtOp
  mx : List ZtOp
  vec : List ZtOp
  held : List Held
  /-- Packets of the running remote DMA that have not yet left the device (R150). -/
  unsent : Nat
  /-- An interruption of more than 4 cycles stretches the MMA in progress: of its feed, of its drain (R138). -/
  feedHeld : Bool
  drainHeld : Bool
  bankSel : Bool
  bank0 : Bank
  bank1 : Bank
  /-- Arrays 0 to 3, then the vector engine. -/
  flags : List UnitFlags
  /-- Registers and SR position recorded at the start of the step (R195). -/
  g0 : Vector Word 32
  srPos0 : BitVec 32
  retries : Nat
  slips : Nat
  /-- Slips counted for a step that has not yet begun (R51). -/
  owedSlips : Nat
  ftStart : Word
  runStart : Word
  /-- Entries that fell due while a step was running: entry index and planned FT (R193). -/
  dueEntries : List (BitVec 16 × Word)
  /-- The next SLOT token the core takes. -/
  nextToken : Word
  /-- FT since which a swap or a test has held back the step of the next token (R156, R447). -/
  heldAt : Option Word
  /-- Ports by which packets of the step have left, or are to leave (R426). -/
  paths : List Nat
deriving DecidableEq, Repr

/-- A bank that nothing has loaded. -/
def Bank.empty : Bank := ⟨none, false, 64, [], []⟩

/-- Flags clear. -/
def UnitFlags.clear : UnitFlags := ⟨none, none, none, none, 0⟩

/-- A core after reset. (DESIGN CHOICE, log entry 7.) -/
def Core.init : Core :=
  { g := Vector.replicate 32 0, pc := 0, lastPc := 0, code := [], srPos := 0, job := 0, rank := 0, entry := 0,
    slot := 0x40#7, token := 0, step := 0, running := false, ended := false, trap := none,
    errPc := 0xFFFFFFFF#32, wait := none, nextNo := 0, dma := [], mx := [], vec := [], held := [], unsent := 0,
    feedHeld := false, drainHeld := false, bankSel := false, bank0 := Bank.empty, bank1 := Bank.empty, flags := List.replicate 5 UnitFlags.clear,
    g0 := Vector.replicate 32 0, srPos0 := 0, retries := 0, slips := 0, owedSlips := 0, ftStart := 0, runStart := 0,
    dueEntries := [], nextToken := 0, heldAt := none, paths := [] }

/-- A synchronisation object (R151). -/
structure Obj where
  count : Word
  ctrl : Word
deriving DecidableEq, Repr

/-- A Puppeteer core (R382, R218): registers, program index, bitmap of pending interrupt causes (none pending: none),
and whether IRQ.WAIT halts it, with the register it will write. (DESIGN CHOICE, log entry 74.) -/
structure PupCore where
  g : Vector Word 32
  pc : BitVec 32
  /-- The instruction store: the CONTROL image of the bundle in force, by program index (R382). -/
  code : List (BitVec 32)
  irq : Option Word
  wait : Option GReg
  /-- A trap has stopped the core at this program index (R214). -/
  trap : Option (BitVec 32)
  /-- Program indices of its last 1,024 instructions, newest first (R443). -/
  trace : List (BitVec 32)
deriving DecidableEq, Repr

/-- A Puppeteer core after reset. -/
def PupCore.init : PupCore := ⟨Vector.replicate 32 0, 0, [], none, none, none, []⟩

/-! ### Jobs and images -/

/-- An entry of the entry table (Table 7.7). -/
structure EntryDef where
  lcore : Byte
  kind : BitVec 2
  retry : Bool
  report : Bool
  slot : BitVec 6
  pc : BitVec 32
  schedRef : BitVec 32
deriving DecidableEq, Repr

/-- An event record of a schedule section: action, target index, planned FT relative to the RESTART FT and
period (R188, R306). -/
structure SchedEvent where
  action : BitVec 4
  index : BitVec 24
  offset : Word
  period : BitVec 32
  /-- Alarm allocated to it at load. -/
  alarm : Nat
deriving DecidableEq, Repr

/-- A gate list of a schedule section (R307). -/
structure GateList where
  port : BitVec 10
  leader : BitVec 10
  cycle : BitVec 30
  phase : BitVec 30
  base : BitVec 17
  words : List Word
deriving DecidableEq, Repr

/-- A loaded image (R185–R191). -/
structure Image where
  code : List (BitVec 32)
  seed : Word
  stepLimit : BitVec 32
  hasV : Bool
  fpReq : Bool
  entries : List EntryDef
  events : List SchedEvent
  gates : List GateList
  /-- Leaf hashes of the image as received (R373). -/
  leaves : List (BitVec 256)
  /-- A FLOW image's bytes as received (Table 18.7). -/
  raw : List Byte
  /-- Job that loaded it, and what it bound: objects, slots, logical cores and alarms (R491). -/
  job : Nat
  objs : List Nat
  slots : List Nat
  cores : List Nat
  alarms : List Nat
deriving DecidableEq, Repr

/-- An admitted job (R392, Table 15.6). -/
structure Job where
  cq : Byte
  vcEn : Byte
  /-- Index of the job's SWC_JOB, HUB_RT_JOB entry. -/
  index : Nat
  rank : BitVec 20
  rttBase : Nat
  rttCount : Nat
  circuits : List Nat
  regions : List Nat
  /-- The image in force, and one loaded that takes effect at the next RESTART FT (R190). -/
  image : Option Image
  next : Option Image
  /-- FLOW images by OP that take effect at the next RESTART FT (R190, R206). -/
  flowNext : List (Nat × Image)
  /-- Logical cores assigned to the job. -/
  cores : List LCore
  restartFt : Word
  /-- The counters of the timing sources at the latest RESTART FT: those that are not 0, by CSR offset (R375). -/
  timing : List (Nat × Nat)
deriving DecidableEq, Repr

/-! ### Packets, buffers and links -/

/-- A buffer that a packet occupies (R254, R257, R260, R264): die, requester, pool, its index in the pool, and the credit
that goes back upstream when it is freed: port, VC, twin and credit code (Table 12.4). Numbers from 1,024 on stand for the
pair links. -/
structure Buf where
  die : Nat
  req : Nat
  pool : Nat
  idx : Nat
  back : Option (Nat × Nat × Nat × Nat)
deriving DecidableEq, Repr

/-- Where a translated packet goes (R250). -/
inductive Dest where
  | here
  | port (p : Nat) (endpoint : Bool)
  /-- A consumer of another die (R18). -/
  | die (d : Nat)
  /-- It is refused, or of no further use, once it has come in whole (R251). -/
  | refuse (cause : Nat)
  | drop
deriving DecidableEq, Repr

/-- A packet inside the device: waiting to enter a slice, queued at an egress port, or delivered locally. -/
structure Pkt where
  /-- Its number, for commands that name a packet. -/
  no : Nat
  p : Packet
  /-- Die whose slice holds it. -/
  die : Nat
  /-- Arrival port; none for a packet of a local unit. -/
  port : Option Nat
  /-- Input number of R292. -/
  input : Nat
  /-- Age key (R291), ns. -/
  key : Nat
  arrived : Word
  /-- Buffer VC and twin at this hop (R252). -/
  vc : Nat
  twin : Nat
  /-- An injection throttle applies to it (R312). -/
  injected : Bool
  buf : Option Buf
  dest : Dest
  /-- What holds it: 0 nothing, 1 early arrival, 2 slot, 3 fence; 4 is a packet that a fence held and has released; 5 one
  that the early-arrival area has no room for; 6 a fenced packet that is held until it expires (R283). -/
  hold : Nat
  /-- FT at which the hold began, or the packet joined its egress queue. -/
  since : Word
  /-- The transmission-length check has deferred it once (R304). -/
  deferred : Bool
  /-- Its EOP word has arrived and it is good, or no link brought it (R256, R324). -/
  whole : Bool
  /-- Who waits for it to leave: core n as n, mirror session k as 0x80 + k, launch l as 0x100 + l. -/
  owner : Option Nat
  /-- Its ingress buffer, while its last byte has still to cross the die mesh (R257). -/
  ingress : Option Buf := none
deriving DecidableEq, Repr

/-- A fence stream's count on a die (R282, R283). -/
structure StreamEnt where
  die : Nat
  st : Stream
  c : Nat
  last : Word
deriving DecidableEq, Repr

/-- A request that waits for a buffer (R261): for a credit of a port and VC, or for a packet. -/
structure BufWait where
  die : Nat
  req : Nat
  pool : Nat
  since : Word
  credit : Option (Nat × Nat)
deriving DecidableEq, Repr

/-- A sender's stream at this device: packets since its last fenced one, and BIRTH_FT of its last fenced VC4 packet while that
awaits its acknowledgement (R280, R281). -/
structure SendStream where
  st : Stream
  n : Nat
  unacked : Option (BitVec 40)
deriving DecidableEq, Repr

/-- A port's link layer, egress queue, buckets and discovery (R254, R310–R312, R323–R340). -/
structure PortSt where
  q : List Pkt
  /-- Packets sent and not acknowledged, oldest first. -/
  replay : List (BitVec 12 × Packet)
  /-- FT of the last progress of the oldest of them, and how often it has been replayed. -/
  replayAt : Word
  retries : Nat
  txSeq : BitVec 12
  rxSeq : BitVec 12
  /-- The packet received last still waits for its end word. -/
  midway : Bool
  ackDue : Bool
  nakDue : Bool
  /-- Credits held at the partner: shared 3 × VC + pool, dedicated 2 × VC + twin. -/
  shared : List Nat
  ded : List Nat
  /-- Credits the partner holds here, by the same indices. -/
  granted : List Nat
  dedOut : List Nat
  /-- Credits to return in coming words: VC, twin, credit code. -/
  owed : List (Nat × Nat × Nat)
  /-- Withholdings in force: VC and cause (Table 9.8). -/
  withheld : List (Nat × Nat)
  /-- INIT steps received, the peer's versions and TS. -/
  initStep : Nat
  peerMin : Byte
  peerMax : Byte
  lastVersion : Nat
  fails : Nat
  downAt : Option Word
  /-- Tokens in units of 1/128,000 byte, which every rate earns a whole number of in 1 ns: shapers, policers (signed),
  throttle buckets of VC4, VC6, VC7; and the FT they stand at. -/
  shaper : List Nat
  policer : List Int
  throttle : List Int
  tokensAt : Word
  /-- Low-power idle of the partner's direction: 0 off, 1 entered, 2 held (R412). -/
  lpi : Nat
  statement : Option Statement
  stmtOk : Bool
  challenge : Option (BitVec 128)
  trainAt : Option Word
  missing : Bool
  /-- Identities bound to the ranks of jobs at admission (R339). -/
  bound : List (Nat × Word)
  /-- FT, in ns, at which the transmission in progress ends. -/
  busyUntil : Word
  /-- Its buffer VC. -/
  busyVc : Nat
  /-- A transmission whose end word waits for that of the link which brings the packet (R256). -/
  cut : Option (Pkt × Packet)
  /-- Windows of which the first packet has met a sleeping bundle: VC, and FT of the window's end (R305). -/
  wakeWin : List (Nat × Nat)
  /-- Those of them whose slips are still to be counted, at the end of the wake: planned FT, and the packet's unit. -/
  slept : List (Nat × Option Nat)
  /-- TSC state: FT of the cycle start in force. -/
  cycleAt : Word
  /-- FT of the last INIT word of step 1 (R331). -/
  initAt : Word := 0
deriving DecidableEq, Repr

/-- A port whose link is down. -/
def PortSt.init : PortSt :=
  { q := [], replay := [], replayAt := 0, retries := 0, txSeq := 0, rxSeq := 0, midway := false, ackDue := false, nakDue := false,
    shared := List.replicate 24 0, ded := List.replicate 16 0, granted := List.replicate 24 0,
    dedOut := List.replicate 16 0, owed := [], withheld := [], initStep := 0, peerMin := 0, peerMax := 0,
    lastVersion := 0, fails := 0, downAt := none, shaper := List.replicate 8 0, policer := List.replicate 8 0,
    throttle := List.replicate 3 0, tokensAt := 0, lpi := 0, statement := none, stmtOk := false,
    challenge := none, trainAt := none, missing := false, bound := [], busyUntil := 0, busyVc := 0,
    cut := none, wakeWin := [], slept := [], cycleAt := 0 }

/-- The switch core (R244–R315). -/
structure Net where
  nextNo : Nat
  /-- Packets of local units and of the die mesh that wait to enter a slice, oldest first. -/
  outbox : List Pkt
  /-- Packets delivered to this device and not yet consumed. -/
  locals : List Pkt
  ports : List (Nat × PortSt)
  streams : List StreamEnt
  senders : List SendStream
  waits : List BufWait
  /-- Buffers granted to a waiting requester and not yet filled: die, requester, pool. -/
  hand : List (Nat × Nat × Nat)
  /-- State bits that are set, as rising runs of (4 × die + pool) × 2^17 + index: buffers that are allocated (R264); and those of
  them that packets occupy. -/
  bits : List (Nat × Nat)
  occ : List Nat
  /-- Shared credits that the incoming side of each pair link has out, by 24 × link + 3 × VC + pool (R255). -/
  meshOut : List (Nat × Nat)
  /-- Credits still to be granted by a port group that waits (R261), or given back by a quarantined port (R337), oldest first:
  port or pair link, VC, pool. -/
  defer : List (Nat × Nat × Nat)
  /-- Bundles whose engine has faulted and that have not returned to service since (R322). -/
  dark : List Nat
  /-- Dedicated buffers of the pair links that packets occupy: pair link, VC, twin (R255). -/
  meshDed : List (Nat × Nat × Nat)
  /-- Mirror copies outstanding, and skipped since the last copy, by session 2d + s. -/
  mirOut : List (Nat × Nat)
  mirSkip : List (Nat × Nat)
  /-- FT of the link losses of the last hold (R296). -/
  losses : List Word
  /-- Samples since EN was set (Table 11.4). -/
  samples : BitVec 32
deriving DecidableEq, Repr

/-! ### Collectives -/

/-- An XACC element (Table 3.6): V and its flags. -/
structure Xacc where
  v : Int
  nz : Bool
  pinf : Bool
  ninf : Bool
  nan : Bool
deriving DecidableEq, Repr

/-- One term that an input contributes: a code of a format, or a TXP partial. -/
inductive Term where
  | code (fmt c : Nat)
  | acc (a : Xacc)
deriving DecidableEq, Repr

/-- A staged term: whose input it is (a child device's or a member's), its element, its value (R99, R112). -/
structure Staged where
  child : Bool
  rank : Nat
  elem : Nat
  t : Term
deriving DecidableEq, Repr

/-- A chunk of a launch on an engine (R241). -/
structure Chunk where
  engine : Nat
  idx : Nat
  shard : Nat
  first : Nat
  len : Nat
  /-- Opened by CH.OPEN. -/
  opened : Bool
  staged : List Staged
  closeReq : Bool
  closed : Bool
  /-- Result: format and codes, as rounded or as received. -/
  result : Option (Nat × List Nat)
  /-- Codes received from the parent, by element. -/
  got : List (Nat × Nat)
  downReq : Bool
  fwdReq : Bool
  sentDown : Bool
  /-- The partial has left for the parent. -/
  sentUp : Bool
  /-- MX scale codes received or read, by block of 32 elements (R105). -/
  scales : List (Nat × Nat)
  /-- GA.SRC has read it from DEST_ADDR (R173). -/
  sourced : Bool
  /-- An MX-scaled chunk has been written at DEST_ADDR. -/
  written : Bool
deriving DecidableEq, Repr

/-- A shard of a group map: owner, receiver, and per device its parent and engine (Table 15.7). -/
structure Shard where
  owner : Nat
  receiver : Nat
  tree : List (Nat × Nat)
deriving DecidableEq, Repr

/-- A statistic's exact sum, in units of 2^-298, and whether a special term entered (R115, R116). -/
structure Stat where
  sum : Nat
  special : Bool
deriving DecidableEq, Repr

/-- A registered group (R95). -/
structure Group where
  gid : Nat
  cset : Nat
  job : Nat
  herdK : Nat
  vc : Nat
  replicas : Nat
  devices : List Nat
  /-- Rank, replica, device index. -/
  members : List (Nat × Nat × Nat)
  shards : List Shard
  /-- This device's index. -/
  me : Nat
  digest : BitVec 256
  expelled : BitVec 64
  /-- The statistics launches of the window, newest first: n, S1, S2 (R117). -/
  stats : List (Nat × Stat × Stat)
  /-- An engine it names was lost (R114). -/
  lost : Bool
  /-- Engines of its map whose work another engine has taken over (R113): map engine, serving engine. -/
  moved : List (Nat × Nat)
  /-- As a launch sees the group: devices of its map that only forward, being KV6s (R91). None in the table itself. -/
  fwd : List Nat
deriving DecidableEq, Repr

/-- A conflict set (R106, R107). -/
structure Cset where
  slot : Nat
  id : Nat
  job : Nat
  e : BitVec 32
  broken : Bool
  gap : Option Word
  retries : Nat
  /-- The HERD launch that holds back later ones. -/
  herd : Option Nat
deriving DecidableEq, Repr

/-- A flow sequencer running a launch (R182, R242). -/
structure Flow where
  engine : Nat
  pc : Nat
  f : Vector Word 16
  wait : Option (Nat × Word)
  fend : Bool
  statDone : Bool
  /-- This engine's part of the statistics. -/
  s1 : Stat
  s2 : Stat
deriving DecidableEq, Repr

/-- An FSIG that waits for the engine's earlier writes (R201): engine, object, value, and the chunks whose work was
outstanding when it issued. -/
structure FlowSig where
  engine : Nat
  obj : Nat
  v : Word
  after : List Nat
deriving DecidableEq, Repr

/-- A collective launch on this device. `stage`: 0 held, 1 at its turn, 2 admitted. -/
structure Launch where
  no : Nat
  words : List Word
  gid : Nat
  job : Nat
  stage : Nat
  ftAdmit : Word
  progress : Word
  /-- P3 buffers reserved, by engine. -/
  staging : List (Nat × Nat)
  flows : List Flow
  chunks : List Chunk
  /-- HERD: bytes received, by shard, replica and byte. -/
  herdBytes : List (Nat × Nat × Nat × Byte)
  /-- Leaf digests (shard, replica, leaf) and shard digests (shard, replica). -/
  leaves : List (Nat × Nat × Nat × BitVec 256)
  digests : List (Nat × Nat × BitVec 256)
  /-- Leaves and final digests that HH.LEAF and HH.FINAL asked for and that wait for bytes. -/
  leafReq : List (Nat × Nat × Nat × Nat)
  finalReq : List (Nat × Nat)
  /-- Releases of FSIG that have not yet taken effect. -/
  sigs : List FlowSig
  /-- Verdicts of the other devices are in. -/
  agreed : Bool
  verdict : Nat
  expelled : BitVec 64
  recompute : Nat
  escapes : Nat
  slips : Nat
  fl : Fl
  s1 : Stat
  s2 : Stat
  /-- Statistics parts received from other devices. -/
  statIn : Nat
  /-- Packets formed and not yet sent. -/
  unsent : Nat
  /-- MX packets sent: shard, packet, and whether up the tree (R105). -/
  mxSent : List (Nat × Nat × Bool)
  /-- Low 16 bits of its command's entry count (Table 15.5). -/
  index : BitVec 16
  /-- Replicas that are expelled for it, and devices that it found to be KV6s at its admission (R91, R120). -/
  out : BitVec 64
  fwd : List Nat
deriving DecidableEq, Repr

/-- Collective state of the device. -/
structure Coll where
  groups : List Group
  csets : List Cset
  launches : List Launch
  nextLaunch : Nat
  /-- Launches that have completed, newest first, as they stood then: which of their inputs were added (R99). -/
  done : List Launch
  /-- FLOW images by OP (R206). -/
  flow : List (Nat × Image)
  /-- FTs of the latest residue mismatches: engine, FT, newest first (R113). -/
  residueAt : List (Nat × Word)
deriving DecidableEq, Repr

/-- A layer slot's queue: tokens written, tokens freed (R166, R168). (DESIGN CHOICE, log entry 65.) -/
structure SlotQ where
  arrived : Nat
  freed : Nat
  /-- Of the token that arrives: its request tag, and the bytes of its entry that have been written. -/
  reqTag : Word
  fill : Nat
  /-- Tokens whose step has ended, by logical core (R167, step 5). -/
  ends : List (Nat × Nat)
  /-- STAGE slips of the slot (R169), and its tokens in the queue that were handed off late. -/
  slips : Nat
  late : List Nat
deriving DecidableEq, Repr

/-- An empty queue. -/
def SlotQ.empty : SlotQ := ⟨0, 0, 0, 0, [], 0, []⟩

/-! ### The whole device -/

structure State where
  /-- Commands that wait, first in, first out. -/
  pending : List Instr
  boot : Boot
  nvm : Nvm
  /-- Every CSR in force, by CSR offset; an unlisted register holds its cold value. -/
  csr : List (Nat × Word)
  /-- RWQ values written and not yet in force (R398), by CSR offset. -/
  edits : List (Nat × Option Word)
  ftu : Ftu
  flt : Flt
  sec : Sec
  pwr : Pwr
  crings : List (Nat × CmdRing)
  qrings : List (Nat × CplRing)
  qids : List (Nat × Qid)
  /-- Physical cores, by number; an unlisted core is as after reset. -/
  cores : List (Nat × Core)
  pups : List (Nat × PupCore)
  objs : List (Nat × Obj)
  jobs : List (Nat × Job)
  /-- The layer-slot table (R164): slot and its six words. -/
  slots : List (Nat × List Word)
  slotQ : List (Nat × SlotQ)
  net : Net
  coll : Coll
  /-- Storage, by storage key: core SRAM of physical core n at 0x1_0000_0000 + n × 0x100_0000, cluster SRAM and
  tiers at their device addresses. -/
  mem : List Host.Cell
  /-- Code words (storage keys) whose detection code fails (R356, R357). -/
  bad : List Nat
  /-- FT of the persistent errors of each window (3 × die + tier) (R359). -/
  errTimes : List (Nat × List Word)
  /-- Windows out of service until cold reset (R359). -/
  lostWin : List Nat
  /-- Eighths of an ACLK period since the release edge: an HCLK cycle is eleven (R36, R419). -/
  aclk : Nat
  out : List Out
  /-- The model's own count of free values used. -/
  free : Nat
deriving DecidableEq, Repr

/-- No fault ends a step: a machine event that the spec calls a fault is a state (Table 17.1). -/
inductive Fault where
  /-- Raised by no command. Safe: nothing stops with it. -/
  | none
deriving DecidableEq, Repr

/-- Why a command has no meaning. -/
inductive Refusal where
  /-- Raised by an arm of `exec` that has no meaning yet. Safe: the machine stops. -/
  | notModelled (mnemonic : String)
  /-- Raised by a command whose operands no loaded image and no device can form (`Instr.wf` is false): a reserved
  field or code that the loader refuses (R191). Safe: the machine stops. -/
  | illFormed
deriving DecidableEq, Repr

/-! ### After reset -/

/-- A certificate of the part's, as the model takes it: the spec gives no part's. (DESIGN CHOICE, log entry 6.) -/
def Certificate.shipped (role : Byte) (keys : PubKeys) : Certificate :=
  { role := role, keys := keys, issuer := 0, sigRsa := 0, sigSlh := [] }

/-- A signed object of the part's, of a kind, by a key of a role. (DESIGN CHOICE, log entry 6.) -/
def Signed.shipped (kind role : Byte) : Signed :=
  { magic := 0x4F534A46, kind := kind, body := [], signFt := 0, cert := Certificate.shipped role ⟨0, 0⟩, sigRsa := 0, sigSlh := [] }

/-- The configuration record of one part with every core good (R460): stepping B0, grade S, variant E. DESIGN CHOICE:
the spec gives no part's record. -/
def ConfigRecord.shipped : ConfigRecord :=
  { obj := Signed.shipped 1 1, stepping := 0xB0, grade := 0, variant := 0, disabledMap := List.replicate 16 0x4688, rowMap := List.replicate 320 0x7F7F,
    vcoreMv := 750, baseMac := 0, optSites := 0, deviceCert := Certificate.shipped 5 ⟨Config.deviceRsa, Config.deviceSlh⟩ }

/-- The event collector after cold reset, with an empty black box (R437). -/
def Flt.cold : Flt :=
  { cur := none, nextSeq := 0, bb := [], bbBad := [], snap := none, haltRec := none, sealedSeq := 0, haltForced := false,
    histPage := 0, histCount := 0, hist := [], secPower := 0, secThermal := 0, secTemp := 0, secThrottled := false, secEdc := false,
    secFault := false, obs := [], lasting := [], tests := [], due := [], wantAlarm := [], passed := [], swapped := [], secWatts := 0, secSamples := 0 }

/-- The SEC unit after cold reset. -/
def Sec.cold : Sec :=
  { cfg := ConfigRecord.shipped, puf := [], rootKey := none, keys := none, bundle := none, plan := none, work := [], known := [], peers := [], nonce := 0, signFt := 0,
    challenge := [], body := [], report := [], prov := [], records := [], nextRecord := 0, fp := 0, reruns := 0 }

/-- The power manager after reset. -/
def Pwr.cold : Pwr :=
  { waking := [], entering := [], alarms := [], starved := [], restarted := false, planned := false, hot110 := [], hot105 := [], silent := [],
    edcUntil := 0, lastStep := [], refresh := [], vcorePmbus := 0, railTemp := [], statusWords := [],
    watts := [], amps := [], trace := [] }

/-- The fabric time unit when FT starts at 0 (R43). -/
def Ftu.cold : Ftu :=
  { ft := 0, acc := 0, seconds := none, lastEdge := none, lastGood := 0, glitches := [], holdStart := none, inRange := 0,
    fired := [], owner := [], peerSeen := [], peers := [], samples := [] }

/-- An empty switch core. -/
def Net.cold : Net :=
  { nextNo := 0, outbox := [], locals := [], ports := [], streams := [], senders := [], waits := [], hand := [],
    bits := (List.range 4).map (fun d => ((4 * d + 2) * 131072, 48)), occ := [], meshOut := [], defer := [], dark := [],
    meshDed := [], mirOut := [], mirSkip := [], losses := [], samples := 0 }

/-- No collective state. -/
def Coll.cold : Coll :=
  { groups := [], csets := [], launches := [], nextLaunch := 0, done := [], flow := [], residueAt := [] }

/-- The machine right after power-on: rails up, PORST_N and PERST_N low, every register at its cold value (R15, R483,
R482); COLD_START_UP releases it. The boot flash and the owner slot are empty. (DESIGN CHOICE, log entry 6.) -/
def State.reset : State :=
  { pending := [],
    boot := { vstby := true, rails := true, porst := true, warm := false, up := false, opened := false, stepAt := 0, pcieBoot := false, halt := false,
              perst := true, pcieUp := false, d3hot := false, aligning := none, clockLost := false, fromWarm := false,
              tapIr := .idcode, tapDr := [], mgmtAddr := none, msixEn := false, msixMask := false, eidI3c := 0, eidVdm := 0 },
    nvm := { cfgA := ConfigRecord.shipped, cfgB := ConfigRecord.shipped, helperA := ⟨[], 0⟩, helperB := ⟨[], 0⟩, wrappedA := ⟨[], 0⟩,
             wrappedB := ⟨[], 0⟩, owner := none, coldA := 0, coldB := 0, roots := [0], slot0 := none, slot1 := none, planSlot := none },
    csr := [], edits := [], ftu := Ftu.cold, flt := Flt.cold, sec := Sec.cold, pwr := Pwr.cold, crings := [], qrings := [],
    qids := [], cores := [], pups := [], objs := [], jobs := [], slots := [], slotQ := [], net := Net.cold, coll := Coll.cold,
    mem := [], bad := [], errTimes := [], lostWin := [], aclk := 0, out := [], free := 0 }

end Sys2Proof.Machine
end

