-- ==== Sys2Proof/Machine/Objects.lean ====
section
/-! DEFINITION. Signed objects (R454–R458): their bytes and digests, the identity that the record's keys give the device, and
what the SEC unit compares before it accepts one. -/
namespace Sys2Proof.Machine

/-- Two public keys, the RSA modulus first (R457); least significant byte first. (DESIGN CHOICE, log entry 5.) -/
def keyBytes (k : PubKeys) : List Byte := toBytes 384 k.rsa.toNat ++ toBytes 64 k.slh.toNat

/-- What a certificate names its issuer by (R457). -/
def keysDigest (k : PubKeys) : BitVec 256 := sha3 (keyBytes k)

/-- Bytes of a certificate, in the order of R457. (DESIGN CHOICE, log entry 5.) -/
def certBytes (c : Certificate) : List Byte :=
  c.role :: (keyBytes c.keys ++ digestBytes c.issuer ++ toBytes 384 c.sigRsa.toNat ++ c.sigSlh)

/-- How many they are. -/
def certLength (c : Certificate) : Nat := 865 + c.sigSlh.length

/-- Header of a signed object (Table 18.2): magic, kind, lengths of body and certificate, FT of signing. -/
def objHead (magic : BitVec 32) (kind : Byte) (body cert : Nat) (ft : Word) : List Byte :=
  toBytes 4 magic.toNat ++ [kind, 0, 0, 0] ++ toBytes 8 body ++ toBytes 4 cert ++ [0, 0, 0, 0] ++ toBytes 8 ft.toNat ++ List.replicate 96 0

/-- What both signatures of an object cover. -/
def objCovered (o : Signed) : List Byte :=
  objHead o.magic o.kind o.body.length (certLength o.cert) o.signFt ++ o.body ++ certBytes o.cert

/-- An object as it stands. -/
def objBytes (o : Signed) : List Byte := objCovered o ++ toBytes 384 o.sigRsa.toNat ++ o.sigSlh

/-- Digest of an object: over all of it. (DESIGN CHOICE, log entry 5.) -/
def objDigest (o : Signed) : BitVec 256 := sha3 (objBytes o)

/-- DEVICE_ID of a public key: the low 64 bits of its digest (R334). -/
def idOfKeys (k : PubKeys) : Word := ext (sha3 (toBytes 384 k.rsa.toNat)) 0 64

/-- DEVICE_ID: the public halves of the device keys stand in the configuration record (R454). -/
def deviceId (s : State) : Word := idOfKeys s.sec.cfg.deviceCert.keys

/-- The four signatures verify (R458). -/
def sigOk (c : SigCheck) : Bool := c.certRsaOk && c.certSlhOk && c.rsaOk && c.slhOk

/-- MAGIC, KIND, the certificate's role and its issuer are those of the place of use (R457, R458). -/
def objOk (o : Signed) (kind role : Nat) (issuers : List (BitVec 256)) : Bool :=
  o.magic == 0x4F534A46#32 && o.kind.toNat == kind && o.cert.role.toNat == role && issuers.contains o.cert.issuer

/-- A configuration record is accepted. -/
def configOk (s : State) (r : ConfigRecord) (c : SigCheck) : Bool := sigOk c && objOk r.obj 1 1 s.nvm.roots

/-- A firmware bundle is accepted. -/
def bundleOk (s : State) (b : BundleImage) (c : SigCheck) : Bool := sigOk c && objOk b.obj 2 2 s.nvm.roots

/-- The owner root that an OWNER body carries (R461). (DESIGN CHOICE, log entry 5.) -/
def ownerRoot (o : Signed) : PubKeys :=
  ⟨BitVec.ofNat 3072 (ofBytes (o.body.take 384)), BitVec.ofNat 512 (ofBytes ((o.body.drop 384).take 64))⟩

/-- A topology plan is accepted: under the chain of the owner root, so never without an owner (R461). -/
def planOk (s : State) (p : Plan) (c : SigCheck) : Bool :=
  match s.nvm.owner with
  | none => false
  | some o => sigOk c && objOk p.obj 3 4 [keysDigest (ownerRoot o)]

/-- A device's statement is accepted: through its MANUFACTURING certificate to a root (R334). -/
def statementOk (s : State) (st : Statement) (c : SigCheck) : Bool :=
  sigOk c && st.mfr.role == 1 && s.nvm.roots.contains st.mfr.issuer && objOk st.obj 6 5 [keysDigest st.mfr.keys]
    && st.deviceId == idOfKeys st.obj.cert.keys

/-- Digest of the bundle in force, of the plan in force, of the owner record: 0 without one (Table 18.8). -/
def bundleDigest (s : State) : BitVec 256 := match s.sec.bundle with | some b => objDigest b.obj | none => 0
def planDigest (s : State) : BitVec 256 := match s.sec.plan with | some p => objDigest p.obj | none => 0
def ownerDigest (s : State) : BitVec 256 := match s.nvm.owner with | some o => objDigest o | none => 0

/-- The larger of the cold-boot count's copies. (DESIGN CHOICE, log entry 5.) -/
def coldCount (s : State) : BitVec 32 := if s.nvm.coldA.toNat < s.nvm.coldB.toNat then s.nvm.coldB else s.nvm.coldA

end Sys2Proof.Machine
end

