-- ==== Sys2Proof/Machine/Ops.lean ====
section
/-! DEFINITION. The named operations over the state: registers, time, slips, the fault collector and the black
box, storage, synchronisation objects, completion entries and interrupts. Every command is written over these. -/
namespace Sys2Proof.Machine

/-! ### Registers -/

/-- The value in force at a CSR offset. -/
def reg (s : State) (off : Nat) : Word := mapGet coldValue s.csr off

/-- Put a value in force at a CSR offset. -/
def setReg (s : State) (off : Nat) (v : Word) : State := { s with csr := mapSet coldValue s.csr off v }

/-- The bits of a register that belong to a field; the others are reserved and read 0 (R12). -/
def knownBits (off : Nat) : Word :=
  match findReg off with
  | some (r, _) => r.fields.foldl (fun m f => fset f.fld m (2 ^ f.fld.w - 1)) 0
  | none => 0

/-- Put a whole value in force, its reserved bits dropped (R12). -/
def setKnown (s : State) (off : Nat) (v : Word) : State := setReg s off (v &&& knownBits off)

/-- A field of a register. -/
def getF (s : State) (off : Nat) (f : Fld) : Nat := fget f (reg s off)

/-- Put a value in a field of a register. -/
def setF (s : State) (off : Nat) (f : Fld) (v : Nat) : State := setReg s off (fset f (reg s off) v)

/-- A saturating count in a field. -/
def bump (s : State) (off : Nat) (f : Fld) (k : Nat) : State := setF s off f (satAdd f.w (getF s off f) k)

/-- Whether a one-bit field is 1. -/
def isSet (s : State) (off : Nat) (f : Fld) : Bool := getF s off f == 1

/-- The RWQ value last written to a register and not yet in force, if any (R398). -/
def editOf (s : State) (off : Nat) : Option Word := mapGet (fun _ => none) s.edits off

/-- Hold or drop an edit. -/
def setEdit (s : State) (off : Nat) (v : Option Word) : State :=
  { s with edits := mapSet (fun _ => none) s.edits off v }

/-! ### Output, free values -/

/-- The device sends something out. (DESIGN CHOICE, log entry 58.) -/
def emit (s : State) (o : Out) : State := { s with out := o :: s.out }

/-- A value that the spec leaves open, and the state that has used it. (DESIGN CHOICE, log entry 3.) -/
def fresh (s : State) : Word × State := (Config.freeWord s.free, { s with free := s.free + 1 })

/-! ### Fabric time -/

/-- FT in whole nanoseconds. (DESIGN CHOICE, log entry 10.) (DESIGN CHOICE, log entry 60.) -/
def now (s : State) : Word := BitVec.ofNat 64 (s.ftu.ft / 65536)

/-- FT moves on to an instant that a command names; it never decreases (R33). -/
def advanceTo (s : State) (t : Word) : State :=
  { s with ftu := { s.ftu with ft := max s.ftu.ft (t.toNat * 65536) } }

/-- One slip of class `k`: planned FT and delay (R51). -/
def slip (s : State) (k : Nat) (planned delay : Nat) : State :=
  let s := bump s (FTU_SLIP k) (FTU_SLIP_COUNT) 1
  let s := setF s FTU_SLIP_LAST FTU_SLIP_LAST_CLASS k
  let s := setF s FTU_SLIP_LAST FTU_SLIP_LAST_DELAY (min delay 16777215)
  setF s FTU_SLIP_LAST FTU_SLIP_LAST_PLANNED planned

/-- A slip of class `k` when FT has passed the planned instant. -/
def slipIfLate (s : State) (k : Nat) (planned : Word) : State :=
  if planned.toNat < (now s).toNat then slip s k planned.toNat ((now s).toNat - planned.toNat) else s

/-! ### Whether the device runs -/

/-- Start-up has ended, nothing holds the device in reset, and it is not halted. -/
def running (s : State) : Bool :=
  s.boot.vstby && s.boot.rails && s.boot.up && !s.boot.porst && !s.boot.warm && !s.boot.halt

/-- The standby domain runs (R45). -/
def standby (s : State) : Bool := s.boot.vstby

/-- A command to a device that does not run has no effect. (DESIGN CHOICE, log entry 1.) -/
def ifRunning (s : State) (k : State) : State := if running s then k else s

/-! ### Interrupts (R396) -/

/-- A vector's message may leave: MSI-X is enabled, and neither the function nor the vector is masked. (PRESUMED, log
entry 96.) -/
def msixOpen (s : State) (v : Nat) : Bool :=
  s.boot.msixEn && !s.boot.msixMask && !isSet s (HIF_MSIX_DATA v) HIF_MSIX_DATA_MASK

/-- Send an MSI-X message, or set its pending bit while it may not leave. -/
def msix (s : State) (v : Nat) : State :=
  if msixOpen s v then emit s (.msix v)
  else setReg s (HIF_MSIX_PEND (v / 64)) (reg s (HIF_MSIX_PEND (v / 64)) ||| (1 : Word) <<< (v % 64))

/-- An MCTP message reaches the device: over I3C with VSTBY, after a HALT too; over PCIe VDM while the link is up and the device
is not halted (R404). -/
def mctpIn (s : State) (m : MctpTo) : Bool := if m.vdm then s.boot.pcieUp && !s.boot.perst && !s.boot.halt else standby s

/-- The endpoint ID of a transport is the one that the messages on it address the device by. (DESIGN CHOICE, log entry 98.) -/
def takeEid (s : State) (m : MctpTo) : State :=
  if m.eid = 0 then s
  else if m.vdm then { s with boot := { s.boot with eidVdm := m.eid } } else { s with boot := { s.boot with eidI3c := m.eid } }

/-- A vector whose message may leave sends it if it is pending (R396). -/
def sendPending (s : State) (v : Nat) : State :=
  if msixOpen s v && (reg s (HIF_MSIX_PEND (v / 64))).getLsbD (v % 64) then
    emit (setReg s (HIF_MSIX_PEND (v / 64)) (reg s (HIF_MSIX_PEND (v / 64)) &&& ~~~((1 : Word) <<< (v % 64)))) (.msix v)
  else s

/-- The message of device-event vector 256 + i, when HIF_EVT_EN enables it. -/
def eventMsg (s : State) (i : Nat) : State :=
  if bit (getF s HIF_EVT_EN HIF_EVT_EN_EN) i then msix s (256 + i) else s

/-- Hardware sets an event bit, and vector 256 + i is sent. -/
def event (s : State) (off : Nat) (f : Fld) (i : Nat) : State := eventMsg (setF s off f 1) i

/-! ### The event ring (R430–R437) -/

/-- A record's words without its CRC. -/
def EventRec.body (r : EventRec) : List Word :=
  [ zext r.seq ||| zext r.cls <<< 32 ||| b2w r.forced <<< 34 ||| b2w r.closed <<< 35 ||| zext r.kind <<< 36
      ||| zext r.mergeCnt <<< 48,
    r.firstFt,
    zext r.firstDetail ||| zext r.topDetail <<< 32,
    zext r.firstSource ||| zext r.firstCause <<< 8 ||| zext r.topSource <<< 16 ||| zext r.topCause <<< 24
      ||| zext r.job <<< 32,
    ext r.sources 0 64, ext r.sources 64 64, ext r.sources 128 64 ]

/-- The eight words of a record (Table 17.4). -/
def EventRec.toWords (r : EventRec) : List Word :=
  r.body ++ [zext (crc32c ((wordsToBytes (r.body ++ [0])).take 60)) <<< 32]

/-- Write words from a black-box word index on. -/
def bbPut (bb : List (Nat × Word)) : Nat → List Word → List (Nat × Word)
  | _, [] => bb
  | i, w :: ws => bbPut (mapSet (fun _ => 0) bb i w) (i + 1) ws

/-- Word index of copy A of the ring, and of copy B (Table 17.5). -/
def ringA : Nat := 0x0200000 / 8
/-- Copy B of the ring. -/
def ringB : Nat := 0x0400000 / 8

/-- Slot of a record (R437), as a distance in words. -/
def slotOff (seq : BitVec 32) : Nat := seq.toNat % 32768 * 8

/-- The source bit of a record. -/
def srcBit (n : Nat) : BitVec 192 := (1 : BitVec 192) <<< n

/-- A fault as a record of its own, or merged into one. -/
def mergeFault (r : EventRec) (src cause : Nat) (cls : Nat) (detail : BitVec 32) (forced : Bool) : EventRec :=
  let r := { r with sources := r.sources ||| srcBit src, forced := r.forced || forced,
                    mergeCnt := if r.mergeCnt = 0xFFFF#16 then r.mergeCnt else r.mergeCnt + 1 }
  if r.cls.toNat < cls then
    { r with cls := BitVec.ofNat 2 cls, topSource := BitVec.ofNat 8 src, topCause := BitVec.ofNat 8 cause,
             topDetail := detail }
  else r

/-- The record that a fault opens. -/
def openRec (s : State) (src cause cls : Nat) (job : BitVec 16) (detail : BitVec 32) (forced : Bool) : EventRec :=
  { seq := s.flt.nextSeq, cls := BitVec.ofNat 2 cls, forced := forced, closed := false, kind := 0, mergeCnt := 0,
    firstFt := now s, firstDetail := detail, topDetail := detail, firstSource := BitVec.ofNat 8 src,
    firstCause := BitVec.ofNat 8 cause, topSource := BitVec.ofNat 8 src, topCause := BitVec.ofNat 8 cause,
    job := job, sources := srcBit src }

/-- The counts of R433. -/
def countFault (s : State) (src cls : Nat) : State :=
  let s := bump s (FLT_CNT cls) FLT_CNT_COUNT 1
  let s := bump s (FLT_SRC src) FLT_SRC_COUNT 1
  let s := setF s (FLT_SRC src) FLT_SRC_LAST_CLASS cls
  setF s (FLT_SRC src) FLT_SRC_LAST_FT (now s).toNat

/-- A black-box copy, by its MRAM offset, whose cells fail verification twice (R436). -/
def bbFails (s : State) (w : Nat) : Bool := s.flt.bbBad.contains (w * 8)

/-- A record in each copy that takes it; a copy that fails stands as it was. -/
def bbWrite (s : State) (r : EventRec) : State :=
  let a := ringA + slotOff r.seq
  let b := ringB + slotOff r.seq
  let bb := if bbFails s a then s.flt.bb else bbPut s.flt.bb a r.toWords
  let bb := if bbFails s b then bb else bbPut bb b r.toWords
  { s with flt := { s.flt with bb := bb } }

/-- BB_WRITE is raised: counted and shown, also in the history's second (R433, R436, R439). -/
def bbRaise (s : State) : State :=
  let s := event (countFault s 183 0) FLT_STATUS FLT_STATUS_BB_ERR_EVENT 0
  { s with flt := { s.flt with secFault := true } }

/-- BB_WRITE of a copy merges into the open record. -/
def bbMerge (s : State) (w : Nat) : State :=
  let s := bbRaise s
  { s with flt := { s.flt with cur := s.flt.cur.map (fun r => mergeFault r 183 0x22 0 (BitVec.ofNat 32 (w * 8)) false) } }

/-- The copies of a record's slot that failed: one BB_WRITE each. -/
def bbReport (s : State) (seq : BitVec 32) (raise : State → Nat → State) : State :=
  let a := ringA + slotOff seq
  let b := ringB + slotOff seq
  let s := if bbFails s a then raise s a else s
  if bbFails s b then raise s b else s

/-- The NOTE fault BB_WRITE of a copy (R436): it merges into the open record, or opens one, whose own copies may fail too. -/
def bbError (s : State) (w : Nat) : State :=
  if s.flt.cur.isSome then bbMerge s w
  else
    let s := bbRaise s
    let r := openRec s 183 0x22 0 0xFFFF (BitVec.ofNat 32 (w * 8)) false
    let s := { s with flt := { s.flt with cur := some r, nextSeq := s.flt.nextSeq + 1 } }
    bbReport (bbWrite (event (setF s FLT_STATUS FLT_STATUS_OPEN 1) FLT_STATUS FLT_STATUS_OPEN_EVENT 0) r) r.seq bbMerge

/-- Write a record to both copies of the ring (R436, R437). -/
def putRecord (s : State) (r : EventRec) : State := bbReport (bbWrite s r) r.seq bbError

/-- Cells of the black box fail from now on (R436). -/
def wear (s : State) (cells : List Nat) : State := { s with flt := { s.flt with bbBad := s.flt.bbBad ++ cells.map (· * 8) } }

/-- A record of KIND TEST, STATE, BOOT or ACCESS, written closed (R430, R492). -/
def logEvent (s : State) (kind code source : Nat) (detail : BitVec 32) : State :=
  let r : EventRec :=
    { seq := s.flt.nextSeq, cls := 0, forced := false, closed := true, kind := BitVec.ofNat 4 kind, mergeCnt := 0,
      firstFt := now s, firstDetail := detail, topDetail := detail,
      firstSource := BitVec.ofNat 8 source, firstCause := BitVec.ofNat 8 code,
      topSource := BitVec.ofNat 8 source, topCause := BitVec.ofNat 8 code, job := 0xFFFF#16,
      sources := 0 }
  putRecord { s with flt := { s.flt with nextSeq := s.flt.nextSeq + 1 } } r

/-- Start a snapshot when a record reaches class UNIT (R438). -/
def snapTrigger (s : State) (seq : BitVec 32) (halt : Bool) : State :=
  if isSet s FLT_STATUS FLT_STATUS_SEALED then s
  else if halt || (isSet s FLT_CTRL FLT_CTRL_SNAP_EN && s.flt.snap.isNone) then
    { s with flt := { s.flt with snap := some (now s, seq) } }
  else s

/-- The record as a HALT segment is to hold it: as it stands at t0 + 10 µs (R443). -/
def haltView (s : State) (r : EventRec) : Option (Word × EventRec) :=
  s.flt.haltRec.map (fun e => if (now s).toNat ≤ e.1.toNat + 10000 then (e.1, r) else e)

/-- The collector takes a fault (R430, R433, R438): counts, record, ring, interrupt, snapshot. The recovery is
the raiser's. -/
def fault (s : State) (src cause cls : Nat) (job : BitVec 16) (detail : BitVec 32) (forced : Bool := false) :
    State :=
  let s := countFault s src cls
  let s := { s with flt := { s.flt with secFault := true } }
  match s.flt.cur with
  | none =>
    let r := openRec s src cause cls job detail forced
    let s := { s with flt := { s.flt with cur := some r, nextSeq := s.flt.nextSeq + 1 } }
    let s := setF s FLT_STATUS FLT_STATUS_OPEN 1
    let s := setF s FLT_STATUS FLT_STATUS_OPEN_EVENT 1
    let s := if cls = 3 then s else eventMsg s 0
    let s := putRecord s r
    if cls = 2 then snapTrigger s r.seq false else s
  | some r0 =>
    let r := mergeFault r0 src cause cls detail forced
    let s := { s with flt := { s.flt with cur := some r, haltRec := haltView s r } }
    if r0.cls.toNat < cls then
      let s := setF s FLT_STATUS FLT_STATUS_OPEN_EVENT 1
      let s := if cls = 3 then s else eventMsg s 0
      let s := putRecord s r
      if cls = 2 then snapTrigger s r.seq false else s
    else s

/-- A NOTE fault: recorded, counted and signalled, with no recovery. -/
def note (s : State) (src cause : Nat) (detail : BitVec 32) (job : BitVec 16 := 0xFFFF#16) : State :=
  fault s src cause 0 job detail

/-- Close the open record and write it (R430–R432). -/
def closeRecord (s : State) : State :=
  match s.flt.cur with
  | none => s
  | some r =>
    let s := { s with flt := { s.flt with cur := none } }
    let s := setF s FLT_STATUS FLT_STATUS_OPEN 0
    putRecord s { r with closed := true }

/-! ### HALT (R441) -/

/-- Clear EN of every ring of a list (R386). -/
def disableRings (s : State) : List Nat → State
  | [] => s
  | r :: rs => disableRings (setF (setF s (HIF_CR_CTRL r) HIF_CR_CTRL_EN 0) (HIF_QR_CTRL r) HIF_QR_CTRL_EN 0) rs

/-- Every ring number. -/
def allRings : List Nat := List.range 256

/-- A HALT cause arises (Table 17.6): latch, record, rings off, one message, the seal to follow. -/
def haltNow (s : State) (src cause : Nat) (detail : BitVec 32) (forced : Bool) (job : BitVec 16 := 0xFFFF#16) : State :=
  if s.boot.halt then fault s src cause 3 job detail forced
  else
    let s := { s with boot := { s.boot with halt := true } }
    let s := fault s src cause 3 job detail forced
    let s := setF s FLT_STATUS FLT_STATUS_HALTED 1
    let s := disableRings s allRings
    let s := eventMsg s 0
    let seq := match s.flt.cur with | some r => r.seq | none => s.flt.nextSeq
    let s := snapTrigger s seq true
    { s with flt := { s.flt with haltRec := s.flt.cur.map (fun r => (now s, r)), haltForced := forced } }

/-! ### Storage (R126, R346, R347, R355–R361) -/

/-- The stores of the address map. -/
inductive Store where
  | core (p : Nat)
  | cluster (c : Nat)
  | tier (d t : Nat)
  | object
  | csr
deriving DecidableEq, Repr

/-- Storage key of byte 0 of physical core p's SRAM. -/
def coreKey (p : Nat) : Nat := 0x100000000 + p * 0x1000000
/-- Storage key of byte 0 of cluster c's SRAM. -/
def cluKey (c : Nat) : Nat := 0x200000000 + c * 0x4000000
/-- Storage key of byte 0 of Puppeteer core p's data store. -/
def pupKey (p : Nat) : Nat := 0x800000000000 + p * 0x10000
/-- Storage key of byte 0 of hub SRAM. -/
def hubKey : Nat := 0x900000000000

/-- What a byte that nothing has written reads as: 0 (R361), but tier 2 holds what its device holds. -/
def memDefault (k : Nat) : Byte :=
  if 0x040000000000 ≤ k ∧ k < 0x080000000000 then Config.tier2Byte k else 0

/-- A byte of storage. -/
def rdByte (s : State) (k : Nat) : Byte := mapGet memDefault s.mem k

/-- The canonical form of storage. (DESIGN CHOICE, log entry 4.) -/
def Memory.wf (m : List Host.Cell) : Bool := mapWf memDefault m

/-- Bytes of storage from a key on. -/
def rdBytes (s : State) : Nat → Nat → List Byte
  | _, 0 => []
  | k, n + 1 => rdByte s k :: rdBytes s (k + 1) n

/-- Write one byte. -/
def wrByte (s : State) (k : Nat) (b : Byte) : State := { s with mem := mapSet memDefault s.mem k b }

/-- Physical core that slot n = 5c + j names (R347). -/
def physOf (s : State) (n : Nat) : Option Nat :=
  let c := n / 5
  let f := match n % 5 with
    | 0 => CLU_MAP_PHYS0 | 1 => CLU_MAP_PHYS1 | 2 => CLU_MAP_PHYS2 | 3 => CLU_MAP_PHYS3 | _ => CLU_MAP_SPARE
  let v := getF s (CLU_MAP c) f
  if v = 7 then none else some (5 * c + v)

/-- Physical core of a logical core (R22). -/
def coreOf (s : State) (l : Nat) : Option Nat := physOf s (5 * (l / 4) + l % 4)

/-- Slot that a physical core's SRAM is reached by, searching `k` slots of its cluster. -/
def slotOfAux (s : State) (p : Nat) : Nat → Option Nat
  | 0 => none
  | k + 1 =>
    match slotOfAux s p k with
    | some n => some n
    | none => if physOf s (5 * (p / 5) + k) = some p then some (5 * (p / 5) + k) else none

/-- Capacity of a tier window in bytes (MEM_TIER_SIZE). -/
def tierBytes (s : State) (d t : Nat) : Nat :=
  let f := match t with | 0 => MEM_TIER_SIZE_T0 | 1 => MEM_TIER_SIZE_T1 | _ => MEM_TIER_SIZE_T2
  getF s (MEM_TIER_SIZE d) f * 2 ^ 30

/-- Span of a tier window's addresses (Table 13.1). -/
def tierSpan (t : Nat) : Nat := match t with | 0 => 0x2000000000 | 1 => 0x6000000000 | _ => 0x10000000000

/-- Base of a tier window (Table 13.1). -/
def tierBase (d t : Nat) : Nat :=
  match t with
  | 0 => 0x010000000000 + d * 0x2000000000
  | 1 => 0x020000000000 + d * 0x6000000000
  | _ => 0x040000000000 + d * 0x10000000000

/-- The store and storage key of a device address; none where unassigned (R346). `own` is the issuing physical
core, for the core-local alias. -/
def locate (s : State) (own : Option Nat) (a : Nat) : Option (Store × Nat) :=
  if a < 0x800000 then own.map (fun p => (.core p, coreKey p + a))
  else if 0x100000000 ≤ a ∧ a < 0x100000000 + 80 * 0x1000000 then
    let n := (a - 0x100000000) / 0x1000000
    let o := (a - 0x100000000) % 0x1000000
    if o < 0x800000 then (physOf s n).map (fun p => (.core p, coreKey p + o)) else none
  else if 0x200000000 ≤ a ∧ a < 0x200000000 + 16 * 0x4000000 then
    let c := (a - 0x200000000) / 0x4000000
    let o := (a - 0x200000000) % 0x4000000
    if o < 0x2000000 then some (.cluster c, cluKey c + o) else none
  else if 0x300000000 ≤ a ∧ a < 0x300100000 then some (.object, a)
  else if 0x400000000 ≤ a ∧ a < 0x500000000 then some (.csr, a)
  else if 0x010000000000 ≤ a ∧ a < 0x010000000000 + 4 * 0x2000000000 then
    let d := (a - 0x010000000000) / 0x2000000000
    if a - tierBase d 0 < tierBytes s d 0 then some (.tier d 0, a) else none
  else if 0x020000000000 ≤ a ∧ a < 0x020000000000 + 4 * 0x6000000000 then
    let d := (a - 0x020000000000) / 0x6000000000
    if a - tierBase d 1 < tierBytes s d 1 then some (.tier d 1, a) else none
  else if 0x040000000000 ≤ a ∧ a < 0x080000000000 then
    let d := (a - 0x040000000000) / 0x10000000000
    if a - tierBase d 2 < tierBytes s d 2 then some (.tier d 2, a) else none
  else none

/-- Bytes of one store, or of two windows of a tier of which the first reaches up to the second (R346). -/
def joined (s : State) (st last : Store) : Bool :=
  st == last || match st, last with
    | .tier d t, .tier e u => t == u && e == d + 1 && tierBytes s d t == tierSpan t
    | _, _ => false

/-- The store and key of a whole range: its first and last bytes lie in stores without a gap between them (R346). -/
def locateSpan (s : State) (own : Option Nat) (a n : Nat) : Option (Store × Nat) :=
  match locate s own a with
  | none => none
  | some (st, k) =>
    if n ≤ 1 then some (st, k)
    else match locate s own (a + (n - 1)) with
      | some (last, k') => if k' = k + (n - 1) ∧ joined s st last = true then some (st, k) else none
      | none => none

/-- Bytes of a code word of the store that holds a key (R356, Table 13.3). -/
def codeWord (k : Nat) : Nat :=
  if 0x040000000000 ≤ k ∧ k < 0x080000000000 then 64
  else if 0x010000000000 ≤ k ∧ k < 0x040000000000 then 32
  else 4

/-- Whether the code word at key `w` overlaps the range of `n` bytes from `k`. -/
def overlaps (w k n : Nat) : Bool := decide (w < k + n) && decide (k < w + codeWord w)

/-- First failing code word in a range. -/
def badIn (s : State) (k n : Nat) : Option Nat := (s.bad.filter (fun w => overlaps w k n)).min?

/-- Whether a failing word is covered whole by a range. -/
def covers (w k n : Nat) : Bool := decide (k ≤ w) && decide (w + codeWord w ≤ k + n)

/-- Whether a key lies in a failing word of a list. -/
def inBad (l : List Nat) (k : Nat) : Bool := l.any (fun w => decide (w ≤ k) && decide (k < w + codeWord w))

/-- Write bytes, skipping those of the failing words listed. -/
def wrBytesBut (skip : List Nat) (s : State) : Nat → List Byte → State
  | _, [] => s
  | k, b :: bs => wrBytesBut skip (if inBad skip k then s else wrByte s k b) (k + 1) bs

/-- Write bytes to storage (R356): a failing word covered whole is written and cured; one covered in part keeps
its contents, and the second component names the first such word. -/
def wrBytes (s : State) (k : Nat) (bs : List Byte) : State × Option Nat :=
  let n := bs.length
  let kept := s.bad.filter (fun w => overlaps w k n && !(covers w k n))
  let s' := wrBytesBut kept s k bs
  ({ s' with bad := s.bad.filter (fun w => !(covers w k n)) }, kept.min?)

/-- The state with bytes written. -/
def putBytes (s : State) (k : Nat) (bs : List Byte) : State := (wrBytes s k bs).1

/-- Die of a store. -/
def Store.die (st : Store) : Nat :=
  match st with
  | .core p => p / 20
  | .cluster c => c / 4
  | .tier d _ => d
  | .object => 0
  | .csr => 0

/-- Fault source of a store (Table 17.2). -/
def Store.source (st : Store) : Nat :=
  match st with
  | .core p => p
  | .cluster c => 80 + c
  | .tier d t => 148 + 3 * d + t
  | .object => 183
  | .csr => 183

/-- STORE code of MEM_ERR_LAST (Table 13.8). -/
def Store.code (st : Store) : Nat :=
  match st with
  | .core _ => 0
  | .cluster _ => 1
  | .tier _ t => 4 + t
  | .object => 1
  | .csr => 1

/-- Device address of a storage key, through the slot that names a core's SRAM. -/
def devAddr (s : State) (st : Store) (k : Nat) : Nat :=
  match st with
  | .core p =>
    match slotOfAux s p 5 with
    | some n => coreKey n + (k - coreKey p)
    | none => k
  | _ => k

/-- A persistent error (R357): recorded, counted, one MEM_PERSIST fault of class `cls`. -/
def memPersist (s : State) (st : Store) (k cls : Nat) (job : BitVec 16) : State :=
  let w := k - k % codeWord k
  let a := devAddr s st w
  let s := bump s (MEM_CNT_PERSIST st.die) MEM_CNT_PERSIST_COUNT 1
  let s := setF s MEM_ERR_LAST MEM_ERR_LAST_ADDR a
  let s := setF s MEM_ERR_LAST MEM_ERR_LAST_STORE st.code
  let s := setF s MEM_ERR_LAST MEM_ERR_LAST_PERSIST 1
  let s := setF s MEM_STATUS MEM_STATUS_PERSIST_EVENT 1
  let s := match st with
    | .tier d t =>
      let l := mapGet (fun _ => []) s.errTimes (3 * d + t)
      { s with errTimes := mapSet (fun _ => []) s.errTimes (3 * d + t) (now s :: l) }
    | _ => s
  fault s st.source 0x07 cls job (BitVec.ofNat 32 a)

/-! ### Synchronisation objects (R151–R155) -/

/-- An object. -/
def obj (s : State) (n : Nat) : Obj := mapGet (fun _ => ⟨0, 0⟩) s.objs n
/-- Put an object. -/
def setObj (s : State) (n : Nat) (o : Obj) : State := { s with objs := mapSet (fun _ => ⟨0, 0⟩) s.objs n o }
/-- Owning job of an object; 0 when unbound. -/
def Obj.job (o : Obj) : BitVec 16 := ext o.ctrl 0 16
/-- KIND of an object. -/
def Obj.kind (o : Obj) : BitVec 3 := ext o.ctrl 16 3
/-- REMOTE_EN of an object. -/
def Obj.remote (o : Obj) : Bool := o.ctrl.getLsbD 19
/-- TIMER_INC of an object. -/
def Obj.timerInc (o : Obj) : BitVec 32 := ext o.ctrl 32 32

/-- An object after an add: COUNT saturates and sets SAT, and never wraps (R152). -/
def Obj.add (o : Obj) (v : Nat) : Obj :=
  if o.count.toNat + v < 2 ^ 64 then { o with count := BitVec.ofNat 64 (o.count.toNat + v) }
  else { count := BitVec.allOnes 64, ctrl := o.ctrl ||| (1 : Word) <<< 20 }

/-- Add to an object. -/
def objAdd (s : State) (n v : Nat) : State := setObj s n ((obj s n).add v)
/-- Set an object's COUNT. -/
def objSet (s : State) (n : Nat) (v : Word) : State := setObj s n { obj s n with count := v }

/-- The smallest index whose object has reached a wait's value. -/
def waitHit (s : State) (w : CoreWait) : Option Nat :=
  (List.range (w.count + 1)).find? (fun i => decide (w.v.toNat ≤ (obj s (w.obj + i)).count.toNat))

/-- A wait at the end of a cycle: a condition that holds then is met, whatever the object does later (R153). -/
def CoreWait.latch (s : State) (w : CoreWait) : CoreWait := { w with hit := w.hit <|> waitHit s w }

/-- A flow sequencer's wait at the end of a cycle; one that is met asks for nothing more. -/
def Flow.latch (s : State) (f : Flow) : Flow :=
  { f with wait := f.wait.map (fun w => if w.2.toNat ≤ (obj s w.1).count.toNat then (w.1, 0) else w) }

/-- Work of discovery, which goes first (R459). -/
def SecWork.discovery (w : SecWork) : Bool :=
  match w with
  | .statement _ _ => true
  | .proof _ => true
  | .signProof _ => true
  | _ => false

/-- The work that the SEC unit serves next: discovery's, then all other work in arrival order (R459). -/
def nextWork (s : State) : Option SecWork :=
  match s.sec.work.find? SecWork.discovery with
  | some w => some w
  | none => s.sec.work.head?

/-- Work for the SEC unit. -/
def addWork (s : State) (w : SecWork) : State := { s with sec := { s.sec with work := s.sec.work ++ [w] } }

/-- A piece of work is done. -/
def endWork (s : State) (w : SecWork) : State := { s with sec := { s.sec with work := s.sec.work.erase w } }

/-- A provenance request's wait at the end of a cycle; one that is met stays met (R374). -/
def ProvReq.latch (s : State) (q : ProvReq) : ProvReq :=
  { q with met := q.met || (bit (wordAt q.words 0).toNat 23
      && decide ((wordAt q.words 2).toNat ≤ (obj s (bits (wordAt q.words 1).toNat 15 0)).count.toNat)) }

/-- The request in progress tests its object. -/
def latchProv (s : State) : State :=
  match s.sec.prov with
  | [] => s
  | q :: qs => if nextWork s = some .prov then { s with sec := { s.sec with prov := q.latch s :: qs } } else s

/-- The waits test their objects at the end of a cycle (R153): the state before an operation of a later cycle. -/
def latchWaits (s : State) : State :=
  let s := latchProv s
  { s with cores := s.cores.map (fun e => (e.1, { e.2 with wait := e.2.wait.map (CoreWait.latch s) })),
           coll := { s.coll with launches := s.coll.launches.map (fun x => { x with flows := x.flows.map (Flow.latch s) }) } }

/-! ### Completion entries (R394–R396) -/

/-- Working state of a completion ring. -/
def qring (s : State) (q : Nat) : CplRing := mapGet (fun _ => ⟨0, [], 0, none, false, false⟩) s.qrings q
/-- Put it. -/
def setQring (s : State) (q : Nat) (r : CplRing) : State :=
  { s with qrings := mapSet (fun _ => ⟨0, [], 0, none, false, false⟩) s.qrings q r }
/-- Working state of a command ring. -/
def cring (s : State) (r : Nat) : CmdRing := mapGet (fun _ => ⟨[], none, none, none, false, 0⟩) s.crings r
/-- Put it. -/
def setCring (s : State) (r : Nat) (c : CmdRing) : State :=
  { s with crings := mapSet (fun _ => ⟨[], none, none, none, false, 0⟩) s.crings r c }

/-- Entries of a completion ring. -/
def qSize (s : State) (q : Nat) : Nat := 2 ^ getF s (HIF_QR_CTRL q) HIF_QR_CTRL_LOG2SIZE

/-- TAIL − HEAD of a completion ring, by the HEAD last read. -/
def qUsed (s : State) (q : Nat) : Nat :=
  (BitVec.ofNat 32 (getF s (HIF_QR_STATUS q) HIF_QR_STATUS_TAIL) - (qring s q).head).toNat

/-- The device's message for entries of a ring. -/
def qMessage (s : State) (q : Nat) : State :=
  let s := setQring s q { qring s q with uncovered := 0, holdFirst := none }
  msix s (getF s (HIF_QR_CTRL q) HIF_QR_CTRL_VECTOR)

/-- The words of an entry but for PHASE (Table 15.5), 32 of them. -/
def Cpl.toWords (c : Cpl) (ft : Word) : List Word :=
  let w0 := zext c.kind <<< 1 ||| zext c.cmdRing <<< 8 ||| zext c.cmdIndex <<< 16 ||| zext c.job <<< 32
  ((w0 :: ft :: c.body) ++ List.replicate 32 0).take 32

/-- Write one entry, words 1–31 first and word 0 last, then TAIL; signal what waits on it; send the ring's
message when due. -/
def qWrite (s : State) (q : Nat) (c : Cpl) : State :=
  let tail := getF s (HIF_QR_STATUS q) HIF_QR_STATUS_TAIL
  let size := qSize s q
  let a := reg s (HIF_QR_BASE q) + BitVec.ofNat 64 (256 * (tail % size))
  let phase : Word := if tail / size % 2 = 0 then 1 else 0
  let ws := c.toWords (now s)
  let s := emit s (.hostWrite (a + 8) ws.tail)
  let s := emit s (.hostWrite a [ws.headD 0 ||| phase])
  let s := setF s (HIF_QR_STATUS q) HIF_QR_STATUS_TAIL (tail + 1)
  let s := emit s (.hostWrite (reg s (HIF_QR_PTR q) + 8) [BitVec.ofNat 64 ((tail + 1) % 2 ^ 32)])
  let s := match c.signal with
    | some (n, v) => objAdd s n v.toNat
    | none => s
  let r := qring s q
  let s := setQring s q { r with uncovered := r.uncovered + 1, holdFirst := some (r.holdFirst.getD (now s)) }
  if max 1 (getF s (HIF_QR_CTRL q) HIF_QR_CTRL_COUNT) ≤ r.uncovered + 1 then qMessage s q else s

/-- The PCIe link is up and not in fundamental reset: posted writes leave (R386). -/
def hostUp (s : State) : Bool := s.boot.pcieUp && !s.boot.perst

/-- The PCIe endpoint takes memory requests: link up, not in fundamental reset, in D0 (R383, R386). -/
def pcieOpen (s : State) : Bool := hostUp s && !s.boot.d3hot

/-- Write waiting entries while the ring has room (structural in the list). -/
def qDrain (q : Nat) : List Cpl → State → State
  | [], s => setQring s q { qring s q with waiting := [], polling := false, full := false }
  | c :: cs, s =>
    if !isSet s (HIF_QR_CTRL q) HIF_QR_CTRL_EN || !hostUp s then setQring s q { qring s q with waiting := c :: cs }
    else if qUsed s q < qSize s q then qDrain q cs (qWrite s q c)
    else setQring s q { qring s q with waiting := c :: cs, polling := true, full := false }

/-- Put an entry in line for a ring, and write what the ring has room for, in the order received (R394). While
a poll of a full ring runs, entries only line up (R395). -/
def complete (s : State) (q : Nat) (c : Cpl) : State :=
  let r := qring s q
  if r.polling then setQring s q { r with waiting := r.waiting ++ [c] }
  else qDrain q (r.waiting ++ [c]) s

/-- The completion ring that a command ring names. -/
def cqOf (s : State) (r : Nat) : Nat := getF s (HIF_CR_CTRL r) HIF_CR_CTRL_CQ

/-- A completion of kind CMD (Table 15.5): STATUS, DETAIL, TAG. JOB_ID 0 names no job. -/
def cmdCpl (ring index tag : Nat) (job : BitVec 16) (status detail : Nat) (serial : Bool := false) : Cpl :=
  { serial := serial, kind := 4, cmdRing := BitVec.ofNat 8 ring, cmdIndex := BitVec.ofNat 16 index,
    job := if job = 0 then 0xFFFF#16 else job,
    body := [BitVec.ofNat 64 (status + detail % 2 ^ 32 * 2 ^ 32), BitVec.ofNat 64 tag], signal := none }

/-! ### Jobs, cores, domains -/

/-- An admitted job. -/
def job (s : State) (j : Nat) : Option Job := mapFind s.jobs j
/-- Put a job. -/
def setJob (s : State) (j : Nat) (x : Job) : State := { s with jobs := mapPut s.jobs j x }
/-- A physical core. -/
def core (s : State) (n : Nat) : Core := mapGet (fun _ => Core.init) s.cores n
/-- Put a physical core. -/
def setCore (s : State) (n : Nat) (c : Core) : State :=
  { s with cores := mapSet (fun _ => Core.init) s.cores n c }
/-- A Puppeteer core. -/
def pup (s : State) (n : Nat) : PupCore := mapGet (fun _ => PupCore.init) s.pups n
/-- Put a Puppeteer core. -/
def setPup (s : State) (n : Nat) (c : PupCore) : State :=
  { s with pups := mapSet (fun _ => PupCore.init) s.pups n c }

/-- State of a QID (Table 15.11): 0 free, 1 draining, 2 quiesced, 3 restarting. -/
def qidState (s : State) (k : Nat) : Nat := getF s (PUP_QER k) PUP_QER_STATE

/-- Whether some QID satisfies a test. -/
def anyQid (p : Nat → Bool) : Bool := (List.range 64).any p

/-- Whether a domain of a KIND and ID stands quiesced. -/
def quiesced (s : State) (kind id : Nat) : Bool :=
  anyQid (fun k => qidState s k == 2 && getF s (PUP_QER k) PUP_QER_KIND == kind && getF s (PUP_QER k) PUP_QER_ID == id)

end Sys2Proof.Machine
end

