-- ==== Sys2Proof/Machine/Flags.lean ====
section
/-! DEFINITION. The exception flags of a core's arrays and vector engine, and the exception block (R85–R88). -/
namespace Sys2Proof.Machine

/-- The first index kept when an instruction at `pc` raises a flag (R86). -/
def firstOf (old : Option (BitVec 32)) (raised : Bool) (pc : BitVec 32) : Option (BitVec 32) :=
  match old with
  | some x => some x
  | none => if raised then some pc else none

/-- A unit's flags after an instruction at `pc` that raised `f`. -/
def UnitFlags.raise (u : UnitFlags) (f : Fl) (pc : BitVec 32) : UnitFlags :=
  { inv := firstOf u.inv f.invalid pc, ovf := firstOf u.ovf f.overflow pc, unf := firstOf u.unf f.underflow pc,
    den := firstOf u.den f.denorm pc, inexact := if f.inexact then satAdd 24 u.inexact 1 else u.inexact }

/-- The smaller of two first indices (R87). -/
def minFirst (a b : Option (BitVec 32)) : Option (BitVec 32) :=
  match a, b with
  | none, y => y
  | x, none => x
  | some x, some y => if x.toNat ≤ y.toNat then some x else some y

/-- Flags of two units merged (R87). -/
def UnitFlags.merge (a b : UnitFlags) : UnitFlags :=
  ⟨minFirst a.inv b.inv, minFirst a.ovf b.ovf, minFirst a.unf b.unf, minFirst a.den b.den,
   satAdd 24 a.inexact b.inexact⟩

/-- The merged flags of a core's units (R87). -/
def mergeAll : List UnitFlags → UnitFlags
  | [] => UnitFlags.clear
  | u :: us => u.merge (mergeAll us)

/-- A first index as a record shows it. -/
def firstWord (x : Option (BitVec 32)) : Word := zext (x.getD 0xFFFFFFFF#32)

/-- Word 0 of the exception block (Table 3.9). -/
def UnitFlags.word0 (u : UnitFlags) : Word :=
  b2w u.inv.isSome ||| b2w u.ovf.isSome <<< 1 ||| b2w u.unf.isSome <<< 2 ||| b2w u.den.isSome <<< 3
    ||| BitVec.ofNat 64 u.inexact <<< 8
/-- Word 1. -/
def UnitFlags.word1 (u : UnitFlags) : Word := firstWord u.inv ||| firstWord u.ovf <<< 32
/-- Word 2. -/
def UnitFlags.word2 (u : UnitFlags) : Word := firstWord u.unf ||| firstWord u.den <<< 32

/-- Unit `i` of a core (0–3 arrays, 4 vector engine) raises flags for the instruction at `pc`. -/
def Core.raise (c : Core) (i : Nat) (f : Fl) (pc : BitVec 32) : Core :=
  { c with flags := c.flags.modify i (fun u => u.raise f pc) }

/-- All flags of a core cleared. -/
def Core.clearFlags (c : Core) : Core := { c with flags := List.replicate 5 UnitFlags.clear }

end Sys2Proof.Machine
end

