-- ==== Sys2Proof/Machine/Gates.lean ====
section
/-! DEFINITION. Ports, gate lists and fabric time (R300–R305, R318): which entry of a port's list is in force at an
FT, what is open, and for how long. -/
namespace Sys2Proof.Machine

/-! ### Ports (R10, R17, R269, R318) -/

/-- A port. -/
def port (s : State) (p : Nat) : PortSt := mapGet (fun _ => PortSt.init) s.net.ports p
/-- Put a port. -/
def setPort (s : State) (p : Nat) (x : PortSt) : State :=
  { s with net := { s.net with ports := mapSet (fun _ => PortSt.init) s.net.ports p x } }

/-- Bundle of a port. -/
def portBundle (p : Nat) : Nat := p / 32
/-- Lane within the bundle. -/
def portLane (p : Nat) : Nat := p % 32
/-- Die of a port. -/
def portDie (p : Nat) : Nat := p / 32 % 4
/-- Local port index on its die (R269). -/
def portLocal (p : Nat) : Nat := 32 * (p / 32 / 4) + p % 32
/-- LNK_PORT_CTRL of a port. -/
def pCtrl (p : Nat) : Nat := LNK_PORT_CTRL (portBundle p) (portLane p)
/-- LNK_PORT_STATUS of a port. -/
def pStat (p : Nat) : Nat := LNK_PORT_STATUS (portBundle p) (portLane p)
/-- LNK_PORT_LINK of a port. -/
def pLink (p : Nat) : Nat := LNK_PORT_LINK (portBundle p) (portLane p)
/-- Lanes of a port, by the width in force. -/
def portLanes (s : State) (p : Nat) : Nat := 2 ^ getF s (pCtrl p) LNK_PORT_CTRL_WIDTH
/-- State of a port (Table 12.13). -/
def portState (s : State) (p : Nat) : Nat := getF s (pStat p) LNK_PORT_STATUS_STATE
/-- Class of a port's bundle (Table 12.1): 0 A, 1 T, 2 H. -/
def portClass (s : State) (p : Nat) : Nat := getF s (LNK_BUNDLE_CTRL (portBundle p)) LNK_BUNDLE_CTRL_CLASS
/-- Whether a port runs Ethernet: ETH set on a class H bundle (R341). -/
def portEth (s : State) (p : Nat) : Bool :=
  portClass s p == 2 && isSet s (LNK_BUNDLE_CTRL (portBundle p)) LNK_BUNDLE_CTRL_ETH
/-- The link is up: VERIFYING, ACTIVE or QUARANTINED. -/
def portUp (s : State) (p : Nat) : Bool := 3 ≤ portState s p && portState s p ≤ 5
/-- Only VC7, twin 0 runs: VERIFYING or QUARANTINED (R329, R337). -/
def portMgmtOnly (s : State) (p : Nat) : Bool := portState s p == 3 || portState s p == 5

/-- Lowest lanes of a bundle, from lane `l` on, by the widths in force (structural in the count). -/
def lowLanesFrom (s : State) (b : Nat) : Nat → Nat → List Nat
  | 0, _ => []
  | k + 1, l => if 32 ≤ l then [] else (32 * b + l) :: lowLanesFrom s b k (l + portLanes s (32 * b + l))
/-- The ports of a bundle. -/
def portsOf (s : State) (b : Nat) : List Nat := lowLanesFrom s b 32 0

/-- A link word: its low 32 bits, and the CRC-32C over them above (Table 12.4). -/
def wcrcWord (low : Nat) : Word := BitVec.ofNat 64 (low + (crc32c (toBytes 4 low)).toNat * 2 ^ 32)

/-- ACK_SEQ of a port: the last packet it has accepted whole (Table 12.4). -/
def PortSt.ackSeq (x : PortSt) : BitVec 12 := x.rxSeq - (if x.midway then 2 else 1)

/-- An LPI word of a port: STATE 1 ENTER, 2 HOLD, 3 EXIT, and its acknowledgement (R412). -/
def lpiWord (x : PortSt) (st : Nat) : Word := wcrcWord (5 + st * 2 ^ 4 + x.ackSeq.toNat * 2 ^ 6)

/-- A port that carries LPI words while its bundle is in DUIKER: its link runs PFP 5.0 or later (R412). -/
def lpiPort (s : State) (p : Nat) : Bool := portUp s p && decide (0x50 ≤ getF s (pStat p) LNK_PORT_STATUS_VERSION)

/-- Every port of a bundle whose link is up sends an LPI word. -/
def sendLpi (s : State) (b st : Nat) : State :=
  (portsOf s b).foldl (fun s p =>
    if lpiPort s p && p < 1024 then
      emit (setPort s p { port s p with ackDue := false }) (.word (Fin.ofNat 1024 p) (lpiWord (port s p) st))
    else s) s

/-! ### Steps 12 and 13 of start-up (R465) -/

/-- A port of the plan in force still trains. -/
def planTrains (s : State) : Bool :=
  match s.sec.plan with
  | some p => p.ports.any (fun x => portState s x.port == 1)
  | none => false

/-- The step in progress has lasted so long, in ns. -/
def stepFor (s : State) (t : Nat) : Bool := decide (s.boot.stepAt.toNat + t ≤ (now s).toNat)

/-- The next step begins. -/
def enterStep (s : State) (n : Nat) : State :=
  setF { s with boot := { s.boot with stepAt := now s } } HUB_BOOT HUB_BOOT_STEP n

/-- Step 12 ends with the training of the plan's ports, or when its 63 ms are over. (DESIGN CHOICE, log entry 97.) -/
def endStep12 (s : State) : State :=
  if getF s HUB_BOOT HUB_BOOT_STEP = 12 ∧ (planTrains s = false ∨ stepFor s 63000000 = true) then enterStep s 13 else s

/-- Step 13 ends after its 20 ms, in PCIe boot at once: the rest of the endpoint opens (R463, R467). (DESIGN CHOICE, log
entry 97.) -/
def endStep13 (s : State) : State :=
  if getF s HUB_BOOT HUB_BOOT_STEP = 13 ∧ (s.boot.pcieBoot = true ∨ stepFor s 20000000 = true) then
    enterStep { s with boot := { s.boot with opened := true, pcieBoot := false } } 14
  else s

/-- Start-up goes on as far as it can. -/
def bootAdvance (s : State) : State := endStep13 (endStep12 s)

/-! ### Wire time (R299) -/

/-- Bytes on the wire of a packet of `len` payload bytes. An Ethernet frame counts its addresses, tag, EtherType,
framing words and FCS, 8 bytes of preamble and 12 of gap. -/
def wireBytes (s : State) (p len : Nat) : Nat :=
  if portEth s p then
    12 + (if isSet s (LNK_ETH_CTRL (portBundle p) (portLane p)) LNK_ETH_CTRL_TAG_EN then 4 else 0) + 2 + 8 + 64 + len + 8
      + 4 + 20
  else 64 + len + 16

/-- Wire time in units of 2^-16 ns, rounded up. -/
def wireTime (s : State) (p len : Nat) : Nat := cdiv (wireBytes s p len * 65536) (25 * portLanes s p)
/-- Wire time at a width of `w` lanes, rounded up to whole ns. -/
def wireNs (s : State) (p len w : Nat) : Nat := cdiv (wireBytes s p len) (25 * w)

/-! ### Gate lists (R300–R304) -/

/-- LEN of a port's list in force. -/
def gateLen (s : State) (p : Nat) : Nat := getF s (TSC_GATE_CTRL p) TSC_GATE_CTRL_LEN
/-- CYCLE of a port's list. -/
def gateCycle (s : State) (p : Nat) : Nat := getF s (TSC_GATE_TIME p) TSC_GATE_TIME_CYCLE
/-- PHASE of a port's list. -/
def gatePhase (s : State) (p : Nat) : Nat := getF s (TSC_GATE_TIME p) TSC_GATE_TIME_PHASE

/-- Entry `i` of die `d`'s gate memory: MASK and DURATION. -/
def gmem (s : State) (d i : Nat) : Nat × Nat :=
  let w := (reg s (TSC_GMEM d (i / 2))).toNat >>> (32 * (i % 2))
  (bits w 7 0, bits w 31 8)

/-- The list of a port. -/
def gateEntries (s : State) (p : Nat) : List (Nat × Nat) :=
  let b := getF s (TSC_GATE_CTRL p) TSC_GATE_CTRL_BASE
  (List.range (gateLen s p)).map (fun i => gmem s (portDie p) (b + i))

/-- Position in the cycle at FT `t`: (t − PHASE) mod CYCLE. -/
def cyclePos (cycle phase t : Nat) : Nat := (t % cycle + cycle - phase % cycle) % cycle

/-- Index, mask and start of the entry that covers a position. -/
def entryAt : List (Nat × Nat) → Nat → Nat → Nat → Option (Nat × Nat × Nat)
  | [], _, _, _ => none
  | (m, d) :: es, i, start, pos => if pos < start + d then some (i, m, start) else entryAt es (i + 1) (start + d) pos

/-- The entry of a port's list in force at FT `t`; the default list is one open entry. -/
def gateAt (s : State) (p t : Nat) : Nat × Nat :=
  if gateLen s p = 0 ∨ gateCycle s p = 0 then (0, 0xFF)
  else match entryAt (gateEntries s p) 0 0 (cyclePos (gateCycle s p) (gatePhase s p) t) with
    | some (i, m, _) => (i, m)
    | none => (0, 0)

/-- Nanoseconds from a position for which VC `v` stays open through consecutive entries (structural in the list). -/
def openRun (v : Nat) : List (Nat × Nat) → Nat
  | [] => 0
  | (m, d) :: es => if bit m v then d + openRun v es else 0

/-- The list turned so that the entry at index `i` comes first, cut at `off` into it. -/
def turned (es : List (Nat × Nat)) (i off : Nat) : List (Nat × Nat) :=
  match es.drop i with
  | (m, d) :: r => (m, d - off) :: r ++ es.take i ++ [(m, off)]
  | [] => es

/-- How long, in ns, VC `v` stays open from FT `t`; none when it is closed, and a cycle when it never closes. -/
def openFor (s : State) (p v t : Nat) : Option Nat :=
  if gateLen s p = 0 ∨ gateCycle s p = 0 then some (2 ^ 40)
  else
    let es := gateEntries s p
    let pos := cyclePos (gateCycle s p) (gatePhase s p) t
    match entryAt es 0 0 pos with
    | none => none
    | some (i, m, st) =>
      if bit m v then
        if es.all (fun e => bit e.1 v) then some (2 ^ 40) else some (openRun v (turned es i (pos - st)))
      else none

/-- Starts of the entries whose MASK passes a test. -/
def openStarts (ok : Nat → Bool) : List (Nat × Nat) → Nat → List Nat
  | [], _ => []
  | (m, d) :: es, st => if ok m then st :: openStarts ok es (st + d) else openStarts ok es (st + d)

/-- The next FT after `t` at which an entry starts whose MASK passes a test. -/
def nextStart (s : State) (p : Nat) (ok : Nat → Bool) (t : Nat) : Option Nat :=
  if gateLen s p = 0 ∨ gateCycle s p = 0 then none
  else
    let c := gateCycle s p
    let pos := cyclePos c (gatePhase s p) t
    ((openStarts ok (gateEntries s p) 0).map (fun st => t + (if st > pos then st - pos else c + st - pos))).min?

/-- MASK opens VC0–VC3 or VC5 (R305). -/
def opensScheduled (m : Nat) : Bool := bits m 3 0 != 0 || bit m 5

/-- The next FT after `t` at which the port's list opens VC0–VC3 or VC5. -/
def nextOpening (s : State) (p t : Nat) : Option Nat := nextStart s p opensScheduled t

/-- The window of VC `v` that is open at `t`, or the first to open after it: its start, or `t`, and its end. -/
def windowFrom (s : State) (p v t : Nat) : Option (Nat × Nat) :=
  match openFor s p v t with
  | some n => some (t, t + n)
  | none => match nextStart s p (fun m => bit m v) t with
    | some u => (openFor s p v u).map (fun n => (u, u + n))
    | none => none

/-- Longest run of entries in which VC `v` is open (`want`) or closed, by a list, the run so far and the best. -/
def runsOf (v : Nat) (want : Bool) : List (Nat × Nat) → Nat → Nat → Nat
  | [], _, best => best
  | (m, d) :: es, run, best =>
    if bit m v = want then runsOf v want es (run + d) (max best (run + d)) else runsOf v want es 0 best

/-- Longest run, across the wrap, in which VC `v` is open (`want`) or closed; at most a cycle. -/
def longestRun (v : Nat) (want : Bool) (es : List (Nat × Nat)) (cycle : Nat) : Nat :=
  min cycle (runsOf v want (es ++ es) 0 0)

/-- VC `v` is never closed for more than 100 µs in a row: some entry opens it, and no closed run is longer. -/
def closedAtMost (v : Nat) (es : List (Nat × Nat)) (cycle : Nat) : Bool :=
  es.any (fun e => bit e.1 v) && longestRun v false es cycle ≤ 100000

/-- R303 for one list on a port of `w` lanes: durations fill CYCLE, PHASE lies in it, each open VC has a run that holds a
largest packet, and VC6 and VC7 are never closed more than 100 µs in a row. -/
def listOk (s : State) (p w cycle phase base : Nat) (es : List (Nat × Nat)) : Bool :=
  es.length == 0 ||
    (es.length ≤ 1024 && base + es.length ≤ 131072 && es.all (fun e => 1 ≤ e.2)
      && (es.map Prod.snd).sum == cycle && 1000 ≤ cycle && cycle ≤ 1000000000 && phase < cycle
      && (List.range 8).all (fun v =>
            !(es.any (fun e => bit e.1 v)) || wireNs s p 2048 w ≤ longestRun v true es cycle)
      && closedAtMost 6 es cycle && closedAtMost 7 es cycle)

end Sys2Proof.Machine
end

