-- ==== Sys2Proof/Machine/Power.lean ====
section
/-! DEFINITION. Power domains: their known events, the choice of a state, wake alarms, waking on demand and the
end of a wake (R406–R415). -/
namespace Sys2Proof.Machine

/-! ### FT alarms (R47–R50) -/

/-- An alarm in use. -/
structure AlarmView where
  n : Nat
  action : Nat
  index : Nat
  target : Nat
  period : Nat
deriving DecidableEq, Repr

/-- The alarm of a CSR offset, when the offset is a listed FTU_ALARM_CTRL with EN set. -/
def alarmView (s : State) (off : Nat) : Option AlarmView :=
  if 0x101008 ≤ off ∧ off < 0x105008 ∧ (off - 0x101008) % 16 = 0 then
    let n := (off - 0x101008) / 16
    if isSet s off FTU_ALARM_CTRL_EN then
      some ⟨n, getF s off FTU_ALARM_CTRL_ACTION, getF s off FTU_ALARM_CTRL_TARGET_INDEX,
        (reg s (FTU_ALARM_TARGET n)).toNat, getF s off FTU_ALARM_CTRL_PERIOD⟩
    else none
  else none

/-- Every enabled alarm, in ascending number. -/
def alarmsOn (s : State) : List AlarmView := s.csr.filterMap (fun e => alarmView s e.1)

/-- Set an alarm. The device's own settings take effect while FTU_STATUS.VALID is 0 too; R44 drops writes. (DESIGN CHOICE,
log entry 17.) -/
def setAlarm (s : State) (n action index target period : Nat) : State :=
  let s := setReg s (FTU_ALARM_TARGET n) (BitVec.ofNat 64 target)
  let s := setF s (FTU_ALARM_CTRL n) FTU_ALARM_CTRL_ACTION action
  let s := setF s (FTU_ALARM_CTRL n) FTU_ALARM_CTRL_TARGET_INDEX index
  let s := setF s (FTU_ALARM_CTRL n) FTU_ALARM_CTRL_PERIOD period
  setF s (FTU_ALARM_CTRL n) FTU_ALARM_CTRL_EN 1

/-- Stop an alarm. -/
def stopAlarm (s : State) (n : Nat) : State := setF s (FTU_ALARM_CTRL n) FTU_ALARM_CTRL_EN 0

/-- Bring an alarm to rest: EN clear and no action. -/
def freeAlarm (s : State) (n : Nat) : State :=
  let s := setReg s (FTU_ALARM_CTRL n) 0
  { s with ftu := { s.ftu with owner := mapErase s.ftu.owner n } }

/-! ### Known events (Table 16.3) -/

/-- Logical identity of a physical core; 0xFF when it has none. -/
def logicalOf (s : State) (n : Nat) : Nat := getF s (CORE_STATUS n) CORE_STATUS_LOGICAL

/-- RESTART FTs of QIDs in RESTARTING whose domain satisfies a test of KIND and ID. -/
def restartFts (s : State) (p : Nat → Nat → Bool) : List Nat :=
  s.qids.filterMap (fun e =>
    if qidState s e.1 = 3 ∧ p (getF s (PUP_QER e.1) PUP_QER_KIND) (getF s (PUP_QER e.1) PUP_QER_ID) = true
    then some e.2.restartFt.toNat else none)

/-- Events of a core: its STEP_START and TEST_START alarms, also those that have fired and whose actions are still to take
effect, and the RESTART FT of a domain that contains it. -/
def coreEvents (s : State) (n : Nat) : List Nat :=
  let l := logicalOf s n
  (alarmsOn s).filterMap (fun a =>
      if (a.action = 6 ∧ a.index = l) ∨ (a.action = 5 ∧ a.index = n) then some a.target else none)
    ++ s.ftu.fired.filterMap (fun x =>
      if (x.action = 6 ∧ x.index.toNat = l) ∨ (x.action = 5 ∧ x.index.toNat = n) then some x.due.toNat else none)
    ++ restartFts s (fun k i => (k == 3 && i == n / 5) || (k == 1 && i == (core s n).job.toNat && i != 0))

/-- Events of a cluster. -/
def clusterEvents (s : State) (c : Nat) : List Nat :=
  (List.range 5).flatMap (fun j => coreEvents s (5 * c + j))
    ++ (alarmsOn s).filterMap (fun a =>
        if a.action = 3 ∧ a.index < 65536 ∧ a.index / 4096 = c then some a.target else none)
    ++ s.ftu.fired.filterMap (fun x =>
        if x.action = 3 ∧ x.index.toNat < 65536 ∧ x.index.toNat / 4096 = c then some x.due.toNat else none)

/-- A port of a class T bundle sends PFP time messages: its link is ACTIVE and runs PFP 4.0 or later (R40). -/
def sendsTime (s : State) (b : Nat) : Bool :=
  getF s (LNK_BUNDLE_CTRL b) LNK_BUNDLE_CTRL_CLASS == 1 && isSet s FTU_CTRL FTU_CTRL_PFP_TX_EN
    && (portsOf s b).any (fun p => portState s p == 4 && decide (0x40 ≤ getF s (pStat p) LNK_PORT_STATUS_VERSION))

/-- Events of a bundle. -/
def bundleEvents (s : State) (b : Nat) : List Nat :=
  let t := (now s).toNat
  (portsOf s b).filterMap (fun p => nextOpening s p t)
    ++ (if sendsTime s b then [t - t % 1000000 + 1000000] else [])
    ++ restartFts s (fun k i => k == 0 && i == b)

/-- The next known event of a domain at or after now. -/
def nextEvent (s : State) (u : Nat) : Option Nat :=
  let l := if u < 80 then coreEvents s u else if u < 96 then clusterEvents s (u - 80) else bundleEvents s (u - 96)
  (l.filter (fun t => (now s).toNat ≤ t)).min?

/-! ### Choice of a state (R408–R411) -/

/-- Wake time of a state, ns (Table 16.2). -/
def wakeTime (st : Nat) : Nat :=
  match st with
  | 1 => 20
  | 2 => 8000
  | 3 => 400000
  | _ => 0

/-- State of a domain. -/
def domState (s : State) (u : Nat) : Nat := getF s (PWR_DOMAIN u) PWR_DOMAIN_STATE

/-- A schedule is loaded: an image in force, or one that waits for its RESTART, holds events or gate lists. -/
def scheduleLoaded (s : State) : Bool :=
  s.jobs.any (fun j => [j.2.image, j.2.next].any (fun i => match i with
    | some i => !i.events.isEmpty || !i.gates.isEmpty
    | none => false))

/-- R411: planning may go below IMPALA. It goes on through a later loss of SYNC. -/
def planning (s : State) : Bool := s.pwr.planned && scheduleLoaded s

/-- The instant from which R411 lets the power manager plan: a RESTART FT has passed, and SYNC is 1 or SRC FREE. -/
def latchPlan (s : State) : State :=
  if s.pwr.restarted && (isSet s FTU_STATUS FTU_STATUS_SYNC || getF s FTU_CTRL FTU_CTRL_SRC == 0)
  then { s with pwr := { s.pwr with planned := true } } else s

/-- A core is idle: nothing issued and nothing outstanding, or it only waits on an object; no kernel and no swap runs on
it. -/
def coreIdle (s : State) (n : Nat) : Bool :=
  let c := core s n
  let st := getF s (CORE_STATUS n) CORE_STATUS_STATE
  (!c.running || c.wait.isSome) && c.dma.isEmpty && c.mx.isEmpty && c.vec.isEmpty && c.held.isEmpty && st != 4 && st != 5

/-- A core serves a SLOT entry: a valid layer slot names it among its CORES. -/
def servesSlot (s : State) (n : Nat) : Bool :=
  s.slots.any (fun e => bit (wordAt e.2 0).toNat 6 && bit (wordAt e.2 1).toNat (logicalOf s n))

/-- The next event of a core is a STEP_START or TEST_START alarm, no step runs, and no SLOT entry is served (R410). -/
def nextIsAlarm (s : State) (n : Nat) : Bool :=
  !(core s n).running && (core s n).dueEntries.isEmpty && !servesSlot s n &&
    match nextEvent s n with
    | none => false
    | some t => (alarmsOn s).any (fun a =>
        ((a.action == 6 && a.index == logicalOf s n) || (a.action == 5 && a.index == n)) && a.target == t)

/-- A layer slot names a core of the cluster, or its SRAM. -/
def slotNames (s : State) (c : Nat) : Bool :=
  s.slots.any (fun e => bit (wordAt e.2 0).toNat 6 && (bits (wordAt e.2 1).toNat (4 * c + 3) (4 * c) != 0
    || (cluKey c ≤ bits (wordAt e.2 3).toNat 47 0 && bits (wordAt e.2 3).toNat 47 0 < cluKey c + 0x2000000)))

/-- Valid entries of the region table: index, base, length, job, REMOTE_W (Table 13.9). -/
def regionsOn (s : State) : List (Nat × Nat × Nat × Nat × Bool) :=
  s.csr.filterMap (fun e =>
    if 0x7001000 ≤ e.1 ∧ e.1 < 0x7005000 ∧ (e.1 - 0x7001000) % 16 = 0 ∧ isSet s e.1 MEM_REGION_VALID = true then
      let i := (e.1 - 0x7001000) / 16
      some (i, getF s (MEM_REGION i) MEM_REGION_BASE, getF s (MEM_REGION_W1 i) MEM_REGION_W1_LENGTH,
        getF s (MEM_REGION_W1 i) MEM_REGION_W1_JOB_ID, isSet s (MEM_REGION i) MEM_REGION_REMOTE_W)
    else none)

/-- Whether two ranges of device addresses meet. -/
def rangesMeet (a n b m : Nat) : Bool := decide (a < b + m) && decide (b < a + n)

/-- A range lies within one entry of a job's regions. -/
def inRegion (s : State) (j a n : Nat) (remote : Bool) : Bool :=
  (regionsOn s).any (fun r => r.2.2.2.1 == j && decide (r.2.1 ≤ a) && decide (a + n ≤ r.2.1 + r.2.2.1)
    && (!remote || r.2.2.2.2))

/-- A region of a job, not of firmware, lies in the cluster's SRAM or a core SRAM of it. -/
def regionIn (s : State) (c : Nat) : Bool :=
  (regionsOn s).any (fun r => r.2.2.2.1 != 0xFFFF && (
    rangesMeet r.2.1 r.2.2.1 (cluKey c) 0x2000000 || rangesMeet r.2.1 r.2.2.1 (coreKey (5 * c)) (5 * 0x1000000)))

/-- R410 for one state of a domain. -/
def mayEnter (s : State) (u st : Nat) : Bool :=
  if u < 80 then
    (st ≤ min 2 (getF s PWR_CTRL PWR_CTRL_MAX_CORE))
      && (match st with
        | 1 => coreIdle s u
        | 2 => coreIdle s u && nextIsAlarm s u && planning s
        | _ => false)
  else if u < 96 then
    let c := u - 80
    st == 3 && isSet s PWR_CTRL PWR_CTRL_CLUSTER_DIKDIK && planning s
      && (List.range 5).all (fun j => (core s (5 * c + j)).job == 0 && coreIdle s (5 * c + j))
      && !(s.objs.any (fun e => e.1 / 4096 == c && e.2.job != 0)) && !(slotNames s c) && !(regionIn s c)
  else
    let b := u - 96
    let m := getF s PWR_CTRL PWR_CTRL_MAX_BUNDLE
    planning s && (portsOf s b).all (fun p => (port s p).q.isEmpty) && (match st with
      | 2 => 2 ≤ m && (portsOf s b).all (fun p => portState s p != 4
              || (0x50 ≤ getF s (pStat p) LNK_PORT_STATUS_VERSION && !portEth s p))
      | 3 => m == 3 && (portsOf s b).all (fun p => !portUp s p)
      | _ => false)

/-- Both conditions of R408. -/
def timeAllows (s : State) (u st : Nat) : Bool :=
  match nextEvent s u with
  | none => true
  | some t =>
    let d := t - (now s).toNat
    decide (11 * wakeTime st ≤ 10 * d) && (st != 3 || decide (5000000 ≤ d))

/-- A free wake alarm of 968–1023. -/
def freeWakeAlarm (s : State) : Option Nat :=
  ((List.range 56).map (fun i => 968 + i)).find? (fun n => !(s.pwr.alarms.any (fun e => e.2 == n)))

/-- Put a domain in a state, its NEXT shown; a cluster's cores follow it into DIKDIK. -/
def setDomain (s : State) (u st : Nat) : State :=
  let s := setF s (PWR_DOMAIN u) PWR_DOMAIN_STATE st
  let s := setF s (PWR_DOMAIN u) PWR_DOMAIN_NEXT (match nextEvent s u with | some t => t | none => 2 ^ 56 - 1)
  if u < 80 then setF s (CORE_STATUS u) CORE_STATUS_PSTATE (if domState s (80 + u / 5) = 3 then 3 else st)
  else if u < 96 then
    if st = 3 then (List.range 5).foldl (fun s j => setF s (CORE_STATUS (5 * (u - 80) + j)) CORE_STATUS_PSTATE 3) s
    else (List.range 5).foldl (fun s j =>
      setF s (CORE_STATUS (5 * (u - 80) + j)) CORE_STATUS_PSTATE (domState s (5 * (u - 80) + j))) s
  else s

/-- A domain begins to enter a state. -/
def enterState (s : State) (u st : Nat) : State :=
  let s := setDomain s u st
  let s := bump s (PWR_CNT_ENTRY (st - 1)) PWR_CNT_ENTRY_COUNT 1
  let s := if 96 ≤ u ∧ st = 2 then sendLpi s (u - 96) 1 else s
  { s with pwr := { s.pwr with entering := (s.pwr.entering.filter (· != u)) ++ [u] } }

/-- Enter a state that needs a wake alarm when the next event is known (R409). -/
def enterDeep (s : State) (u st : Nat) : State :=
  match nextEvent s u with
  | none => enterState s u st
  | some t =>
    match freeWakeAlarm s with
    | some n =>
      let s := { s with pwr := { s.pwr with alarms := mapPut s.pwr.alarms u n } }
      enterState (setAlarm s n 4 u (t - 11 * wakeTime st / 10) 0) u st
    | none =>
      let s := bump s PWR_CNT_NO_ALARM PWR_CNT_NO_ALARM_COUNT 1
      let s := { s with pwr := { s.pwr with starved := (s.pwr.starved.filter (· != u)) ++ [u] } }
      if u < 80 ∧ mayEnter s u 1 = true ∧ timeAllows s u 1 = true ∧ domState s u = 0 then enterState s u 1 else s

/-- A domain below IMPALA whose next known event has moved: its wake alarm moves too. Without a free alarm it wakes, to
the state that needs none (R408, R409). -/
def retarget (s : State) (u : Nat) : State :=
  let st := domState s u
  match nextEvent s u, mapFind s.pwr.alarms u with
  | none, none => s
  | none, some n => { setReg s (FTU_ALARM_CTRL n) 0 with pwr := { s.pwr with alarms := mapErase s.pwr.alarms u } }
  | some t, some n => setAlarm s n 4 u (t - 11 * wakeTime st / 10) 0
  | some t, none =>
    match freeWakeAlarm s with
    | some n => setAlarm { s with pwr := { s.pwr with alarms := mapPut s.pwr.alarms u n } } n 4 u (t - 11 * wakeTime st / 10) 0
    | none =>
      let s := bump s PWR_CNT_NO_ALARM PWR_CNT_NO_ALARM_COUNT 1
      { s with pwr := { s.pwr with waking := s.pwr.waking ++ [u], starved := (s.pwr.starved.filter (· != u)) ++ [u] } }

/-- Evaluate a domain (R408): the deepest allowed state of its kind. -/
def evalOne (s : State) (u : Nat) : State :=
  if !running s || s.pwr.waking.contains u || (u < 80 && domState s (80 + u / 5) == 3) then s
  else
    let s := setF s (PWR_DOMAIN u) PWR_DOMAIN_NEXT (match nextEvent s u with | some t => t | none => 2 ^ 56 - 1)
    if 2 ≤ domState s u then
      retarget (if domState s u = 2 && mayEnter s u 3 && timeAllows s u 3 then enterState s u 3 else s) u
    else match [3, 2, 1].find? (fun st => mayEnter s u st && timeAllows s u st) with
      | some 1 => if domState s u = 1 then s else enterState s u 1
      | some st => enterDeep s u st
      | none => s

/-- Evaluate the domains that waited for an alarm (R409). -/
def evalStarved (s : State) : State :=
  let l := s.pwr.starved
  l.foldl evalOne { s with pwr := { s.pwr with starved := [] } }

/-- Evaluate a domain; those that wait for a wake alarm follow when it gives one back. -/
def evalDomain (s : State) (u : Nat) : State :=
  let s' := evalOne s u
  if s'.pwr.alarms.length < s.pwr.alarms.length then evalStarved s' else s'

/-- Evaluate a core's domain and its cluster's. -/
def evalCore (s : State) (n : Nat) : State := evalDomain (evalDomain s n) (80 + n / 5)

/-- Evaluate every domain: known events have been added or moved. -/
def evalAll (s : State) : State := (List.range 128).foldl evalDomain s

/-- Evaluate the domains of a core that has fallen idle (R408). -/
def evalIdle (s : State) (n : Nat) : State := if running s && coreIdle s n then evalCore s n else s

/-- Evaluate the domains of which an alarm is a known event: it has been set, has moved or has gone (R408). -/
def evalAlarm (s : State) (k : Nat) : State :=
  let i := getF s (FTU_ALARM_CTRL k) FTU_ALARM_CTRL_TARGET_INDEX
  match getF s (FTU_ALARM_CTRL k) FTU_ALARM_CTRL_ACTION with
  | 3 => if i < 65536 then evalDomain s (80 + i / 4096) else s
  | 5 => if i < 80 then evalCore s i else s
  | 6 => match (if i < 64 then coreOf s i else none) with | some n => evalCore s n | none => s
  | _ => s

/-- A bundle is evaluated when it has nothing left to send. -/
def evalBundle (s : State) (b : Nat) : State :=
  if (portsOf s b).all (fun p => (port s p).q.isEmpty) then evalDomain s (96 + b) else s

/-! ### Waking (R407, R409, R413) -/

/-- A domain gives back its wake alarm. -/
def releaseAlarm (s : State) (u : Nat) : State :=
  match mapFind s.pwr.alarms u with
  | none => s
  | some n =>
    let s := setReg s (FTU_ALARM_CTRL n) 0
    evalStarved { s with pwr := { s.pwr with alarms := mapErase s.pwr.alarms u } }

/-- A wake starts; IMPALA's 20 ns lie within every action's lead, so it ends at once (R409). A bundle in DUIKER sends EXIT
words (R412). -/
def startWake (s : State) (u : Nat) : State :=
  if domState s u = 0 ∨ s.pwr.waking.contains u = true then s
  else if domState s u = 1 then setDomain s u 0
  else
    let s := if 96 ≤ u ∧ domState s u = 2 then sendLpi s (u - 96) 3 else s
    releaseAlarm { s with pwr := { s.pwr with waking := s.pwr.waking ++ [u] } } u

/-- Demand wakes a domain (R413); each such wake counts. -/
def demandWake (s : State) (u : Nat) : State :=
  if domState s u = 0 ∨ s.pwr.waking.contains u = true then s
  else startWake (bump s PWR_CNT_DEMAND PWR_CNT_DEMAND_COUNT 1) u

/-- Whether a domain takes work. -/
def awake (s : State) (u : Nat) : Bool := domState s u < 2

/-- A core takes work: its own domain and its cluster's are awake. -/
def coreAwake (s : State) (n : Nat) : Bool := awake s n && awake s (80 + n / 5)

/-- The domain that a store needs awake, when it sleeps. -/
def sleeper (s : State) (st : Store) : Option Nat :=
  match st with
  | .core p => if !awake s (80 + p / 5) then some (80 + p / 5) else if !awake s p then some p else none
  | .cluster c => if !awake s (80 + c) then some (80 + c) else none
  | _ => none

end Sys2Proof.Machine
end

