-- ==== Sys2Proof/Machine/Net.lean ====
section
/-! DEFINITION. Packets and the switch core's parts: headers (R244–R247), translation (R249–R251), routes
(R270–R288), the pool manager (R259–R265), credits (R254–R257) and the fences' streams (R280–R283). -/
namespace Sys2Proof.Machine

/-! ### Headers (Table 9.1) -/

/-- A field of a header. -/
def hF (h : BitVec 512) (lo w : Nat) : Nat := (h.toNat >>> lo) % 2 ^ w

end Sys2Proof.Machine

namespace Sys2Proof
open Sys2Proof.Machine

def Packet.version (p : Packet) : Nat := hF p.hdr 0 8
def Packet.vc (p : Packet) : Nat := hF p.hdr 8 3
def Packet.fence (p : Packet) : Bool := hF p.hdr 11 1 == 1
def Packet.type (p : Packet) : Nat := hF p.hdr 12 4
def Packet.job (p : Packet) : Nat := hF p.hdr 16 16
def Packet.src (p : Packet) : Nat := hF p.hdr 32 20
def Packet.dst (p : Packet) : Nat := hF p.hdr 64 20
def Packet.len (p : Packet) : Nat := hF p.hdr 84 12
def Packet.hash (p : Packet) : Nat := hF p.hdr 96 32
def Packet.fcount (p : Packet) : Nat := hF p.hdr 128 32
def Packet.origin (p : Packet) : Nat := hF p.hdr 160 16
def Packet.birth (p : Packet) : Nat := hF p.hdr 192 40
def Packet.slot (p : Packet) : Nat := hF p.hdr 232 6
def Packet.slotEn (p : Packet) : Bool := hF p.hdr 238 1 == 1
def Packet.group (p : Packet) : Nat := hF p.hdr 256 16
def Packet.lseq (p : Packet) : Nat := hF p.hdr 272 32
def Packet.offset (p : Packet) : Nat := hF p.hdr 320 48
def Packet.syncObj (p : Packet) : Nat := hF p.hdr 384 16
def Packet.syncEn (p : Packet) : Bool := hF p.hdr 400 1 == 1
def Packet.ckind (p : Packet) : Nat := hF p.hdr 401 3
def Packet.pfmt (p : Packet) : Nat := hF p.hdr 404 4
def Packet.input (p : Packet) : Nat := hF p.hdr 408 20
def Packet.hcrc (p : Packet) : Nat := hF p.hdr 480 32

end Sys2Proof

namespace Sys2Proof.Machine

/-- A header before its bits are laid out. Fields the sender does not use are 0. -/
structure Hdr where
  type : Nat
  vc : Nat
  fence : Bool := false
  job : Nat := 0
  src : Nat := 0
  dst : Nat := 0
  /-- FLOW_HASH; `mkPacket` writes the drawn value or the pin hash there. -/
  hash : Nat := 0
  drawn : Option Nat := none
  fcount : Nat := 0
  origin : Nat := 0
  birth : Nat := 0
  group : Nat := 0
  lseq : Nat := 0
  offset : Nat := 0
  sync : Option Nat := none
  ckind : Nat := 0
  pfmt : Nat := 0
  input : Nat := 0
deriving DecidableEq, Repr

/-- The low 60 bytes of a header, with the payload's length. -/
def Hdr.low (h : Hdr) (len : Nat) : Nat :=
  0x52 + h.vc <<< 8 + (b2n h.fence) <<< 11 + h.type <<< 12 + h.job <<< 16 + h.src <<< 32 + h.dst <<< 64 + len <<< 84
    + h.hash <<< 96 + h.fcount <<< 128 + h.origin <<< 160 + h.birth <<< 192 + h.group <<< 256 + h.lseq <<< 272
    + h.offset <<< 320
    + (match h.sync with | some o => (o + 0x10000) <<< 384 | none => 0)
    + h.ckind <<< 401 + h.pfmt <<< 404 + h.input <<< 408

/-- HDR_CRC over bytes 0–59 (R245). -/
def hdrCrc (low : Nat) : Nat := (crc32c (toBytes 60 low)).toNat

/-- The header's 64 bytes. -/
def Hdr.bits (h : Hdr) (len : Nat) : BitVec 512 := BitVec.ofNat 512 (h.low len + hdrCrc (h.low len) <<< 480)

/-- The pin hash (R272): CRC-32C over JOB_ID, SRC_RANK, DST_RANK and the header VC. -/
def pinHash (job src dst vc : Nat) : Nat := (crc32c (toBytes 2 job ++ toBytes 3 src ++ toBytes 3 dst ++ toBytes 1 vc)).toNat

/-- A packet as its sender forms it: FLOW_HASH is the pin hash, or the value drawn for a sprayed packet (R277, R278). -/
def mkPacket (h : Hdr) (payload : List Byte) : Packet :=
  let h := { h with hash := h.drawn.getD (pinHash h.job h.src h.dst h.vc) }
  { hdr := h.bits payload.length, payload := payload, bvc := Fin.ofNat 8 h.vc, twin := false, credit := 3,
    age := BitVec.ofNat 40 h.birth, seq := 0, stomp := false }

/-- VERSION of a header that the KV9 takes on a link of a version: PFP 3.0 to 5.2 and, below 5.0, the link's major version
(R330, R332). (DESIGN CHOICE, log entry 82.) -/
def versionOk (ver : Nat) (p : Packet) : Bool :=
  decide (0x30 ≤ p.version) && decide (p.version ≤ 0x52)
    && (decide (0x50 ≤ ver) || p.version / 16 == ver / 16)

/-- The header check on a link of a version (R248, Table 9.3): HDR_CRC, VERSION, PAYLOAD_LEN, and the payload's length. -/
def pktOk (ver : Nat) (p : Packet) : Bool :=
  p.hcrc == hdrCrc (p.hdr.toNat % 2 ^ 480) && versionOk ver p && p.len ≤ 2048 && p.len == p.payload.length

/-- Types of Table 9.2 and the VCs each may use. -/
def typeOk (t vc : Nat) : Bool :=
  match t with
  | 0 => vc ≤ 4
  | 1 => vc ≤ 4
  | 2 => vc ≤ 4
  | 3 => vc == 6
  | 4 => vc == 6
  | 5 => vc == 7
  | 6 => vc == 7
  | 7 => vc == 6
  | 8 => vc == 4
  | _ => false

/-- Fit class of a payload (R254): pool 0, 1 or 2. -/
def fitPool (len : Nat) : Nat := if len ≤ 128 then 0 else if len ≤ 640 then 1 else 2

/-- An FT rebuilt from its low 40 bits: the latest instant not after `t` that ends in them (R36). -/
def rebuild40 (t low : Nat) : Nat :=
  let m := 2 ^ 40
  let x := t - t % m + low
  if x ≤ t then x else x - m

/-! ### Versions (Table 12.6) -/

/-- Whether a link of a version can express a packet (R332). -/
def expressible (ver : Nat) (p : Packet) : Bool :=
  if 0x52 ≤ ver then true
  else
    let types := if ver < 0x40 then [0, 1, 4, 6] else if ver < 0x50 then [0, 1, 3, 4, 5, 6, 7] else [0, 1, 3, 4, 5, 6, 7, 8]
    types.contains p.type && !p.slotEn
      && (0x40 ≤ ver || (!p.fence && !p.syncEn && p.src ≤ 65535 && p.dst ≤ 65535))

/-- Clear a field of a header. -/
def clearField (h lo w v : Nat) : Nat := h - ((h >>> lo) % 2 ^ w) <<< lo + v <<< lo

/-- A header with its CRC anew. -/
def withCrc (p : Packet) (h : Nat) : Packet := { p with hdr := BitVec.ofNat 512 (h + hdrCrc h <<< 480) }

/-- Fields of Table 9.1 that a version below 5.0 lacks but for ORIGIN (Table 12.6): lowest bit and width. -/
def lacking (ver : Nat) : List (Nat × Nat) :=
  (232, 7) :: (if ver < 0x40 then [(11, 1), (96, 32), (128, 32), (192, 40), (384, 17), (48, 4), (80, 4)] else [])

/-- The fields that a version below 5.0 lacks, cleared, and ORIGIN at a value (R247). -/
def lowered (ver origin : Nat) (h : Nat) : Nat :=
  clearField ((lacking ver).foldl (fun h x => clearField h x.1 x.2 0) h) 160 16 origin

/-- A header received on a link: from one at PFP 3.x or 4.x it is converted to Table 9.1, and each field that the version
lacks takes the table's value (R247, R332); 5.0 and 5.1 lack SLOT and SLOT_EN. -/
def convertIn (ver : Nat) (p : Packet) : Packet :=
  let h := p.hdr.toNat % 2 ^ 480
  if 0x52 ≤ ver then p
  else if 0x50 ≤ ver then withCrc p (clearField h 232 7 0)
  else withCrc p (clearField (lowered ver 0xFFFF h) 0 8 0x52)

/-- A header sent on a link at PFP 3.x or 4.x: converted from Table 9.1, the fields that the version lacks at 0 (R247). -/
def convertOut (ver : Nat) (p : Packet) : Packet :=
  if 0x50 ≤ ver then p else withCrc p (clearField (lowered ver 0 (p.hdr.toNat % 2 ^ 480)) 0 8 ver)

/-! ### Parts of the state -/

/-- The device's coordinate, plane and plane shape (Table 10.5). -/
def ownCoord (s : State) (a : Nat) : Nat :=
  getF s HUB_RT_POS (match a with | 0 => HUB_RT_POS_X | 1 => HUB_RT_POS_Y | _ => HUB_RT_POS_Z)
/-- Size of an axis. -/
def axisSize (s : State) (a : Nat) : Nat :=
  max 1 (getF s HUB_RT_POS (match a with | 0 => HUB_RT_POS_SX | 1 => HUB_RT_POS_SY | _ => HUB_RT_POS_SZ))
/-- The plane closes an axis. -/
def axisWrap (s : State) (a : Nat) : Bool := bit (getF s HUB_RT_POS HUB_RT_POS_WRAP) a

/-- Valid entries of the job table: index and JOB_ID (R249). -/
def jobEntries (s : State) : List (Nat × Nat) :=
  s.csr.filterMap (fun e =>
    if 0x2010000 ≤ e.1 ∧ e.1 < 0x2020000 ∧ (e.1 - 0x2010000) % 16 = 0 ∧ isSet s e.1 SWC_JOB_VALID = true
    then some ((e.1 - 0x2010000) / 16, getF s e.1 SWC_JOB_JOB_ID) else none)

/-- The entry of a job. -/
def jobEntry (s : State) (j : Nat) : Option Nat := ((jobEntries s).find? (fun e => e.2 == j)).map Prod.fst

/-- What a rank translates to. -/
inductive Xlat where
  | here
  | port (p : Nat)
  | remote (x y z : Nat)
  | refuse (cause : Nat)
deriving DecidableEq, Repr

/-- Translation of a rank of a job (R249, Table 9.4, causes 1 to 3 of Table 9.5). -/
def translate (s : State) (j r : Nat) : Xlat :=
  match jobEntry s j with
  | none => .refuse 1
  | some e =>
    let o := SWC_JOB 0 e
    if getF s o SWC_JOB_RTT_COUNT ≤ r then .refuse 2
    else
      let i := getF s o SWC_JOB_RTT_BASE + r
      let t := SWC_RTT 0 i
      let u := SWC_RTT_W1 0 i
      let k := getF s t SWC_RTT_KIND
      if !isSet s t SWC_RTT_VALID || getF s u SWC_RTT_W1_RANK != r || getF s u SWC_RTT_W1_JOB_ID != j || k == 3
      then .refuse 2
      else if getF s t SWC_RTT_PLANE ≠ getF s HUB_RT_POS HUB_RT_POS_PLANE then .refuse 3
      else if k = 0 then .here
      else if k = 1 then .port (getF s t SWC_RTT_PORT)
      else .remote (getF s t SWC_RTT_X) (getF s t SWC_RTT_Y) (getF s t SWC_RTT_Z)

/-- Jobs that hold a rank at a port (Table 9.4). -/
def rankJobs (s : State) (q : Nat) : List Nat :=
  s.csr.filterMap (fun e =>
    if 0x2200000 ≤ e.1 ∧ e.1 < 0x2400000 ∧ (e.1 - 0x2200000) % 16 = 0 ∧ isSet s e.1 SWC_RTT_VALID = true
        ∧ getF s e.1 SWC_RTT_KIND = 1 ∧ getF s e.1 SWC_RTT_PORT = q
    then some (getF s (e.1 + 8) SWC_RTT_W1_JOB_ID) else none)

/-- Whether a VC is enabled for a job. -/
def vcEnabled (s : State) (j v : Nat) : Bool :=
  match jobEntry s j with
  | some e => bit (getF s (SWC_JOB 0 e) SWC_JOB_VC_EN) v
  | none => false

/-! ### Routes (R271–R274, R286, R287) -/

/-- Whether a coordinate lies in a cyclic interval. -/
def inInterval (o l size c : Nat) : Bool := decide ((c + size - o % size) % size < l)

/-- First coordinate and length of a job entry's slice on an axis (Table 10.8). -/
def sliceOf (s : State) (e a : Nat) : Nat × Nat :=
  let o := HUB_RT_JOB e
  match a with
  | 0 => (getF s o HUB_RT_JOB_X0, getF s o HUB_RT_JOB_LX)
  | 1 => (getF s o HUB_RT_JOB_Y0, getF s o HUB_RT_JOB_LY)
  | _ => (getF s o HUB_RT_JOB_Z0, getF s o HUB_RT_JOB_LZ)

/-- Whether a coordinate triple lies in a job entry's slice. -/
def inSlice (s : State) (e : Nat) (c : Nat → Nat) : Bool :=
  [0, 1, 2].all (fun a => inInterval (sliceOf s e a).1 (sliceOf s e a).2 (axisSize s a) (c a))

/-- A coordinate triple. -/
def triple (x y z a : Nat) : Nat := match a with | 0 => x | 1 => y | _ => z

/-- Coordinate of the device of a rank. -/
def rankCoord (s : State) (j r : Nat) : Nat → Nat :=
  match translate s j r with
  | .remote x y z => triple x y z
  | _ => ownCoord s

/-- Direction of a bundle where the plan says nothing (Table 12.2). -/
def defaultDir (b : Nat) : Option Nat := if 16 ≤ b ∧ b ≤ 27 then some ((b - 16) % 6) else none

/-- Direction that a port carries, 2a for + and 2a + 1 for −: the plan's, or, for a class T port that it does not name, that
of its bundle (R271, R317). -/
def planDir (s : State) (p : Nat) : Option Nat :=
  match s.sec.plan.bind (fun pl => pl.ports.find? (fun x => x.port.val == p)) with
  | some x => x.dir.map Fin.val
  | none => if portClass s p = 1 ∧ (portsOf s (portBundle p)).contains p = true then defaultDir (portBundle p) else none

/-- Whether HUB_RT_DOWN excludes a port. -/
def excluded (s : State) (p : Nat) : Bool := bit (reg s (HUB_RT_DOWN (p / 64))).toNat (p % 64)

/-- Candidate ports of a direction, in ascending index (R271), less the quarantined ones (R337) and, for traffic that may
be rerouted, the excluded ones (R279). -/
def candidates (s : State) (dir : Nat) (fixed : Bool) : List Nat :=
  (List.range 1024).filter (fun p => planDir s p == some dir && (fixed || !excluded s p) && portState s p != 5)

/-- A hop: axis, direction sign (true for +), whether the axis runs as a ring. -/
structure Hop where
  axis : Nat
  plus : Bool
  ring : Bool
deriving DecidableEq, Repr

/-- The hop of R273 on one axis. Traffic with an outside member runs on the plane's own rings and lines (R287), and VC6 and
VC7 on the plane's own lines; other traffic uses a ring only where its slice spans the axis (R286). -/
def axisHop (s : State) (key : Nat) (outside plain : Bool) (e : Option Nat) (dst : Nat → Nat) (a : Nat) : Option Hop :=
  let own := ownCoord s a
  let d := dst a
  let size := axisSize s a
  if own = d then none
  else
    let (o, l) := match e with | some e => sliceOf s e a | none => (0, 0)
    let ring := axisWrap s a && (outside || l == size)
    if ring then
      let x := (d + size - own % size) % size
      some ⟨a, if 2 * x < size then true else if size < 2 * x then false else !bit key (16 + a), true⟩
    else
      let o := if outside || plain then 0 else o
      some ⟨a, decide ((own + size - o % size) % size < (d + size - o % size) % size), false⟩

/-- The first axis that differs (R273). -/
def route (s : State) (key : Nat) (outside plain : Bool) (e : Option Nat) (dst : Nat → Nat) : Option Hop :=
  match axisHop s key outside plain e dst 0 with
  | some h => some h
  | none => match axisHop s key outside plain e dst 1 with
    | some h => some h
    | none => axisHop s key outside plain e dst 2

/-- Coordinates after a hop. -/
def afterHop (s : State) (h : Hop) (a : Nat) : Nat :=
  let size := axisSize s a
  if a = h.axis then (if h.plus then (ownCoord s a + 1) % size else (ownCoord s a + size - 1) % size) else ownCoord s a

/-- Dateline twin of a hop (R274): 1 from the hop that crosses the axis's dateline on, while the packet stays on
the axis. -/
def hopTwin (s : State) (h : Hop) (arrival : Option Nat) (twin : Bool) : Bool :=
  let own := ownCoord s h.axis
  let cross := if h.plus then own + 1 == axisSize s h.axis else own == 0
  let same := match arrival with
    | some p => match planDir s p with | some d => d / 2 == h.axis | none => false
    | none => false
  h.ring && (cross || (same && twin))

/-- Path key of a packet (R272). -/
def pathKey (p : Packet) : Nat := if p.vc = 4 then p.hash else pinHash p.job p.src p.dst p.vc

/-- A valid circuit entry of the packet's job marks its hop by a port as transit (R287, Table 10.9). -/
def transitHop (s : State) (p : Packet) (arrival : Option Nat) (q : Nat) : Bool :=
  s.csr.any (fun c => decide (0x60000 ≤ c.1) && decide (c.1 < 0x70000) && (c.1 - 0x60000) % 16 == 0
    && isSet s c.1 HUB_CIRCUIT_VALID && isSet s c.1 HUB_CIRCUIT_TRANSIT && getF s c.1 HUB_CIRCUIT_JOB_ID == p.job
    && getF s c.1 HUB_CIRCUIT_IN_PORT == arrival.getD 0x3FF && getF s c.1 HUB_CIRCUIT_OUT_PORT == q
    && bit (getF s c.1 HUB_CIRCUIT_VC_MASK) p.vc)

/-- The next device lies outside the job's slice, and inside the slice of another job that has an entry here. -/
def transitNext (s : State) (e : Option Nat) (nxt : Nat → Nat) : Option Bool :=
  if (match e with | some e => inSlice s e nxt | none => false) then none
  else some ((jobEntries s).any (fun x => some x.1 != e && inSlice s x.1 nxt))

/-- Traffic that is never rerouted: scheduled and transit VCs (R279). -/
def neverRerouted (v : Nat) : Bool := v ≤ 3 || v == 5

/-- Egress of a packet for another device: port, buffer VC and twin; no port when no candidate is left. A packet bound for a
transit device travels in VC5 (R287), which its slices or its circuit entries tell. (DEDUCED, log entry 83.) -/
def egress (s : State) (p : Packet) (arrival : Option Nat) (dst : Nat → Nat) : Option (Nat × Nat × Bool) :=
  let e := jobEntry s p.job
  let both := match e with
    | some e => inSlice s e dst && inSlice s e (rankCoord s p.job p.src)
    | none => false
  let key := pathKey p
  match route s key (!both) (p.vc == 6 || p.vc == 7) e dst with
  | none => none
  | some h =>
    let out := transitNext s e (afterHop s h)
    let cs := candidates s (2 * h.axis + (if h.plus then 0 else 1)) (neverRerouted p.vc || (p.vc ≤ 5 && out == some true))
    match cs[key % 65536 % max 1 cs.length]? with
    | none => none
    | some q =>
      let transit := match out with | none => false | some b => b || transitHop s p arrival q
      some (q, if transit && p.vc ≤ 5 then 5 else p.vc, hopTwin s h arrival p.twin)

/-! ### The pool manager (R259–R265) -/

/-- Number of a buffer's state bit. -/
def bitOf (d pool i : Nat) : Nat := (4 * d + pool) * 131072 + i

/-- The lowest index that managers hand out; the first 48 of P2 are the dedicated buffers of a die's pair links (R255). -/
def firstIdx (pool : Nat) : Nat := if pool = 2 then 48 else 0

/-- The state bit of a pool's lowest clear buffer is set (R264). (DESIGN CHOICE, log entry 59.) -/
def setBit (s : State) (d pool : Nat) : State :=
  { s with net := { s.net with bits := runsAdd s.net.bits (runsFree s.net.bits (bitOf d pool (firstIdx pool))) } }

/-- The lowest allocated buffer from a bit on that no packet occupies (structural in the occupied ones). -/
def idleFrom (s : State) : Nat → Nat → Nat
  | 0, k => (runsNext s.net.bits k).getD k
  | n + 1, k =>
    let k' := (runsNext s.net.bits k).getD k
    if s.net.occ.contains k' then idleFrom s n (k' + 1) else k'

/-- The bit of the lowest allocated buffer of a pool that no packet occupies. -/
def idleBit (s : State) (d pool : Nat) : Nat := idleFrom s s.net.occ.length (bitOf d pool (firstIdx pool))

/-- A state bit is cleared. -/
def clearBit (s : State) (k : Nat) : State :=
  { s with net := { s.net with bits := runsDel s.net.bits k, occ := s.net.occ.erase k } }

/-- Take a buffer: USE rises, FREE falls, LOWEST follows, its state bit is set. Requester 37 stands for a dedicated buffer. -/
def takeBuf (s : State) (d r pool : Nat) : State :=
  let s := setBit s d pool
  let s := if r < 37 then setF s (SWC_QUOTA d r pool) SWC_QUOTA_USE (getF s (SWC_QUOTA d r pool) SWC_QUOTA_USE + 1) else s
  let f := getF s (SWC_POOL_STAT d pool) SWC_POOL_STAT_FREE - 1
  let s := setF s (SWC_POOL_STAT d pool) SWC_POOL_STAT_FREE f
  setF s (SWC_POOL_STAT d pool) SWC_POOL_STAT_LOWEST (min f (getF s (SWC_POOL_STAT d pool) SWC_POOL_STAT_LOWEST))

/-- Give a buffer back, by its state bit, which is cleared. -/
def giveBuf (s : State) (d r pool k : Nat) : State :=
  let s := clearBit s k
  let s := if r < 37 then setF s (SWC_QUOTA d r pool) SWC_QUOTA_USE (getF s (SWC_QUOTA d r pool) SWC_QUOTA_USE - 1) else s
  setF s (SWC_POOL_STAT d pool) SWC_POOL_STAT_FREE (getF s (SWC_POOL_STAT d pool) SWC_POOL_STAT_FREE + 1)

/-- Buffers that minima still reserve in a pool. -/
def reserved (s : State) (d pool : Nat) : Nat :=
  ((List.range 37).map (fun r =>
    getF s (SWC_QUOTA d r pool) SWC_QUOTA_MIN - getF s (SWC_QUOTA d r pool) SWC_QUOTA_USE)).sum

/-- USE is below MAX. -/
def underMax (s : State) (d r pool : Nat) : Bool :=
  getF s (SWC_QUOTA d r pool) SWC_QUOTA_USE < getF s (SWC_QUOTA d r pool) SWC_QUOTA_MAX

/-- USE is below MIN: the requester holds fewer buffers than its minimum. -/
def underMin (s : State) (d r pool : Nat) : Bool :=
  getF s (SWC_QUOTA d r pool) SWC_QUOTA_USE < getF s (SWC_QUOTA d r pool) SWC_QUOTA_MIN

/-- Step 2 of R261, when `k` buffers go to others first and `m` of them to requesters at their minimum or above. -/
def grantableAfter (s : State) (d r pool k m : Nat) : Bool :=
  let f := getF s (SWC_POOL_STAT d pool) SWC_POOL_STAT_FREE
  underMax s d r pool && ((underMin s d r pool && 1 ≤ f - k) || 1 ≤ f - m - reserved s d pool)

/-- Step 2 of R261. -/
def grantable (s : State) (d r pool : Nat) : Bool := grantableAfter s d r pool 0 0

/-- Waiting requests of a pool that can be granted: they go before any later request (R262). -/
def waitersAhead (s : State) (d pool : Nat) : List BufWait :=
  s.net.waits.filter (fun w => w.die == d && w.pool == pool && grantable s d w.req pool)

/-- A new request can be granted after those that wait for the pool (R261, R262). -/
def grantableNow (s : State) (d r pool : Nat) : Bool :=
  let l := waitersAhead s d pool
  grantableAfter s d r pool l.length (l.filter (fun w => !underMin s d w.req pool)).length

/-- Outcome of a request. -/
inductive Alloc where
  | got (pool : Nat)
  | wait (pool : Nat)
deriving DecidableEq, Repr

/-- R261 from a pool on, with the number of fallbacks made (structural in the steps left). A reduction engine that finds P2
empty falls back to an outgoing P3 buffer (R265). -/
def allocFrom (s : State) (d r : Nat) : Nat → Nat → Nat → Alloc × Nat
  | 0, pool, fb => (.wait pool, fb)
  | k + 1, pool, fb =>
    if grantableNow s d r pool then (.got pool, fb)
    else if !underMax s d r pool then (.wait pool, fb)
    else if pool < 2 then allocFrom s d r k (pool + 1) (fb + 1)
    else if 8 ≤ r ∧ r ≤ 11 then (.got 3, fb + 1)
    else (.wait pool, fb)

/-- A request of a requester; one that must wait is entered in the list of waiting requests, a packet's once. A reduction
engine that finds P2 empty takes an outgoing buffer of its chunk, pool 3 (R265). -/
def allocate (s : State) (d r pool : Nat) (credit : Option (Nat × Nat)) : State × Option Nat :=
  match allocFrom s d r 3 pool 0 with
  | (.got q, fb) =>
    let s := bump s (SWC_CNT_FALLBACK d) SWC_CNT_FALLBACK_COUNT fb
    (if q = 3 then s else takeBuf s d r q, some q)
  | (.wait q, fb) =>
    if credit.isNone && s.net.waits.any (fun w => w.die == d && w.req == r && w.credit == none && w.pool == q) then (s, none)
    else
      let s := bump s (SWC_CNT_FALLBACK d) SWC_CNT_FALLBACK_COUNT fb
      let s := bump s (SWC_CNT_ALLOC_WAIT d) SWC_CNT_ALLOC_WAIT_COUNT 1
      let s := setF s (SWC_STATUS d) SWC_STATUS_ALLOC_WAITING 1
      ({ s with net := { s.net with waits := s.net.waits ++ [⟨d, r, q, now s, credit⟩] } }, none)

/-- The number that stands for the pair link into die `d` from die `e`. -/
def pairLink (e d : Nat) : Nat := 1024 + 4 * e + d

/-- Index of the incoming pair link of die `d` from die `e`, in ascending die order (Table 9.7). -/
def pairIndex (d e : Nat) : Nat := if d < e then e - 1 else e

/-- Index of a pair link's dedicated buffer, by VC and twin. -/
def meshIdx (link v twin : Nat) : Nat := 16 * pairIndex (link % 4) ((link - 1024) / 4) + 2 * v + twin

/-- A packet occupies a buffer of a pool: that of its class on a pair link, or the lowest allocated one that is empty. (DESIGN
CHOICE, log entry 59.) -/
def occupy (s : State) (b : Buf) : State × Buf :=
  let k := match b.back with
    | some (p, v, twin, 3) => if 1024 ≤ p then bitOf b.die 2 (meshIdx p v twin) else idleBit s b.die b.pool
    | _ => idleBit s b.die b.pool
  ({ s with net := { s.net with occ := k :: s.net.occ } }, { b with idx := k % 131072 })

/-! ### Credits (R254–R257) -/

/-- Element `i` of a list of counts, raised by one. -/
def incAt (l : List Nat) (i : Nat) : List Nat := l.modify i (· + 1)
/-- Element `i` of a list of counts, lowered by one. -/
def decAt (l : List Nat) (i : Nat) : List Nat := l.modify i (· - 1)

/-- Die and requester that a port's shared credits, or those of a pair link's incoming side, are charged to (Table 9.7). -/
def creditor (p : Nat) : Nat × Nat :=
  if p < 1024 then (portDie p, portBundle p / 4) else (p % 4, 32 + pairIndex (p % 4) ((p - 1024) / 4))

/-- A requester waits for the buffer of a credit. -/
def groupWaits (s : State) (d r : Nat) : Bool := s.net.waits.any (fun w => w.die == d && w.req == r && w.credit.isSome)

/-- A shared credit is out: a port returns it in a coming word, a pair link holds it ready. -/
def creditOn (s : State) (p v pool : Nat) : State :=
  if p < 1024 then
    let x := port s p
    setPort s p { x with granted := incAt x.granted (3 * v + pool), owed := x.owed ++ [(v, 0, pool)] }
  else
    let k := 24 * p + 3 * v + pool
    { s with net := { s.net with meshOut := mapSet (fun _ => 0) s.net.meshOut k (mapGet (fun _ => 0) s.net.meshOut k + 1) } }

/-- A port, or a pair link's incoming side, grants one shared credit of a VC and pool: an allocation (R255). While its requester
waits, it grants no further credit (R261). -/
def grantCredit (s : State) (p v pool : Nat) : State :=
  let (d, r) := creditor p
  if groupWaits s d r then { s with net := { s.net with defer := s.net.defer ++ [(p, v, pool)] } }
  else match allocate s d r pool (some (p, v)) with
    | (s, none) => s
    | (s, some q) => creditOn s p v q

/-- A requester waits no longer: it grants on, up to the next wait. -/
def resumeGrants (s : State) (d r : Nat) : State :=
  let mine (c : Nat × Nat × Nat) : Bool := creditor c.1 == (d, r) && decide (c.2.2 < 3)
  (s.net.defer.filter mine).foldl (fun s c => grantCredit s c.1 c.2.1 c.2.2)
    { s with net := { s.net with defer := s.net.defer.filter (fun c => !mine c) } }

/-- A dedicated credit goes back to the partner. -/
def returnDed (s : State) (p v twin : Nat) : State :=
  let x := port s p
  setPort s p { x with dedOut := incAt x.dedOut (2 * v + twin), owed := x.owed ++ [(v, twin, 3)] }

/-- The credit of a freed buffer goes back, or a new one is granted for it. A quarantined port gives credits of VC7, twin 0, only
(R337): its dedicated ones wait, and its shared ones are granted anew on MATCH. -/
def returnCredit (s : State) (p v twin code : Nat) : State :=
  if 1024 ≤ p then grantCredit s p v code
  else if !portUp s p then s
  else if code = 3 then
    if portMgmtOnly s p && !(v == 7 && twin == 0) then
      { s with net := { s.net with defer := s.net.defer ++ [(p, v, 3 + twin)] } }
    else returnDed s p v twin
  else if portMgmtOnly s p && v != 7 then s
  else grantCredit s p v code

/-- The dedicated credits that a quarantined port kept go back (R337). -/
def returnKept (s : State) (p : Nat) : State :=
  let kept (c : Nat × Nat × Nat) : Bool := c.1 == p && decide (3 ≤ c.2.2)
  (s.net.defer.filter kept).foldl (fun s c => returnDed s p c.2.1 (c.2.2 - 3))
    { s with net := { s.net with defer := s.net.defer.filter (fun c => !kept c) } }

/-- Start to withhold a VC's credits on a port, by cause (Table 9.8). -/
def withhold (s : State) (p v cause : Nat) : State :=
  let x := port s p
  if x.withheld.contains (v, cause) then s
  else
    let s := bump s (SWC_CNT_HOLD (portDie p) cause) SWC_CNT_HOLD_COUNT 1
    setPort s p { port s p with withheld := x.withheld ++ [(v, cause)] }

/-- End a withholding. -/
def releaseHold (s : State) (p v cause : Nat) : State :=
  let x := port s p
  setPort s p { x with withheld := x.withheld.filter (· != (v, cause)) }

/-- Withholdings of a cause end on the ports and VCs of which no packet is held in that way any longer (R253). -/
def settleHolds (s : State) (cause hold : Nat) : State :=
  s.net.ports.foldl (fun s q => (q.2.withheld.filter (fun w => w.2 == cause)).foldl (fun s w =>
    if s.net.locals.any (fun y => y.hold == hold && y.port == some q.1 && y.vc == w.1) then s
    else releaseHold s q.1 w.1 cause) s) s

/-! ### Queues of packets -/

/-- Count packets and bytes (SWC_PCNT). -/
def countPkt (s : State) (p v dir bytes : Nat) : State :=
  let s := bump s (SWC_PCNT (portDie p) (portLocal p) v (2 * dir)) SWC_PCNT_COUNT 1
  bump s (SWC_PCNT (portDie p) (portLocal p) v (2 * dir + 1)) SWC_PCNT_COUNT bytes

/-- A packet of a local unit waits to enter the slice of a die: input number of R292, egress if already known. -/
def sendOut (s : State) (d input : Nat) (p : Packet) (owner : Option Nat) (dest : Dest) (injected : Bool) : State :=
  let x : Pkt :=
    { no := s.net.nextNo, p := p, die := d, port := none, input := input, key := (now s).toNat, arrived := now s,
      vc := p.bvc.val, twin := b2n p.twin, injected := injected, buf := none, dest := dest, hold := 0, since := now s,
      deferred := false, whole := true, owner := owner }
  { s with net := { s.net with nextNo := s.net.nextNo + 1, outbox := s.net.outbox ++ [x] } }

/-- A packet of the hub for a rank: the management endpoint of die 0 sends it, from the Puppeteer (R244).
Each die has such an endpoint; the spec names none for sending. (DESIGN CHOICE, log entry 92.) -/
def hubSend (s : State) (h : Hdr) (payload : List Byte) : State :=
  let h := { h with origin := 0x0200, birth := (now s).toNat % 2 ^ 40 }
  sendOut s 0 283 (mkPacket h payload) none .here true

/-- Packets lost with a link or device (R279). -/
def linkLoss (s : State) (k : Nat) : State :=
  if k = 0 then s
  else setF (bump s HUB_CNT_LINK_LOSS HUB_CNT_LINK_LOSS_COUNT k) HUB_RT_STATUS HUB_RT_STATUS_LINK_LOSS_EVENT 1

/-! ### Fence streams (R280–R283) -/

/-- Stream of a packet. (DESIGN CHOICE, log entry 35.) -/
def streamOf (p : Packet) : Stream :=
  ⟨BitVec.ofNat 16 p.job, BitVec.ofNat 20 p.src, BitVec.ofNat 16 p.origin, BitVec.ofNat 20 p.dst, Fin.ofNat 8 p.vc⟩

/-- Count of a stream on a die. -/
def streamFind (s : State) (d : Nat) (st : Stream) : Option StreamEnt :=
  s.net.streams.find? (fun e => e.die == d && e.st == st)

/-- A fenced packet of a stream that has arrived on a die and waits, held or released. -/
def waitsFence (d : Nat) (st : Stream) (x : Pkt) : Bool := x.p.fence && x.hold != 0 && x.die == d && streamOf x.p == st
/-- Such packets, local ones first. -/
def fencedWaiting (s : State) (d : Nat) (st : Stream) : List Pkt :=
  s.net.locals.filter (waitsFence d st) ++ s.net.ports.flatMap (fun e => e.2.q.filter (waitsFence d st))

/-- Every packet that the device holds: waiting to enter a slice, delivered, queued at a port, or leaving and still without its
end word. -/
def allPkts (s : State) : List Pkt :=
  s.net.locals ++ s.net.outbox ++ s.net.ports.flatMap (fun e => e.2.q) ++ s.net.ports.filterMap (fun e => e.2.cut.map Prod.fst)
/-- Some fenced packet of a stream is held on a die. -/
def fenceHeld (s : State) (d : Nat) (st : Stream) : Bool := !(fencedWaiting s d st).isEmpty

/-- Put a stream's count; an entry at 0 with no fenced packet held is closed (R283). -/
def streamPut (s : State) (d : Nat) (st : Stream) (c : Nat) : State :=
  let rest := s.net.streams.filter (fun e => !(e.die == d && e.st == st))
  let l := if c = 0 ∧ fenceHeld s d st = false then rest else rest ++ [⟨d, st, c, now s⟩]
  { s with net := { s.net with streams := l } }

/-- An entry at 0 is closed once no fenced packet of its stream is held (R283). -/
def settleStream (s : State) (d : Nat) (st : Stream) : State :=
  match streamFind s d st with
  | some e =>
    if e.c = 0 ∧ fenceHeld s d st = false then
      { s with net := { s.net with streams := s.net.streams.filter (fun y => !(y.die == d && y.st == st)) } }
    else s
  | none => s

/-- A die's stream table has room. -/
def streamRoom (s : State) (d : Nat) : Bool := (s.net.streams.filter (fun e => e.die == d)).length < 16384

/-- Sender side: the count before a packet of a stream, and its last fenced VC4 packet not yet acknowledged. -/
def sender (s : State) (st : Stream) : SendStream := (s.net.senders.find? (fun e => e.st == st)).getD ⟨st, 0, none⟩
/-- Put a sender's stream; one with nothing to say is dropped. -/
def setSender (s : State) (x : SendStream) : State :=
  let rest := s.net.senders.filter (fun e => e.st != x.st)
  { s with net := { s.net with senders := if x.n = 0 ∧ x.unacked = none then rest else rest ++ [x] } }

/-- A unit forms a packet of a stream: a fenced one carries the count of those since the last fenced one, and awaits
its acknowledgement when it travels on VC4 from a logical core (R280, R281). -/
def stamp (s : State) (h : Hdr) : State × Hdr :=
  let st : Stream := ⟨BitVec.ofNat 16 h.job, BitVec.ofNat 20 h.src, BitVec.ofNat 16 h.origin, BitVec.ofNat 20 h.dst,
    Fin.ofNat 8 h.vc⟩
  let x := sender s st
  let h := { h with birth := (now s).toNat % 2 ^ 40 }
  if h.fence then
    (setSender s ⟨st, 0, if h.vc = 4 ∧ h.origin < 64 then some (BitVec.ofNat 40 h.birth) else x.unacked⟩,
      { h with fcount := x.n })
  else (setSender s ⟨st, x.n + 1, x.unacked⟩, h)

end Sys2Proof.Machine
end

