-- ==== Sys2Proof/Machine/Jobs.lean ====
section
/-! DEFINITION. Jobs, steps and launches as the rest of the device ends them: completion records (R123, R194), the
beginning of a step (R193), credits of slot queues (R167), and a UNIT fault for a job (R426). -/
namespace Sys2Proof.Machine

/-! ### Completion entries of a job (R394) -/

/-- An entry for the completion ring that JOB_ADMIT names; a job that is not admitted has none. -/
def jobComplete (s : State) (j : Nat) (c : Cpl) : State :=
  match job s j with
  | some x => complete s x.cq.toNat c
  | none => s

/-- The lowest free QID. -/
def freeQid (s : State) : Option Nat := (List.range 64).find? (fun k => qidState s k == 0)

/-- Put a QID. -/
def setQid (s : State) (k : Nat) (st kind id : Nat) (q : Qid) : State :=
  let s := setF s (PUP_QER k) PUP_QER_STATE st
  let s := setF s (PUP_QER k) PUP_QER_KIND kind
  let s := setF s (PUP_QER k) PUP_QER_ID id
  { s with qids := mapPut s.qids k q }

/-- Free a QID. -/
def clearQid (s : State) (k : Nat) : State :=
  let s := setReg s (PUP_QER k) 0
  { s with qids := mapErase s.qids k }

/-- A job lies in some QID that drains, is quiesced or restarts. -/
def jobQuiet (s : State) (j : Nat) : Bool :=
  s.qids.any (fun e => e.2.jobs.any (fun x => x.toNat == j) && qidState s e.1 != 0)

/-- A cluster lies in some QID. -/
def clusterQuiet (s : State) (c : Nat) : Bool :=
  s.qids.any (fun e => qidState s e.1 != 0 && getF s (PUP_QER e.1) PUP_QER_KIND == 3 && getF s (PUP_QER e.1) PUP_QER_ID == c)

/-- A job stands QUIESCED. -/
def jobQuiesced (s : State) (j : Nat) : Bool :=
  s.qids.any (fun e => e.2.jobs.any (fun x => x.toNat == j) && qidState s e.1 == 2)

/-- Logical cores that an admitted job holds. -/
def coresOfJob (s : State) (j : Nat) : List Nat :=
  (List.range 80).filter (fun n => (core s n).job.toNat == j && j != 0)

/-- Alarms allocated to a job (R50). -/
def alarmsOfJob (s : State) (j : Nat) : List Nat :=
  (s.ftu.owner.filter (fun e => e.2.toNat == j)).map Prod.fst

/-- Alarms stop, and the domains that they concern are evaluated (Table 15.8, R408). -/
def stopAlarms (s : State) (l : List Nat) : State := l.foldl evalAlarm (l.foldl stopAlarm s)

/-- A job's alarms stop. -/
def stopJobAlarms (s : State) (j : Nat) : State := stopAlarms s (alarmsOfJob s j)

/-! ### Steps (R193–R195) -/

/-- The image that a job runs. -/
def imageOf (s : State) (j : Nat) : Option Image := (job s j).bind (fun x => x.image)

/-- FLOW images of a job in force. -/
def flowsOf (s : State) (j : Nat) : List Image := ((s.coll.flow.map Prod.snd).filter (fun i => i.job == j)).eraseDups

/-- Every image that a job holds: in force and loaded, CORE and FLOW. -/
def heldImages (s : State) (j : Nat) : List Image :=
  match job s j with
  | none => []
  | some x => x.image.toList ++ x.next.toList ++ (x.flowNext.map Prod.snd).eraseDups ++ flowsOf s j

/-- Every job's images. -/
def everyImage (s : State) : List (Nat × Image) := s.jobs.flatMap (fun x => (heldImages s x.1).map (fun i => (x.1, i)))

/-- Entry of the step in progress. -/
def entryOf (s : State) (n : Nat) : Option EntryDef :=
  (imageOf s (core s n).job.toNat).bind (fun i => i.entries[(core s n).entry.toNat]?)

/-- The step completion record (Table 7.10), words 2 to 9 of the entry. -/
def stepRecord (s : State) (n status cause : Nat) : Cpl :=
  let c := core s n
  let fl := mergeAll c.flags
  let var := match imageOf s c.job.toNat with | some i => i.hasV | none => false
  { kind := 0, cmdRing := 0, cmdIndex := 0, job := c.job,
    body := [ BitVec.ofNat 64 (status + cause * 2 ^ 8 + logicalOf s n * 2 ^ 16) ||| zext c.entry <<< 24 ||| zext c.job <<< 40,
      c.step, c.ftStart, now s,
      BitVec.ofNat 64 (min c.slips 65535 + c.retries * 2 ^ 16) ||| b2w var <<< 18 ||| zext c.errPc <<< 32,
      fl.word0, fl.word1, fl.word2 ],
    signal := none }

/-- Word `i` of a slot's entry (Table 6.1). -/
def slotWord (s : State) (k i : Nat) : Nat := (wordAt (mapGet (fun _ => []) s.slots k) i).toNat
/-- A valid slot. -/
def slotValid (s : State) (k : Nat) : Bool := bit (slotWord s k 0) 6
/-- Owning job of a slot. -/
def slotJob (s : State) (k : Nat) : Nat := bits (slotWord s k 0) 31 16
/-- Queue state of a slot. -/
def slotQueue (s : State) (k : Nat) : SlotQ := mapGet (fun _ => SlotQ.empty) s.slotQ k
/-- Put it. -/
def setSlotQ (s : State) (k : Nat) (q : SlotQ) : State := { s with slotQ := mapSet (fun _ => SlotQ.empty) s.slotQ k q }

/-- Free entries of a slot's queue. -/
def slotFree (s : State) (k : Nat) : Nat := bits (slotWord s k 3) 55 48 - ((slotQueue s k).arrived - (slotQueue s k).freed)

/-- Packets without the hold of a slot whose queue has room for `r` tokens: those of the first `r`, in order of arrival;
a fenced packet is a token's last. -/
def roomFor (k : Nat) : Nat → List Pkt → List Pkt
  | _, [] => []
  | r, x :: xs =>
    if x.hold = 2 ∧ x.p.slot = k ∧ 0 < r then { x with hold := 0 } :: roomFor k (if x.p.fence then r - 1 else r) xs
    else x :: roomFor k r xs

/-- Held SLOT packets that the slot's queue now has room for are held no longer, and a withholding ends with the last
packet held on its port and VC (R168). -/
def slotRoom (s : State) (k : Nat) : State :=
  settleHolds { s with net := { s.net with locals := roomFor k (slotFree s k) s.net.locals } } 2 2

/-- The predecessor of a slot gets the credit of a freed entry (R167, step 5). -/
def slotCredit (s : State) (k : Nat) : State :=
  let w := slotWord s k 5
  if bit w 27 then
    let o := bits w 43 28
    let j := slotJob s k
    match job s j with
    | none => s
    | some x =>
      if bits w 26 7 = x.rank.toNat then objAdd (latchWaits s) o 1
      else hubSend s { type := 3, vc := 6, job := j, src := x.rank.toNat, dst := bits w 26 7, sync := some o } (toBytes 8 1)
  else s

/-- The oldest entry of a slot's queue is free. -/
def slotPop (s : State) (k : Nat) : State :=
  let q := slotQueue s k
  let s := setSlotQ s k { q with freed := q.freed + 1, late := q.late.filter (· != q.freed) }
  slotCredit (slotRoom s k) k

/-- Logical cores whose SLOT entries handle a slot's tokens. -/
def slotCores (s : State) (k : Nat) : List Nat :=
  match imageOf s (slotJob s k) with
  | none => []
  | some i => ((i.entries.filter (fun e => e.kind == 2 && e.slot.toNat == k)).map (fun e => e.lcore.toNat)).eraseDups

/-- Tokens whose steps have ended on every core of a slot, by a list of ends. -/
def slotDone (s : State) (k : Nat) (ends : List (Nat × Nat)) : Nat :=
  (((slotCores s k).map (mapGet (fun _ => 0) ends)).min?).getD 0

/-- A logical core's step for a slot's token ends (R167, step 5): the entry is free once the step of every core of the
slot has ended for its token. -/
def slotStepEnd (s : State) (k l : Nat) : State :=
  let q := slotQueue s k
  let ends := mapSet (fun _ => 0) q.ends l (mapGet (fun _ => 0) q.ends l + 1)
  let s := setSlotQ s k { q with ends := ends }
  if q.freed < slotDone s k ends then slotPop s k else s

/-- The queues of a job's slots are void (R170): every count starts again as at load (R167, step 1).
(DESIGN CHOICE, log entry 65.) -/
def voidQueues (s : State) (j : Nat) : State :=
  let ks := (s.slots.map Prod.fst).filter (fun k => slotValid s k && slotJob s k == j)
  let s := ks.foldl (fun s k =>
    let s := setSlotQ s k { SlotQ.empty with slips := (slotQueue s k).slips }
    let s := objSet s (bits (slotWord s k 4) 15 0) 0
    let s := if bit (slotWord s k 0) 7 then s else objSet s (bits (slotWord s k 4) 31 16) (BitVec.ofNat 64 (bits (slotWord s k 3) 63 56))
    slotRoom s k) s
  if ks.isEmpty then s else (coresOfJob s j).foldl (fun s n => setCore s n { core s n with nextToken := 0 }) s

/-- Spare of a cluster, as a physical core in state SPARE. -/
def spareOf (s : State) (c : Nat) : Option Nat :=
  match physOf s (5 * c + 4) with
  | some q => if getF s (CORE_STATUS q) CORE_STATUS_STATE = 1 then some q else none
  | none => none

/-- A cluster has a spare (NO_SPARE 0): it is ready in state SPARE, or will be when its test or its own check ends. -/
def hasSpare (s : State) (c : Nat) : Bool := (physOf s (5 * c + 4)).isSome

/-- A test or a swap of R447 or R448 waits for the core's next step boundary. -/
def testWaits (s : State) (n : Nat) : Bool := s.flt.tests.any (fun e => e.1 == n)

/-- The spare is to take the identity of a core at its next step boundary: a late test, a first failure, the host's
request, or EN at 0 (R447, R448, R158, Table 5.13). The core begins no step before the spare is ready and has taken it. -/
def swapWanted (s : State) (n : Nat) : Bool :=
  hasSpare s (n / 5) && logicalOf s n != 0xFF &&
    (testWaits s n
      || (isSet s (CLU_SWAP (n / 5)) CLU_SWAP_REQ && getF s (CLU_SWAP (n / 5)) CLU_SWAP_LOGICAL == logicalOf s n % 4)
      || !isSet s (CORE_CTRL n) CORE_CTRL_EN)

/-- State of a core whose step has ended: a test that waits on a core with no spare runs now (R447). -/
def idleState (s : State) (n : Nat) : Nat :=
  if testWaits s n && !swapWanted s n then 4 else 2

/-- A core leaves RUNNING. -/
def coreState (s : State) (n v : Nat) : State := setF s (CORE_STATUS n) CORE_STATUS_STATE v

/-- Whether a core may begin a step: it has a logical identity, runs nothing, and neither its job nor its cluster is
held by a QID. -/
def mayBegin (s : State) (n : Nat) : Bool :=
  let c := core s n
  running s && !c.running && getF s (CORE_STATUS n) CORE_STATUS_STATE == 2 && c.job != 0
    && !jobQuiet s c.job.toNat && !clusterQuiet s (n / 5) && !swapWanted s n

/-- The first SLOT entry of a logical core. -/
def slotEntryOf (s : State) (j l : Nat) : Option (Nat × EntryDef) :=
  match imageOf s j with
  | none => none
  | some i =>
    (i.entries.zipIdx.find? (fun e => e.1.lcore.toNat == l && e.1.kind == 2)).map (fun e => (e.2, e.1))

/-- A swap or a test holds back the next step of a core that serves a slot, from now on (R156, R447). -/
def holdStart (s : State) (n : Nat) : State :=
  let c := core s n
  if c.heldAt.isNone && (slotEntryOf s c.job.toNat (logicalOf s n)).isSome then setCore s n { c with heldAt := some (now s) } else s

/-- The step of an entry begins on a physical core (R193, R195): registers and SR position are recorded, S_STEP
advances, the sticky flags are clear. -/
def beginStep (s : State) (n e : Nat) (planned : Word) (slot : Nat) (token : Word) : State :=
  match (imageOf s (core s n).job.toNat).bind (fun i => i.entries[e]?) with
  | none => s
  | some d =>
    let s := startWake (startWake s (80 + n / 5)) n
    let s := slipIfLate s 2 planned
    let late := if planned.toNat < (now s).toNat then 1 else 0
    let c := (core s n).clearFlags
    let s := setCore s n { c with
      pc := d.pc, lastPc := d.pc, entry := BitVec.ofNat 16 e, slot := BitVec.ofNat 7 slot, token := token,
      step := c.step + 1, running := true, ended := false, trap := none, errPc := 0xFFFFFFFF#32, wait := none,
      nextNo := 0, g0 := c.g, srPos0 := c.srPos, retries := 0,
      slips := late + c.owedSlips + b2n ((slotQueue s slot).late.contains token.toNat && slot < 64), owedSlips := 0,
      ftStart := now s, runStart := now s, heldAt := none, paths := [] }
    coreState s n 3

/-- An entry falls due on a core: it begins, or waits for the step that runs or for a wake. -/
def entryDue (s : State) (n e : Nat) (planned : Word) : State :=
  if mayBegin s n && coreAwake s n && (core s n).dueEntries.isEmpty then beginStep s n e planned 0x40 0
  else
    let s := if coreAwake s n then s else startWake (startWake s (80 + n / 5)) n
    setCore s n { core s n with dueEntries := (core s n).dueEntries ++ [(BitVec.ofNat 16 e, planned)] }

/-- The oldest waiting entry of a core begins when the core can take it. -/
def nextDue (s : State) (n : Nat) : State :=
  match (core s n).dueEntries with
  | [] => s
  | (e, planned) :: r =>
    if mayBegin s n && coreAwake s n then
      beginStep (setCore s n { core s n with dueEntries := r }) n e.toNat planned 0x40 0
    else s

/-- The step of a core ends (R194): record, flags, the slot's queue entry, the core's power, the next entry. -/
def endStep (s : State) (n status cause : Nat) : State :=
  let c := core s n
  let report := match entryOf s n with | some e => e.report | none => false
  let fl := mergeAll c.flags
  let s := if status ≠ 0 ∨ report = true then jobComplete s c.job.toNat (stepRecord s n status cause) else s
  let s := if fl.inv.isSome || fl.ovf.isSome then setF s (CORE_STATUS n) CORE_STATUS_FLAG_EVENT 1 else s
  let c := c.clearFlags
  let s := setCore s n { c with running := false, ended := false, trap := none, wait := none, dma := [], mx := [],
                                vec := [], held := [], unsent := 0, feedHeld := false, drainHeld := false }
  let s := if getF s (CORE_STATUS n) CORE_STATUS_STATE = 3 then
      (if idleState s n = 4 then coreState (holdStart s n) n 4 else coreState s n 2) else s
  let s := if c.slot.toNat < 64 then slotStepEnd s c.slot.toNat (logicalOf s n) else s
  nextDue (evalCore s n) n

/-! ### Launches as they end (R123, R124) -/

/-- A group of a job. -/
def groupOf (s : State) (j g : Nat) : Option Group := s.coll.groups.find? (fun x => x.gid == g && x.job == j)
/-- A group as a launch sees it: once admitted, with the members of its admission (R120) and the devices that it then found
to be KV6s. -/
def Launch.view (x : Launch) (g : Group) : Group := if x.stage = 2 then { g with expelled := x.out, fwd := x.fwd } else g
/-- The group of a launch, as the launch sees it. -/
def launchGroup (s : State) (x : Launch) : Option Group := (groupOf s x.job x.gid).map x.view
/-- Put a group. -/
def setGroup (s : State) (x : Group) : State :=
  { s with coll := { s.coll with groups := s.coll.groups.map (fun y => if y.gid = x.gid ∧ y.job = x.job then x else y) } }
/-- A launch. -/
def launch (s : State) (l : Nat) : Option Launch := s.coll.launches.find? (fun x => x.no == l)
/-- Put a launch. -/
def setLaunch (s : State) (x : Launch) : State :=
  { s with coll := { s.coll with launches := s.coll.launches.map (fun y => if y.no = x.no then x else y) } }

/-- Fields of a launch descriptor (Table 4.2). -/
def lF (x : Launch) (w hi lo : Nat) : Nat := bits (wordAt x.words w).toNat hi lo
def Launch.op (x : Launch) : Nat := lF x 0 3 0
def Launch.func (x : Launch) : Nat := lF x 0 5 4
def Launch.exact (x : Launch) : Bool := bit (wordAt x.words 0).toNat 6
def Launch.narrow (x : Launch) : Nat := if bit (wordAt x.words 0).toNat 7 then 4 else 1
def Launch.inFmt (x : Launch) : Nat := lF x 0 11 8
def Launch.outFmt (x : Launch) : Nat := lF x 0 15 12
def Launch.stats (x : Launch) : Bool := bit (wordAt x.words 0).toNat 16
def Launch.window (x : Launch) : Nat := lF x 0 30 24
def Launch.cset (x : Launch) : Nat := lF x 0 63 48
def Launch.seq (x : Launch) : Nat := lF x 1 31 0
def Launch.elements (x : Launch) : Nat := lF x 2 39 0
def Launch.dest (x : Launch) : Nat := lF x 3 47 0
def Launch.doneSync (x : Launch) : Nat := lF x 4 15 0
def Launch.syncEn (x : Launch) : Bool := bit (wordAt x.words 4).toNat 16
def Launch.root (x : Launch) : Nat := lF x 4 51 32
def Launch.startFt (x : Launch) : Nat := lF x 5 63 0

/-- Expelled replica of a rank. -/
def Group.expels (g : Group) (rank : Nat) : Bool :=
  g.members.any (fun m => m.1 == rank && bit g.expelled.toNat m.2.1)
/-- Members that have not been expelled (R120). -/
def Group.live (g : Group) : List (Nat × Nat × Nat) := g.members.filter (fun m => !bit g.expelled.toNat m.2.1)

/-- A statistic as the record shows it (R116): SIG, EXP and SPECIAL in two words. -/
def statWords (x : Stat) : List Word :=
  if x.special then [0, (1 : Word) <<< 16]
  else if x.sum = 0 then [0, 0]
  else
    let k := Nat.log2 x.sum
    let (sig, e) :=
      if k ≤ 63 then (x.sum <<< (63 - k), (k : Int) - 63)
      else
        let sh := k - 63
        let q := x.sum >>> sh
        let r := x.sum % 2 ^ sh
        let up := decide (2 ^ (sh - 1) < r) || (r == 2 ^ (sh - 1) && q % 2 == 1)
        let q := if up then q + 1 else q
        if q = 2 ^ 64 then (2 ^ 63, (sh : Int) + 1) else (q, (sh : Int))
    [BitVec.ofNat 64 sig, BitVec.ofNat 64 (unsigned 16 (e - 298))]

/-- Two statistics together. -/
def Stat.plus (a b : Stat) : Stat := ⟨a.sum + b.sum, a.special || b.special⟩

/-- The window once a statistics launch has completed (R117): its n differs, and the window starts again. -/
def withStats (g : Group) (x : Launch) : Group :=
  let new := (g.live.length, x.s1, x.s2)
  match g.stats with
  | (n, a, b) :: _ => { g with stats := if n = g.live.length then [new, (n, a, b)] else [new] }
  | [] => { g with stats := [new] }

/-- What every completion record of the group reports (R117): validity, S1, S2 and n over the two latest statistics
launches. -/
def statWindow (g : Group) : Bool × Stat × Stat × Nat :=
  match g.stats with
  | (n, a, b) :: (_, c, d) :: _ => (true, a.plus c, b.plus d, 2 * n)
  | _ => (false, ⟨0, false⟩, ⟨0, false⟩, 0)

/-- The collective completion record (Table 4.10). -/
def collRecord (s : State) (x : Launch) (status : Nat) : Cpl :=
  let g := launchGroup s x
  let (valid, s1, s2, n) := match g with
    | some g => statWindow (if x.stats ∧ status = 0 then withStats g x else g)
    | none => (false, ⟨0, false⟩, ⟨0, false⟩, 0)
  let members := match g with | some g => g.live.length | none => 0
  let tag : Word := match g with | some g => digestWord g.digest 0 | none => 0
  let herd := if x.op = 5 then x.verdict else 0
  { kind := 1, cmdRing := 0, cmdIndex := x.index, job := BitVec.ofNat 16 x.job,
    body := [ BitVec.ofNat 64 (status + x.op * 2 ^ 8 + x.func * 2 ^ 12 + b2n x.exact * 2 ^ 14 + b2n valid * 2 ^ 15
                + x.gid * 2 ^ 16 + x.cset * 2 ^ 32 + x.job * 2 ^ 48),
      BitVec.ofNat 64 (x.seq + members * 2 ^ 32 + herd * 2 ^ 57),
      wordAt x.words 6, x.ftAdmit, now s,
      BitVec.ofNat 64 (min x.recompute 65535 + min x.slips 65535 * 2 ^ 16 + min x.escapes (2 ^ 32 - 1) * 2 ^ 32),
      b2w x.fl.invalid ||| b2w x.fl.overflow <<< 1 ||| b2w x.fl.underflow <<< 2 ||| b2w x.fl.denorm <<< 3,
      BitVec.allOnes 64, BitVec.allOnes 64, tag ]
      ++ (if valid then statWords s1 ++ statWords s2 else [0, 0, 0, 0])
      ++ [BitVec.ofNat 64 n, zext x.expelled],
    signal := if x.syncEn then some (x.doneSync, 1) else none }

/-- Engines of the group map that a launch uses on this device. -/
def enginesOf (s : State) (x : Launch) : List Nat :=
  match groupOf s x.job x.gid with
  | none => []
  | some g => (g.shards.filterMap (fun sh => (sh.tree[g.me]?).map Prod.snd)).eraseDups.mergeSort (fun a b => a ≤ b)

/-- Engine that serves a map engine of a group. -/
def Group.server (g : Group) (e : Nat) : Nat := mapGet id g.moved e

/-- Engines that serve a launch on this device, after any takeover (R113). -/
def servers (s : State) (x : Launch) : List Nat :=
  match groupOf s x.job x.gid with
  | none => []
  | some g => (((enginesOf s x).map g.server).eraseDups).mergeSort (fun a b => a ≤ b)

/-- Source of a launch's fault: its lowest engine here, or Puppeteer core 0. (DESIGN CHOICE, log entry 54.) -/
def launchSource (s : State) (x : Launch) : Nat :=
  match servers s x with
  | e :: _ => 96 + e
  | [] => 175

/-- Allocated P3 buffers of a die that no packet occupies. -/
def idleP3 (s : State) (d : Nat) : Nat :=
  ((s.net.bits.filter (fun r => r.1 / 131072 == 4 * d + 3)).map Prod.snd).sum
    - (s.net.occ.filter (fun k => k / 131072 == 4 * d + 3)).length

/-- Give back a launch's staging (R110); a buffer that a packet still occupies follows when it leaves. -/
def releaseStaging (s : State) (x : Launch) : State :=
  let e := match job s x.job with | some j => j.index | none => 0
  x.staging.foldl (fun s r =>
    let d := r.1 / 4
    let s := (List.range (min r.2 (idleP3 s d))).foldl (fun s _ => clearBit s (idleBit s d 3)) s
    let s := setF s (RED_STAGING r.1) RED_STAGING_NOW (getF s (RED_STAGING r.1) RED_STAGING_NOW - r.2)
    let s := setF s (SWC_JOBQ d e) SWC_JOBQ_P3_USE (getF s (SWC_JOBQ d e) SWC_JOBQ_P3_USE - r.2)
    setF s (SWC_POOL_STAT d 3) SWC_POOL_STAT_FREE (getF s (SWC_POOL_STAT d 3) SWC_POOL_STAT_FREE + r.2)) s

/-- Field of RED_ACTIVE that counts a launch. -/
def activeField (x : Launch) : Fld := if x.stage = 2 then RED_ACTIVE_ADMITTED else RED_ACTIVE_HELD

/-- RED_ACTIVE of the launch's engines falls. -/
def lowerActive (s : State) (x : Launch) : State :=
  (servers s x).foldl (fun s e => setF s (RED_ACTIVE e) (activeField x) (getF s (RED_ACTIVE e) (activeField x) - 1)) s

/-- RED_ACTIVE of the launch's engines rises. -/
def raiseActive (s : State) (x : Launch) : State :=
  (servers s x).foldl (fun s e => setF s (RED_ACTIVE e) (activeField x) (getF s (RED_ACTIVE e) (activeField x) + 1)) s

/-- Class of a status (Table 4.11): 1 STEP, 2 UNIT, 0 none. -/
def collClass (status : Nat) : Nat :=
  if 5 ≤ status ∧ status ≤ 9 then 1 else if 0x0A ≤ status ∧ status ≤ 0x0D then 2 else 0

/-- A launch completes on this device (R123): record, DONE_SYNC behind it, staging back. A STEP status raises
COLL_ERROR unless the error raised MEM_PERSIST already. -/
def endLaunch (s : State) (l status : Nat) (quietErr : Bool) : State :=
  match launch s l with
  | none => s
  | some x =>
    let s := jobComplete s x.job (collRecord s x status)
    let s := match groupOf s x.job x.gid with
      | some g =>
        if x.stats ∧ status = 0 then setGroup s { g with stats := (withStats (x.view g) x).stats }
        else if x.op = 5 ∧ status = 0 then setGroup s { g with expelled := g.expelled ||| x.expelled } else s
      | none => s
    let src := launchSource s x
    let s := releaseStaging (lowerActive s x) x
    let s := if x.stage = 2 then (servers s x).foldl (fun s e => bump s (RED_CNT_LAUNCH e) RED_CNT_LAUNCH_COUNT 1) s else s
    let s := { s with coll := { s.coll with
      launches := s.coll.launches.filter (fun y => y.no != l),
      done := x :: s.coll.done,
      csets := s.coll.csets.map (fun c => if c.herd = some l then { c with herd := none } else c) } }
    if collClass status = 1 ∧ quietErr = false then fault s src 0x03 1 (BitVec.ofNat 16 x.job) (BitVec.ofNat 32 status)
    else s

/-- A packet of a unit has left the device, or its local consumer has taken it (R150, R267). -/
def packetLeft (s : State) (owner : Option Nat) : State :=
  match owner with
  | none => s
  | some k =>
    if k < 80 then setCore s k { core s k with unsent := (core s k).unsent - 1 }
    else if k < 0x100 then
      let i := k - 0x80
      { s with net := { s.net with mirOut := mapSet (fun _ => 0) s.net.mirOut i (mapGet (fun _ => 0) s.net.mirOut i - 1) } }
    else match launch s (k - 0x100) with
      | some x => setLaunch s { x with unsent := x.unsent - 1 }
      | none => s

/-! ### A UNIT fault for a job (R426) -/

/-- Status of Table 4.11 that fits a cause of Table 17.3. -/
def launchStatusOf (cause : Nat) : Nat :=
  match cause with
  | 0x0F => 0x0C
  | 0x13 => 0x0D
  | 0x03 => 0x0A
  | 0x05 => 0x0A
  | 0x08 => 0x09
  | _ => 0x0B

/-- Drop the entries that wait on a job's cores. -/
def dropDue (s : State) (j : Nat) : State :=
  (coresOfJob s j).foldl (fun s n => setCore s n { core s n with dueEntries := [] }) s

/-- End every admitted launch of a job. -/
def endLaunches (s : State) (j status : Nat) : State :=
  (s.coll.launches.filter (fun x => x.job == j && x.stage == 2)).foldl (fun s x => endLaunch s x.no status true) s

/-- A step of a core used a path that is lost: a port by which its packets have left is out of use, or its tokens come over the
fabric (R167, R426). (DESIGN CHOICE, log entry 99.) -/
def usedLostPath (s : State) (n : Nat) : Bool :=
  decide ((core s n).slot.toNat < 64)
    || (core s n).paths.any (fun q => !portUp s q || (reg s (HUB_RT_DOWN (q / 64))).getLsbD (q % 64))

/-- The steps of a job that stops end: with the loss of a path (0x0D) those that used it with PATH_LOST, and its slots' queues
are void (R170, R426). -/
def stopSteps (s : State) (j cause : Nat) : State :=
  let t := (coresOfJob s j).foldl (fun t n =>
    if (core t n).running then endStep t n (if cause = 0x0D ∧ usedLostPath s n = true then 4 else 3) 0 else t) s
  if cause = 0x0D then voidQueues t j else t

/-- The recovery of R426: the job's domain is quiesced under a new QID without draining, and the host is told. -/
def stopJob (s : State) (j cause : Nat) : State :=
  match job s j with
  | none => s
  | some x =>
    let seq := match s.flt.cur with | some r => r.seq | none => 0
    let (s, k) :=
      match (s.qids.find? (fun e => e.2.jobs.any (fun y => y.toNat == j) && qidState s e.1 == 2)) with
      | some e => (s, e.1)
      | none =>
        match freeQid s with
        | some k => (setQid s k 2 1 j ⟨0, 0, 0, [BitVec.ofNat 16 j], 0, true, 0, [], now s, []⟩, k)
        | none => (s, 0xFF)
    let s := stopSteps (stopJobAlarms (dropDue s j) j) j cause
    let s := endLaunches s j (launchStatusOf cause)
    complete s x.cq.toNat (cmdCpl 0xFF 0 (cause + k * 256) (BitVec.ofNat 16 j) 0x0E seq.toNat)

/-- A UNIT fault for a job. -/
def jobFault (s : State) (src cause j : Nat) (detail : BitVec 32) : State :=
  stopJob (fault s src cause 2 (BitVec.ofNat 16 j) detail) j cause

/-- A UNIT fault for each job of a list. -/
def jobFaults (s : State) (src cause : Nat) (detail : BitVec 32) (l : List Nat) : State :=
  l.foldl (fun s j => jobFault s src cause j detail) s

end Sys2Proof.Machine
end

