-- ==== Sys2Proof/Machine/Operands.lean ====
section
/-! DEFINITION. Operands of instructions: registers of a unit, immediates, effective addresses, program indices,
and the fields of the Z-T descriptors (Tables 5.6, 7.4, 8.5–8.7, 8.10, 8.11). -/
namespace Sys2Proof.Machine

/-- A register of a file; g0 reads as 0 (R177). -/
def regRead (g : Vector Word 32) (r : GReg) : Word := if r = 0 then 0 else g[r.val]
/-- A register file with a register written; a write to g0 is discarded. -/
def regWrite (g : Vector Word 32) (r : GReg) (v : Word) : Vector Word 32 :=
  if r = 0 then g else g.set r.val v

/-- A general register of a unit. -/
def getG (s : State) (u : ZsUnit) (r : GReg) : Word :=
  match u with
  | .core n => regRead (core s n).g r
  | .pup p => regRead (pup s p).g r

/-- Write a general register of a unit. -/
def setG (s : State) (u : ZsUnit) (r : GReg) (v : Word) : State :=
  match u with
  | .core n => setCore s n { core s n with g := regWrite (core s n).g r v }
  | .pup p => setPup s p { pup s p with g := regWrite (pup s p).g r v }

/-- Program index of a unit. -/
def getPc (s : State) (u : ZsUnit) : BitVec 32 :=
  match u with
  | .core n => (core s n).pc
  | .pup p => (pup s p).pc

/-- Put a unit's program index. -/
def setPc (s : State) (u : ZsUnit) (x : BitVec 32) : State :=
  match u with
  | .core n => setCore s n { core s n with pc := x }
  | .pup p => setPup s p { pup s p with pc := x }

/-- Move past an instruction of `k` program indices. -/
def advance (s : State) (u : ZsUnit) (k : Nat) : State := setPc s u (getPc s u + BitVec.ofNat 32 k)

/-- A 14-bit immediate or offset, sign-extended (Table 7.4). -/
def imm14 (i : BitVec 14) : Word := sext i
/-- A 32-bit immediate, sign-extended. -/
def imm32 (i : BitVec 32) : Word := sext i

/-- The effective address g[ga] + sext(IMM14) (R210). -/
def effAddr (s : State) (u : ZsUnit) (ga : GReg) (i : BitVec 14) : Word := getG s u ga + imm14 i

/-- Length of an instruction in program indices, by its first word (Table 7.3). -/
def instrLen (w : BitVec 32) : Nat :=
  match w.toNat % 4 with
  | 0 => 1
  | 1 => 2
  | 2 => 4
  | _ => 1

/-- Whether index `t` of a code section starts an instruction, `k` indices of the present one being left. -/
def startsAt : List (BitVec 32) → Nat → Nat → Bool
  | [], _, _ => false
  | w :: ws, 0, t => if t = 0 then true else startsAt ws (instrLen w - 1) (t - 1)
  | _ :: ws, k + 1, t => if t = 0 then false else startsAt ws k (t - 1)

/-- Whether a program index starts an instruction (R214). -/
def isStart (code : List (BitVec 32)) (t : Nat) : Bool := startsAt code 0 t

/-! ### Descriptor fields -/

/-- A register number in a descriptor. -/
def dReg (d : BitVec 128) (lo : Nat) : GReg := (ext d lo 5).toFin
/-- An unsigned field of a descriptor. -/
def dNat (d : BitVec 128) (lo w : Nat) : Nat := (ext d lo w).toNat
/-- A one-bit field of a descriptor. -/
def dBit (d : BitVec 128) (i : Nat) : Bool := d.getLsbD i

/-! DMA (Table 5.6) -/
def dmaMode (d : BitVec 128) : Nat := dNat d 8 4
def dmaSrcG (d : BitVec 128) : GReg := dReg d 12
def dmaDstG (d : BitVec 128) : GReg := dReg d 17
def dmaRankG (d : BitVec 128) : GReg := dReg d 22
def dmaRows (d : BitVec 128) : Nat := dNat d 27 16
def dmaRowBytes (d : BitVec 128) : Nat := dNat d 43 20
def dmaSrcStride (d : BitVec 128) : Nat := dNat d 63 20
def dmaDstStride (d : BitVec 128) : Nat := dNat d 83 20
def dmaDoneSync (d : BitVec 128) : Nat := dNat d 103 16
def dmaSyncEn (d : BitVec 128) : Bool := dBit d 119
def dmaUnord (d : BitVec 128) : Bool := dBit d 120
def dmaSpray (d : BitVec 128) : Bool := dBit d 121
def dmaVc (d : BitVec 128) : Nat := dNat d 122 3
def dmaEw (d : BitVec 128) : Nat := dNat d 125 3

/-! MMA (Table 8.5) -/
def mmaAFmt (d : BitVec 128) : Nat := dNat d 8 4
def mmaWFmt (d : BitVec 128) : Nat := dNat d 12 4
def mmaFeedG (d : BitVec 128) : GReg := dReg d 16
def mmaDstG (d : BitVec 128) : GReg := dReg d 21
def mmaAscaleG (d : BitVec 128) : GReg := dReg d 26
def mmaAcc (d : BitVec 128) : Bool := dBit d 31
def mmaRows (d : BitVec 128) : Nat := dNat d 32 8 + 1
def mmaCols (d : BitVec 128) : Nat := dNat d 40 6 + 1
def mmaIscale (d : BitVec 128) : Bool := dBit d 46
def mmaDstStride (d : BitVec 128) : Nat := dNat d 48 20

/-! WLD (Table 8.6) -/
def wldFmt (d : BitVec 128) : Nat := dNat d 8 4
def wldSrcG (d : BitVec 128) : GReg := dReg d 12
def wldScaleG (d : BitVec 128) : GReg := dReg d 17
def wldRows (d : BitVec 128) : Nat := dNat d 22 6 + 1
def wldStride (d : BitVec 128) : Nat := dNat d 28 20

/-! VEC (Table 8.7) -/
def vecOp (d : BitVec 128) : Nat := dNat d 8 5
def vecFmt (d : BitVec 128) : Nat := dNat d 13 4
def vecRm (d : BitVec 128) : Nat := dNat d 17 2
def vecDstG (d : BitVec 128) : GReg := dReg d 19
def vecAG (d : BitVec 128) : GReg := dReg d 24
def vecBG (d : BitVec 128) : GReg := dReg d 29
def vecCG (d : BitVec 128) : GReg := dReg d 34
def vecBScalar (d : BitVec 128) : Bool := dBit d 39
def vecPred (d : BitVec 128) : Nat := dNat d 40 3
def vecRows (d : BitVec 128) : Nat := dNat d 43 16
def vecCols (d : BitVec 128) : Nat := dNat d 59 16
def vecStride (d : BitVec 128) : Nat := dNat d 75 20

/-! CVT (Table 8.10) -/
def cvtSrcFmt (d : BitVec 128) : Nat := dNat d 8 4
def cvtDstFmt (d : BitVec 128) : Nat := dNat d 12 4
def cvtRm (d : BitVec 128) : Nat := dNat d 16 2
def cvtSat (d : BitVec 128) : Bool := dBit d 18
def cvtMx (d : BitVec 128) : Bool := dBit d 19
def cvtSrcG (d : BitVec 128) : GReg := dReg d 20
def cvtDstG (d : BitVec 128) : GReg := dReg d 25
def cvtScaleG (d : BitVec 128) : GReg := dReg d 30
def cvtRows (d : BitVec 128) : Nat := dNat d 35 16
def cvtCols (d : BitVec 128) : Nat := dNat d 51 16
def cvtSrcStride (d : BitVec 128) : Nat := dNat d 67 20
def cvtDstStride (d : BitVec 128) : Nat := dNat d 87 20

/-! SYNC (Table 8.11) -/
def syncSop (d : BitVec 128) : Nat := dNat d 8 3
def syncObjReg (d : BitVec 128) : Bool := dBit d 11
def syncObjG (d : BitVec 128) : GReg := dReg d 12
def syncObj (d : BitVec 128) : Nat := dNat d 17 16
def syncValG (d : BitVec 128) : GReg := dReg d 33
def syncValImm (d : BitVec 128) : Bool := dBit d 38
def syncImm (d : BitVec 128) : Nat := dNat d 39 32
def syncFirstN (d : BitVec 128) : Nat := dNat d 71 5
def syncFirstG (d : BitVec 128) : GReg := dReg d 76

/-! ### Format classes (R55, R74, Table 5.2) -/

/-- Whether a code is an MMA operand format. -/
def mmaOperand (f : Nat) : Bool := (1 ≤ f && f ≤ 7) || (9 ≤ f && f ≤ 12)
/-- Whether a code is an integer format. -/
def isIntFmt (f : Nat) : Bool := 8 ≤ f && f ≤ 12
/-- R74: floating-point operands agree in code, integers in width. -/
def mmaPair (a w : Nat) : Bool :=
  if isIntFmt a || isIntFmt w then isIntFmt a && isIntFmt w && fmtWidthI a == fmtWidthI w else a == w
where
  /-- Width of an integer code. -/
  fmtWidthI (f : Nat) : Nat := match f with | 8 => 32 | 9 => 8 | 10 => 8 | _ => 4

/-- Operand class of an MMA (Table 5.2): 0 single, 1 double, 2 half. -/
def mmaClass (f : Nat) : Nat :=
  if f = 1 ∨ f = 2 then 2 else if f = 3 ∨ f = 4 ∨ f = 9 ∨ f = 10 then 0 else 1

/-- Element index of A[m][k] within an array's feed region (R136). -/
def feedIndex (cls m k : Nat) : Nat :=
  if cls = 1 then 2 * ((m / 2 + k) * 64 + k) + m % 2 else (m + k) * 64 + k

/-- Size of an array's feed region in bytes, by class and element width (Table 5.4). -/
def feedSize (cls w : Nat) : Nat :=
  match cls with
  | 0 => 8192
  | 2 => 16384
  | _ => if w = 6 then 9216 else 6144

/-- Bytes of a row of `n` packed `w`-bit elements (R56). -/
def rowBytes (w n : Nat) : Nat := (w * n + 7) / 8

end Sys2Proof.Machine
end

