-- ==== Sys2Proof/Machine/Alarms.lean ====
section
/-! DEFINITION. FT alarms that fire and the actions that need no other unit's operations (R47–R50): gate cycles,
timer signals, wakes, step starts and Puppeteer interrupts. -/
namespace Sys2Proof.Machine

/-- Lead of an action, ns (Table 2.2). -/
def alarmLead (action : Nat) : Nat := if action = 2 ∨ action = 4 ∨ action = 7 then 10 else 40

/-- Destinations that an action's index names; at or above it, none. -/
def alarmRange (action : Nat) : Nat :=
  match action with
  | 1 => 1024
  | 2 => 256
  | 3 => 65536
  | 4 => 128
  | 5 => 80
  | 6 => 64
  | 7 => 8
  | _ => 0

/-- Fire instant of an alarm, ns. -/
def fireInstant (s : State) (n : Nat) : Nat :=
  (reg s (FTU_ALARM_TARGET n)).toNat - alarmLead (getF s (FTU_ALARM_CTRL n) FTU_ALARM_CTRL_ACTION)

/-- Smallest multiple of a period, at least one, that places the next fire instant after `t`. -/
def periodsPast (fire period t : Nat) : Nat := if t < fire + period then 1 else (t - fire) / period + 1

/-- The alarm after it has fired: a one-shot clears EN, a periodic one moves its target (R48, R49). -/
def rearm (s : State) (n : Nat) : State :=
  let p := getF s (FTU_ALARM_CTRL n) FTU_ALARM_CTRL_PERIOD
  if p = 0 then stopAlarm s n
  else setReg s (FTU_ALARM_TARGET n)
    (reg s (FTU_ALARM_TARGET n) + BitVec.ofNat 64 (p * periodsPast (fireInstant s n) p (now s).toNat))

/-- Whether an enabled alarm has an action that fires. -/
def canFire (s : State) (n : Nat) : Bool :=
  let c := FTU_ALARM_CTRL n
  isSet s c FTU_ALARM_CTRL_EN && 1 ≤ getF s c FTU_ALARM_CTRL_ACTION && getF s c FTU_ALARM_CTRL_ACTION ≤ 7

/-- An alarm fires: FT stands at its fire instant, or past it when it is late; the action then takes effect its lead after
the firing. The domains that it is an event of are evaluated (R408). PLANNED of an ALARM_LATE slip is the fire instant.
(DESIGN CHOICE, log entry 76.) -/
def fireAlarm (s : State) (n : AlarmId) : State :=
  let c := FTU_ALARM_CTRL n
  let f := fireInstant s n
  let s := advanceTo s (BitVec.ofNat 64 f)
  let late := decide (f * 65536 + 81920 ≤ s.ftu.ft)
  let a := getF s c FTU_ALARM_CTRL_ACTION
  let x : Fired := { alarm := n, action := BitVec.ofNat 4 a, index := BitVec.ofNat 24 (getF s c FTU_ALARM_CTRL_TARGET_INDEX),
                     target := reg s (FTU_ALARM_TARGET n), late := late,
                     due := if late then now s + BitVec.ofNat 64 (alarmLead a) else reg s (FTU_ALARM_TARGET n), met := false }
  let s := if late then slip (event s FTU_STATUS FTU_STATUS_LATE_ALARM 1) 0 f ((now s).toNat - f) else s
  let s := rearm s n
  evalAlarm { s with ftu := { s.ftu with fired := s.ftu.fired ++ [x] } } n

/-- ALARM_FIRE (R47). -/
def execAlarmFire (n : AlarmId) (s : State) : Host.Outcome State Fault Refusal :=
  .next (if running s && canFire s n then fireAlarm s n else s)

/-! ### Order at a destination (R49) -/

/-- Destination unit of a fired action; one out of range has none. -/
def Fired.unit (x : Fired) : Option (Nat × Nat) :=
  let a := x.action.toNat
  let i := x.index.toNat
  if alarmRange a ≤ i then none
  else match a with
    | 1 => some (1, portDie i)
    | 2 => some (2, 0)
    | 3 => some (3, i / 4096)
    | 4 => some (4, 0)
    | _ => some (a, i)

/-- Cycles that an action's destination clock (Table 2.2) makes in 10 ns: FCLK 15, ACLK 11, HCLK 8 (Table 2.1). -/
def clockOf (action : Nat) : Nat :=
  match action with
  | 1 => 15
  | 3 => 11
  | 5 => 11
  | 6 => 11
  | _ => 8

/-- The destination clock's edge on which an action takes effect, but for the actions that meet it there: the first at or
after the instant it is due. -/
def Fired.edge (x : Fired) : Nat := cdiv (x.due.toNat * clockOf x.action.toNat) 10

/-- Action `x` comes before `y` at their common destination: on an earlier edge, or with the lower alarm index where both
meet on one. -/
def Fired.before (x y : Fired) : Bool :=
  decide (x.edge < y.edge) || (x.edge == y.edge && decide (x.alarm.val < y.alarm.val))

/-- The fired action of an alarm that takes effect next: its kind matches, and no other comes before it at its
destination. -/
def firedNext (s : State) (n : AlarmId) (action : Nat) : Option Fired :=
  match s.ftu.fired.find? (fun x => x.alarm == n && x.action.toNat == action) with
  | none => none
  | some x => if s.ftu.fired.any (fun y => y.before x && y.unit.isSome && y.unit == x.unit) then none else some x

/-- A list without the first element equal to one. -/
def dropFired (x : Fired) : List Fired → List Fired
  | [] => []
  | y :: ys => if y = x then ys else y :: dropFired x ys

/-- A fired action takes effect at the instant it is due; one with an index out of range has none. -/
def act (s : State) (n : AlarmId) (action : Nat) (k : State → Fired → State) : State :=
  if running s then
    match firedNext s n action with
    | none => s
    | some x =>
      let s := advanceTo { s with ftu := { s.ftu with fired := dropFired x s.ftu.fired } } x.due
      if x.unit.isSome then k s x else s
  else s

/-! ### The actions -/

/-- A port's list starts a cycle at an FT; which entry is in force follows from FT alone (R301). -/
def restartList (t : Word) (s : State) (p : Nat) : State :=
  let s := setPort s p { port s p with cycleAt := t }
  setF s (TSC_GATE_STATUS p) TSC_GATE_STATUS_CYCLES ((getF s (TSC_GATE_STATUS p) TSC_GATE_STATUS_CYCLES + 1) % 2 ^ 32)

/-- Ports with a list whose leader is a port. -/
def followers (s : State) (p : Nat) : List Nat :=
  (List.range 1024).filter (fun q => gateLen s q != 0 && getF s (TSC_GATE_CTRL q) TSC_GATE_CTRL_LEADER == p)

/-- GATE_CYCLE (R302): every list that the port leads restarts. -/
def execGateCycle (n : AlarmId) (s : State) : Host.Outcome State Fault Refusal :=
  .next (act s n 1 (fun s x => (followers s x.index.toNat).foldl (restartList x.target) s))

/-- SYNC_SIGNAL (R152): the object's TIMER_INC is added. A sleeping cluster wakes first, and the action waits. -/
def execSyncSignal (n : AlarmId) (s : State) : Host.Outcome State Fault Refusal :=
  .next (act s n 3 (fun s' x =>
    let o := x.index.toNat
    if awake s' (80 + o / 4096) then evalDomain (objAdd (latchWaits s') o (obj s' o).timerInc.toNat) (80 + o / 4096)
    else startWake { s' with ftu := { s'.ftu with fired := s.ftu.fired } } (80 + o / 4096)))

/-- PWR_WAKE (R407, R409): the domain's wake starts. -/
def execPwrWake (n : AlarmId) (s : State) : Host.Outcome State Fault Refusal :=
  .next (act s n 4 (fun s x => startWake s x.index.toNat))

/-- The entry of a job's image tied to an alarm (R193). -/
def tiedEntry (s : State) (j n : Nat) : Option Nat :=
  match imageOf s j with
  | none => none
  | some i =>
    match i.events.findIdx? (fun e => e.alarm == n && e.action.toNat == 6) with
    | none => none
    | some k => i.entries.findIdx? (fun e => e.kind == 1 && e.schedRef.toNat == k)

/-- STEP_START (R193): the entry tied to the alarm falls due on its logical core. Where the action met a waking domain, its
delay is that slip's and no second one's (R51). -/
def execStepStart (n : AlarmId) (s : State) : Host.Outcome State Fault Refusal :=
  .next (act s n 6 (fun s x =>
    match coreOf s x.index.toNat with
    | none => s
    | some c =>
      match tiedEntry s (core s c).job.toNat n with
      | none => s
      | some e => entryDue s c e (if x.met then now s else x.target)))

/-- A Puppeteer core receives an interrupt. IRQ.WAIT ends with the bitmap of the pending causes. The spec gives no
place in the bitmap, so the bits that this cause shows are a free value. (DESIGN CHOICE, log entry 17.) -/
def pupInterrupt (s : State) (p : PupId) : State :=
  let (v, s) := fresh s
  let c := pup s p
  match c.wait with
  | some gd => setF (setPup s p { c with g := regWrite c.g gd v, wait := none, pc := c.pc + 1 }) (PUP_CORE p) PUP_CORE_STATE 0
  | none => setPup s p { c with irq := some (c.irq.getD 0 ||| v) }

/-- PUP_IRQ (R218): the Puppeteer core's interrupt. -/
def execPupIrq (n : AlarmId) (s : State) : Host.Outcome State Fault Refusal :=
  .next (act s n 7 (fun s x => pupInterrupt s (Fin.ofNat 8 x.index.toNat)))

end Sys2Proof.Machine
end

