-- ==== Sys2Proof/Machine/Steps.lean ====
section
/-! DEFINITION. Steps that begin for a token, end, time out and run again (R193–R198), and the swap of a core for its
cluster's spare (R156–R158). -/
namespace Sys2Proof.Machine

/-! ### SLOT entries (R193, R167) -/

/-- SLOT_ENTRY (R193): the step for the core's next token begins, when the previous step has ended. One that a swap or a
test has held back starts late: the instant at which it could have begun is its planned FT (R156, R447). -/
def execSlotEntry (l : LCore) (s : State) : Host.Outcome State Fault Refusal :=
  .next (match coreOf s l with
    | none => s
    | some n =>
      if mayBegin s n && coreAwake s n then
        match slotEntryOf s (core s n).job.toNat l with
        | none => s
        | some (e, d) =>
          let t := (core s n).nextToken
          let s := beginStep s n e ((core s n).heldAt.getD (now s)) d.slot.toNat t
          setCore s n { core s n with nextToken := t + 1 }
      else s)

/-! ### The end of a step (R194, R195, R197) -/

/-- Nothing that the core issued is outstanding. -/
def quietCore (c : Core) : Bool :=
  c.dma.isEmpty && c.mx.isEmpty && c.vec.isEmpty && c.held.isEmpty && c.unsent == 0

/-- Entry of the step in progress has RETRY set, and a retry is left. -/
def mayRetry (s : State) (n : Nat) : Bool :=
  (match entryOf s n with | some e => e.retry | none => false) && (core s n).retries < 2

/-- Status of a step that a trap cause ended (Table 7.10). -/
def trapStatus (cause : Nat) : Nat := if cause = 8 then 2 else 1

/-- STEP_COMPLETION (R194): STEP.END has issued and every earlier operation has completed, or a trap ends the step
with no retry left. (DESIGN CHOICE, log entry 55.) -/
def completeStep (s : State) (n : Nat) : State :=
  let c := core s n
  if !c.running then s
  else match c.trap with
    | some t => if quietCore c && !mayRetry s n then endStep s n (trapStatus t.toNat) t.toNat else s
    | none => if c.ended && quietCore c then endStep s n 0 0 else s

def execStepCompletion (n : CoreId) (s : State) : Host.Outcome State Fault Refusal :=
  .next (ifRunning s (completeStep s n))

/-- The step runs again from its entry (R195). -/
def retryStep (s : State) (n : Nat) : State :=
  let c := (core s n).clearFlags
  match entryOf s n with
  | none => s
  | some e =>
    let s := { s with sec := { s.sec with reruns := s.sec.reruns + 1 } }
    setCore s n { c with g := c.g0, srPos := c.srPos0, pc := e.pc, lastPc := e.pc, ended := false, trap := none,
                         errPc := 0xFFFFFFFF#32, wait := none, nextNo := 0, feedHeld := false, drainHeld := false, retries := c.retries + 1, runStart := now s }

/-- STEP_RETRY (R195): a trapped step whose operations have completed runs again. -/
def execStepRetry (n : CoreId) (s : State) : Host.Outcome State Fault Refusal :=
  .next (ifRunning s (
    let c := core s n
    if c.running && c.trap.isSome && quietCore c && mayRetry s n then retryStep s n else s))

/-- STEP_LIMIT of the step in progress, ns; a limit of 0 is 1,000,000 µs (Table 7.6). -/
def stepLimitNs (s : State) (n : Nat) : Nat :=
  let l := match imageOf s (core s n).job.toNat with | some i => i.stepLimit.toNat | none => 0
  (if l = 0 then 1000000 else l) * 1000

/-- STEP_TIMEOUT (R197): the run ends at its limit with a STEP fault TIMEOUT. -/
def execStepTimeout (n : CoreId) (s : State) : Host.Outcome State Fault Refusal :=
  .next (ifRunning s (
    let c := core s n
    if c.running && c.trap.isNone && !(c.ended && quietCore c) then
      let s := advanceTo s (c.runStart + BitVec.ofNat 64 (stepLimitNs s n))
      let s := setCore s n { core s n with trap := some 8, errPc := 0xFFFFFFFF#32, ended := false, wait := none, held := [] }
      fault s n 0x02 1 c.job 0
    else s))

/-! ### The spare core (R156–R158) -/

/-- A swap of a cluster begins: P and S stop for the copy. A core that sleeps wakes first, and the swap waits for it
(R413). -/
def startSwap (s : State) (l : Nat) : State :=
  let c := l / 4
  match coreOf s l, spareOf s c with
  | some p, some q =>
    if (core s p).running || isSet s (CLU_STATUS c) CLU_STATUS_SWAP_BUSY || !quietCore (core s p)
        || !swapWanted s p then s
    else
      let s := startWake (startWake (startWake (holdStart s p) (80 + c)) p) q
      if coreAwake s p && coreAwake s q then
        setF (coreState (coreState s p 5) q 5) (CLU_STATUS c) CLU_STATUS_SWAP_BUSY 1
      else s
  | _, _ => s

/-- SPARE_SWAP (R156, step 1): at a step boundary. -/
def execSpareSwap (l : LCore) (s : State) : Host.Outcome State Fault Refusal :=
  .next (ifRunning s (startSwap s l))

/-- Storage moved from one base key to another. -/
def moveMem (m : List Host.Cell) (src dst len : Nat) : List Host.Cell :=
  let keep := m.filter (fun e => !(decide (src ≤ e.1) && decide (e.1 < src + len)) && !(decide (dst ≤ e.1) && decide (e.1 < dst + len)))
  (m.filter (fun e => decide (src ≤ e.1) && decide (e.1 < src + len))).foldl
    (fun r e => mapSet memDefault r (e.1 - src + dst) e.2) keep

/-- The core's SRAM and state stand at the spare; the old core's are zero (R156, R415). A word of the
old core's SRAM whose detection code fails stands at the spare as a good word. (DESIGN CHOICE, log entry 53.) -/
def copyCore (s : State) (p q : Nat) : State :=
  let c := core s p
  let s := { s with mem := moveMem s.mem (coreKey p) (coreKey q) 0x1000000,
                    bad := s.bad.filter (fun k => !(decide (coreKey q ≤ k) && decide (k < coreKey q + 0x1000000))
                                                && !(decide (coreKey p ≤ k) && decide (k < coreKey p + 0x1000000))) }
  setCore (setCore s q c) p Core.init

/-- A range of the old core's SRAM stands at the spare. -/
def Span.moved (p q : Nat) (x : Span) : Span :=
  if coreKey p ≤ x.lo ∧ x.lo < coreKey p + 0x1000000 then { x with lo := x.lo - coreKey p + coreKey q } else x

/-- The ranges of an operation that another core has issued, which mean the logical core (R157). -/
def ZtOp.moved (p q : Nat) (o : ZtOp) : ZtOp :=
  { o with reads := o.reads.map (Span.moved p q), writes := o.writes.map (Span.moved p q) }

/-- Operations in flight follow the logical core from its old physical core to the spare (R157, R347). -/
def moveOps (s : State) (p q : Nat) : State :=
  { s with cores := s.cores.map (fun e => (e.1, { e.2 with dma := e.2.dma.map (ZtOp.moved p q) })) }

/-- Slot field of the cluster map that a local logical core has. -/
def mapField (j : Nat) : Fld :=
  match j with
  | 0 => CLU_MAP_PHYS0
  | 1 => CLU_MAP_PHYS1
  | 2 => CLU_MAP_PHYS2
  | 3 => CLU_MAP_PHYS3
  | _ => CLU_MAP_SPARE

/-- The swap under way in a cluster: local logical core, its physical core and the spare. -/
def swapping (s : State) (c : Nat) : Option (Nat × Nat × Nat) :=
  match (List.range 4).find? (fun j =>
      match physOf s (5 * c + j) with
      | some p => getF s (CORE_STATUS p) CORE_STATUS_STATE == 5
      | none => false) with
  | none => none
  | some j =>
    match physOf s (5 * c + j), physOf s (5 * c + 4) with
    | some p, some q => some (j, p, q)
    | _, _ => none

/-- Reason of a swap (Table 5.21): the host's request, a first failure (REPAIR), or a late test. -/
def swapReason (s : State) (p : Nat) : Nat :=
  if s.flt.tests.any (fun e => e == (p, 5)) then 1 else if testWaits s p then 0 else 2

/-- A test that a core waits for, or runs, is dropped. -/
def dropTest (s : State) (u : Nat) : State :=
  { s with flt := { s.flt with tests := s.flt.tests.filter (fun e => e.1 != u) } }

/-- A cluster's spare slot. -/
def setSpare (s : State) (c : Nat) (q : Option Nat) : State :=
  let s := setF s (CLU_MAP c) CLU_MAP_SPARE (match q with | some p => p % 5 | none => 7)
  setF s (CLU_STATUS c) CLU_STATUS_NO_SPARE (if q.isNone then 1 else 0)

/-- A core becomes its cluster's spare, or leaves service when the cluster has one (R450, R451). -/
def becomeSpare (s : State) (n : Nat) : State :=
  if getF s (CLU_MAP (n / 5)) CLU_MAP_SPARE = 7 then coreState (setSpare s (n / 5) (some n)) n 1 else coreState s n 7

/-- A zero-filled core runs the WAKE kernel before it becomes a spare (Table 17.7). (DESIGN CHOICE, log entry 69.) -/
def wakeTest (s : State) (n : Nat) : State :=
  coreState { s with flt := { s.flt with tests := s.flt.tests ++ [(n, 4)] } } n 4

end Sys2Proof.Machine
end

