-- ==== Sys2Proof/Machine/Kat.lean ====
section
/-! DEFINITION. The fingerprint (R364, R365) and in-field testing: when tests run, what their results do, observation,
fences and returns (R445–R451). -/
namespace Sys2Proof.Machine

/-! ### The fingerprint (R364, R365) -/

/-- LOGICAL_MAP: the logical cores present. -/
def logicalMap (s : State) : Nat :=
  (List.range 64).foldl (fun m l => if (coreOf s l).isSome then m + 2 ^ l else m) 0

/-- The preimage of Table 14.1. -/
def fpPreimage (s : State) : List Byte :=
  let v := match s.sec.bundle with | some b => b.version.toNat | none => 0
  [1, s.sec.cfg.stepping, s.sec.cfg.grade, 1] ++ toBytes 4 v ++ toBytes 8 (logicalMap s) ++ List.replicate 16 0

/-- The fingerprint is computed and shown. (DESIGN CHOICE, log entry 24.) -/
def computeFp (s : State) : State :=
  let d := sha3 (fpPreimage s)
  let s := { s with sec := { s.sec with fp := d } }
  let s := setReg s SEC_FP_MAP (BitVec.ofNat 64 (logicalMap s))
  let s := setF (setF s SEC_FP_INFO SEC_FP_INFO_STEPPING s.sec.cfg.stepping.toNat) SEC_FP_INFO SEC_FP_INFO_GRADE s.sec.cfg.grade.toNat
  setF s SEC_FP_INFO SEC_FP_INFO_BUNDLE (match s.sec.bundle with | some b => b.version.toNat | none => 0)

/-- Jobs loaded with FP_REQ, for an image in force or one that waits for its RESTART. -/
def fpJobs (s : State) : List Nat := (s.jobs.filter (fun e => (heldImages s e.1).any (fun i => i.fpReq))).map Prod.fst

/-- A change of the fingerprint: computed again, reported, and a UNIT fault for each job that requires it. -/
def fpChanged (s : State) : State :=
  let s := computeFp s
  let s := event s SEC_PROV_STATUS SEC_PROV_STATUS_FP_CHANGED_EVENT 3
  jobFaults s 173 0x16 0 (fpJobs s)

/-! ### Losing a core, observation, fences (R158, R448–R450) -/

/-- A logical core with no spare is lost (R158): its job stops, and the fingerprint changes.
The record of the step that this ends still names the core (R194). -/
def loseCore (s : State) (n : Nat) : State :=
  let l := logicalOf s n
  if l = 0xFF then s
  else
    let j := (core s n).job.toNat
    let s := if (job s j).isSome then jobFault s n 0x15 j (BitVec.ofNat 32 l) else s
    let s := setF s (CLU_MAP (n / 5)) (mapField (l % 4)) 7
    let s := setF s (CORE_STATUS n) CORE_STATUS_LOGICAL 0xFF
    fpChanged s

/-- Zero-fill of a core that leaves an identity or returns (R451). -/
def zeroCore (s : State) (n : Nat) : State :=
  let inside (k : Nat) : Bool := decide (coreKey n ≤ k) && decide (k < coreKey n + 0x1000000)
  setCore { s with mem := s.mem.filter (fun e => !inside e.1), bad := s.bad.filter (fun k => !inside k) } n Core.init

/-- The instant from which a core's next FULL test falls due (R447). -/
def setPassed (s : State) (n : Nat) : State := { s with flt := { s.flt with passed := mapPut s.flt.passed n (now s) } }

/-- A unit's time under observation begins: 168 hours (R449). The first hourly test falls due an hour from here, as in
the worked example after R451. (DESIGN CHOICE, log entry 69.) -/
def observe (s : State) (u : Nat) : State :=
  setPassed { s with flt := { s.flt with obs := mapPut s.flt.obs u (168 * 3600) } } u
/-- A unit is under observation. -/
def observed (s : State) (u : Nat) : Bool := s.flt.obs.any (fun e => e.1 == u)
/-- A lasting fence in the black box. -/
def lastFence (s : State) (u : Nat) : State :=
  { s with flt := { s.flt with lasting := (s.flt.lasting.filter (· != u)) ++ [u], obs := mapErase s.flt.obs u } }

/-- A core is its cluster's spare by the map. -/
def isSpare (s : State) (n : Nat) : Bool := physOf s (5 * (n / 5) + 4) == some n

/-- A cluster has lost its spare: nobody waits for a swap any longer. A first failure stays in service; a late test runs now,
a request is ignored, and a core whose EN is 0 is lost (R158, R447, R448, Tables 5.13, 5.20). -/
def noSwap (s : State) (n : Nat) : State :=
  let s := { s with flt := { s.flt with tests := s.flt.tests.filter (fun e => e != (n, 5)) } }
  if (core s n).running || getF s (CORE_STATUS n) CORE_STATUS_STATE != 2 then s
  else if testWaits s n then coreState (holdStart s n) n 4
  else if !isSet s (CORE_CTRL n) CORE_CTRL_EN then coreState (zeroCore (loseCore s n) n) n 7
  else nextDue s n

/-- What follows in a cluster whose spare is gone. -/
def spareGone (s : State) (c : Nat) : State :=
  let s := setF s (CLU_SWAP c) CLU_SWAP_REQ 0
  ((List.range 4).filterMap (fun j => physOf s (5 * c + j))).foldl noSwap s

/-- A core is no longer its cluster's spare, if it was. -/
def leaveSpare (s : State) (n : Nat) : State :=
  if isSpare s n then spareGone (setSpare s (n / 5) none) (n / 5) else s

/-- First failure of a core (R448): under observation; the spare is to take its identity, or, without identity, the
core is fenced for observation. -/
def firstFailure (s : State) (n : Nat) : State :=
  let s := observe (setF s (CORE_STATUS n) CORE_STATUS_OBSERVE 1) n
  let s := fault s n 0x14 0 0xFFFF 0
  let s := logEvent s 2 0x01 n 0
  if logicalOf s n ≠ 0xFF then
    if hasSpare s (n / 5) then
      { dropTest s n with flt := { (dropTest s n).flt with tests := (dropTest s n).flt.tests ++ [(n, 5)] } }
    else s
  else
    leaveSpare (zeroCore (coreState s n 6) n) n

/-- Second failure within the observation (R448): a lasting fence, and KAT_FAIL of class UNIT. -/
def secondFailure (s : State) (n : Nat) : State :=
  let s := lastFence (setF (dropTest s n) (CORE_STATUS n) CORE_STATUS_OBSERVE 0) n
  let s := fault s n 0x14 2 0xFFFF 0
  let s := loseCore s n
  leaveSpare (zeroCore (coreState s n 6) n) n

/-- A core's check fails (R448, R359). -/
def checkFails (s : State) (n : Nat) : State := if observed s n then secondFailure s n else firstFailure s n

/-- A persistent error (R357); one in a core's own SRAM fails the core's check (R359, R448). -/
def persist (s : State) (st : Store) (k cls : Nat) (job : BitVec 16) : State :=
  let s := memPersist s st k cls job
  match st with
  | .core p => checkFails s p
  | _ => s

/-! ### Tests (R447) -/

/-- A test of a unit is entered. -/
def addTest (s : State) (u r : Nat) : State :=
  { s with flt := { s.flt with tests := s.flt.tests ++ [(u, r)], due := s.flt.due.filter (· != u) } }

/-- Reason of a periodic FULL test. -/
def testReason (s : State) (n : Nat) : Nat := if observed s n then 1 else 0

/-- A FULL test runs on a core. -/
def runTest (s : State) (n : Nat) : State := coreState (addTest s n (testReason s n)) n 4

/-- A free alarm of 960–967. -/
def freeTestAlarm (s : State) : Option Nat :=
  ((List.range 8).map (960 + ·)).find? (fun k => getF s (FTU_ALARM_CTRL k) FTU_ALARM_CTRL_ACTION == 0)

/-- The window of R447: between steps, and the next known event at least 4 ms away. -/
def testWindow (s : State) (n : Nat) : Bool :=
  !(core s n).running && match nextEvent s n with | none => true | some t => decide ((now s).toNat + 4000000 ≤ t)

/-- The test alarm that a core has waited for and holds, and whose window has not yet opened (R409). -/
def heldTestAlarm (s : State) (n : Nat) : Option Nat :=
  ((List.range 8).map (960 + ·)).find? (fun k => !isSet s (FTU_ALARM_CTRL k) FTU_ALARM_CTRL_EN
    && getF s (FTU_ALARM_CTRL k) FTU_ALARM_CTRL_ACTION == 5 && getF s (FTU_ALARM_CTRL k) FTU_ALARM_CTRL_TARGET_INDEX == n)

/-- A core whose TEST_START alarm is set. -/
def testAsked (s : State) (n : Nat) : Bool := (alarmsOn s).any (fun a => a.action == 5 && a.index == n)

/-- A TEST_START alarm for a core whose window is open: the target leaves time for the wake and the alarm's lead. -/
def askTest (s : State) (n : Nat) : State :=
  if !testWindow s n || s.flt.wantAlarm.contains n || testAsked s n then s
  else match (heldTestAlarm s n).orElse (fun _ => freeTestAlarm s) with
    | some k =>
      let w := max (wakeTime (domState s n)) (wakeTime (domState s (80 + n / 5)))
      evalCore (setAlarm s k 5 n ((now s).toNat + 50 + 11 * w / 10) 0) n
    | none => { s with flt := { s.flt with wantAlarm := s.flt.wantAlarm ++ [n] } }

/-- A test alarm is released; the first request that waits takes it, and holds it until its core's window opens (R409). -/
def releaseTestAlarm (s : State) (k : Nat) : State :=
  if 960 ≤ k ∧ k < 968 then
    let s := freeAlarm s k
    match s.flt.wantAlarm with
    | [] => s
    | n :: r =>
      let s := setF (setF s (FTU_ALARM_CTRL k) FTU_ALARM_CTRL_ACTION 5) (FTU_ALARM_CTRL k) FTU_ALARM_CTRL_TARGET_INDEX n
      askTest { s with flt := { s.flt with wantAlarm := r } } n
  else s

/-- A core's test begins otherwise than by an alarm: the request, or the alarm it holds, is given up. -/
def dropAsk (s : State) (n : Nat) : State :=
  let s := { s with flt := { s.flt with wantAlarm := s.flt.wantAlarm.filter (· != n) } }
  match heldTestAlarm s n with
  | some k => releaseTestAlarm s k
  | none => s

/-- Cores due for a test whose windows may have opened. -/
def dueWindows (s : State) : State := s.flt.due.foldl askTest s

/-- FT, in ns, at which a core's FULL test falls due: TEST_HOURS after its last pass, or an hour while the core is under
observation (R447). -/
def testDue (s : State) (n : Nat) : Nat :=
  (mapGet (fun _ => (0 : Word)) s.flt.passed n).toNat
    + (if observed s n then 1 else getF s FLT_CTRL FLT_CTRL_TEST_HOURS) * 3600000000000

/-- TEST_DUE (R447): at the due time, or later; a core that is due already looks for its window again. -/
def dueTest (s : State) (n : Nat) : State :=
  let st := getF s (CORE_STATUS n) CORE_STATUS_STATE
  if testWaits s n || !(isSet s FLT_CTRL FLT_CTRL_TEST_EN || observed s n) then s
  else if s.flt.due.contains n then askTest s n
  else
    let s := advanceTo s (BitVec.ofNat 64 (testDue s n))
    if st = 1 ∨ (st = 6 ∧ isSet s (CORE_STATUS n) CORE_STATUS_OBSERVE = true) ∨ (st = 2 ∧ (core s n).job = 0)
    then runTest s n
    else if st = 2 ∨ st = 3 then askTest { s with flt := { s.flt with due := s.flt.due ++ [n] } } n
    else s

def execTestDue (n : CoreId) (s : State) : Host.Outcome State Fault Refusal :=
  .next (ifRunning s (dueTest s n))

/-- TEST_START (R447): the kernel starts on a core between steps; a sleeping core wakes first and the action waits. -/
def execTestStart (n : AlarmId) (s : State) : Host.Outcome State Fault Refusal :=
  .next (act s n 5 (fun s' x =>
    let c := x.index.toNat
    if !coreAwake s' c then startWake (startWake { s' with ftu := { s'.ftu with fired := s.ftu.fired } } (80 + c / 5)) c
    else
      let st := getF s' (CORE_STATUS c) CORE_STATUS_STATE
      let s' := releaseTestAlarm s' n
      if !(core s' c).running && (st == 1 || st == 2 || st == 6) && !testWaits s' c
      then runTest (startWake s' c) c else s'))

/-- TEST_LATE (R447): no window has opened 6 h after the due time; the spare takes the identity, or the test runs at
the next step boundary. -/
def execTestLate (n : CoreId) (s : State) : Host.Outcome State Fault Refusal :=
  .next (ifRunning s (
    if s.flt.due.contains n.val && !(testAsked s n && testWindow s n) then
      let s := advanceTo s (BitVec.ofNat 64 (testDue s n + 6 * 3600000000000))
      let s := event s FLT_STATUS FLT_STATUS_TEST_LATE_EVENT 0
      let s := addTest (dropAsk s n) n (testReason s n)
      if (core s n).running || swapWanted s n then s else coreState (holdStart s n) n 4
    else s))

/-! ### Results (R448–R450) -/

/-- State in which a tested core goes on: in service, as the spare, or fenced. A core that a swap for testing has taken out
becomes the spare, also under observation (R157). -/
def afterTest (s : State) (n : Nat) : State :=
  if logicalOf s n ≠ 0xFF then nextDue (coreState s n 2) n
  else if isSpare s n then coreState s n 1
  else if s.flt.swapped.contains n then
    becomeSpare (zeroCore { s with flt := { s.flt with swapped := s.flt.swapped.filter (· != n) } } n) n
  else if observed s n then coreState s n 6
  else becomeSpare (zeroCore s n) n

/-- FLT_RETURN at the end of a return. -/
def returnEnds (s : State) (passed : Bool) : State :=
  setF (setF s FLT_RETURN FLT_RETURN_REQ 0) FLT_RETURN FLT_RETURN_PASSED (b2n passed)

/-- A unit leaves its lasting fence and is under observation (R450). -/
def returned (s : State) (u src : Nat) : State :=
  let s := { s with flt := { s.flt with lasting := s.flt.lasting.filter (· != u) } }
  logEvent (observe s u) 2 0x03 src 0

/-- A test of a unit has run; a core that waits for the swap of R448 still waits. -/
def dropRun (s : State) (u : Nat) : State :=
  { s with flt := { s.flt with tests := s.flt.tests.filter (fun e => e.1 != u || e.2 == 5) } }

/-- The WAKE kernel's result on a core that is to be a spare (R448). -/
def wakeResult (s : State) (n : Nat) (passed : Bool) : State :=
  let s := logEvent (dropRun s n) 1 (if passed then 0x03 else 0x04) n 0
  if passed then becomeSpare s n else checkFails s n

/-- A FULL kernel's result on a core. -/
def fullResult (s : State) (n r : Nat) (passed : Bool) : State :=
  let s := logEvent (dropRun s n) 1 (if passed then 0x01 else 0x02) n (BitVec.ofNat 32 r)
  if r = 2 then
    let s := returnEnds s passed
    if passed then becomeSpare (returned (setF s (CORE_STATUS n) CORE_STATUS_OBSERVE 1) n n) n
    else coreState s n 6
  else if passed then afterTest (setPassed s n) n
  else
    let s := coreState { s with flt := { s.flt with swapped := s.flt.swapped.filter (· != n) } } n 2
    let s := checkFails s n
    if getF s (CORE_STATUS n) CORE_STATUS_STATE = 2 then nextDue s n else s

/-- An ENGINE kernel's result. -/
def engineResult (s : State) (e : Nat) (passed : Bool) : State :=
  let s := logEvent (dropTest s (80 + e)) 1 (if passed then 0x05 else 0x06) (96 + e) 0
  let s := returnEnds s passed
  if passed then setF (returned s (80 + e) (96 + e)) (RED_STATUS e) RED_STATUS_FENCED 0 else s

/-- KNOWN_ANSWER_RESULT (R448): the kernel that runs on the unit ends. (DESIGN CHOICE, log entry 69.) -/
def execKnownAnswerResult (u : Fin 96) (passed : Bool) (s : State) : Host.Outcome State Fault Refusal :=
  .next (ifRunning s (
    match s.flt.tests.find? (fun e => e.1 == u.val && e.2 != 5) with
    | none => s
    | some (_, r) =>
      if u.val < 80 then
        if getF s (CORE_STATUS u.val) CORE_STATUS_STATE = 4 then
          dueWindows (if r = 4 then wakeResult s u passed else fullResult s u r passed)
        else s
      else engineResult s (u.val - 80) passed))

/-- OBSERVATION_END (R449): 168 powered hours of passed tests, none of which runs, waits or is due; a core fenced for
observation becomes the spare. -/
def execObservationEnd (n : CoreId) (s : State) : Host.Outcome State Fault Refusal :=
  .next (ifRunning s (
    if mapFind s.flt.obs n = some 0 && !testWaits s n && decide ((now s).toNat < testDue s n) then
      let s := { s with flt := { s.flt with obs := mapErase s.flt.obs n } }
      let s := logEvent (setF s (CORE_STATUS n) CORE_STATUS_OBSERVE 0) 2 0x02 n 0
      if getF s (CORE_STATUS n) CORE_STATUS_STATE = 6 then wakeTest (zeroCore s n) n else s
    else s))

/-- A core on its way back to service is reset: the Warm column of its register block (R15). The other units' registers
keep every field of theirs. (DEDUCED, log entry 81.) -/
def resetUnit (s : State) (n : Nat) : State :=
  ((s.csr.map Prod.fst).filter (fun k => k / 0x10000 == 0x500 + n)).foldl (fun s k => setReg s k (warmValue k (reg s k))) s

/-- A write of FLT_RETURN (R450, Table 17.14): INDEX and ENGINE take the written value at once (R13); REQ starts the return
of a fenced unit, unless one runs. -/
def writeReturn (s : State) (v : Word) : State :=
    let i := fget FLT_RETURN_INDEX v
    let eng := fget FLT_RETURN_ENGINE v == 1
    let busy := isSet s FLT_RETURN FLT_RETURN_REQ
    let s := setF (setF s FLT_RETURN FLT_RETURN_INDEX i) FLT_RETURN FLT_RETURN_ENGINE (b2n eng)
    if fget FLT_RETURN_REQ v = 0 ∨ busy = true then s
    else if eng then
      if i < 16 ∧ isSet s (RED_STATUS i) RED_STATUS_FENCED = true then addTest (setF s FLT_RETURN FLT_RETURN_REQ 1) (80 + i) 2 else s
    else if i < 80 ∧ getF s (CORE_STATUS i) CORE_STATUS_STATE = 6 then
      addTest (zeroCore (coreState (resetUnit (setF s FLT_RETURN FLT_RETURN_REQ 1) i) i 4) i) i 2
    else s

/-- FLT_RETURN (R450). -/
def execFltReturn (v : Word) (s : State) : Host.Outcome State Fault Refusal := .next (ifRunning s (writeReturn s v))

end Sys2Proof.Machine
end

