-- ==== Sys2Proof/Machine/ZCheck.lean ====
section
/-! DEFINITION. What the loader accepts of one instruction by its own bits (R147, R208, R210–R219, R223, R224, R227,
R229, R234, R236, Table 7.9), as a load status: 0 OK, 7 BAD_INSTR, 8 FORMAT, 9 ADDRESS. -/
namespace Sys2Proof.Machine

/-- FUNC values of ALU (Table 8.2). -/
def aluFuncs : List Nat :=
  [0, 1, 2, 3, 4, 5, 6, 7, 8, 9, 10, 11, 12, 13, 16, 17, 18, 20, 21, 22, 23]

/-- FUNC values of ALUL (Table 8.1): ADD, AND, OR, XOR, SLT, SLTU, MUL. -/
def alulFuncs : List Nat := [0, 2, 3, 4, 8, 9, 16]

/-- A numeric field of a DMA that its mode does not use is not 0 (R208): SRC_STRIDE in FILL, EW outside SKEW, VC of a
local transfer, DONE_SYNC without SYNC_EN. SKEW ignores ROW_BYTES and DST_STRIDE (Table 5.6). -/
def dmaUnused (d : BitVec 128) : Bool :=
  (dmaMode d == 2 && dmaSrcStride d != 0) || (dmaMode d != 1 && dmaEw d != 0 && dmaEw d ≤ 3)
    || (dmaRankG d == 0 && dmaVc d != 0 && dmaVc d ≤ 4 && !dmaSpray d) || (!dmaSyncEn d && dmaDoneSync d != 0)

/-- Status of a DMA descriptor (R147, R208): a reserved code, of EW in any mode, is an ADDRESS fault by R147's own
list. -/
def dmaStatus (d : BitVec 128) : Nat :=
  if dmaUnused d = true then 7
  else if 3 < dmaEw d then 9
  else if 2 < dmaMode d ∨ dmaRows d = 0 ∨ (dmaSpray d = true ∧ dmaVc d ≠ 4) ∨ 4 < dmaVc d
    ∨ (dmaMode d = 1 ∧ (dmaRankG d ≠ 0 ∨ 256 < dmaRows d)) then 9
  else 0

/-- Status of an MMA descriptor (R221, R223, R208). -/
def mmaStatus (d : BitVec 128) : Nat :=
  let a := mmaAFmt d
  let w := mmaWFmt d
  if dNat d 47 1 ≠ 0 ∨ dNat d 68 60 ≠ 0 ∨ (mmaIscale d = true ∧ ¬ (isIntFmt a = true ∧ isIntFmt w = true)) then 7
  else if mmaOperand a = false ∨ mmaOperand w = false ∨ mmaPair a w = false
    ∨ (mmaAscaleG d ≠ 0 ∧ (a = 1 ∨ a = 2 ∨ (isIntFmt a = true ∧ mmaIscale d = false))) then 8
  else 0

/-- Status of a WLD descriptor (R224). -/
def wldStatus (d : BitVec 128) : Nat :=
  if dNat d 48 80 ≠ 0 then 7
  else if mmaOperand (wldFmt d) = false ∨ (wldScaleG d ≠ 0 ∧ (wldFmt d = 1 ∨ wldFmt d = 2)) then 8
  else 0

/-- Status of a SWAP descriptor (R225). -/
def swapStatus (d : BitVec 128) : Nat := if dNat d 8 120 ≠ 0 then 7 else 0

/-- Whether a VEC operation has a B operand, and a C operand (Table 8.8). -/
def vecHasB (op : Nat) : Bool := op ≤ 4 || (10 ≤ op && op ≤ 13) || (16 ≤ op && op ≤ 21)
/-- Whether a VEC operation has a C operand. -/
def vecHasC (op : Nat) : Bool := op == 3 || op == 13
/-- Formats a VEC operation allows (Table 8.8). -/
def vecFmtOk (op fmt : Nat) : Bool :=
  let fp := fmt == 0 || fmt == 1 || fmt == 2
  if 4 ≤ op && op ≤ 9 then fp else if 16 ≤ op && op ≤ 21 then fmt == 8 else fp || fmt == 8

/-- Status of a VEC descriptor (R226, R227, R229, R208). -/
def vecStatus (d : BitVec 128) : Nat :=
  let op := vecOp d
  if dNat d 95 33 ≠ 0 ∨ 24 < op ∨ vecRows d = 0 ∨ vecCols d = 0
    ∨ (vecHasB op = false ∧ (vecBG d ≠ 0 ∨ vecBScalar d = true)) ∨ (vecHasC op = false ∧ vecCG d ≠ 0)
    ∨ (op = 12 ∧ 5 < vecPred d) ∨ (op ≠ 12 ∧ vecPred d ≠ 0) ∨ (op = 22 ∧ vecRm d ≠ 0) then 7
  else if vecFmtOk op (vecFmt d) = false then 8
  else 0

/-- Whether COLS elements of a format pack (R56). -/
def packOk (fmt cols : Nat) : Bool :=
  match fmtWidth fmt with
  | 6 => cols % 4 == 0
  | 4 => cols % 2 == 0
  | _ => true

/-- Destination formats of MX mode (R77, R234). -/
def mxDst (f : Nat) : Bool := (3 ≤ f && f ≤ 7) || f == 9

/-- Status of a CVT descriptor (R233, R234, R208). -/
def cvtStatus (d : BitVec 128) : Nat :=
  if dNat d 107 21 ≠ 0 ∨ cvtRows d = 0 ∨ cvtCols d = 0 ∨ (cvtMx d = false ∧ cvtScaleG d ≠ 0) then 7
  else if 12 < cvtSrcFmt d ∨ 12 < cvtDstFmt d
    ∨ (cvtMx d = true ∧ (mxDst (cvtDstFmt d) = false ∨ cvtCols d % 32 ≠ 0))
    ∨ packOk (cvtSrcFmt d) (cvtCols d) = false ∨ packOk (cvtDstFmt d) (cvtCols d) = false then 8
  else 0

/-- Status of a SYNC descriptor (R236, R208). -/
def syncStatus (d : BitVec 128) : Nat :=
  let sop := syncSop d
  if dNat d 81 47 ≠ 0 ∨ 4 < sop
    ∨ (syncObjReg d = true ∧ syncObj d ≠ 0) ∨ (syncObjReg d = false ∧ syncObjG d ≠ 0)
    ∨ (sop = 0 ∧ (syncValG d ≠ 0 ∨ syncValImm d = true ∨ syncImm d ≠ 0))
    ∨ (sop = 2 ∧ (syncValImm d = true ∨ syncImm d ≠ 0))
    ∨ (sop ≠ 0 ∧ sop ≠ 2 ∧ syncValImm d = true ∧ syncValG d ≠ 0)
    ∨ (sop ≠ 0 ∧ sop ≠ 2 ∧ syncValImm d = false ∧ syncImm d ≠ 0)
    ∨ (sop ≠ 4 ∧ (syncFirstN d ≠ 0 ∨ syncFirstG d ≠ 0)) then 7
  else 0

/-- Status of a Z-T descriptor by its opcode (Table 8.4). -/
def descStatus (d : BitVec 128) : Nat :=
  match dNat d 0 8 with
  | 0x02 => dmaStatus d
  | 0x06 => mmaStatus d
  | 0x0A => wldStatus d
  | 0x0E => swapStatus d
  | 0x12 => vecStatus d
  | 0x16 => cvtStatus d
  | 0x1A => syncStatus d
  | _ => 7

/-- Whether a Z-T descriptor is V-marked (Table 7.5). -/
def descV (d : BitVec 128) : Bool :=
  match dNat d 0 8 with
  | 0x02 => dmaUnord d || dmaSpray d
  | 0x12 => vecRm d == 3
  | 0x16 => cvtRm d == 3
  | 0x1A => syncSop d == 4
  | _ => false

/-- Whether a descriptor is one the loader lets run, with a given opcode. -/
def descOk (op : Nat) (d : BitVec 128) : Bool := dNat d 0 8 == op && descStatus d == 0

end Sys2Proof.Machine
end

