-- ==== Sys2Proof/Machine/Scalar.lean ====
section
/-! DEFINITION. The scalar instructions of core sequencers and Puppeteer cores (R210–R217), issue (R209) and
traps (R198). -/
namespace Sys2Proof.Machine

/-! ### Traps and issue -/

/-- The step of a core stops at the instruction numbered `no` (R198): nothing after it takes effect, a held
release of a later instruction included. -/
def trapStop (s : State) (n : CoreId) (no cause : Nat) (pc : BitVec 32) : State :=
  let c := core s n
  setCore s n { c with trap := some (BitVec.ofNat 8 cause), errPc := pc, ended := false, wait := none,
                       held := c.held.filter (fun h => decide (h.no < no)) }

/-- A trap with its STEP fault TRAP (Table 17.3). -/
def trapCore (s : State) (n : CoreId) (no cause : Nat) (pc : BitVec 32) : State :=
  fault (trapStop s n no cause pc) n.val 0x01 1 (core s n).job (BitVec.ofNat 32 cause)

/-- A persistent error met by a core (R357, Table 13.4): one MEM_PERSIST fault, and a trap DATA_ERROR that raises
none of its own. -/
def trapData (s : State) (n : CoreId) (no : Nat) (pc : BitVec 32) (st : Store) (k : Nat) : State :=
  let s := persist s st k 1 (core s n).job
  if (core s n).running then trapStop s n no 0x06 pc else s

/-- A core can issue: a step runs, and nothing stops or holds it. -/
def coreReady (s : State) (n : CoreId) : Bool :=
  let c := core s n
  running s && c.running && !c.ended && c.trap.isNone && c.wait.isNone

/-- The core's program index lies in its code section (R214). -/
def inCode (s : State) (n : CoreId) : Bool := decide ((core s n).pc.toNat < (core s n).code.length)

/-- Idle cause of a wait for the core's units while an interruption stretches its MMA (Table 5.11): 6 feed, 7 drain.
Every such wait counts as one for that MMA. (DESIGN CHOICE, log entry 44.) -/
def Core.stretch (c : Core) : Option (Fin 9) := if c.feedHeld then some 6 else if c.drainHeld then some 7 else none

/-- A period in which the next instruction waits for a unit of the core (R159, R209). -/
def chargeBusy (s : State) (n : CoreId) : State :=
  match (core s n).stretch with
  | some c => bump s (CORE_IDLE n c) CORE_IDLE_COUNT 1
  | none => bump s (CORE_CNT_BUSY n) CORE_CNT_BUSY_COUNT 1

/-- `k` issue periods (R159, R214). -/
def chargeIssue (s : State) (n : CoreId) (k : Nat) : State := bump s (CORE_CNT_ISSUE n) CORE_CNT_ISSUE_COUNT k

/-- The instruction at the core's program index issues. -/
def noteIssue (s : State) (n : CoreId) : State :=
  chargeIssue (setCore s n { core s n with lastPc := (core s n).pc }) n 1

/-- Issue on a core (R209, R214): a core that cannot issue is untouched; running past the code section traps;
an instruction that must wait charges BUSY; otherwise it takes effect. -/
def issueCore (s : State) (n : CoreId) (busy : Bool) (k : State → State) : State :=
  if coreReady s n then
    if inCode s n then
      if busy then chargeBusy s n else k (noteIssue s n)
    else trapCore s n (core s n).nextNo 0x04 (core s n).lastPc
  else s

/-- A Puppeteer core can issue. -/
def pupReady (s : State) (p : PupId) : Bool :=
  running s && (pup s p).wait.isNone && (pup s p).trap.isNone && getF s (PUP_CORE p) PUP_CORE_STATE != 2

/-- The next index of a Puppeteer core lies in its code (R214). -/
def pupInCode (s : State) (p : PupId) : Bool := decide ((pup s p).pc.toNat < (pup s p).code.length)

/-- A Puppeteer core's trace takes the instruction that issues (R443). -/
def tracePup (s : State) (p : PupId) : State :=
  setPup s p { pup s p with trace := ((pup s p).pc :: (pup s p).trace).take 1024 }

/-- Issue on a Puppeteer core (R214, R443): its trace takes the instruction; one that runs past its code stops there. -/
def issuePup (s : State) (p : PupId) (k : State → State) : State :=
  if pupReady s p then
    if pupInCode s p then k (tracePup s p) else setPup s p { pup s p with trap := some ((pup s p).trace.headD 0) }
  else s

/-- Issue on a unit that runs Z-S code. -/
def issue (s : State) (u : ZsUnit) (busy : Bool) (k : State → State) : State :=
  match u with
  | .core n => issueCore s n busy k
  | .pup p => issuePup s p k

/-- The instruction writes a register and the program index moves on. -/
def retire (s : State) (u : ZsUnit) (gd : GReg) (v : Word) (k : Nat) : State := advance (setG s u gd v) u k

/-! ### Arithmetic (R210–R212) -/

/-- Signed division rounded toward zero, with R212's corners. -/
def divS (a b : Word) : Word := if b = 0 then 0 else BitVec.sdiv a b
/-- Unsigned division. -/
def divU (a b : Word) : Word := if b = 0 then 0 else a / b
/-- Signed remainder, with the sign of a. -/
def remS (a b : Word) : Word := if b = 0 then a else a - b * divS a b
/-- Unsigned remainder. -/
def remU (a b : Word) : Word := if b = 0 then a else a - b * divU a b

/-- The functions of Table 8.2. -/
def aluFn (func : Nat) (a b : Word) : Word :=
  match func with
  | 0x000 => a + b
  | 0x001 => a - b
  | 0x002 => a &&& b
  | 0x003 => a ||| b
  | 0x004 => a ^^^ b
  | 0x005 => a <<< (b.toNat % 64)
  | 0x006 => a >>> (b.toNat % 64)
  | 0x007 => a.sshiftRight (b.toNat % 64)
  | 0x008 => b2w (a.slt b)
  | 0x009 => b2w (a.ult b)
  | 0x00A => if a.slt b then a else b
  | 0x00B => if a.slt b then b else a
  | 0x00C => if a.ult b then a else b
  | 0x00D => if a.ult b then b else a
  | 0x010 => a * b
  | 0x011 => BitVec.ofInt 64 (a.toInt * b.toInt / 2 ^ 64)
  | 0x012 => BitVec.ofNat 64 (a.toNat * b.toNat / 2 ^ 64)
  | 0x014 => divS a b
  | 0x015 => divU a b
  | 0x016 => remS a b
  | 0x017 => remU a b
  | _ => 0

/-- Outcome of an instruction that the loader would refuse. -/
def checked (ok : Bool) (s : State) : Host.Outcome State Fault Refusal :=
  if ok then .next s else .refused .illFormed

/-- ALU (R211, R212). -/
def execAlu (u : ZsUnit) (gd ga gb : GReg) (func : BitVec 9) (s : State) : Host.Outcome State Fault Refusal :=
  checked (aluFuncs.contains func.toNat)
    (issue s u false (fun s => retire s u gd (aluFn func.toNat (getG s u ga) (getG s u gb)) 1))

/-- ADDI. -/
def execAddi (u : ZsUnit) (gd ga : GReg) (imm : BitVec 14) (s : State) : Host.Outcome State Fault Refusal :=
  .next (issue s u false (fun s => retire s u gd (getG s u ga + imm14 imm) 1))

/-- ANDI. -/
def execAndi (u : ZsUnit) (gd ga : GReg) (imm : BitVec 14) (s : State) : Host.Outcome State Fault Refusal :=
  .next (issue s u false (fun s => retire s u gd (getG s u ga &&& imm14 imm) 1))

/-- ORI. -/
def execOri (u : ZsUnit) (gd ga : GReg) (imm : BitVec 14) (s : State) : Host.Outcome State Fault Refusal :=
  .next (issue s u false (fun s => retire s u gd (getG s u ga ||| imm14 imm) 1))

/-- XORI. -/
def execXori (u : ZsUnit) (gd ga : GReg) (imm : BitVec 14) (s : State) : Host.Outcome State Fault Refusal :=
  .next (issue s u false (fun s => retire s u gd (getG s u ga ^^^ imm14 imm) 1))

/-- SHLI: shift by IMM14[5:0]; the other bits must be 0. -/
def execShli (u : ZsUnit) (gd ga : GReg) (imm : BitVec 14) (s : State) : Host.Outcome State Fault Refusal :=
  checked (imm.toNat < 64) (issue s u false (fun s => retire s u gd (getG s u ga <<< (imm.toNat % 64)) 1))

/-- SHRI. -/
def execShri (u : ZsUnit) (gd ga : GReg) (imm : BitVec 14) (s : State) : Host.Outcome State Fault Refusal :=
  checked (imm.toNat < 64) (issue s u false (fun s => retire s u gd (getG s u ga >>> (imm.toNat % 64)) 1))

/-- SHRAI. -/
def execShrai (u : ZsUnit) (gd ga : GReg) (imm : BitVec 14) (s : State) : Host.Outcome State Fault Refusal :=
  checked (imm.toNat < 64)
    (issue s u false (fun s => retire s u gd ((getG s u ga).sshiftRight (imm.toNat % 64)) 1))

/-- SLTI. -/
def execSlti (u : ZsUnit) (gd ga : GReg) (imm : BitVec 14) (s : State) : Host.Outcome State Fault Refusal :=
  .next (issue s u false (fun s => retire s u gd (b2w ((getG s u ga).slt (imm14 imm))) 1))

/-- SLTIU: the immediate is sign-extended, then compared unsigned. -/
def execSltiu (u : ZsUnit) (gd ga : GReg) (imm : BitVec 14) (s : State) : Host.Outcome State Fault Refusal :=
  .next (issue s u false (fun s => retire s u gd (b2w ((getG s u ga).ult (imm14 imm))) 1))

/-- ALUL (Table 8.1). -/
def execAlul (u : ZsUnit) (gd ga : GReg) (func : BitVec 14) (imm : BitVec 32) (s : State) :
    Host.Outcome State Fault Refusal :=
  checked (alulFuncs.contains func.toNat)
    (issue s u false (fun s => retire s u gd (aluFn func.toNat (getG s u ga) (imm32 imm)) 2))

/-- LI. -/
def execLi (u : ZsUnit) (gd : GReg) (imm : BitVec 32) (s : State) : Host.Outcome State Fault Refusal :=
  .next (issue s u false (fun s => retire s u gd (imm32 imm) 2))

/-- LIH: the low word is kept, the high word is the immediate. -/
def execLih (u : ZsUnit) (gd ga : GReg) (imm : BitVec 32) (s : State) : Host.Outcome State Fault Refusal :=
  .next (issue s u false (fun s =>
    retire s u gd ((getG s u ga &&& 0xFFFFFFFF#64) ||| (zext imm <<< 32)) 2))

/-! ### Loads and stores (R213, R199, R356) -/

/-- Whether a range meets a range of a list. -/
def meets (l : List Span) (k n : Nat) : Bool := l.any (fun x => decide (x.lo < k + n) && decide (k < x.lo + x.len))

/-- Operations of a core in flight; a DMA that has completed and only waits to signal is not (R150). -/
def Core.inFlight (c : Core) : List ZtOp := c.dma.filter (fun o => !o.finished) ++ c.mx ++ c.vec

/-- A read of the range must wait for an earlier write in flight (R199). -/
def readWaits (c : Core) (k n : Nat) : Bool := c.inFlight.any (fun o => meets o.writes k n)
/-- A write of the range must wait for an earlier read or write in flight (R199). -/
def writeWaits (c : Core) (k n : Nat) : Bool := c.inFlight.any (fun o => meets o.writes k n || meets o.reads k n)

/-- Where a scalar access of a core goes: its own SRAM or its cluster's (R213); else the trap cause. -/
def scalarAddr (s : State) (n : CoreId) (ea : Word) (size : Nat) : Except Nat (Store × Nat) :=
  match locate s (some n.val) ea.toNat with
  | some (.core p, k) =>
    if p = n.val then (if ea.toNat % size = 0 then .ok (.core p, k) else .error 0x02) else .error 0x01
  | some (.cluster c, k) =>
    if c = n.val / 5 then (if ea.toNat % size = 0 then .ok (.cluster c, k) else .error 0x02) else .error 0x01
  | _ => .error 0x01

/-- Where a scalar access of a Puppeteer core goes: its 64 KiB data store below 0x1_0000, hub SRAM elsewhere;
the spec gives the stores and no addresses. (DESIGN CHOICE, log entry 12.) -/
def pupAddr (p : PupId) (ea : Word) : Nat :=
  if ea.toNat < 0x10000 then pupKey p + ea.toNat else hubKey + ea.toNat % 0x800000

/-- The loaded value of `size` bytes. -/
def loadValue (sx : Bool) (size : Nat) (bs : List Byte) : Word :=
  let v := BitVec.ofNat (8 * size) (ofBytes bs)
  if sx then sext v else zext v

/-- A load of `size` bytes. -/
def load (s : State) (u : ZsUnit) (gd ga : GReg) (imm : BitVec 14) (size : Nat) (sx : Bool) : State :=
  let ea := effAddr s u ga imm
  match u with
  | .pup p => issue s u false (fun s => retire s u gd (loadValue sx size (rdBytes s (pupAddr p ea) size)) 1)
  | .core n =>
    match scalarAddr s n ea size with
    | .error cause => issue s u false (fun s => trapCore s n (core s n).nextNo cause (core s n).pc)
    | .ok (st, k) =>
      issue s u (readWaits (core s n) k size) (fun s =>
        match badIn s k size with
        | some w => trapData s n (core s n).nextNo (core s n).pc st w
        | none => retire s u gd (loadValue sx size (rdBytes s k size)) 1)

/-- A store of `size` bytes. -/
def store (s : State) (u : ZsUnit) (gs ga : GReg) (imm : BitVec 14) (size : Nat) : State :=
  let ea := effAddr s u ga imm
  let bs := toBytes size (getG s u gs).toNat
  match u with
  | .pup p => issue s u false (fun s => advance (putBytes s (pupAddr p ea) bs) u 1)
  | .core n =>
    match scalarAddr s n ea size with
    | .error cause => issue s u false (fun s => trapCore s n (core s n).nextNo cause (core s n).pc)
    | .ok (st, k) =>
      issue s u (writeWaits (core s n) k size) (fun s =>
        match wrBytes s k bs with
        | (s', some w) => trapData s' n (core s n).nextNo (core s n).pc st w
        | (s', none) => advance s' u 1)

/-- LD8. -/
def execLd8 (u : ZsUnit) (gd ga : GReg) (imm : BitVec 14) (s : State) : Host.Outcome State Fault Refusal :=
  .next (load s u gd ga imm 1 true)
/-- LD8U. -/
def execLd8u (u : ZsUnit) (gd ga : GReg) (imm : BitVec 14) (s : State) : Host.Outcome State Fault Refusal :=
  .next (load s u gd ga imm 1 false)
/-- LD16. -/
def execLd16 (u : ZsUnit) (gd ga : GReg) (imm : BitVec 14) (s : State) : Host.Outcome State Fault Refusal :=
  .next (load s u gd ga imm 2 true)
/-- LD16U. -/
def execLd16u (u : ZsUnit) (gd ga : GReg) (imm : BitVec 14) (s : State) : Host.Outcome State Fault Refusal :=
  .next (load s u gd ga imm 2 false)
/-- LD32. -/
def execLd32 (u : ZsUnit) (gd ga : GReg) (imm : BitVec 14) (s : State) : Host.Outcome State Fault Refusal :=
  .next (load s u gd ga imm 4 true)
/-- LD32U. -/
def execLd32u (u : ZsUnit) (gd ga : GReg) (imm : BitVec 14) (s : State) : Host.Outcome State Fault Refusal :=
  .next (load s u gd ga imm 4 false)
/-- LD64. -/
def execLd64 (u : ZsUnit) (gd ga : GReg) (imm : BitVec 14) (s : State) : Host.Outcome State Fault Refusal :=
  .next (load s u gd ga imm 8 false)
/-- ST8. -/
def execSt8 (u : ZsUnit) (gs ga : GReg) (imm : BitVec 14) (s : State) : Host.Outcome State Fault Refusal :=
  .next (store s u gs ga imm 1)
/-- ST16. -/
def execSt16 (u : ZsUnit) (gs ga : GReg) (imm : BitVec 14) (s : State) : Host.Outcome State Fault Refusal :=
  .next (store s u gs ga imm 2)
/-- ST32. -/
def execSt32 (u : ZsUnit) (gs ga : GReg) (imm : BitVec 14) (s : State) : Host.Outcome State Fault Refusal :=
  .next (store s u gs ga imm 4)
/-- ST64. -/
def execSt64 (u : ZsUnit) (gs ga : GReg) (imm : BitVec 14) (s : State) : Host.Outcome State Fault Refusal :=
  .next (store s u gs ga imm 8)

/-! ### Control transfers (R214) -/

/-- The two empty issue cycles after a taken transfer, on a core. -/
def transferGap (s : State) (u : ZsUnit) : State :=
  match u with
  | .core n => chargeIssue s n 2
  | .pup _ => s

/-- A branch. -/
def branch (s : State) (u : ZsUnit) (cond : Word → Word → Bool) (ga gb : GReg) (off : BitVec 14) : State :=
  issue s u false (fun s =>
    if cond (getG s u ga) (getG s u gb)
    then transferGap (setPc s u (getPc s u + off.signExtend 32)) u
    else advance s u 1)

/-- BEQ. -/
def execBeq (u : ZsUnit) (ga gb : GReg) (off : BitVec 14) (s : State) : Host.Outcome State Fault Refusal :=
  .next (branch s u (fun a b => a == b) ga gb off)
/-- BNE. -/
def execBne (u : ZsUnit) (ga gb : GReg) (off : BitVec 14) (s : State) : Host.Outcome State Fault Refusal :=
  .next (branch s u (fun a b => a != b) ga gb off)
/-- BLT, signed. -/
def execBlt (u : ZsUnit) (ga gb : GReg) (off : BitVec 14) (s : State) : Host.Outcome State Fault Refusal :=
  .next (branch s u (fun a b => a.slt b) ga gb off)
/-- BGE, signed. -/
def execBge (u : ZsUnit) (ga gb : GReg) (off : BitVec 14) (s : State) : Host.Outcome State Fault Refusal :=
  .next (branch s u (fun a b => !a.slt b) ga gb off)
/-- BLTU. -/
def execBltu (u : ZsUnit) (ga gb : GReg) (off : BitVec 14) (s : State) : Host.Outcome State Fault Refusal :=
  .next (branch s u (fun a b => a.ult b) ga gb off)
/-- BGEU. -/
def execBgeu (u : ZsUnit) (ga gb : GReg) (off : BitVec 14) (s : State) : Host.Outcome State Fault Refusal :=
  .next (branch s u (fun a b => !a.ult b) ga gb off)

/-- JAL: g[gd] := PC + 2; PC := PC + sext(IMM32). -/
def execJal (u : ZsUnit) (gd : GReg) (imm : BitVec 32) (s : State) : Host.Outcome State Fault Refusal :=
  .next (issue s u false (fun s =>
    let pc := getPc s u
    transferGap (setPc (setG s u gd (zext (pc + 2))) u (pc + imm)) u))

/-- JALR: the target is read before gd is written, and must start an instruction. A Puppeteer core that traps issues
nothing more, until its watchdog finds it (Table 17.3, PUP_FAIL). (DESIGN CHOICE, log entry 74.) -/
def execJalr (u : ZsUnit) (gd ga : GReg) (s : State) : Host.Outcome State Fault Refusal :=
  .next (issue s u false (fun s =>
    let pc := getPc s u
    let t := getG s u ga
    let s := setG s u gd (zext (pc + 1))
    match u with
    | .core n =>
      if isStart (core s n).code t.toNat then transferGap (setPc s u (t.setWidth 32)) u
      else trapCore s n (core s n).nextNo 0x04 pc
    | .pup p =>
      if isStart (pup s p).code t.toNat then setPc s u (t.setWidth 32)
      else setPup s p { pup s p with trap := some pc }))

/-! ### State registers, time, end of step (R215–R217) -/

/-- The state registers of Table 8.3. -/
def stateReg (s : State) (n : CoreId) (func : Nat) : Word :=
  let c := core s n
  match func with
  | 0 => BitVec.ofNat 64 (getF s (CORE_STATUS n) CORE_STATUS_LOGICAL)
  | 1 => zext c.job
  | 2 => zext c.rank
  | 3 => zext c.entry
  | 4 => zext c.slot
  | 5 => c.token
  | 6 => c.step
  | _ => zext c.srPos

/-- MFS. -/
def execMfs (n : CoreId) (gd : GReg) (func : BitVec 9) (s : State) : Host.Outcome State Fault Refusal :=
  checked (func.toNat ≤ 7) (issue s (.core n) false (fun s => retire s (.core n) gd (stateReg s n func.toNat) 1))

/-- TIME.READ: nanoseconds to gd, fraction to gb, one instant; nothing else changes (R216). -/
def execTimeRead (u : ZsUnit) (gd gb : GReg) (s : State) : Host.Outcome State Fault Refusal :=
  checked (gd != gb || gd == 0)
    (issue s u false (fun s =>
      retire (setG s u gb (BitVec.ofNat 64 (s.ftu.ft % 65536))) u gd (now s) 1))

/-- STEP.END: nothing issues after it; the step ends when earlier operations have completed. -/
def execStepEnd (n : CoreId) (s : State) : Host.Outcome State Fault Refusal :=
  .next (issue s (.core n) false (fun s => advance (setCore s n { core s n with ended := true }) (.core n) 1))

/-- TRAP: stops the step with cause TRAP at its own index. -/
def execTrap (n : CoreId) (s : State) : Host.Outcome State Fault Refusal :=
  .next (issue s (.core n) false (fun s => trapCore s n (core s n).nextNo 0x07 (core s n).pc))

/-- NOP. -/
def execNop (u : ZsUnit) (s : State) : Host.Outcome State Fault Refusal :=
  .next (issue s u false (fun s => advance s u 1))

end Sys2Proof.Machine
end

