-- ==== Sys2Proof/Machine/Tensor.lean ====
section
/-! DEFINITION. The tensor descriptors of the matrix arrays and the vector engine: MMA, WLD, SWAP, VEC, CVT and
their completions (R130–R146, R219–R235). An operation's registers, ranges and run-time checks are settled at
issue; its effect on memory and flags comes with its completion. -/
namespace Sys2Proof.Machine

/-! ### Ranges -/

/-- Where an operand may lie (Table 5.1): own core SRAM; or that and the own cluster's SRAM. -/
def ownStore (n : CoreId) (clusterOk : Bool) (st : Store) : Bool :=
  match st with
  | .core p => p == n.val
  | .cluster c => clusterOk && c == n.val / 5
  | _ => false

/-- The range of `len` bytes at an address, when it lies in an allowed store. -/
def ownSpan (s : State) (n : CoreId) (clusterOk : Bool) (a len : Nat) : Option Span :=
  match locateSpan s (some n.val) a len with
  | some (st, k) => if ownStore n clusterOk st then some ⟨k, len⟩ else none
  | none => none

/-- The ranges of `rows` rows of `len` bytes, `stride` apart, when every one is allowed. -/
def ownRows (s : State) (n : CoreId) (clusterOk : Bool) (stride len : Nat) : Nat → Nat → Option (List Span)
  | _, 0 => some []
  | a, r + 1 =>
    match ownSpan s n clusterOk a len, ownRows s n clusterOk stride len (a + stride) r with
    | some x, some xs => some (x :: xs)
    | _, _ => none

/-- Key of row `r` of a list of ranges. -/
def rowKey (l : List Span) (r : Nat) : Nat := (l.getD r ⟨0, 0⟩).lo

/-- Whether some range of a list meets some range of another. -/
def meetAny (l m : List Span) : Bool := m.any (fun x => meets l x.lo x.len)

/-- Ranges that R200 tracks: own core SRAM and own cluster SRAM. -/
def tracked (n : CoreId) (l : List Span) : List Span :=
  l.filter (fun x =>
    (decide (coreKey n.val ≤ x.lo) && decide (x.lo < coreKey n.val + 0x800000))
      || (decide (cluKey (n.val / 5) ≤ x.lo) && decide (x.lo < cluKey (n.val / 5) + 0x2000000)))

/-- Whether an operation waits for operations in flight (R199). -/
def hazard (l : List ZtOp) (rd wr : List Span) : Bool :=
  l.any (fun o => meetAny o.writes rd || meetAny o.writes wr || meetAny o.reads wr)

/-- First failing code word in a list of ranges. -/
def badSpans (s : State) (l : List Span) : Option Nat := s.bad.find? (fun w => l.any (fun x => overlaps w x.lo x.len))

/-- Store that a core's key lies in. -/
def ownStoreOf (n : CoreId) (k : Nat) : Store :=
  if cluKey 0 ≤ k then .cluster (n.val / 5) else .core n.val

/-! ### Issue of a Z-T operation -/

/-- Entries that a unit's queue holds, the one the unit runs included (R181). -/
def queueRoom : Nat := 9

/-- Whether an operation has a given opcode. -/
def ZtOp.is (o : ZtOp) (op : Nat) : Bool := dNat o.d 0 8 == op

/-- The bank that will be selected once every SWAP in the queue has taken effect (R135, R225). -/
def Core.sel (c : Core) : Bool := (c.mx.filter (fun o => o.is 0x0E)).foldl (fun b _ => !b) c.bankSel

/-- The operation record of a descriptor at issue. `sr` is the position before the instruction counts itself, so that
the first SR instruction of a program has index 0. (DESIGN CHOICE, log entry 75.) -/
def mkOp (s : State) (n : CoreId) (d : BitVec 128) (r : List Word) (rd wr : List Span) : ZtOp :=
  let c := core s n
  { no := c.nextNo, pc := c.pc, d := d, r := r, sr := c.srPos, bank := c.sel, reads := rd, writes := wr,
    formed := false, finished := false }

/-- A unit's queue. -/
inductive Queue where
  | dma | mx | vec
deriving DecidableEq, Repr

/-- The queue of a core. -/
def Core.queue (c : Core) : Queue → List ZtOp
  | .dma => c.dma
  | .mx => c.mx
  | .vec => c.vec

/-- Put an operation in its queue, and move past the descriptor. -/
def push (s : State) (n : CoreId) (q : Queue) (o : ZtOp) (sr : Bool) : State :=
  let c := core s n
  let c := match q with
    | .dma => { c with dma := c.dma ++ [o] }
    | .mx => { c with mx := c.mx ++ [o] }
    | .vec => { c with vec := c.vec ++ [o] }
  setCore s n { c with nextNo := c.nextNo + 1, pc := c.pc + 4, srPos := if sr then c.srPos + 1 else c.srPos }

/-- Issue of a Z-T operation: its checks give a trap cause, or its ranges and whether it must wait. -/
def issueZt (s : State) (n : CoreId) (q : Queue) (d : BitVec 128) (sr : Bool)
    (prep : Except Nat (List Word × List Span × List Span × Bool)) : State :=
  match prep with
  | .error cause => issueCore s n false (fun s => trapCore s n (core s n).nextNo cause (core s n).pc)
  | .ok (r, rd, wr, wait) =>
    issueCore s n (wait || decide (queueRoom ≤ ((core s n).queue q).length))
      (fun s => push s n q (mkOp s n d r rd wr) sr)

/-! ### MMA -/

/-- Unscaled integer operands: INT32 output. -/
def mmaInt (d : BitVec 128) : Bool := isIntFmt (mmaAFmt d) && isIntFmt (mmaWFmt d) && !mmaIscale d

/-- Whether an MMA waits: its sources for earlier writes, its destination for earlier accesses other than the
MMAs that write it (R132, R199). -/
def mmaHazard (c : Core) (rd wr : List Span) : Bool :=
  c.inFlight.any (fun o =>
    meetAny o.writes rd || meetAny o.reads wr || (dNat o.d 0 8 != 0x06 && meetAny o.writes wr))

/-- Format and scales of a bank as an operation issued now will find it: what the last WLD in the queue that loads it
brings, else what it holds (R134, R225). -/
def Core.bankView (c : Core) (b : Bool) : Option (BitVec 4) × Bool :=
  match (c.mx.filter (fun o => o.is 0x0A && o.bank != b)).getLast? with
  | some o => (some (BitVec.ofNat 4 (wldFmt o.d)), wldScaleG o.d != 0)
  | none => let k := if b then c.bank1 else c.bank0; (k.fmt, k.scaled)

/-- Run-time checks of an MMA (R222, R223). -/
def mmaPrep (s : State) (n : CoreId) (d : BitVec 128) : Except Nat (List Word × List Span × List Span × Bool) :=
  let c := core s n
  let b := c.bankView c.sel
  let feed := (regRead c.g (mmaFeedG d)).toNat
  let dst := (regRead c.g (mmaDstG d)).toNat
  let asc := (regRead c.g (mmaAscaleG d)).toNat
  let size := feedSize (mmaClass (mmaAFmt d)) (fmtWidth (mmaAFmt d))
  if b.1 ≠ some (BitVec.ofNat 4 (mmaWFmt d)) ∨ (mmaInt d = true ∧ b.2 = true) ∨ feed % 64 ≠ 0 ∨ dst % 64 ≠ 0
      ∨ asc % 64 ≠ 0 ∨ mmaDstStride d % 64 ≠ 0 ∨ mmaDstStride d < 256 then .error 0x03
  else
    match ownSpan s n true feed (4 * size),
          ownRows s n true (mmaDstStride d) (4 * mmaCols d) dst (mmaRows d) with
    | some f, some w =>
      if mmaAscaleG d = 0 then .ok ([], tracked n [f], tracked n w, mmaHazard c [f] w)
      else match ownSpan s n true asc 512 with
        | some a => .ok ([], tracked n [f, a], tracked n w, mmaHazard c [f, a] w)
        | none => .error 0x01
    | _, _ => .error 0x01

/-- MMA (R222): issue. -/
def execMma (n : CoreId) (d : BitVec 128) (s : State) : Host.Outcome State Fault Refusal :=
  checked (descOk 0x06 d) (issueZt s n .mx d false (mmaPrep s n d))

/-- The `w`-bit element `i` of packed elements that start at a key. -/
def elemAt (s : State) (w k i : Nat) : Nat :=
  (ofBytes (rdBytes s (k + w * i / 8) ((w * i % 8 + w + 7) / 8)) >>> (w * i % 8)) % 2 ^ w

/-- Key range of element `i`. -/
def elemSpan (w k i : Nat) : Span := ⟨k + w * i / 8, (w * i % 8 + w + 7) / 8⟩

/-- Feed region of row r's array, and the element index within it (R136). -/
def feedPos (d : BitVec 128) (feed r k : Nat) : Nat × Nat :=
  let cls := mmaClass (mmaAFmt d)
  (feed + r / 64 * feedSize cls (fmtWidth (mmaAFmt d)), feedIndex cls (r % 64) k)

/-- Activation A[r][k] as the array takes it (R136, R140). -/
def actAt (s : State) (d : BitVec 128) (b : Bank) (feed r k : Nat) : Num × Fl :=
  if k < b.kRows then
    let (base, i) := feedPos d feed r k
    decodeNum (mmaAFmt d) (elemAt s (fmtWidth (mmaAFmt d)) base i)
  else (.fin false 0 0 false, .none)

/-- add_fp32 of R142: code and flags. -/
def addFp32 (run : Option Nat) (x : Num) (f : Fl) : Nat × Fl :=
  match run with
  | none => let (c, g) := encodeNum 0 .rne false 0 x; (c, f.or g)
  | some r =>
    let (v, f1) := decodeNum 0 r
    let (y, f2) := addNum v x
    let (c, f3) := encodeNum 0 .rne false 0 y
    (c, ((f.or f1).or f2).or f3)

/-- Half class: each product on its own, ascending k. -/
def accHalf : List (Num × Num) → Option Nat → Fl → Nat × Fl
  | [], run, f => (run.getD 0, f)
  | (a, w) :: xs, run, f =>
    let (p, f1) := mulNum a w
    let (c, f2) := addFp32 run p (f.or f1)
    accHalf xs (some c) f2

/-- Unscaled integers: each product wrapped to INT32 (R76). -/
def accInt : List (Num × Num) → Int → Fl → Nat × Fl
  | [], run, f => (unsigned 32 run, f)
  | (a, w) :: xs, run, f =>
    let t := run + intOf a * intOf w
    let r := signed 32 (unsigned 32 t)
    accInt xs r (if r = t then f else { f with overflow := true })
where
  /-- The integer that a decoded integer code stands for. -/
  intOf (a : Num) : Int :=
    match a with
    | .fin neg m e _ => sgn neg * (shl m e : Int)
    | _ => 0

/-- Exact sum of a block's products. The terms fold in ascending k, so a NaN before both infinities raises no INVALID.
(DESIGN CHOICE, log entry 75.) -/
def blockSum : List (Num × Num) → Option Num → Fl → Num × Fl
  | [], acc, f => (acc.getD (.fin false 0 0 false), f)
  | (a, w) :: xs, acc, f =>
    let (p, f1) := mulNum a w
    match acc with
    | none => blockSum xs (some p) (f.or f1)
    | some v =>
      let (y, f2) := addNum v p
      blockSum xs (some y) ((f.or f1).or f2)

/-- One K block of 32 (R76): exact sum, exact scaling, one addition. Scale 0xFF makes the products NaN (R75). -/
def accBlock (xs : List (Num × Num)) (sa sw : Byte) (run : Option Nat) (f : Fl) : Nat × Fl :=
  if sa = 0xFF#8 ∨ sw = 0xFF#8 then addFp32 run .nan (f.or { invalid := true })
  else
    let (v, f1) := blockSum xs none f
    addFp32 run (scaleNum v ((sa.toNat : Int) - 127 + ((sw.toNat : Int) - 127))) f1

/-- One element of an MMA (R142), from the pairs A[r][k], W[k][n] and the element's old contents. -/
def mmaElem (d : BitVec 128) (xs : List (Num × Num)) (sa sw : Nat → Byte) (old : Option Nat) (f : Fl) : Nat × Fl :=
  if mmaClass (mmaAFmt d) = 2 then accHalf xs old f
  else if mmaInt d then accInt xs (match old with | some c => signed 32 c | none => 0) f
  else
    let (c, f1) := accBlock (xs.take 32) (sa 0) (sw 0) old f
    accBlock (xs.drop 32) (sa 1) (sw 1) (some c) f1

/-- Column n of the weight tile, with K-masking (R140). -/
def weightCol (b : Bank) (fmt n : Nat) : List Num :=
  (List.range 64).map (fun k =>
    if k < b.kRows then (decodeNum fmt (b.w.getD (64 * k + n) 0)).1 else .fin false 0 0 false)

/-- The elements that an MMA writes: row r, column n, code, flags. -/
def mmaRow (s : State) (d : BitVec 128) (b : Bank) (o : ZtOp) (cols : List (List Num)) (r : Nat) : List Nat × Fl :=
  let feed := rowKey o.reads 0
  let asc := rowKey o.reads 1
  let row := (List.range 64).map (fun k => actAt s d b feed r k)
  let f0 := row.foldl (fun f x => f.or x.2) Fl.none
  let sa := fun i => if mmaAscaleG d = 0 then 0x7F#8 else rdByte s (asc + 2 * r + i)
  (List.range (mmaCols d)).foldl (fun (acc : List Nat × Fl) n =>
      let sw := fun i => if b.scaled then b.scale.getD (2 * n + i) 0 else 0x7F#8
      let old := if mmaAcc d then some (ofBytes (rdBytes s (rowKey o.writes r + 4 * n) 4)) else none
      let (c, f) := mmaElem d ((row.map Prod.fst).zip (cols.getD n [])) sa sw old f0
      (acc.1 ++ [c], acc.2.or f)) ([], Fl.none)

/-- Flags of the rows of each array. -/
def Core.raiseRow (c : Core) (r : Nat) (f : Fl) (pc : BitVec 32) (inexact : Bool) : Core :=
  c.raise (r / 64) { f with inexact := inexact } pc

/-- Write a row of an MMA and note its flags; the failing word of a partial write, if any. -/
def mmaRows' (s : State) (d : BitVec 128) (b : Bank) (o : ZtOp) (cols : List (List Num)) :
    Nat → List (List Nat × Fl)
  | 0 => []
  | k + 1 => mmaRows' s d b o cols k ++ [mmaRow s d b o cols k]

/-- The words of a row as bytes. -/
def codesToBytes (n : Nat) (l : List Nat) : List Byte := l.flatMap (toBytes n)

/-- Write rows of bytes at row keys; the first failing word covered in part. -/
def writeRows (l : List Span) : Nat → List (List Byte) → State → Option Nat → State × Option Nat
  | _, [], s, w => (s, w)
  | r, bs :: bss, s, w =>
    let (s', w') := wrBytes s (rowKey l r) bs
    writeRows l (r + 1) bss s' (w <|> w')

/-- Flags of one array: those of its rows. -/
def arrayFlags (j : Nat) (l : List (List Nat × Fl)) : Fl :=
  ((l.drop (64 * j)).take 64).foldl (fun f x => f.or x.2) Fl.none

/-- A core's flags after an MMA: each array raises the flags of its own rows (R85). -/
def Core.raiseArrays (c : Core) (l : List (List Nat × Fl)) (pc : BitVec 32) : Core :=
  (List.range 4).foldl (fun c j => c.raise j (arrayFlags j l) pc) c

/-- Key ranges that an MMA's feed reads: rows that are fed, K rows of the bank (R139, R140). -/
def feedReads (d : BitVec 128) (b : Bank) (feed : Nat) : List Span :=
  (List.range (mmaRows d)).flatMap (fun r => (List.range b.kRows).map (fun k =>
    let (base, i) := feedPos d feed r k
    elemSpan (fmtWidth (mmaAFmt d)) base i))

/-- Every range that an MMA reads. -/
def mmaReads (d : BitVec 128) (b : Bank) (o : ZtOp) : List Span :=
  feedReads d b (rowKey o.reads 0)
    ++ (if mmaAscaleG d = 0 then [] else [⟨rowKey o.reads 1, 2 * mmaRows d⟩])
    ++ (if mmaAcc d then o.writes else [])

/-- Effect of a finished MMA (R142). -/
def mmaFinish (s : State) (n : CoreId) (o : ZtOp) : State :=
  let d := o.d
  let b := if o.bank then (core s n).bank1 else (core s n).bank0
  match (if s.bad.isEmpty then none else badSpans s (mmaReads d b o)) with
  | some w => trapData s n o.no o.pc (ownStoreOf n w) w
  | none =>
    let cols := (List.range (mmaCols d)).map (weightCol b (mmaWFmt d))
    let rows := mmaRows' s d b o cols (mmaRows d)
    let (s', w) := writeRows o.writes 0 (rows.map (fun x => codesToBytes 4 x.1)) s none
    let s' := setCore s' n ((core s' n).raiseArrays rows o.pc)
    match w with
    | some w => trapData s' n o.no o.pc (ownStoreOf n w) w
    | none => s'

/-- The range lies in cluster SRAM, which the cluster switch can interrupt (R138). -/
def Span.inCluster (x : Span) : Bool := decide (cluKey 0 ≤ x.lo)

/-- An interruption of an MMA's feed or drain passes 4 cycles (R138): it counts, and stretches the MMA. One whose feed
region or destination lies in core SRAM is never interrupted. -/
def interrupt (s : State) (n : CoreId) (o : ZtOp) (h : Stretch) : State :=
  match h with
  | .feed =>
    if (o.reads.take 1).any Span.inCluster then
      setF (bump (setCore s n { core s n with feedHeld := true }) (CORE_STALL n) CORE_STALL_FEED 1)
        (CORE_STATUS n) CORE_STATUS_STALL_EVENT 1
    else s
  | .drain =>
    if o.writes.any Span.inCluster then
      setF (bump (setCore s n { core s n with drainHeld := true }) (CORE_STALL n) CORE_STALL_DRAIN 1)
        (CORE_STATUS n) CORE_STATUS_STALL_EVENT 1
    else s

/-- The oldest operation of the matrix queue with an opcode, when no SWAP that waits stands before it (R225). -/
def mxNext (c : Core) (op : Nat) : Option ZtOp := (c.mx.takeWhile (fun o => !o.is 0x0E)).find? (fun o => o.is op)

/-- MMA_COMPLETION: the oldest MMA in flight finishes (R132, R142), or is interrupted before it does (R138). -/
def execMmaCompletion (n : CoreId) (held : Option Stretch) (s : State) : Host.Outcome State Fault Refusal :=
  .next (ifRunning s (
    match mxNext (core s n) 0x06 with
    | none => s
    | some o =>
      match held with
      | some h => interrupt s n o h
      | none =>
        evalIdle (mmaFinish (setCore s n { core s n with mx := (core s n).mx.filter (fun x => x.no != o.no),
                                                         feedHeld := false, drainHeld := false }) n o) n))

/-! ### WLD and SWAP -/

/-- Run-time checks of a WLD (R224); it waits for the MMAs that read its target bank (R134). -/
def wldPrep (s : State) (n : CoreId) (d : BitVec 128) : Except Nat (List Word × List Span × List Span × Bool) :=
  let c := core s n
  let src := (regRead c.g (wldSrcG d)).toNat
  let sc := (regRead c.g (wldScaleG d)).toNat
  let rb := rowBytes (fmtWidth (wldFmt d)) 64
  if src % 64 ≠ 0 ∨ sc % 64 ≠ 0 ∨ wldStride d % 32 ≠ 0 ∨ wldStride d < rb then .error 0x03
  else
    let target := !c.sel
    let wait := c.mx.any (fun o => o.is 0x06 && o.bank == target)
    match ownRows s n false (wldStride d) rb src (wldRows d) with
    | none => .error 0x01
    | some rows =>
      if wldScaleG d = 0 then .ok ([], rows, [], wait || hazard c.inFlight rows [])
      else match ownSpan s n false sc 128 with
        | none => .error 0x01
        | some a => .ok ([], rows ++ [a], [], wait || hazard c.inFlight (rows ++ [a]) [])

/-- WLD (R224): issue. -/
def execWld (n : CoreId) (d : BitVec 128) (s : State) : Host.Outcome State Fault Refusal :=
  checked (descOk 0x0A d) (issueZt s n .mx d false (wldPrep s n d))

/-- The codes of a row of 64 weights. -/
def rowCodes (s : State) (w k : Nat) : List Nat :=
  let x := ofBytes (rdBytes s k (rowBytes w 64))
  (List.range 64).map (fun n => unpackAt w x n)

/-- The bank that a WLD leaves (R134, R140, R224). -/
def wldBank (s : State) (o : ZtOp) : Bank :=
  let d := o.d
  let w := fmtWidth (wldFmt d)
  { fmt := some (BitVec.ofNat 4 (wldFmt d)), scaled := wldScaleG d != 0, kRows := wldRows d,
    w := (List.range (wldRows d)).flatMap (fun k => rowCodes s w (rowKey o.reads k)),
    scale := if wldScaleG d = 0 then [] else rdBytes s (rowKey o.reads (wldRows d)) 128 }

/-- SWAPs with no WLD before them take effect, in queue order (R135, R225). -/
def runSwaps : List ZtOp → List ZtOp × Bool
  | [] => ([], false)
  | o :: os =>
    if o.is 0x0A then (o :: os, false)
    else
      let (r, b) := runSwaps os
      if o.is 0x0E then (r, !b) else (o :: r, b)

/-- The matrix queue of a core goes on. -/
def settleMx (c : Core) : Core :=
  { c with mx := (runSwaps c.mx).1, bankSel := c.bankSel != (runSwaps c.mx).2 }

/-- WLD_COMPLETION: the oldest WLD loads the bank that was not selected at its issue, and a SWAP that waited for it takes
effect. -/
def execWldCompletion (n : CoreId) (s : State) : Host.Outcome State Fault Refusal :=
  .next (ifRunning s (
    match mxNext (core s n) 0x0A with
    | none => s
    | some o =>
      let c := settleMx { core s n with mx := (core s n).mx.filter (fun x => x.no != o.no) }
      match badSpans s o.reads with
      | some w => trapData (setCore s n c) n o.no o.pc (.core n.val) w
      | none =>
        let b := wldBank s o
        evalIdle (setCore s n (if o.bank then { c with bank0 := b } else { c with bank1 := b })) n))

/-- SWAP (R135, R225): it enters the queue it shares with MMA and WLD, and inverts the bank select at once when no WLD
stands before it. -/
def execSwap (n : CoreId) (s : State) : Host.Outcome State Fault Refusal :=
  .next (issueCore s n (decide (queueRoom ≤ (core s n).mx.length)) (fun s =>
    let s := push s n .mx (mkOp s n 0x0E [] [] []) false
    setCore s n (settleMx (core s n))))

/-! ### VEC -/

/-- Rounding mode of a descriptor's RM field (R62). -/
def rmode (rm : Nat) : RMode :=
  match rm with
  | 0 => .rne
  | 1 => .rz
  | _ => .sr

/-- u for element `i` (R64): Philox for SR, the entropy source for SRH (a free value). -/
def roundU (rm : Nat) (seed : Word) (sr : BitVec 32) (free i : Nat) : BitVec 32 :=
  match rm with
  | 2 => philox seed sr (BitVec.ofNat 32 i)
  | 3 => (Config.freeWord (free + i)).setWidth 32
  | _ => 0

/-- INT32 wrap with OVERFLOW (R229). -/
def wrap32 (x : Int) : Nat × Fl :=
  (unsigned 32 x, if signed 32 (unsigned 32 x) = x then Fl.none else { overflow := true })

/-- INT32 element operations. -/
def vecInt (op pred a b x : Nat) : Nat × Fl :=
  let ia := signed 32 a
  let ib := signed 32 b
  match op with
  | 0x00 => wrap32 (ia + ib)
  | 0x01 => wrap32 (ia - ib)
  | 0x02 => wrap32 (ia * ib)
  | 0x03 => wrap32 (ia * ib + signed 32 x)
  | 0x0A => (if ia < ib then b else a, Fl.none)
  | 0x0B => (if ib < ia then b else a, Fl.none)
  | 0x0C =>
    let t := match pred with
      | 0 => ia == ib
      | 1 => ia != ib
      | 2 => decide (ia < ib)
      | 3 => decide (ia ≤ ib)
      | 4 => decide (ib < ia)
      | _ => decide (ib ≤ ia)
    (if t then 2 ^ 32 - 1 else 0, Fl.none)
  | 0x0D => (if x ≠ 0 then a else b, Fl.none)
  | 0x0E => wrap32 (if ia < 0 then -ia else ia)
  | 0x0F => wrap32 (-ia)
  | 0x10 => ((BitVec.ofNat 32 a &&& BitVec.ofNat 32 b).toNat, Fl.none)
  | 0x11 => ((BitVec.ofNat 32 a ||| BitVec.ofNat 32 b).toNat, Fl.none)
  | 0x12 => ((BitVec.ofNat 32 a ^^^ BitVec.ofNat 32 b).toNat, Fl.none)
  | 0x13 => ((BitVec.ofNat 32 a <<< (b % 32)).toNat, Fl.none)
  | 0x14 => ((BitVec.ofNat 32 a >>> (b % 32)).toNat, Fl.none)
  | 0x15 => (((BitVec.ofNat 32 a).sshiftRight (b % 32)).toNat, Fl.none)
  | _ => (0, Fl.none)

/-- The exact result of a floating-point operation, before rounding. -/
def vecExact (op : Nat) (a b x : Num) : Num × Fl :=
  match op with
  | 0x00 => addNum a b
  | 0x01 => addNum a (negNum b)
  | 0x02 => mulNum a b
  | 0x03 => let (p, f) := mulNum a b; let (y, g) := addNum p x; (y, f.or g)
  | 0x04 => divNum a b
  | 0x05 => sqrtNum a
  | 0x06 => exp2Num a
  | 0x07 => log2Num a
  | 0x08 => rcpNum a
  | 0x09 => rsqrtNum a
  | 0x0A => (maxNum a b, Fl.none)
  | 0x0B => (minNum a b, Fl.none)
  | 0x0E => ((match a with
      | .fin _ m e st => .fin false m e st
      | .inf _ => .inf false
      | .nan => .nan), Fl.none)
  | _ => (negNum a, Fl.none)

/-- Floating-point element operations on codes (R229–R231). -/
def vecFp (op fmt : Nat) (mode : RMode) (u : BitVec 32) (pred a b x : Nat) : Nat × Fl :=
  let (va, fa) := decodeNum fmt a
  let (vb, fb) := decodeNum fmt b
  let (vx, fx) := decodeNum fmt x
  let two := vecHasB op
  let f := if two then fa.or fb else fa
  let f := if op = 3 then f.or fx else f
  if op = 0x0C then (if predNum pred va vb then 2 ^ fmtWidth fmt - 1 else 0, f)
  else if op = 0x0D then ((encodeNum fmt .rne false 0 (if x ≠ 0 then va else vb)).1, f)
  else
    let (v, g) := vecExact op va vb vx
    let (c, h) := encodeNum fmt mode false u v
    (c, (f.or g).or h)

/-- One element of a VEC. -/
def vecElem (op fmt : Nat) (mode : RMode) (u : BitVec 32) (pred a b x : Nat) : Nat × Fl :=
  if fmt = 8 then vecInt op pred a b x else vecFp op fmt mode u pred a b x

/-- One level of the tree of R145. -/
def sumPairs (fmt : Nat) : List Nat → List Nat × Fl
  | a :: b :: xs =>
    let (c, f) := vecElem 0 fmt .rne 0 0 a b 0
    let (cs, g) := sumPairs fmt xs
    (c :: cs, f.or g)
  | xs => (xs, Fl.none)

/-- Levels of the tree (structural in the level count). -/
def sumTree (fmt : Nat) : Nat → List Nat → Fl → Nat × Fl
  | 0, xs, f => (xs.headD 0, f)
  | k + 1, xs, f => let (ys, g) := sumPairs fmt xs; sumTree fmt k ys (f.or g)

/-- A code read and written back: canonical NaN, FP32 flush. -/
def settle (fmt c : Nat) : Nat × Fl :=
  if fmt = 8 then (c, Fl.none)
  else
    let (v, f) := decodeNum fmt c
    let (r, g) := encodeNum fmt .rne false 0 v
    (r, f.or g)

/-- RMAX and RMIN of a row. -/
def rowFold (op fmt : Nat) : List Nat → Nat → Fl → Nat × Fl
  | [], acc, f => (acc, f)
  | c :: cs, acc, f => let (r, g) := vecElem op fmt .rne 0 0 acc c 0; rowFold op fmt cs r (f.or g)

/-- RSUM, RMAX, RMIN of a row (R145, R229). -/
def rowReduce (op fmt : Nat) (cs : List Nat) : Nat × Fl :=
  match op with
  | 0x16 =>
    match cs with
    | [c] => settle fmt c
    | _ => sumTree fmt (Nat.log2 (cs.length - 1) + 1) cs Fl.none
  | _ =>
    match cs with
    | [] => (0, Fl.none)
    | c :: cs =>
      let (r, f) := settle fmt c
      rowFold (if op = 0x17 then 0x0A else 0x0B) fmt cs r f

/-- Width of a VEC's element in bytes. -/
def vecW (d : BitVec 128) : Nat := fmtWidth (vecFmt d) / 8
/-- Whether a VEC is a row reduction. -/
def vecIsRow (d : BitVec 128) : Bool := 22 ≤ vecOp d
/-- Whether a VEC reads a B tensor. -/
def vecBTensor (d : BitVec 128) : Bool := vecHasB (vecOp d) && !vecBScalar d

/-- Run-time checks of a VEC (R228). -/
def vecPrep (s : State) (n : CoreId) (d : BitVec 128) : Except Nat (List Word × List Span × List Span × Bool) :=
  let c := core s n
  let w := vecW d
  let a := (regRead c.g (vecAG d)).toNat
  let b := regRead c.g (vecBG d)
  let x := (regRead c.g (vecCG d)).toNat
  let t := (regRead c.g (vecDstG d)).toNat
  let rb := vecCols d * w
  if vecStride d < rb ∨ (1 < vecRows d ∧ vecStride d % w ≠ 0) ∨ a % w ≠ 0 ∨ t % w ≠ 0 ∨ (vecBTensor d = true ∧ b.toNat % w ≠ 0)
      ∨ (vecHasC (vecOp d) = true ∧ x % w ≠ 0) then .error 0x03
  else
    let rows := ownRows s n false (vecStride d) rb
    let ra := rows a (vecRows d)
    let rB := if vecBTensor d then rows b.toNat (vecRows d) else some []
    let rC := if vecHasC (vecOp d) then rows x (vecRows d) else some []
    let rD := if vecIsRow d then ownRows s n false w w t (vecRows d) else rows t (vecRows d)
    match ra, rB, rC, rD with
    | some ra, some rB, some rC, some rD =>
      .ok ([b], ra ++ rB ++ rC, rD, hazard c.inFlight (ra ++ rB ++ rC) rD)
    | _, _, _, _ => .error 0x01

/-- VEC (R226–R228): issue. -/
def execVec (n : CoreId) (d : BitVec 128) (s : State) : Host.Outcome State Fault Refusal :=
  checked (descOk 0x12 d) (issueZt s n .vec d (vecRm d == 2) (vecPrep s n d))

/-- Seed of the image that a core runs. -/
def seedOf (s : State) (n : CoreId) : Word :=
  match job s (core s n).job.toNat with
  | some j => match j.image with | some i => i.seed | none => 0
  | none => 0

/-- One element of a VEC, read and written. -/
def vecStep (seed : Word) (o : ZtOp) (acc : State × Fl × Option Nat) (i : Nat) : State × Fl × Option Nat :=
  let (s, f, w) := acc
  let d := o.d
  let n := vecW d
  let r := i / vecCols d
  let c := i % vecCols d
  let code := fun j => ofBytes (rdBytes s (rowKey o.reads (j * vecRows d + r) + c * n) n)
  let a := code 0
  let b := if vecBTensor d then code 1 else (o.r.headD 0).toNat % 2 ^ (8 * n)
  let x := if vecHasC (vecOp d) then code (if vecBTensor d then 2 else 1) else 0
  let u := roundU (vecRm d) seed o.sr s.free i
  let (v, g) := vecElem (vecOp d) (vecFmt d) (rmode (vecRm d)) u (vecPred d) a b x
  let (s', w') := wrBytes s (rowKey o.writes r + c * n) (toBytes n v)
  (s', f.or g, w <|> w')

/-- One row reduction, read and written. -/
def vecRowStep (o : ZtOp) (acc : State × Fl × Option Nat) (r : Nat) : State × Fl × Option Nat :=
  let (s, f, w) := acc
  let d := o.d
  let n := vecW d
  let cs := (List.range (vecCols d)).map (fun c => ofBytes (rdBytes s (rowKey o.reads r + c * n) n))
  let (v, g) := rowReduce (vecOp d) (vecFmt d) cs
  let (s', w') := wrBytes s (rowKey o.writes r) (toBytes n v)
  (s', f.or g, w <|> w')

/-- End of a vector operation: flags, then a trap for a word written in part (R198). -/
def vecEnd (n : CoreId) (o : ZtOp) (srh : Bool) (count : Nat) (x : State × Fl × Option Nat) : State :=
  let (s, f, w) := x
  let s := setCore s n ((core s n).raise 4 f o.pc)
  let s := if srh then { s with free := s.free + count } else s
  match w with
  | some w => trapData s n o.no o.pc (.core n.val) w
  | none => s

/-- Effect of a finished VEC (R228). -/
def vecFinish (s : State) (n : CoreId) (o : ZtOp) : State :=
  match badSpans s o.reads with
  | some w => trapData s n o.no o.pc (.core n.val) w
  | none =>
    let d := o.d
    let k := vecRows d * vecCols d
    if vecIsRow d then vecEnd n o false 0 ((List.range (vecRows d)).foldl (vecRowStep o) (s, Fl.none, none))
    else vecEnd n o (vecRm d == 3) k ((List.range k).foldl (vecStep (seedOf s n) o) (s, Fl.none, none))

/-- The oldest operation of the vector engine finishes, when it has the opcode. -/
def vecPop (s : State) (n : CoreId) (op : Nat) (k : State → ZtOp → State) : State :=
  match (core s n).vec with
  | [] => s
  | o :: os => if o.is op then k (setCore s n { core s n with vec := os }) o else s

/-- VEC_COMPLETION. -/
def execVecCompletion (n : CoreId) (s : State) : Host.Outcome State Fault Refusal :=
  .next (ifRunning s (evalIdle (vecPop s n 0x12 (fun s o => vecFinish s n o)) n))

/-! ### CVT -/

/-- Alignment of an element of a format: a packed format is aligned to a byte. -/
def fmtAlign (fmt : Nat) : Nat := max 1 (fmtWidth fmt / 8)

/-- Run-time checks of a CVT (R234). -/
def cvtPrep (s : State) (n : CoreId) (d : BitVec 128) : Except Nat (List Word × List Span × List Span × Bool) :=
  let c := core s n
  let src := (regRead c.g (cvtSrcG d)).toNat
  let dst := (regRead c.g (cvtDstG d)).toNat
  let sc := (regRead c.g (cvtScaleG d)).toNat
  let rs := rowBytes (fmtWidth (cvtSrcFmt d)) (cvtCols d)
  let rd := rowBytes (fmtWidth (cvtDstFmt d)) (cvtCols d)
  if cvtSrcStride d < rs ∨ cvtDstStride d < rd
      ∨ (1 < cvtRows d ∧ (cvtSrcStride d % fmtAlign (cvtSrcFmt d) ≠ 0 ∨ cvtDstStride d % fmtAlign (cvtDstFmt d) ≠ 0)) ∨ src % fmtAlign (cvtSrcFmt d) ≠ 0 ∨ dst % fmtAlign (cvtDstFmt d) ≠ 0 then
    .error 0x03
  else
    let nb := cvtCols d / 32
    match ownRows s n false (cvtSrcStride d) rs src (cvtRows d), ownRows s n false (cvtDstStride d) rd dst (cvtRows d),
          (if cvtMx d then ownRows s n false nb nb sc (cvtRows d) else some []) with
    | some x, some y, some z => .ok ([], x, y ++ z, hazard c.inFlight x (y ++ z))
    | _, _, _ => .error 0x01

/-- CVT (R233, R234): issue. -/
def execCvt (n : CoreId) (d : BitVec 128) (s : State) : Host.Outcome State Fault Refusal :=
  checked (descOk 0x16 d) (issueZt s n .vec d (cvtRm d == 2) (cvtPrep s n d))

/-- The codes and scales of a converted row. -/
def cvtRow (d : BitVec 128) (u : Nat → BitVec 32) (r : Nat) (codes : List Nat) : List Nat × List Byte × Fl :=
  let mode := rmode (cvtRm d)
  let base := r * cvtCols d
  if cvtMx d then
    (List.range (cvtCols d / 32)).foldl (fun (acc : List Nat × List Byte × Fl) j =>
      let vs := ((codes.drop (32 * j)).take 32).map (decodeNum (cvtSrcFmt d))
      let f0 := vs.foldl (fun f x => f.or x.2) Fl.none
      let us := (List.range 32).map (fun c => u (base + 32 * j + c))
      let (cs, x, f) := mxBlock (cvtDstFmt d) mode (vs.map Prod.fst) us
      (acc.1 ++ cs, acc.2.1 ++ [BitVec.ofNat 8 x], (acc.2.2.or f0).or f)) ([], [], Fl.none)
  else
    (List.range (cvtCols d)).foldl (fun (acc : List Nat × List Byte × Fl) c =>
      let (v, f) := convert (cvtSrcFmt d) (cvtDstFmt d) mode (cvtSat d) (u (base + c)) (codes.getD c 0)
      (acc.1 ++ [v], [], acc.2.2.or f)) ([], [], Fl.none)

/-- Blocks of 32 elements and their scales, each block before its scale and both before the next (R234; structural in the
scales). -/
def mxPut (wd : Nat) : State → Nat → Nat → List Nat → List Byte → State × Option Nat
  | s, _, _, _, [] => (s, none)
  | s, k, sk, cs, x :: xs =>
    let (s1, w1) := wrBytes s k (toBytes (4 * wd) (packCodes wd (cs.take 32)))
    let (s2, w2) := wrBytes s1 sk [x]
    let (s3, w3) := mxPut wd s2 (k + 4 * wd) (sk + 1) (cs.drop 32) xs
    (s3, w1 <|> w2 <|> w3)

/-- One row of a CVT: read whole, then written, with MX scaling block by block. -/
def cvtStep (seed : Word) (o : ZtOp) (acc : State × Fl × Option Nat) (r : Nat) : State × Fl × Option Nat :=
  let (s, f, w) := acc
  let d := o.d
  let ws := fmtWidth (cvtSrcFmt d)
  let wd := fmtWidth (cvtDstFmt d)
  let x := ofBytes (rdBytes s (rowKey o.reads r) (rowBytes ws (cvtCols d)))
  let codes := (List.range (cvtCols d)).map (fun c => unpackAt ws x c)
  let (cs, scs, g) := cvtRow d (fun i => roundU (cvtRm d) seed o.sr s.free i) r codes
  let (s', w') := if cvtMx d then mxPut wd s (rowKey o.writes r) (rowKey o.writes (cvtRows d + r)) cs scs
    else wrBytes s (rowKey o.writes r) (toBytes (rowBytes wd (cvtCols d)) (packCodes wd cs))
  (s', f.or g, w <|> w')

/-- Effect of a finished CVT (R234). -/
def cvtFinish (s : State) (n : CoreId) (o : ZtOp) : State :=
  match badSpans s o.reads with
  | some w => trapData s n o.no o.pc (.core n.val) w
  | none =>
    let d := o.d
    vecEnd n o (cvtRm d == 3) (cvtRows d * cvtCols d)
      ((List.range (cvtRows d)).foldl (cvtStep (seedOf s n) o) (s, Fl.none, none))

/-- CVT_COMPLETION. -/
def execCvtCompletion (n : CoreId) (s : State) : Host.Outcome State Fault Refusal :=
  .next (ifRunning s (evalIdle (vecPop s n 0x16 (fun s o => cvtFinish s n o)) n))

end Sys2Proof.Machine
end

