-- ==== Sys2Proof/Machine/Sync.lean ====
section
/-! DEFINITION. Synchronisation: the SYNC instruction, releases and waits (R151–R155, R201, R236–R238), and the
arrival of a token in a slot's queue (R166–R169). -/
namespace Sys2Proof.Machine

/-! ### Arrivals in a slot's queue -/

/-- Storage key of entry `t` of a slot's queue, plus an offset. -/
def queueKey (s : State) (k t off : Nat) : Nat :=
  bits (slotWord s k 3) 47 0 + t % max 1 (bits (slotWord s k 3) 55 48) * bits (slotWord s k 4) 55 32 + off

/-- The valid slot whose ARRIVE_SYNC is an object. -/
def slotOfArrive (s : State) (o : Nat) : Option Nat :=
  (s.slots.map Prod.fst).find? (fun k => slotValid s k && bits (slotWord s k 4) 15 0 == o)

/-- The 64-byte header of token `t` (Table 6.2): token, FT, request tag, the activation bytes behind it, zeros. -/
def tokenHeader (s : State) (q : SlotQ) : List Byte :=
  toBytes 8 q.arrived ++ toBytes 8 (now s).toNat ++ toBytes 8 q.reqTag.toNat ++ toBytes 4 (q.fill - 64)
    ++ List.replicate 36 0

/-- A STAGE slip of a slot: its token was handed off late (R169). -/
def stageSlip (s : State) (k t planned : Nat) : State :=
  let q := slotQueue s k
  slip (setSlotQ s k { q with slips := q.slips + 1, late := q.late ++ [t] }) 5 planned ((now s).toNat - planned)

/-- A token has been written whole into a slot's queue: the arrival counts, the first slot's header is written
(R166), and a late hand-off counts a STAGE slip (R169). -/
def tokenArrives (s : State) (k : Nat) : State :=
  let q := slotQueue s k
  let t := q.arrived
  let s := setSlotQ s k { q with arrived := t + 1, fill := 0 }
  let s := if bit (slotWord s k 5) 27 then s else putBytes s (queueKey s k t 0) (tokenHeader s q)
  match Config.stageOffset (slotJob s k) k with
  | none => s
  | some off =>
    let planned := ofBytes (rdBytes s (queueKey s k t 8) 8) + off
    if planned < (now s).toNat then stageSlip s k t planned else s

/-- An add of one cycle: an ARRIVE_SYNC counts a token too (R167). -/
def addSignal (s : State) (o v : Nat) : State :=
  let s := objAdd s o v
  match slotOfArrive s o with
  | some k => tokenArrives s k
  | none => s

/-- A unit adds to an object in a cycle of its own (R150, R154, R167). -/
def signal (s : State) (o v : Nat) : State := addSignal (latchWaits s) o v

/-! ### SYNC (R236–R238) -/

/-- The object that a SYNC names. -/
def syncTarget (s : State) (n : CoreId) (d : BitVec 128) : Nat :=
  if syncObjReg d then (regRead (core s n).g (syncObjG d)).toNat else syncObj d

/-- The value of a SYNC. -/
def syncValue (s : State) (n : CoreId) (d : BitVec 128) : Word :=
  if syncValImm d then BitVec.ofNat 64 (syncImm d) else regRead (core s n).g (syncValG d)

/-- Every object of a range is bound to the core's job (R238). -/
def boundRange (s : State) (n : CoreId) (o k : Nat) : Bool :=
  decide (o + k ≤ 65535) && (List.range (k + 1)).all (fun i => (obj s (o + i)).job == (core s n).job && (core s n).job != 0)

/-- A SYNC traps BAD_DESC: an object out of range, unbound or of another job, or a sum beyond 2^32 − 1. -/
def syncBad (s : State) (n : CoreId) (d : BitVec 128) : Bool :=
  let k := if syncSop d = 4 then syncFirstN d else 0
  !boundRange s n (syncTarget s n d) k || (syncSop d == 1 && decide (2 ^ 32 ≤ (syncValue s n d).toNat))

/-- Releases that the synchronisation port's queue holds (R181). -/
def syncRoom : Nat := 8

/-- Issue of a SYNC: it waits while the port's queue is full (R181); then its trap, or its effect on the core. -/
def issueSync (s : State) (n : CoreId) (d : BitVec 128) (k : Core → Core) : State :=
  issueCore s n (decide (syncRoom ≤ (core s n).held.length)) (fun s =>
    if syncBad s n d then trapCore s n (core s n).nextNo 0x03 (core s n).pc
    else
      let c := k (core s n)
      setCore s n { c with nextNo := c.nextNo + 1, pc := c.pc + 4 })

/-- A release joins those that wait (R201). -/
def holdRelease (kind : Fin 3) (o : Nat) (v : Word) (c : Core) : Core :=
  { c with held := c.held ++ [⟨c.nextNo, kind, o, v⟩] }

/-- SYNC_OP_SIGNAL. -/
def execSyncOpSignal (n : CoreId) (d : BitVec 128) (s : State) : Host.Outcome State Fault Refusal :=
  checked (descOk 0x1A d && syncSop d == 0) (issueSync s n d (holdRelease 0 (syncTarget s n d) 1))

/-- SYNC_OP_ADD. -/
def execSyncOpAdd (n : CoreId) (d : BitVec 128) (s : State) : Host.Outcome State Fault Refusal :=
  checked (descOk 0x1A d && syncSop d == 1) (issueSync s n d (holdRelease 1 (syncTarget s n d) (syncValue s n d)))

/-- SYNC_OP_SET. -/
def execSyncOpSet (n : CoreId) (d : BitVec 128) (s : State) : Host.Outcome State Fault Refusal :=
  checked (descOk 0x1A d && syncSop d == 2) (issueSync s n d (holdRelease 2 (syncTarget s n d) (syncValue s n d)))

/-- SYNC_OP_WAIT. -/
def execSyncOpWait (n : CoreId) (d : BitVec 128) (s : State) : Host.Outcome State Fault Refusal :=
  checked (descOk 0x1A d && syncSop d == 3)
    (evalIdle (issueSync s n d (fun c => { c with wait := some ⟨syncTarget s n d, 0, syncValue s n d, none, none⟩ })) n)

/-- SYNC_FIRST. -/
def execSyncFirst (n : CoreId) (d : BitVec 128) (s : State) : Host.Outcome State Fault Refusal :=
  checked (descOk 0x1A d && syncSop d == 4)
    (evalIdle (issueSync s n d (fun c =>
      { c with wait := some ⟨syncTarget s n d, syncFirstN d, syncValue s n d, some (syncFirstG d), none⟩ })) n)

/-! ### Releases (R153, R201) -/

/-- The oldest held release of a core, when every operation the core issued before it has completed. -/
def readyRelease (s : State) (n : CoreId) : Option Held :=
  match (core s n).held with
  | [] => none
  | h :: _ => if (core s n).inFlight.any (fun o => decide (o.no < h.no)) then none else some h

/-- The releases of a list of cores that take effect, with the logical core of each, and the cores without them. -/
def takeReleases : List CoreId → State → List (Nat × Held) → State × List (Nat × Held)
  | [], s, l => (s, l)
  | n :: ns, s, l =>
    if ns.contains n then takeReleases ns s l
    else match readyRelease s n with
      | some h => takeReleases ns (setCore s n { core s n with held := (core s n).held.tail }) (l ++ [(logicalOf s n, h)])
      | none => takeReleases ns s l

/-- The SET of an object that takes effect: that of the lowest logical core. -/
def winningSet (l : List (Nat × Held)) (o : Nat) : Option (Nat × Held) :=
  (l.filter (fun x => x.2.kind == 2 && x.2.obj == o)).foldl (fun acc x =>
    match acc with
    | none => some x
    | some y => if x.1 < y.1 then some x else some y) none

/-- One cycle's operations on the objects: SETs first, then the adds (R153). The waits have tested the values of the
cycle before. -/
def applyReleases (s : State) (l : List (Nat × Held)) : State :=
  let s := latchWaits s
  let s := (l.map (fun x => x.2.obj)).eraseDups.foldl (fun s o =>
    match winningSet l o with
    | some (_, h) => objSet s o h.v
    | none => s) s
  l.foldl (fun s x => if x.2.kind = 2 then s else addSignal s x.2.obj x.2.v.toNat) s

/-- SYNC_RELEASE: the oldest held release of each listed core, in one ACLK cycle. (DESIGN CHOICE, log entry 13.) -/
def execSyncRelease (cores : List CoreId) (s : State) : Host.Outcome State Fault Refusal :=
  .next (ifRunning s (
    let (s, l) := takeReleases cores s []
    cores.foldl (fun s n => evalIdle s n) (applyReleases s l)))

/-! ### Waits -/

/-- A core's wait ends when its condition holds at the end of a cycle, or has held (R153); a core that sleeps wakes first
(R413). -/
def wakeCore (s : State) (n : CoreId) : State :=
  match (core s n).wait with
  | none => s
  | some w =>
    match w.hit <|> waitHit s w with
    | none => s
    | some i =>
      if !coreAwake s n then startWake (startWake (setCore s n { core s n with wait := some { w with hit := some i } }) (80 + n / 5)) n
      else
      let s := setCore s n { core s n with wait := none }
      match w.dst with
      | some r => setG s (.core n) r (BitVec.ofNat 64 i)
      | none => s

/-- A flow sequencer's wait ends when its condition holds. -/
def wakeFlow (s : State) (e : Engine) (l : Nat) : State :=
  match launch s l with
  | none => s
  | some x => setLaunch s { x with flows := x.flows.map (fun f =>
      match f.wait with
      | some (o, v) => if f.engine = e.val ∧ v.toNat ≤ (obj s o).count.toNat then { f with wait := none } else f
      | none => f) }

/-- WAIT_WAKE. -/
def execWaitWake (w : Waiter) (s : State) : Host.Outcome State Fault Refusal :=
  .next (ifRunning s (match w with
    | .core n => wakeCore s n
    | .flow e l => wakeFlow s e l
    | .prov => latchProv s))

end Sys2Proof.Machine
end

