-- ==== Sys2Proof/Machine/Dma.lean ====
section
/-! DEFINITION. The DMA engine of a core: COPY, SKEW, FILL and the remote push (R147–R150, R220, R277, R278). -/
namespace Sys2Proof.Machine

/-! ### Run-time checks (R129, R147, Table 13.1) -/

/-- A side's hull: first address and length, of `rows` rows of `len` bytes `stride` apart. -/
def hullLen (rows len stride : Nat) : Nat := (rows - 1) * stride + len

/-- Whether a transfer side may touch its hull: the core's own SRAM or cluster by any address, else one region of
the job; objects and CSRs never. -/
def dmaSideOk (s : State) (n : CoreId) (a len : Nat) : Bool :=
  if 2 ^ 48 < a + len then false
  else match locate s (some n.val) a, locate s (some n.val) (a + len - 1) with
    | some (.core p, k), some (.core q, k') =>
      if p = n.val ∧ q = n.val ∧ k' = k + (len - 1) then true
      else decide (0x800000 ≤ a) && inRegion s (core s n).job.toNat a len false
    | some (.cluster c, k), some (.cluster c', k') =>
      if c = n.val / 5 ∧ c' = n.val / 5 ∧ k' = k + (len - 1) then true
      else inRegion s (core s n).job.toNat a len false
    | some (.object, _), _ => false
    | some (.csr, _), _ => false
    | some _, some _ => inRegion s (core s n).job.toNat a len false
    | _, _ => false

/-- The ranges of a side's rows; none where an address is unassigned. -/
def sideRows (s : State) (n : CoreId) (stride len : Nat) : Nat → Nat → Option (List Span)
  | _, 0 => some []
  | a, r + 1 =>
    match locateSpan s (some n.val) a len, sideRows s n stride len (a + stride) r with
    | some (_, k), some xs => some (⟨k, len⟩ :: xs)
    | _, _ => none

/-- A side, checked. -/
def side (s : State) (n : CoreId) (a rows len stride : Nat) : Option (List Span) :=
  if dmaSideOk s n a (hullLen rows len stride) then sideRows s n stride len a rows else none

/-- Element width of a SKEW. -/
def ewBits (ew : Nat) : Nat := match ew with | 0 => 4 | 1 => 6 | 2 => 8 | _ => 16
/-- Class of a SKEW's elements. -/
def ewClass (ew : Nat) : Nat := match ew with | 0 => 1 | 1 => 1 | 2 => 0 | _ => 2

/-- Bytes of the feed regions that a SKEW of `rows` rows may write. -/
def skewBytes (d : BitVec 128) : Nat := cdiv (dmaRows d) 64 * feedSize (ewClass (dmaEw d)) (ewBits (dmaEw d))

/-- Run-time checks of a DMA: registers, ranges, and whether it waits for others on the core's own SRAM or its cluster's
(R200). ROW_BYTES 0 outside SKEW and a FILL that names a RANK_G trap BAD_DESC here, and SKEW's range is its whole feed
regions, padding included. (DESIGN CHOICE, log entry 94.) -/
def dmaPrep (s : State) (n : CoreId) (d : BitVec 128) : Except Nat (List Word × List Span × List Span × Bool) :=
  let c := core s n
  let src := regRead c.g (dmaSrcG d)
  let dst := regRead c.g (dmaDstG d)
  let tgt := regRead c.g (dmaRankG d)
  let rows := dmaRows d
  let rb := dmaRowBytes d
  let done (rd wr : List Span) : Except Nat (List Word × List Span × List Span × Bool) :=
    .ok ([src, dst, tgt], rd, wr, hazard c.inFlight (tracked n rd) (tracked n wr))
  if rb = 0 ∧ dmaMode d ≠ 1 then .error 0x03
  else if dmaRankG d ≠ 0 then
    if 2 ^ 37 ≤ tgt.toNat ∨ 2 ^ 48 ≤ dst.toNat ∨ dmaMode d ≠ 0 then .error 0x03
    else match side s n src.toNat rows rb (dmaSrcStride d) with
      | some rd => done rd []
      | none => .error 0x01
  else match dmaMode d with
    | 0 =>
      match side s n src.toNat rows rb (dmaSrcStride d), side s n dst.toNat rows rb (dmaDstStride d) with
      | some rd, some wr => done rd wr
      | _, _ => .error 0x01
    | 1 =>
      match side s n src.toNat rows (rowBytes (ewBits (dmaEw d)) 64) (dmaSrcStride d),
            side s n dst.toNat 1 (skewBytes d) 0 with
      | some rd, some wr => done rd wr
      | _, _ => .error 0x01
    | _ =>
      match side s n dst.toNat rows rb (dmaDstStride d) with
      | some wr => done [] wr
      | none => .error 0x01

/-! ### Local transfers (R148) -/

/-- Copy one row by 256-byte units, each read before it is written (structural in the unit count). -/
def copyUnits : Nat → State → Nat → Nat → Nat → Option Nat → State × Option Nat
  | 0, s, _, _, _, w => (s, w)
  | k + 1, s, src, dst, len, w =>
    let m := min 256 len
    let (s', w') := wrBytes s dst (rdBytes s src m)
    copyUnits k s' (src + m) (dst + m) (len - m) (w <|> w')

/-- Copy rows. -/
def copyRows : List Span → List Span → State → Option Nat → State × Option Nat
  | a :: as, b :: bs, s, w =>
    let (s', w') := copyUnits (cdiv a.len 256) s a.lo b.lo a.len w
    copyRows as bs s' w'
  | _, _, s, w => (s, w)

/-- The bytes of a FILL row: the pattern from its byte 0. -/
def fillRow (v : Word) (len : Nat) : List Byte :=
  (List.range len).map (fun j => BitVec.ofNat 8 (v.toNat >>> (8 * (j % 8))))

/-- Fill rows. -/
def fillRows (v : Word) : List Span → State → Option Nat → State × Option Nat
  | [], s, w => (s, w)
  | b :: bs, s, w =>
    let (s', w') := wrBytes s b.lo (fillRow v b.len)
    fillRows v bs s' (w <|> w')

/-- Write the `w`-bit element `i` of a region, its neighbours kept. -/
def putElem (s : State) (w k i v : Nat) : State × Option Nat :=
  let sp := elemSpan w k i
  let sh := w * i % 8
  let old := ofBytes (rdBytes s sp.lo sp.len)
  let new := old - ((old >>> sh) % 2 ^ w) * 2 ^ sh + (v % 2 ^ w) * 2 ^ sh
  wrBytes s sp.lo (toBytes sp.len new)

/-- Write one SKEW row to its feed region (R136). -/
def skewRow (d : BitVec 128) (base r : Nat) (x : Nat) (s : State) (w : Option Nat) : State × Option Nat :=
  let cls := ewClass (dmaEw d)
  let ew := ewBits (dmaEw d)
  let k0 := base + r / 64 * feedSize cls ew
  (List.range 64).foldl (fun (acc : State × Option Nat) k =>
    let (s', w') := putElem acc.1 ew k0 (feedIndex cls (r % 64) k) (unpackAt ew x k)
    (s', acc.2 <|> w')) (s, w)

/-- Write every SKEW row. -/
def skewRows (d : BitVec 128) (base : Nat) : Nat → List Span → State → Option Nat → State × Option Nat
  | _, [], s, w => (s, w)
  | r, a :: as, s, w =>
    let (s', w') := skewRow d base r (ofBytes (rdBytes s a.lo a.len)) s w
    skewRows d base (r + 1) as s' w'

/-- The store that a key of a transfer lies in. -/
def storeOfKey (k : Nat) : Store :=
  if 0x010000000000 ≤ k ∧ k < 0x020000000000 then .tier ((k - 0x010000000000) / 0x2000000000) 0
  else if 0x020000000000 ≤ k ∧ k < 0x040000000000 then .tier ((k - 0x020000000000) / 0x6000000000) 1
  else if 0x040000000000 ≤ k then .tier ((k - 0x040000000000) / 0x10000000000) 2
  else if 0x200000000 ≤ k then .cluster ((k - 0x200000000) / 0x4000000)
  else .core ((k - 0x100000000) / 0x1000000)

/-- Effect of a finished local DMA on memory. -/
def dmaMove (s : State) (o : ZtOp) : State × Option Nat :=
  match dmaMode o.d with
  | 0 => copyRows o.reads o.writes s none
  | 1 => skewRows o.d (rowKey o.writes 0) 0 o.reads s none
  | _ => fillRows (o.r.headD 0) o.writes s none

/-- Whether a range still stands in available windows (R346). -/
def stillThere (s : State) (x : Span) : Bool :=
  match storeOfKey x.lo, storeOfKey (x.lo + (x.len - 1)) with
  | .tier d t, .tier e u => joined s (.tier d t) (.tier e u) && decide (x.lo + x.len ≤ tierBase e u + tierBytes s e u)
  | .tier _ _, _ => false
  | _, _ => true

/-- First store of a transfer that sleeps (R413): a core's SRAM or a cluster's. -/
def asleepAt (s : State) (o : ZtOp) : Option Nat :=
  (o.reads ++ o.writes).findSome? (fun x => sleeper s (storeOfKey x.lo))

/-! ### Remote transfers (R149, R278, R281) -/

/-- Cut a row at 2,048 bytes: destination offset, key, length (structural in the piece count). -/
def cutRow : Nat → Nat → Nat → Nat → List (Nat × Nat × Nat)
  | 0, _, _, _ => []
  | k + 1, a, key, len => (a, key, min 2048 len) :: cutRow k (a + 2048) (key + 2048) (len - 2048)

/-- The pieces of a transfer, one per packet. -/
def remotePieces (d : BitVec 128) (dst : Nat) : Nat → List Span → List (Nat × Nat × Nat)
  | _, [] => []
  | r, a :: as => cutRow (cdiv a.len 2048) (dst + r * dmaDstStride d) a.lo a.len ++ remotePieces d dst (r + 1) as

/-- The header of a transfer's packets but for what differs from one to the next. -/
def remoteHdr (s : State) (n : CoreId) (o : ZtOp) : Hdr :=
  { type := 0, vc := dmaVc o.d, job := (core s n).job.toNat, src := (core s n).rank.toNat,
    dst := (wordAt o.r 2).toNat % 2 ^ 20, origin := logicalOf s n }

/-- Form the packets of a transfer, in order; the last is fenced and carries RSYNC. -/
def formPieces (n : CoreId) (o : ZtOp) (h : Hdr) : List (Nat × Nat × Nat) → State → State
  | [], s => s
  | (a, key, len) :: ps, s =>
    let last := ps.isEmpty
    let t := (wordAt o.r 2).toNat
    let (u, s) := if dmaSpray o.d && !last then fresh s else (0, s)
    let h1 := { h with offset := a, fence := last, drawn := if dmaSpray o.d && !last then some (u.toNat % 2 ^ 32) else none,
                       sync := if last ∧ bit t 36 = true then some (bits t 35 20) else none }
    let (s, h2) := stamp s h1
    let s := sendOut s (n.val / 20) (263 + n.val % 20) (mkPacket h2 (rdBytes s key len)) (some n.val) .here true
    formPieces n o h ps s

/-- A sprayed transfer waits for the acknowledgement of the stream's last fenced packet (R281). -/
def sprayWaits (s : State) (h : Hdr) (o : ZtOp) : Bool :=
  dmaSpray o.d && (sender s ⟨BitVec.ofNat 16 h.job, BitVec.ofNat 20 h.src, BitVec.ofNat 16 h.origin,
    BitVec.ofNat 20 h.dst, Fin.ofNat 8 h.vc⟩).unacked.isSome

/-- Replace a DMA of a core, by its number. -/
def setDma (s : State) (n : CoreId) (o : ZtOp) : State :=
  setCore s n { core s n with dma := (core s n).dma.map (fun x => if x.no = o.no then o else x) }

/-- A DMA leaves its engine's queue. -/
def dropDma (s : State) (n : CoreId) (o : ZtOp) : State :=
  setCore s n { core s n with dma := (core s n).dma.filter (fun x => x.no != o.no) }

/-- A descriptor whose data the engine need no longer handle: it has completed, or its packets have been formed. -/
def ZtOp.passed (o : ZtOp) : Bool := o.finished || o.formed

/-- The descriptor that the engine has taken: the oldest it still handles (R220). -/
def dmaTaken (c : Core) : Option ZtOp := c.dma.find? (fun o => !o.passed)

/-- A remote transfer's packets are still on their way out. -/
def pushing (c : Core) : Bool := c.dma.any (fun o => o.formed && !o.finished)

/-- The engine takes the next descriptor: a remote transfer forms its packets (R220), one transfer at a time.
(DESIGN CHOICE, log entry 79.) -/
def dmaAdvance (s : State) (n : CoreId) : State :=
  match dmaTaken (core s n) with
  | none => s
  | some o =>
    let h := remoteHdr s n o
    if dmaRankG o.d = 0 ∨ pushing (core s n) = true ∨ sprayWaits s h o = true then s
    else match asleepAt s o with
      | some u => demandWake s u
      | none =>
        match badSpans s o.reads with
        | some w => trapData (dropDma s n o) n o.no o.pc (storeOfKey w) w
        | none =>
          let ps := remotePieces o.d (wordAt o.r 1).toNat 0 o.reads
          let s := setDma s n { o with formed := true }
          let s := setCore s n { core s n with unsent := ps.length }
          formPieces n o h ps s

/-- DMA (R147, R148): issue; an engine with nothing before it takes the descriptor. -/
def execDma (n : CoreId) (d : BitVec 128) (s : State) : Host.Outcome State Fault Refusal :=
  checked (descOk 0x02 d) (ifRunning s (dmaAdvance (issueZt s n .dma d false (dmaPrep s n d)) n))

/-- The object that a DMA's completion signals. -/
def dmaDone (s : State) (o : ZtOp) : State := if dmaSyncEn o.d then signal s (dmaDoneSync o.d) 1 else s

/-- DMAs at the head of the queue that have completed signal, in issue order (R150; structural in the queue). -/
def dmaSignals (n : CoreId) : List ZtOp → State → State
  | [], s => s
  | o :: os, s => if o.finished then dmaSignals n os (dmaDone (dropDma s n o) o) else s

/-- A DMA has completed (R150): with UNORD set it signals at once, else once its predecessors have signalled. -/
def dmaComplete (s : State) (n : CoreId) (o : ZtOp) : State :=
  if dmaUnord o.d then
    let s := dmaDone (dropDma s n o) o
    dmaSignals n (core s n).dma s
  else
    let s := setDma s n { o with finished := true }
    dmaSignals n (core s n).dma s

/-- Effect of a finished DMA. A local transfer finishes when the engine has taken it, a remote one when its last packet
has left. -/
def dmaFinish (s : State) (n : CoreId) (o : ZtOp) : State :=
  if o.finished then s
  else if dmaRankG o.d ≠ 0 then
    if o.formed ∧ (core s n).unsent = 0 then dmaComplete s n o else s
  else if dmaTaken (core s n) ≠ some o then s
  else if !(o.reads ++ o.writes).all (stillThere s) then trapCore (dropDma s n o) n o.no 0x01 o.pc
  else match asleepAt s o with
    | some u => demandWake s u
    | none =>
      match badSpans s o.reads with
      | some w => trapData (dropDma s n o) n o.no o.pc (storeOfKey w) w
      | none =>
        match dmaMove s o with
        | (s', some w) => trapData (dropDma s' n o) n o.no o.pc (storeOfKey w) w
        | (s', none) => dmaComplete s' n o

/-- A trapped or completed DMA may leave finished ones at the head of the queue. -/
def dmaGoOn (s : State) (n : CoreId) : State := dmaAdvance (dmaSignals n (core s n).dma s) n

/-- DMA_COMPLETION (R150): a transfer of the core's queue finishes, and the engine takes its next. -/
def execDmaCompletion (n : CoreId) (s : State) (k : Fin 9 := 0) : Host.Outcome State Fault Refusal :=
  .next (ifRunning s (match (core s n).dma[k.val]? with
    | none => s
    | some o => evalIdle (dmaGoOn (dmaFinish s n o) n) n))

end Sys2Proof.Machine
end

