-- ==== Sys2Proof/Machine/Reduce.lean ====
section
/-! DEFINITION. What a reduction engine computes (R78–R84, R89–R105, R115, R118, R119): the exact accumulator, the
trimmed exact partial, a launch's shards and chunks, and the verdict of a herd check. -/
namespace Sys2Proof.Machine

/-! ### The exact accumulator (R78–R81) -/

/-- An element as CH.OPEN opens it. -/
def Xacc.opened : Xacc := ⟨0, true, false, false, false⟩

/-- A term is added. -/
def Xacc.add (a : Xacc) (x : Num) : Xacc :=
  match x with
  | .nan => { a with nan := true, nz := false }
  | .inf false => { a with pinf := true, nz := false }
  | .inf true => { a with ninf := true, nz := false }
  | .fin neg m e _ =>
    { a with v := a.v + (if neg then -1 else 1) * ((shl m (e + 149) : Nat) : Int), nz := a.nz && neg && m == 0 }

/-- A partial is added. -/
def Xacc.merge (a b : Xacc) : Xacc :=
  ⟨a.v + b.v, a.nz && b.nz, a.pinf || b.pinf, a.ninf || b.ninf, a.nan || b.nan⟩

/-- The value of an element (R81, rules 1 to 5). -/
def Xacc.num (a : Xacc) : Num × Fl :=
  if a.nan then (.nan, .none)
  else if a.pinf && a.ninf then (.nan, { invalid := true })
  else if a.pinf then (.inf false, .none)
  else if a.ninf then (.inf true, .none)
  else if a.v = 0 then (.fin a.nz 0 0 false, .none)
  else (.fin (decide (a.v < 0)) a.v.natAbs (-149) false, .none)

/-- An element in an output format. -/
def Xacc.out (fmt : Nat) (a : Xacc) : Nat × Fl :=
  let (n, f0) := a.num
  let (c, f1) := encodeNum fmt .rne false 0 n
  (c, f0.or f1)

/-! ### TXP (R82–R84) -/

/-- Trailing zero bits, at most `k` of them. -/
def ctz (x : Nat) : Nat → Nat
  | 0 => 0
  | k + 1 => if x % 2 = 0 then ctz (x / 2) k + 1 else 0

/-- The flag bits of a TXP word. -/
def Xacc.flagBits (a : Xacc) : Nat :=
  b2n a.nz * 2 ^ 9 + b2n a.pinf * 2 ^ 10 + b2n a.ninf * 2 ^ 11 + b2n a.nan * 2 ^ 12

/-- An element as TXP: 12 bytes, or 48 in escape form. -/
def Xacc.txp (a : Xacc) : List Byte :=
  if a.pinf || a.ninf || a.nan then toBytes 12 a.flagBits
  else if a.v = 0 then toBytes 12 a.flagBits
  else
    let pos := ctz a.v.natAbs 320
    let w := a.v / 2 ^ pos
    if -(2 ^ 79) ≤ w ∧ w < 2 ^ 79 then toBytes 12 (a.flagBits + pos + unsigned 80 w * 2 ^ 16)
    else toBytes 48 (a.flagBits + 2 ^ 13 + unsigned 320 a.v * 2 ^ 64)

/-- The element at the front of a TXP stream, and its bytes. -/
def txpElem (bs : List Byte) : Xacc × Nat :=
  let h := ofBytes (bs.take 12)
  let f (v : Int) : Xacc := ⟨v, bit h 9, bit h 10, bit h 11, bit h 12⟩
  if bit h 13 then (f (signed 320 (ofBytes (bs.take 48) / 2 ^ 64)), 48)
  else (f (signed 80 (h / 2 ^ 16) * 2 ^ (h % 2 ^ 9)), 12)

/-- The elements of a TXP payload (structural in the slots left). -/
def txpElems : Nat → List Byte → List Xacc
  | 0, _ => []
  | k + 1, bs =>
    if bs.length < 12 then []
    else
      let (x, n) := txpElem bs
      x :: txpElems k (bs.drop n)

/-! ### Shards and chunks (R94, R240) -/

/-- Format code of a TXP payload (Table 3.1). -/
def fmtTxp : Nat := 0xE

/-- Start and length of part `i` of `n` in `k` parts: the first n mod k take one more. -/
def partOf (n k i : Nat) : Nat × Nat := (i * (n / k) + min i (n % k), n / k + (if i < n % k then 1 else 0))

/-- The operation moves bytes: ALL_GATHER or BROADCAST. -/
def Launch.moves (x : Launch) : Bool := x.op == 2 || x.op == 3

/-- A launch whose data carry MX scales (R105). The descriptor has no field for it: a gather or broadcast in a format of
Table 4.4 is one. (DESIGN CHOICE, log entry 78.) -/
def Launch.mx (x : Launch) : Bool := x.moves && [3, 4, 5, 6, 7, 9].contains x.inFmt

/-- Elements per unit of the split: blocks of 32 for a packed or MX-scaled format. -/
def splitUnit (x : Launch) : Nat := if fmtWidth x.inFmt < 8 ∨ x.mx = true then 32 else 1

/-- Bytes of a block of 32 elements with its scale, and blocks of a packet (Table 4.4). -/
def mxBytes (fmt : Nat) : Nat := 4 * fmtWidth fmt + 1
def mxBlocks (fmt : Nat) : Nat := 2048 / mxBytes fmt

/-- First element and length of a shard. -/
def shardPart (g : Group) (x : Launch) (s : Nat) : Nat × Nat :=
  let u := splitUnit x
  let p := partOf (x.elements / u) g.shards.length s
  (p.1 * u, p.2 * u)

/-- The shard that holds an element. -/
def shardOf (g : Group) (x : Launch) (i : Nat) : Nat :=
  let u := splitUnit x
  let n := x.elements / u
  let k := max 1 g.shards.length
  let q := n / k
  let r := n % k
  let j := i / u
  if j < r * (q + 1) then j / (q + 1) else r + (j - r * (q + 1)) / max 1 q

/-- Parent of a device in a shard's tree; none for the owner or a device outside. -/
def Shard.parent (sh : Shard) (d : Nat) : Option Nat :=
  match sh.tree[d]? with
  | some (p, _) => if p = 0xFFFF then none else some p
  | none => none

/-- Engine that the map gives a device for the shard. -/
def Shard.engineAt (sh : Shard) (d : Nat) : Nat := match sh.tree[d]? with | some (_, e) => e | none => 0

/-- A device takes part in a shard's tree. -/
def Shard.within (sh : Shard) (d : Nat) : Bool := d == sh.owner || (sh.parent d).isSome

/-- Children of a device in a shard's tree. -/
def Shard.kids (sh : Shard) (d : Nat) : List Nat :=
  (List.range sh.tree.length).filter (fun k => sh.parent k == some d && k != sh.owner)

/-- A device lies on the way from another to the owner, in at most `k` edges. -/
def Shard.above (sh : Shard) (d : Nat) : Nat → Nat → Bool
  | 0, x => x == d
  | k + 1, x => x == d || match (if x = sh.owner then none else sh.parent x) with
    | some p => sh.above d k p
    | none => false

/-- Chunks of a shard of `n` elements. -/
def chunksOf (n : Nat) : Nat := cdiv n 512

/-- Chunk `c` of an engine: shard, first element and length, over the shards from index `s` on (structural in the
count of shards left). -/
def chunkFrom (g : Group) (x : Launch) (e : Nat) : Nat → Nat → Nat → Option (Nat × Nat × Nat)
  | 0, _, _ => none
  | k + 1, s, c =>
    match g.shards[s]? with
    | none => none
    | some sh =>
      let p := shardPart g x s
      if sh.engineAt g.me = e ∧ sh.within g.me = true then
        if c < chunksOf p.2 then some (s, p.1 + 512 * c, min 512 (p.2 - 512 * c))
        else chunkFrom g x e k (s + 1) (c - chunksOf p.2)
      else chunkFrom g x e k (s + 1) c

/-- Chunk `c` of an engine. -/
def chunkAt (g : Group) (x : Launch) (e c : Nat) : Option (Nat × Nat × Nat) := chunkFrom g x e g.shards.length 0 c

/-- Chunks of the engine's shards before a shard. -/
def chunksBefore (g : Group) (x : Launch) (e s : Nat) : Nat :=
  ((List.range s).map (fun t => match g.shards[t]? with
    | some sh => if sh.engineAt g.me = e ∧ sh.within g.me = true then chunksOf (shardPart g x t).2 else 0
    | none => 0)).sum

/-- Engine, chunk index and place in the chunk of an element; none for an element outside this device's shards. -/
def launchElem (g : Group) (x : Launch) (i : Nat) : Option (Nat × Nat × Nat) :=
  if x.elements ≤ i then none
  else
    let s := shardOf g x i
    match g.shards[s]? with
    | none => none
    | some sh =>
      if sh.within g.me then
        let j := i - (shardPart g x s).1
        let e := sh.engineAt g.me
        some (e, chunksBefore g x e s + j / 512, j % 512)
      else none

/-! ### Inputs (R99–R102, R120) -/

/-- The operation adds: SUM of an operation that combines. -/
def Launch.sums (x : Launch) : Bool := (x.op == 0 || x.op == 1 || x.op == 4) && x.func == 0
/-- The operation combines. -/
def Launch.combines (x : Launch) : Bool := x.op == 0 || x.op == 1 || x.op == 4

/-- Format of a partial between devices (R90, R101, R102). -/
def Launch.partFmt (x : Launch) : Nat := if x.sums then (if x.exact then fmtTxp else x.narrow) else x.inFmt

/-- Members whose vectors enter the result. -/
def contributors (g : Group) (x : Launch) : List (Nat × Nat × Nat) :=
  if x.op = 2 ∨ x.op = 5 then []
  else if x.op = 3 then g.live.filter (fun m => m.1 == x.root)
  else g.live

/-- A device, or one above it in a shard's tree, is a KV6, which only forwards (R91): what the device's members contribute
crosses it (structural in the edges left). -/
def Shard.crosses (g : Group) (sh : Shard) : Nat → Nat → Bool
  | 0, d => g.fwd.contains d
  | k + 1, d => g.fwd.contains d || match (if d = sh.owner then none else sh.parent d) with
    | some p => sh.crosses g k p
    | none => false

/-- The device whose engine adds the contributions of a device's members: its own, or the first above every KV6 on the way
(R91). -/
def Shard.taker (g : Group) (sh : Shard) : Nat → Nat → Nat
  | 0, d => d
  | k + 1, d =>
    if sh.crosses g g.devices.length d then (match sh.parent d with | some p => sh.taker g k p | none => d) else d

/-- Inputs that a shard's chunks expect on this device: members by rank, and child devices by their rank. A child whose
subtree brings no contribution is none of them, and sends no partial (`silent`). (DESIGN CHOICE, log entry 77.) -/
def expected (g : Group) (x : Launch) (sh : Shard) : List (Bool × Nat) :=
  let cs := contributors g x
  let n := g.devices.length
  if sh.crosses g n g.me then []
  else (cs.filter (fun m => sh.taker g n m.2.2 == g.me)).map (fun m => (false, m.1))
    ++ ((sh.kids g.me).filter (fun k => !g.fwd.contains k && cs.any (fun m => sh.above k n (sh.taker g n m.2.2)))).map
        (fun k => (true, g.devices.getD k 0))

/-- An input is expected for an element. -/
def takesFrom (g : Group) (x : Launch) (child : Bool) (rank i : Nat) : Bool :=
  match g.shards[shardOf g x i]? with
  | some sh => (expected g x sh).contains (child, rank)
  | none => false

/-- P3 buffers of one chunk (R109). -/
def chunkBuffers (g : Group) (x : Launch) (sh : Shard) : Nat :=
  let size (child : Bool) : Nat :=
    if child ∧ x.partFmt = fmtTxp then 512 * 384 else 512 * fmtWidth (if child then x.partFmt else x.inFmt)
  let ins := expected g x sh
  2 + cdiv (ins.map (fun i => size i.1)).sum (8 * 16384)

/-- Buffers that a launch needs on each engine of the map. An engine of several shards reserves for the largest. (DESIGN
CHOICE, log entry 77.) -/
def launchNeed (g : Group) (x : Launch) : List (Nat × Nat) :=
  let es := (g.shards.map (fun sh => sh.engineAt g.me)).eraseDups
  es.map (fun e => (e, x.window * ((g.shards.filter (fun sh => sh.engineAt g.me == e && sh.within g.me)).map
    (chunkBuffers g x)).foldl max 0))

/-! ### Closing a chunk (R97, R98) -/

/-- An input already added to an element (R99). -/
def Chunk.has (c : Chunk) (child : Bool) (rank elem : Nat) : Bool :=
  c.staged.any (fun t => t.child == child && t.rank == rank && t.elem == elem)

/-- Every block of the chunk has its scale. -/
def Chunk.scaled (c : Chunk) : Bool := c.scales.length * 32 == c.len

/-- Every expected input has been added. -/
def Chunk.full (c : Chunk) (x : Launch) (ins : List (Bool × Nat)) : Bool :=
  c.staged.length == ins.length * c.len && (!x.mx || ins.isEmpty || c.scaled)

/-- A term's value and the flag of its decoding. -/
def Term.num (t : Term) : Num × Fl :=
  match t with
  | .code f c => decodeNum f c
  | .acc a => a.num

/-- A term enters an accumulator. -/
def Xacc.take (a : Xacc) (t : Term) : Xacc :=
  match t with
  | .code f c => a.add (decodeNum f c).1
  | .acc b => a.merge b

/-- The exact sum of a list of terms. -/
def sumTerms (l : List Term) : Xacc := l.foldl Xacc.take Xacc.opened

/-- The extreme of a list of codes (R73). -/
def extreme (fmt func : Nat) : List Nat → Nat
  | [] => 0
  | c :: cs => (encodeNum fmt .rne false 0 (cs.foldl (fun a d =>
      if func = 1 then maxNum a (decodeNum fmt d).1 else minNum a (decodeNum fmt d).1) (decodeNum fmt c).1)).1

/-- The codes of a list of terms. -/
def codesOf (l : List Term) : List Nat := l.filterMap (fun t => match t with | .code _ c => some c | .acc _ => none)

/-- The terms of an element of a chunk. -/
def Chunk.terms (c : Chunk) (j : Nat) : List Term := (c.staged.filter (fun t => t.elem == j)).map (fun t => t.t)

/-- Flag of the decoding of a term: a code may be flushed, a partial converts nothing (R59). -/
def Term.fl (t : Term) : Fl :=
  match t with
  | .code f c => (decodeNum f c).2
  | .acc _ => .none

/-- Flags of the decoding of a combining chunk's inputs (R59, R88); an operation that moves bytes raises none. -/
def Chunk.inFlags (c : Chunk) (x : Launch) : Fl := if x.combines then c.staged.foldl (fun f t => f.or t.t.fl) .none else .none

/-- Codes of a chunk in a format, with the flags raised. -/
def Chunk.codes (c : Chunk) (x : Launch) (fmt : Nat) : List Nat × Fl :=
  (List.range c.len).foldr (fun j (r : List Nat × Fl) =>
    let (v, f) :=
      if x.sums then (sumTerms (c.terms j)).out fmt
      else if x.combines then
        let m := extreme x.inFmt x.func (codesOf (c.terms j))
        if fmt = x.inFmt then (m, .none) else convert x.inFmt fmt .rne false 0 m
      else ((codesOf (c.terms j)).headD 0, .none)
    (v :: r.1, r.2.or f)) ([], .none)

/-- The elements of a chunk as TXP. -/
def Chunk.txps (c : Chunk) : List (List Byte) := (List.range c.len).map (fun j => (sumTerms (c.terms j)).txp)

/-- Square of a value in units of 2^-298, and whether it is a special term (R115, R116). -/
def square (v : Num) : Nat × Bool :=
  match v with
  | .fin _ m e _ => (shl m (e + 149) ^ 2, false)
  | _ => (0, true)

/-- A statistic with more terms. -/
def Stat.addAll (t : Stat) (l : List Num) : Stat :=
  l.foldl (fun t v => let (q, b) := square v; ⟨t.sum + q, t.special || b⟩) t

/-- Squares of the members' contributions in a chunk. -/
def Chunk.memberTerms (c : Chunk) : List Num := (c.staged.filter (fun t => !t.child)).map (fun t => t.t.num.1)

/-! ### Packets of a chunk (R104, R105) -/

/-- Elements of a packet whole in 170 slots of 12 bytes: lists of elements (structural in the elements). -/
def txpPieces : List (List Byte) → List (List Byte) → Nat → List (List (List Byte))
  | [], cur, _ => if cur.isEmpty then [] else [cur.reverse]
  | e :: es, cur, slots =>
    let k := e.length / 12
    if 170 < slots + k then cur.reverse :: txpPieces es [e] k else txpPieces es (e :: cur) (slots + k)

/-- Codes as packed bytes. -/
def packBytes (fmt : Nat) (codes : List Nat) : List Byte :=
  toBytes (rowBytes' (fmtWidth fmt) codes.length) (packCodes (fmtWidth fmt) codes)
where
  /-- Bytes of packed elements. -/
  rowBytes' (w n : Nat) : Nat := (w * n + 7) / 8

/-- Chunks whose partials share one packet. -/
def chunksPerPacket (fmt : Nat) : Nat := max 1 (2048 * 8 / (fmtWidth fmt * 512))

/-- Codes of a payload. -/
def unpackCodes (fmt : Nat) (bs : List Byte) : List Nat :=
  let w := fmtWidth fmt
  let v := ofBytes bs
  (List.range (bs.length * 8 / max 1 w)).map (fun i => unpackAt w v i)

/-! ### The herd check (R118, R119) -/

/-- The member of a replica that sends a shard. -/
def herdSender (g : Group) (s rep : Nat) : Option (Nat × Nat × Nat) :=
  let l := g.live.filter (fun m => m.2.1 == rep)
  l[s % max 1 l.length]?

/-- Replicas that take part. -/
def liveReps (g : Group) : List Nat := (g.live.map (fun m => m.2.1)).eraseDups

/-- Bytes of a shard. -/
def shardBytes (g : Group) (x : Launch) (s : Nat) : Nat := ((shardPart g x s).2 * fmtWidth x.inFmt + 7) / 8

/-- Leaves of a shard. -/
def leafCount (n : Nat) : Nat := cdiv n 65536

/-- The digest of a shard from its leaves' digests. -/
def herdDigest (x : Launch) (s : Nat) (leaves : List (BitVec 256)) : BitVec 256 :=
  sha3 (toBytes 2 x.job ++ toBytes 2 x.gid ++ toBytes 4 s ++ toBytes 4 x.seq ++ toBytes 4 0
    ++ leaves.flatMap digestBytes)

/-- The digest held by more than half of a list, if any. -/
def majority (l : List (BitVec 256)) : Option (BitVec 256) :=
  l.find? (fun d => decide (l.length < 2 * (l.filter (· == d)).length))

/-- Verdict and expelled replicas over the digests of each shard: lists of replica and digest (Table 4.7). -/
def herdVerdict (reps : Nat) (shards : List (List (Nat × BitVec 256))) : Nat × BitVec 64 :=
  if shards.all (fun l => match l with | [] => true | a :: r => r.all (fun b => b.2 == a.2)) then (1, 0)
  else if reps < 3 then (3, 0)
  else if shards.all (fun l => (majority (l.map Prod.snd)).isSome) then
    (2, shards.foldl (fun m l => l.foldl (fun m r =>
      if majority (l.map Prod.snd) = some r.2 then m else m ||| (1 : BitVec 64) <<< r.1) m) 0)
  else (3, 0)

end Sys2Proof.Machine
end

