-- ==== Sys2Proof/Machine/Rings.lean ====
section
/-! DEFINITION. Command rings and completion rings (R388–R396): fetch points, fetches, dispatch in ring order, and the
commands that have no completion. -/
namespace Sys2Proof.Machine

/-! ### Ring errors (R388) -/

/-- Size of a command ring in entries; a LOG2SIZE out of range is taken as 4. -/
def crSize (s : State) (r : Nat) : Nat := 2 ^ getF s (HIF_CR_CTRL r) HIF_CR_CTRL_LOG2SIZE

/-- A ring error of a command ring. -/
def crError (s : State) (r : Nat) : State :=
  let s := setF s (HIF_CR_CTRL r) HIF_CR_CTRL_EN 0
  let s := setF s (HIF_CR_STATUS r) HIF_CR_STATUS_RING_ERR 1
  let s := setF s HIF_STATUS HIF_STATUS_RING_ERR_EVENT 1
  note s 174 0x1A (BitVec.ofNat 32 r)

/-- A ring error of a completion ring. -/
def qrError (s : State) (q : Nat) : State :=
  let s := setF s (HIF_QR_CTRL q) HIF_QR_CTRL_EN 0
  let s := setF s (HIF_QR_STATUS q) HIF_QR_STATUS_RING_ERR 1
  let s := setF s HIF_STATUS HIF_STATUS_RING_ERR_EVENT 1
  note s 174 0x1A (BitVec.ofNat 32 q)

/-! ### Fetch points (R389) -/

/-- The host interface reaches host memory: the ring is enabled, the link is up, and the power state is D0. -/
def mayFetch (s : State) (r : Nat) : Bool :=
  isSet s (HIF_CR_CTRL r) HIF_CR_CTRL_EN && s.boot.pcieUp && !s.boot.perst && !s.boot.d3hot

/-- The HCLK cycle that FT stands in (R36). -/
def hclkCycle (s : State) : Nat := s.ftu.ft / 81920

/-- A fetch point of a ring, of planned FT `t`, falls in this HCLK cycle: a fetch starts, or follows the one that runs; the
points of one cycle give one fetch. -/
def fetchPoint (s : State) (r : Nat) (t : Word) : State :=
  if mayFetch s r then
    let c := cring s r
    match c.fetching with
    | none => setCring s r { c with fetching := some t, point := hclkCycle s }
    | some _ => if c.point = hclkCycle s then s else setCring s r { c with again := some t, point := hclkCycle s }
  else s

/-- First FT from now on that is PHASE modulo PERIOD, in ns. -/
def nextPeriod (s : State) (r : Nat) : Nat :=
  let p := getF s (HIF_CR_CTRL r) HIF_CR_CTRL_PERIOD * 1000
  let f := getF s (HIF_CR_CTRL r) HIF_CR_CTRL_PHASE * 1000
  let t := cdiv s.ftu.ft 65536
  t + (p + f % p - t % p) % p

/-- PERIODIC_FETCH (R389): the next periodic fetch point of a ring. -/
def execPeriodicFetch (r : RingId) (s : State) : Host.Outcome State Fault Refusal :=
  .next (ifRunning s (
    if getF s (HIF_CR_CTRL r) HIF_CR_CTRL_PERIOD = 0 ∨ mayFetch s r = false then s
    else
      let t := BitVec.ofNat 64 (nextPeriod s r)
      fetchPoint (advanceTo s t) r t))

/-- The pending FETCH_AT of a ring is served. -/
def dropFetchAt (s : State) (r : Nat) : State :=
  let s := setF s (HIF_CR_STATUS r) HIF_CR_STATUS_FETCH_AT 0
  setCring s r { cring s r with fetchAt := none }

/-- FETCH_AT_POINT (R389): the FT that a FETCH_AT named. -/
def execFetchAtPoint (r : RingId) (s : State) : Host.Outcome State Fault Refusal :=
  .next (ifRunning s (match (cring s r).fetchAt with
    | none => s
    | some t => fetchPoint (dropFetchAt (advanceTo s t) r) r t))

/-- RING_FETCH (R389): a schedule's fetch point. -/
def execRingFetch (n : AlarmId) (s : State) : Host.Outcome State Fault Refusal :=
  .next (act s n 2 (fun s x => fetchPoint s x.index.toNat x.target))

/-! ### Fetches (R390) -/

/-- Entries that a fetch takes: those between HEAD and TAIL, at most FETCH_MAX and what the 256-entry queue holds. -/
def fetchCount (s : State) (r avail : Nat) : Nat :=
  let m := getF s (HIF_CR_CTRL r) HIF_CR_CTRL_FETCH_MAX
  min avail (min (if m = 0 then 256 else m) (256 - (cring s r).queue.length))

/-- Entries numbered from HEAD. -/
def numbered : Nat → List (List Word) → List CmdEntry
  | _, [] => []
  | h, e :: es => ⟨BitVec.ofNat 16 h, e⟩ :: numbered (h + 1) es

/-- A fetch ends; one that waits starts. -/
def fetchEnds (s : State) (r : Nat) : State :=
  let c := cring s r
  setCring s r { c with fetching := c.again, again := none }

/-- A fetch takes its entries and writes HEAD. -/
def takeEntries (s : State) (r : Nat) (planned : Word) (avail : Nat) (entries : List (List Word)) : State :=
  let h := getF s (HIF_CR_STATUS r) HIF_CR_STATUS_HEAD
  let k := fetchCount s r avail
  let got := (entries ++ List.replicate k []).take k
  let s := setCring s r { cring s r with queue := (cring s r).queue ++ numbered h got }
  let s := setF s (HIF_CR_STATUS r) HIF_CR_STATUS_HEAD (h + k)
  let s := emit s (.hostWrite (reg s (HIF_CR_PTR r) + 8) [BitVec.ofNat 64 ((h + k) % 2 ^ 32)])
  if planned.toNat + 1000 < (now s).toNat then slip s 4 planned.toNat ((now s).toNat - planned.toNat) else s

/-- FETCH_COMPLETION (R390): the last entry of a fetch is in the device. -/
def execFetchCompletion (r : RingId) (tail : BitVec 32) (entries : List (List Word)) (s : State) :
    Host.Outcome State Fault Refusal :=
  .next (ifRunning s (match (cring s r).fetching with
    | none => s
    | some t =>
      if mayFetch s r = false then setCring s r { cring s r with fetching := none, again := none }
      else
        let avail := (tail - BitVec.ofNat 32 (getF s (HIF_CR_STATUS r) HIF_CR_STATUS_HEAD)).toNat
        if crSize s r < avail then crError (setCring s r { cring s r with fetching := none, again := none }) r
        else fetchEnds (takeEntries s r t avail entries) r))

/-! ### Dispatch (R392) -/

/-- A serial command of the ring runs, or its completion waits to be written. -/
def serialHeld (s : State) (r : Nat) : Bool :=
  (cring s r).serial
    || s.qrings.any (fun e => e.2.waiting.any (fun c => c.serial && c.cmdRing.toNat == r && (c.kind == 2 || c.kind == 4)))

/-- TYPE of an entry. -/
def CmdEntry.type (e : CmdEntry) : Nat := bits (wordAt e.words 0).toNat 7 0
/-- JOB_ID of an entry's header. -/
def CmdEntry.job (e : CmdEntry) : Nat := bits (wordAt e.words 0).toNat 31 16
/-- TAG of an entry. -/
def CmdEntry.tag (e : CmdEntry) : Nat := bits (wordAt e.words 0).toNat 63 32
/-- Whether an entry's header keeps its reserved bits 0: bits 15:8 of word 0, and word 1. -/
def CmdEntry.headOk (e : CmdEntry) : Bool :=
  bits (wordAt e.words 0).toNat 15 8 == 0 && wordAt e.words 1 == 0
/-- Bits of a body word that a command uses; every other bit of words 2 to 31 is reserved. -/
def CmdEntry.bodyOk (e : CmdEntry) (mask : Nat → Word) : Bool :=
  (List.range 30).all (fun i => wordAt e.words (i + 2) &&& ~~~(mask (i + 2)) == 0)

/-- The front entry of a ring, when it can be dispatched. (DESIGN CHOICE, log entry 64.) -/
def frontEntry (s : State) (r : Nat) : Option CmdEntry :=
  if serialHeld s r then none else (cring s r).queue.head?

/-- The front entry leaves the queue. -/
def popEntry (s : State) (r : Nat) : State := setCring s r { cring s r with queue := (cring s r).queue.tail }

/-- A command that must wait goes back to the front of its queue. -/
def unpopEntry (s : State) (r : Nat) (e : CmdEntry) : State := setCring s r { cring s r with queue := e :: (cring s r).queue }

/-- A command of a type is dispatched: it leaves the queue and takes effect. -/
def dispatch (s : State) (r type : Nat) (k : State → CmdEntry → State) : State :=
  if running s then
    match frontEntry s r with
    | none => s
    | some e => if e.type = type then k (popEntry s r) e else s
  else s

/-- The completion of a command, on the ring that its command ring's CQ names. -/
def cmdDone (s : State) (r : Nat) (e : CmdEntry) (status detail : Nat) (serial : Bool) : State :=
  complete s (cqOf s r) (cmdCpl r e.index.toNat e.tag (BitVec.ofNat 16 e.job) status detail serial)

/-- NOP_COMMAND (R392). -/
def execNopCommand (r : RingId) (s : State) : Host.Outcome State Fault Refusal :=
  .next (dispatch s r 0 (fun s _ => s))

/-- FETCH_AT (R389): the ring's pending fetch point; one whose FT has passed fetches at once. -/
def execFetchAt (r : RingId) (s : State) : Host.Outcome State Fault Refusal :=
  .next (dispatch s r 1 (fun s e =>
    let t := wordAt e.words 2
    if t.toNat ≤ (now s).toNat then fetchPoint (dropFetchAt s r) r t
    else
      let s := setF s (HIF_CR_STATUS r) HIF_CR_STATUS_FETCH_AT 1
      setCring s r { cring s r with fetchAt := some t }))

/-- RESERVED_COMMAND (R392, Table 15.3): BAD_CMD. -/
def execReservedCommand (r : RingId) (s : State) : Host.Outcome State Fault Refusal :=
  .next (if running s then
    match frontEntry s r with
    | none => s
    | some e => if 0x0C ≤ e.type then cmdDone (popEntry s r) r e 0x01 0 false else s
  else s)

/-! ### Completion rings (R395, R396) -/

/-- CQ_FULL_POLL (R395): HEAD is read again. A ring that is still full counts its wait once. -/
def pollRing (s : State) (q : Nat) (head : BitVec 32) : State :=
  let c := qring s q
  let s := setQring s q { c with head := head }
  if qSize s q < qUsed s q then qrError (setQring s q { qring s q with polling := false, full := false }) q
  else if qUsed s q = qSize s q then
    if c.full then s
    else
      let s := setF s HIF_STATUS HIF_STATUS_CQ_FULL_EVENT 1
      let s := bump s (HIF_QR_STATUS q) HIF_QR_STATUS_FULL_CNT 1
      setQring s q { qring s q with full := true }
  else qDrain q (qring s q).waiting s

def execCqFullPoll (q : RingId) (head : BitVec 32) (s : State) : Host.Outcome State Fault Refusal :=
  .next (ifRunning s (
    if (qring s q).polling && isSet s (HIF_QR_CTRL q) HIF_QR_CTRL_EN then pollRing s q head else s))

/-- HOLDOFF_EXPIRY (R396): HOLDOFF µs after the first entry that no message has covered. -/
def execHoldoffExpiry (q : RingId) (s : State) : Host.Outcome State Fault Refusal :=
  .next (ifRunning s (match (qring s q).holdFirst with
    | none => s
    | some t => qMessage (advanceTo s (t + BitVec.ofNat 64 (getF s (HIF_QR_CTRL q) HIF_QR_CTRL_HOLDOFF * 1000))) q))

end Sys2Proof.Machine
end

