-- ==== Sys2Proof/Machine/Coll.lean ====
section
/-! DEFINITION. Collectives on a device (R91–R120, R241): launching, sequence order, admission, the chunks of a running
launch, its completion, and the fencing of engines. -/
namespace Sys2Proof.Machine

/-! ### Engines (R113, R114) -/

/-- An engine takes work: enabled and not fenced. -/
def engineUp (s : State) (e : Nat) : Bool :=
  isSet s (RED_CTRL e) RED_CTRL_EN && !isSet s (RED_STATUS e) RED_STATUS_FENCED

/-- The lowest-numbered engine of a die that takes work. One whose EN is 0 takes nothing over. (DESIGN CHOICE, log entry
77.) -/
def sibling (s : State) (d : Nat) : Option Nat := ((List.range 4).map (4 * d + ·)).find? (engineUp s)

/-- A die of the group's engines has none left. -/
def groupLost (s : State) (g : Group) : Bool :=
  g.lost || g.shards.any (fun sh => (sibling s (sh.engineAt g.me / 4)).isNone)

/-! ### Conflict sets (R106, R107) -/

/-- A conflict set of a job. -/
def csetOf (s : State) (j id : Nat) : Option Cset := s.coll.csets.find? (fun c => c.job == j && c.id == id)

/-- RED_CSET_NEXT of a set; one device-wide copy, in engine 0's block. -/
def showCset (s : State) (c : Cset) : State :=
  setReg s (RED_CSET_NEXT 0 c.slot) (BitVec.ofNat 64 (c.e.toNat + b2n c.broken * 2 ^ 32 + c.id * 2 ^ 48))

/-- Put a conflict set. -/
def setCset (s : State) (c : Cset) : State :=
  showCset { s with coll := { s.coll with csets := s.coll.csets.map (fun y => if y.slot = c.slot then c else y) } } c

/-- The launch of a set that stands at its turn. -/
def turnOf (s : State) (j id : Nat) : Option Launch :=
  s.coll.launches.find? (fun x => x.job == j && x.cset == id && x.stage == 1)

/-- Held launches of a set, in sequence order. -/
def heldOf (s : State) (j id : Nat) (e : BitVec 32) : List Launch :=
  (s.coll.launches.filter (fun x => x.job == j && x.cset == id && x.stage == 0)).mergeSort
    (fun a b => (BitVec.ofNat 32 a.seq - e).toNat ≤ (BitVec.ofNat 32 b.seq - e).toNat)

/-- A held launch comes to its turn when E reaches it; with others held, the gap timer starts if none runs. -/
def considerNext (s : State) (c : Cset) : State :=
  if (turnOf s c.job c.id).isSome then s
  else match heldOf s c.job c.id c.e with
    | [] => s
    | x :: _ =>
      if BitVec.ofNat 32 x.seq = c.e then
        setLaunch (setCset s { c with gap := none, retries := 0 }) { x with stage := 1 }
      else if c.gap.isSome then s else setCset s { c with gap := some (now s), retries := 0 }

/-- E becomes E + 1. -/
def passTurn (s : State) (x : Launch) : State :=
  match csetOf s x.job x.cset with
  | none => s
  | some c =>
    let c := { c with e := c.e + 1, herd := if x.op = 5 ∧ x.stage = 2 then some x.no else c.herd }
    considerNext (setCset s c) c

/-! ### Checks of a descriptor (R90, R91, R93, R94, R207, R349) -/

/-- Formats that combining operations take. -/
def redFmt (f : Nat) : Bool := f ≤ 4

/-- The descriptor alone: reserved bits, codes, formats, lengths. -/
def descFits (x : Launch) : Bool :=
  let w (i : Nat) := (wordAt x.words i).toNat
  bits (w 0) 23 17 == 0 && bits (w 0) 31 31 == 0 && bits (w 1) 63 48 == 0 && bits (w 2) 63 40 == 0
    && bits (w 3) 63 48 == 0 && bits (w 4) 31 17 == 0 && bits (w 4) 63 52 == 0 && w 7 == 0
    && x.op ≤ 5 && x.func ≤ 2 && 1 ≤ x.window && x.window ≤ 64
    && (if x.combines then redFmt x.inFmt && redFmt x.outFmt && (x.op != 4 || x.func == 0)
        else x.inFmt ≤ 0xD && (x.op == 5 || x.inFmt == x.outFmt))
    && (!x.stats || ((x.op == 0 || x.op == 1) && x.func == 0))
    && (x.elements % splitUnit x == 0)

/-- Objects that the loaded flow program of the OP names: bits [15:0] of the parameter words of its FWAIT and FSIG. -/
def flowObjects (s : State) (x : Launch) : List Nat :=
  match mapFind s.coll.flow x.op with
  | none => []
  | some i =>
    (List.range (i.code.length / 2)).filterMap (fun k =>
      let op := (i.code.getD (2 * k) 0).toNat % 64
      let imm := (i.code.getD (2 * k + 1) 0).toNat
      if (op = 4 ∨ op = 5) ∧ imm < 24 then some (bits (wordAt x.words imm).toNat 15 0) else none)

/-- An object is bound to a job. -/
def boundTo (s : State) (j o : Nat) : Bool := j != 0 && (obj s o).job.toNat == j

/-- The descriptor against its group, its job's regions and objects. A ROOT that is no member of the group and a CSET_ID
other than the registered group's break R93, for which Table 4.11 gives BAD_DESC. (DESIGN CHOICE, log entry 51.) -/
def groupFits (s : State) (g : Group) (x : Launch) : Bool :=
  let fmt := if x.combines then x.outFmt else x.inFmt
  x.cset == g.cset
    && ((x.op != 3 && x.op != 4) || g.members.any (fun m => m.1 == x.root))
    && (x.dest == 0
      || inRegion s x.job x.dest (if x.op = 5 then 1
          else max 1 ((x.elements * fmtWidth fmt + 7) / 8 + (if x.mx then x.elements / 32 else 0))) false)
    && (!x.syncEn || boundTo s x.job x.doneSync)
    && (flowObjects s x).all (boundTo s x.job)

/-- A rank is a device that discovery found on a port as a KV6, which runs PFP 3.x (R91, R335). -/
def isKv6 (s : State) (j r : Nat) : Bool :=
  match translate s j r with
  | .remote a b c => s.net.ports.any (fun q => portState s q.1 == 4 && match q.2.statement with
    | some st => st.kind == 2 && st.plane.toNat == getF s HUB_RT_POS HUB_RT_POS_PLANE
        && st.x.toNat == a && st.y.toNat == b && st.z.toNat == c
    | none => false)
  | _ => false

/-- Devices of a group's map that are KV6s. -/
def kv6Devices (s : State) (g : Group) : List Nat :=
  (List.range g.devices.length).filter (fun k => isKv6 s g.job (g.devices.getD k 0))

/-- The group map names a KV6. -/
def kv6InGroup (s : State) (g : Group) : Bool := !(kv6Devices s g).isEmpty

/-- A group with the KV6s that discovery now shows in it. -/
def Group.seen (s : State) (g : Group) : Group := { g with fwd := kv6Devices s g }

/-- Need of a launch on a die. -/
def dieNeed (need : List (Nat × Nat)) (d : Nat) : Nat := ((need.filter (fun e => e.1 / 4 == d)).map Prod.snd).sum

/-- P3 quota of a job's entry on a die. -/
def p3Quota (s : State) (j d : Nat) : Nat :=
  match job s j with | some x => getF s (SWC_JOBQ d x.index) SWC_JOBQ_P3_QUOTA | none => 0
/-- P3 buffers of it in use. -/
def p3Use (s : State) (j d : Nat) : Nat :=
  match job s j with | some x => getF s (SWC_JOBQ d x.index) SWC_JOBQ_P3_USE | none => 0

/-- A need is more than the job's whole quota on some die (R110). -/
def overQuota (s : State) (j : Nat) (need : List (Nat × Nat)) : Bool :=
  [0, 1, 2, 3].any (fun d => decide (p3Quota s j d < dieNeed need d))

/-- Status with which a launch is refused; none when it goes on to its sequence (Table 4.11). Of two defects the first in
this order gives the status; the spec orders them nowhere. (DESIGN CHOICE, log entry 51.) -/
def refuseLaunch (s : State) (x : Launch) : Option Nat :=
  if !descFits x then some 0x01
  else match groupOf s x.job x.gid with
    | none => some 0x03
    | some g =>
      if !groupFits s g x then some 0x01
      else if x.op ≠ 3 ∧ x.op ≠ 4 ∧ kv6InGroup s g = true then some 0x02
      else if groupLost s g then some 0x0A
      else if overQuota s x.job (launchNeed (g.seen s) x) then some 0x04
      else none

/-- A launch that never starts completes: its record, and DONE_SYNC where the object is the job's. -/
def refuse (s : State) (x : Launch) (status : Nat) : State :=
  let c := collRecord s x status
  let s := jobComplete s x.job { c with signal := if boundTo s x.job x.doneSync then c.signal else none }
  if collClass status = 1 then fault s (launchSource s x) 0x03 1 (BitVec.ofNat 16 x.job) (BitVec.ofNat 32 status) else s

/-- A launch as COLL brings it. -/
def Launch.fresh (no j : Nat) (words : List Word) (gid : Nat) (index : BitVec 16) : Launch :=
  { no := no, words := words, gid := gid, job := j, stage := 0, ftAdmit := 0, progress := 0, staging := [], flows := [],
    chunks := [], herdBytes := [], leaves := [], digests := [], leafReq := [], finalReq := [], sigs := [], agreed := false,
    verdict := 0, expelled := 0, recompute := 0, escapes := 0, slips := 0, fl := .none, s1 := ⟨0, false⟩,
    s2 := ⟨0, false⟩, statIn := 0, unsent := 0, mxSent := [], index := index, out := 0, fwd := [] }

/-- A launch joins those that wait. -/
def enterLaunch (s : State) (x : Launch) : State :=
  raiseActive { s with coll := { s.coll with launches := s.coll.launches ++ [x], nextLaunch := s.coll.nextLaunch + 1 } } x

/-- Handling by sequence number (Table 4.5). (DESIGN CHOICE, log entry 50.) -/
def sequence (s : State) (x : Launch) : State :=
  if x.cset = 0xFFFF then enterLaunch s { x with stage := 1 }
  else match csetOf s x.job x.cset with
    | none => refuse s x 0x07
    | some c =>
      let d := (BitVec.ofNat 32 x.seq - c.e).toNat
      if c.broken then refuse s x 0x07
      else if d = 0 then
        if (turnOf s x.job x.cset).isSome then refuse s x 0x06
        else enterLaunch (setCset s { c with gap := none, retries := 0 }) { x with stage := 1 }
      else if d ≤ 16 then
        if (heldOf s x.job x.cset c.e).any (fun y => y.seq == x.seq) then refuse s x 0x06
        else considerNext (enterLaunch s x) c
      else if d < 2 ^ 31 then refuse s x 0x05 else refuse s x 0x06

/-- COLL (R93, R106, R240): the launch is refused, held, or comes to its turn. A reserved bit of the entry outside the
descriptor, and a header JOB_ID other than the descriptor's, complete as a command with BAD_CMD (Table 15.4). A COLL of a
job that is not admitted has no completion ring of its own: it completes as a command with UNKNOWN_JOB. A launch that is
refused when it comes leaves E as it is. (DESIGN CHOICE, log entries 50 and 51.) -/
def startColl (s : State) (r : Nat) (e : CmdEntry) : State :=
  let p := (List.range 24).map (fun i => wordAt e.words (i + 2))
  if e.headOk = false ∨ bits (wordAt p 1).toNat 47 32 ≠ e.job
      ∨ !((List.range 6).all (fun i => wordAt e.words (26 + i) == 0)) then cmdDone s r e 0x01 0 false
  else if (job s e.job).isNone then cmdDone s r e 0x04 0 false
  else
    let x := Launch.fresh s.coll.nextLaunch e.job p (bits (wordAt p 0).toNat 47 32) e.index
    match refuseLaunch s x with
      | some st => refuse s x st
      | none => sequence s x

def execColl (r : RingId) (s : State) : Host.Outcome State Fault Refusal := .next (dispatch s r 8 (fun s e => startColl s r e))

/-! ### Admission (R109, R110, R120) -/

/-- One engine's buffers are reserved. -/
def reserveOne (j : Nat) (s : State) (r : Nat × Nat) : State :=
  let d := r.1 / 4
  let k := match job s j with | some x => x.index | none => 0
  let n := getF s (RED_STAGING r.1) RED_STAGING_NOW + r.2
  let s := setF s (RED_STAGING r.1) RED_STAGING_NOW n
  let s := setF s (RED_STAGING r.1) RED_STAGING_PEAK (max n (getF s (RED_STAGING r.1) RED_STAGING_PEAK))
  let s := setF s (SWC_JOBQ d k) SWC_JOBQ_P3_USE (getF s (SWC_JOBQ d k) SWC_JOBQ_P3_USE + r.2)
  let s := (List.range r.2).foldl (fun s _ => setBit s d 3) s
  let f := getF s (SWC_POOL_STAT d 3) SWC_POOL_STAT_FREE - r.2
  let s := setF s (SWC_POOL_STAT d 3) SWC_POOL_STAT_FREE f
  setF s (SWC_POOL_STAT d 3) SWC_POOL_STAT_LOWEST (min f (getF s (SWC_POOL_STAT d 3) SWC_POOL_STAT_LOWEST))

/-- An engine of the launch lies in a QID of KIND ENGINE. -/
def engineQuiet (s : State) (x : Launch) : Bool :=
  s.qids.any (fun q => qidState s q.1 != 0 && getF s (PUP_QER q.1) PUP_QER_KIND == 2
    && (servers s x).contains (getF s (PUP_QER q.1) PUP_QER_ID))

/-- A flow sequencer at the start of its program. -/
def Flow.start (e : Nat) : Flow := ⟨e, 0, Vector.replicate 16 0, none, false, false, ⟨0, false⟩, ⟨0, false⟩⟩

/-- The withholdings of R108 that no packet needs any longer end, and EARLY_HOLD with the last of a die. -/
def settleEarly (s : State) : State :=
  let s := settleHolds s 1 5
  (List.range 16).foldl (fun s e =>
    if s.net.ports.any (fun q => portDie q.1 == e / 4 && q.2.withheld.any (fun w => w.2 == 1)) then s
    else setF s (RED_STATUS e) RED_STATUS_EARLY_HOLD 0) s

/-- Packets that the early-arrival area has no room for and that wait for this launch wait no longer (R108). -/
def releaseEarly (s : State) (x : Launch) : State :=
  settleEarly { s with net := { s.net with locals := s.net.locals.map (fun y =>
    if y.hold = 5 ∧ y.p.job = x.job ∧ y.p.group = x.gid ∧ y.p.lseq = x.seq then { y with hold := 0 } else y) } }

/-- The launch is admitted: staging reserved, the engines run its flow program. -/
def admitLaunch (s : State) (g : Group) (x : Launch) (need : List (Nat × Nat)) : State :=
  let st := need.map (fun e => (g.server e.1, e.2))
  let s := st.foldl (reserveOne x.job) s
  let s := raiseActive (lowerActive s x) { x with stage := 2 }
  let x := { x with stage := 2, ftAdmit := now s, progress := now s, staging := st,
                    flows := (enginesOf s x).map Flow.start, out := g.expelled, fwd := g.fwd }
  releaseEarly (passTurn (setLaunch s x) x) x

/-- The launch's turn ends without admission. -/
def endTurn (s : State) (x : Launch) (status : Nat) : State := passTurn (endLaunch s x.no status false) x

/-- LAUNCH_ADMIT (R110): at its turn and after START_FT, the launch takes its whole requirement, or nothing. -/
def tryAdmit (s : State) (x : Launch) : State :=
  match groupOf s x.job x.gid with
  | none => endTurn s x 0x03
  | some g =>
    let blocked := match csetOf s x.job x.cset with | some c => c.herd.isSome | none => false
    if blocked || jobQuiet s x.job || engineQuiet s x then s
    else
      let s := advanceTo s (BitVec.ofNat 64 x.startFt)
      let g := g.seen s
      let need := launchNeed g x
      if groupLost s g then endTurn s x 0x0A
      else if overQuota s x.job need then endTurn s x 0x04
      else if [0, 1, 2, 3].any (fun d => decide (p3Quota s x.job d < p3Use s x.job d + dieNeed need d)) then s
      else admitLaunch s g x need

def execLaunchAdmit (l : Nat) (s : State) : Host.Outcome State Fault Refusal :=
  .next (ifRunning s (match launch s l with
    | none => s
    | some x => if x.stage = 1 then tryAdmit s x else s))

/-- GAP_TIMER_EXPIRY (R107): a STEP fault, two retries, then SEQ_GAP for every held launch and a broken set. The event
shows, and the fault has its source, at the lowest engine that serves the first held launch. (DESIGN CHOICE, log entry
54.) -/
def expireGap (s : State) (c : Cset) (t : Word) : State :=
  let s := advanceTo s (t + BitVec.ofNat 64 (getF s (RED_TAG_TIMEOUT 0) RED_TAG_TIMEOUT_VALUE * 1000))
  let held := heldOf s c.job c.id c.e
  let e := match held with | x :: _ => (servers s x).headD 0 | [] => 0
  let s := setF s (RED_STATUS e) RED_STATUS_SEQ_GAP_EVENT 1
  if c.retries < 2 then
    let s := setCset s { c with gap := some (now s), retries := c.retries + 1 }
    fault s (96 + e) 0x03 1 (BitVec.ofNat 16 c.job) 0x07
  else
    let s := setCset s { c with gap := none, broken := true }
    held.foldl (fun s x => endLaunch s x.no 0x07 false) s

def execGapTimerExpiry (cset : Fin 1024) (s : State) : Host.Outcome State Fault Refusal :=
  .next (ifRunning s (match s.coll.csets.find? (fun c => c.slot == cset.val) with
    | none => s
    | some c => match c.gap with
      | none => s
      | some t => expireGap s c t))

/-! ### Ending a launch that runs -/

/-- Totals of the statistics: the parts received and those of the engines that ran ST.FINAL (R115). -/
def Launch.totals (x : Launch) : Launch :=
  x.flows.foldl (fun y f => if f.statDone then
    { y with s1 := ⟨y.s1.sum + f.s1.sum, y.s1.special || f.s1.special⟩,
             s2 := ⟨y.s2.sum + f.s2.sum, y.s2.special || f.s2.special⟩ } else y) x

/-- The set that a HERD launch held back goes on. -/
def afterEnd (s : State) (x : Launch) : State :=
  match csetOf s x.job x.cset with
  | some c => if c.broken then s else considerNext s c
  | none => s

/-- A launch of this device ends. -/
def finishLaunch (s : State) (x : Launch) (status : Nat) (quietErr : Bool) : State :=
  let wasTurn := x.stage = 1
  let s := endLaunch (setLaunch s x.totals) x.no status quietErr
  if wasTurn then passTurn s x else afterEnd s x

/-- DATA_TIMEOUT (R124, R243): no chunk has progressed for RED_DATA_TIMEOUT. -/
def execDataTimeout (l : Nat) (s : State) : Host.Outcome State Fault Refusal :=
  .next (ifRunning s (match launch s l with
    | none => s
    | some x =>
      if x.stage = 2 then
        finishLaunch (advanceTo s (x.progress
          + BitVec.ofNat 64 (getF s (RED_DATA_TIMEOUT 0) RED_DATA_TIMEOUT_VALUE * 1000))) x 0x08 false
      else s))

/-! ### Sending (R104, R250) -/

/-- Rank of this device in a group. -/
def Group.own (g : Group) : Nat := g.devices.getD g.me 0

/-- One COLL packet of a launch. -/
def collSend (s : State) (g : Group) (l e dst off kind fmt : Nat) (bytes : List Byte) : State :=
  match launch s l with
  | none => s
  | some x =>
    let srv := g.server e
    let h : Hdr := { type := 1, vc := g.vc, job := x.job, src := g.own, dst := dst, origin := 0x0100 + srv,
                     birth := (now s).toNat % 2 ^ 40, group := x.gid, lseq := x.seq, offset := off, ckind := kind,
                     pfmt := fmt, input := g.own }
    let s := setLaunch s { x with unsent := x.unsent + 1 }
    sendOut s (srv / 4) (259 + srv % 4) (mkPacket h bytes) (some (0x100 + l)) .here true

/-- Receivers at a device of a shard's tree: the device, or, of a KV6, which only forwards, its members and the receivers
below it (R91; structural in the edges left). -/
def downFrom (g : Group) (sh : Shard) : Nat → Nat → List Nat
  | 0, _ => []
  | n + 1, k =>
    if g.fwd.contains k then (g.live.filter (fun m => m.2.2 == k)).map (fun m => m.1) ++ (sh.kids k).flatMap (downFrom g sh n)
    else [g.devices.getD k 0]

/-- Receivers down a shard's tree: those of child devices, and local members that are not this device's own cores. -/
def downRanks (g : Group) (sh : Shard) : List Nat :=
  (sh.kids g.me).flatMap (downFrom g sh g.devices.length)
    ++ (g.live.filter (fun m => m.2.2 == g.me && m.1 != g.own)).map (fun m => m.1)

/-- Bytes sent down a tree. -/
def collDown (s : State) (g : Group) (l e : Nat) (sh : Shard) (off kind fmt : Nat) (bytes : List Byte) : State :=
  (downRanks g sh).foldl (fun s r => collSend s g l e r off kind fmt bytes) s

/-- TXP packets of a chunk, from an element on. -/
def sendTxp (g : Group) (l e dst : Nat) : List (List (List Byte)) → Nat → State → State
  | [], _, s => s
  | p :: ps, off, s => sendTxp g l e dst ps (off + p.length) (collSend s g l e dst off 1 fmtTxp p.flatten)

/-! ### DEST_ADDR -/

/-- Outcome of a write or read at DEST_ADDR. -/
inductive Dst where
  | ok (s : State)
  | asleep (u : Nat)
  | failed (st : Store) (k : Nat) (s : State)
  | gone
deriving DecidableEq, Repr

/-- Device address of an element of the vector at DEST_ADDR. -/
def destAddr (x : Launch) (fmt off : Nat) : Nat := x.dest + off * fmtWidth fmt / 8

/-- Write bytes at a device address; a launch without DEST_ADDR writes nothing. -/
def putAt (s : State) (x : Launch) (addr : Nat) (bytes : List Byte) : Dst :=
  if x.dest = 0 then .ok s
  else match locateSpan s none addr bytes.length with
    | none => .gone
    | some (st, k) =>
      match sleeper s st with
      | some u => .asleep u
      | none => match wrBytes s k bytes with
        | (s', none) => .ok s'
        | (s', some w) => .failed st w s'

/-- Write elements at their place of the vector. -/
def destWrite (s : State) (x : Launch) (fmt off : Nat) (bytes : List Byte) : Dst := putAt s x (destAddr x fmt off) bytes

/-- Address of the scale of the block that holds an element: the scales stand behind the vector's elements, as in a
packet. The spec does not place them. (DESIGN CHOICE, log entry 78.) -/
def scaleAddr (x : Launch) (off : Nat) : Nat := destAddr x x.inFmt x.elements + off / 32

/-! ### The chunks of a running launch -/

/-- A chunk of an engine. -/
def findChunk (x : Launch) (e c : Nat) : Option Chunk := x.chunks.find? (fun y => y.engine == e && y.idx == c)
/-- Put a chunk. -/
def putChunk (x : Launch) (c : Chunk) : Launch :=
  { x with chunks := (x.chunks.filter (fun y => !(y.engine == c.engine && y.idx == c.idx))) ++ [c] }
/-- A chunk, made when the launch has none of that number; none for an index outside the engine's shards. -/
def getChunk (g : Group) (x : Launch) (e c : Nat) : Option Chunk :=
  match findChunk x e c with
  | some y => some y
  | none => (chunkAt g x e c).map (fun p =>
      { engine := e, idx := c, shard := p.1, first := p.2.1, len := p.2.2, opened := false, staged := [],
        closeReq := false, closed := false, result := none, got := [], downReq := false, fwdReq := false,
        sentDown := false, sentUp := false, scales := [], sourced := false, written := false })
/-- A flow of a launch changes. -/
def updFlow (x : Launch) (e : Nat) (k : Flow → Flow) : Launch :=
  { x with flows := x.flows.map (fun f => if f.engine = e then k f else f) }
/-- Shard of a group. -/
def shardAt (g : Group) (i : Nat) : Shard := g.shards.getD i ⟨0, 0, []⟩

/-- A residue check fails (R112): counted, and a NOTE; the recomputed chunk has the same bits (R98).
(DESIGN CHOICE, log entry 52.) -/
def residueFails (s : State) (g : Group) (l e : Nat) : State :=
  let srv := g.server e
  let s := bump s (RED_RESIDUE srv) RED_RESIDUE_COUNT 1
  let s := setF s (RED_RESIDUE srv) RED_RESIDUE_FT (now s).toNat
  let s := setF s (RED_STATUS srv) RED_STATUS_RESIDUE_EVENT 1
  let s := { s with coll := { s.coll with residueAt := (srv, now s) :: s.coll.residueAt } }
  match launch s l with
  | some x => fault (setLaunch s { x with recompute := x.recompute + 1 }) (96 + srv) 0x04 0 (BitVec.ofNat 16 x.job) 0
  | none => s

/-- Close a chunk whose inputs are all in (R241, CH.CLOSE): its result, its flags and its statistics. -/
def closeChunk (g : Group) (x : Launch) (c : Chunk) : Launch :=
  let sh := shardAt g c.shard
  let owner := sh.owner == g.me
  let fmt := if owner then (if x.combines then x.outFmt else x.inFmt) else x.partFmt
  let s1 := if x.stats then c.memberTerms else []
  if !owner && fmt == fmtTxp then
    let x := updFlow { x with fl := x.fl.or (c.inFlags x) } c.engine (fun f => { f with s1 := f.s1.addAll s1 })
    putChunk x { c with closed := true, result := some (fmtTxp, []) }
  else
    let (codes, f) := c.codes x fmt
    let out := if x.stats && owner then codes.map (fun k => (decodeNum fmt k).1) else []
    let x := updFlow { x with fl := (x.fl.or (c.inFlags x)).or f } c.engine
      (fun f => { f with s1 := f.s1.addAll s1, s2 := f.s2.addAll out })
    putChunk x { c with closed := true, result := some (fmt, codes), staged := [] }

/-- Partials of a run of chunks that fill one packet, when all of them have closed. -/
def readyGroup (x : Launch) (g : Group) (c : Chunk) (fmt : Nat) : Option (Nat × List Nat × List Chunk) :=
  let per := chunksPerPacket fmt
  let p := shardPart g x c.shard
  let i := (c.first - p.1) / 512
  let i0 := i - i % per
  let n := min per (chunksOf p.2 - i0)
  let l := (List.range n).filterMap (fun k => x.chunks.find? (fun y =>
    y.shard == c.shard && y.engine == c.engine && y.first == p.1 + 512 * (i0 + k) && y.closed && !y.sentUp))
  if l.length = n then
    some (p.1 + 512 * i0, l.flatMap (fun y => match y.result with | some r => r.2 | none => []), l)
  else none

/-- The partials of a chunk leave for the parent (R101, R102, R104). -/
def sendUp (s : State) (g : Group) (l : Nat) (c : Chunk) : State :=
  match launch s l, (shardAt g c.shard).parent g.me with
  | some x, some p =>
    let dst := g.devices.getD p 0
    match c.result with
    | none => s
    | some (fmt, _) =>
      if fmt = fmtTxp then
        let es := c.txps
        let esc := (es.filter (fun e => e.length == 48)).length
        let x := putChunk { x with escapes := x.escapes + esc } { c with sentUp := true, staged := [] }
        let s := bump (setLaunch s x) (RED_CNT_ESCAPE (g.server c.engine)) RED_CNT_ESCAPE_COUNT esc
        sendTxp g l c.engine dst (txpPieces es [] 0) c.first s
      else match readyGroup x g c fmt with
        | none => s
        | some (off, codes, cs) =>
          let s := setLaunch s (cs.foldl (fun x y => putChunk x { y with sentUp := true }) x)
          collSend s g l c.engine dst off 1 fmt (packBytes fmt codes)
  | _, _ => s

/-- Expelled ranks get no result (R120). -/
def sendResult (s : State) (g : Group) (l : Nat) (c : Chunk) (dst fmt : Nat) (codes : List Nat) : State :=
  if g.expels dst then s else collSend s g l c.engine dst c.first 2 fmt (packBytes fmt codes)

/-- What becomes of a launch after one of its operations touched memory. -/
def afterDst (s : State) (x : Launch) (d : Dst) (k : State → State) : State :=
  match d with
  | .ok s' => k s'
  | .asleep u => demandWake s u
  | .gone => finishLaunch s x 0x09 false
  | .failed st w s' => finishLaunch (persist s' st w 1 (BitVec.ofNat 16 x.job)) x 0x09 true

/-- The result of an owner's chunk goes where the operation sends it (R89, R241). -/
def deliver (s : State) (g : Group) (x : Launch) (c : Chunk) : State :=
  let sh := shardAt g c.shard
  match c.result with
  | none => s
  | some (fmt, codes) =>
    let mark (s : State) : State :=
      match launch s x.no with | some y => setLaunch s (putChunk y { c with sentDown := true }) | none => s
    let dst := if x.op = 1 then (if sh.receiver = 0xFFFFF then g.own else sh.receiver) else x.root
    if dst = g.own then afterDst s x (destWrite s x fmt c.first (packBytes fmt codes)) mark
    else mark (sendResult s g x.no c dst fmt codes)

/-- A chunk received whole from the parent. -/
def Chunk.whole (c : Chunk) (x : Launch) : Bool := c.got.length == c.len && (!x.mx || c.scaled)

/-- Send a chunk down its tree, and to the device's own cores at DEST_ADDR. -/
def pushDown (s : State) (g : Group) (x : Launch) (c : Chunk) (kind fmt : Nat) (codes : List Nat) : State :=
  let b := packBytes fmt codes
  afterDst s x (destWrite s x fmt c.first b) (fun s =>
    let s := match launch s x.no with | some y => setLaunch s (putChunk y { c with sentDown := true }) | none => s
    collDown s g x.no c.engine (shardAt g c.shard) c.first kind fmt b)

/-! ### MX-scaled data (R105, R173): packets of whole blocks, elements first, then scales -/

/-- Codes of a chunk: its result, or what the parent has sent. -/
def Chunk.allCodes (c : Chunk) : List Nat :=
  match c.result with
  | some (_, l) => l
  | none => (List.range c.len).map (mapGet (fun _ => 0) c.got)

/-- Scale codes of a chunk, by block. -/
def Chunk.allScales (c : Chunk) : List Nat := (List.range (c.len / 32)).map (mapGet (fun _ => 0) c.scales)

/-- A chunk may go down the tree. -/
def Chunk.mayGoDown (c : Chunk) (x : Launch) (owner : Bool) : Bool :=
  c.sourced || (c.downReq && (if owner then c.closed else c.whole x)) || (c.fwdReq && c.whole x)

/-- A chunk may go in a direction: up to the parent once closed, or down. -/
def Chunk.mayGo (c : Chunk) (x : Launch) (owner up : Bool) : Bool :=
  if up then c.closed && c.closeReq && !owner else c.mayGoDown x owner

/-- First element and length of a packet of a shard. -/
def mxRange (g : Group) (x : Launch) (sh p : Nat) : Nat × Nat :=
  let q := shardPart g x sh
  let n := 32 * mxBlocks x.inFmt
  (q.1 + n * p, min n (q.2 - n * p))

/-- Packets of a shard that a chunk's elements stand in. -/
def mxPackets (g : Group) (x : Launch) (c : Chunk) : List Nat :=
  let n := 32 * mxBlocks x.inFmt
  let a := c.first - (shardPart g x c.shard).1
  (List.range ((a + c.len - 1) / n + 1)).filter (fun p => decide (a / n ≤ p))

/-- The payload of a packet, when every chunk that it takes elements of may go. -/
def mxPayload (g : Group) (x : Launch) (c : Chunk) (p : Nat) (up : Bool) : Option (Nat × List Byte) :=
  let sh := shardAt g c.shard
  let q := shardPart g x c.shard
  let r := mxRange g x c.shard p
  let k0 := (r.1 - q.1) / 512
  let ks := (List.range ((r.1 + r.2 - 1 - q.1) / 512 + 1 - k0)).map (· + k0)
  let cs := ks.filterMap (fun k => x.chunks.find? (fun y =>
    y.shard == c.shard && y.engine == c.engine && y.first == q.1 + 512 * k && y.mayGo x (sh.owner == g.me) up))
  if cs.length = ks.length then
    let skip := r.1 - q.1 - 512 * k0
    some (r.1, packBytes x.inFmt (((cs.flatMap Chunk.allCodes).drop skip).take r.2)
      ++ (((cs.flatMap Chunk.allScales).drop (skip / 32)).take (r.2 / 32)).map (BitVec.ofNat 8))
  else none

/-- One packet of a shard goes, if it can and has not gone. -/
def mxSendOne (g : Group) (l : Nat) (c : Chunk) (up : Bool) (s : State) (p : Nat) : State :=
  match launch s l with
  | none => s
  | some x =>
    if x.mxSent.contains (c.shard, p, up) then s
    else match mxPayload g x c p up with
      | none => s
      | some (off, b) =>
        let sh := shardAt g c.shard
        let s := setLaunch s { x with mxSent := x.mxSent ++ [(c.shard, p, up)] }
        if up then
          match sh.parent g.me with
          | some q => collSend s g l c.engine (g.devices.getD q 0) off 1 x.inFmt b
          | none => s
        else collDown s g l c.engine sh off (if c.sourced || c.fwdReq then 3 else 2) x.inFmt b

/-- The packets that a chunk stands in go as far as they can; with the last of them the chunk has gone. -/
def mxSend (s : State) (g : Group) (l : Nat) (c : Chunk) (up : Bool) : State :=
  match launch s l with
  | none => s
  | some x =>
    let ps := mxPackets g x c
    let s := ps.foldl (mxSendOne g l c up) s
    match launch s l with
    | none => s
    | some y =>
      { s with coll := { s.coll with launches := s.coll.launches.map (fun z => if z.no != l then z else
        { y with chunks := y.chunks.map (fun k =>
            if k.shard == c.shard && k.engine == c.engine && (mxPackets g y k).all (fun p => y.mxSent.contains (c.shard, p, up))
            then (if up then { k with sentUp := true } else { k with sentDown := true }) else k) }) } }

/-- The elements and scales of a chunk are written at DEST_ADDR; an owner that read them there writes nothing. -/
def mxWrite (s : State) (x : Launch) (c : Chunk) : Dst :=
  if c.sourced then .ok s
  else match destWrite s x x.inFmt c.first (packBytes x.inFmt c.allCodes) with
    | .ok s => putAt s x (scaleAddr x c.first) (c.allScales.map (BitVec.ofNat 8))
    | d => d

/-- An MX-scaled chunk goes up, or down, as far as it can. -/
def stepMx (s : State) (g : Group) (x : Launch) (c : Chunk) : State :=
  let owner := (shardAt g c.shard).owner == g.me
  if c.mayGo x owner true && !c.sentUp then mxSend s g x.no c true
  else if c.mayGo x owner false && !c.sentDown then
    if c.written then mxSend s g x.no c false
    else afterDst s x (mxWrite s x c) (fun s =>
      match launch s x.no with
      | some y => mxSend (setLaunch s (putChunk y { c with written := true })) g x.no { c with written := true } false
      | none => s)
  else s

/-- A closed chunk of a device to whose shard nothing is contributed here or below: it has no partial to send. -/
def Chunk.silent (c : Chunk) (g : Group) (x : Launch) : Bool :=
  let sh := shardAt g c.shard
  c.closed && c.closeReq && sh.owner != g.me && (expected g x sh).isEmpty

/-- One chunk's work that can now be done: closing, its partial, its result, its way down. -/
def stepChunk (s : State) (l e i : Nat) : State :=
  match launch s l with
  | none => s
  | some x =>
    match launchGroup s x, findChunk x e i with
    | some g, some c =>
      let sh := shardAt g c.shard
      let owner := sh.owner == g.me
      let ready := c.closeReq && !c.closed && c.full x (expected g x sh)
      let x1 := if ready then closeChunk g x c else x
      let s := if ready then setLaunch s { x1 with progress := now s } else s
      match findChunk x1 e i with
      | none => s
      | some c =>
        if c.silent g x1 && !c.sentUp then setLaunch s (putChunk x1 { c with sentUp := true })
        else if x1.mx then stepMx s g x1 c
        else if c.closed && !owner && !c.sentUp && c.closeReq then sendUp s g l c
        else if c.closed && owner && !c.sentDown && (x.op == 1 || x.op == 4) then deliver s g x1 c
        else if c.downReq && !c.sentDown then
          let fmt := if x.combines then x.outFmt else x.inFmt
          if owner then
            match c.result with
            | some (f, codes) => if c.closed then pushDown s g x1 c 2 f codes else s
            | none => s
          else if c.whole x1 then pushDown s g x1 c 2 fmt ((List.range c.len).map (fun j => mapGet (fun _ => 0) c.got j))
          else s
        else if c.fwdReq && !c.sentDown && c.whole x1 then
          pushDown s g x1 c 3 x.inFmt ((List.range c.len).map (fun j => mapGet (fun _ => 0) c.got j))
        else s
    | _, _ => s

/-- A chunk is taken as far as it goes: closing, the way up, then the way down. -/
def advanceChunk (s : State) (l e i : Nat) : State := stepChunk (stepChunk s l e i) l e i

/-! ### The herd check (R118–R120) -/

/-- Bytes of a leaf received so far, in order; none while one is missing. -/
def leafBytes (x : Launch) (sh rep : Nat) (total leaf : Nat) : Option (List Byte) :=
  let lo := 65536 * leaf
  let n := min 65536 (total - lo)
  (List.range n).mapM (fun i => (x.herdBytes.find? (fun b => b.1 == sh && b.2.1 == rep && b.2.2.1 == lo + i)).map
    (fun b => b.2.2.2))

/-- Digests of the leaves of a shard of a replica, when all are hashed. -/
def allLeaves (x : Launch) (sh rep n : Nat) : Option (List (BitVec 256)) :=
  (List.range n).mapM (fun i => (x.leaves.find? (fun b => b.1 == sh && b.2.1 == rep && b.2.2.1 == i)).map
    (fun b => b.2.2.2))

/-- HH.LEAF requests whose bytes are in are hashed; HH.FINAL requests whose leaves are hashed give digests. The new
digests stand second. -/
def herdWork (g : Group) (x : Launch) : Launch × List (Nat × Nat × BitVec 256) :=
  let x := x.leafReq.foldl (fun x r =>
    let (_, sh, rep, leaf) := r
    match leafBytes x sh rep (shardBytes g x sh) leaf with
    | some b => { x with leaves := x.leaves ++ [(sh, rep, leaf, sha3 b)], leafReq := x.leafReq.filter (· != r) }
    | none => x) x
  x.finalReq.foldl (fun (y : Launch × List (Nat × Nat × BitVec 256)) r =>
    match allLeaves y.1 r.1 r.2 (leafCount (shardBytes g y.1 r.1)) with
    | some ls =>
      let d := herdDigest y.1 r.1 ls
      ({ y.1 with digests := y.1.digests ++ [(r.1, r.2, d)], finalReq := y.1.finalReq.filter (· != r) },
        y.2 ++ [(r.1, r.2, d)])
    | none => y) (x, [])

/-- A CTRL packet to every other device of a group; the spec does not lay its payload out. -/
def tellOthers (s : State) (g : Group) : State :=
  ((List.range g.devices.length).filter (· != g.me)).foldl (fun s k =>
    let (w, s) := fresh s
    hubSend s { type := 4, vc := 6, job := g.job, src := g.own, dst := g.devices.getD k 0 } (toBytes 8 w.toNat)) s

/-- Digests of every shard, when all are in: lists of replica and digest. -/
def herdTable (g : Group) (x : Launch) : Option (List (List (Nat × BitVec 256))) :=
  ((List.range g.shards.length).filter (fun i => shardBytes g x i != 0)).mapM (fun i =>
    (liveReps g).mapM (fun r => (x.digests.find? (fun d => d.1 == i && d.2.1 == r)).map (fun d => (r, d.2.2))))

/-- The verdict is reached once every digest is in (R119): its faults, and the exchange with the other devices. HERD_EVENT
shows at the lowest engine that serves the launch. (DESIGN CHOICE, log entry 54.) -/
def judge (s : State) (l : Nat) : State :=
  match launch s l with
  | none => s
  | some x =>
    match launchGroup s x with
    | none => s
    | some g =>
      if x.op ≠ 5 ∨ x.verdict ≠ 0 then s
      else match herdTable g x with
        | none => s
        | some t =>
          let (v, ex) := herdVerdict (liveReps g).length t
          let s := setLaunch s { x with verdict := v, expelled := ex }
          let s := tellOthers s g
          let src := launchSource s x
          let e := (servers s x).headD 0
          if v = 1 then s
          else
            let s := setF s (RED_STATUS e) RED_STATUS_HERD_EVENT 1
            if v = 2 then
              (List.range 64).foldl (fun s r => if ex.getLsbD r then
                fault s src 0x13 2 (BitVec.ofNat 16 x.job) (BitVec.ofNat 32 (2 ^ 31 + r)) else s) s
            else jobFault s src 0x13 x.job 0

/-! ### Completion (R123, R241) -/

/-- Every operation issued on a chunk is done. -/
def chunkQuiet (g : Group) (x : Launch) (c : Chunk) : Bool :=
  let owner := (shardAt g c.shard).owner == g.me
  (!c.closeReq || (c.closed && (owner || c.sentUp) && (!owner || c.sentDown || (x.op != 1 && x.op != 4))))
    && (!(c.downReq || c.fwdReq || c.sourced) || c.sentDown)

/-- Every operation that an engine's flow has issued is done. -/
def flowQuiet (g : Group) (x : Launch) (e : Nat) : Bool :=
  (x.chunks.filter (fun c => c.engine == e)).all (chunkQuiet g x) && x.sigs.all (fun r => r.engine != e)
    && (x.leafReq.all (fun r => r.1 != e)) && x.finalReq.all (fun r => (shardAt g r.1).engineAt g.me != e)

/-- The launch is done on this device: every engine has passed FEND, every packet has left, and the parts of other
devices that it needs are in. -/
def launchDone (g : Group) (x : Launch) : Bool :=
  x.stage == 2 && x.flows.all (fun f => f.fend && flowQuiet g x f.engine) && x.unsent == 0
    && (x.op != 5 || (x.verdict != 0 && (g.devices.length ≤ 1 || x.agreed)))
    && (!x.stats || g.devices.length ≤ x.statIn + 1)

/-- LAUNCH_COMPLETION (R123). -/
def checkDone (s : State) (l : Nat) : State :=
  match launch s l with
  | none => s
  | some x => match launchGroup s x with
    | none => s
    | some g => if launchDone g x then finishLaunch s x 0 false else s

/-- A release of FSIG whose earlier writes are done. -/
def sigReady (g : Group) (x : Launch) (r : FlowSig) : Bool :=
  r.after.all (fun i => match findChunk x r.engine i with | some c => chunkQuiet g x c | none => true)

/-- The releases of a launch that can take effect do so (R201, R241). -/
def fireSigs (s : State) (l : Nat) : State :=
  match launch s l with
  | none => s
  | some x => match launchGroup s x with
    | none => s
    | some g =>
      let s := setLaunch s { x with sigs := x.sigs.filter (fun r => !sigReady g x r) }
      (x.sigs.filter (sigReady g x)).foldl (fun s r => objAdd (latchWaits s) r.obj r.v.toNat) s

/-- Everything that a running launch can now do. -/
def advanceLaunch (s : State) (l : Nat) : State :=
  match launch s l with
  | none => s
  | some x =>
    let s := x.chunks.foldl (fun s c => advanceChunk s l c.engine c.idx) s
    let s := match launch s l with
      | some x => match launchGroup s x with
        | some g =>
          let (y, new) := herdWork g x
          if y = x then s else
            let s := setLaunch s { y with progress := now s }
            if new.isEmpty then s else tellOthers s g
        | none => s
      | none => s
    checkDone (judge (fireSigs s l) l) l

/-- Every running launch goes on as far as it can. -/
def advanceLaunches (s : State) : State := s.coll.launches.foldl (fun s x => if x.stage = 2 then advanceLaunch s x.no else s) s

/-! ### Fencing (R113, R114) -/

/-- A group whose map engines that `e` serves are served by `n` from now on. -/
def Group.moveTo (e n : Nat) (g : Group) : Group :=
  let es := ((g.shards.map (fun sh => sh.engineAt g.me)).eraseDups).filter (fun m => g.server m == e)
  { g with moved := es.foldl (fun m k => mapSet id m k n) g.moved }

/-- The groups served by an engine go to another, and RED_ACTIVE of their launches with them. -/
def moveGroups (s : State) (e n : Nat) : State :=
  let s := s.coll.launches.foldl lowerActive s
  let s := { s with coll := { s.coll with groups := s.coll.groups.map (Group.moveTo e n) } }
  s.coll.launches.foldl raiseActive s

/-- An engine leaves service: its groups go to the lowest sibling, or, with none, their launches end with ENGINE_LOST
and their jobs take a UNIT fault. A job is concerned when a group of it names the die, with or without a launch in
flight. (DESIGN CHOICE, log entry 77.) -/
def leaveEngine (s : State) (e : Nat) : State :=
  match sibling s (e / 4) with
  | some n => moveGroups s e n
  | none =>
    let named (g : Group) : Bool := g.shards.any (fun sh => sh.engineAt g.me / 4 == e / 4)
    let gs := s.coll.groups.filter named
    let s := { s with coll := { s.coll with groups := s.coll.groups.map (fun g => if named g then { g with lost := true } else g) } }
    let s := (s.coll.launches.filter (fun x => x.stage == 2 && gs.any (fun g => g.gid == x.gid && g.job == x.job))).foldl
      (fun s x => finishLaunch s x 0x0A true) s
    jobFaults s (96 + e) 0x03 0x0A ((gs.map (fun g => g.job)).eraseDups)

/-- Two mismatches of an engine within 1 s (R113). -/
def secondMismatch (s : State) (e : Nat) : Bool :=
  match s.coll.residueAt.filter (fun r => r.1 == e) with
  | a :: b :: _ => decide (a.2.toNat ≤ b.2.toNat + 1000000000)
  | _ => false

/-- ENGINE_FENCE (R113). -/
def execEngineFence (e : Engine) (s : State) : Host.Outcome State Fault Refusal :=
  .next (ifRunning s (
    if secondMismatch s e && !isSet s (RED_STATUS e) RED_STATUS_FENCED then
      let s := setF s (RED_STATUS e) RED_STATUS_FENCED 1
      let s := { s with coll := { s.coll with residueAt := s.coll.residueAt.filter (fun r => r.1 != e.val) },
                        flt := { s.flt with lasting := s.flt.lasting ++ [80 + e.val] } }
      leaveEngine (fault s (96 + e) 0x05 2 0xFFFF 0) e
    else s))

/-! ### Groups (R95, R96) -/

/-- The lists of a group map: `k` 32-bit words from word `i` on. -/
def mapWords (m : List (BitVec 32)) (i : Nat) : Nat := (m.getD i 0).toNat
/-- A 64-bit word of a group map, by its 32-bit index. -/
def mapLong (m : List (BitVec 32)) (i : Nat) : Nat := mapWords m i + mapWords m (i + 1) * 2 ^ 32

/-- A group map (Table 15.7); none when its counts, its lists or its trees break R95. -/
def parseGroup (s : State) (m : List (BitVec 32)) : Option Group :=
  let h0 := mapLong m 0
  let h1 := mapLong m 2
  let h2 := mapLong m 4
  let nm := bits h1 24 0
  let nr := bits h1 38 32
  let nd := bits h2 15 0
  let ns := bits h2 47 16
  let j := bits h0 47 32
  if nm < 2 ∨ 2 ^ 24 < nm ∨ nr = 0 ∨ 64 < nr ∨ nd = 0 ∨ ns = 0 ∨ 4 < bits h1 42 40
      ∨ m.length < 16 + nd + 2 * nm + ns * (2 + nd) then none
  else
    let devices := (List.range nd).map (fun i => bits (mapWords m (16 + i)) 19 0)
    let members := (List.range nm).map (fun i =>
      let w := mapLong m (16 + nd + 2 * i)
      (bits w 19 0, bits w 25 20, bits w 47 32))
    let shards := (List.range ns).map (fun i =>
      let o := 16 + nd + 2 * nm + i * (2 + nd)
      let w := mapLong m o
      (⟨bits w 15 0, bits w 51 32, (List.range nd).map (fun k =>
        (bits (mapWords m (o + 2 + k)) 15 0, bits (mapWords m (o + 2 + k)) 19 16))⟩ : Shard))
    let okTree (sh : Shard) : Bool :=
      decide (sh.owner < nd) && (sh.parent sh.owner).isNone
        && (List.range nd).all (fun k => match sh.parent k with | none => true | some p => decide (p < nd) && sh.above sh.owner nd k)
    match (List.range nd).find? (fun i => translate s j (devices.getD i 0) == .here) with
    | none => none
    | some me =>
      if members.all (fun x => decide (x.2.1 < nr) && decide (x.2.2 < nd)) && shards.all okTree then
        some { gid := bits h0 15 0, cset := bits h0 31 16, job := j, herdK := bits h0 63 48, vc := bits h1 42 40,
               replicas := nr, devices := devices, members := members, shards := shards, me := me,
               digest := sha3 (m.flatMap (fun w => toBytes 4 w.toNat)), expelled := 0, stats := [], lost := false,
               moved := [], fwd := [] }
      else none

/-- Engines of a new group's map that do not take work are served by a sibling at once. -/
def placeGroup (s : State) (g : Group) : Group :=
  ((g.shards.map (fun sh => sh.engineAt g.me)).eraseDups).foldl (fun g e =>
    if engineUp s e then g
    else match sibling s (e / 4) with
      | some n => { g with moved := mapSet id g.moved e n }
      | none => { g with lost := true }) g

/-- Lowest free conflict-set slot. -/
def freeCset (s : State) : Option Nat := (List.range 1024).find? (fun k => !(s.coll.csets.any (fun c => c.slot == k)))

/-- A conflict set without group or launch is gone. -/
def tidyCset (s : State) (j id : Nat) : State :=
  match csetOf s j id with
  | none => s
  | some c =>
    if s.coll.groups.any (fun g => g.job == j && g.cset == id) || s.coll.launches.any (fun x => x.job == j && x.cset == id)
    then s
    else setReg { s with coll := { s.coll with csets := s.coll.csets.filter (fun y => y.slot != c.slot) } } (RED_CSET_NEXT 0 c.slot) 0

/-- The group's conflict set exists, at E = 0 when new or registered again after it broke. -/
def enterCset (s : State) (g : Group) : Option State :=
  if g.cset = 0xFFFF then some s
  else match csetOf s g.job g.cset with
    | some c => some (if c.broken then setCset s { c with e := 0, broken := false, gap := none, retries := 0 } else s)
    | none => (freeCset s).map (fun k =>
        let c : Cset := ⟨k, g.cset, g.job, 0, false, none, 0, none⟩
        showCset { s with coll := { s.coll with csets := s.coll.csets ++ [c] } } c)

/-- GROUP_REG (R95, R96): status and state. -/
def registerGroup (s : State) (j : Nat) (m : List (BitVec 32)) : Nat × State :=
  match parseGroup s m with
  | none => (0x01, s)
  | some g =>
    if g.job ≠ j ∨ vcEnabled s j g.vc = false then (0x01, s)
    else if g.cset = 0xFFFF ∧ s.coll.groups.any (fun y => y.job == j && y.gid != g.gid) = true then (0x0D, s)
    else
      let others := s.coll.groups.filter (fun y => !(y.job == j && y.gid == g.gid))
      if 4096 ≤ others.length then (0x05, s)
      else match enterCset s g with
        | none => (0x05, s)
        | some s' => (0, { s' with coll := { s'.coll with
            groups := others ++ [placeGroup s' g],
            done := s'.coll.done.filter (fun d => !(d.job == j && d.gid == g.gid)) } })

/-- GROUP_REG: words 2 and 3 of the body; a map that host memory does not give is HOST_READ. -/
def execGroupReg (r : RingId) (block : Option (List (BitVec 32))) (s : State) : Host.Outcome State Fault Refusal :=
  .next (dispatch s r 6 (fun s e =>
    if !e.headOk || !e.bodyOk (fun i => if i = 2 ∨ i = 3 then BitVec.allOnes 64 else 0) then cmdDone s r e 0x01 0 false
    else if (job s e.job).isNone then cmdDone s r e 0x04 0 false
    else match block with
      | none => cmdDone s r e 0x02 0 false
      | some m =>
        let (st, s) := registerGroup s e.job (m.take ((wordAt e.words 3).toNat / 4))
        cmdDone s r e st 0 false))

/-- GROUP_DEREG (R392): the group's launches in flight end with it. -/
def execGroupDereg (r : RingId) (s : State) : Host.Outcome State Fault Refusal :=
  .next (dispatch s r 7 (fun s e =>
    let gid := bits (wordAt e.words 2).toNat 15 0
    if !e.headOk || !e.bodyOk (fun i => if i = 2 then 0xFFFF else 0) then cmdDone s r e 0x01 0 false
    else if (job s e.job).isNone then cmdDone s r e 0x04 0 false
    else match groupOf s e.job gid with
      | none => cmdDone s r e 0x01 0 false
      | some g =>
        if s.coll.launches.any (fun x => x.job == e.job && x.gid == gid) then cmdDone s r e 0x06 0 false
        else
          let s := { s with coll := { s.coll with groups := s.coll.groups.filter (fun y => !(y.job == e.job && y.gid == gid)) } }
          cmdDone (tidyCset s e.job g.cset) r e 0 0 false))

end Sys2Proof.Machine
end

