-- ==== Sys2Proof/Machine/Flow.lean ====
section
/-! DEFINITION. The instructions of flow programs (R182, R239–R243), and the packets that feed a launch (R99, R108,
R118, R120, R258). -/
namespace Sys2Proof.Machine

/-! ### Issue (R242) -/

/-- A flow sequencer of an admitted launch issues: it does not wait and has not passed FEND. The sequencer serves the
map engine `e`. -/
def onFlow (s : State) (e l : Nat) (k : State → Group → Launch → Flow → State) : State :=
  if running s then
    match launch s l with
    | none => s
    | some x =>
      match launchGroup s x, x.flows.find? (fun f => f.engine == e) with
      | some g, some f => if x.stage = 2 ∧ f.wait = none ∧ f.fend = false then k s g x f else s
      | _, _ => s
  else s

/-- A flow register; f0 reads as 0 (R182). -/
def fRead (f : Flow) (r : FReg) : Word := if r = 0 then 0 else f.f[r.val]
/-- A flow with a register written; a write to f0 is discarded. -/
def fWrite (f : Flow) (r : FReg) (v : Word) : Flow := if r = 0 then f else { f with f := f.f.set r.val v }
/-- A flow past one instruction. -/
def Flow.next (f : Flow) : Flow := { f with pc := f.pc + 1 }
/-- Put a flow of a launch. -/
def putFlow (s : State) (x : Launch) (f : Flow) : State := setLaunch s (updFlow x f.engine (fun _ => f))

/-- A launch that its flow program stops (R243): BAD_DESC. -/
def badFlow (s : State) (x : Launch) : State := finishLaunch s x 0x01 false

/-! ### Registers, branches and objects -/

/-- Result of an FALU; a shift by 64 or more is left open (R241). -/
def faluResult (s : State) (func : Nat) (a b : Word) : Word × State :=
  match func with
  | 0 => (a + b, s)
  | 1 => (a - b, s)
  | 2 => (a &&& b, s)
  | 3 => (a ||| b, s)
  | 4 => if b.toNat < 64 then (a <<< b.toNat, s) else fresh s
  | 5 => if b.toNat < 64 then (a >>> b.toNat, s) else fresh s
  | 6 => (a * b, s)
  | _ => (if a.toNat ≤ b.toNat then a else b, s)

/-- FALU (R241). -/
def execFalu (e : Engine) (l : Nat) (fd fa fb : FReg) (func : BitVec 14) (imm : BitVec 32) (s : State) :
    Host.Outcome State Fault Refusal :=
  if func.toNat ≤ 7 then
    .next (onFlow s e l (fun s _ x f =>
      let (v, s) := faluResult s func.toNat (fRead f fa) (fRead f fb + imm32 imm)
      putFlow s x (fWrite f fd v).next))
  else .refused .illFormed

/-- FPARAM (R240, R241). -/
def execFparam (e : Engine) (l : Nat) (fd : FReg) (imm : BitVec 32) (s : State) : Host.Outcome State Fault Refusal :=
  .next (onFlow s e l (fun s _ x f =>
    if 24 ≤ imm.toNat then badFlow s x else putFlow s x (fWrite f fd (wordAt x.words imm.toNat)).next))

/-- Condition of an FBR. -/
def fbrTaken (func : Nat) (a b : Word) : Bool :=
  match func with
  | 0 => true
  | 1 => a == b
  | 2 => a != b
  | 3 => decide (a.toNat < b.toNat)
  | _ => decide (b.toNat ≤ a.toNat)

/-- FBR (R241). -/
def execFbr (e : Engine) (l : Nat) (fa fb : FReg) (func : BitVec 14) (imm : BitVec 32) (s : State) :
    Host.Outcome State Fault Refusal :=
  if func.toNat ≤ 4 then
    .next (onFlow s e l (fun s _ x f =>
      putFlow s x (if fbrTaken func.toNat (fRead f fa) (fRead f fb) then { f with pc := imm.toNat } else f.next)))
  else .refused .illFormed

/-- Object of a parameter word. -/
def paramObj (x : Launch) (i : Nat) : Nat := bits (wordAt x.words i).toNat 15 0

/-- FWAIT (R241, R242): the sequencer waits until WAIT_WAKE finds the count reached. -/
def execFwait (e : Engine) (l : Nat) (fa : FReg) (imm : BitVec 32) (s : State) : Host.Outcome State Fault Refusal :=
  .next (onFlow s e l (fun s _ x f =>
    if 24 ≤ imm.toNat then badFlow s x
    else putFlow s x { f.next with wait := some (paramObj x imm.toNat, fRead f fa) }))

/-- FSIG (R201, R241): the add takes effect once the engine's earlier writes are done. -/
def execFsig (e : Engine) (l : Nat) (fa : FReg) (imm : BitVec 32) (s : State) : Host.Outcome State Fault Refusal :=
  .next (onFlow s e l (fun s g x f =>
    if 24 ≤ imm.toNat then badFlow s x
    else
      let open' := (x.chunks.filter (fun c => c.engine == e.val && !chunkQuiet g x c)).map (fun c => c.idx)
      let s := putFlow s { x with sigs := x.sigs ++ [⟨e, paramObj x imm.toNat, fRead f fa, open'⟩] } f.next
      advanceLaunch s l))

/-! ### Chunks -/

/-- An operation on chunk f[fa] of the engine; an index outside its shards ends the launch. -/
def onChunk (s : State) (e l : Nat) (fa : FReg) (k : State → Group → Launch → Flow → Chunk → State) : State :=
  onFlow s e l (fun s g x f =>
    match getChunk g x e (fRead f fa).toNat with
    | none => badFlow s x
    | some c => k s g x f c)

/-- A chunk changes, its flow goes on, and the launch does what it now can. -/
def chunkOp (s : State) (x : Launch) (f : Flow) (c : Chunk) : State :=
  advanceLaunch (putFlow s (putChunk x c) f.next) x.no

/-- Chunks of an engine that stand open. -/
def openChunks (x : Launch) (e : Nat) : Nat :=
  (x.chunks.filter (fun c => c.engine == e && c.opened && !c.closed)).length

/-- CH.OPEN (R241, R242): one that would make more than WINDOW chunks open waits. -/
def execChOpen (e : Engine) (l : Nat) (fa : FReg) (s : State) : Host.Outcome State Fault Refusal :=
  .next (onChunk s e l fa (fun s _ x f c =>
    if c.opened then putFlow s x f.next
    else if x.window ≤ openChunks x e then s
    else chunkOp s x f { c with opened := true }))

/-- CH.CLOSE (R241): the chunk closes once every input has been added. -/
def execChClose (e : Engine) (l : Nat) (fa : FReg) (residueOk : Bool) (s : State) : Host.Outcome State Fault Refusal :=
  .next (onChunk s e l fa (fun s g x f c =>
    if !residueOk && !c.closed && c.full x (expected g x (shardAt g c.shard)) then
      let s := residueFails s g l e
      match launch s l with
      | some x => chunkOp s x f { c with closeReq := true }
      | none => s
    else chunkOp s x f { c with closeReq := true }))

/-- CH.DOWN (R241). -/
def execChDown (e : Engine) (l : Nat) (fa : FReg) (s : State) : Host.Outcome State Fault Refusal :=
  .next (onChunk s e l fa (fun s _ x f c => chunkOp s x f { c with downReq := true }))

/-- Bytes of a chunk's elements. -/
def chunkLen (x : Launch) (c : Chunk) : Nat := (c.len * fmtWidth x.inFmt + 7) / 8

/-- Bytes read at DEST_ADDR, or why the read gives none. -/
inductive Read where
  | ok (b : List Byte)
  | asleep (u : Nat)
  | failed (st : Store) (k : Nat)
  | gone
deriving DecidableEq, Repr

/-- Read bytes at a device address. -/
def readAt (s : State) (addr len : Nat) : Read :=
  match locateSpan s none addr len with
  | none => .gone
  | some (st, k) =>
    match sleeper s st with
    | some u => .asleep u
    | none => match badIn s k len with
      | some w => .failed st w
      | none => .ok (rdBytes s k len)

/-- A read of a running launch: the launch goes on with the bytes, waits for a wake, or ends. -/
def afterRead (s : State) (x : Launch) (r : Read) (k : List Byte → State) : State :=
  match r with
  | .ok b => k b
  | .asleep u => demandWake s u
  | .gone => finishLaunch s x 0x09 false
  | .failed st w => finishLaunch (persist s st w 1 (BitVec.ofNat 16 x.job)) x 0x09 true

/-- GA.SRC reads its chunk at DEST_ADDR, with its scales where the data carry them, and sends it down the tree (R173). -/
def gatherFrom (s : State) (g : Group) (x : Launch) (f : Flow) (c : Chunk) : State :=
  afterRead s x (readAt s (destAddr x x.inFmt c.first) (chunkLen x c)) (fun b =>
    if x.mx then
      afterRead s x (readAt s (scaleAddr x c.first) (c.len / 32)) (fun q =>
        let c := { c with sourced := true, result := some (x.inFmt, unpackCodes x.inFmt b),
                          scales := (List.range q.length).zip (q.map BitVec.toNat) }
        advanceLaunch (putFlow s (putChunk x c) f.next) x.no)
    else
      let s := putFlow s (putChunk x { c with sentDown := true }) f.next
      advanceLaunch (collDown s g x.no c.engine (shardAt g c.shard) c.first 3 x.inFmt b) x.no)

/-- GA.SRC (R241). A launch without DEST_ADDR has nothing to send. -/
def execGaSrc (e : Engine) (l : Nat) (fa : FReg) (s : State) : Host.Outcome State Fault Refusal :=
  .next (onChunk s e l fa (fun s g x f c => if x.dest = 0 then putFlow s x f.next else gatherFrom s g x f c))

/-- GA.FWD (R241). -/
def execGaFwd (e : Engine) (l : Nat) (fa : FReg) (s : State) : Host.Outcome State Fault Refusal :=
  .next (onChunk s e l fa (fun s _ x f c => chunkOp s x f { c with fwdReq := true }))

/-! ### Herd, statistics and the end -/

/-- The current shard of an engine for a replica (R118): the lowest whose digest is neither done nor asked for and
whose sender is on this device. -/
def currentShard (g : Group) (x : Launch) (e rep : Nat) : Option Nat :=
  (List.range g.shards.length).find? (fun i =>
    (shardAt g i).engineAt g.me == e && shardBytes g x i != 0
      && !(x.digests.any (fun d => d.1 == i && d.2.1 == rep)) && !(x.finalReq.contains (i, rep))
      && match herdSender g i rep with | some m => m.2.2 == g.me | none => false)

/-- HH.LEAF (R118): the leaf is hashed once its bytes are in. -/
def execHhLeaf (e : Engine) (l : Nat) (fa fb : FReg) (s : State) : Host.Outcome State Fault Refusal :=
  .next (onFlow s e l (fun s g x f =>
    let rep := (fRead f fb).toNat
    let leaf := (fRead f fa).toNat
    match currentShard g x e rep with
    | none => putFlow s x f.next
    | some i =>
      if leaf < leafCount (shardBytes g x i) then
        advanceLaunch (putFlow s { x with leafReq := x.leafReq ++ [(e.val, i, rep, leaf)] } f.next) l
      else putFlow s x f.next))

/-- HH.FINAL (R118–R120). -/
def execHhFinal (e : Engine) (l : Nat) (fb : FReg) (s : State) : Host.Outcome State Fault Refusal :=
  .next (onFlow s e l (fun s g x f =>
    let rep := (fRead f fb).toNat
    match currentShard g x e rep with
    | none => putFlow s x f.next
    | some i => advanceLaunch (putFlow s { x with finalReq := x.finalReq ++ [(i, rep)] } f.next) l))

/-- ST.FINAL (R115): the engine's part counts; the last engine's passes the device's part to the other devices. -/
def execStFinal (e : Engine) (l : Nat) (s : State) : Host.Outcome State Fault Refusal :=
  .next (onFlow s e l (fun s g x f =>
    let x' := updFlow x e (fun _ => { f.next with statDone := true })
    let s := setLaunch s x'
    let s := if x.stats && !f.statDone && x'.flows.all (fun y => y.statDone) then tellOthers s g else s
    advanceLaunch s l))

/-- FEND (R241): the engine's part is done once every earlier operation is. -/
def execFend (e : Engine) (l : Nat) (s : State) : Host.Outcome State Fault Refusal :=
  .next (onFlow s e l (fun s _ x f => advanceLaunch (putFlow s x { f.next with fend := true }) l))

/-! ### Buffers (R255, R257, R264) -/

/-- The other die of incoming pair link `k` of a die (Table 9.7). -/
def pairDie (d k : Nat) : Nat := if k < d then k else k + 1

/-- Fault source of the pair link between two dies (Table 17.2). -/
def pairSource (a b : Nat) : Nat :=
  match min a b, max a b with
  | 0, y => 159 + y
  | 1, y => 161 + y
  | _, _ => 165

/-- Fault source of a requester of a die (Tables 9.7, 17.2). -/
def requesterSource (d r : Nat) : Nat :=
  if r < 8 then 112 + d + 4 * r
  else if r < 12 then 96 + 4 * d + (r - 8)
  else if r < 32 then 20 * d + (r - 12)
  else if r < 35 then pairSource d (pairDie d (r - 32))
  else 144 + d

/-- The last double free stands in SWC_DFREE (Table 9.15). -/
def recordDfree (s : State) (b : Buf) : State :=
  let r := SWC_DFREE b.die
  let s := setF (setF (setF s r SWC_DFREE_REQUESTER b.req) r SWC_DFREE_POOL b.pool) r SWC_DFREE_BUFFER b.idx
  setF (bump s r SWC_DFREE_COUNT 1) (SWC_STATUS b.die) SWC_STATUS_DFREE_EVENT 1

/-- A double free (R264): the buffer stays where it is; a STEP fault names the requester. The step of a DMA engine's core
ends, and so does the launch that holds an engine's buffer, with DATA_ERROR. (DEDUCED, log entry 84.) -/
def doubleFree (s : State) (b : Buf) (owner : Option Nat) : State :=
  let s := recordDfree s b
  let src := requesterSource b.die b.req
  if h : src < 80 then
    let c := core s src
    let s := fault s src 0x10 1 (if c.running then c.job else 0xFFFF) 0
    if c.running && c.trap.isNone then trapStop s ⟨src, h⟩ c.nextNo 0x06 c.lastPc else s
  else match owner.bind (fun k => if 0x100 ≤ k then launch s (k - 0x100) else none) with
    | some x => finishLaunch (fault s src 0x10 1 (BitVec.ofNat 16 x.job) 0) x 0x09 false
    | none => fault s src 0x10 1 0xFFFF 0

/-- A launch's reservation of staging still stands. -/
def staged (s : State) (owner : Option Nat) : Bool :=
  match owner.bind (fun k => if 0x100 ≤ k then launch s (k - 0x100) else none) with
  | some x => !x.staging.isEmpty
  | none => false

/-- A packet leaves a buffer whose state bit is set: the bit is cleared, the buffer goes back, and its credit is returned (R257,
R264). A dedicated buffer stays set aside while its link is up, and goes back to P2 after link down (R255); one of P3 stays
reserved while its launch runs (R110). -/
def releaseBuf (s : State) (b : Buf) (owner : Option Nat) : State :=
  let k := bitOf b.die b.pool b.idx
  let s := { s with net := { s.net with occ := s.net.occ.erase k } }
  match b.back with
  | some (p, v, twin, code) =>
    if code = 3 then
      if 1024 ≤ p then { s with net := { s.net with meshDed := s.net.meshDed.erase (p, v, twin) } }
      else if portUp s p then returnCredit s p v twin 3 else giveBuf s b.die 37 2 k
    else returnCredit (giveBuf s b.die b.req b.pool k) p v twin code
  | none =>
    if b.pool = 3 then (if staged s owner then s else clearBit s k) else giveBuf s b.die b.req b.pool k

/-- Free a buffer, for its owner (R257, R264). -/
def freeBuf (s : State) (b : Buf) (owner : Option Nat) : State :=
  if runsHas s.net.bits (bitOf b.die b.pool b.idx) then releaseBuf s b owner else doubleFree s b owner

/-- Free a packet's buffer. -/
def freePkt (s : State) (x : Pkt) : State := match x.buf with | some b => freeBuf s b x.owner | none => s

/-! ### COLL packets (R99, R108, R118, R120, R258) -/

/-- Engine of the map for a packet's first element. -/
def pktEngine (g : Group) (x : Launch) (off : Nat) : Nat :=
  match launchElem g x off with | some (e, _, _) => e | none => (g.shards.map (fun sh => sh.engineAt g.me)).headD 0

/-- Engine of a packet of a launch that is not yet known: the lowest of its group here, or of the die. -/
def earlyEngine (s : State) (y : Pkt) : Nat :=
  match groupOf s y.p.job y.p.group with
  | some g => g.server ((((g.shards.map (fun sh => sh.engineAt g.me)).mergeSort (fun a b => a ≤ b)).headD (4 * y.die)))
  | none => 4 * y.die

/-- The reduction engine that a COLL packet is for: the one that the group map names for its shard (R250). -/
def collEngine (s : State) (y : Pkt) : Nat :=
  match s.coll.launches.find? (fun x => x.job == y.p.job && x.gid == y.p.group && x.seq == y.p.lseq) with
  | some x => match launchGroup s x with
    | some g => g.server (pktEngine g x y.p.offset)
    | none => earlyEngine s y
  | none => earlyEngine s y

/-- The local consumer of a packet (R276): memory, a slot's queue, a reduction engine, the synchronisation objects, the
management endpoint or the Puppeteer. (DEDUCED, log entry 85.) -/
def consumerOf (s : State) (y : Pkt) : Nat × Nat :=
  match y.p.type with
  | 1 => (1, collEngine s y)
  | 2 => (2, y.p.slot)
  | 0 => (0, 0)
  | 3 => (3, 0)
  | 7 => (7, 0)
  | _ => (4, 0)

/-- `y`, which arrived before `x`, keeps it waiting: the same input, buffer class and consumer, and no fence has set either
aside (R276). -/
def ahead (s : State) (x y : Pkt) : Bool :=
  y.input == x.input && y.vc == x.vc && y.twin == x.twin && y.dest == x.dest && (y.hold == 0 || y.hold == 2) && x.hold != 4
    && consumerOf s y == consumerOf s x

/-- A local packet that its consumer can take, by its number: whole, and the first of its class and input. -/
def localPkt (s : State) (k : Nat) : Option Pkt :=
  match s.net.locals.find? (fun x => x.no == k) with
  | none => none
  | some x => if x.whole && !(s.net.locals.takeWhile (fun y => y.no != k)).any (ahead s x) then some x else none
/-- Put a local packet. -/
def setLocal (s : State) (x : Pkt) : State :=
  { s with net := { s.net with locals := s.net.locals.map (fun y => if y.no = x.no then x else y) } }
/-- A packet of a unit has left or been taken: a launch that waited for it may be done. -/
def packetGone (s : State) (x : Pkt) : State :=
  let s := packetLeft s x.owner
  match x.owner with
  | some k => if 0x100 ≤ k then checkDone s (k - 0x100) else s
  | none => s
/-- A local packet has been taken: its buffer is free, and it is gone. -/
def takeLocal (s : State) (x : Pkt) : State :=
  packetGone (freePkt { s with net := { s.net with locals := s.net.locals.filter (fun y => y.no != x.no) } } x) x

/-! ### Delivery under the fence rule (R280–R283) -/

/-- A packet has been delivered: its stream's count follows (R282, R283). -/
def countDelivered (s : State) (d : Nat) (p : Packet) : State :=
  let st := streamOf p
  match streamFind s d st with
  | some e => streamPut s d st (if p.fence then e.c - p.fcount else e.c + 1)
  | none =>
    if streamRoom s d then (if p.fence then s else streamPut s d st 1)
    else setF (bump s HUB_CNT_FENCE_UNTRACKED HUB_CNT_FENCE_UNTRACKED_COUNT 1) HUB_RT_STATUS HUB_RT_STATUS_FENCE_FULL_EVENT 1

/-- A fenced packet may be delivered: its predecessors have been (R282). -/
def fenceReady (s : State) (d : Nat) (p : Packet) : Bool :=
  match streamFind s d (streamOf p) with
  | some e => decide (p.fcount ≤ e.c)
  | none => p.fcount == 0

/-- How a fenced packet is held: until its predecessors have been delivered (3), or, where its stream has no entry and the
table no room, until it expires (6) (R282, R283). -/
def holdKind (s : State) (d : Nat) (p : Packet) : Nat :=
  if (streamFind s d (streamOf p)).isSome || streamRoom s d then 3 else 6

/-- A packet that a fence holds. -/
def Pkt.fenced (x : Pkt) : Bool := x.hold == 3 || x.hold == 6

/-- The acknowledgement of a fenced VC4 packet of a logical core (R281). The spec does not lay its payload out. -/
def fenceAck (s : State) (p : Packet) : State :=
  if p.fence && p.vc == 4 && decide (p.origin < 64) then
    match job s p.job with
    | none => s
    | some j =>
      let (w, s) := fresh s
      hubSend s { type := 4, vc := 6, job := p.job, src := j.rank.toNat, dst := p.src } (toBytes 8 w.toNat)
  else s

/-- Count and event of a packet that a fence holds; it opens its stream's entry where there is room, or is that entry's latest
packet (R283). -/
def countHold (s : State) (d : Nat) (p : Packet) : State :=
  let s := bump s HUB_CNT_FENCE_HOLD HUB_CNT_FENCE_HOLD_COUNT 1
  if (streamFind s d (streamOf p)).isSome then
    { s with net := { s.net with streams := s.net.streams.map (fun e =>
        if e.die == d && e.st == streamOf p then { e with last := now s } else e) } }
  else if streamRoom s d then { s with net := { s.net with streams := s.net.streams ++ [⟨d, streamOf p, 0, now s⟩] } }
  else setF s HUB_RT_STATUS HUB_RT_STATUS_FENCE_FULL_EVENT 1

/-- The held packet that a stream's count lets go: the oldest whose predecessors have been delivered, one at a time. -/
def toRelease (s : State) (d : Nat) (st : Stream) : Option Pkt :=
  match streamFind s d st with
  | none => none
  | some e =>
    let l := fencedWaiting s d st
    if l.any (fun y => y.hold == 4) then none else l.find? (fun y => y.hold == 3 && decide (y.p.fcount ≤ e.c))

/-- Such a packet is released (R282). -/
def releaseHeld (s : State) (d : Nat) (st : Stream) : State :=
  match toRelease s d st with
  | none => s
  | some y =>
    let one (x : Pkt) : Pkt := if x.no = y.no then { x with hold := 4 } else x
    { s with net := { s.net with locals := s.net.locals.map one,
                                 ports := s.net.ports.map (fun q => (q.1, { q.2 with q := q.2.q.map one })) } }

/-- A delivered local packet: taken, counted, acknowledged; the next held packet of its stream is released. -/
def deliverLocal (s : State) (d : Nat) (x : Pkt) : State :=
  releaseHeld (fenceAck (countDelivered (takeLocal s x) d x.p) x.p) d (streamOf x.p)

/-- A local packet under the fence rule: held, or handed to its consumer. A packet whose hold has ended goes on. -/
def underFence (s : State) (d : Nat) (x : Pkt) (k : State → State) : State :=
  if x.fenced then s
  else if x.p.fence && x.hold == 0 && !fenceReady s d x.p then
    countHold (setLocal s { x with hold := holdKind s d x.p, die := d, since := now s }) d x.p
  else k s

/-- Blocks of an MX-scaled payload. -/
def mxCount (p : Packet) : Nat := p.payload.length / mxBytes p.pfmt

/-- Terms of a payload; of an MX-scaled one, the elements, which come first (R105). -/
def pktTerms (mx : Bool) (p : Packet) : List Term :=
  if p.pfmt = fmtTxp then (txpElems 170 p.payload).map .acc
  else (unpackCodes p.pfmt (if mx then p.payload.take (mxCount p * 4 * fmtWidth p.pfmt) else p.payload)).map (.code p.pfmt)

/-- Scale codes of an MX-scaled payload, by the first element of their block. -/
def pktScales (p : Packet) : List (Nat × Nat) :=
  let q := (p.payload.drop (mxCount p * 4 * fmtWidth p.pfmt)).take (mxCount p)
  ((List.range q.length).map (fun i => p.offset + 32 * i)).zip (q.map BitVec.toNat)

/-- Elements numbered from an index. -/
def indexed : Nat → List Term → List (Nat × Term)
  | _, [] => []
  | i, t :: ts => (i, t) :: indexed (i + 1) ts

/-- One element of an expected input enters its chunk; a copy, or one for a closed chunk, is counted instead. The second
component counts elements added, the third copies. -/
def addTerm (g : Group) (child : Bool) (rank : Nat) (a : Launch × Nat × Nat) (t : Nat × Term) : Launch × Nat × Nat :=
  match launchElem g a.1 t.1 with
  | none => a
  | some (e, c, j) =>
    match getChunk g a.1 e c with
    | none => a
    | some ch =>
      if !takesFrom g a.1 child rank t.1 then a
      else if ch.closed || ch.has child rank j then (a.1, a.2.1, a.2.2 + 1)
      else (putChunk a.1 { ch with staged := ch.staged ++ [⟨child, rank, j, t.2⟩] }, a.2.1 + 1, a.2.2)

/-- One element from the parent. -/
def addGot (g : Group) (a : Launch × Nat × Nat) (t : Nat × Term) : Launch × Nat × Nat :=
  match launchElem g a.1 t.1, t.2 with
  | some (e, c, j), .code _ v =>
    match getChunk g a.1 e c with
    | none => a
    | some ch =>
      if (mapFind ch.got j).isSome then (a.1, a.2.1, a.2.2 + 1)
      else (putChunk a.1 { ch with got := mapPut ch.got j v }, a.2.1 + 1, a.2.2)
  | _, _ => a

/-- One scale of a block; a copy changes nothing. -/
def addScale (g : Group) (x : Launch) (t : Nat × Nat) : Launch :=
  match launchElem g x t.1 with
  | none => x
  | some (e, c, j) =>
    match getChunk g x e c with
    | none => x
    | some ch => if (mapFind ch.scales (j / 32)).isSome then x else putChunk x { ch with scales := mapPut ch.scales (j / 32) t.2 }

/-- The scales of a packet enter their chunks, where their elements do. -/
def addScales (g : Group) (p : Packet) (ok : Nat → Bool) (a : Launch × Nat × Nat) : Launch × Nat × Nat :=
  if a.1.mx then (((pktScales p).filter (fun t => ok t.1)).foldl (addScale g) a.1, a.2.1, a.2.2) else a

/-- Some chunk that the elements touch is open. -/
def touchesOpen (g : Group) (x : Launch) (off n : Nat) : Bool :=
  (List.range n).any (fun i => match launchElem g x (off + i) with
    | some (e, c, _) => match findChunk x e c with | some ch => ch.opened | none => false
    | none => true)

/-- RED_CNT_ELEM and RED_CNT_DUP of a packet of inputs. -/
def countElems (s : State) (srv added dup : Nat) : State :=
  let s := bump s (RED_CNT_ELEM srv) RED_CNT_ELEM_COUNT added
  bump s (RED_CNT_DUP srv) RED_CNT_DUP_COUNT dup

/-- Bytes of a herd packet in their shard; those already in are counted as copies. -/
def addHerd (sh rep : Nat) : Nat → List Byte → Launch × Nat × Nat → Launch × Nat × Nat
  | _, [], a => a
  | i, b :: bs, a =>
    if a.1.herdBytes.any (fun y => y.1 == sh && y.2.1 == rep && y.2.2.1 == i) then addHerd sh rep (i + 1) bs (a.1, a.2.1, a.2.2 + 1)
    else addHerd sh rep (i + 1) bs ({ a.1 with herdBytes := a.1.herdBytes ++ [(sh, rep, i, b)] }, a.2.1 + 1, a.2.2)

/-- The bytes of a member's packet of a HERD launch from element `off` on, shard by shard (R118): only the sender's bytes
of a shard count, and the others are copies. The launch and the copies, in elements (structural in the shards left). -/
def herdBytesFrom (g : Group) (m : Nat × Nat × Nat) : Nat → Nat → List Byte → Launch × Nat → Launch × Nat
  | 0, _, _, a => a
  | k + 1, off, bs, (x, dup) =>
    let w := fmtWidth x.inFmt
    let sh := shardOf g x off
    let q := shardPart g x sh
    let n := min (q.1 + q.2 - off) (bs.length * 8 / max 1 w)
    if n = 0 then (x, dup)
    else
      let mine := bs.take ((n * w + 7) / 8)
      let (y, d) :=
        if herdSender g sh m.2.1 = some m then
          let (y, _, d) := addHerd sh m.2.1 ((off - q.1) * w / 8) mine (x, 0, 0)
          (y, d * 8 / max 1 w)
        else (x, n)
      herdBytesFrom g m k (off + n) (bs.drop mine.length) (y, dup + d)

/-- A member's packet of a HERD launch (R118). -/
def herdPkt (g : Group) (x : Launch) (p : Packet) : Launch × Nat × Nat :=
  match g.members.find? (fun m => m.1 == p.input) with
  | none => (x, 0, p.payload.length * 8 / max 1 (fmtWidth x.inFmt))
  | some m =>
    let (y, d) := herdBytesFrom g m g.shards.length p.offset p.payload (x, 0)
    (y, 0, d)

/-- What a running launch makes of a packet: the launch, elements added, copies. -/
def feedLaunch (g : Group) (x : Launch) (p : Packet) : Launch × Nat × Nat :=
  let ts := indexed p.offset (pktTerms x.mx p)
  match p.ckind with
  | 0 =>
    if x.op = 5 then herdPkt g x p
    else addScales g p (takesFrom g x false p.input) (ts.foldl (addTerm g false p.input) (x, 0, 0))
  | 1 => addScales g p (takesFrom g x true p.input) (ts.foldl (addTerm g true p.input) (x, 0, 0))
  | 2 => addScales g p (fun _ => true) (ts.foldl (addGot g) (x, 0, 0))
  | 3 => addScales g p (fun _ => true) (ts.foldl (addGot g) (x, 0, 0))
  | _ => (x, 0, 0)

/-- A packet enters its running launch. A result for this device's own rank of a REDUCE or REDUCE_SCATTER is written at
DEST_ADDR. -/
def takeColl (s : State) (g : Group) (x : Launch) (y : Pkt) (residueOk : Bool) : State :=
  let p := y.p
  let e := pktEngine g x p.offset
  let srv := g.server e
  if p.stomp then finishLaunch (takeLocal s y) x 0x09 false
  else if p.ckind = 0 ∧ g.expels p.input = true then bump (deliverLocal s y.die y) (RED_CNT_IGNORED srv) RED_CNT_IGNORED_COUNT 1
  else if p.ckind = 2 ∧ (x.op = 1 ∨ x.op = 4) then
    match destWrite s x p.pfmt p.offset p.payload with
    | .asleep u => demandWake s u
    | d => deliverLocal (afterDst s x d id) y.die y
  else
    let (x', added, dup) := feedLaunch g x p
    let s := setLaunch s { x' with progress := if added = 0 then x'.progress else now s }
    let s := countElems (deliverLocal s y.die y) srv (if p.ckind ≤ 1 then added else 0) dup
    let s := if !residueOk && added != 0 then residueFails s g x.no e else s
    advanceLaunch s x.no

/-- Bytes held in the early-arrival area of a die. -/
def earlyBytes (s : State) (d : Nat) : Nat :=
  ((s.net.locals.filter (fun y => y.hold == 1 && y.die == d)).map (fun y => 64 + y.p.payload.length)).sum

/-- A packet of a launch that is not yet admitted (R108): held in the early-arrival area while it has room; beyond it,
credit for the packet's VC is withheld on its port. -/
def holdEarly (s : State) (y : Pkt) : State :=
  if y.hold = 1 ∨ y.hold = 5 then s
  else if earlyBytes s y.die + 64 + y.p.payload.length ≤ 524288 then
    let s := freePkt (setLocal s { y with hold := 1, since := now s, buf := none }) y
    let e := earlyEngine s y
    bump s (RED_CNT_EARLY e) RED_CNT_EARLY_COUNT 1
  else
    let s := [0, 1, 2, 3].foldl (fun s i => setF s (RED_STATUS (4 * y.die + i)) RED_STATUS_EARLY_HOLD 1) s
    let s := setLocal s { y with hold := 5, since := now s }
    match y.port with
    | some p => withhold s p y.vc 1
    | none => s

/-- The launch that a packet names, when it has ended here. -/
def endedLaunch (s : State) (p : Packet) : Option Launch :=
  s.coll.done.find? (fun x => x.job == p.job && x.gid == p.group && x.seq == p.lseq)

/-- A packet of a launch that has ended here is consumed: an expelled rank's contribution is ignored (R120), and an element
that the launch had added for the same input is counted as a copy (R99). -/
def latePkt (s : State) (x : Launch) (y : Pkt) : State :=
  let p := y.p
  let e := earlyEngine s y
  let s := settleEarly (deliverLocal s y.die y)
  if 1 < p.ckind then s
  else match launchGroup s x with
    | some g =>
      if p.ckind = 0 ∧ g.expels p.input = true then bump s (RED_CNT_IGNORED e) RED_CNT_IGNORED_COUNT 1
      else bump s (RED_CNT_DUP e) RED_CNT_DUP_COUNT (feedLaunch g x p).2.2
    | none => s

/-- COLL_PACKET: the launch takes the packet once it is admitted and has opened a chunk that the packet touches; a
packet of a launch that has ended here is consumed. -/
def collPkt (s : State) (y : Pkt) (residueOk : Bool) : State :=
  let p := y.p
  match s.coll.launches.find? (fun x => x.job == p.job && x.gid == p.group && x.seq == p.lseq) with
  | none => match endedLaunch s p with
    | some x => latePkt s x y
    | none => holdEarly s y
  | some x =>
    if x.stage ≠ 2 then holdEarly s y
    else match launchGroup s x with
      | none => takeLocal s y
      | some g =>
        if p.ckind ≤ 1 ∧ x.op ≠ 5 ∧ p.stomp = false ∧ touchesOpen g x p.offset (pktTerms x.mx p).length = false then s
        else takeColl s g x y residueOk

def execCollPacket (k : Nat) (residueOk : Bool) (s : State) : Host.Outcome State Fault Refusal :=
  .next (ifRunning s (match localPkt s k with
    | some y => if y.p.type = 1 then underFence s y.die y (fun s => collPkt s y residueOk) else s
    | none => s))

end Sys2Proof.Machine
end

