-- ==== Sys2Proof/Machine/Switch.lean ====
section
/-! DEFINITION. The switch core's commands (R246–R268, R280–R283, R291–R293, R298): packets that enter a slice, are
refused, delivered or transmitted, buffers granted, fences that expire. -/
namespace Sys2Proof.Machine

/-! ### Refusal (R251) -/

/-- Bytes 0 to 55 of a header, and the cause word. -/
def refusePayload (p : Packet) (cause : Nat) : List Byte := toBytes 56 p.hdr.toNat ++ toBytes 8 cause

/-- This device's rank in a job; 0 for a job that is not admitted. -/
def ownRank (s : State) (j : Nat) : Nat := match job s j with | some x => x.rank.toNat | none => 0

/-- A rank can be translated. -/
def translates (s : State) (j r : Nat) : Bool := match translate s j r with | .refuse _ => false | _ => true

/-- The REFUSE packet for a packet: to its source, or to the link partner of its arrival port. -/
def sendRefuse (s : State) (x : Pkt) (cause : Nat) : State :=
  let p := x.p
  let q := mkPacket { type := 7, vc := 6, job := p.job, src := ownRank s p.job, dst := p.src, origin := 0x0200,
                      birth := (now s).toNat % 2 ^ 40 } (refusePayload p cause)
  if translates s p.job p.src then sendOut s x.die 283 q none .here true
  else match x.port with
    | some a => sendOut s x.die 283 q none (.port a false) true
    | none => s

/-- A packet is refused (R251): freed, counted, and answered but for a RADD or a REFUSE. -/
def refusePkt (s : State) (x : Pkt) (cause : Nat) : State :=
  let p := x.p
  let s := packetGone (freePkt { s with net := { s.net with locals := s.net.locals.filter (fun y => y.no != x.no) } } x) x
  let s := bump s (SWC_CNT_REFUSE x.die) SWC_CNT_REFUSE_COUNT 1
  let s := setF s (SWC_STATUS x.die) SWC_STATUS_REFUSE_EVENT 1
  let s := setReg s (SWC_LAST_REFUSE x.die)
    (BitVec.ofNat 64 (cause + (x.port.getD 0x3FF) * 2 ^ 4 + p.job * 2 ^ 14 + p.src * 2 ^ 30))
  if p.type = 3 ∨ p.type = 7 then s else sendRefuse s x cause

/-- A packet that has not come in whole stands where the rest of it is received, to be refused or dropped at its end. -/
def drainPkt (s : State) (x : Pkt) (d : Dest) : State :=
  { s with net := { s.net with locals := s.net.locals.filter (fun y => y.no != x.no) ++ [{ x with dest := d, hold := 0 }] } }

/-- A packet that cannot be dispatched is received whole, then refused (R251). -/
def refuseWhole (s : State) (x : Pkt) (cause : Nat) : State :=
  if x.whole then refusePkt s x cause else drainPkt s x (.refuse cause)

/-- A packet is of no further use: its buffer is free once it has come in whole. -/
def discard (s : State) (x : Pkt) : State :=
  if x.whole then packetGone (freePkt s x) x else packetGone (drainPkt s { x with owner := none } .drop) x

/-- What became clear while a packet came in happens at its end: it is refused, or dropped; `ok` where it has come in whole. -/
def settleDrained (s : State) (k : Nat) (ok : Bool) : State :=
  match s.net.locals.find? (fun x => x.no == k) with
  | none => s
  | some x =>
    match x.dest with
    | .refuse c => if ok then refusePkt s x c else takeLocal s x
    | .drop => takeLocal s x
    | _ => s

/-! ### Mirrors (R266–R268) -/

/-- Session `k` of die `d` copies a packet of a port in a direction. -/
def mirMatches (s : State) (d k dir port : Nat) (p : Packet) : Bool :=
  let c := SWC_MIR_CTRL d k
  let dst := getF s c SWC_MIR_CTRL_DST_PORT
  isSet s c SWC_MIR_CTRL_EN && portClass s dst == 2 && portDie dst == d
    && match getF s c SWC_MIR_CTRL_SRC_KIND with
      | 0 => dir == 0 && port == getF s c SWC_MIR_CTRL_SRC_PORT
      | 1 => dir == 1 && port == getF s c SWC_MIR_CTRL_SRC_PORT
      | 2 => port == getF s c SWC_MIR_CTRL_SRC_PORT
      | _ => [0, 1].all (fun i => ext p.hdr (64 * i) 64 &&& reg s (SWC_MIR_MASK d k i) == reg s (SWC_MIR_MATCH d k i))

/-- The mirror record and the bytes of the original that follow it; a payload holds at most 2,048 bytes. -/
def mirPayload (s : State) (d k dir port : Nat) (p : Packet) : List Byte :=
  let len := 64 + p.payload.length
  let w0 := 2 * d + k + dir * 8 + port * 16 + len * 2 ^ 14
  let skipped := mapGet (fun _ => 0) s.net.mirSkip (2 * d + k)
  let orig := toBytes 64 p.hdr.toNat ++ p.payload
  (toBytes 8 w0 ++ toBytes 8 (now s).toNat ++ toBytes 8 skipped ++ toBytes 8 0
    ++ orig.take (getF s (SWC_MIR_CTRL d k) SWC_MIR_CTRL_TRUNC)).take 2048

/-- One session's copy of a packet: made when a buffer can be had at once, else counted as skipped.
(DESIGN CHOICE, log entry 87.) -/
def mirCopy (s : State) (d k dir port : Nat) (p : Packet) : State :=
  let i := 2 * d + k
  let pay := mirPayload s d k dir port p
  let out := mapGet (fun _ => 0) s.net.mirOut i
  match (if out < getF s (SWC_MIR_CTRL d k) SWC_MIR_CTRL_MAX_OUT then allocFrom s d 36 3 (fitPool pay.length) 0 else (.wait 0, 0)) with
  | (.got q, fb) =>
    let s := takeBuf (bump s (SWC_CNT_FALLBACK d) SWC_CNT_FALLBACK_COUNT fb) d 36 q
    let h : Hdr := { type := 8, vc := 4, birth := (now s).toNat % 2 ^ 40 }
    let c : Packet := { hdr := h.bits pay.length, payload := pay, bvc := 4, twin := false, credit := 3,
                        age := BitVec.ofNat 40 h.birth, seq := 0, stomp := false }
    let s := bump s (SWC_MIR_CNT d k) SWC_MIR_CNT_MADE 1
    let n := s.net.nextNo
    let s := sendOut s d 284 c (some (0x80 + i)) (.port (getF s (SWC_MIR_CTRL d k) SWC_MIR_CTRL_DST_PORT) false) true
    let (s, b) := occupy s ⟨d, 36, q, 0, none⟩
    { s with net := { s.net with
        outbox := s.net.outbox.map (fun x => if x.no = n then { x with buf := some b } else x),
        mirOut := mapSet (fun _ => 0) s.net.mirOut i (out + 1), mirSkip := mapSet (fun _ => 0) s.net.mirSkip i 0 } }
  | (.wait _, _) =>
    let s := bump s (SWC_MIR_CNT d k) SWC_MIR_CNT_SKIPPED 1
    let s := setF s (SWC_STATUS d) SWC_STATUS_MIR_SKIP_EVENT 1
    { s with net := { s.net with mirSkip := mapSet (fun _ => 0) s.net.mirSkip i (satAdd 32 (mapGet (fun _ => 0) s.net.mirSkip i) 1) } }

/-- The copies of a packet that the eight sessions take. -/
def mirror (s : State) (dir port : Nat) (p : Packet) : State :=
  [(0, 0), (0, 1), (1, 0), (1, 1), (2, 0), (2, 1), (3, 0), (3, 1)].foldl (fun s e =>
    if mirMatches s e.1 e.2 dir port p then mirCopy s e.1 e.2 dir port p else s) s

/-! ### Dispatch (R250) -/

/-- Where a packet in a slice goes. -/
inductive Way where
  | here
  | endpoint
  | out (q vc : Nat) (twin toEnd : Bool)
  | lost
  | refuse (cause : Nat)
deriving DecidableEq, Repr

/-- Types that reach the die's management endpoint without a rank: TIME and MGMT, between link partners (R40, R334). -/
def forEndpoint (t : Nat) : Bool := t == 5 || t == 6

/-- LNK version of a port; a port without a link takes what the current version can express. -/
def linkVersion (s : State) (q : Nat) : Nat :=
  let v := getF s (pStat q) LNK_PORT_STATUS_VERSION
  if v = 0 then 0x52 else v

/-- The way out by a port: refused there when its link cannot express the packet (R332). -/
def outBy (s : State) (p : Packet) (q vc : Nat) (twin toEnd : Bool) : Way :=
  if expressible (linkVersion s q) p then .out q vc twin toEnd else .refuse 4

/-- Kind of a port's partner: 1 KV9, 2 KV6, 3 endpoint, 0 none known. -/
def peerKind (s : State) (q : Nat) : Nat := getF s (LNK_PORT_PEER2 (portBundle q) (portLane q)) LNK_PORT_PEER2_KIND

/-- Translation and dispatch (R249, R250, Table 9.5). A MIRROR packet for this device has no consumer, and is refused with
cause TYPE. (DEDUCED, log entry 36.) -/
def dispatchOf (s : State) (p : Packet) (arrival : Option Nat) : Way :=
  match translate s p.job p.dst with
  | .refuse c => if forEndpoint p.type then (if typeOk p.type p.vc then .endpoint else .refuse 4) else .refuse c
  | x =>
    if !typeOk p.type p.vc then .refuse 4
    else if !vcEnabled s p.job p.vc then .refuse 5
    else match x with
      | .port q => outBy s p q p.vc false true
      | .remote a b c =>
        match egress s p arrival (triple a b c) with
        | some (q, vc, twin) => outBy s p q vc twin false
        | none => if (List.range 3).all (fun i => triple a b c i == ownCoord s i) then .refuse 2 else .lost
      | _ => if p.type = 8 then .refuse 4 else .here

/-- A REFUSE that cannot be dispatched is never refused in turn: the die's endpoint consumes it (R251). -/
def Way.orEndpoint (w : Way) (p : Packet) : Way :=
  match w with
  | .refuse c => if p.type = 7 then .endpoint else .refuse c
  | w => w

/-- Job traffic: every type but TIME and MGMT. -/
def jobTraffic (p : Packet) : Bool := !forEndpoint p.type

/-- The job's ranks on a port were bound to another identity than its partner's (R340). -/
def boundElsewhere (s : State) (q j : Nat) : Bool :=
  (port s q).bound.any (fun e => e.1 == j && e.2 != reg s (LNK_PORT_PEER (portBundle q) (portLane q)))

/-- An external endpoint's packet of a job none of whose ranks names its port, or whose ranks are bound to another identity
(R339, R340): the port has no such job, which is cause JOB. (DESIGN CHOICE, log entry 100.) -/
def strangerAt (s : State) (p : Packet) (arrival : Option Nat) : Bool :=
  match arrival with
  | some q => jobTraffic p && peerKind s q == 3 && (!(rankJobs s q).contains p.job || boundElsewhere s q p.job)
  | none => false

/-- The way of a packet (R250, R251, R339). -/
def wayOf (s : State) (p : Packet) (arrival : Option Nat) : Way :=
  (if strangerAt s p arrival then .refuse 1 else dispatchOf s p arrival).orEndpoint p

/-- A packet is lost with a link or device (R279). -/
def losePkt (s : State) (x : Pkt) : State :=
  settleStream (linkLoss (discard s x) 1) x.die (streamOf x.p)

/-- A core's packet takes its way by a port (R426). -/
def notePath (s : State) (x : Pkt) (q : Nat) : State :=
  match x.owner with
  | some n => if n < 80 ∧ (core s n).paths.contains q = false then setCore s n { core s n with paths := q :: (core s n).paths } else s
  | none => s

/-- A packet queues at its egress port (R279, R282, R340): with the link down, VC0–VC3 and VC5 are lost, and so is one
for a port whose hold has ended; a fenced packet for an endpoint waits for its predecessors. -/
def queueAt (s : State) (x : Pkt) (q : Nat) (toEnd : Bool) : State :=
  let down := !portUp s q
  if down && (neverRerouted x.vc || excluded s q || (toEnd && (port s q).downAt.isNone)) || (toEnd && boundElsewhere s q x.p.job)
  then losePkt s x
  else
    let d := portDie q
    let hold := toEnd && x.p.fence && !fenceReady s d x.p
    let x := { x with die := d, dest := .port q toEnd, hold := if hold then holdKind s d x.p else 0, since := now s }
    let s := if hold then countHold s d x.p else s
    notePath (setPort s q { port s q with q := (port s q).q ++ [x] }) x q

/-- Input number at a die of the pair link from another (R292). -/
def meshInput (d e : Nat) : Nat := 256 + (if d < e then d else d - 1)

/-- Die of a local consumer (R18, R250): that of the memory a DATA packet writes, of a slot's queue, of an object, or of the
reduction engine; the management endpoint is that of the die where the packet stands. -/
def consumerDie (s : State) (x : Pkt) : Nat :=
  match x.p.type with
  | 0 => match locate s none x.p.offset with | some (st, _) => st.die | none => x.die
  | 1 => collEngine s x / 4
  | 2 => match (if x.p.slotEn then locate s none (bits (slotWord s x.p.slot 3) 47 0) else none) with
    | some (st, _) => st.die
    | none => x.die
  | 3 => if x.p.syncEn then x.p.syncObj / 4096 / 4 else x.die
  | _ => x.die

/-- A packet for a local unit: with its consumer, or on its way to that consumer's die. -/
def placeLocal (s : State) (x : Pkt) : State :=
  let d := match x.dest with | .die d => d | _ => consumerDie s x
  if d = x.die ∨ x.buf = none then { s with net := { s.net with locals := s.net.locals ++ [{ x with dest := .here }] } }
  else { s with net := { s.net with outbox := s.net.outbox ++ [{ x with dest := .die d }] } }

/-- A packet that holds a buffer of its slice is dispatched: queued, sent across the die mesh, delivered or refused. -/
def placePkt (s : State) (x : Pkt) (w : Way) : State :=
  match w with
  | .refuse c => refuseWhole s x c
  | .lost => losePkt s x
  | .here => placeLocal s x
  | .endpoint =>
    if x.p.type = 7 then discard s x
    else { s with net := { s.net with locals := s.net.locals ++ [{ x with dest := .here }] } }
  | .out q vc twin toEnd =>
    let x := { x with vc := vc, twin := b2n twin, dest := .port q toEnd }
    if portDie q = x.die then queueAt s x q toEnd
    else { s with net := { s.net with outbox := s.net.outbox ++ [x] } }

/-- A mirror copy on a class H port in Ethernet mode leaves in a frame of its own kind, outside the link layer (R268).
(DESIGN CHOICE, log entry 87.) -/
def copyFrame (s : State) (q : Nat) (p : Packet) : Bool := portEth s q && p.type == 8

/-- The way of a packet whose sender has named its port, or by translation. -/
def wayFor (s : State) (x : Pkt) (arrival : Option Nat) : Way :=
  match x.dest with
  | .port q toEnd =>
    if copyFrame s q x.p then .out q x.vc (x.twin == 1) toEnd else (outBy s x.p q x.vc (x.twin == 1) toEnd).orEndpoint x.p
  | .die _ => .here
  | _ => wayOf s x.p arrival

/-! ### Packets from a port (R248, R253–R258, R291, R311, R325) -/

/-- A link error: the packet is asked for again (R324). -/
def nak (s : State) (q : Nat) : State := setPort s q { port s q with nakDue := true }

/-- Age key of a packet (R36, R291, R332). -/
def ageKey (s : State) (q : Option Nat) (p : Packet) : Nat :=
  let t := (now s).toNat
  let born := max (rebuild40 t p.birth) (t - 10000)
  match q with
  | none => born
  | some q =>
    if linkVersion s q < 0x50 then t
    else if peerKind s q = 1 then rebuild40 t p.age.toNat
    else born

/-- The credit that a packet uses is one the port has out. -/
def creditOut (x : PortSt) (p : Packet) : Bool :=
  if p.credit.val = 3 then 1 ≤ x.dedOut.getD (2 * p.bvc.val + b2n p.twin) 0
  else 1 ≤ x.granted.getD (3 * p.bvc.val + p.credit.val) 0

/-- The credit is used. -/
def useCredit (x : PortSt) (p : Packet) : PortSt :=
  if p.credit.val = 3 then { x with dedOut := decAt x.dedOut (2 * p.bvc.val + b2n p.twin) }
  else { x with granted := decAt x.granted (3 * p.bvc.val + p.credit.val) }

/-- Buffer behind the credit. -/
def portBuf (q : Nat) (p : Packet) : Buf :=
  ⟨portDie q, portBundle q / 4, if p.credit.val = 3 then 2 else p.credit.val, 0, some (q, p.bvc.val, b2n p.twin, p.credit.val)⟩

/-- Tokens of a bucket after `dt` ns at a rate in Mb/s, in 1/128,000 byte (R310). -/
def earned (rate dt : Nat) : Nat := rate * 16 * dt

/-- A port's buckets at the present FT (R310–R312). -/
def refill (s : State) (q : Nat) : State :=
  let x := port s q
  let dt := (now s).toNat - x.tokensAt.toNat
  let lev (i : Nat) : Nat := match i with
    | 0 => getF s (TSC_THROTTLE q) TSC_THROTTLE_LEVEL4
    | 1 => getF s (TSC_THROTTLE q) TSC_THROTTLE_LEVEL6
    | _ => getF s (TSC_THROTTLE q) TSC_THROTTLE_LEVEL7
  let sh (v t : Nat) : Nat :=
    min (getF s (TSC_SHAPER q v) TSC_SHAPER_BURST * 128000) (t + earned (getF s (TSC_SHAPER q v) TSC_SHAPER_RATE) dt)
  let po (v : Nat) (t : Int) : Int :=
    min ((getF s (TSC_POLICER q v) TSC_POLICER_BURST * 128000 : Nat) : Int)
      (t + (earned (getF s (TSC_POLICER q v) TSC_POLICER_RATE) dt : Nat))
  let th (i : Nat) (t : Int) : Int := min (4224 * 128000) (t + ((400000 * portLanes s q * lev i * dt : Nat) : Int))
  setPort s q { x with shaper := x.shaper.zipIdx.map (fun e => sh e.2 e.1),
                       policer := x.policer.zipIdx.map (fun e => po e.2 e.1),
                       throttle := x.throttle.zipIdx.map (fun e => th e.2 e.1), tokensAt := now s }

/-- The policer of a port and VC takes a packet's bytes; at zero or below, credits are withheld (R253, R311). -/
def police (s : State) (q v bytes : Nat) : State :=
  if isSet s (TSC_POLICER q v) TSC_POLICER_EN && !portEth s q then
    let s := refill s q
    let x := port s q
    let t := x.policer.getD v 0 - ((bytes * 128000 : Nat) : Int)
    let s := setPort s q { x with policer := x.policer.set v t }
    if t ≤ 0 then withhold s q v 0 else s
  else s

/-- The policers of a fabric port, at the present FT: credits of a VC whose bucket is at zero or below are withheld, those of
any other are not (R253, R311). -/
def checkPolicers (s : State) (q : Nat) : State :=
  if portEth s q then s
  else (List.range 8).foldl (fun s v =>
    if isSet s (TSC_POLICER q v) TSC_POLICER_EN && decide ((port s q).policer.getD v 0 ≤ 0) then withhold s q v 0
    else releaseHold s q v 0) s

/-- A packet received on a port, its credit used, as it stands in the slice; its end word is still to come. -/
def arrived (s : State) (q : Nat) (p : Packet) (b : Buf) : Pkt :=
  { no := s.net.nextNo, p := p, die := portDie q, port := some q, input := portLocal q, key := ageKey s (some q) p,
    arrived := now s, vc := p.bvc.val, twin := b2n p.twin, injected := peerKind s q != 1 && portClass s q != 1,
    buf := some b, dest := .here, hold := 0, since := now s, deferred := false, whole := false, owner := none }

/-- A packet passes the header check of a port (R248). A quarantined port takes buffer class VC7, twin 0, only (R337), and a
port in discovery MGMT only (R329). (DEDUCED, log entry 36.) -/
def receivePkt (s : State) (q : Nat) (p : Packet) : State :=
  let p := convertIn (linkVersion s q) p
  let x := port s q
  let (s, b) := occupy s (portBuf q p)
  let n := arrived s q p b
  let s := setPort s q { useCredit x p with rxSeq := x.rxSeq + 1, midway := true }
  let s := { s with net := { s.net with nextNo := s.net.nextNo + 1 } }
  let s := countPkt s q p.vc 0 (64 + p.payload.length)
  let s := if p.stomp then
      setF (bump s (SWC_CNT_STOMP n.die) SWC_CNT_STOMP_COUNT 1) (SWC_STATUS n.die) SWC_STATUS_STOMP_EVENT 1
    else s
  let s := mirror (police s q p.bvc.val (64 + p.payload.length)) 0 q p
  if portMgmtOnly s q && !(p.bvc == 7 && !p.twin) then placePkt s n (Way.orEndpoint (.refuse 5) p)
  else if portState s q = 3 ∧ p.type ≠ 6 then placePkt s n (Way.orEndpoint (.refuse 4) p)
  else placePkt s n (wayFor s n (some q))

/-- A packet that a replay brings again and the port has accepted already (R324): its number lies among the 2,047 before the
next expected one (R327). -/
def accepted (x : PortSt) (seq : BitVec 12) : Bool := 1 ≤ (x.rxSeq - seq).toNat && (x.rxSeq - seq).toNat ≤ 2047

/-- PACKET_FORWARD from a port: the link sequence, the header and the credit hold, or the packet is asked for again. A
replayed packet that has been accepted is discarded whole, and acknowledged; while a packet's end is awaited, its successor is
out of sequence. -/
def fromPort (s : State) (q : Nat) (p : Packet) : State :=
  if !portUp s q then s
  else if accepted (port s q) p.seq then setPort s q { port s q with ackDue := true }
  else if (port s q).midway = true ∨ p.seq ≠ (port s q).rxSeq ∨ pktOk (linkVersion s q) p = false ∨ creditOut (port s q) p = false then nak s q
  else receivePkt s q p

/-! ### Arbitration (R276, R292) -/

/-- `a` goes before `b` at an arbiter: the older key, then the input's turn (R292). -/
def goesFirst (rot : Nat) (a b : Pkt) : Bool :=
  decide (a.key < b.key) || (a.key == b.key && decide ((a.input + 285 - rot) % 285 < (b.input + 285 - rot) % 285))

/-- The packet of a list that goes first; the earlier of equals. -/
def firstOfClass (rot : Nat) : List Pkt → Option Pkt
  | [] => none
  | x :: xs => match firstOfClass rot xs with
    | some y => if goesFirst rot y x then some y else some x
    | none => some x

/-- The first packet of each input, by the packets in arrival order and the inputs seen (R276). -/
def inputHeads : List Pkt → List Nat → List Pkt
  | [], _ => []
  | x :: xs, seen => if seen.contains x.input then inputHeads xs seen else x :: inputHeads xs (x.input :: seen)

/-- rot of R292. -/
def rotNow (s : State) : Nat := (now s).toNat / 1000 % 285

/-- An arbiter's choice among the waiting packets of a buffer class, in arrival order: the oldest key, then the input's
turn, each input offering its first. -/
def arbiter (s : State) (l : List Pkt) : Option Pkt := firstOfClass (rotNow s) (inputHeads l [])

/-! ### Packets from inside the device (R254, R255, R260, R261, R265, R292) -/

/-- Requester of a packet of a local unit that enters a slice (Table 9.7). -/
def requesterOf (input : Nat) : Nat :=
  if input ≤ 262 then 8 + (input - 259)
  else if input ≤ 282 then 12 + (input - 263)
  else if input = 283 then 35 else 36

/-- The die of a packet's egress port or local consumer, when it is another than the one whose slice holds it (R18). -/
def crossing (x : Pkt) : Option Nat :=
  match x.dest, x.buf with
  | .port q _, some b => if portDie q = b.die then none else some (portDie q)
  | .die d, some b => if d = b.die then none else some d
  | _, _ => none

/-- A buffer handed to a requester that waited, from a pool on. -/
def handed (s : State) (d r pool : Nat) : Option Nat :=
  ([0, 1, 2].filter (pool ≤ ·)).find? (fun q => s.net.hand.contains (d, r, q))

/-- The chunk of its launch that a packet of an engine belongs to. -/
def chunkOf (s : State) (x : Pkt) : Option (Nat × Nat) :=
  match x.owner.bind (fun k => launch s (k - 0x100)) with
  | none => none
  | some l => (l.chunks.find? (fun c => decide (c.first ≤ x.p.offset) && decide (x.p.offset < c.first + c.len))).map
      (fun c => (c.engine, c.idx))

/-- Outgoing P3 buffers that packets of a packet's chunk hold; a chunk has two (R109, R265). -/
def outgoing (s : State) (x : Pkt) : Nat :=
  ((allPkts s).filter (fun y => (match y.buf with | some b => b.pool == 3 | none => false)
    && y.owner == x.owner && chunkOf s y == chunkOf s x)).length

/-- A manager's answer to a request: a buffer at once, or none. -/
def granted (s : State) (d r pool : Nat) : Option Nat :=
  match (allocFrom s d r 3 pool 0).1 with
  | .got q => some q
  | .wait _ => none

/-- A packet of a local unit can have a buffer in the slice of die `d` now, as requester `r`: one handed over, one that the manager
grants (R261), or of a chunk one of its two outgoing buffers (R265). -/
def canEnter (s : State) (x : Pkt) (d r : Nat) : Bool :=
  let pool := fitPool x.p.payload.length
  (handed s d r pool).isSome
    || (match granted s d r pool with | some q => q != 3 || outgoing s x < 2 | none => false)

/-- The buffer. -/
def enterBuf (s : State) (x : Pkt) (d r : Nat) : State × Option Buf :=
  let pool := fitPool x.p.payload.length
  match handed s d r pool with
  | some q => ({ s with net := { s.net with hand := s.net.hand.erase (d, r, q) } }, some ⟨d, r, q, 0, none⟩)
  | none =>
    if granted s d r pool = some 3 ∧ 2 ≤ outgoing s x then (s, none)
    else
      let (s, q) := allocate s d r pool none
      (s, q.map (fun q => ⟨d, r, q, 0, none⟩))

/-- Shared credits of a VC and pool that the incoming side of a pair link has out. -/
def meshCredits (s : State) (link v pool : Nat) : Nat := mapGet (fun _ => 0) s.net.meshOut (24 * link + 3 * v + pool)

/-- The buffer behind a credit that a packet holds for a pair link (R254, R255): a shared one of its fit class or the next larger
one, else the dedicated one of its class. -/
def meshBuf (s : State) (x : Pkt) (link : Nat) : State × Option Buf :=
  let f := fitPool x.p.payload.length
  let r := (creditor link).2
  match ([f, f + 1].filter (· ≤ 2)).find? (fun c => 1 ≤ meshCredits s link x.vc c) with
  | some c =>
    ({ s with net := { s.net with meshOut := mapSet (fun _ => 0) s.net.meshOut (24 * link + 3 * x.vc + c) (meshCredits s link x.vc c - 1) } },
      some ⟨link % 4, r, c, 0, some (link, x.vc, x.twin, c)⟩)
  | none =>
    if s.net.meshDed.contains (link, x.vc, x.twin) then (s, none)
    else ({ s with net := { s.net with meshDed := (link, x.vc, x.twin) :: s.net.meshDed } },
      some ⟨link % 4, r, 2, 0, some (link, x.vc, x.twin, 3)⟩)

/-- The packet has its buffer: it leaves the outbox. The buffer on the other side of the mesh is free once its last byte has
crossed (R257). -/
def enterSlice (s : State) (x : Pkt) (b : Buf) : State :=
  let s := { s with net := { s.net with outbox := s.net.outbox.filter (fun y => y.no != x.no) } }
  let mesh := (crossing x).isSome
  let s := if mesh && x.whole then freePkt s x else s
  let (s, b) := occupy s b
  let y := { x with die := b.die, buf := some b, input := if mesh then meshInput x.die b.die else x.input,
                    key := if mesh then x.key else ageKey s none x.p, ingress := if mesh && !x.whole then x.buf else none }
  placePkt s y (wayFor s y none)

/-- The class that waits for a pair link. -/
def onMesh (s : State) (d e v : Nat) (twin : Bool) : List Pkt :=
  s.net.outbox.filter (fun x => x.die == d && crossing x == some e && x.vc == v && x.twin == b2n twin)

/-- The pair link from die `d` to die `e`: its arbiter's choice crosses, if a buffer waits for it (R18, R255, R292). -/
def fromMesh (s : State) (d e v : Nat) (twin : Bool) : State :=
  match arbiter s (onMesh s d e v twin) with
  | none => s
  | some x => match meshBuf s x (pairLink d e) with
    | (s, none) => s
    | (s, some b) => enterSlice s x b

/-- The packets of a die's local units on a VC that wait to enter its slice. -/
def atIngress (s : State) (d v : Nat) : List Pkt :=
  s.net.outbox.filter (fun x => x.die == d && x.buf.isNone && x.vc == v)

/-- The ingress arbiter of a die takes, among the inputs whose first packet of a VC can have a buffer, the choice of R292;
the named input's packet enters if it is that choice. One that must wait for a buffer asks for it. -/
def fromUnit (s : State) (d input v : Nat) : State :=
  let hs := inputHeads (atIngress s d v) []
  match hs.find? (fun x => x.input == input) with
  | none => s
  | some x =>
    let can (y : Pkt) : Bool := canEnter s y d (requesterOf y.input)
    if can x && (firstOfClass (rotNow s) (hs.filter can)).map Pkt.no != some x.no then s
    else match enterBuf s x d (requesterOf input) with
      | (s, none) => s
      | (s, some b) => enterSlice s x b

/-- A mirror copy, which has its buffer, goes to its analysis port. -/
def fromMirror (s : State) (d : Nat) : State :=
  match s.net.outbox.find? (fun x => x.input == 284 && x.die == d) with
  | none => s
  | some x =>
    let s := { s with net := { s.net with outbox := s.net.outbox.filter (fun y => y.no != x.no) } }
    placePkt s x (wayFor s x none)

/-- PACKET_FORWARD from the die mesh, a local unit or a mirror. -/
def fromInside (s : State) (src : PktSrc) : State :=
  match src with
  | .port _ => s
  | .mesh d e v twin => fromMesh s d e v twin
  | .engine e v => fromUnit s (e.val / 4) (259 + e.val % 4) v
  | .dma n v => fromUnit s (n.val / 20) (263 + n.val % 20) v
  | .mgmt d v => fromUnit s d 283 v
  | .mirror d => fromMirror s d

/-- PACKET_FORWARD (R250). -/
def execPacketForward (src : PktSrc) (p : Packet) (s : State) : Host.Outcome State Fault Refusal :=
  .next (ifRunning s (match src with
    | .port q => fromPort s q p
    | _ => fromInside s src))

/-! ### Local delivery (R149, R154, R166–R168, R250) -/

/-- A remote add (R154): the owning cluster applies or refuses it. -/
def remoteAdd (s : State) (o j v : Nat) : State :=
  if (obj s o).remote && j != 0 && (obj s o).job.toNat == j then signal s o v
  else
    let s := bump s (CLU_SYNC_REFUSED (o / 4096)) CLU_SYNC_REFUSED_COUNT 1
    let s := setF s (CLU_STATUS (o / 4096)) CLU_STATUS_REFUSED_EVENT 1
    note s (80 + o / 4096) 0x12 (BitVec.ofNat 32 o) (BitVec.ofNat 16 j)

/-- A running step of a job on a core ends with a trap. -/
def endStepOf (j cause : Nat) (s : State) (n : Nat) : State :=
  if h : n < 80 then
    let c := core s n
    if c.running && c.trap.isNone && c.job.toNat == j then trapCore s ⟨n, h⟩ c.nextNo cause c.lastPc else s
  else s

/-- Cores whose steps may consume what is written to a store: the core of its SRAM, a cluster's cores, or every core. -/
def storeCores (st : Store) : List Nat :=
  match st with
  | .core p => [p]
  | .cluster c => (List.range 5).map (5 * c + ·)
  | .tier _ _ => List.range 80
  | .object => []
  | .csr => []

/-- A stomped packet's consumers: the steps of its job on the cores that its data was for trap with DATA_ERROR (R258).
(DEDUCED, log entry 36.) -/
def stompedFor (s : State) (j : Nat) (cores : List Nat) : State := cores.foldl (endStepOf j 0x06) s

/-- Die that delivers a packet: that of its consumer (R283). -/
def deliverDie (s : State) (x : Pkt) : Nat := if x.p.type = 0 then consumerDie s x else x.die

/-- A DATA packet writes its bytes, then applies its RSYNC add (R149). -/
def writeData (s : State) (x : Pkt) (st : Store) (k : Nat) : State :=
  let d := deliverDie s x
  let p := x.p
  let r := wrBytes s k p.payload
  let s := match r.2 with
    | some w => persist r.1 st w 1 (BitVec.ofNat 16 p.job)
    | none => r.1
  let s := if p.syncEn then remoteAdd s p.syncObj p.job 1 else s
  deliverLocal s d x

/-- A local DATA packet (R149, R250). -/
def dataPkt (s : State) (x : Pkt) : State :=
  let p := x.p
  if !inRegion s p.job p.offset p.payload.length true then refusePkt s x 6
  else match locateSpan s none p.offset p.payload.length with
    | none => refusePkt s x 6
    | some (st, k) =>
      if p.stomp then stompedFor (takeLocal s x) p.job (storeCores st)
      else match sleeper s st with
        | some u => demandWake s u
        | none => writeData s x st k

/-- The bytes of a packet that name the request (Table 6.2, word 2), when it holds them. -/
def reqTagOf (p : Packet) : Option Word :=
  if p.offset ≤ 16 ∧ 24 ≤ p.offset + p.payload.length
  then some (BitVec.ofNat 64 (ofBytes ((p.payload.drop (16 - p.offset)).take 8))) else none

/-- A SLOT packet is written into the entry of the token that arrives (R166, R250). -/
def writeSlot (s : State) (x : Pkt) (st : Store) : State :=
  let p := x.p
  let q := slotQueue s p.slot
  let r := wrBytes s (queueKey s p.slot q.arrived p.offset) p.payload
  let s := match r.2 with
    | some w => persist r.1 st w 1 (BitVec.ofNat 16 p.job)
    | none => r.1
  let s := setSlotQ s p.slot { q with reqTag := (reqTagOf p).getD q.reqTag, fill := max q.fill (p.offset + p.payload.length) }
  let s := if p.fence then signal s (bits (slotWord s p.slot 4) 15 0) 1 else s
  deliverLocal s x.die x

/-- A packet for an entry that is still occupied: held, and credit for its VC withheld (R168). -/
def holdSlot (s : State) (x : Pkt) : State :=
  if x.hold = 2 then s
  else
    let s := setLocal s { x with hold := 2, since := now s }
    let s := bump s (SWC_CNT_SLOT_HOLD x.die) SWC_CNT_SLOT_HOLD_COUNT 1
    match x.port with
    | some a => withhold s a x.vc 2
    | none => s

/-- A local SLOT packet (R250). -/
def slotPkt (s : State) (x : Pkt) : State :=
  let p := x.p
  let k := p.slot
  if !p.slotEn || !slotValid s k || slotJob s k != p.job
      || decide (bits (slotWord s k 4) 55 32 < p.offset + p.payload.length) then refusePkt s x 7
  else match locate s none (bits (slotWord s k 3) 47 0) with
    | none => refusePkt s x 7
    | some (st, _) =>
      if p.stomp then stompedFor (takeLocal s x) p.job ((slotCores s k).filterMap (coreOf s))
      else if slotFree s k = 0 then holdSlot s x
      else match sleeper s st with
        | some u => demandWake s u
        | none => writeSlot s x st

/-- A local RADD (R154). -/
def raddPkt (s : State) (x : Pkt) : State :=
  let p := x.p
  if p.stomp then takeLocal s x
  else
    let v := ofBytes (p.payload.take 8)
    let s := if p.syncEn then remoteAdd s p.syncObj p.job v else s
    deliverLocal s x.die x

/-- What a local packet of a type does under the fence rule: DATA, SLOT or RADD. -/
def localEffect (s : State) (x : Pkt) : State :=
  underFence s (deliverDie s x) x (fun s =>
    match x.p.type with
    | 0 => dataPkt s x
    | 2 => slotPkt s x
    | 3 => raddPkt s x
    | _ => s)

/-- Packets that a fence has released take effect at once (R282); at most `n` of them. -/
def runReleased : Nat → State → State
  | 0, s => s
  | n + 1, s =>
    match s.net.locals.find? (fun x => x.hold == 4 && (x.p.type == 0 || x.p.type == 2 || x.p.type == 3)) with
    | none => s
    | some x =>
      let s' := localEffect s x
      if s'.net.locals.length < s.net.locals.length then runReleased n s' else s'

/-- A local packet of a type takes effect, and those it releases. -/
def onLocal (s : State) (k type : Nat) : State :=
  if running s then
    match localPkt s k with
    | none => s
    | some x => if x.p.type = type then runReleased s.net.locals.length (localEffect s x) else s
  else s

/-- DATA_PACKET (R250). -/
def execDataPacket (k : Nat) (s : State) : Host.Outcome State Fault Refusal := .next (onLocal s k 0)
/-- SLOT_PACKET (R250). -/
def execSlotPacket (k : Nat) (s : State) : Host.Outcome State Fault Refusal := .next (onLocal s k 2)
/-- RADD (R154). -/
def execRadd (k : Nat) (s : State) : Host.Outcome State Fault Refusal := .next (onLocal s k 3)

/-! ### CTRL, MGMT and REFUSE (R120, R250, R281, R289) -/

/-- A job loses a path that it uses (R289, R340): its steps and launches end, and it takes a UNIT fault. -/
def pathLost (s : State) (src j : Nat) : State := if (job s j).isSome then jobFault s src 0x0D j 0 else s

/-- An acknowledgement reaches its core: that of the last fenced packet lets the sender's stream go on. The packet that it
acknowledges is the one of its BIRTH_FT. (DESIGN CHOICE, log entry 35.) -/
def takeAck (s : State) (p : Packet) (l : LCore) (dst : BitVec 20) (birth : BitVec 40) : State :=
  let st : Stream := ⟨BitVec.ofNat 16 p.job, BitVec.ofNat 20 p.dst, BitVec.ofNat 16 l.val, dst, 4⟩
  let s := if (sender s st).unacked = some birth then setSender s { sender s st with unacked := none } else s
  match coreOf s l with
  | some n => if h : n < 80 then dmaAdvance s ⟨n, h⟩ else s
  | none => s

/-- What a CTRL packet brings to the hub. -/
def takeCtrl (s : State) (p : Packet) (c : CtrlContent) : State :=
  let onLaunch (l : Nat) (k : Launch → Launch) : State :=
    match launch s l with
    | none => s
    | some x => if x.job = p.job then advanceLaunch (setLaunch s (k x)) l else s
  match c with
  | .exchange => s
  | .herdDigest l sh rep d => onLaunch l (fun x =>
      if x.digests.any (fun e => e.1 == sh && e.2.1 == rep) then x else { x with digests := x.digests ++ [(sh, rep, d)] })
  | .statistics l s1 b1 s2 b2 => onLaunch l (fun x =>
      { x with s1 := ⟨x.s1.sum + s1, x.s1.special || b1⟩, s2 := ⟨x.s2.sum + s2, x.s2.special || b2⟩, statIn := x.statIn + 1 })
  | .herdVerdict l => onLaunch l (fun x => { x with agreed := true })
  | .fenceAck l dst birth => takeAck s p l dst birth
  | .pathLost j => pathLost s 175 j.toNat

/-- CTRL_PACKET (R250). -/
def execCtrlPacket (k : Nat) (c : CtrlContent) (s : State) : Host.Outcome State Fault Refusal :=
  .next (ifRunning s (match localPkt s k with
    | none => s
    | some x =>
      if x.p.type = 4 then underFence s x.die x (fun s =>
        if x.p.stomp then takeLocal s x else takeCtrl (deliverLocal s x.die x) x.p c)
      else s))

/-- Arrival port of a packet; port 0 stands for none. -/
def portOf (x : Pkt) : Port := Fin.ofNat 1024 (x.port.getD 0)

/-- MGMT_PACKET (R250): its contents go to the management firmware. -/
def execMgmtPacket (k : Nat) (s : State) : Host.Outcome State Fault Refusal :=
  .next (ifRunning s (match localPkt s k with
    | none => s
    | some x =>
      if x.p.type = 6 then underFence s x.die x (fun s =>
        if x.p.stomp then takeLocal s x else emit (deliverLocal s x.die x) (.mgmt (portOf x) x.p))
      else s))

/-- Bits of the header that a REFUSE carries, of which it holds 56 bytes (R251). -/
def refusedHdr (p : Packet) (hi lo : Nat) : Nat := bits (ofBytes (p.payload.take 56)) hi lo
/-- Its ORIGIN. -/
def refusedOrigin (p : Packet) : Nat := refusedHdr p 175 160
/-- Its JOB_ID. -/
def refusedJob (p : Packet) : Nat := refusedHdr p 31 16

/-- Status of a launch that a refusal ends: an error of a launch that runs (Table 4.11); the spec does not say which.
(DESIGN CHOICE, log entry 86.) -/
def refusedStatus (w : Word) : Nat := 0x08 + w.toNat % 6

/-- The launch that sent a refused packet ends (R250). -/
def endRefusedLaunch (s : State) (p : Packet) : State :=
  match s.coll.launches.find? (fun x => x.stage == 2 && x.job == refusedJob p && x.gid == refusedHdr p 271 256
      && x.seq == refusedHdr p 303 272) with
  | none => s
  | some x =>
    let (w, s) := fresh s
    finishLaunch s x (refusedStatus w) false

/-- The unit that sent a refused packet ends its step (R149, R250): a core with REMOTE_REFUSED, a reduction engine its
launch. The Puppeteer and external endpoints run no step. -/
def endRefused (s : State) (p : Packet) : State :=
  let o := refusedOrigin p
  if o < 64 then
    match coreOf s o with
    | none => s
    | some n => endStepOf (refusedJob p) 0x05 s n
  else if 0x0100 ≤ o ∧ o ≤ 0x010F then endRefusedLaunch s p
  else s

/-- REFUSE_PACKET (R250). -/
def execRefusePacket (k : Nat) (s : State) : Host.Outcome State Fault Refusal :=
  .next (ifRunning s (match localPkt s k with
    | none => s
    | some x =>
      if x.p.type = 7 then underFence s x.die x (fun s =>
        if x.p.stomp then takeLocal s x else endRefused (deliverLocal s x.die x) x.p)
      else s))

/-! ### Transmission (R254, R291–R293, R298, R304, R310, R312, R327) -/

/-- Head of a buffer class at a port: a packet that was deferred keeps its place (R304). -/
def classHead (s : State) (q v tw : Nat) : Option Pkt :=
  let l := (port s q).q.filter (fun x => x.vc == v && x.twin == tw && !x.fenced)
  match l.find? (fun x => x.deferred) with
  | some x => some x
  | none => arbiter s l

/-- Credit for a packet at the partner (R254): shared of the fit class, of the next larger one, else dedicated. -/
def creditFor (x : PortSt) (k : Pkt) : Option Nat :=
  let f := fitPool k.p.payload.length
  match ([f, f + 1].filter (· ≤ 2)).find? (fun c => 1 ≤ x.shared.getD (3 * k.vc + c) 0) with
  | some c => some c
  | none => if 1 ≤ x.ded.getD (2 * k.vc + k.twin) 0 then some 3 else none

/-- Bytes on the wire of a packet (R299). A mirror copy's frame has addresses, EtherType, payload and FCS, at least 64 bytes,
with preamble and gap. -/
def pktWire (s : State) (q : Nat) (p : Packet) : Nat :=
  if copyFrame s q p then max 64 (14 + p.payload.length + 4) + 20 else wireBytes s q p.payload.length

/-- Its wire time in units of 2^-16 ns, rounded up. -/
def pktTime (s : State) (q : Nat) (p : Packet) : Nat := cdiv (pktWire s q p * 65536) (25 * portLanes s q)

/-- Bytes that a shaper or throttle counts; an Ethernet frame from its destination address through the FCS (R310). -/
def shapedBytes (s : State) (q : Nat) (p : Packet) : Nat := if portEth s q then pktWire s q p - 20 else 64 + p.payload.length

/-- Index of a throttled VC. -/
def throttleIdx (v : Nat) : Option Nat := match v with | 4 => some 0 | 6 => some 1 | 7 => some 2 | _ => none
/-- Throttle level of a VC. -/
def throttleLevel (s : State) (q v : Nat) : Nat :=
  match v with
  | 4 => getF s (TSC_THROTTLE q) TSC_THROTTLE_LEVEL4
  | 6 => getF s (TSC_THROTTLE q) TSC_THROTTLE_LEVEL6
  | 7 => getF s (TSC_THROTTLE q) TSC_THROTTLE_LEVEL7
  | _ => 8

/-- The throttle limits a packet: injected, of a throttled VC, below level 8 (R312). -/
def throttled (s : State) (q : Nat) (k : Pkt) : Bool :=
  k.injected && (throttleIdx k.vc).isSome && isSet s (TSC_THROTTLE q) TSC_THROTTLE_EN && throttleLevel s q k.vc < 8

/-- Gate and length check of a packet: open long enough, too short, or closed (R298, R304). -/
inductive GateView where
  | fits
  | short
  | closed
deriving DecidableEq, Repr

/-- The gate of a packet's buffer VC at the present FT. -/
def gateView (s : State) (q : Nat) (k : Pkt) : GateView :=
  match openFor s q k.vc (now s).toNat with
  | none => .closed
  | some n => if pktTime s q k.p ≤ n * 65536 then .fits else .short

/-- Tokens, throttle and credit let a packet through. -/
def admits (s : State) (q : Nat) (k : Pkt) : Bool :=
  let x := port s q
  let b := shapedBytes s q k.p * 128000
  (!isSet s (TSC_SHAPER q k.vc) TSC_SHAPER_EN || decide (b ≤ x.shaper.getD k.vc 0))
    && (!throttled s q k || (match throttleIdx k.vc with
        | some i => decide ((b : Int) ≤ x.throttle.getD i 0)
        | none => true))
    && (copyFrame s q k.p || (creditFor x k).isSome) && (!portMgmtOnly s q || (k.vc == 7 && k.twin == 0))
    && (portState s q != 3 || k.p.type == 6)

/-- The replay buffer has room (R327). -/
def replayRoom (s : State) (q len : Nat) : Bool :=
  let x := port s q
  let b := portBundle q
  let per := if 8 ≤ b ∧ b ≤ 23 then 524288 else 32768
  x.replay.length < 2047
    && decide ((x.replay.map (fun e => 64 + e.2.payload.length)).sum + 64 + len ≤ per * portLanes s q)

/-- The sixteen buffer classes: VC and twin. -/
def allClasses : List (Nat × Nat) := (List.range 8).flatMap (fun v => [(v, 1), (v, 0)])

/-- `a` goes before `b` among classes: the older key, then twin 1, then the lower VC (R293). -/
def classFirst (a b : Pkt) : Bool :=
  decide (a.key < b.key) || (a.key == b.key && (decide (b.twin < a.twin) || (a.twin == b.twin && decide (a.vc < b.vc))))

/-- The head that goes first. -/
def bestHead : List Pkt → Option Pkt
  | [] => none
  | x :: xs => match bestHead xs with
    | some y => if classFirst y x then some y else some x
    | none => some x

/-- Heads of the classes of a port. -/
def heads (s : State) (q : Nat) : List Pkt := allClasses.filterMap (fun c => classHead s q c.1 c.2)

/-- A scheduled VC. -/
def scheduledVc (v : Nat) : Bool := v ≤ 3 || v == 5

/-- The length check holds a head back, counted once for the packet (R304). -/
def deferHead (q : Nat) (s : State) (k : Pkt) : State :=
  if k.deferred then s
  else
    let x := port s q
    let s := setPort s q { x with q := x.q.map (fun y => if y.no = k.no then { y with deferred := true } else y) }
    bump s (TSC_CNT_DEFER q) TSC_CNT_DEFER_COUNT 1

/-- Credits that the next word returns: VC, twin, code and count; none of a withheld VC (R253). -/
def nextReturn (x : PortSt) : Option (Nat × Nat × Nat × Nat) :=
  match x.owed.find? (fun o => !(x.withheld.any (fun w => w.1 == o.1))) with
  | none => none
  | some (v, t, c) => some (v, t, c, min 255 (x.owed.filter (· == (v, t, c))).length)

/-- A list without the first `n` elements equal to one. -/
def dropN {α : Type} [DecidableEq α] (a : α) : Nat → List α → List α
  | 0, l => l
  | n + 1, l => dropN a n (l.erase a)

/-- Bits [31:4] of an EOP or IDLE word: NAK, acknowledgement and credits (Table 12.4). -/
def wordLow (x : PortSt) : Nat :=
  let (v, t, c, n) := (nextReturn x).getD (0, 0, 0, 0)
  b2n x.nakDue * 2 ^ 5 + x.ackSeq.toNat * 2 ^ 6 + v * 2 ^ 18 + t * 2 ^ 21 + c * 2 ^ 22 + n * 2 ^ 24

/-- The port after a word has carried its acknowledgement and credits. -/
def afterWord (x : PortSt) : PortSt :=
  let owed := match nextReturn x with
    | some (v, t, c, n) => dropN (v, t, c) n x.owed
    | none => x.owed
  { x with ackDue := false, nakDue := false, owed := owed }

/-- The SOP word of a packet. -/
def sopWord (p : Packet) : Nat :=
  1 + p.seq.toNat * 2 ^ 4 + p.bvc.val * 2 ^ 16 + b2n p.twin * 2 ^ 19 + p.credit.val * 2 ^ 20 + p.age.toNat * 2 ^ 22

/-- The EOP word of a packet. -/
def eopWord (x : PortSt) (p : Packet) : Word :=
  BitVec.ofNat 64 (2 + b2n p.stomp * 2 ^ 4 + wordLow x
    + (crc32c (toBytes 8 (sopWord p) ++ toBytes 64 p.hdr.toNat ++ p.payload)).toNat * 2 ^ 32)

/-- The packet as it leaves on a link of a version: buffer class, credit, age key and sequence number of this hop; a link
below 5.0 carries an older header and no age key (R247, R332). -/
def framed (ver : Nat) (x : PortSt) (k : Pkt) (code : Nat) : Packet :=
  { convertOut ver k.p with bvc := Fin.ofNat 8 k.vc, twin := k.twin == 1, credit := Fin.ofNat 4 code,
                            age := if ver < 0x50 then 0 else BitVec.ofNat 40 k.key, seq := x.txSeq }

/-- Shaper and throttle tokens that a packet takes as it starts (R310, R312). -/
def takeTokens (s : State) (q : Nat) (k : Pkt) (x : PortSt) : PortSt :=
  let b := shapedBytes s q k.p * 128000
  let x := if isSet s (TSC_SHAPER q k.vc) TSC_SHAPER_EN then { x with shaper := x.shaper.modify k.vc (· - b) } else x
  if throttled s q k then
    match throttleIdx k.vc with | some i => { x with throttle := x.throttle.modify i (· - (b : Int)) } | none => x
  else x

/-- The port as a packet starts: it leaves its queue, and the port is busy for its wire time. -/
def startOn (s : State) (q : Nat) (k : Pkt) : PortSt :=
  let x := takeTokens s q k (port s q)
  { x with q := x.q.filter (fun y => y.no != k.no),
           busyUntil := now s + BitVec.ofNat 64 (cdiv (pktTime s q k.p) 65536), busyVc := k.vc }

/-- The port's link layer after a packet starts: its credit is used, and it stands in the replay buffer. -/
def afterSend (s : State) (q : Nat) (k : Pkt) (p : Packet) : PortSt :=
  let x := startOn s q k
  let x := if p.credit.val = 3 then { x with ded := decAt x.ded (2 * k.vc + k.twin) }
           else { x with shared := decAt x.shared (3 * k.vc + p.credit.val) }
  { x with replay := x.replay ++ [(x.txSeq, p)], replayAt := if x.replay.isEmpty then now s else x.replayAt,
           txSeq := x.txSeq + 1 }

/-- Start of the window that was a packet's when it joined its queue, if that window has closed (R51, R305).
(DEDUCED, log entry 37.) -/
def missedWindow (s : State) (q : Nat) (k : Pkt) : Option Nat :=
  match windowFrom s q k.vc k.since.toNat with
  | some (a, b) => if scheduledVc k.vc && decide (b ≤ (now s).toNat) then some a else none
  | none => none

/-- A slip of a packet of a unit is one of its step or launch (R51, R123). -/
def slipOf (s : State) (owner : Option Nat) : State :=
  match owner with
  | none => s
  | some n =>
    if n < 80 then setCore s n { core s n with slips := (core s n).slips + 1 }
    else match (if 0x100 ≤ n then launch s (n - 0x100) else none) with
      | some x => setLaunch s { x with slips := x.slips + 1 }
      | none => s

/-- A scheduled packet that starts in a later window than its own counts GATE_MISS (R51, R296, R305).
(DEDUCED, log entry 37.) -/
def gateMiss (s : State) (q : Nat) (k : Pkt) : State :=
  match missedWindow s q k with
  | none => s
  | some w => slipOf (slip s 3 w ((now s).toNat - w)) k.owner

/-- What follows a packet's leaving: counts, its buffer, its owner, the fence rule of an endpoint port. -/
def afterLeaving (s : State) (q : Nat) (k : Pkt) (p : Packet) : State :=
  let s := countPkt s q k.p.vc 1 (64 + k.p.payload.length)
  let s := if p.stomp then setF s (SWC_STATUS (portDie q)) SWC_STATUS_STOMP_EVENT 1 else s
  let s := packetGone (freePkt s k) k
  match k.dest with
  | .port _ true => if p.stomp then s else releaseHeld (fenceAck (countDelivered s (portDie q) k.p) k.p) (portDie q) (streamOf k.p)
  | _ => s

/-- The 802.1Q tag of a port's PFP frames, when TAG_EN asks for one: the PCP of a packet's buffer VC, and VID (R342). -/
def frameTag (s : State) (q : Nat) (vc : Option (Fin 8)) : Option (Option (BitVec 3) × BitVec 12) :=
  let w := reg s (LNK_ETH_CTRL (portBundle q) (portLane q))
  if fget LNK_ETH_CTRL_TAG_EN w = 1 then
    some (vc.map (fun v => ext w (3 * v.val) 3), ext w 25 12)
  else none

/-- On an Ethernet port, what follows travels in a PFP frame (R342). (DESIGN CHOICE, log entry 90.) -/
def openFrame (s : State) (q : Port) (vc : Option (Fin 8)) : State :=
  if portEth s q then
    let b := portBundle q
    let l := portLane q
    emit s (.pfpFrame q (ext (reg s (LNK_ETH_PEER b l)) 0 48) (ext (reg s (LNK_ETH_ADDR b l)) 0 48) (frameTag s q vc))
  else s

/-- A packet ends with its end word. -/
def endPacket (s : State) (q : Port) (k : Pkt) (p : Packet) : State :=
  let x := port s q
  let s := setPort s q (afterWord x)
  afterLeaving (emit s (.word q (eopWord x p))) q k p

/-- A packet starts transmission; one that the device has not yet received whole ends later (R256). -/
def startSend (s : State) (q : Port) (k : Pkt) (code : Nat) : State :=
  let p := framed (linkVersion s q) (port s q) k code
  let s := mirror (gateMiss (setPort s q (afterSend s q k p)) q k) 1 q k.p
  let s := emit (openFrame s q (some p.bvc)) (.packet q p)
  if k.whole then endPacket s q k p else setPort s q { port s q with cut := some (k, p) }

/-- The transmission that waits for its end word ends, at the present FT or when its last byte is due; stomped, it stands so
in the replay buffer too (R256, R325). -/
def endCut (s : State) (q : Port) (stomp : Bool) : State :=
  match (port s q).cut with
  | none => s
  | some (k, p) =>
    let p := { p with stomp := p.stomp || k.p.stomp || stomp }
    let x := port s q
    let s := setPort s q { x with cut := none, busyUntil := if x.busyUntil.toNat < (now s).toNat then now s else x.busyUntil,
                                  replay := x.replay.map (fun e => if e.1 = p.seq then (e.1, p) else e) }
    endPacket s q k p

/-- A mirror copy leaves in its own kind of frame (R268). -/
def sendCopy (s : State) (q : Port) (k : Pkt) : State :=
  let s := mirror (setPort s q (startOn s q k)) 1 q k.p
  afterLeaving (emit s (.copyFrame q (ext (reg s (LNK_ETH_ADDR (portBundle q) (portLane q))) 0 48) k.p.payload)) q k k.p

/-- Which window a head meets: FT of its end, and 1 for one that never closes. -/
def windowId (s : State) (q v : Nat) : Nat :=
  match openFor s q v (now s).toNat with
  | some n => if n = 2 ^ 40 then 1 else (now s).toNat + n
  | none => 0

/-- The first packet of a window meets a sleeping bundle: one POWER_WAKE slip for the window, counted when the wake ends
(R305). Its planned FT is the instant at which the packet could have left. (DEDUCED, log entry 37.) -/
def meetSleep (q : Nat) (s : State) (k : Pkt) : State :=
  let w := windowId s q k.vc
  let x := port s q
  if gateLen s q = 0 ∨ x.wakeWin.contains (k.vc, w) = true then s
  else
    let planned := match windowFrom s q k.vc k.since.toNat with | some (a, _) => a | none => (now s).toNat
    setPort s q { x with wakeWin := (k.vc, w) :: x.wakeWin.filter (fun e => e.1 != k.vc), slept := x.slept ++ [(planned, k.owner)] }

/-- A port's bundle is awake: the POWER_WAKE slips of the windows that met its sleep, each one of its packet's step or
launch (R51, R305). -/
def sleptSlips (s : State) (q : Nat) : State :=
  (port s q).slept.foldl (fun s e => slipOf (slip s 1 e.1 ((now s).toNat - e.1)) e.2) (setPort s q { port s q with slept := [] })

/-- Heads whose gate is open wait for the wake of their bundle, which starts on demand (R305). -/
def wakeBundle (s : State) (q : Nat) : State :=
  let u := 96 + portBundle q
  let l := (heads s q).filter (fun k => gateView s q k != .closed)
  let s := l.foldl (meetSleep q) s
  if l.isEmpty || s.pwr.waking.contains u then s else demandWake s u

/-- PACKET_TRANSMIT (R298): the eligible class with the oldest head starts; heads that the length check holds back are
counted. A packet queued on a bundle that sleeps wakes it, whether or not its link is up (R413). -/
def transmit (s : State) (q : Port) : State :=
  let s := refill (advanceTo s (port s q).busyUntil) q
  let hs := heads s q
  let s := (hs.filter (fun k => gateView s q k == .short && admits s q k)).foldl (deferHead q.val) s
  match bestHead (hs.filter (fun k => gateView s q k == .fits && admits s q k
      && (copyFrame s q k.p || replayRoom s q k.p.payload.length))) with
  | none => s
  | some k =>
    if copyFrame s q k.p then evalBundle (sendCopy s q k) (portBundle q)
    else match creditFor (port s q) k with
      | some code => evalBundle (startSend s q k code) (portBundle q)
      | none => s

def execPacketTransmit (q : Port) (s : State) : Host.Outcome State Fault Refusal :=
  .next (ifRunning s (
    if (port s q).q.isEmpty || (port s q).cut.isSome then s
    else if !awake s (96 + portBundle q) then
      (if portUp s q then wakeBundle s q else demandWake s (96 + portBundle q))
    else if portUp s q then transmit s q else s))

/-! ### Buffers and fences -/

/-- Requests of a pool that can be granted, longest waiting first, lower requester first (R262).
(DESIGN CHOICE, log entry 66.) -/
def grantOrder (s : State) (d pool : Nat) : List BufWait :=
  (waitersAhead s d pool).mergeSort
    (fun a b => decide (a.since.toNat < b.since.toNat) || (a.since == b.since && decide (a.req ≤ b.req)))

/-- BUFFER_GRANT (R261, R262): the request that is next for the pool, if it is the named requester's, gets a buffer. -/
def grantBuf (s : State) (d pool r : Nat) : State :=
  match grantOrder s d pool with
  | [] => s
  | w :: _ =>
    if w.req ≠ r then s
    else
      let s := { s with net := { s.net with waits := s.net.waits.erase w } }
      let s := takeBuf s d r pool
      let s := if s.net.waits.any (fun w => w.die == d) then s else setF s (SWC_STATUS d) SWC_STATUS_ALLOC_WAITING 0
      match w.credit with
      | some (p, v) => resumeGrants (creditOn s p v pool) d r
      | none => { s with net := { s.net with hand := s.net.hand ++ [(d, r, pool)] } }

def execBufferGrant (d : Die) (pool : Fin 3) (r : Fin 37) (s : State) : Host.Outcome State Fault Refusal :=
  .next (ifRunning s (grantBuf s d pool r))

/-- A held packet, by its number: at the device or at a port. -/
def heldPkt (s : State) (k : Nat) : Option Pkt :=
  (s.net.locals ++ s.net.ports.flatMap (fun e => e.2.q)).find? (fun x => x.no == k && x.fenced)

/-- FENCE_HOLD_EXPIRY (R282): the packet is lost; a STEP fault FENCE_TIMEOUT for its job. -/
def expireFence (s : State) (x : Pkt) : State :=
  let s := advanceTo s (x.since + BitVec.ofNat 64 (getF s (SWC_FENCE_TIMEOUT 0) SWC_FENCE_TIMEOUT_VALUE * 1000))
  let s := { s with net := { s.net with
    locals := s.net.locals.filter (fun y => y.no != x.no),
    ports := s.net.ports.map (fun e => (e.1, { e.2 with q := e.2.q.filter (fun y => y.no != x.no) })) } }
  let s := discard s x
  let s := bump s HUB_CNT_FENCE_EXPIRED HUB_CNT_FENCE_EXPIRED_COUNT 1
  let s := setF s HUB_RT_STATUS HUB_RT_STATUS_FENCE_EXPIRED_EVENT 1
  let s := fault s (144 + x.die) 0x11 1 (BitVec.ofNat 16 x.p.job) 0
  runReleased s.net.locals.length (releaseHeld (settleStream s x.die (streamOf x.p)) x.die (streamOf x.p))

def execFenceHoldExpiry (k : Nat) (s : State) : Host.Outcome State Fault Refusal :=
  .next (ifRunning s (match heldPkt s k with | some x => expireFence s x | none => s))

/-- STREAM_ENTRY_CLOSE (R283): 2 ms without a packet of the stream. -/
def execStreamEntryClose (d : Die) (st : Stream) (s : State) : Host.Outcome State Fault Refusal :=
  .next (ifRunning s (match streamFind s d st with
    | none => s
    | some e =>
      let s := advanceTo s (e.last + 2000000)
      { s with net := { s.net with streams := s.net.streams.filter (fun y => !(y.die == d.val && y.st == st)) } }))

end Sys2Proof.Machine
end

