-- ==== Sys2Proof/Machine/Links.lean ====
section
/-! DEFINITION. The link layer (R323–R333, R412): words that arrive, replay, link down, training and versions; optical
engines (R322), Ethernet frames (R342, R343), rerouting after a loss (R279, R296). -/
namespace Sys2Proof.Machine

/-! ### Port state and events (Tables 12.11, 12.13) -/

/-- Fault source of a port: its bundle. -/
def portSource (q : Nat) : Nat := 112 + portBundle q

/-- A port changes state; its bundle shows the change. -/
def setPState (s : State) (q st : Nat) : State :=
  if portState s q = st then s
  else event (setF s (pStat q) LNK_PORT_STATUS_STATE st) (LNK_BUNDLE_STATUS (portBundle q)) LNK_BUNDLE_STATUS_PORT_EVENT 4

/-- A port's discovery outcome changes. -/
def setDisc (s : State) (q d : Nat) : State :=
  if getF s (pStat q) LNK_PORT_STATUS_DISC = d then s
  else event (setF s (pStat q) LNK_PORT_STATUS_DISC d) (pStat q) LNK_PORT_STATUS_DISC_EVENT 4

/-- Jobs that hold a circuit through a port (Table 10.9). -/
def circuitJobs (s : State) (q : Nat) : List Nat :=
  s.csr.filterMap (fun e =>
    if 0x60000 ≤ e.1 ∧ e.1 < 0x70000 ∧ (e.1 - 0x60000) % 16 = 0 ∧ isSet s e.1 HUB_CIRCUIT_VALID = true
        ∧ (getF s e.1 HUB_CIRCUIT_IN_PORT = q ∨ getF s e.1 HUB_CIRCUIT_OUT_PORT = q)
    then some (getF s e.1 HUB_CIRCUIT_JOB_ID) else none)

/-- Jobs whose circuits or ranks use a port. -/
def jobsOnPort (s : State) (q : Nat) : List Nat := (circuitJobs s q ++ rankJobs s q).eraseDups

/-! ### Acknowledgements, credits and replay (R254, R324) -/

/-- Replay entries up to an acknowledged sequence number are gone. -/
def dropAcked (x : PortSt) (ack : BitVec 12) : PortSt :=
  match x.replay with
  | [] => x
  | (s0, _) :: _ =>
    let k := (ack - s0).toNat
    if k < x.replay.length then { x with replay := x.replay.drop (k + 1), retries := 0 } else x

/-- The credits of a word reach the sender. -/
def addCredits (x : PortSt) (w : Nat) : PortSt :=
  let v := bits w 20 18
  let n := bits w 31 24
  if bits w 23 22 = 3 then { x with ded := x.ded.modify (2 * v + bits w 21 21) (· + n) }
  else { x with shared := x.shared.modify (3 * v + bits w 23 22) (· + n) }

/-- Sends of a replay: each packet again, in order, with a new end word. -/
def resend (q : Port) : List (BitVec 12 × Packet) → State → State
  | [], s => s
  | (_, p) :: l, s =>
    let x := port s q
    let s := setPort s q (afterWord x)
    resend q l (emit (emit (openFrame s q (some p.bvc)) (.packet q p)) (.word q (eopWord x p)))

/-- An acknowledgement is taken: progress restarts the timer (R324). -/
def takeAckSeq (s : State) (q : Nat) (ack : BitVec 12) : State :=
  let x := port s q
  let y := dropAcked x ack
  if y.replay.length = x.replay.length then s
  else setF (setPort s q { y with replayAt := now s }) (pLink q) LNK_PORT_LINK_RETRY_RUN 0

/-! ### Link down (R255, R279, R289, R296, R326, R340) -/

/-- Allocated buffers of a requester that no packet occupies go back to their pool. -/
def giveMany (s : State) (d r pool : Nat) : Nat → State
  | 0 => s
  | n + 1 => giveMany (giveBuf s d r pool (idleBit s d pool)) d r pool n

/-- Buffers behind the credits that a port has out, or keeps, return to their pools (R255). -/
def returnOut (s : State) (q : Nat) : State :=
  let x := port s q
  let d := portDie q
  let r := portBundle q / 4
  let s := x.granted.zipIdx.foldl (fun s e => giveMany s d r (e.2 % 3) e.1) s
  let s := giveMany s d 37 2 (x.dedOut.sum + (s.net.defer.filter (fun c => c.1 == q && decide (3 ≤ c.2.2))).length)
  setPort { s with net := { s.net with defer := s.net.defer.filter (fun c => c.1 != q) } } q
    { port s q with granted := List.replicate 24 0, dedOut := List.replicate 16 0, owed := [], withheld := [],
                    shared := List.replicate 24 0, ded := List.replicate 16 0 }

/-- The requests of a port for credits are withdrawn; its port group, which may wait no longer, grants on. -/
def dropWaits (s : State) (q : Nat) : State :=
  let d := portDie q
  let r := portBundle q / 4
  let was := groupWaits s d r
  let s := { s with net := { s.net with waits := s.net.waits.filter (fun w => match w.credit with | some (p, _) => p != q | none => true) } }
  let s := if s.net.waits.any (fun w => w.die == d) then s else setF s (SWC_STATUS d) SWC_STATUS_ALLOC_WAITING 0
  if was && !groupWaits s d r then resumeGrants s d r else s

/-- A buffer whose credit can no longer go back. -/
def orphanBuf (q : Nat) (b : Buf) : Buf :=
  match b.back with
  | some (p, _, _, code) => if p = q then (if code = 3 then { b with req := 37, pool := 2, back := none } else { b with back := none }) else b
  | none => b

/-- Every packet in the device, and in transmission without its end word, changed by a rule. -/
def mapPkts (s : State) (f : Pkt → Pkt) : State :=
  { s with net := { s.net with
      outbox := s.net.outbox.map f, locals := s.net.locals.map f,
      ports := s.net.ports.map (fun e => (e.1, { e.2 with q := e.2.q.map f, cut := e.2.cut.map (fun c => (f c.1, c.2)) })) } }

/-- Packets whose end word a port still expects. -/
def partials (s : State) (q : Nat) : List Pkt :=
  (allPkts s).filter (fun x => x.port == some q && !x.whole)

/-- A packet's end word has come: it is whole, stomped or not; its last byte has left the ingress buffer if it has crossed the die
mesh (R257); and a transmission that waited for it ends (R256, R258, R325). For a failed LCRC the ingress buffer stays the
replay's. -/
def endPartial (y : Pkt) (stomp keepBuf : Bool) (s : State) : State :=
  let s := mapPkts s (fun x => if x.no = y.no then
      { x with whole := true, p := { x.p with stomp := x.p.stomp || stomp },
               buf := if keepBuf || x.ingress.isSome then x.buf else none, ingress := none } else x)
  let s := match y.ingress with | some b => if keepBuf then freeBuf s b y.owner else s | none => s
  match s.net.ports.find? (fun e => match e.2.cut with | some (k, _) => k.no == y.no | none => false) with
  | some e => endCut s (Fin.ofNat 1024 e.1) stomp
  | none => s

/-- Traffic that a link down takes with it: scheduled and transit VCs (R279). -/
def lostAtDown (x : Pkt) : Bool := x.vc ≤ 3 || x.vc == 5

/-- Link losses within one hold (R296). -/
def noteLoss (s : State) : State :=
  { s with net := { s.net with losses := now s :: s.net.losses.filter (fun t => decide ((now s).toNat ≤ t.toNat + 10000000)) } }

/-- A packet whose end word the port still owes is lost with the link; it stands among those not acknowledged. -/
def dropCut (s : State) (q : Nat) : State :=
  match (port s q).cut with
  | none => s
  | some (k, _) => discard (setPort s q { port s q with cut := none }) k

/-- The link layer's state of a port when its link ends. A packet that has not come in whole ends stomped. -/
def closeLink (s : State) (q : Nat) : State :=
  let s := dropCut s q
  let s := (partials s q).foldl (fun s y => settleDrained (endPartial y true true s) y.no false) s
  let lost := (port s q).replay.length
  let s := returnOut s q
  let s := dropWaits (mapPkts s (fun x => { x with buf := x.buf.map (orphanBuf q), ingress := x.ingress.map (orphanBuf q) })) q
  let x := port s q
  let s := setPort s q { x with q := x.q.filter (fun y => !lostAtDown y), replay := [], retries := 0, midway := false, ackDue := false, nakDue := false,
                                initStep := 0, lpi := 0, downAt := some (now s), trainAt := some (now s), statement := none,
                                stmtOk := false, challenge := none, txSeq := 0, rxSeq := 0 }
  linkLoss (x.q.foldl (fun s y => if lostAtDown y then losePkt s y else s) s) lost

/-- A link goes down; `st` is the state in which the port goes on. (DESIGN CHOICE, log entry 38.) -/
def linkDown (s : State) (q st : Nat) : State :=
  let s := closeLink s q
  let s := setPState s q st
  let s := event s (pStat q) LNK_PORT_STATUS_DOWN_EVENT 4
  let s := bump s (LNK_CNT_DOWN (portBundle q) (portLane q)) LNK_CNT_DOWN_COUNT 1
  let s := setF s (pStat q) LNK_PORT_STATUS_VERSION 0
  let s := setF (setDisc s q 0) (pLink q) LNK_PORT_LINK_RETRY_RUN 0
  let s := noteLoss s
  (jobsOnPort s q).foldl (fun s j => pathLost s (portSource q) j) s

/-- LINK_DOWN (R326): a link that is up, or still in its INIT exchange, ends, and the port trains again. -/
def execLinkDown (q : Port) (s : State) : Host.Outcome State Fault Refusal :=
  .next (ifRunning s (
    if portUp s q then linkDown s q 1
    else if portState s q = 2 then setPState (setPort s q { port s q with initStep := 0 }) q 1
    else s))

/-- A replay (R324, R326): the eighth in a row finds the link down. -/
def replay (s : State) (q : Port) : State :=
  let x := port s q
  if x.replay.isEmpty then s
  else if 7 ≤ x.retries then linkDown (setF s (pLink q) LNK_PORT_LINK_RETRY_RUN 7) q 1
  else
    let s := setF s (pLink q) LNK_PORT_LINK_RETRY_RUN x.retries
    let s := setPort s q { x with retries := x.retries + 1, replayAt := now s }
    let s := bump s (LNK_CNT_RETRY (portBundle q) (portLane q)) LNK_CNT_RETRY_COUNT 1
    resend q x.replay (note s (portSource q) 0x09 (BitVec.ofNat 32 q.val))

/-- REPLAY_TIMEOUT (R324): the port's round trip time and 200 ns without an acknowledgement; the timer stands while
the partner is in low-power idle (R412). -/
def execReplayTimeout (q : Port) (s : State) : Host.Outcome State Fault Refusal :=
  .next (ifRunning s (
    let x := port s q
    if portUp s q && !x.replay.isEmpty && x.lpi == 0 then
      replay (advanceTo s (x.replayAt + BitVec.ofNat 64 (getF s (pLink q) LNK_PORT_LINK_RTT + 200))) q
    else s))

/-! ### Words (R323–R325) -/

/-- Acknowledgement, credits and NAK of an EOP or IDLE word. -/
def takeWord (s : State) (q : Port) (w : Nat) : State :=
  let s := takeAckSeq s q (BitVec.ofNat 12 (bits w 17 6))
  let s := setPort s q { addCredits (port s q) w with lpi := 0 }
  if bit w 5 then replay s q else s

/-- The packet whose end word a port expects, by its sequence number. -/
def findReceived (s : State) (q : Nat) (seq : BitVec 12) : Option Pkt := (partials s q).find? (fun x => x.p.seq == seq)

/-- The credit behind a buffer is out again: the replay is received into the buffer. -/
def reoffer (s : State) (q : Nat) (b : Buf) : State :=
  let s := { s with net := { s.net with occ := s.net.occ.erase (bitOf b.die b.pool b.idx) } }
  let x := port s q
  match b.back with
  | some (_, v, t, c) =>
    setPort s q (if c = 3 then { x with dedOut := incAt x.dedOut (2 * v + t) } else { x with granted := incAt x.granted (3 * v + c) })
  | none => s

/-- A failed LCRC (R324, R325): the copy that is in the device or on its way out ends stomped, and the replay is asked for,
to be received into the packet's buffer. -/
def badPacket (s : State) (q : Port) (seq : BitVec 12) : State :=
  let s := bump s (LNK_CNT_LCRC (portBundle q) (portLane q)) LNK_CNT_LCRC_COUNT 1
  match findReceived s q seq with
  | none => nak s q
  | some y =>
    let s := settleDrained (endPartial y true false s) y.no false
    let s := match y.ingress.orElse (fun _ => y.buf) with | some b => reoffer s q b | none => s
    setPort s q { port s q with rxSeq := seq, midway := false, nakDue := true }

/-- A packet whose end word carries STOMP is counted once (R258). -/
def countStomp (s : State) (y : Pkt) : State :=
  if y.p.stomp then s
  else setF (bump s (SWC_CNT_STOMP y.die) SWC_CNT_STOMP_COUNT 1) (SWC_STATUS y.die) SWC_STATUS_STOMP_EVENT 1

/-- A good end word: the packet is accepted whole. -/
def goodPacket (s : State) (q : Port) (seq : BitVec 12) (stomp : Bool) : State :=
  match findReceived s q seq with
  | none => s
  | some y =>
    let s := settleDrained (endPartial y stomp true (if stomp then countStomp s y else s)) y.no true
    setPort s q { port s q with midway := false, ackDue := true }

/-- A FEC codeword with an uncorrectable error: no byte of it reaches the slice, and a replay is asked for (R324). A packet
in progress goes on when the replay brings what it lacks. -/
def badCodeword (s : State) (q : Port) : State :=
  nak (bump s (LNK_CNT_FEC (portBundle q) (portLane q)) LNK_CNT_FEC_UNCORRECTABLE 1) q

/-- An end word whose packet is good. -/
def goodEop (s : State) (q : Port) (w : Word) (seq : BitVec 12) : State :=
  if bits w.toNat 3 0 ≠ 2 then nak s q
  else takeWord (goodPacket s q seq (bit w.toNat 4)) q w.toNat

/-- EOP (R324, R325); codewords that FEC has corrected are counted (Table 12.9). -/
def execEop (q : Port) (w : Word) (seq : BitVec 12) (rx : Reception) (s : State) : Host.Outcome State Fault Refusal :=
  .next (ifRunning s (
    if !portUp s q then s
    else match rx with
      | .uncorrectable => badCodeword s q
      | .badLcrc => badPacket s q seq
      | .good => goodEop s q w seq
      | .corrected n => goodEop (bump s (LNK_CNT_FEC (portBundle q) (portLane q)) LNK_CNT_FEC_CORRECTED n.toNat) q w seq))

/-- The WCRC of a word holds. -/
def wcrcOk (w : Word) : Bool := wcrcWord (w.toNat % 2 ^ 32) == w

/-- IDLE (R323): a failed WCRC or a wrong kind is a link error. -/
def execIdle (q : Port) (w : Word) (s : State) : Host.Outcome State Fault Refusal :=
  .next (ifRunning s (
    if !portUp s q then s
    else if bits w.toNat 3 0 = 3 ∧ wcrcOk w = true then takeWord s q w.toNat
    else nak s q))

/-- LPI (R412): a link error below PFP 5.0. -/
def execLpi (q : Port) (w : Word) (s : State) : Host.Outcome State Fault Refusal :=
  .next (ifRunning s (
    if !portUp s q then s
    else if bits w.toNat 3 0 = 5 ∧ wcrcOk w = true ∧ 0x50 ≤ getF s (pStat q) LNK_PORT_STATUS_VERSION then
      let s := takeAckSeq s q (BitVec.ofNat 12 (bits w.toNat 17 6))
      let st := match bits w.toNat 5 4 with | 1 => 1 | 2 => 2 | _ => 0
      setPort s q { port s q with lpi := st, replayAt := if st = 0 then now s else (port s q).replayAt }
    else nak s q))

/-- LPI_HOLD_SEND (R412): a port of a bundle in DUIKER sends a HOLD word. -/
def execLpiHoldSend (q : Port) (s : State) : Host.Outcome State Fault Refusal :=
  .next (ifRunning s (
    if lpiPort s q = true ∧ domState s (96 + portBundle q) = 2 ∧ s.pwr.waking.contains (96 + portBundle q) = false then
      let x := port s q
      emit (setPort s q { x with ackDue := false }) (.word q (lpiWord x 2))
    else s))

/-- An IDLE word of a port. -/
def idleWord (x : PortSt) : Word := wcrcWord (3 + wordLow x)

/-- A port has an acknowledgement, a replay request or a credit to send. -/
def wordDue (x : PortSt) : Bool := x.ackDue || x.nakDue || (nextReturn x).isSome

/-- An IDLE word leaves, in a control frame on an Ethernet port. (DESIGN CHOICE, log entry 90.) -/
def sendIdle (s : State) (q : Port) : State :=
  let x := port s q
  emit (openFrame (setPort s q (afterWord x)) q none) (.word q (idleWord x))

/-- CONTROL_FRAME (R342): an Ethernet port sends what has found no data frame. -/
def execControlFrame (q : Port) (s : State) : Host.Outcome State Fault Refusal :=
  .next (ifRunning s (if portUp s q && portEth s q && wordDue (port s q) then sendIdle s q else s))

/-! ### Bring-up (R255, R328–R333) -/

/-- Grants of a port until a VC and pool hold ADV credits; structural in the count. -/
def grantTo (q v pool : Nat) : Nat → State → State
  | 0, s => s
  | n + 1, s => grantTo q v pool n (grantCredit s q v pool)

/-- Shared credits of the VCs of a list (R255). -/
def grantVcs (s : State) (q : Nat) (vs : List Nat) : State :=
  let adv := getF s (pLink q) LNK_PORT_LINK_ADV
  vs.foldl (fun s v => [0, 1, 2].foldl (fun s pool =>
    grantTo q v pool (adv - (port s q).granted.getD (3 * v + pool) 0) s) s) s

/-- ADV of a pair link, by the formula of R328: 3.2 TB/s (R18), and the 40 ns of a crossing both ways (Table 9.3). (DESIGN CHOICE,
log entry 38.) -/
def meshAdv : Nat := cdiv (2 * 40 * 3200) 2112

/-- The twelve incoming pair links. -/
def pairLinks : List Nat :=
  (List.range 4).flatMap (fun e => ((List.range 4).filter (fun d => d != e)).map (fun d => pairLink e d))

/-- The incoming side of each pair link grants its shared credits (R255). -/
def startMesh (s : State) : State :=
  pairLinks.foldl (fun s l => (List.range 8).foldl (fun s v => [0, 1, 2].foldl (fun s pool => grantTo l v pool meshAdv s) s) s) s

/-- An INIT word. -/
def initWord (step vmin vmax ts : Nat) : Word := BitVec.ofNat 64 (4 + step * 2 ^ 4 + vmin * 2 ^ 6 + vmax * 2 ^ 14 + ts % 2 ^ 32 * 2 ^ 32)

/-- Versions that a port offers (R330). -/
def verMax (s : State) (q : Nat) : Nat := getF s (pCtrl q) LNK_PORT_CTRL_VER_MAX

/-- INIT word of a step from a port. -/
def sendInit (s : State) (q : Port) (step ts : Nat) : State := emit s (.word q (initWord step 0x30 (verMax s q) ts))

/-- Until the peer's step 1 has come, step 1 leaves again every 1 µs (R331). -/
def repeatInit (s : State) (q : Port) : State :=
  if portState s q = 2 ∧ (port s q).initStep = 0 ∧ (port s q).initAt.toNat + 1000 ≤ (now s).toNat then
    sendInit (setPort s q { port s q with initAt := now s }) q 1 (now s).toNat
  else s

/-- ADV of a round trip time (R328). -/
def advOf (s : State) (q rtt : Nat) : Nat :=
  min (getF s (LNK_BUNDLE_CTRL (portBundle q)) LNK_BUNDLE_CTRL_ADV_MAX) (max 2 (cdiv (rtt * 25 * portLanes s q) 2112))

/-- Lowest version at which a packet type exists (Table 12.6). -/
def typeSince (t : Nat) : Nat := match t with | 2 => 0x52 | 8 => 0x50 | 3 => 0x40 | 5 => 0x40 | 7 => 0x40 | _ => 0x30

/-- A job's traffic on a port may use SLOT packets: the job owns a layer slot. -/
def usesSlots (s : State) (j : Nat) : Bool :=
  s.slots.any (fun e => bit (wordAt e.2 0).toNat 6 && bits (wordAt e.2 0).toNat 31 16 == j)

/-- A link at a version other than its previous one (R333). -/
def versionChange (s : State) (q ver : Nat) : State :=
  let x := port s q
  let s' := setPort s q { x with lastVersion := ver }
  if x.lastVersion = 0 ∨ x.lastVersion = ver then s'
  else
    let s' := event s' (pStat q) LNK_PORT_STATUS_VERSION_EVENT 4
    (jobsOnPort s' q).foldl (fun s j =>
      if (job s j).isSome && (decide (ver < 0x50) || (decide (ver < 0x52) && usesSlots s j)) then
        jobFault s (portSource q) 0x17 j (BitVec.ofNat 32 q)
      else s) s'

/-- Packets still held for a slot or an early launch keep the credits of their VC on their port withheld, and so do buckets
at zero or below (R108, R168, R253). -/
def resumeHolds (s : State) (q : Nat) : State :=
  let s := (s.net.locals.filter (fun x => x.port == some q)).foldl (fun s x =>
    if x.hold = 2 then withhold s q x.vc 2 else if x.hold = 5 then withhold s q x.vc 1 else s) s
  checkPolicers (refill s q) q

/-- The device's own statement (R334): its place in the plane is the plan's. (DESIGN CHOICE, log entry 91.) -/
def ownStatement (s : State) : OwnStatement :=
  let p := match s.sec.plan with | some p => p.pos | none => 0
  { deviceId := deviceId s, plane := ext p 24 8, x := ext p 0 8, y := ext p 8 8, z := ext p 16 8, verMin := 0x30,
    verMax := 0x52, nonce := s.sec.nonce, signFt := s.sec.signFt, cert := s.sec.cfg.deviceCert }

/-- In VERIFYING, the statement and a challenge of 128 bits go to the partner (R334). -/
def sendStatement (s : State) (q : Port) : State :=
  let (a, s) := fresh s
  let (b, s) := fresh s
  let c := BitVec.ofNat 128 (a.toNat + b.toNat * 2 ^ 64)
  emit { s with sec := { s.sec with challenge := mapPut s.sec.challenge q c } } (.statement q (ownStatement s) c)

/-- Packets that wait for a link which retrains lower and can no longer express them are refused (R332). -/
def refuseWaiting (s : State) (q ver : Nat) : State :=
  let bad (x : Pkt) : Bool := !expressible ver x.p && !copyFrame s q x.p
  let l := (port s q).q.filter bad
  l.foldl (fun s x => if x.p.type = 7 then discard s x else refuseWhole s x 4)
    (setPort s q { port s q with q := (port s q).q.filter (fun x => !bad x) })

/-- Link up (R255, R331): sequence numbers from 0, dedicated buffers, credits of VC7, discovery. -/
def linkUp (s : State) (q : Port) (ver : Nat) : State :=
  let s := setF s (pStat q) LNK_PORT_STATUS_VERSION ver
  let s := (List.range 16).foldl (fun s _ => takeBuf s (portDie q) 37 2) s
  let s := setPort s q { port s q with
    txSeq := 0, rxSeq := 0, replay := [], retries := 0, replayAt := now s, initStep := 3, fails := 0, downAt := none,
    ded := List.replicate 16 1, dedOut := List.replicate 16 1, midway := false }
  let s := refuseWaiting (resumeHolds (setPState s q 3) q) q ver
  sendStatement (versionChange (grantVcs s q [7]) q ver) q

/-- An INIT word arrives (R330, R331). -/
def takeInit (s : State) (q : Port) (w : Nat) : State :=
  let x := port s q
  match bits w 5 4 with
  | 1 =>
    let vmin := bits w 13 6
    let vmax := bits w 21 14
    let ver := min (verMax s q) vmax
    if ver < 0x30 ∨ ver < vmin then setDisc (setPState s q 6) q 0
    else sendInit (setPort s q { x with initStep := max 1 x.initStep, peerMin := BitVec.ofNat 8 vmin, peerMax := BitVec.ofNat 8 vmax }) q 2
      (bits w 63 32)
  | 2 =>
    if x.initStep = 0 then s
    else
      let rtt := min 65535 (((now s).toNat % 2 ^ 32 + 2 ^ 32 - bits w 63 32) % 2 ^ 32)
      let s := setF s (pLink q) LNK_PORT_LINK_RTT rtt
      let s := setF s (pLink q) LNK_PORT_LINK_ADV (advOf s q rtt)
      sendInit (setPort s q { x with initStep := 2 }) q 3 0
  | 3 => if x.initStep = 2 then linkUp s q (min (verMax s q) x.peerMax.toNat) else s
  | _ => s

/-- INIT (R331): in state INIT. -/
def execInit (q : Port) (w : Word) (s : State) : Host.Outcome State Fault Refusal :=
  .next (ifRunning s (if portState s q = 2 ∧ bits w.toNat 3 0 = 4 then takeInit s q w.toNat else s))

/-- An Ethernet port outside R341: of 8 lanes, or of an optical bundle. -/
def ethBarred (s : State) (q : Nat) : Bool :=
  portEth s q && (getF s (pCtrl q) LNK_PORT_CTRL_WIDTH == 3 || getF s (LNK_BUNDLE_CTRL (portBundle q)) LNK_BUNDLE_CTRL_REACH == 3)

/-- A port begins to train (R318, R322, R326, R341): enabled, its bundle's optical engine not in fault and returned to service since
its last one, and its lasers on where its reach is optical. -/
def startTraining (s : State) (q : Nat) : State :=
  let b := portBundle q
  let dark := isSet s (LNK_OPT_STATUS b) LNK_OPT_STATUS_FAULT || s.net.dark.contains b
    || (getF s (LNK_BUNDLE_CTRL b) LNK_BUNDLE_CTRL_REACH == 3 && !isSet s (LNK_OPT_CTRL b) LNK_OPT_CTRL_LASER_EN)
  if isSet s (pCtrl q) LNK_PORT_CTRL_EN && !portUp s q && !dark && !ethBarred s q then
    let x := port s q
    setPState (setPort s q { x with trainAt := some (x.trainAt.getD (now s)), fails := 0, initStep := 0 }) q 1
  else s

/-- LINK_TRAINING_DONE (R329): the INIT exchange on success, another attempt on failure. -/
def execLinkTrainingDone (q : Port) (ok reversed : Bool) (s : State) : Host.Outcome State Fault Refusal :=
  .next (ifRunning s (
    let x := port s q
    if portState s q ≠ 1 then s
    else if ok then
      let s := setF s (pStat q) LNK_PORT_STATUS_REVERSED (b2n reversed)
      bootAdvance (sendInit (setPState (setPort s q { x with initStep := 0, fails := 0, initAt := now s }) q 2) q 1 (now s).toNat)
    else setPort s q { x with fails := x.fails + 1 }))

/-- PORT_FAILED (R326): 16 consecutive failed trainings. -/
def execPortFailed (q : Port) (s : State) : Host.Outcome State Fault Refusal :=
  .next (ifRunning s (
    if portState s q = 1 ∧ 16 ≤ (port s q).fails then
      bootAdvance (evalBundle (note (setPState s q 6) (portSource q) 0x0A (BitVec.ofNat 32 q.val)) (portBundle q))
    else s))

/-! ### Rerouting (R279, R296, R340) -/

/-- The flow of a packet (R277). -/
def flowOf (x : Pkt) : Nat × Nat × Nat × Nat := (x.p.job, x.p.src, x.p.dst, x.p.vc)

/-- The packets that waited for a port take their new way; each flow counts once. -/
def replaceAll : List Pkt → State → State
  | [], s => s
  | x :: l, s =>
    let w := match x.dest with
      | .port q true => .out q x.vc (x.twin == 1) true
      | _ => wayOf s x.p x.port
    replaceAll l (placePkt s { x with dest := .here, hold := 0 } w)

/-- Flows of a list of packets that another port takes over. -/
def rehashed (s : State) (q : Nat) (l : List Pkt) : Nat :=
  ((l.filter (fun x => match wayOf s x.p x.port with | .out p _ _ _ => p != q | _ => false)).map flowOf).eraseDups.length

/-- Packets that wait to cross to a port's die. -/
def crossingTo (s : State) (q : Nat) : List Pkt := s.net.outbox.filter (fun x => (crossing x).isSome && x.dest == .port q false)

/-- The 10 ms hold of a port ends: it is no candidate, and what waited goes elsewhere or is lost. -/
def endHold (s : State) (q : Nat) : State :=
  let x := port s q
  let s := setPort s q { x with q := [], downAt := none }
  match planDir s q with
  | some _ =>
    let s := setReg s (HUB_RT_DOWN (q / 64)) (reg s (HUB_RT_DOWN (q / 64)) ||| (1 : Word) <<< (q % 64))
    let l := x.q ++ crossingTo s q
    let s := { s with net := { s.net with outbox := s.net.outbox.filter (fun y => !(l.any (fun z => z.no == y.no))) } }
    let s := bump s HUB_CNT_REHASH HUB_CNT_REHASH_COUNT (rehashed s q l)
    replaceAll l s
  | none => x.q.foldl losePkt s

/-- REHASH (R279): the link has been down for 10 ms. -/
def execRehash (q : Port) (s : State) : Host.Outcome State Fault Refusal :=
  .next (ifRunning s (match (port s q).downAt with
    | none => s
    | some t => if portUp s q then s else endHold (advanceTo s (t + 10000000)) q))

/-- LOSS_LIMIT (R296): 8 or more links lost within one hold. -/
def execLossLimit (s : State) : Host.Outcome State Fault Refusal :=
  .next (ifRunning s (
    if 8 ≤ s.net.losses.length then note (setF s HUB_RT_STATUS HUB_RT_STATUS_LOSS_LIMIT_EVENT 1) 175 0x1D 0 else s))

/-! ### Optical engines (R322) -/

/-- OPTICAL_FAULT (R322): lasers off, every port of the bundle down, a UNIT fault of the bundle. -/
def execOpticalFault (site : Fin 16) (temp : Byte) (s : State) : Host.Outcome State Fault Refusal :=
  .next (ifRunning s (
    let b := 8 + site.val
    if isSet s (LNK_BUNDLE_STATUS b) LNK_BUNDLE_STATUS_OPT_PRESENT then
      let s := setF s (LNK_OPT_STATUS b) LNK_OPT_STATUS_TEMP temp.toNat
      let s := setF s (LNK_OPT_STATUS b) LNK_OPT_STATUS_FAULT 1
      let s := setF s (LNK_BUNDLE_STATUS b) LNK_BUNDLE_STATUS_OPT_FAULT 1
      let s := event s (LNK_BUNDLE_STATUS b) LNK_BUNDLE_STATUS_OPT_FAULT_EVENT 4
      let s := setF s (LNK_OPT_CTRL b) LNK_OPT_CTRL_LASER_EN 0
      let s := if s.net.dark.contains b then s else { s with net := { s.net with dark := b :: s.net.dark } }
      let s := (portsOf s b).foldl (fun s q => if portUp s q then linkDown s q 0 else setPState s q 0) s
      fault s (112 + b) 0x0B 2 0xFFFF 0
    else s))

/-- OPT_FAULT_CLEARED (R322): a later RESTART may turn the lasers on again. -/
def execOptFaultCleared (site : Fin 16) (s : State) : Host.Outcome State Fault Refusal :=
  .next (ifRunning s (
    let b := 8 + site.val
    setF (setF s (LNK_OPT_STATUS b) LNK_OPT_STATUS_FAULT 0) (LNK_BUNDLE_STATUS b) LNK_BUNDLE_STATUS_OPT_FAULT 0))

/-- SIGNAL_DETECT (R413): demand on a bundle in DIKDIK. -/
def execSignalDetect (b : Bundle) (s : State) : Host.Outcome State Fault Refusal :=
  .next (ifRunning s (if domState s (96 + b) = 3 then demandWake s (96 + b) else s))

/-! ### Ethernet (R311, R343) -/

/-- The policer's view of a frame: dropped, or its bytes deducted. -/
def policeFrame (s : State) (q : Nat) (f : EthFrame) : State :=
  if isSet s (TSC_POLICER q f.vc.val) TSC_POLICER_EN then
    let s := refill s q
    let x := port s q
    let t := x.policer.getD f.vc.val 0
    if t < ((f.bytes * 128000 : Nat) : Int) then
      setF (bump s (TSC_CNT_POLICE_DROP q) TSC_CNT_POLICE_DROP_COUNT 1) (TSC_STATUS q) TSC_STATUS_POLICE_EVENT 1
    else setPort s q { x with policer := x.policer.set f.vc.val (t - ((f.bytes * 128000 : Nat) : Int)) }
  else s

/-- ETHERNET_FRAME (R343). -/
def execEthernetFrame (q : Port) (f : EthFrame) (s : State) : Host.Outcome State Fault Refusal :=
  .next (ifRunning s (
    let d := LNK_ETH_DISCARD (portBundle q) (portLane q)
    if !portEth s q then s
    else if !f.fcsOk then bump s d LNK_ETH_DISCARD_FCS 1
    else if f.etherType = 0x88B6 ∧ f.toPort = true then policeFrame s q f
    else if isSet s (LNK_ETH_CTRL (portBundle q) (portLane q)) LNK_ETH_CTRL_PTP_EN
        && (f.ptpAddressed || (f.etherType == 0x88F7 && f.toPort)) then emit s (.ptp q)
    else bump s d LNK_ETH_DISCARD_FRAMES 1))

end Sys2Proof.Machine
end

