-- ==== Sys2Proof/Machine/Discovery.lean ====
section
/-! DEFINITION. Discovery (R333–R340): statements, link proofs, their verification by the SEC unit (R458, R459) and the
outcome against the topology plan. -/
namespace Sys2Proof.Machine

/-! ### Verification (R458) -/

/-- The SEC unit counts a signed object, accepted or rejected. (DESIGN CHOICE, log entry 39.) -/
def countVerify (s : State) (ok : Bool) : State :=
  if ok then bump s SEC_CNT_VERIFY SEC_CNT_VERIFY_ACCEPTED 1
  else event (bump s SEC_CNT_VERIFY SEC_CNT_VERIFY_REJECTED 1) SEC_STATUS SEC_STATUS_VERIFY_FAIL_EVENT 3

/-! ### Expectations (R336) -/

/-- What the plan expects at a port. -/
def expectAt (s : State) (q : Nat) : Expect :=
  match s.sec.plan with
  | none => .none
  | some p => match p.ports.find? (fun x => x.port.val == q) with | some x => x.expect | none => .none

/-- The plan expects a neighbour: a KV9 or a KV6. -/
def wantsNeighbour (e : Expect) : Bool :=
  match e with
  | .kv9 .. => true
  | .kv6 .. => true
  | _ => false

/-- Coordinate of the neighbour that the plan expects. -/
def neighbourCoord (e : Expect) : Option (Nat → Nat) :=
  match e with
  | .kv9 _ _ _ x y z => some (triple x.toNat y.toNat z.toNat)
  | .kv6 _ _ _ x y z => some (triple x.toNat y.toNat z.toNat)
  | _ => none

/-- A statement is the one expected: kind, identity, port, plane and coordinate, or an endpoint under its policy. -/
def meetsPlan (e : Expect) (st : Statement) : Bool :=
  match e with
  | .none => false
  | .kv9 d p pl x y z => st.kind == 1 && st.deviceId == d && st.port == p && st.plane == pl && st.x == x && st.y == y && st.z == z
  | .kv6 d p pl x y z => st.kind == 2 && st.deviceId == d && st.port == p && st.plane == pl && st.x == x && st.y == y && st.z == z
  | .endpointAny => st.kind == 3
  | .endpointKey k => st.kind == 3 && st.keyDigest == k
  | .ethAny => st.kind == 3
  | .ethKey k => st.kind == 3 && st.keyDigest == k

/-- An endpoint whose identity needs no signature (R336). -/
def unsignedIdentity (e : Expect) (st : Statement) : Bool :=
  st.kind == 3 && match e with
    | .endpointKey _ => false
    | .ethKey _ => false
    | _ => true

/-! ### Missing elements (R338) -/

/-- Running jobs whose slice contains the device at either end of a port's link, or whose ranks or circuits name it. -/
def missingJobs (s : State) (q : Nat) : List Nat :=
  let nb := neighbourCoord (expectAt s q)
  ((jobEntries s).filter (fun e => inSlice s e.1 (ownCoord s) || (match nb with | some c => inSlice s e.1 c | none => false))).map Prod.snd
    ++ jobsOnPort s q

/-- The expected neighbour of a port is flagged missing. -/
def flagMissing (s : State) (q : Nat) : State :=
  let s := setPort s q { port s q with missing := true }
  ((missingJobs s q).eraseDups.filter (fun j => (job s j).isSome && !jobQuiesced s j)).foldl
    (fun s j => jobFault s (portSource q) 0x18 j (BitVec.ofNat 32 q)) s

/-! ### Outcomes (Table 12.7) -/

/-- The partner's identity stands in LNK_PORT_PEER and LNK_PORT_PEER2. -/
def showPeer (s : State) (q : Nat) (st : Statement) : State :=
  let b := portBundle q
  let l := portLane q
  let s := setReg s (LNK_PORT_PEER b l) st.deviceId
  setReg s (LNK_PORT_PEER2 b l) (zext st.port ||| zext st.plane <<< 10 ||| zext st.x <<< 18 ||| zext st.y <<< 26
    ||| zext st.z <<< 34 ||| zext st.kind <<< 42)

/-- Every port at which the plan expects a neighbour has an outcome of discovery. -/
def planChecked (s : State) (p : Plan) : Bool :=
  p.ports.all (fun x => !wantsNeighbour x.expect || getF s (pStat x.port) LNK_PORT_STATUS_DISC != 0)

/-- Discovery has checked the device against the plan: HUB_RT_POS takes its place in the plane (R270). (DEDUCED, log
entry 28.) -/
def placePos (s : State) : State :=
  match s.sec.plan with
  | some p => if planChecked s p then setKnown s HUB_RT_POS p.pos else s
  | none => s

/-- A port leaves discovery without MATCH: quarantined, one NOTE; a neighbour that was expected is missing. -/
def quarantine (s : State) (q disc : Nat) : State :=
  let s := setDisc (setPState s q 5) q disc
  let s := note (placePos s) (portSource q) 0x0C (BitVec.ofNat 32 (q + disc * 2 ^ 16))
  if disc ≠ 2 ∧ wantsNeighbour (expectAt s q) = true then flagMissing s q else s

/-- A port leaves its direction's candidates until the next RESTART of its port group (R279, R338). -/
def excludePort (s : State) (q : Nat) : State :=
  setReg s (HUB_RT_DOWN (q / 64)) (reg s (HUB_RT_DOWN (q / 64)) ||| (1 : Word) <<< (q % 64))

/-- Packets that wait for job ranks bound to another identity are lost: those ranks carry no traffic (R340). -/
def loseStrangers (s : State) (q : Nat) : State :=
  let bad (x : Pkt) : Bool := x.dest == .port q true && boundElsewhere s q x.p.job
  let l := (port s q).q.filter bad
  l.foldl losePkt (setPort s q { port s q with q := (port s q).q.filter (fun x => !bad x) })

/-- MATCH: the port is ACTIVE, and the credits of every VC are granted (R255, R337). While its port group is quiesced it is
no candidate (R338). -/
def matched (s : State) (q : Nat) : State :=
  let s := setPort s q { port s q with missing := false, trainAt := none }
  let s := event (placePos (setDisc (setPState s q 4) q 1)) (pStat q) LNK_PORT_STATUS_UP_EVENT 4
  let s := if quiesced s 0 (portBundle q) && (planDir s q).isSome then excludePort s q else s
  grantVcs (returnKept (loseStrangers s q) q) q [0, 1, 2, 3, 4, 5, 6]

/-- The outcome of discovery for a verified partner. -/
def outcome (s : State) (q : Nat) (st : Statement) : State :=
  let s := showPeer s q st
  let e := expectAt s q
  if meetsPlan e st then matched s q
  else quarantine s q (match e with | .none => 2 | _ => 3)

/-- A statement, identity or proof fails to verify. -/
def badIdentity (s : State) (q : Nat) (st : Statement) : State := quarantine (showPeer s q st) q 5

/-- The statement of a device that has been verified, by DEVICE_ID and boot nonce (R335). -/
def knownAs (s : State) (st : Statement) : Option Statement :=
  s.sec.known.find? (fun k => k.deviceId == st.deviceId && k.nonce == st.nonce && st.kind == 1)

/-- DISCOVERY_STATEMENT (R334–R336): a partner's statement and challenge. Of a device that is known, what its verified statement
says counts, with the port that the link proof vouches for. -/
def execDiscoveryStatement (q : Port) (st : Statement) (challenge : BitVec 128) (s : State) : Host.Outcome State Fault Refusal :=
  .next (ifRunning s (
    if portState s q ≠ 3 then s
    else
      let e := expectAt s q
      let s := setPort s q { port s q with statement := some st, challenge := some challenge, stmtOk := false }
      if unsignedIdentity e st then outcome s q st
      else if st.kind = 2 ∧ (match e with | .kv6 .. => true | _ => false) = false then badIdentity s q st
      else
        let s := match knownAs s st with
          | some k => setPort s q { port s q with statement := some { k with port := st.port }, stmtOk := true }
          | none => addWork s (.statement q st)
        addWork s (.signProof q)))

/-- LINK_PROOF (R334): queued for verification. -/
def execLinkProof (q : Port) (s : State) : Host.Outcome State Fault Refusal :=
  .next (ifRunning s (if portState s q = 3 ∧ (port s q).statement.isSome = true then addWork s (.proof q) else s))

/-- LINK_PROOF_SIGNED (R335): the port sends its proof. -/
def execLinkProofSigned (q : Port) (s : State) : Host.Outcome State Fault Refusal :=
  .next (ifRunning s (
    if s.sec.work.contains (.signProof q) then
      let s := { s with sec := { s.sec with work := s.sec.work.erase (.signProof q) } }
      if portUp s q then emit s (.linkProof q ((port s q).challenge.getD 0) (deviceId s) (Config.statementDigest (ownStatement s))) else s
    else s))

/-- A statement or proof that waits for verification. -/
def SecWork.verifies (w : SecWork) : Bool :=
  match w with
  | .statement _ _ => true
  | .proof _ => true
  | _ => false

/-- A port still discovers, with this statement. -/
def stillAsks (s : State) (q : Nat) (st : Statement) : Bool := portState s q == 3 && (port s q).statement == some st

/-- A statement is accepted: a device's by its chain to the roots, a KV6's legacy identity by its one signature, an endpoint's
by its signatures (R334–R336). -/
def identityOk (s : State) (st : Statement) (c : SigCheck) (proofOk : Bool) : Bool :=
  if st.kind = 2 then proofOk else if st.kind = 1 then statementOk s st c else sigOk c

/-- A statement has been checked. -/
def statementDone (s : State) (q : Port) (st : Statement) (c : SigCheck) (proofOk : Bool) : State :=
  let ok := identityOk s st c proofOk
  let s := if st.kind = 2 then s else countVerify s ok
  let s := if ok && st.kind == 1 then { s with sec := { s.sec with known := s.sec.known ++ [st] } } else s
  if !stillAsks s q st then s
  else if !ok then badIdentity s q st
  else
    let s := setPort s q { port s q with stmtOk := true }
    if st.kind = 3 then outcome s q st else s

/-- A link proof has been checked. -/
def proofDone (s : State) (q : Port) (proofOk : Bool) : State :=
  match (port s q).statement with
  | none => s
  | some st =>
    if portState s q ≠ 3 then s
    else if proofOk && (port s q).stmtOk then outcome s q st
    else badIdentity s q st

/-! ### Owner records (R461) -/

/-- Whether an owner record is accepted: the root that its certificate must name, its own for an empty slot and the owner's
otherwise, has certified its key. -/
def ownerOk (s : State) (o : Signed) (c : SigCheck) (byOwnRoot byOwner : Bool) : Bool :=
  c.rsaOk && c.slhOk && match s.nvm.owner with
    | none => byOwnRoot && objOk o 4 4 [keysDigest (ownerRoot o)]
    | some r => byOwner && objOk o 4 4 [keysDigest (ownerRoot r)]

/-- An owner record enters the slot. -/
def takeOwner (s : State) (o : Signed) : State :=
  let s := setF { s with nvm := { s.nvm with owner := some o } } SEC_STATUS SEC_STATUS_OWNED 1
  logEvent (event s SEC_STATUS SEC_STATUS_OWNER_EVENT 3) 4 0x03 173 0

/-- An owner record has been verified. -/
def ownerDone (s : State) (o : Signed) (c : SigCheck) (byOwnRoot byOwner : Bool) : State :=
  let ok := ownerOk s o c byOwnRoot byOwner
  let s := countVerify s ok
  if ok then takeOwner s o else s

/-- OWNER_SET: only after READY; verified when its turn comes (R459). -/
def execOwnerSet (record : Signed) (c : SigCheck) (byOwnRoot byOwner : Bool) (s : State) : Host.Outcome State Fault Refusal :=
  .next (ifRunning s (
    if isSet s HUB_BOOT HUB_BOOT_READY then
      if (nextWork s).isNone then ownerDone s record c byOwnRoot byOwner else addWork s (.owner record)
    else s))

/-- The object whose verification ends next: discovery's oldest, or an owner record at the front of all other work. -/
def nextVerify (s : State) : Option SecWork :=
  match s.sec.work.find? SecWork.verifies with
  | some w => some w
  | none => nextWork s

/-- VERIFICATION_COMPLETE (R458, R459): statements and proofs go before all other work. Of an owner record, `c` is what the
arithmetic finds under the root that must have certified its key. -/
def execVerificationComplete (c : SigCheck) (proofOk : Bool) (s : State) : Host.Outcome State Fault Refusal :=
  .next (ifRunning s (match nextVerify s with
    | some (.statement q st) => statementDone (endWork s (.statement q st)) q st c proofOk
    | some (.proof q) => proofDone (endWork s (.proof q)) q proofOk
    | some (.owner o) => ownerDone (endWork s (.owner o)) o c (c.certRsaOk && c.certSlhOk) (c.certRsaOk && c.certSlhOk)
    | _ => s))

/-- DISC_TO of a port, ns (Table 12.10). -/
def discTimeout (s : State) (q : Nat) : Nat :=
  max 1 (getF s (LNK_BUNDLE_CTRL (portBundle q)) LNK_BUNDLE_CTRL_DISC_TO) * 100000000

/-- No partner has reached MATCH at a port that expects a neighbour. -/
def timeOut (s : State) (q : Nat) (t : Word) : State :=
  let s := advanceTo s (t + BitVec.ofNat 64 (discTimeout s q))
  let s := placePos (setDisc (setPort s q { port s q with trainAt := none }) q 4)
  flagMissing (note s (portSource q) 0x0C (BitVec.ofNat 32 (q + 4 * 2 ^ 16))) q

/-- DISCOVERY_TIMEOUT (R336). -/
def execDiscoveryTimeout (q : Port) (s : State) : Host.Outcome State Fault Refusal :=
  .next (ifRunning s (match (port s q).trainAt with
    | none => s
    | some t => if wantsNeighbour (expectAt s q) && portState s q ≤ 3 then timeOut s q t else s))

/-- What a port's partner has sent was verified: an outcome other than BAD_IDENTITY stands, reached with its statement checked. -/
def verified (s : State) (q : Nat) : Bool :=
  (port s q).stmtOk && !([0, 5].contains (getF s (pStat q) LNK_PORT_STATUS_DISC))

/-- Discovery runs again at a port whose link is up, against a new plan (R337): what the partner has sent is judged anew, once it is
verified where the new expectation asks for that and it has not been. -/
def rediscover (s : State) (q : Nat) : State :=
  match (port s q).statement with
  | none => s
  | some st =>
    let e := expectAt s q
    if portUp s q = false ∨ portState s q = 3 ∨ (portState s q = 4 ∧ meetsPlan e st = true ∧ (unsignedIdentity e st || verified s q) = true)
    then s
    else if unsignedIdentity e st || verified s q then outcome s q st
    else if st.kind = 2 ∧ (match e with | .kv6 .. => true | _ => false) = false then badIdentity s q st
    else
      let s := addWork (setPState (setPort s q { port s q with stmtOk := false }) q 3) (.statement (Fin.ofNat 1024 q) st)
      if st.kind = 3 then s else addWork s (.proof (Fin.ofNat 1024 q))

end Sys2Proof.Machine
end

