-- ==== Sys2Proof/Machine/Traffic.lean ====
section
/-! DEFINITION. Time-driven traffic scheduling (R301–R304, R311–R313): gate entries, injection throttles, queue
telemetry, and policers that have tokens again. -/
namespace Sys2Proof.Machine

/-! ### Gate entries (R301, R304) -/

/-- FT of the next entry boundary of a port's list, if it has a list. -/
def nextBoundary (s : State) (q : Nat) : Option Nat :=
  if gateLen s q = 0 ∨ gateCycle s q = 0 then none
  else
    let t := (now s).toNat
    let pos := cyclePos (gateCycle s q) (gatePhase s q) t
    match entryAt (gateEntries s q) 0 0 pos with
    | none => none
    | some (i, _, st) => some (t + (st + ((gateEntries s q).getD i (0, 0)).2 - pos))

/-- The transmission in progress runs past the close of its gate (R304): its last byte is still to leave, or to come in
from the link that brings it. -/
def overruns (s : State) (q mask : Nat) : Bool :=
  (decide ((now s).toNat < (port s q).busyUntil.toNat) || (port s q).cut.isSome) && !bit mask (port s q).busyVc

/-- The entry that FT has reached takes force. -/
def enterEntry (s : State) (q : Nat) : State :=
  let s := if overruns s q (gateAt s q (now s).toNat).2 then
      setF (bump s (TSC_CNT_OVERRUN q) TSC_CNT_OVERRUN_COUNT 1) (TSC_STATUS q) TSC_STATUS_OVERRUN_EVENT 1
    else s
  evalBundle s (portBundle q)

/-- GATE_ENTRY_BOUNDARY (R301). -/
def execGateEntryBoundary (q : Port) (s : State) : Host.Outcome State Fault Refusal :=
  .next (ifRunning s (match nextBoundary s q with
    | none => s
    | some t => enterEntry (advanceTo s (BitVec.ofNat 64 t)) q))

/-! ### Queues (Table 11.4) -/

/-- Bytes queued at a port for a VC, both twins. -/
def queued (s : State) (q v : Nat) : Nat :=
  (((port s q).q.filter (fun x => x.vc == v)).map (fun x => 64 + x.p.payload.length)).sum

/-- ns since the head packet of a VC arrived at this device; 0 if empty. -/
def hoqDelay (s : State) (q v : Nat) : Nat :=
  match bestHead ((heads s q).filter (fun x => x.vc == v)) with
  | some x => (now s).toNat - x.arrived.toNat
  | none => 0

/-- DEPTH and HOQ_DELAY of a VC in one word. -/
def queueWord (s : State) (q v : Nat) : Word :=
  BitVec.ofNat 64 (min (queued s q v) (2 ^ 32 - 1) + min (hoqDelay s q v) (2 ^ 32 - 1) * 2 ^ 32)

/-! ### Injection throttles (R312) -/

/-- Level field of a throttled VC. -/
def levelField (v : Nat) : Fld := match v with | 4 => TSC_THROTTLE_LEVEL4 | 6 => TSC_THROTTLE_LEVEL6 | _ => TSC_THROTTLE_LEVEL7

/-- One throttle evaluation of a VC. A level that leaves 8 starts with its bucket full. -/
def evalThrottle (q : Nat) (s : State) (v : Nat) : State :=
  let c := TSC_THROTTLE q
  let k := getF s c (levelField v)
  let b := queued s q v
  if getF s c TSC_THROTTLE_THRESH * 1024 < b then
    let k' := max (k - 1) (max 1 (getF s c TSC_THROTTLE_MIN_LEVEL))
    if k' < k then
      let s := setF s c (levelField v) k'
      let s := setF (bump s (TSC_CNT_THROTTLE q) TSC_CNT_THROTTLE_COUNT 1) (TSC_STATUS q) TSC_STATUS_THROTTLE_EVENT 1
      if k = 8 then
        match throttleIdx v with
        | some i => setPort s q { port s q with throttle := (port s q).throttle.set i (4224 * 128000) }
        | none => s
      else s
    else bump s (TSC_CNT_THROTTLE q) TSC_CNT_THROTTLE_COUNT 1
  else if b < getF s c TSC_THROTTLE_LOW * 1024 then setF s c (levelField v) (min (k + 1) 8)
  else s

/-- First FT after now, in whole ns, that is a multiple of a period. -/
def nextMultiple (s : State) (p : Nat) : Nat := if p = 0 then (now s).toNat else ((now s).toNat / p + 1) * p

/-- THROTTLE_EVALUATION (R312): the next multiple of INTERVAL. With EN at 0 every level is held at 8. -/
def execThrottleEvaluation (q : Port) (s : State) : Host.Outcome State Fault Refusal :=
  .next (ifRunning s (
    let c := TSC_THROTTLE q
    let s := refill (advanceTo s (BitVec.ofNat 64 (nextMultiple s (max 1 (getF s c TSC_THROTTLE_INTERVAL) * 1000)))) q
    if isSet s c TSC_THROTTLE_EN then [4, 6, 7].foldl (evalThrottle q) s
    else [4, 6, 7].foldl (fun s v => setF s c (levelField v) 8) s))

/-! ### Telemetry (R313) -/

/-- The sixteen words of a port's record. (DESIGN CHOICE, log entry 43.) (DESIGN CHOICE, log entry 70.) -/
def telRecord (s : State) (q : Nat) (n : BitVec 32) : List Word :=
  let (i, m) := gateAt s q (now s).toNat
  [now s, BitVec.ofNat 64 (q + n.toNat * 2 ^ 32)]
    ++ (List.range 8).map (queueWord s q)
    ++ [BitVec.ofNat 64 (getF s (TSC_THROTTLE q) TSC_THROTTLE_LEVEL4 + getF s (TSC_THROTTLE q) TSC_THROTTLE_LEVEL6 * 2 ^ 4
          + getF s (TSC_THROTTLE q) TSC_THROTTLE_LEVEL7 * 2 ^ 8 + i * 2 ^ 12 + m * 2 ^ 22)]
    ++ List.replicate 5 0

/-- Ports sampled: those of TSC_TEL_PORTMASK that are a port's lowest lane, in ascending order. -/
def telPorts (s : State) : List Nat :=
  ((List.range 32).flatMap (portsOf s)).filter (fun q => bit (reg s (TSC_TEL_PORTMASK (q / 64))).toNat (q % 64))

/-- One record is written to the ring, or skipped. -/
def writeTel (s : State) (e : Nat × List Word) : State :=
  let head := (reg s TSC_TEL_HEAD).toNat
  let size := 2 ^ getF s TSC_TEL_SIZE TSC_TEL_SIZE_LOG2
  if (BitVec.ofNat 64 head - reg s TSC_TEL_TAIL).toNat = size then bump s TSC_TEL_SKIPPED TSC_TEL_SKIPPED_COUNT 1
  else
    let a := (reg s TSC_TEL_BASE).toNat + head % size * 128
    let s := match locateSpan s none a 128 with
      | some (_, k) => putBytes s k (wordsToBytes e.2)
      | none => s
    setReg s TSC_TEL_HEAD (BitVec.ofNat 64 (head + 1))

/-- A sample's records: written in port order, or, when the sample before is not yet fully written, skipped whole. -/
def sampleQueues (late : Bool) (n : BitVec 32) (s : State) : State :=
  let l := (telPorts s).map (fun q => (q, telRecord s q n))
  if late then bump s TSC_TEL_SKIPPED TSC_TEL_SKIPPED_COUNT l.length else l.foldl writeTel s

/-- TELEMETRY_SAMPLE (R313): the next sample FT. All values are read before a record is written. -/
def execTelemetrySample (s : State) (late : Bool := false) : Host.Outcome State Fault Refusal :=
  .next (ifRunning s (
    if isSet s TSC_TEL_CTRL TSC_TEL_CTRL_EN then
      let s := advanceTo s (BitVec.ofNat 64 (nextMultiple s (max 1 (getF s TSC_SAMPLE_PERIOD TSC_SAMPLE_PERIOD_US) * 1000)))
      let n := s.net.samples + 1
      sampleQueues late n { s with net := { s.net with samples := n } }
    else s))

/-- A write to TSC_TEL_CTRL: EN from 0 to 1 sets HEAD and TAIL to 0 and starts the sample count (R315). -/
def writeTelCtrl (s : State) (v : Word) : State :=
  let on := fget TSC_TEL_CTRL_EN v
  let s := if on = 1 ∧ isSet s TSC_TEL_CTRL TSC_TEL_CTRL_EN = false then
      setReg (setReg { s with net := { s.net with samples := 0 } } TSC_TEL_HEAD 0) TSC_TEL_TAIL 0
    else s
  setF s TSC_TEL_CTRL TSC_TEL_CTRL_EN on

/-- POLICER_TOKENS_RETURN (R253): a withheld VC's bucket rises above zero. -/
def tokensBack (s : State) (q v : Nat) : State :=
  let x := port s q
  let rate := getF s (TSC_POLICER q v) TSC_POLICER_RATE * 16
  let t := x.policer.getD v 0
  if 0 < t then releaseHold s q v 0
  else if rate = 0 then s
  else
    let need := (1 - t).toNat
    let s := refill (advanceTo s (x.tokensAt + BitVec.ofNat 64 (cdiv need rate))) q
    if 0 < (port s q).policer.getD v 0 then releaseHold s q v 0 else s

def execPolicerTokensReturn (q : Port) (v : Vc) (s : State) : Host.Outcome State Fault Refusal :=
  .next (ifRunning s (if (port s q).withheld.contains (v.val, 0) then tokensBack s q v else s))


end Sys2Proof.Machine
end

