-- ==== Sys2Proof/Machine/Memory.lean ====
section
/-! DEFINITION. Memory errors and windows (R354–R359) and the host's window on tier 0 (R385). -/
namespace Sys2Proof.Machine

/-! ### Re-reads (R357) -/

/-- Job of a reader; 0xFFFF for the scrub and the host. -/
def readerJob (s : State) (r : MemReader) : BitVec 16 :=
  match r with
  | .core n => (core s n).job
  | .engine _ l => match launch s l with | some x => BitVec.ofNat 16 x.job | none => 0xFFFF
  | .staging _ l => match launch s l with | some x => BitVec.ofNat 16 x.job | none => 0xFFFF
  | .slice k => match (allPkts s).find? (fun x => x.no == k) with
      | some x => BitVec.ofNat 16 x.p.job
      | none => 0xFFFF
  | .dataPacket j => j
  | .host => 0xFFFF
  | .scrub => 0xFFFF

/-- The physical core whose alias an address may use. -/
def readerCore (r : MemReader) : Option Nat := match r with | .core n => some n.val | _ => none

/-- A word whose code fails. -/
def markBad (s : State) (k : Nat) : State :=
  let w := k - k % codeWord k
  if s.bad.contains w then s else { s with bad := s.bad ++ [w] }

/-- What becomes of the reader of a persistent error (Table 13.4). -/
def readerEnds (s : State) (r : MemReader) (st : Store) (k : Nat) : State :=
  match r with
  | .core n =>
    if (core s n).running && (core s n).trap.isNone then trapData s n (core s n).nextNo (core s n).lastPc st k
    else persist s st k 1 (core s n).job
  | .engine _ l =>
    let s' := persist s st k 1 (readerJob s r)
    match launch s' l with
    | some x => if x.stage = 2 then finishLaunch s' x 0x09 true else s'
    | none => s'
  | .dataPacket j => persist s st k 1 j
  | .staging _ _ => s
  | .slice _ => s
  | .host => persist s st k 0 0xFFFF
  | .scrub => persist s st k 0 0xFFFF

/-- A packet in a slice's buffer. -/
def slicePkt (s : State) (k : Nat) : Option Pkt :=
  (allPkts s).find? (fun x => x.no == k)

/-- A word of a die's packet buffer or staging passes its re-read. -/
def bufPassed (s : State) (d : Nat) (addr : BitVec 48) (j : BitVec 16) : State :=
  note (setF (bump s (MEM_CNT_REREAD d) MEM_CNT_REREAD_COUNT 1) MEM_STATUS MEM_STATUS_REREAD_EVENT 1) (144 + d) 0x06
    (BitVec.ofNat 32 addr.toNat) j

/-- A word of a die's packet buffer (STORE 2) or staging (3) fails its re-read; its source is the die's switch slice. -/
def bufPersist (s : State) (d code : Nat) (addr : BitVec 48) (j : BitVec 16) : State :=
  let s := bump s (MEM_CNT_PERSIST d) MEM_CNT_PERSIST_COUNT 1
  let s := setF s MEM_ERR_LAST MEM_ERR_LAST_ADDR addr.toNat
  let s := setF s MEM_ERR_LAST MEM_ERR_LAST_STORE code
  let s := setF s MEM_ERR_LAST MEM_ERR_LAST_PERSIST 1
  let s := setF s MEM_STATUS MEM_STATUS_PERSIST_EVENT 1
  fault s (144 + d) 0x07 1 j (BitVec.ofNat 32 addr.toNat)

/-- A re-read of the packet buffer (R258): passed, or the packet goes on stomped. -/
def sliceReread (s : State) (x : Pkt) (addr : BitVec 48) (passes : Bool) : State :=
  let j := BitVec.ofNat 16 x.p.job
  if passes then bufPassed s x.die addr j
  else bufPersist (mapPkts s (fun y => if y.no = x.no then { y with p := { y.p with stomp := true } } else y)) x.die 2 addr j

/-- A re-read of staging by an engine of the launch's device: passed, or the launch ends with DATA_ERROR (Table 13.4). -/
def stagingReread (s : State) (e : Engine) (l : Nat) (addr : BitVec 48) (passes : Bool) : State :=
  let j := readerJob s (.staging e l)
  if passes then bufPassed s (e.val / 4) addr j
  else
    let s := bufPersist s (e.val / 4) 3 addr j
    match launch s l with
    | some x => if x.stage = 2 then finishLaunch s x 0x09 true else s
    | none => s

/-- A store whose failures are poison, persistent without a re-read (R357). -/
def poisons (st : Store) : Bool :=
  match st with
  | .tier _ 2 => true
  | _ => false

/-- A re-read of a word of storage. -/
def wordReread (s : State) (addr : BitVec 48) (passes : Bool) (r : MemReader) : State :=
  match locate s (readerCore r) addr.toNat with
  | none => s
  | some (st, k) =>
    if passes && !poisons st then
      let s := setF (bump s (MEM_CNT_REREAD st.die) MEM_CNT_REREAD_COUNT 1) MEM_STATUS MEM_STATUS_REREAD_EVENT 1
      note s st.source 0x06 (BitVec.ofNat 32 (devAddr s st k)) (readerJob s r)
    else
      let s := readerEnds (markBad s k) r st k
      if r = .host then emit s .poisoned else s

/-- MEM_REREAD (R357). -/
def execMemReread (addr : BitVec 48) (passes : Bool) (r : MemReader) (s : State) : Host.Outcome State Fault Refusal :=
  .next (ifRunning s (match r with
    | .slice k => match slicePkt s k with | some x => sliceReread s x addr passes | none => s
    | .staging e l => stagingReread s e l addr passes
    | _ => wordReread s addr passes r))

/-- SCRUB_READ (R358): a word that still fails is found by the scrub; a word that fails now is read again (MEM_REREAD).
(DESIGN CHOICE, log entry 67.) -/
def execScrubRead (addr : BitVec 48) (codeOk lastOfPass : Bool) (s : State) : Host.Outcome State Fault Refusal :=
  .next (ifRunning s (
    if !isSet s MEM_SCRUB MEM_SCRUB_EN then s
    else match locate s none addr.toNat with
      | some (.tier d t, k) =>
        if t = 2 then s
        else
          let s := if !codeOk && (badIn s k 1).isSome then persist s (.tier d t) k 0 0xFFFF else s
          if lastOfPass then setF s MEM_STATUS MEM_STATUS_SCRUB_DONE_EVENT 1 else s
      | _ => s))

/-! ### Windows (R354, R359, R362) -/

/-- Presence bits of a tier, and its size field. -/
def tierOk (t : Nat) : Fld := match t with | 0 => MEM_STATUS_T0_OK | 1 => MEM_STATUS_T1_OK | _ => MEM_STATUS_T2_OK
/-- Size field of a tier. -/
def tierSizeF (t : Nat) : Fld := match t with | 0 => MEM_TIER_SIZE_T0 | 1 => MEM_TIER_SIZE_T1 | _ => MEM_TIER_SIZE_T2

/-- A window is no longer there. -/
def dropWindow (s : State) (d t : Nat) : State :=
  let ok := getF s MEM_STATUS (tierOk t)
  let s := setF s MEM_STATUS (tierOk t) (if bit ok d then ok - 2 ^ d else ok)
  setF s (MEM_TIER_SIZE d) (tierSizeF t) 0

/-- Jobs with a region in a window. -/
def windowJobs (s : State) (d t : Nat) : List Nat :=
  (((regionsOn s).filter (fun r => rangesMeet r.2.1 r.2.2.1 (tierBase d t) (tierSpan t))).map (fun r => r.2.2.2.1)).eraseDups.filter
    (fun j => (job s j).isSome)

/-- A window leaves service: a UNIT fault for it, and one for each job with a region there. -/
def windowLeaves (s : State) (d t : Nat) : State :=
  let js := windowJobs s d t
  let s := setF (dropWindow s d t) MEM_STATUS MEM_STATUS_WINDOW_LOST_EVENT 1
  jobFaults (fault s (148 + 3 * d + t) 0x08 2 0xFFFF 0) (148 + 3 * d + t) 0x08 0 js

/-- Persistent errors of a window within the last hour of FT. -/
def recentErrors (s : State) (w : Nat) : Nat :=
  ((mapGet (fun _ => []) s.errTimes w).filter (fun t => decide ((now s).toNat ≤ t.toNat + 3600000000000))).length

/-- WINDOW_LOST (R359): the sixteenth persistent error within an hour. -/
def execWindowLost (d : Die) (tier : Fin 3) (s : State) : Host.Outcome State Fault Refusal :=
  .next (ifRunning s (
    let w := 3 * d.val + tier.val
    if bit (getF s MEM_STATUS (tierOk tier)) d ∧ 16 ≤ recentErrors s w then
      windowLeaves { s with lostWin := s.lostWin ++ [w] } d tier
    else s))

/-- CXL_LINK_DOWN (R354): the die's tier 2 window is lost until warm reset. -/
def execCxlLinkDown (d : Die) (s : State) : Host.Outcome State Fault Refusal :=
  .next (ifRunning s (if bit (getF s MEM_STATUS MEM_STATUS_T2_OK) d then windowLeaves s d 2 else s))

/-! ### BAR2 (R385, Table 13.4) -/

/-- Device address of a BAR2 offset. -/
def bar2Addr (s : State) (off : Nat) : Nat :=
  0x010000000000 + getF s HIF_BAR2_BASE HIF_BAR2_BASE_WIN * 0x2000000000 + off

/-- BAR2 is open: the link is up and start-up has passed step 13. -/
def bar2Open (s : State) : Bool := running s && s.boot.opened && pcieOpen s

/-- Bytes that BAR2 reaches: each lies in a tier 0 window that is present, and the range in one store after another. -/
def bar2Spans (s : State) (a n : Nat) : Option (List (Store × Nat × Nat)) :=
  let edge := a - a % 0x2000000000 + 0x2000000000
  let one (a n : Nat) : Option (Store × Nat × Nat) := (locateSpan s none a n).map (fun e => (e.1, e.2, n))
  if a + n ≤ edge then (one a n).map (fun e => [e])
  else match one a (edge - a), one edge (a + n - edge) with
    | some x, some y => some [x, y]
    | _, _ => none

/-- BAR2_READ (R385). -/
def readBar2 (s : State) (off n : Nat) : State :=
  if !bar2Open s then emit s .unsupported
  else match bar2Spans s (bar2Addr s off) n with
    | none => emit s .unsupported
    | some l =>
      match l.findSome? (fun e => (badIn s e.2.1 e.2.2).map (fun w => (e.1, w))) with
      | some (st, w) => emit (persist s st w 0 0xFFFF) .poisoned
      | none => emit s (.readBytes (l.flatMap (fun e => rdBytes s e.2.1 e.2.2)))

/-- A read through BAR2 carries 1 to 4,096 bytes within the window. -/
def execBar2Read (off : BitVec 38) (n : Nat) (s : State) : Host.Outcome State Fault Refusal :=
  .next (if 1 ≤ n ∧ n ≤ 4096 ∧ off.toNat + n ≤ 2 ^ 38 then readBar2 s off.toNat n else emit s .unsupported)

/-- Bytes written to the spans of a range. -/
def writeSpans : List (Store × Nat × Nat) → List Byte → State → State
  | [], _, s => s
  | (st, k, n) :: l, bs, s =>
    let r := wrBytes s k (bs.take n)
    let s := match r.2 with | some w => persist r.1 st w 0 0xFFFF | none => r.1
    writeSpans l (bs.drop n) s

/-- BAR2_WRITE (R356, R385). -/
def execBar2Write (off : BitVec 38) (bytes : List Byte) (s : State) : Host.Outcome State Fault Refusal :=
  .next (if bytes.isEmpty then s
    else if !bar2Open s || 2 ^ 38 < off.toNat + bytes.length then emit s .unsupported
    else match bar2Spans s (bar2Addr s off.toNat) bytes.length with
      | none => emit s .unsupported
      | some l => writeSpans l bytes s)

end Sys2Proof.Machine
end

