-- ==== Sys2Proof/Machine/Time.lean ====
section
/-! DEFINITION. Fabric time (R33–R46): sources, FT_PPS edges, holdover, loss and return of synchronisation, time
messages, and what start-up does with FT: reset alignment, READY, a lost clock. -/
namespace Sys2Proof.Machine

/-! ### Units of FT -/

/-- One second in units of 2^-16 ns. -/
def secondU : Nat := 65536 * 1000000000
/-- 10 ns in those units, as a magnitude. -/
def tenNs : Nat := 655360
/-- PPS_COMP in those units: its field counts 1/16 ns. -/
def ppsComp (s : State) : Int := signed 16 (getF s FTU_CTRL FTU_CTRL_PPS_COMP) * 4096
/-- SYNC_LIMIT in those units. -/
def syncLimit (s : State) : Nat := getF s FTU_LIMITS FTU_LIMITS_SYNC_LIMIT * 65536
/-- SRC of FTU_CTRL. -/
def timeSource (s : State) : Nat := getF s FTU_CTRL FTU_CTRL_SRC
/-- VALID of FTU_STATUS. -/
def timeValid (s : State) : Bool := isSet s FTU_STATUS FTU_STATUS_VALID

/-- Signed distance from the nearest whole second, in [−0.5 s, 0.5 s) (R41). -/
def phaseError (t : Int) : Int := (t + (secondU / 2 : Nat)) % (secondU : Nat) - (secondU / 2 : Nat)

/-- A signed number of units as a register holds it. -/
def signedWord (x : Int) : Word := BitVec.ofNat 64 (unsigned 64 x)

/-- FT never decreases: it moves on to an instant in units. -/
def advanceUnits (s : State) (u : Nat) : State := { s with ftu := { s.ftu with ft := max s.ftu.ft u } }

/-! ### Time and control registers (R35, R38) -/

/-- FT is read, and its fraction latched. -/
def readTime (s : State) : Word × State := (now s, setF s FTU_TIME_FRAC FTU_TIME_FRAC_FRAC (s.ftu.ft % 65536))

/-- FTU_TIME_READ (R35). -/
def execFtuTimeRead (s : State) : Host.Outcome State Fault Refusal :=
  .next (if standby s then (let (v, s) := readTime s; emit s (.read v)) else s)

/-- SRC takes a new value: a source starts an acquisition, FREE counts locally. (DEDUCED, log entry 14.) HOLDOVER and
the counts that belong to the old source go with it. (DESIGN CHOICE, log entry 76.) -/
def changeSource (s : State) (v : Nat) : State :=
  let s := setF s FTU_CTRL FTU_CTRL_SRC v
  let s := setF s FTU_STATUS FTU_STATUS_SYNC 0
  let s := setF s FTU_STATUS FTU_STATUS_HOLDOVER 0
  let s := setF s FTU_STATUS FTU_STATUS_VALID (if v = 0 then 1 else 0)
  let s := if v = 0 then setReg s FTU_SRC_OFFSET 0 else s
  latchPlan { s with ftu := { s.ftu with
      seconds := none, glitches := [], holdStart := none, inRange := 0, peerSeen := [], peers := [], samples := [] } }

/-- A write of FTU_CTRL; a reserved SRC leaves SRC, VALID and SYNC as they are (R38). A write that repeats the SRC in
force starts no acquisition. A new PFP_TX_EN adds or removes events of the bundles (R408). (DESIGN CHOICE, log entry 76.) -/
def writeFtuCtrl (s : State) (v : Word) : State :=
  let src := fget FTU_CTRL_SRC v
  let s := if src ≤ 2 ∧ src ≠ timeSource s then changeSource s src else s
  let s := setF s FTU_CTRL FTU_CTRL_PTP_PORT (fget FTU_CTRL_PTP_PORT v)
  let moved := getF s FTU_CTRL FTU_CTRL_PFP_TX_EN != fget FTU_CTRL_PFP_TX_EN v
  let s := setF s FTU_CTRL FTU_CTRL_PFP_TX_EN (fget FTU_CTRL_PFP_TX_EN v)
  let s := setF s FTU_CTRL FTU_CTRL_PPS_COMP (fget FTU_CTRL_PPS_COMP v)
  if moved then (List.range 32).foldl evalBundle s else s

/-! ### FT_PPS (R41–R43, R481) -/

/-- An edge that the FTU ignores: PPS_GLITCH and a NOTE. -/
def glitch (s : State) : State := note (event s FTU_STATUS FTU_STATUS_PPS_GLITCH 1) 170 0x0E 0

/-- The first edge after a seconds value: FT's only step, and VALID. -/
def acquire (s : State) (sec : Word) : State :=
  let ft := ((sec.toNat * secondU : Nat) + ppsComp s).toNat
  let s := { s with ftu := { s.ftu with ft := ft, lastEdge := some ft, lastGood := ft, seconds := none, glitches := [],
                                        inRange := 0 } }
  setF s FTU_STATUS FTU_STATUS_VALID 1

/-- Ports of class T that send a time message: ACTIVE, and PFP 4.0 or later. -/
def timePorts (s : State) : List Nat :=
  ((List.range 32).flatMap (portsOf s)).filter (fun q =>
    portClass s q == 1 && portState s q == 4 && 0x40 ≤ getF s (pStat q) LNK_PORT_STATUS_VERSION)

/-- The valid peer offsets (R40): of the directions that have reported one and still have a port for time messages. -/
def peerOffsets (s : State) : List Int :=
  ((List.range 6).filter (fun d => s.ftu.peers.contains d && (timePorts s).any (fun q => planDir s q == some d))).map
    (fun d => (reg s (FTU_PEER_OFFSET d)).toInt)

/-- A number put into an ascending list. -/
def insertAsc (x : Int) : List Int → List Int
  | [] => [x]
  | y :: l => if x ≤ y then x :: y :: l else y :: insertAsc x l

/-- The median: of an even count, the mean of the two in the middle, rounded down. (DESIGN CHOICE, log entry 76.) -/
def median (l : List Int) : Option Int :=
  let a := l.foldr insertAsc []
  if l.isEmpty then none
  else if l.length % 2 = 1 then a[l.length / 2]?
  else some ((a.getD (l.length / 2 - 1) 0 + a.getD (l.length / 2) 0) / 2)

/-- The servo's sample at an edge (R42): the PTP offset, or the median of the valid peer offsets. -/
def servoSample (s : State) (ptp : Word) : Option Word :=
  if timeSource s = 1 then some ptp else (median (peerOffsets s)).map signedWord

/-- An accepted edge: holdover ends, and the servo takes a sample. With no valid peer offset there is none, and the
measured offset stays as it is. -/
def acceptEdge (s : State) (ptp : Word) : State :=
  let l := (servoSample s ptp).toList ++ s.ftu.samples
  let off := if (servoSample s ptp).isSome then Config.servoFilter l else reg s FTU_SRC_OFFSET
  let k := if off.toInt.natAbs ≤ tenNs then s.ftu.inRange + 1 else 0
  let s := { s with ftu := { s.ftu with lastGood := s.ftu.ft, glitches := [], holdStart := none, inRange := k, samples := l } }
  setReg (setF s FTU_STATUS FTU_STATUS_HOLDOVER 0) FTU_SRC_OFFSET off

/-- What an edge with phase error `p` does; `short`, one less than 100 ns after the last, which is ignored and counted
as a glitch (R481). A glitch edge, which the FTU ignores, leaves the run of R43 as it is. (DESIGN CHOICE, log entry
76.) -/
def edgeEffect (s : State) (p : Int) (short : Bool) (ptp : Word) : State :=
  if timeSource s = 0 then s
  else if timeValid s = false then
    match s.ftu.seconds with
    | none => s
    | some sec => if short then s else acquire s sec
  else if short ∨ syncLimit s < p.natAbs then
    glitch { s with ftu := { s.ftu with glitches := p :: s.ftu.glitches } }
  else acceptEdge s ptp

/-- An edge timestamped at `u` units; its phase error is recorded under every source. (DEDUCED, log entry 63.) -/
def ppsEdge (s : State) (u : Nat) (ptp : Word) : State :=
  let s := advanceUnits s u
  let p := phaseError ((u : Int) - ppsComp s)
  let short := match s.ftu.lastEdge with | some e => decide (u < e + 100 * 65536) | none => false
  edgeEffect (setReg { s with ftu := { s.ftu with lastEdge := some u } } FTU_OFFSET (signedWord p)) p short ptp

/-- FT_PPS_EDGE (R41). -/
def execFtPpsEdge (stamp : Nat) (ptpOffset : Word) (s : State) : Host.Outcome State Fault Refusal :=
  .next (if standby s then ppsEdge s (stamp * 8192) ptpOffset else s)

/-- HOLDOVER (R41): 1.001 s after the last accepted edge. -/
def execHoldover (s : State) : Host.Outcome State Fault Refusal :=
  .next (
    if standby s && timeSource s != 0 && timeValid s && !isSet s FTU_STATUS FTU_STATUS_HOLDOVER then
      let s := advanceUnits s (s.ftu.lastGood + 1001 * 65536 * 1000000)
      let s := setF s FTU_STATUS FTU_STATUS_HOLDOVER 1
      note { s with ftu := { s.ftu with holdStart := some s.ftu.ft } } 170 0x0E 0
    else s)

/-- Three consecutive glitch edges that agree within 10 ns. -/
def phaseJump (l : List Int) : Bool :=
  match l with
  | a :: b :: c :: _ => (a - b).natAbs ≤ tenNs && (b - c).natAbs ≤ tenNs && (a - c).natAbs ≤ tenNs
  | _ => false

/-- FT at which holdover has lasted longer than HOLDOVER_MAX, in units. -/
def holdoverEnd (s : State) : Option Nat :=
  s.ftu.holdStart.map (fun t => t + getF s FTU_LIMITS FTU_LIMITS_HOLDOVER_MAX * 65536 * 1000000)

/-- Jobs that hold a circuit through the device, or have FT-scheduled steps on it. The image in force counts; one that
still awaits its RESTART FT does not. (DESIGN CHOICE, log entry 76.) -/
def scheduledJobs (s : State) : List Nat :=
  let circ := s.csr.filterMap (fun e =>
    if 0x60000 ≤ e.1 ∧ e.1 < 0x70000 ∧ (e.1 - 0x60000) % 16 = 0 ∧ isSet s e.1 HUB_CIRCUIT_VALID = true
    then some (getF s e.1 HUB_CIRCUIT_JOB_ID) else none)
  let steps := (s.jobs.filter (fun e => match e.2.image with
    | some i => i.entries.any (fun x => x.kind == 1)
    | none => false)).map Prod.fst
  (circ ++ steps).eraseDups

/-- Synchronisation is lost (R42). A halted device recovers no job: its Puppeteer has stopped (R441). -/
def unsync (s : State) : State :=
  let s := setF s FTU_STATUS FTU_STATUS_SYNC 0
  let s := event s FTU_STATUS FTU_STATUS_UNSYNC_EVENT 1
  let s := { s with ftu := { s.ftu with inRange := 0, glitches := [] } }
  if !running s then s else jobFaults s 170 0x0F 0 ((scheduledJobs s).filter (fun j => (job s j).isSome))

/-- FT_UNSYNC (R42): a phase jump, an offset beyond SYNC_LIMIT, or a holdover that has lasted HOLDOVER_MAX. -/
def execFtUnsync (s : State) : Host.Outcome State Fault Refusal :=
  .next (
    if standby s && isSet s FTU_STATUS FTU_STATUS_SYNC then
      if phaseJump s.ftu.glitches || syncLimit s < (reg s FTU_SRC_OFFSET).toInt.natAbs then unsync s
      else match holdoverEnd s with
        | some t => unsync (advanceUnits s t)
        | none => s
    else s)

/-- SYNC_ACQUIRED (R43): 16 consecutive edges within 10 ns. -/
def execSyncAcquired (s : State) : Host.Outcome State Fault Refusal :=
  .next (
    if standby s && timeSource s != 0 && timeValid s && 16 ≤ s.ftu.inRange then latchPlan (setF s FTU_STATUS FTU_STATUS_SYNC 1)
    else s)

/-! ### Time messages (R39, R40) -/

/-- The port carries PTP: SRC names PTP, and PTP_PORT names this class H port. -/
def ptpPort (s : State) (q : Nat) : Bool :=
  timeSource s == 1 && getF s FTU_CTRL FTU_CTRL_PTP_PORT == q && portClass s q == 2 && portEth s q

/-- A seconds value drawn from a message, while none is applied. -/
def takeSeconds (s : State) (seconds : Option Word) : State :=
  if seconds.isSome && !timeValid s then { s with ftu := { s.ftu with seconds := seconds } } else s

/-- A port that accepts PTP messages: in Ethernet mode, with PTP_EN set (R343). -/
def takesPtp (s : State) (q : Nat) : Bool :=
  portEth s q && isSet s (LNK_ETH_CTRL (portBundle q) (portLane q)) LNK_ETH_CTRL_PTP_EN

/-- PTP_MESSAGE (R39): a port that accepts it timestamps it; on the PTP port, a message may yield the seconds value, and the
protocol engine, which is firmware, may ask for a delay. An Ethernet port with PTP_EN 0 discards it (R343). -/
def execPtpMessage (q : Port) (stamp : Nat) (seconds : Option Word) (s : State) (request : Option DelayMech := none) :
    Host.Outcome State Fault Refusal :=
  .next (ifRunning s (
    if takesPtp s q then
      let s := emit (advanceUnits s (stamp * 8192)) (.ptpStamp q stamp)
      if ptpPort s q then
        match request with
        | none => takeSeconds s seconds
        | some m => emit (takeSeconds s seconds) (.delayRequest q m)
      else s
    else if portEth s q then bump s (LNK_ETH_DISCARD (portBundle q) (portLane q)) LNK_ETH_DISCARD_FRAMES 1
    else s))

/-- One time message on a port. Its payload is left open: the spec does not lay it out. -/
def sendTime (s : State) (q : Nat) : State :=
  let (v, s) := fresh s
  let h : Hdr := { type := 5, vc := 7, origin := 0x0200, birth := (now s).toNat % 2 ^ 40 }
  sendOut s (portDie q) 283 (mkPacket h (toBytes 8 v.toNat)) none (.port q false) true

/-- PFP_TIME_SEND (R40): every 1 ms. -/
def execPfpTimeSend (s : State) : Host.Outcome State Fault Refusal :=
  .next (ifRunning s (
    let s := advanceTo s (BitVec.ofNat 64 (nextMultiple s 1000000))
    if isSet s FTU_CTRL FTU_CTRL_PFP_TX_EN then (timePorts s).foldl sendTime s else s))

/-- Seconds value that a neighbour's offset gives for the next FT_PPS edge: offset is FT less the neighbour's. -/
def secondsOf (s : State) (offset : Word) : Word :=
  BitVec.ofNat 64 ((((s.ftu.ft : Int) - offset.toInt) / (secondU : Nat) + 1).toNat)

/-- The neighbour of a direction has reported an offset, valid from then on: a second direction that gives the same seconds value yields
it. (DEDUCED, log entry 40.) -/
def peerOffset (s : State) (d : Nat) (offset : Word) : State :=
  let s := setReg s (FTU_PEER_OFFSET d) offset
  let s := { s with ftu := { s.ftu with peers := if s.ftu.peers.contains d then s.ftu.peers else s.ftu.peers ++ [d] } }
  if timeSource s = 2 ∧ timeValid s = false then
    let v := secondsOf s offset
    let agree := s.ftu.peerSeen.any (fun e => e.1 != d && e.2 == v)
    { s with ftu := { s.ftu with peerSeen := mapPut s.ftu.peerSeen d v, seconds := if agree then some v else s.ftu.seconds } }
  else s

/-- TIME_PACKET (R40): the two-way exchange yields the neighbour's offset. -/
def execTimePacket (k : Nat) (dir : Fin 6) (offset : Word) (s : State) : Host.Outcome State Fault Refusal :=
  .next (ifRunning s (match localPkt s k with
    | none => s
    | some x =>
      if x.p.type = 5 then underFence s x.die x (fun s =>
        let s' := if x.p.stomp then takeLocal s x else deliverLocal s x.die x
        if !x.p.stomp && (x.port.bind (planDir s)) == some dir.val then peerOffset s' dir.val offset else s')
      else s))

/-! ### Start-up and the clock (R44, R46, R466, R480) -/

/-- RESET_ALIGNMENT (R46): every crossing releases its pointers on this edge. -/
def execResetAlignment (edge : Word) (s : State) : Host.Outcome State Fault Refusal :=
  .next (match s.boot.aligning with
    | none => s
    | some t =>
      if standby s && decide (t.toNat ≤ edge.toNat) then
        let s := setReg (advanceTo s edge) FTU_ALIGN t
        { s with boot := { s.boot with aligning := none }, aclk := 0 }
      else s)

/-- Steps 12 and 13 have ended by now, at the latest at their worst-case ends (Table 18.5). -/
def lastSteps (s : State) : State :=
  let s := if getF s HUB_BOOT HUB_BOOT_STEP = 12 then endStep12 (advanceTo s (s.boot.stepAt + 63000000)) else s
  if getF s HUB_BOOT HUB_BOOT_STEP = 13 then endStep13 (advanceTo s (s.boot.stepAt + 20000000)) else s

/-- Step 14 has ended: every port that the plan names has an outcome of discovery, or waits for no partner (R466). (DESIGN CHOICE,
log entry 97.) -/
def discovered (s : State) : Bool :=
  match s.sec.plan with
  | none => true
  | some p => p.ports.all (fun x => getF s (pStat x.port) LNK_PORT_STATUS_DISC != 0 || (!wantsNeighbour x.expect && portState s x.port != 3))

/-- The device reports READY. -/
def reportReady (s : State) : State :=
  let s := setF (setF s HUB_BOOT HUB_BOOT_STEP 15) HUB_BOOT HUB_BOOT_READY 1
  if s.boot.fromWarm then logEvent s 3 0x03 183 0
  else logEvent s 3 0x01 183 (BitVec.ofNat 32 (getF s HUB_BOOT HUB_BOOT_COLD_BOOTS))

/-- READY (R44, R466): every earlier step has ended, and SYNC is 1 or SRC is FREE. -/
def execReady (s : State) : Host.Outcome State Fault Refusal :=
  .next (ifRunning s (
    let t := lastSteps s
    if getF t HUB_BOOT HUB_BOOT_STEP = 14 ∧ discovered t = true ∧ (isSet t FTU_STATUS FTU_STATUS_SYNC = true ∨ timeSource t = 0)
    then reportReady t else s))

/-- A failure at steps 4 to 8 holds start-up (R468). -/
def holdBoot (s : State) (step code : Nat) : State :=
  let s := setF (setF s HUB_BOOT HUB_BOOT_STEP step) HUB_BOOT HUB_BOOT_FAIL code
  logEvent s 3 0x06 183 (BitVec.ofNat 32 (code + step * 2 ^ 8))

/-- CLOCK_LOST (R480): FT goes on from the standby oscillator; start-up holds, or the device halts. -/
def execClockLost (s : State) : Host.Outcome State Fault Refusal :=
  .next (
    if standby s then
      let s := setF s FTU_STATUS FTU_STATUS_SYNC 0
      let s := { s with boot := { s.boot with clockLost := true }, ftu := { s.ftu with inRange := 0 } }
      if s.boot.up || s.boot.warm then haltNow s 170 0x23 0 false
      else if s.boot.halt || getF s HUB_BOOT HUB_BOOT_FAIL != 0 && !s.boot.pcieBoot then s
      else holdBoot { s with boot := { s.boot with pcieBoot := false } } (getF s HUB_BOOT HUB_BOOT_STEP) 6
    else s)

end Sys2Proof.Machine
end

