-- ==== Sys2Proof/Machine/PowerMgr.lean ====
section
/-! DEFINITION. The power manager (R406–R423): domains that end a wake or an entry, supplies and regulators (R418, R477,
R484), throttle levels (R420, R421) and temperatures (R422). -/
namespace Sys2Proof.Machine

/-- The power manager runs: the rails are up and the device is not held in cold reset. HALT does not stop it (R442). -/
def pmRuns (s : State) : Bool := s.boot.vstby && s.boot.rails && !s.boot.porst

/-! ### The end of a wake (R407, R415) -/

/-- Contents of a cluster in DIKDIK are lost, and hardware fills it with zeros: SRAMs, cores and unbound objects. -/
def zeroCluster (s : State) (c : Nat) : State :=
  let s := (List.range 5).foldl (fun s j => zeroCore s (5 * c + j)) s
  let inside (k : Nat) : Bool := decide (cluKey c ≤ k) && decide (k < cluKey c + 0x2000000)
  { s with mem := s.mem.filter (fun e => !inside e.1), bad := s.bad.filter (fun k => !inside k),
           objs := s.objs.filter (fun e => e.1 / 4096 != c || e.2.job != 0) }

/-- Domain that a fired action needs awake; an action whose index is out of range needs none (R50). -/
def firedDomain (s : State) (x : Fired) : Option Nat :=
  if x.unit.isNone then none
  else match x.action.toNat with
  | 3 => some (80 + x.index.toNat / 4096)
  | 5 => some x.index.toNat
  | 6 => coreOf s x.index.toNat
  | _ => none

/-- A domain and, for a cluster, its cores. -/
def covers' (u v : Nat) : Bool := u == v || (80 ≤ u && u < 96 && v < 80 && v / 5 == u - 80)

/-- A fired action met a waking domain: one POWER_WAKE slip, which the step that the action begins will own (R51). -/
def wakeSlip (s : State) (x : Fired) : State :=
  let s := slip s 1 x.target.toNat ((now s).toNat - x.target.toNat)
  match (if x.action = 6 then coreOf s x.index.toNat else none) with
  | some c => setCore s c { core s c with owedSlips := (core s c).owedSlips + 1 }
  | none => s

/-- The end of a domain's wake lets a fired action take effect: it covers the domain that the action needs, and no other
one that this needs still sleeps. -/
def wakeServes (s : State) (u : Nat) (x : Fired) : Bool :=
  match firedDomain s x with
  | some v => covers' u v && (if u = v then decide (80 ≤ v) || awake s (80 + v / 5) else domState s u == 3 || awake s v)
  | none => false

/-- A fired action has met the domain whose wake ends, at or after its planned FT. -/
def metLate (s : State) (u : Nat) (x : Fired) : Bool := !x.met && wakeServes s u x && decide (x.target.toNat < (now s).toNat)

/-- Actions that met the waking domain at or after their planned FT: one POWER_WAKE slip each (R51, R413). -/
def wakeSlips (s : State) (u : Nat) : State :=
  let late := s.ftu.fired.filter (metLate s u)
  late.foldl wakeSlip { s with ftu := { s.ftu with fired := s.ftu.fired.map (fun x => if metLate s u x then { x with met := true } else x) } }

/-- The oldest entry that fell due on a core while it slept begins: a POWER_WAKE slip of that step when it is late. -/
def dueAtWake (s : State) (n : Nat) : State :=
  match (core s n).dueEntries with
  | (e, planned) :: r =>
    if planned.toNat < (now s).toNat ∧ mayBegin s n = true ∧ coreAwake s n = true then
      let s := slip s 1 planned.toNat ((now s).toNat - planned.toNat)
      let s := beginStep (setCore s n { core s n with dueEntries := r }) n e.toNat (now s) 0x40 0
      setCore s n { core s n with slips := (core s n).slips + 1 }
    else nextDue s n
  | [] => s

/-- A core takes work again: its due entry begins, or it is idle in IMPALA. -/
def coreWakes (s : State) (n : Nat) : State :=
  let s := dueAtWake s n
  if mayEnter s n 1 && coreIdle s n && domState s n == 0 then enterState s n 1 else s

/-- A core whose WAKE kernel passes or fails (R448): a first failure runs FULL at once, with an identity or without. -/
def wakeKernel (fails : List CoreId) (s : State) (n : Nat) : State :=
  let st := getF s (CORE_STATUS n) CORE_STATUS_STATE
  if st = 1 ∨ st = 2 then
    if fails.any (fun x => x.val == n) then
      let s := checkFails (logEvent s 1 0x04 n 0) n
      if observed s n then coreState (addTest s n 3) n 4 else s
    else logEvent s 1 0x03 n 0
  else s

/-- A core leaves DIKDIK with its cluster: it neither wakes nor enters a state of its own, and its wake alarm is free. -/
def leaveDikdik (s : State) (n : Nat) : State :=
  releaseAlarm (setF { s with pwr := { s.pwr with waking := s.pwr.waking.filter (· != n), entering := s.pwr.entering.filter (· != n) } }
    (PWR_DOMAIN n) PWR_DOMAIN_STATE 0) n

/-- A cluster's wake ends; its cores leave DIKDIK with it. -/
def clusterWakes (s : State) (c : Nat) (deep : Bool) (fails : List CoreId) : State :=
  let s := if deep then
      let s := (List.range 5).foldl (fun s j => leaveDikdik s (5 * c + j)) (zeroCluster s c)
      (List.range 5).foldl (fun s j => wakeKernel fails s (5 * c + j)) (setDomain s (80 + c) 0)
    else setDomain s (80 + c) 0
  (List.range 5).foldl (fun s j => coreWakes s (5 * c + j)) s

/-- A bundle's wake ends: it leaves low-power idle, or its ports begin link bring-up (R412, R415). -/
def bundleWakes (s : State) (b st : Nat) : State :=
  let s := (portsOf s b).foldl sleptSlips (setDomain s (96 + b) 0)
  if st = 2 then sendLpi s b 3
  else (portsOf s b).foldl (fun s q => if portState s q = 0 ∧ isSet s (pCtrl q) LNK_PORT_CTRL_EN = true then startTraining s q else s) s

/-- A domain's wake ends. -/
def wakeEnds (s : State) (u : Nat) (fails : List CoreId) : State :=
  let st := domState s u
  let s := releaseAlarm { s with pwr := { s.pwr with waking := s.pwr.waking.filter (· != u), entering := s.pwr.entering.filter (· != u) } } u
  let s := wakeSlips s u
  let s := if u < 80 then coreWakes (setDomain s u 0) u
    else if u < 96 then clusterWakes s (u - 80) (st == 3) fails
    else bundleWakes s (u - 96) st
  advanceLaunches s

/-- WAKE_COMPLETE (R407). -/
def execWakeComplete (u : DomainId) (kernelFails : List CoreId) (s : State) : Host.Outcome State Fault Refusal :=
  .next (ifRunning s (if s.pwr.waking.contains u.val then wakeEnds s u kernelFails else s))

/-- DOMAIN_ENTRY_COMPLETE (R407). -/
def execDomainEntryComplete (u : DomainId) (s : State) : Host.Outcome State Fault Refusal :=
  .next (ifRunning s { s with pwr := { s.pwr with entering := s.pwr.entering.filter (· != u.val) } })

/-! ### PWR_CTRL (R423, Table 16.6) -/

/-- State that the limits allow a domain's kind. -/
def depthLimit (s : State) (u : Nat) : Nat :=
  if u < 80 then getF s PWR_CTRL PWR_CTRL_MAX_CORE
  else if u < 96 then (if isSet s PWR_CTRL PWR_CTRL_CLUSTER_DIKDIK then 3 else 0)
  else getF s PWR_CTRL PWR_CTRL_MAX_BUNDLE

/-- A write of PWR_CTRL: a lowered limit wakes the domains deeper than it, as demand. -/
def writePwrCtrl (s : State) (v : Word) : State :=
  let s := setF s PWR_CTRL PWR_CTRL_MAX_CORE (min 2 (fget PWR_CTRL_MAX_CORE v))
  let s := setF s PWR_CTRL PWR_CTRL_CLUSTER_DIKDIK (fget PWR_CTRL_CLUSTER_DIKDIK v)
  let b := fget PWR_CTRL_MAX_BUNDLE v
  let s := setF s PWR_CTRL PWR_CTRL_MAX_BUNDLE (if b = 1 then 0 else b)
  ((List.range 128).filter (fun u => depthLimit s u < domState s u)).foldl demandWake s

/-! ### Levels (R419–R421) -/

/-- Thermal level field of a die. -/
def thermalF (d : Nat) : Fld := ⟨4 * d + 4, 4⟩

/-- Power level. -/
def powerLevel (s : State) : Nat := getF s PWR_LEVEL PWR_LEVEL_POWER
/-- Thermal level of a die. -/
def thermalLevel (s : State) (d : Nat) : Nat := getF s PWR_LEVEL (thermalF d)
/-- Highest thermal level. -/
def topThermal (s : State) : Nat := max (max (thermalLevel s 0) (thermalLevel s 1)) (max (thermalLevel s 2) (thermalLevel s 3))

/-- The history's second takes in the present levels (R439). -/
def seeLevels (s : State) : State :=
  let p := max s.flt.secPower.toNat (powerLevel s)
  let t := max s.flt.secThermal.toNat (topThermal s)
  { s with flt := { s.flt with secPower := BitVec.ofNat 4 p, secThermal := BitVec.ofNat 4 t,
                               secThrottled := s.flt.secThrottled || 0 < powerLevel s || 0 < topThermal s } }

/-- FT of the last step of a level: 0 the power level, 1 + d the thermal level of die d. -/
def lastStepAt (s : State) (k : Nat) : Nat := (mapGet (fun _ => (0 : Word)) s.pwr.lastStep k).toNat

/-- A level steps, no sooner than `gap` ns after its last step. -/
def stepLevel (s : State) (k : Nat) (f : Fld) (v gap : Nat) : State :=
  let s := advanceTo s (BitVec.ofNat 64 (lastStepAt s k + gap))
  let up := decide (getF s PWR_LEVEL f < v)
  let s := setF s PWR_LEVEL f v
  let s := { s with pwr := { s.pwr with lastStep := mapSet (fun _ => 0) s.pwr.lastStep k (now s) } }
  let s := if up then event (bump s PWR_CNT_THROTTLE PWR_CNT_THROTTLE_COUNT 1) PWR_STATUS PWR_STATUS_THROTTLE_EVENT 2 else s
  seeLevels s

/-- Package power in mW: the sum of every rail's voltage times its current (R420). -/
def packageMw (s : State) : Nat :=
  ((List.range 11).map (fun i => getF s (PWR_RAIL i) PWR_RAIL_MV * getF s (PWR_RAIL i) PWR_RAIL_CURRENT / 10)).sum

/-- Mean of a list; 0 of none. -/
def mean (l : List Nat) : Nat := l.sum / max 1 l.length

/-- Package power in mW averaged over PWR_LIMIT.WINDOW, of samples 10 µs apart; and VCORE current in A over 1 ms (R420). -/
def windowMw (s : State) : Nat := mean (s.pwr.watts.take (100 * getF s PWR_LIMIT PWR_LIMIT_WINDOW))
def meanAmps (s : State) : Nat := mean (s.pwr.amps.take 100)

/-- One of the two measures exceeds its limit; both are below 95% of theirs. -/
def overLimit (s : State) : Bool :=
  decide (getF s PWR_LIMIT PWR_LIMIT_PL * 1000 < windowMw s) || decide (getF s PWR_LIMIT PWR_LIMIT_TDC_LIMIT < meanAmps s)
def underLimits (s : State) : Bool :=
  decide (windowMw s * 100 < getF s PWR_LIMIT PWR_LIMIT_PL * 1000 * 95)
    && decide (meanAmps s * 100 < getF s PWR_LIMIT PWR_LIMIT_TDC_LIMIT * 95)

/-- The power level's rule: up every 100 µs over a limit, down every 1 ms below 95% of both. -/
def powerStep (s : State) (up : Bool) : State :=
  let k := powerLevel s
  if up then (if overLimit s && k < 8 then stepLevel s 0 PWR_LEVEL_POWER (k + 1) 100000 else s)
  else if underLimits s && 0 < k then stepLevel (advanceTo s s.pwr.edcUntil) 0 PWR_LEVEL_POWER (k - 1) 1000000
  else s

/-- POWER_LEVEL_STEP (R420): a rise or a fall that comes due. -/
def execPowerLevelStep (up : Bool) (at_ : Word) (s : State) : Host.Outcome State Fault Refusal :=
  .next (if pmRuns s then powerStep (advanceTo s at_) up else s)

/-- EDC_ALERT (R420): level 8 for 10 µs. -/
def edcAlert (s : State) : State :=
  let s := event s PWR_STATUS PWR_STATUS_EDC_EVENT 2
  let s := { s with flt := { s.flt with secEdc := true },
                    pwr := { s.pwr with edcUntil := now s + 10000 } }
  if powerLevel s < 8 then
    let s := event (bump s PWR_CNT_THROTTLE PWR_CNT_THROTTLE_COUNT 1) PWR_STATUS PWR_STATUS_THROTTLE_EVENT 2
    let s := setF s PWR_LEVEL PWR_LEVEL_POWER 8
    seeLevels { s with pwr := { s.pwr with lastStep := mapSet (fun _ => 0) s.pwr.lastStep 0 (now s) } }
  else s

def execEdcAlert (s : State) : Host.Outcome State Fault Refusal := .next (if pmRuns s then edcAlert s else s)

/-- A temperature register's value, in 0.25 °C. -/
def tempAt (s : State) (k : Nat) : Int := signed 16 (getF s (PWR_TEMP k) PWR_TEMP_TEMP)
/-- T_THROTTLE in 0.25 °C. -/
def tThrottle (s : State) : Int := 4 * (getF s PWR_THERM PWR_THERM_T_THROTTLE : Nat)
/-- Hottest sensor of a die. -/
def hottest (s : State) (d : Nat) : Int :=
  ((List.range 11).map (fun i => tempAt s (12 * d + i + 1))).foldl max (tempAt s (12 * d))

/-- THERMAL_LEVEL_STEP (R421). -/
def thermalStep (s : State) (d : Nat) : State :=
  let k := thermalLevel s d
  if tThrottle s ≤ hottest s d then if k < 8 then stepLevel s (1 + d) (thermalF d) (k + 1) 100000 else s
  else if hottest s d < tThrottle s - 12 ∧ 0 < k then stepLevel s (1 + d) (thermalF d) (k - 1) 1000000
  else s

def execThermalLevelStep (d : Die) (s : State) : Host.Outcome State Fault Refusal :=
  .next (if pmRuns s then thermalStep s d else s)

/-! ### Temperatures (R422) -/

/-- A threshold above throttling is crossed. -/
def thermalEvent (s : State) : State := event s PWR_STATUS PWR_STATUS_THERMAL_EVENT 2

/-- Consecutive samples of a sensor under a condition. -/
def countRun (m : List (Nat × Nat)) (k : Nat) (c : Bool) : List (Nat × Nat) :=
  mapSet (fun _ => 0) m k (if c then mapGet (fun _ => 0) m k + 1 else 0)

/-- A sensor's new reading: the NOTE of the hub and the lane chiplets, and the HALT at 110 °C. -/
def sampleOne (s : State) (k : Nat) (v : BitVec 16) : State :=
  let old := tempAt s k
  let t := v.toInt
  let s := setF s (PWR_TEMP k) PWR_TEMP_TEMP v.toNat
  let s := { s with pwr := { s.pwr with hot105 := countRun s.pwr.hot105 k (420 < t), hot110 := countRun s.pwr.hot110 k (440 ≤ t) },
                    flt := { s.flt with secTemp := max s.flt.secTemp (min 255 (t / 4).toNat) } }
  let s := if 48 ≤ k ∧ old < tThrottle s ∧ tThrottle s ≤ t then note s 172 0x1C (BitVec.ofNat 32 k) else s
  let s := if (old < 440 ∧ 440 ≤ t) ∨ (old ≤ 420 ∧ 420 < t) then thermalEvent s else s
  if mapGet (fun _ => 0) s.pwr.hot110 k = 2 then haltNow s 172 0x1C (BitVec.ofNat 32 k) false else s

/-- Readings of sensors from `k` on; there are 60. -/
def sampleAll : List (BitVec 16) → Nat → State → State
  | [], _, s => s
  | v :: vs, k, s => if k < 60 then sampleAll vs (k + 1) (sampleOne s k v) else s

/-- The sample stands in the trace of the last 1,000, with VCORE's voltage and current; HALT freezes it (R441, R443). -/
def traceSample (s : State) : State :=
  if s.boot.halt then s
  else
    let x := ((List.range 64).map (fun k => BitVec.ofNat 16 (getF s (PWR_TEMP k) PWR_TEMP_TEMP)),
      BitVec.ofNat 16 (getF s PWR_VCORE PWR_VCORE_MEASURED), BitVec.ofNat 16 (getF s PWR_VCORE PWR_VCORE_CURRENT))
    { s with pwr := { s.pwr with trace := (x :: s.pwr.trace).take 1000 } }

/-- SENSOR_SAMPLE (R422). -/
def execSensorSample (temps : List (BitVec 16)) (s : State) : Host.Outcome State Fault Refusal :=
  .next (if pmRuns s then traceSample (sampleAll temps 0 s) else s)

/-- A sensor has been above 105 °C for 10 ms: 1,000 samples. The fault names no unit that Table 17.1's recovery fences.
(DEDUCED, log entry 41.) -/
def execThermalFault (k : Fin 60) (s : State) : Host.Outcome State Fault Refusal :=
  .next (
    if pmRuns s && 1000 ≤ mapGet (fun _ => 0) s.pwr.hot105 k then
      fault { s with pwr := { s.pwr with hot105 := countRun s.pwr.hot105 k false } } 172 0x1C 2 0xFFFF (BitVec.ofNat 32 k)
    else s)

/-- HBM_TEMPERATURE_REPORT (R422). -/
def hbmReport (s : State) (st : Nat) (temp : BitVec 16) : State :=
  let old := signed 16 (getF s (PWR_HBM_TEMP st) PWR_HBM_TEMP_TEMP)
  let t := temp.toInt
  let s := setF s (PWR_HBM_TEMP st) PWR_HBM_TEMP_TEMP temp.toNat
  let rest := s.pwr.refresh.filter (· != st)
  let s := { s with pwr := { s.pwr with refresh := if 340 ≤ t then rest ++ [st] else rest } }
  if old < 380 ∧ 380 ≤ t then note (thermalEvent s) 172 0x1C (BitVec.ofNat 32 (64 + st)) else s

def execHbmTemperatureReport (st : Fin 8) (temp : BitVec 16) (s : State) : Host.Outcome State Fault Refusal :=
  .next (if pmRuns s then hbmReport s st temp else s)

/-! ### Supplies (R418, R477, R484) -/

/-- A sample of package power: PWR_PKG shows the window's mean, and the history's second takes it in (R420, R423, R439). -/
def powerSample (s : State) : State :=
  let w := packageMw s
  let s := { s with pwr := { s.pwr with watts := (w :: s.pwr.watts).take 25500 },
                    flt := { s.flt with secWatts := s.flt.secWatts + w, secSamples := s.flt.secSamples + 1 } }
  setF s PWR_PKG PWR_PKG_POWER (min 65535 (windowMw s / 1000))

/-- VCORE_TELEMETRY (R418): PWR_VCORE and the VCORE entry of PWR_RAIL show the AVSBus values; a read that the stage does not
answer counts as one of its regulator's. -/
def vcoreRead (s : State) (milliVolt amps : Option (BitVec 16)) : State :=
  match milliVolt, amps with
  | some v, some a =>
    let s := { s with pwr := { s.pwr with amps := (a.toNat :: s.pwr.amps).take 100, silent := countRun s.pwr.silent 11 false } }
    let s := setF (setF s PWR_VCORE PWR_VCORE_MEASURED v.toNat) PWR_VCORE PWR_VCORE_CURRENT a.toNat
    setF (setF s (PWR_RAIL 3) PWR_RAIL_MV v.toNat) (PWR_RAIL 3) PWR_RAIL_CURRENT (min 65535 (10 * a.toNat))
  | _, _ => { s with pwr := { s.pwr with silent := countRun s.pwr.silent 11 true } }

def execVcoreTelemetry (milliVolt amps : Option (BitVec 16)) (s : State) : Host.Outcome State Fault Refusal :=
  .next (if pmRuns s then powerSample (vcoreRead s milliVolt amps) else s)

/-- A regulator's answer. -/
def railAnswers (s : State) (i : Nat) (r : RailReading) : State :=
  let s := { s with pwr := { s.pwr with silent := countRun s.pwr.silent i false, railTemp := mapSet (fun _ => 0) s.pwr.railTemp i r.temp } }
  if i = 3 then { s with pwr := { s.pwr with vcorePmbus := zext r.milliVolt ||| zext r.current <<< 16 } }
  else setF (setF s (PWR_RAIL i) PWR_RAIL_MV r.milliVolt.toNat) (PWR_RAIL i) PWR_RAIL_CURRENT r.current.toNat

/-- REGULATOR_POLL (R418). -/
def execRegulatorPoll (rail : Fin 11) (reading : Option RailReading) (s : State) : Host.Outcome State Fault Refusal :=
  .next (if pmRuns s then
      match reading with
      | some r => railAnswers s rail r
      | none => { s with pwr := { s.pwr with silent := countRun s.pwr.silent rail true } }
    else s)

/-- REGULATOR_NO_ANSWER (R418): three reads in a row; of the VCORE stage, over AVSBus or over PMBus.
(DESIGN CHOICE, log entry 42.) -/
def noAnswer (s : State) (i : Nat) : State :=
  let s := event s PWR_STATUS PWR_STATUS_REG_EVENT 2
  let s := { s with pwr := { s.pwr with silent := countRun s.pwr.silent i false } }
  let s := if i = 3 then { s with pwr := { s.pwr with silent := countRun s.pwr.silent 11 false } } else s
  note (setReg s (PWR_RAIL i) 0) 171 0x1B (BitVec.ofNat 32 i)

/-- Three reads in a row of a regulator have found no answer. -/
def silentRail (s : State) (i : Nat) : Bool :=
  decide (3 ≤ mapGet (fun _ => 0) s.pwr.silent i) || (i == 3 && decide (3 ≤ mapGet (fun _ => 0) s.pwr.silent 11))

def execRegulatorNoAnswer (rail : Fin 11) (s : State) : Host.Outcome State Fault Refusal :=
  .next (if pmRuns s && silentRail s rail then noAnswer s rail else s)

/-- PM_ALERT (R477): every STATUS_WORD is read; no fault of its own. -/
def execPmAlert (statusWords : List (BitVec 16)) (s : State) : Host.Outcome State Fault Refusal :=
  .next (if pmRuns s then { s with pwr := { s.pwr with statusWords := statusWords.take 11 } } else s)

/-- SUPPLY (R484): a HALT. -/
def execSupply (rail : Fin 11) (s : State) : Host.Outcome State Fault Refusal :=
  .next (if pmRuns s then haltNow s 171 0x21 (BitVec.ofNat 32 rail) false else s)

end Sys2Proof.Machine
end

