-- ==== Sys2Proof/Machine/Peek.lean ====
section
/-! DEFINITION. What the register block shows (R12, R13, R159, R269): registers that mirror a unit's state, values that
await a RESTART (R398), and which blocks a source reaches (R383, R385–R387, R442, R467). -/
namespace Sys2Proof.Machine

/-! ### Idle causes (R159) -/

/-- Frame positions in the order in which a throttle level removes them (R419). -/
def skipOrder : List Nat := [0, 8, 4, 12, 2, 10, 6, 14]

/-- Whether a throttle level removes frame position `p`. -/
def removed (level p : Nat) : Bool := (skipOrder.take level).contains p

/-- Idle cause of a wait, by the object's KIND (Table 5.11). (DESIGN CHOICE, log entry 44.) -/
def waitCause (s : State) (w : CoreWait) : Nat :=
  match (obj s w.obj).kind.toNat with
  | 1 => 6
  | 2 => 3
  | 3 => 4
  | 4 => 5
  | _ => 8

/-- A core is assigned to a job and has power: it charges every ACLK period. -/
def charges (s : State) (n : Nat) : Bool := (core s n).job != 0 && domState s n < 2 && domState s (80 + n / 5) < 2

/-- A core's packets wait for a gate window of the port that they are to leave by (R159). -/
def gateHolds (s : State) (n : Nat) : Bool :=
  s.net.ports.any (fun e => e.2.q.any (fun x =>
    x.owner == some n && !bit (gateAt s e.1 (now s).toNat).2 x.vc))

/-- Idle cause of a running core that its WAIT or its units hold back (Table 5.11), in table order; none for a period
that its own units take. -/
def heldCause (s : State) (n : Nat) : Option Nat :=
  match (core s n).wait with
  | some w => some (if waitCause s w = 6 && gateHolds s n then 5 else waitCause s w)
  | none => if gateHolds s n then some 5 else (core s n).stretch.map Fin.val

/-- Idle cause of a core at frame position `p`; none for an ISSUE or BUSY period. -/
def idleCause (s : State) (n p : Nat) : Option Nat :=
  let pw := powerLevel s
  let th := thermalLevel s (n / 20)
  let st := getF s (CORE_STATUS n) CORE_STATUS_STATE
  if removed (max pw th) p then some (if pw ≤ th then 0 else 1)
  else if st = 4 ∨ st = 5 then some 2
  else if (core s n).running then heldCause s n
  else some 5

/-! ### Registers that mirror a unit (Table 5.12, Table 11.11, Table 17.8) -/

/-- CORE_SEQ_STATUS of a core (Table 5.15). CAUSE of a core that is power-gated and so charges nothing shows the idle
cause that would apply. (DESIGN CHOICE, log entry 93.) -/
def seqStatus (s : State) (n : Nat) : Word :=
  let c := core s n
  let cause := if c.job = 0 then 0xF else (idleCause s n (s.aclk / 8 % 16)).getD 0xE
  let o := match c.wait with | some w => if 3 ≤ cause ∧ cause ≤ 8 then w.obj else 0 | none => 0
  BitVec.ofNat 64 (c.pc.toNat + cause * 2 ^ 32 + o % 65536 * 2 ^ 36)

/-- CORE_FLAGS, CORE_FIRST_A and CORE_FIRST_B: the merged flags of a core's units. -/
def coreFlags (s : State) (n i : Nat) : Word :=
  let f := mergeAll (core s n).flags
  match i with | 0 => f.word0 | 1 => f.word1 | _ => f.word2

/-- Words of the open record; 0 when none is open. -/
def openWord (s : State) (i : Nat) : Word := match s.flt.cur with | some r => wordAt r.toWords i | none => 0

/-- Eight bytes of the black box at an offset. -/
def bbAt (s : State) (off : Nat) : Word := mapGet (fun _ => (0 : Word)) s.flt.bb (off / 8)

/-- Eight bytes of the attestation report at SEC_ATT_ADDR (R470); 0 past its end. -/
def attWord (s : State) : Word :=
  BitVec.ofNat 64 (ofBytes ((s.sec.report.drop (getF s SEC_ATT_ADDR SEC_ATT_ADDR_ADDR)).take 8))

/-- The device-wide registers of the SWC and RED blocks stand once: in die 0's and engine 0's block (R125, R269).
(DESIGN CHOICE, log entry 11.) -/
def canon (off : Nat) : Nat :=
  if 0x2000000 ≤ off ∧ off < 0x3000000 then
    let o := (off - 0x2000000) % 0x400000
    if o = 0x18 ∨ (0x10000 ≤ o ∧ o < 0x20000 ∧ o % 16 = 0) ∨ 0x200000 ≤ o then 0x2000000 + o else off
  else if 0x4000000 ≤ off ∧ off < 0x4100000 then
    let o := (off - 0x4000000) % 0x10000
    if o = 0x18 ∨ o = 0x20 ∨ (0x1000 ≤ o ∧ o < 0x3000) then 0x4000000 + o else off
  else off

/-- The value in force with its live fields. -/
def liveFields (s : State) (off : Nat) : Word :=
  let v := reg s off
  if off = PWR_STATUS then fset PWR_STATUS_PLANNING v (b2n (planning s))
  else if 0x200800 ≤ off ∧ off < 0x200C00 ∧ off % 8 = 0 then
    let u := (off - 0x200800) / 8
    let v := fset PWR_DOMAIN_NEXT v (match nextEvent s u with | some t => t % 2 ^ 56 | none => 2 ^ 56 - 1)
    if u < 80 ∧ domState s (80 + u / 5) = 3 then fset PWR_DOMAIN_STATE v 3 else v
  else if off = HUB_RT_STATUS then fset HUB_RT_STATUS_HOLDING v (b2n (s.net.ports.any (fun e => e.2.downAt.isSome)))
  else if 0x3000000 ≤ off ∧ off < 0x3400000 ∧ off % 0x1000 = 0x020 then
    fset TSC_STATUS_DEFAULT_LIST v (b2n (gateLen s ((off - 0x3000000) / 0x1000) == 0))
  else if 0x3000000 ≤ off ∧ off < 0x3400000 ∧ off % 0x1000 = 0x018 then
    let g := gateAt s ((off - 0x3000000) / 0x1000) (now s).toNat
    fset TSC_GATE_STATUS_MASK (fset TSC_GATE_STATUS_ENTRY v g.1) g.2
  else v

/-- The digest registers of the SEC block, by offset in the block (Tables 14.7 and 18.8). -/
def digestReg (s : State) (o : Nat) : Option Word :=
  if o < 0x40 then some (digestWord (objDigest s.sec.cfg.obj) (o / 8 % 4))
  else if o < 0x60 then some (digestWord (bundleDigest s) (o / 8 % 4))
  else if o < 0x80 then some (digestWord (planDigest s) (o / 8 % 4))
  else if o < 0xA0 then some (digestWord (ownerDigest s) (o / 8 % 4))
  else if 0x100 ≤ o then some (digestWord s.sec.fp (o / 8 % 4))
  else none

/-- A register that shows a unit's state and is not written anywhere. -/
def mirrored (s : State) (off : Nat) : Option Word :=
  if off = 0x100018 then some (now s)
  else if off = 0x300038 then some (bbAt s (getF s FLT_BB_ADDR FLT_BB_ADDR_OFFSET))
  else if 0x300040 ≤ off ∧ off < 0x300080 ∧ off % 8 = 0 then some (openWord s ((off - 0x300040) / 8))
  else if off = SEC_DEVICE_ID then some (deviceId s)
  else if 0x400020 ≤ off ∧ off < 0x400120 ∧ off % 8 = 0 then digestReg s (off - 0x400000)
  else if off = 0x400230 then some (attWord s)
  else if 0x3000000 ≤ off ∧ off < 0x3400000 ∧ 0x0C0 ≤ off % 0x1000 ∧ off % 0x1000 < 0x100 ∧ off % 8 = 0 then
    some (queueWord s ((off - 0x3000000) / 0x1000) (off % 0x1000 / 8 - 24))
  else if 0x5000000 ≤ off ∧ off < 0x5500000 then
    let n := (off - 0x5000000) / 0x10000
    match off % 0x10000 with
    | 0x18 => some (seqStatus s n)
    | 0x20 => some (coreFlags s n 0)
    | 0x28 => some (coreFlags s n 1)
    | 0x30 => some (coreFlags s n 2)
    | _ => none
  else none

/-- A disabled core (R3). -/
def coreAbsent (s : State) (n : Nat) : Bool := getF s (CORE_STATUS n) CORE_STATUS_STATE == 0

/-- What a disabled core's block reads (R3), by offset in the block. -/
def absentCore (o : Nat) : Word :=
  if o = 0 then 0x00B00014
  else if o = 0x10 then 0xFF00
  else if o = 0x18 then 0xF00000000
  else if o = 0x28 ∨ o = 0x30 then BitVec.allOnes 64
  else if 0x40 ≤ o ∧ o < 0x60 ∧ o % 8 = 0 then 0x7F7F
  else 0

/-- A lane is the lowest lane of a port, by the widths in force (R318). -/
def lowestLane (s : State) (q : Nat) : Bool := (portsOf s (portBundle q)).contains q

/-- An offset in the TSC block, or the LNK_PORT_CTRL, of a lane that is not a port's lowest (R315, R318). -/
def noPort (s : State) (off : Nat) : Bool :=
  if 0x3000000 ≤ off ∧ off < 0x3400000 then !lowestLane s ((off - 0x3000000) / 0x1000)
  else if 0x1000000 ≤ off ∧ off < 0x1200000 then
    let o := (off - 0x1000000) % 0x10000
    if 0x1000 ≤ o ∧ o < 0x2000 ∧ o % 0x80 = 0 then !lowestLane s (32 * ((off - 0x1000000) / 0x10000) + (o - 0x1000) / 0x80)
    else false
  else false

/-- Offset in the block of a disabled core. -/
def inAbsentCore (s : State) (off : Nat) : Bool :=
  decide (0x5000000 ≤ off) && decide (off < 0x5500000) && coreAbsent s ((off - 0x5000000) / 0x10000)

/-- Bits of a list of fields that satisfy a test of the access code. -/
def accMask (p : Acc → Bool) : List FieldDef → Word
  | [] => 0
  | f :: fs => if p f.acc then fset f.fld (accMask p fs) (2 ^ f.fld.w - 1) else accMask p fs

/-- RWQ bits of a register. -/
def rwqMask (off : Nat) : Word := match findReg off with | some (r, _) => accMask (· == .rwq) r.fields | none => 0

/-- A value with the RWQ bits of another. -/
def mergeRwq (off : Nat) (v e : Word) : Word := (v &&& ~~~(rwqMask off)) ||| (e &&& rwqMask off)

/-- What a read of a CSR offset returns: RWQ bits last written and not yet in force come first (R398). A write-only
field reads as 0 (Table 0.3): nothing is ever kept in one. -/
def peek (s : State) (off : Nat) : Word :=
  if inAbsentCore s off then absentCore ((off - 0x5000000) % 0x10000)
  else if noPort s off then 0
  else match mirrored s off with
    | some v => v
    | none => match editOf s (canon off) with
      | some e => mergeRwq (canon off) (liveFields s (canon off)) e
      | none => liveFields s (canon off)

/-! ### Reach -/

/-- Blocks that an access reaches (R442, R467): all of them, those open in PCIe boot, those readable in HALT, none. -/
inductive Reach where
  | all
  | boot
  | halted
  | none
deriving DecidableEq, Repr

/-- Powered, and in no reset. -/
def outOfReset (s : State) : Bool := s.boot.vstby && s.boot.rails && !s.boot.porst && !s.boot.warm

/-- Reach of the device's own state. -/
def reach (s : State) : Reach :=
  if s.boot.halt then (if s.boot.vstby then .halted else .none)
  else if !outOfReset s then .none
  else if s.boot.up then .all
  else if s.boot.pcieBoot then .boot
  else .none

/-- Reach of a PCIe request: until step 13 has ended, what PCIe boot opens, or nothing (R463, R467). -/
def pcieReach (s : State) : Reach :=
  if reach s = .all ∧ s.boot.opened = false then (if s.boot.pcieBoot then .boot else .none) else reach s

/-- Reach of a source's requests. -/
def reachOf (s : State) (src : Nat) : Reach := if src = 0 then pcieReach s else reach s

/-- A source's requests arrive: 0 PCIe, 1 MCTP, 2 the Puppeteer, which stops in HALT. (DEDUCED, log entry 18.) -/
def arrives (s : State) (src : Nat) : Bool :=
  match src with
  | 0 => pcieOpen s
  | 1 => true
  | _ => reach s == .all

/-- A read of a CSR offset returns the register's value. -/
def readable (s : State) (src off : Nat) : Bool :=
  arrives s src && match reachOf s src with
    | .all => true
    | .boot => off < 0x100000 || (0x300000 ≤ off && off < 0x500000)
    | .halted => off < 0x500000
    | .none => false

/-- A write to a CSR offset is not ignored. -/
def writable (s : State) (src off : Nat) : Bool :=
  arrives s src && match reachOf s src with
    | .all => true
    | .boot => off < 0x100000 || (0x300000 ≤ off && off < 0x500000)
    | .halted => off == FLT_BB_ADDR
    | .none => false

/-! ### Writes that have a row of their own -/

/-- FTU_CTRL_WRITE (R38). -/
def execFtuCtrlWrite (src : Fin 3) (v : Word) (s : State) : Host.Outcome State Fault Refusal :=
  .next (if writable s src FTU_CTRL then writeFtuCtrl s v else s)

/-- TSC_TEL_CTRL_WRITE (R313). -/
def execTscTelCtrlWrite (src : Fin 3) (v : Word) (s : State) : Host.Outcome State Fault Refusal :=
  .next (if writable s src TSC_TEL_CTRL then writeTelCtrl s v else s)

/-- PWR_CTRL_WRITE (R423). -/
def execPwrCtrlWrite (src : Fin 3) (v : Word) (s : State) : Host.Outcome State Fault Refusal :=
  .next (if writable s src PWR_CTRL then writePwrCtrl s v else s)

end Sys2Proof.Machine
end

