-- ==== Sys2Proof/Machine/Faults.lean ====
section
/-! DEFINITION. The fault collector and the black box as commands meet them (R429–R444): acknowledgement, forced faults,
HALT causes, snapshots, the seal, the history, black-box reads, and the test access port (R487). -/
namespace Sys2Proof.Machine

/-! ### Acknowledgement (R431) -/

/-- A write of FLT_ACK: it closes the open record when SEQ and MERGE_CNT are the record's. -/
def writeAck (s : State) (v : Word) : State :=
  match s.flt.cur with
  | some r =>
    if fget FLT_ACK_SEQ v = r.seq.toNat ∧ fget FLT_ACK_MERGE_CNT v = r.mergeCnt.toNat then closeRecord s
    else event s FLT_STATUS FLT_STATUS_ACK_STALE_EVENT 0
  | none => event s FLT_STATUS FLT_STATUS_ACK_STALE_EVENT 0

/-- FLT_ACK (R431): from PCIe and MCTP only. -/
def execFltAck (src : Fin 3) (v : Word) (s : State) : Host.Outcome State Fault Refusal :=
  .next (if src.val < 2 && writable s src FLT_ACK then writeAck s v else s)

/-! ### Forced faults (R434) -/

/-- Trap cause of a forced STEP fault (Table 7.11). (DEDUCED, log entry 45.) -/
def forcedTrap (cause : Nat) (detail : BitVec 32) : Nat :=
  match cause with
  | 0x01 => detail.toNat % 256
  | 0x02 => 8
  | 0x07 => 6
  | _ => 7

/-- A running step of a core stops. -/
def forceTrap (cause : Nat) (s : State) (n : Nat) : State :=
  let c := core s n
  if c.running && c.trap.isNone then
    setCore s n { c with trap := some (BitVec.ofNat 8 cause), errPc := 0xFFFFFFFF#32, ended := false, wait := none, held := [] }
  else s

/-- Recovery of a forced STEP fault: the step or the launches of the source, or the steps of the job. -/
def forcedStep (s : State) (n cause j : Nat) (detail : BitVec 32) : State :=
  if n < 80 then forceTrap (forcedTrap cause detail) s n
  else if 96 ≤ n ∧ n < 112 then
    (s.coll.launches.filter (fun x => x.stage == 2 && (servers s x).contains (n - 96))).foldl
      (fun s x => finishLaunch s x (if cause = 0x03 then detail.toNat % 256 else 0x09) true) s
  else if (job s j).isSome then (coresOfJob s j).foldl (forceTrap (forcedTrap cause detail)) s
  else s

/-- A replica of a job leaves its groups. -/
def expelReplica (s : State) (j k : Nat) : State :=
  { s with coll := { s.coll with groups := s.coll.groups.map (fun g =>
      if g.job = j then { g with expelled := g.expelled ||| (1 : BitVec 64) <<< k } else g) } }

/-- A core is fenced for good (R448, R450); a disabled core stays ABSENT (R3). -/
def fenceCore (s : State) (n : Nat) : State :=
  if coreAbsent s n then s else
  let s := lastFence (setF (dropTest s n) (CORE_STATUS n) CORE_STATUS_OBSERVE 0) n
  leaveSpare (zeroCore (coreState (loseCore s n) n 6) n) n

/-- A bundle is fenced: its ports go down, its lasers off. -/
def fenceBundle (s : State) (b : Nat) : State :=
  let s := setF s (LNK_OPT_CTRL b) LNK_OPT_CTRL_LASER_EN 0
  (portsOf s b).foldl (fun s q => if portUp s q then linkDown s q 0 else setPState s q 0) s

/-- The unit that a source names is fenced. -/
def fenceUnit (s : State) (n : Nat) : State :=
  if n < 80 then fenceCore s n
  else if 96 ≤ n ∧ n < 112 then
    leaveEngine { setF s (RED_STATUS (n - 96)) RED_STATUS_FENCED 1 with
      flt := { s.flt with lasting := s.flt.lasting ++ [80 + (n - 96)] } } (n - 96)
  else if 112 ≤ n ∧ n < 144 then fenceBundle s (n - 112)
  else if 148 ≤ n ∧ n < 160 then
    let d := (n - 148) / 3
    let t := (n - 148) % 3
    let js := windowJobs s d t
    jobFaults (setF (dropWindow { s with lostWin := s.lostWin ++ [n - 148] } d t) MEM_STATUS MEM_STATUS_WINDOW_LOST_EVENT 1) n 0x08 0 js
  else s

/-- Recovery of a forced UNIT fault (R425): the unit for a cause that Table 17.3 gives to units; else its replica or its job,
and the unit where no job is named. -/
def forcedUnit (s : State) (n cause j : Nat) (detail : BitVec 32) : State :=
  if [0x05, 0x08, 0x0B, 0x14, 0x19].contains cause || (job s j).isNone then fenceUnit s n
  else if cause = 0x13 ∧ detail.getLsbD 31 = true then expelReplica s j (detail.toNat % 64)
  else stopJob s j cause

/-- A write of FLT_FORCE[n]. -/
def writeForce (s : State) (n : Nat) (v : Word) : State :=
  let cause := fget FLT_FORCE_CAUSE v
  let cls := fget FLT_FORCE_CLASS v
  let act := fget FLT_FORCE_ACT v == 1
  let j := fget FLT_FORCE_JOB_ID v
  let detail := BitVec.ofNat 32 (fget FLT_FORCE_DETAIL v)
  if cls = 3 then
    if act && isSet s FLT_CTRL FLT_CTRL_HALT_FORCE_EN then haltNow s n cause detail true (BitVec.ofNat 16 j)
    else eventMsg (fault s n cause 3 (BitVec.ofNat 16 j) detail true) 0
  else
    let s := fault s n cause cls (BitVec.ofNat 16 j) detail true
    if !act then s
    else match cls with
      | 1 => forcedStep s n cause j detail
      | 2 => forcedUnit s n cause j detail
      | _ => s

/-- The FLT block takes writes: start-up has ended, or PCIe boot waits, and the device is not halted. -/
def fltOpen (s : State) : Bool := reach s == .all || reach s == .boot

/-- FLT_FORCE (R434). -/
def execFltForce (n : Fin 192) (v : Word) (s : State) : Host.Outcome State Fault Refusal :=
  .next (if fltOpen s then writeForce s n v else s)

/-! ### HALT causes (R429, R441) -/

/-- A real HALT cause. -/
def haltCause (c : Nat) : Bool := c == 0x1C || c == 0x1F || c == 0x20 || c == 0x21 || c == 0x23

/-- HALT (R441). -/
def execHalt (source : Fin 192) (cause : Byte) (detail : BitVec 32) (s : State) : Host.Outcome State Fault Refusal :=
  .next (if pmRuns s && haltCause cause.toNat then haltNow s source cause.toNat detail false else s)

/-- PUP_FAIL (R429): a missed watchdog. -/
def execPupFail (p : PupId) (s : State) : Host.Outcome State Fault Refusal :=
  .next (ifRunning s (haltNow s (175 + p.val) 0x20 0 false))

/-- MESH_RETRY (R429): a replayed flit. -/
def execMeshRetry (link : Fin 10) (s : State) : Host.Outcome State Fault Refusal :=
  .next (ifRunning s (note s (160 + link.val) 0x1E 0))

/-- MESH_DOWN (R429): a link that did not retrain. -/
def execMeshDown (link : Fin 10) (s : State) : Host.Outcome State Fault Refusal :=
  .next (ifRunning s (haltNow s (160 + link.val) 0x1F 0 false))

/-! ### Snapshots (R438) -/

/-- Offsets of every instance of a register. -/
def instOffs : List (Nat × Nat) → Nat → List Nat
  | [], b => [b]
  | (st, n) :: ds, b => (List.range n).flatMap (fun i => instOffs ds (b + st * i))

/-- Registers whose instances are table entries: circuits, jobs, ranks, gate memory, regions, the MSI-X table. -/
def tableBases : List Nat :=
  [HUB_RT_JOB 0, HUB_CIRCUIT 0, HUB_CIRCUIT_W1 0, SWC_JOB 0 0, SWC_JOBQ 0 0, SWC_RTT 0 0, SWC_RTT_W1 0 0, TSC_GMEM 0 0,
   MEM_REGION 0, MEM_REGION_W1 0, HIF_MSIX_ADDR 0, HIF_MSIX_DATA 0]

/-- Registers that only mirror a unit: base and dimensions. -/
def liveDefs : List (Nat × List (Nat × Nat)) :=
  [(0x100018, []), (0x300038, []), (0x300040, [(8, 8)]), (0x400230, []), (0x30000C0, [(0x1000, 1024), (8, 8)]),
   (0x5000018, [(0x10000, 80), (8, 4)])]

/-- Offsets that a snapshot holds, in ascending order. (DESIGN CHOICE, log entry 49.) -/
def snapOffs (s : State) : List Nat :=
  let l := (regTable.filter (fun r => !tableBases.contains r.base)).flatMap (fun r => instOffs r.dims r.base)
    ++ liveDefs.flatMap (fun r => instOffs r.2 r.1)
  (l.filter (fun o => !noPort s o)).mergeSort (fun a b => decide (a ≤ b))

/-- An area of the black box with its 64-byte header: FT, SEQ and the SEALED flag, length in bytes, and a CRC-32C over the
rest of the header and the contents. (DESIGN CHOICE, log entry 95.) -/
def withHead (ft : Word) (seq : BitVec 32) (sealed : Bool) (ws : List Word) : List Word :=
  let h := [ft, zext seq ||| b2w sealed <<< 32, BitVec.ofNat 64 (64 + 8 * ws.length), 0, 0, 0, 0]
  h ++ [zext (crc32c (wordsToBytes (h ++ ws)))] ++ ws

/-- An area's words in one copy, at an MRAM offset; a copy whose cells fail is left and reported (R436). -/
def putCopy (s : State) (base : Nat) (ws : List Word) : State :=
  if bbFails s (base / 8) then bbError s (base / 8) else { s with flt := { s.flt with bb := bbPut s.flt.bb (base / 8) ws } }

/-- An area in copy A, then copy B. -/
def putArea (s : State) (a b : Nat) (ws : List Word) : State := putCopy (putCopy s a ws) b ws

/-- The snapshot that is being written stands in the black box, under its start FT and its record's SEQ. -/
def writeSnap (s : State) : State :=
  match s.flt.snap with
  | none => s
  | some (t, seq) =>
    let s := putArea s 0x0600000 0x0800000 (withHead t seq false ((snapOffs s).map (peek s)))
    { s with flt := { s.flt with snap := none } }

/-- SNAPSHOT_WRITTEN (R438); a HALT's snapshot ends with its seal. -/
def execSnapshotWritten (s : State) : Host.Outcome State Fault Refusal :=
  .next (if standby s && s.flt.snap.isSome && !s.boot.halt then writeSnap s else s)

/-! ### The seal (R441, R443) -/

/-- 4-byte values, two to a word. -/
def packed : List (BitVec 32) → List Word
  | [] => []
  | [a] => [zext a]
  | a :: b :: l => (zext a ||| zext b <<< 32) :: packed l

/-- What the segment holds of one Puppeteer core: registers, program index, and its last 1,024 indices, newest first. -/
def pupWords (s : State) (c : Nat) : List Word :=
  (pup s c).g.toList ++ [zext (pup s c).pc] ++ packed (((pup s c).trace ++ List.replicate 1024 0).take 1024)

/-- A sample of the trace: 64 temperatures, four to a word, then VCORE's voltage and current. -/
def sampleWords (x : List (BitVec 16) × BitVec 16 × BitVec 16) : List Word :=
  (List.range 16).map (fun i => BitVec.ofNat 64 (ofBytes (((x.1.drop (4 * i)).take 4).flatMap (fun v => toBytes 2 v.toNat))))
    ++ [zext x.2.1 ||| zext x.2.2 <<< 16]

/-- A HALT segment's words after its header. (DESIGN CHOICE, log entry 95.) -/
def segWords (s : State) (r : EventRec) : List Word :=
  (r.toWords ++ (List.range 8).flatMap (pupWords s) ++ s.pwr.trace.flatMap sampleWords).take 65528

/-- The HALT is sealed: snapshot, segment, SEALED, and a STATE record. -/
def sealHalt (s : State) (t : Word) (r : EventRec) : State :=
  let s := writeSnap s
  let s := putArea s 0x0F00000 0x0F80000 (withHead t r.seq true (segWords s r))
  let s := setF s FLT_STATUS FLT_STATUS_SEALED 1
  logEvent { s with flt := { s.flt with sealedSeq := r.seq } } 2 0x04 183 r.seq

/-- SEALED (R441): an earlier seal stands (R443). The HALT then closes the open record (Table 17.4). -/
def execSealed (worn : List Nat) (s : State) : Host.Outcome State Fault Refusal :=
  .next (if standby s then
    match s.flt.haltRec with
    | none => s
    | some (t, r) =>
      let s := { wear s worn with flt := { (wear s worn).flt with haltRec := none } }
      closeRecord (if isSet s FLT_STATUS FLT_STATUS_SEALED then s else sealHalt s t r)
    else s)

/-- Words of the black box from a word index on, by its listed words from there. -/
def bbFrom : List (Nat × Word) → Nat → Nat → List Word
  | _, _, 0 => []
  | [], k, n + 1 => 0 :: bbFrom [] (k + 1) n
  | (a, v) :: m, k, n + 1 => if a = k then v :: bbFrom m (k + 1) n else 0 :: bbFrom ((a, v) :: m) (k + 1) n

/-- `n` words of the black box from a word index on. -/
def bbRange (s : State) (k n : Nat) : List Word := bbFrom (s.flt.bb.dropWhile (fun e => decide (e.1 < k))) k n

/-- A copy of an area by its MRAM offset: its header, and its contents of the header's length. -/
def areaHead (s : State) (base : Nat) : List Word := bbRange s (base / 8) 8
def areaBody (s : State) (base : Nat) : List Word :=
  bbRange s (base / 8 + 8) (min 65528 (((wordAt (areaHead s base) 2).toNat - 64) / 8))

/-- A copy passes its CRC. -/
def areaOk (s : State) (base : Nat) : Bool :=
  wordAt (areaHead s base) 7 == zext (crc32c (wordsToBytes ((areaHead s base).take 7 ++ areaBody s base)))

/-- The copy of an area that a reader takes (R436): one that passes, and of two the one with the later header FT. -/
def readArea (s : State) (a b : Nat) : Option Nat :=
  match areaOk s a, areaOk s b with
  | true, true => some (if (wordAt (areaHead s a) 0).toNat < (wordAt (areaHead s b) 0).toNat then b else a)
  | true, false => some a
  | false, true => some b
  | false, false => none

/-- The SEALED flag of a copy of the segment. -/
def flagged (s : State) (base : Nat) : Bool := bit (wordAt (areaHead s base) 1).toNat 32

/-- SEQ of the sealed segment, if the black box holds one (R443, R444). -/
def sealedSegment (s : State) : Option (BitVec 32) :=
  if flagged s 0x0F00000 || flagged s 0x0F80000 then
    match readArea s 0x0F00000 0x0F80000 with
    | some b => if flagged s b then some (ext (wordAt (areaHead s b) 1) 0 32) else none
    | none => none
  else none

/-- A copy of the segment loses its SEALED flag. -/
def unsealCopy (s : State) (base : Nat) : State :=
  if flagged s base then
    putCopy s base (withHead (wordAt (areaHead s base) 0) (ext (wordAt (areaHead s base) 1) 0 32) false (areaBody s base))
  else s

/-- A write of FLT_BB_CTRL.UNSEAL: the seal is released. -/
def writeUnseal (s : State) : State :=
  if isSet s FLT_STATUS FLT_STATUS_SEALED then
    logEvent (setF (unsealCopy (unsealCopy s 0x0F00000) 0x0F80000) FLT_STATUS FLT_STATUS_SEALED 0) 4 0x02 183 0
  else s

/-- UNSEAL (R443): after cold start. -/
def execUnseal (s : State) : Host.Outcome State Fault Refusal := .next (ifRunning s (writeUnseal s))

/-! ### The history (R439) -/

/-- Package power averaged over the second, in W. -/
def secAverage (s : State) : Nat := min 4095 (s.flt.secWatts / max 1 s.flt.secSamples / 1000)

/-- The second's record. -/
def histRecord (s : State) : BitVec 32 :=
  BitVec.ofNat 32 (secAverage s + min s.flt.secTemp 255 * 2 ^ 12 + s.flt.secPower.toNat * 2 ^ 20 + s.flt.secThermal.toNat * 2 ^ 24
    + b2n s.flt.secThrottled * 2 ^ 28 + b2n s.flt.secEdc * 2 ^ 29 + b2n s.flt.secFault * 2 ^ 30 + b2n s.boot.halt * 2 ^ 31)

/-- A page with its CRC, as words: 1,023 values of 4 bytes, those not yet written being 0. -/
def pageWords (vals : List (BitVec 32)) : List Word :=
  let l := (vals ++ List.replicate 1023 0).take 1023
  packed (l ++ [crc32c (l.flatMap (fun v => toBytes 4 v.toNat))])

/-- One more record in the page in hand; `sec` is the second it covers. (DEDUCED, log entry 27.) -/
def addHistory (s : State) (sec : Nat) (r : BitVec 32) : State :=
  let k := if s.flt.histCount < 1022 then s.flt.histCount else 0
  let p := if s.flt.histCount < 1022 then s.flt.histPage else (s.flt.histPage + 1) % 640
  let vals := (if k = 0 then [BitVec.ofNat 32 sec] else s.flt.hist) ++ [r]
  let s := putArea s (0x0A00000 + 4096 * p) (0x0C80000 + 4096 * p) (pageWords vals)
  { s with flt := { s.flt with histPage := p, histCount := k + 1, hist := vals } }

/-- A new second begins with the levels as they stand. -/
def newSecond (s : State) : State :=
  let t := (List.range 60).foldl (fun m k => max m (min 255 (tempAt s k / 4).toNat)) 0
  seeLevels { s with flt := { s.flt with secPower := 0, secThermal := 0, secTemp := t, secThrottled := false, secEdc := false,
                                         secFault := false, secWatts := 0, secSamples := 0 } }

/-- A powered second of observation has passed (R449); an engine's observation ends with its last. -/
def countHours (s : State) : State :=
  if s.boot.rails then
    { s with flt := { s.flt with obs := (s.flt.obs.map (fun e => (e.1, e.2 - 1))).filter (fun e => e.1 < 80 || e.2 != 0) } }
  else s

/-- The measurements of a lane over the last second: its corrected symbols and optical receive power (Table 12.9), which are free
values. (DESIGN CHOICE, log entry 43.) -/
def measureLane (q : Nat) (s : State) (i : Nat) : State :=
  let (v, s) := fresh s
  setReg s (LNK_LANE_STAT (portBundle q) (portLane q + i)) (v &&& 0xFFFFFFFFFFFF)

/-- The lanes of the ports whose link is up. -/
def measureLanes (s : State) : State :=
  s.net.ports.foldl (fun s e => if portUp s e.1 then (List.range (portLanes s e.1)).foldl (measureLane e.1) s else s) s

/-- HISTORY_RECORD (R439): each whole second of FT; a fault that writing it meets belongs to the second that begins. -/
def execHistoryRecord (worn : List Nat) (s : State) : Host.Outcome State Fault Refusal :=
  .next (if standby s then
      let t := nextMultiple s 1000000000
      let s := advanceTo (wear s worn) (BitVec.ofNat 64 t)
      let s := countHours (addHistory (newSecond s) (t / 1000000000 - 1) (histRecord s))
      if running s then measureLanes s else s
    else s)

/-! ### Reading the black box (R440, Table 17.16) -/

/-- Offset after one read. -/
def bbNext (off : Nat) : Nat := if 0x0FFFFF8 ≤ off then 0x0200000 else off + 8

/-- An offset as FLT_BB_ADDR takes it. -/
def bbAlign (off : Nat) : Nat := max 0x0200000 (off - off % 8)

/-- A read of FLT_BB_DATA. -/
def readBb (s : State) : Word × State :=
  let off := getF s FLT_BB_ADDR FLT_BB_ADDR_OFFSET
  (bbAt s off, setF s FLT_BB_ADDR FLT_BB_ADDR_OFFSET (bbNext off))

/-- FLT_BB_DATA_READ (R440): from PCIe. -/
def execFltBbDataRead (s : State) : Host.Outcome State Fault Refusal :=
  .next (if readable s 0 0x300038 then (let (v, s) := readBb s; emit s (.read v)) else s)

/-- Words of a black-box read session. -/
def bbRun (s : State) : Nat → Nat → List Byte
  | 0, _ => []
  | n + 1, off => toBytes 8 (bbAt s off).toNat ++ bbRun s n (bbNext off)

/-- MCTP_BLACK_BOX_READ (R404, R440): powered by VSTBY, over I3C after HALT too. -/
def execMctpBlackBoxRead (eid : Byte) (off : BitVec 24) (words : Nat) (s : State) (via : MctpTo := ⟨false, 0⟩) : Host.Outcome State Fault Refusal :=
  .next (if mctpIn s via then
      logEvent (emit (takeEid s via) (.readBytes (bbRun s words (bbAlign off.toNat)))) 4 0x01 183 (BitVec.setWidth 32 eid)
    else s)

/-! ### The test access port (R487) -/

/-- The instruction drives balls. -/
def drives (i : TapIns) : Bool :=
  match i with
  | .idcode => false
  | .bypass => false
  | .sample => false
  | .extest => true
  | .extestPulse => true
  | .extestTrain => true
  | .drive => true

/-- Bits that the spec leaves open. -/
def freeBits : Nat → State → List Bool × State
  | 0, s => ([], s)
  | n + 1, s =>
    let (w, s) := fresh s
    let (l, s) := freeBits n s
    (w.getLsbD 0 :: l, s)

/-- A data-register scan: bits shifted out, least significant first. -/
def scanDr (s : State) (tdi : List Bool) : State :=
  let n := tdi.length
  let bypass := emit s (.shift ((false :: tdi).take n))
  match s.boot.tapIr with
  | .idcode => emit s (.shift (((List.range 32).map (fun i => Config.idcode.getLsbD i) ++ tdi).take n))
  | .bypass => bypass
  | .sample => (let (l, s) := freeBits n s; emit s (.shift l))
  | _ =>
    if s.boot.porst then
      let (l, s) := freeBits n s
      emit { s with boot := { s.boot with tapDr := tdi } } (.shift l)
    else bypass

/-- TEST_ACCESS_PORT (R487). (PRESUMED, log entry 20.) -/
def execTestAccessPort (op : TapOp) (s : State) : Host.Outcome State Fault Refusal :=
  .next (if s.boot.vstby && s.boot.rails then
      match op with
      | .reset => { s with boot := { s.boot with tapIr := .idcode, tapDr := [] } }
      | .shiftIr i => { s with boot := { s.boot with tapIr := i } }
      | .shiftDr tdi => scanDr s tdi
    else s)

end Sys2Proof.Machine
end

