-- ==== Sys2Proof/Machine/Admit.lean ====
section
/-! DEFINITION. Plans, and jobs as they come and go (R392): PLAN (R316, R461, R466), JOB_ADMIT (R265, R285, R338, R339,
R348, Table 15.6) and JOB_END (R308, R392). -/
namespace Sys2Proof.Machine

/-- A serial command's completion on its command ring's CQ (R392). -/
def serialDone (s : State) (r : Nat) (e : CmdEntry) (status detail : Nat) : State := cmdDone s r e status detail true

/-- Every register in a range of offsets returns to its cold value, and no edit of one is held. -/
def clearRange (s : State) (lo hi : Nat) : State :=
  let inside (k : Nat) : Bool := decide (lo ≤ k) && decide (k < hi)
  { s with csr := s.csr.filter (fun e => !inside e.1), edits := s.edits.filter (fun e => !inside e.1) }

/-! ### PLAN (R316, R317, R461, R466) -/

/-- Class of a bundle where no plan says otherwise (R317). -/
def defaultClass (b : Nat) : Nat := if b < 16 then 0 else if b < 28 then 1 else 2

/-- Class of a bundle under a plan. -/
def planClass (p : Plan) (b : Nat) : Nat :=
  match p.classes[b]? with
  | some c => c.toNat
  | none => defaultClass b

/-- Classes of the bundles stand in LNK_BUNDLE_CTRL. -/
def applyClasses (cls : Nat → Nat) (s : State) : State :=
  (List.range 32).foldl (fun s b => setF s (LNK_BUNDLE_CTRL b) LNK_BUNDLE_CTRL_CLASS (cls b)) s

/-- A plan's ports are enabled at their widths. -/
def enablePorts (p : Plan) (s : State) : State :=
  p.ports.foldl (fun s x =>
    setF (setF s (pCtrl x.port) LNK_PORT_CTRL_WIDTH x.width.toNat) (pCtrl x.port) LNK_PORT_CTRL_EN 1) s

/-- A verified plan comes into force: and the FTU's source (R38). -/
def takePlan (p : Plan) (s : State) : State :=
  let s := { s with sec := { s.sec with plan := some p } }
  writeFtuCtrl s p.ftuCtrl

/-- A plan replaces the one in force, or is the first: then its classes apply and its ports train (R466). Under a later
plan classes wait for the RESTART of their port group (R316), and ports rediscover (R337). -/
def installPlan (p : Plan) (s : State) : State :=
  let first := s.sec.plan.isNone
  let s := takePlan p s
  placePos (
    if first then p.ports.foldl (fun s x => startTraining s x.port) (enablePorts p (applyClasses (planClass p) s))
    else (List.range 1024).foldl rediscover s)

/-- Form of a PLAN: words 2 and 3. -/
def planForm (e : CmdEntry) : Bool := e.headOk && e.bodyOk (fun i => if i = 2 ∨ i = 3 then BitVec.allOnes 64 else 0)

/-- PLAN: without an owner no plan verifies (R461). -/
def runPlan (s : State) (r : Nat) (e : CmdEntry) (body : Option (Plan × SigCheck)) : State :=
  if !planForm e then serialDone s r e 0x01 0
  else match body with
    | none => serialDone s r e 0x02 0
    | some (p, c) =>
      let ok := planOk s p c
      let s := countVerify s ok
      if ok then serialDone (installPlan p s) r e 0 0 else serialDone s r e 0x03 0

/-- A command whose object the SEC unit verifies takes its turn there, and waits at the front of its ring until it comes
(R459). -/
def secTurn (s : State) (r : RingId) (e : CmdEntry) (k : State → State) : State :=
  match nextWork s with
  | none => k s
  | some w =>
    if w = .ring r then k (endWork s w)
    else if s.sec.work.contains (.ring r) then unpopEntry s r e
    else addWork (unpopEntry s r e) (.ring r)

def execPlan (r : RingId) (body : Option (Plan × SigCheck)) (s : State) : Host.Outcome State Fault Refusal :=
  .next (dispatch s r 2 (fun s e =>
    if planForm e && body.isSome then secTurn s r e (fun s => runPlan s r e body) else runPlan s r e body))

/-! ### The admission block (Table 15.6) -/

/-- A field of an admission block. -/
def aF (b : List Word) (w hi lo : Nat) : Nat := bits (wordAt b w).toNat hi lo
/-- Words of a list of `n` entries of 16 bytes at a byte offset of the block. -/
def aList (b : List Word) (off n : Nat) : List (Nat × Nat) :=
  (List.range n).map (fun i => ((wordAt b (off / 8 + 2 * i)).toNat, (wordAt b (off / 8 + 2 * i + 1)).toNat))
/-- Rank list. -/
def aRanks (b : List Word) : List (Nat × Nat) := aList b (aF b 1 31 0) (aF b 0 49 32)
/-- Circuit list. -/
def aCircuits (b : List Word) : List (Nat × Nat) := aList b (aF b 1 63 32) (aF b 2 15 0)
/-- Region list. -/
def aRegions (b : List Word) : List (Nat × Nat) := aList b (aF b 2 63 32) (aF b 2 31 16)
/-- P3 quota of die `d`. -/
def aQuota (b : List Word) (d : Nat) : Nat := aF b 4 (16 * d + 10) (16 * d)

/-- A list lies in the block, at a multiple of 8 bytes. -/
def listIn (b : List Word) (len off n : Nat) : Bool :=
  n == 0 || (off % 8 == 0 && decide (off + 16 * n ≤ len) && decide (off + 16 * n ≤ 8 * b.length))

/-- Reserved bits of the header and of every list entry are 0. -/
def blockReserved (b : List Word) : Bool :=
  aF b 0 63 50 == 0 && aF b 3 63 48 == 0
    && (wordAt b 4).toNat &&& (0x07FF07FF07FF07FF ^^^ 0xFFFFFFFFFFFFFFFF) == 0
    && wordAt b 5 == 0 && wordAt b 6 == 0 && wordAt b 7 == 0
    && (aRanks b).all (fun e => bits e.1 5 3 == 0 && bits e.1 63 48 == 0 && bits e.2 63 36 == 0)
    && (aCircuits b).all (fun e => bits e.1 63 46 == 0 && bits e.2 63 21 == 0)
    && (aRegions b).all (fun e => bits e.1 63 50 == 0)

/-- The block's form, against the command's JOB_ID and length: JOB_ID 0 and 0xFFFF name no job, and every list entry
names the block's. -/
def blockOk (b : List Word) (len j : Nat) : Bool :=
  decide (64 ≤ len) && aF b 0 15 0 == j && j != 0 && j != 0xFFFF
    && listIn b len (aF b 1 31 0) (aF b 0 49 32) && listIn b len (aF b 1 63 32) (aF b 2 15 0)
    && listIn b len (aF b 2 63 32) (aF b 2 31 16) && blockReserved b
    && (aRanks b).all (fun e => bits e.2 35 20 == j) && (aCircuits b).all (fun e => bits e.1 17 2 == j)
    && (aRegions b).all (fun e => bits e.2 63 48 == j && bits e.1 11 0 == 0 && bits e.2 11 0 == 0 && bits e.2 47 0 != 0)

/-! ### Reasons to refuse an admission (R38, R265, R285, R338, R348) -/

/-- Index of the first entry of a list that fails a test. -/
def firstBad (l : List (Nat × Nat)) (p : Nat × Nat → Bool) : Option Nat := l.findIdx? p

/-- A die whose jobs' P3 quotas would exceed 1,024 (R265). -/
def quotaOver (s : State) (b : List Word) : Option Nat :=
  (List.range 4).find? (fun d => decide (1024 < aQuota b d + (s.jobs.map (fun x => getF s (SWC_JOBQ d x.2.index) SWC_JOBQ_P3_QUOTA)).sum))

/-- A port that no circuit may name: down, quarantined or missing; 0x3FF is a local unit (R285, R338). -/
def portBarred (s : State) (q : Nat) : Bool := portState s q == 5 || !portUp s q || (port s q).missing

/-- Valid circuits: job, OUT_PORT, VC_MASK, WIN_FIRST, WIN_COUNT. -/
def circuitsOn (s : State) : List (Nat × Nat × Nat × Nat × Nat) :=
  s.csr.filterMap (fun e =>
    if 0x60000 ≤ e.1 ∧ e.1 < 0x70000 ∧ (e.1 - 0x60000) % 16 = 0 ∧ isSet s e.1 HUB_CIRCUIT_VALID = true then
      let i := (e.1 - 0x60000) / 16
      some (getF s e.1 HUB_CIRCUIT_JOB_ID, getF s e.1 HUB_CIRCUIT_OUT_PORT, getF s e.1 HUB_CIRCUIT_VC_MASK,
        getF s (HUB_CIRCUIT_W1 i) HUB_CIRCUIT_W1_WIN_FIRST, getF s (HUB_CIRCUIT_W1 i) HUB_CIRCUIT_W1_WIN_COUNT)
    else none)

/-- A circuit entry of another job claims one of its gate-list entries for the same VC (R285). -/
def circuitClash (s : State) (j : Nat) (e : Nat × Nat) : Bool :=
  (circuitsOn s).any (fun c => c.1 != j && c.2.1 == bits e.1 37 28 && (c.2.2.1 &&& bits e.1 45 38) != 0
    && rangesMeet c.2.2.2.1 c.2.2.2.2 (bits e.2 9 0) (bits e.2 20 10))

/-- A rank translation entry that names a quarantined or missing port (R337, R338). -/
def rankBad (s : State) (e : Nat × Nat) : Bool :=
  bits e.1 2 1 == 1 && (portState s (bits e.1 15 6) == 5 || (port s (bits e.1 15 6)).missing)

/-- The block's slice contains a coordinate. -/
def blockInSlice (s : State) (b : List Word) (c : Nat → Nat) : Bool :=
  [0, 1, 2].all (fun a => inInterval (aF b 3 (16 * a + 7) (16 * a)) (aF b 3 (16 * a + 15) (16 * a + 8)) (axisSize s a) (c a))

/-- A port at the end of an optical path where the plan expects a neighbour whom discovery has not reported (R285). -/
def pathUnchecked (s : State) (q : Nat) : Bool :=
  getF s (LNK_BUNDLE_CTRL (portBundle q)) LNK_BUNDLE_CTRL_REACH == 3 && wantsNeighbour (expectAt s q)
    && getF s (pStat q) LNK_PORT_STATUS_DISC != 1

/-- The next device over a port lies outside the block's slice. -/
def leadsOut (s : State) (b : List Word) (q : Nat) : Bool :=
  match planDir s q with | some d => !blockInSlice s b (afterHop s ⟨d / 2, d % 2 == 0, false⟩) | none => false

/-- The next device over a port lies inside the slice of another job that has an entry here. -/
def leadsInto (s : State) (j q : Nat) : Bool :=
  match planDir s q with
  | some d => (jobEntries s).any (fun x => x.2 != j && inSlice s x.1 (afterHop s ⟨d / 2, d % 2 == 0, false⟩))
  | none => false

/-- A circuit leads over its link into a transit device without being marked TRANSIT, or without VC5 windows: it claims gate-list
entries that stand in the list in force, each of which opens VC5 (R288). -/
def transitClosed (s : State) (j : Nat) (b : List Word) (e : Nat × Nat) : Bool :=
  let q := bits e.1 37 28
  let first := bits e.2 9 0
  let n := bits e.2 20 10
  let l := gateEntries s q
  leadsOut s b q && (bit e.1 1 || leadsInto s j q)
    && (!bit e.1 1 || n == 0 || decide (l.length < first + n) || ((l.drop first).take n).any (fun x => !bit x.1 5))

/-- A circuit that may not be admitted (R285, R288). (DESIGN CHOICE, log entry 30.) -/
def circuitBad (s : State) (j : Nat) (b : List Word) (e : Nat × Nat) : Bool :=
  let ports := (if bits e.1 27 18 = 0x3FF then [] else [bits e.1 27 18]) ++ [bits e.1 37 28]
  ports.any (fun q => portBarred s q || pathUnchecked s q) || circuitClash s j e || transitClosed s j b e

/-- The slice contains the device at either end of a missing link (R338). -/
def sliceMissing (s : State) (b : List Word) : Bool :=
  s.net.ports.any (fun e => e.2.missing && (blockInSlice s b (ownCoord s)
    || (match neighbourCoord (expectAt s e.1) with | some c => blockInSlice s b c | none => false)))

/-- Fabric time is set and disciplined: SRC is PPS_PTP or PPS_PFP, and SYNC is 1 (R38). -/
def timeReady (s : State) : Bool := isSet s FTU_STATUS FTU_STATUS_SYNC && getF s FTU_CTRL FTU_CTRL_SRC != 0

/-- Scheduled traffic needs a fabric time that is set and disciplined (R38). (DEDUCED, log entry 80.) -/
def unsyncCircuits (s : State) (b : List Word) : Bool := !(aCircuits b).isEmpty && !timeReady s

/-- The entry for which an admission is refused, if any. -/
def admitReject (s : State) (j : Nat) (b : List Word) : Option Nat :=
  match quotaOver s b with
  | some d => some d
  | none => match firstBad (aRanks b) (rankBad s) with
    | some i => some i
    | none => match firstBad (aCircuits b) (circuitBad s j b) with
      | some i => some i
      | none => if sliceMissing s b || unsyncCircuits s b then some 0 else none

/-- First and last byte of the CSR range (Table 13.1). -/
def csrSpan : Nat × Nat := (0x400000000, 0x100000000)

/-- A region meets another job's, or the CSR range (R348). -/
def regionClash (s : State) (j base len : Nat) : Bool :=
  rangesMeet base len csrSpan.1 csrSpan.2
    || (regionsOn s).any (fun r => r.2.2.2.1 != j && rangesMeet base len r.2.1 r.2.2.1)

/-- A region needs a tier window that is absent or has left service (R359, R362). (DEDUCED, log entry 89.) -/
def windowAbsent (s : State) (base len : Nat) : Bool :=
  (List.range 4).any (fun d => [0, 1, 2].any (fun t =>
    rangesMeet base len (tierBase d t) (tierSpan t) && tierBytes s d t == 0))

/-- A region of an admission block that may not be admitted (R348, R359, R362). -/
def regionBad (s : State) (j : Nat) (e : Nat × Nat) : Bool :=
  bits e.1 48 48 == 1
    && (regionClash s j (bits e.1 47 0) (bits e.2 47 0) || windowAbsent s (bits e.1 47 0) (bits e.2 47 0))

/-! ### Table space -/

/-- Lowest base of a free range of `n` rank translation entries. -/
def freeRtt (s : State) (n : Nat) : Option Nat :=
  let used := s.jobs.map (fun x => (x.2.rttBase, x.2.rttCount))
  let cands := (0 :: used.map (fun u => u.1 + u.2)).mergeSort (fun a b => a ≤ b)
  cands.find? (fun c => decide (c + n ≤ 131072) && !(used.any (fun u => rangesMeet c n u.1 u.2)))

/-- Lowest free job entry. -/
def freeJobEntry (s : State) : Option Nat :=
  (List.range 4096).find? (fun i => !(s.jobs.any (fun x => x.2.index == i)))

/-- The lowest `n` free circuits. -/
def freeCircuits (s : State) (n : Nat) : List Nat :=
  ((List.range 4096).filter (fun i => !isSet s (HUB_CIRCUIT i) HUB_CIRCUIT_VALID
    && !(s.jobs.any (fun x => x.2.circuits.contains i)))).take n

/-- The lowest `n` free regions. -/
def freeRegions (s : State) (n : Nat) : List Nat :=
  ((List.range 1024).filter (fun i => !isSet s (MEM_REGION i) MEM_REGION_VALID
    && !(s.jobs.any (fun x => x.2.regions.contains i)))).take n

/-- Entries of 16 bytes in a table, at the given places. -/
def putEntries (at0 at1 : Nat → Nat) (s : State) (l : List (Nat × Nat × Nat)) : State :=
  l.foldl (fun s e => setKnown (setKnown s (at0 e.1) (BitVec.ofNat 64 e.2.1)) (at1 e.1) (BitVec.ofNat 64 e.2.2)) s

/-- The identities of the partners on a job's ranks are bound to them (R339, R340). -/
def bindRanks (s : State) (j : Nat) : State :=
  match job s j with
  | none => s
  | some x =>
    let ports := ((List.range x.rttCount).filterMap (fun i =>
      let o := SWC_RTT 0 (x.rttBase + i)
      if isSet s o SWC_RTT_VALID && getF s o SWC_RTT_KIND == 1 then some (getF s o SWC_RTT_PORT) else none)).eraseDups
    ports.foldl (fun s q => setPort s q { port s q with
      bound := (port s q).bound.filter (fun e => e.1 != j) ++ [(j, reg s (LNK_PORT_PEER (portBundle q) (portLane q)))] }) s

/-- The job's rank: the first rank that its translation names as this device. -/
def blockRank (b : List Word) : Nat :=
  match (aRanks b).find? (fun e => bits e.1 0 0 == 1 && bits e.1 2 1 == 0) with
  | some e => bits e.2 19 0
  | none => 0

/-- VC_EN of an admission block; on a transit device, which lies outside the block's slice and inside another job's, only the VCs
of its circuits (R288). -/
def blockVcEn (s : State) (j : Nat) (b : List Word) : Nat :=
  let v := aF b 0 31 24
  let transit := !blockInSlice s b (ownCoord s) && (jobEntries s).any (fun x => x.2 != j && inSlice s x.1 (ownCoord s))
  if transit then v &&& (aCircuits b).foldl (fun m e => m ||| bits e.1 45 38) 0 else v

/-- A job enters the tables, its domain quiesced under a new QID (R392). -/
def admitJob (s : State) (r : Nat) (e : CmdEntry) (b : List Word) (k i base : Nat) (cs rs : List Nat) : State :=
  let j := e.job
  let v := blockVcEn s j b
  let s := setQid s k 2 1 j ⟨Fin.ofNat 256 r, e.index, BitVec.ofNat 32 e.tag, [BitVec.ofNat 16 j], 0, true, 0, [], now s, []⟩
  let n := aF b 0 49 32
  let s := setKnown s (SWC_JOB 0 i) (BitVec.ofNat 64
    (1 + j * 2 + base * 2 ^ 17 + n * 2 ^ 34 + v * 2 ^ 52))
  let s := (List.range 4).foldl (fun s d => setF s (SWC_JOBQ d i) SWC_JOBQ_P3_QUOTA (aQuota b d)) s
  let s := setKnown s (HUB_RT_JOB i) (BitVec.ofNat 64 (aF b 3 47 0))
  let s := putEntries (SWC_RTT 0) (SWC_RTT_W1 0) s ((aRanks b).zipIdx.map (fun x => (base + x.2, x.1)))
  let s := putEntries HUB_CIRCUIT HUB_CIRCUIT_W1 s (cs.zip (aCircuits b))
  let s := putEntries MEM_REGION MEM_REGION_W1 s (rs.zip (aRegions b))
  let s := setJob s j
    { cq := BitVec.ofNat 8 (aF b 0 23 16), vcEn := BitVec.ofNat 8 v, index := i,
      rank := BitVec.ofNat 20 (blockRank b), rttBase := base, rttCount := n, circuits := cs, regions := rs,
      image := none, next := none, flowNext := [], cores := [], restartFt := 0, timing := [] }
  bindRanks s j

/-- JOB_ADMIT of a block that host memory gave: status, DETAIL and state. (DESIGN CHOICE, log entry 29.) -/
def tryAdmitJob (s : State) (r : Nat) (e : CmdEntry) (b : List Word) : Nat × Nat × State :=
  let j := e.job
  if !blockOk b (wordAt e.words 3).toNat j then (0x01, 0, s)
  else if (job s j).isSome then (0x06, 0, s)
  else match admitReject s j b with
    | some d => (0x0C, d, s)
    | none =>
      match firstBad (aRegions b) (regionBad s j) with
      | some _ => (0x0B, 0, s)
      | none =>
        let cs := freeCircuits s (aF b 2 15 0)
        let rs := freeRegions s (aF b 2 31 16)
        match freeQid s, freeJobEntry s, freeRtt s (aF b 0 49 32) with
        | some k, some i, some base =>
          if cs.length = aF b 2 15 0 ∧ rs.length = aF b 2 31 16 then (0, k, admitJob s r e b k i base cs rs) else (0x05, 0, s)
        | _, _, _ => (0x05, 0, s)

/-- JOB_ADMIT. -/
def runJobAdmit (s : State) (r : Nat) (e : CmdEntry) (block : Option (List Word)) : State :=
  if !e.headOk || !e.bodyOk (fun i => if i = 2 ∨ i = 3 then BitVec.allOnes 64 else 0) then serialDone s r e 0x01 0
  else match block with
    | none => serialDone s r e 0x02 0
    | some b =>
      let (st, d, s) := tryAdmitJob s r e b
      serialDone s r e st d

def execJobAdmit (r : RingId) (block : Option (List Word)) (s : State) : Host.Outcome State Fault Refusal :=
  .next (dispatch s r 3 (fun s e => runJobAdmit s r e block))

/-! ### JOB_END (R308, R392) -/

/-- Jobs whose image in force or loaded holds a gate list of a port. -/
def listJobs (s : State) (q : Nat) : List Nat :=
  ((everyImage s).filter (fun e => e.2.gates.any (fun g => g.port.toNat == q))).map Prod.fst

/-- The schedule alarm that drives the lists led by a port. -/
def gateAlarm (s : State) (q : Nat) : Option Nat :=
  (s.ftu.owner.find? (fun e => getF s (FTU_ALARM_CTRL e.1) FTU_ALARM_CTRL_ACTION == 1
    && getF s (FTU_ALARM_CTRL e.1) FTU_ALARM_CTRL_TARGET_INDEX == q)).map Prod.fst

/-- A port returns to the default list. -/
def defaultList (s : State) (q : Nat) : State :=
  clearRange s (TSC_GATE_CTRL q) (TSC_GATE_CTRL q + 16)

/-- A port whose list no other job holds returns to the default list (R308). -/
def endList (j : Nat) (s : State) (q : Nat) : State :=
  if (listJobs s q).contains j && (listJobs s q).all (· == j) then defaultList s q else s

/-- An alarm of a job that ends goes to a job that still holds the list it drives, or is free. -/
def endAlarm (j : Nat) (s : State) (n : Nat) : State :=
  let q := getF s (FTU_ALARM_CTRL n) FTU_ALARM_CTRL_TARGET_INDEX
  let heirs := if getF s (FTU_ALARM_CTRL n) FTU_ALARM_CTRL_ACTION = 1 then
      (followers s q).flatMap (fun p => (listJobs s p).filter (· != j)) else []
  match heirs with
  | h :: _ => { s with ftu := { s.ftu with owner := mapPut s.ftu.owner n (BitVec.ofNat 16 h) } }
  | [] => clearRange (freeAlarm s n) (FTU_ALARM_TARGET n) (FTU_ALARM_TARGET n + 16)

/-- The job's groups, conflict sets, launches and FLOW images are gone (R373). -/
def endCollectives (s : State) (j : Nat) : State :=
  let s := (s.coll.launches.filter (fun x => x.job == j)).foldl (fun s x => endLaunch s x.no 0x0B true) s
  let sets := s.coll.csets.filter (fun c => c.job == j)
  let s := { s with coll := { s.coll with
    groups := s.coll.groups.filter (fun g => g.job != j), csets := s.coll.csets.filter (fun c => c.job != j),
    done := s.coll.done.filter (fun d => d.job != j), flow := s.coll.flow.filter (fun e => e.2.job != j) } }
  sets.foldl (fun s c => setReg s (RED_CSET_NEXT 0 c.slot) 0) s

/-- Table, circuit and region entries of a job are empty. -/
def endTables (s : State) (x : Job) : State :=
  let s := clearRange s (SWC_JOB 0 x.index) (SWC_JOB 0 x.index + 16)
  let s := (List.range 4).foldl (fun s d => clearRange s (SWC_JOBQ d x.index) (SWC_JOBQ d x.index + 8)) s
  let s := clearRange s (HUB_RT_JOB x.index) (HUB_RT_JOB x.index + 8)
  let s := clearRange s (SWC_RTT 0 x.rttBase) (SWC_RTT 0 (x.rttBase + x.rttCount))
  let s := x.circuits.foldl (fun s i => clearRange s (HUB_CIRCUIT i) (HUB_CIRCUIT i + 16)) s
  x.regions.foldl (fun s i => clearRange s (MEM_REGION i) (MEM_REGION i + 16)) s

/-- The job leaves every QID: its own is free, and a gate-list set no longer counts it. -/
def endQids (s : State) (j : Nat) : State :=
  s.qids.foldl (fun s e =>
    if e.2.jobs.any (fun y => y.toNat == j) then
      if getF s (PUP_QER e.1) PUP_QER_KIND = 1 then clearQid s e.1
      else { s with qids := mapPut s.qids e.1 { e.2 with jobs := e.2.jobs.filter (fun y => y.toNat != j) } }
    else s) s

/-- The job's objects are unbound and zero, as after a warm reset (R155); its slots and cores are free. -/
def endPlacement (s : State) (j : Nat) : State :=
  let dead := (s.slots.map Prod.fst).filter (fun k => slotJob s k == j)
  let s := (coresOfJob s j).foldl (fun s n => setCore s n { core s n with job := 0, dueEntries := [] }) s
  { s with objs := s.objs.filter (fun e => e.2.job.toNat != j),
           slots := s.slots.filter (fun e => !dead.contains e.1), slotQ := s.slotQ.filter (fun e => !dead.contains e.1),
           net := { s.net with ports := s.net.ports.map (fun e => (e.1, { e.2 with bound := e.2.bound.filter (fun b => b.1 != j) })) } }

/-- A job releases all that it holds. -/
def releaseJob (s : State) (j : Nat) (x : Job) : State :=
  let ports := ((heldImages s j).flatMap (fun i => i.gates.map (fun g => g.port.toNat))).eraseDups
  let s := endCollectives s j
  let s := ports.foldl (endList j) s
  let s := (alarmsOfJob s j).foldl (endAlarm j) s
  let s := endQids (endPlacement (endTables s x) j) j
  { s with jobs := mapErase s.jobs j }

/-- JOB_END: only for a job whose domain is quiesced; its completion goes to the job's ring (R394).
(DESIGN CHOICE, log entry 31.) -/
def runJobEnd (s : State) (r : Nat) (e : CmdEntry) : State :=
  if !e.headOk || !e.bodyOk (fun _ => 0) then serialDone s r e 0x01 0
  else match job s e.job with
    | none => serialDone s r e 0x04 0
    | some x =>
      let done (s : State) (st : Nat) : State :=
        complete s x.cq.toNat (cmdCpl r e.index.toNat e.tag (BitVec.ofNat 16 e.job) st 0 true)
      if jobQuiesced s e.job then evalAll (done (releaseJob s e.job x) 0) else done s 0x07

def execJobEnd (r : RingId) (s : State) : Host.Outcome State Fault Refusal :=
  .next (dispatch s r 4 (fun s e => runJobEnd s r e))

end Sys2Proof.Machine
end

