-- ==== Sys2Proof/Machine/Quiesce.lean ====
section
/-! DEFINITION. Quiesce, edit and restart (R397–R401): domains and their registers, the drain, the checks of a RESTART
and what takes effect at its FT. -/
namespace Sys2Proof.Machine

/-! ### Domains (Table 15.8, Table 15.9) -/

/-- Port bitmap of a QUIESCE entry: words 4 to 19. -/
def entryMap (e : CmdEntry) : BitVec 1024 :=
  BitVec.ofNat 1024 (ofBytes (wordsToBytes ((List.range 16).map (fun i => wordAt e.words (4 + i)))))

/-- Whether a port lies in a bitmap. -/
def inMap (m : BitVec 1024) (q : Nat) : Bool := m.getLsbD q
/-- Whether a bitmap has a port on a die. -/
def mapOnDie (m : BitVec 1024) (d : Nat) : Bool := (List.range 1024).any (fun q => inMap m q && portDie q == d)

/-- KIND and ID of a QID. -/
def qidKind (s : State) (k : Nat) : Nat := getF s (PUP_QER k) PUP_QER_KIND
/-- ID of a QID. -/
def qidId (s : State) (k : Nat) : Nat := getF s (PUP_QER k) PUP_QER_ID

/-- A register of a port group: the bundle's and its ports' link registers, shapers, policers and throttle, and the
bundle's quotas. -/
def inPortGroup (b off : Nat) : Bool :=
  if 0x1000000 ≤ off ∧ off < 0x1200000 then decide ((off - 0x1000000) / 0x10000 = b)
  else if 0x3000000 ≤ off ∧ off < 0x3400000 then
    decide ((off - 0x3000000) / 0x1000 / 32 = b) && (off % 0x1000 == 0x028 || (0x040 ≤ off % 0x1000 && off % 0x1000 < 0x0C0))
  else if 0x2000000 ≤ off ∧ off < 0x3000000 then
    let o := (off - 0x2000000) % 0x400000
    decide ((off - 0x2000000) / 0x400000 = b % 4) && 0x1000 ≤ o && o < 0x1000 + 0x20 * 8 && (o - 0x1000) / 0x20 == b / 4
  else false

/-- A quota register of a requester on a die. -/
def isQuota (d r off : Nat) : Bool :=
  decide (SWC_QUOTA d r 0 ≤ off) && decide (off < SWC_QUOTA d r 0 + 0x18)

/-- A register of an entry that a job holds: its schedule alarms, table entries, circuits and regions. -/
def inJob (s : State) (j off : Nat) : Bool :=
  match job s j with
  | none => false
  | some x =>
    if 0x101000 ≤ off ∧ off < 0x101000 + 960 * 16 then mapGet (fun _ => (0 : BitVec 16)) s.ftu.owner ((off - 0x101000) / 16) == BitVec.ofNat 16 j
    else if 0x2010000 ≤ off ∧ off < 0x3000000 then
      let o := (off - 0x2000000) % 0x400000
      if 0x10000 ≤ o ∧ o < 0x20000 then (o - 0x10000) / 16 == x.index
      else decide (0x200000 + 16 * x.rttBase ≤ o) && decide (o < 0x200000 + 16 * (x.rttBase + x.rttCount))
    else if 0x50000 ≤ off ∧ off < 0x58000 then (off - 0x50000) / 8 == x.index
    else if 0x60000 ≤ off ∧ off < 0x70000 then x.circuits.contains ((off - 0x60000) / 16)
    else if 0x7001000 ≤ off ∧ off < 0x7005000 then x.regions.contains ((off - 0x7001000) / 16)
    else false

/-- A register of an engine, of a cluster, or of a gate-list set. -/
def inEngine (e off : Nat) : Bool := off == RED_CTRL e || isQuota (e / 4) (8 + e % 4) off
def inCluster (c off : Nat) : Bool :=
  off == CLU_SWAP c || (List.range 5).any (fun j =>
    let n := 5 * c + j
    off == CORE_CTRL n || isQuota (n / 20) (12 + n % 20) off)
def inGateSet (m : BitVec 1024) (off : Nat) : Bool :=
  if 0x3000000 ≤ off ∧ off < 0x3400000 then
    inMap m ((off - 0x3000000) / 0x1000) && (off % 0x1000 == 0x008 || off % 0x1000 == 0x010)
  else if 0x3400000 ≤ off ∧ off < 0x3600000 then mapOnDie m ((off - 0x3400000) / 0x80000)
  else false

/-- A register belongs to the domain of a QID (Table 15.9). -/
def inDomain (s : State) (k off : Nat) : Bool :=
  match mapFind s.qids k with
  | none => false
  | some q =>
    match qidKind s k with
    | 0 => inPortGroup (qidId s k) off
    | 2 => inEngine (qidId s k) off
    | 3 => inCluster (qidId s k) off
    | 4 => inGateSet q.portMap off || q.jobs.any (fun j => inJob s j.toNat off)
    | _ => q.jobs.any (fun j => inJob s j.toNat off)

/-- A register's domain is quiesced: RWQ writes of it are accepted (R398). -/
def editable (s : State) (off : Nat) : Bool := s.qids.any (fun e => qidState s e.1 == 2 && inDomain s e.1 off)

/-! ### QUIESCE (R397, R309) -/

/-- KIND and ID of a QUIESCE entry. -/
def CmdEntry.kind (e : CmdEntry) : Nat := bits (wordAt e.words 2).toNat 2 0
def CmdEntry.ident (e : CmdEntry) : Nat := bits (wordAt e.words 2).toNat 31 16

/-- Form of a QUIESCE: reserved bits, the KIND, its ID, and the header's JOB_ID. -/
def quiesceOk (e : CmdEntry) : Bool :=
  e.headOk && e.bodyOk (fun i => if i = 2 then 0xFFFF0007 else if 4 ≤ i ∧ i < 20 ∧ e.kind = 4 then BitVec.allOnes 64 else 0)
    && (match e.kind with
      | 0 => decide (e.ident < 32)
      | 1 => e.job == 0 || e.job == e.ident
      | 2 => decide (e.ident < 16)
      | 3 => decide (e.ident < 16)
      | 4 => true
      | _ => false)

/-- Jobs whose circuits name a port of a set. -/
def jobsOfSet (s : State) (m : BitVec 1024) : List Nat :=
  ((s.csr.filterMap (fun e =>
    if 0x60000 ≤ e.1 ∧ e.1 < 0x70000 ∧ (e.1 - 0x60000) % 16 = 0 ∧ isSet s e.1 HUB_CIRCUIT_VALID = true
        ∧ (inMap m (getF s e.1 HUB_CIRCUIT_OUT_PORT) || (getF s e.1 HUB_CIRCUIT_IN_PORT != 0x3FF && inMap m (getF s e.1 HUB_CIRCUIT_IN_PORT))) = true
    then some (getF s e.1 HUB_CIRCUIT_JOB_ID) else none)).eraseDups).filter (fun j => (job s j).isSome)

/-- Jobs that a QUIESCE drains. -/
def quiesceJobs (s : State) (e : CmdEntry) : List Nat :=
  if e.kind = 1 then [e.ident] else if e.kind = 4 then jobsOfSet s (entryMap e) else []

/-- The domain, or a register of it, lies in another QID; or its die has a gate-list set already. -/
def quiesceBusy (s : State) (e : CmdEntry) : Bool :=
  (quiesceJobs s e).any (jobQuiet s) || s.qids.any (fun q => qidState s q.1 != 0 && qidKind s q.1 == e.kind &&
    (if e.kind = 4 then (List.range 4).any (fun d => mapOnDie q.2.portMap d && mapOnDie (entryMap e) d)
     else qidId s q.1 == e.ident))

/-- The domain begins to drain: the jobs' alarms stop. -/
def beginDrain (s : State) (r : Nat) (e : CmdEntry) (k : Nat) : State :=
  let js := quiesceJobs s e
  let on := (js.flatMap (alarmsOfJob s)).filter (fun n => isSet s (FTU_ALARM_CTRL n) FTU_ALARM_CTRL_EN)
  let q : Qid := ⟨Fin.ofNat 256 r, e.index, BitVec.ofNat 32 e.tag, js.map (BitVec.ofNat 16),
                  if e.kind = 4 then entryMap e else 0, false, 0, [], now s, on⟩
  let s := setQid s k (if e.kind = 0 then 2 else 1) e.kind (if e.kind = 4 then 0 else e.ident) q
  stopAlarms s on

/-- QUIESCE: a port group is quiesced at once; every other domain drains, and holds the ring. (DESIGN CHOICE, log entry 32.) -/
def runQuiesce (s : State) (r : Nat) (e : CmdEntry) : State :=
  if !quiesceOk e then serialDone s r e 0x01 0
  else if e.kind = 1 ∧ (job s e.ident).isNone = true then serialDone s r e 0x04 0
  else if quiesceBusy s e then serialDone s r e 0x06 0
  else match freeQid s with
    | none => serialDone s r e 0x05 0
    | some k =>
      let s := beginDrain s r e k
      if e.kind = 0 then serialDone s r e 0 k else setCring s r { cring s r with serial := true }

def execQuiesce (r : RingId) (s : State) : Host.Outcome State Fault Refusal := .next (dispatch s r 0x0A (fun s e => runQuiesce s r e))

/-- Nothing of a domain runs any more (Table 15.8). -/
def drained (s : State) (k : Nat) (q : Qid) : Bool :=
  q.jobs.all (fun j =>
      (coresOfJob s j.toNat).all (fun n => !(core s n).running)
        && !(s.coll.launches.any (fun x => x.job == j.toNat && x.stage == 2)))
    && (match qidKind s k with
      | 2 => !(s.coll.launches.any (fun x => x.stage == 2 && (servers s x).contains (qidId s k)))
      | 3 => (List.range 5).all (fun j => !(core s (5 * qidId s k + j)).running)
      | _ => true)

/-- The completion of a command that held its ring. -/
def ringDone (s : State) (q : Qid) (status detail : Nat) : State :=
  let s := setCring s q.ring { cring s q.ring with serial := false }
  let j : BitVec 16 := match q.jobs with | [j] => j | _ => 0
  complete s (cqOf s q.ring) (cmdCpl q.ring q.index.toNat q.tag.toNat j status detail true)

/-- QUIESCED: the domain has drained. -/
def execQuiesced (qid : Fin 64) (s : State) : Host.Outcome State Fault Refusal :=
  .next (ifRunning s (match mapFind s.qids qid with
    | none => s
    | some q =>
      if qidState s qid = 1 ∧ drained s qid q = true then ringDone (setF s (PUP_QER qid) PUP_QER_STATE 2) q 0 qid else s))

/-- PUP_QER_TIMEOUT, ns. -/
def drainLimit (s : State) : Nat := max 1 (getF s PUP_QER_TIMEOUT PUP_QER_TIMEOUT_MS) * 1000000

/-- Work that a drain held back goes on: entries that wait, and launches. -/
def resumeJob (s : State) (j : Nat) : State :=
  let s := (coresOfJob s j).foldl nextDue s
  (s.coll.csets.filter (fun c => c.job == j)).foldl considerNext s

/-- The domain returns to running. -/
def endDrain (s : State) (k : Nat) (q : Qid) : State :=
  let kind := qidKind s k
  let id := qidId s k
  let s := setF s PUP_STATUS PUP_STATUS_TIMEOUT_EVENT 1
  let s := q.stopped.foldl (fun s n => setF s (FTU_ALARM_CTRL n) FTU_ALARM_CTRL_EN 1) s
  let s := clearQid s k
  let s := q.jobs.foldl (fun s j => resumeJob s j.toNat) s
  let s := if kind = 3 then (List.range 5).foldl (fun s j => nextDue s (5 * id + j)) s else s
  evalAll s

/-- DRAIN_TIMEOUT (R397). -/
def execDrainTimeout (qid : Fin 64) (s : State) : Host.Outcome State Fault Refusal :=
  .next (ifRunning s (match mapFind s.qids qid with
    | none => s
    | some q =>
      if qidState s qid = 1 ∧ drained s qid q = false then
        let s := advanceTo s (q.since + BitVec.ofNat 64 (drainLimit s))
        ringDone (endDrain s qid q) q 0x08 qid
      else s))

/-! ### RESTART: form and checks (R399) -/

/-- QIDs of a RESTART entry. -/
def CmdEntry.qids (e : CmdEntry) : List Nat :=
  (List.range (bits (wordAt e.words 3).toNat 4 0)).map (fun i => bits (wordAt e.words (4 + i / 8)).toNat (8 * (i % 8) + 7) (8 * (i % 8)))

/-- Form of a RESTART: 1 to 16 QIDs, each once, and every other bit 0. -/
def restartOk (e : CmdEntry) : Bool :=
  let n := bits (wordAt e.words 3).toNat 4 0
  e.headOk && e.bodyOk (fun i => if i = 2 ∨ i = 4 ∨ i = 5 then BitVec.allOnes 64 else if i = 3 then 0x1F else 0)
    && 1 ≤ n && n ≤ 16 && e.qids.all (fun k => decide (k < 64)) && e.qids.eraseDups.length == n
    && (List.range 16).all (fun i => decide (i < n) || bits (wordAt e.words (4 + i / 8)).toNat (8 * (i % 8) + 7) (8 * (i % 8)) == 0)

/-- A register's value once its edit, if any, is in force. -/
def edited (s : State) (off : Nat) : Word :=
  match editOf s off with | some e => mergeRwq off (reg s off) e | none => reg s off
/-- A field of it. -/
def editedF (s : State) (off : Nat) (f : Fld) : Nat := fget f (edited s off)

/-- The value that a field will have at a RESTART of some QIDs: edited where the register's domain is named. -/
def willF (s : State) (ks : List Nat) (off : Nat) (f : Fld) : Nat :=
  if ks.any (fun k => inDomain s k off) then editedF s off f else getF s off f

/-- Entry `i` of a die's gate memory as edited. -/
def gmemEdited (s : State) (d i : Nat) : Nat × Nat :=
  let w := (edited s (TSC_GMEM d (i / 2))).toNat >>> (32 * (i % 2))
  (bits w 7 0, bits w 31 8)

/-- The edited list of a port. -/
def editedList (s : State) (q : Nat) : List (Nat × Nat) :=
  (List.range (editedF s (TSC_GATE_CTRL q) TSC_GATE_CTRL_LEN)).map
    (fun i => gmemEdited s (portDie q) (editedF s (TSC_GATE_CTRL q) TSC_GATE_CTRL_BASE + i))

/-- R303 for the edited list of a port of a set, at the width that the RESTART gives it; its leader keeps the same time. -/
def editedListOk (s : State) (ks : List Nat) (q : Nat) : Bool :=
  let c := editedF s (TSC_GATE_TIME q) TSC_GATE_TIME_CYCLE
  let f := editedF s (TSC_GATE_TIME q) TSC_GATE_TIME_PHASE
  let l := editedF s (TSC_GATE_CTRL q) TSC_GATE_CTRL_LEADER
  let lanes := 2 ^ willF s ks (pCtrl q) LNK_PORT_CTRL_WIDTH
  editedF s (TSC_GATE_CTRL q) TSC_GATE_CTRL_LEN == 0 ||
    (listOk s q lanes c f (editedF s (TSC_GATE_CTRL q) TSC_GATE_CTRL_BASE) (editedList s q)
      && (l == q || (willF s ks (TSC_GATE_TIME l) TSC_GATE_TIME_CYCLE == c && willF s ks (TSC_GATE_TIME l) TSC_GATE_TIME_PHASE == f)))

/-- Gate-memory entries of a die that an edit changes. -/
def changedEntries (s : State) (d : Nat) : List Nat :=
  s.edits.flatMap (fun e =>
    if TSC_GMEM d 0 ≤ e.1 ∧ e.1 < TSC_GMEM d 65536 then
      let i := 2 * ((e.1 - TSC_GMEM d 0) / 8)
      [i, i + 1].filter (fun i => gmem s d i != gmemEdited s d i)
    else [])

/-- An entry that the set edits is used by the list in force on a port outside it (R309). -/
def editsOutside (s : State) (m : BitVec 1024) : Bool :=
  (List.range 4).any (fun d =>
    let ch := changedEntries s d
    mapOnDie m d && !ch.isEmpty && (List.range 1024).any (fun q =>
      portDie q == d && !inMap m q && gateLen s q != 0
        && ch.any (fun i => decide (getF s (TSC_GATE_CTRL q) TSC_GATE_CTRL_BASE ≤ i)
            && decide (i < getF s (TSC_GATE_CTRL q) TSC_GATE_CTRL_BASE + gateLen s q))))

/-- The checks of R309 and R310 for one QID. -/
def gateRejects (s : State) (ks : List Nat) (k : Nat) : Bool :=
  match qidKind s k with
  | 4 => match mapFind s.qids k with
    | none => false
    | some q => (List.range 1024).any (fun p => inMap q.portMap p && !editedListOk s ks p) || editsOutside s q.portMap
  | 0 => (portsOf s (qidId s k)).any (fun q => (List.range 8).any (fun v =>
      editedF s (TSC_SHAPER q v) TSC_SHAPER_EN == 1 && editedF s (TSC_SHAPER q v) TSC_SHAPER_BURST < 2112))
  | _ => false

/-- Regions as a RESTART leaves them: index, base, length, job. -/
def regionsWill (s : State) (ks : List Nat) : List (Nat × Nat × Nat × Nat) :=
  (List.range 1024).filterMap (fun i =>
    if willF s ks (MEM_REGION i) MEM_REGION_VALID = 1 then
      some (i, willF s ks (MEM_REGION i) MEM_REGION_BASE, willF s ks (MEM_REGION_W1 i) MEM_REGION_W1_LENGTH,
        willF s ks (MEM_REGION_W1 i) MEM_REGION_W1_JOB_ID)
    else none)

/-- Regions of different jobs would overlap, or one of a job would overlap the CSR range (R348). -/
def regionRejects (s : State) (ks : List Nat) : Bool :=
  let l := regionsWill s ks
  l.any (fun r => r.2.2.2 != 0xFFFF &&
    (rangesMeet r.2.1 r.2.2.1 csrSpan.1 csrSpan.2
      || l.any (fun t => t.2.2.2 != r.2.2.2 && rangesMeet r.2.1 r.2.2.1 t.2.1 t.2.2.1)))

/-- Dedicated buffers of a die: 16 per active fabric port and 16 per incoming pair link (R255). -/
def dedicated (s : State) (d : Nat) : Nat :=
  48 + 16 * (s.net.ports.filter (fun e => portDie e.1 == d && portUp s e.1 && !portEth s e.1)).length

/-- The minima of a pool would exceed its buffers (R263). -/
def quotaRejects (s : State) (ks : List Nat) (d : Nat) : Bool :=
  [0, 1, 2].any (fun p =>
    decide (poolSize p - (if p = 2 then dedicated s d else 0)
      < ((List.range 37).map (fun r => willF s ks (SWC_QUOTA d r p) SWC_QUOTA_MIN)).sum))

/-- Drop the edits of registers that satisfy a test. -/
def dropEdits (s : State) (p : Nat → Bool) : State := { s with edits := s.edits.filter (fun e => !p e.1) }

/-- A dropped write is counted and shown (R398). -/
def dropWrite (s : State) (src off : Nat) : State :=
  let s := bump s PUP_QER_DROP PUP_QER_DROP_COUNT 1
  let s := setF (setF s PUP_QER_DROP PUP_QER_DROP_OFFSET off) PUP_QER_DROP PUP_QER_DROP_SOURCE src
  setF s PUP_STATUS PUP_STATUS_DROP_EVENT 1

/-- An SWC_QUOTA register of a die, in the domain of a RESTART's QIDs. -/
def quotaEdit (s : State) (ks : List Nat) (d off : Nat) : Bool :=
  decide (SWC_QUOTA d 0 0 ≤ off) && decide (off < SWC_QUOTA d 37 0) && ks.any (fun k => inDomain s k off)

/-- A die discards the SWC_QUOTA edits of a RESTART, and the rejection stands in the log of writes without effect, under the
first of them (R263). (DEDUCED, log entry 88.) -/
def rejectQuotas (ks : List Nat) (d : Nat) (s : State) : State :=
  let l := s.edits.filter (fun e => quotaEdit s ks d e.1)
  let s := setF (dropEdits s (quotaEdit s ks d)) (SWC_STATUS d) SWC_STATUS_QUOTA_REJECT 1
  match l with
  | e :: _ => dropWrite s 2 e.1
  | [] => s

/-- R263 on every die: a die that fails loses the SWC_QUOTA edits of the RESTART. -/
def checkQuotas (ks : List Nat) (s : State) : State :=
  (List.range 4).foldl (fun s d => if quotaRejects s ks d then rejectQuotas ks d s else s) s

/-- Lowest lanes of a bundle under edited widths, from lane `l` on; none where a port is not aligned (R318, R319). -/
def editedLanes (s : State) (b : Nat) : Nat → Nat → Option (List Nat)
  | 0, _ => some []
  | k + 1, l =>
    if 32 ≤ l then some []
    else
      let w := 2 ^ editedF s (pCtrl (32 * b + l)) LNK_PORT_CTRL_WIDTH
      if l % w = 0 then (editedLanes s b k (l + w)).map (fun r => (32 * b + l) :: r) else none

/-- Entries of a gate list that stands in gate-memory words; an upper half of 0 at the end is no entry. -/
def listEntries (ws : List Word) : List (Nat × Nat) :=
  let l := ws.flatMap (fun v => [(bits v.toNat 7 0, bits v.toNat 31 8), (bits v.toNat 39 32, bits v.toNat 63 40)])
  if l.getLast? = some (0, 0) then l.dropLast else l

/-- Jobs of a list of QIDs. -/
def groupJobs (s : State) (ks : List Nat) : List Nat :=
  (ks.flatMap (fun k => match mapFind s.qids k with | some q => q.jobs.map BitVec.toNat | none => [])).eraseDups

/-- R319 for a bundle at a RESTART of some jobs: alignment, overlap, and at a changed width the gate lists in force and those
of the jobs, which take effect at that RESTART. -/
def widthsOk (s : State) (js : List Nat) (b : Nat) : Bool :=
  match editedLanes s b 32 0 with
  | none => false
  | some l =>
    (List.range 32).all (fun i => editedF s (pCtrl (32 * b + i)) LNK_PORT_CTRL_EN == 0 || l.contains (32 * b + i))
      && l.all (fun q =>
        let w := editedF s (pCtrl q) LNK_PORT_CTRL_WIDTH
        w == getF s (pCtrl q) LNK_PORT_CTRL_WIDTH ||
          (listOk s q (2 ^ w) (gateCycle s q) (gatePhase s q) (getF s (TSC_GATE_CTRL q) TSC_GATE_CTRL_BASE) (gateEntries s q)
            && js.all (fun j => match (job s j).bind (fun x => x.next) with
                | some i => i.gates.all (fun g => g.port.toNat != q ||
                    listOk s q (2 ^ w) g.cycle.toNat g.phase.toNat g.base.toNat (listEntries g.words))
                | none => true)))

/-- R319 on every named port group: where a bundle fails, every LNK_PORT_CTRL edit of the RESTART is discarded. -/
def checkWidths (ks : List Nat) (s : State) : State :=
  let groups := (ks.filter (fun k => qidKind s k == 0)).map (qidId s)
  let bad := groups.filter (fun b => !widthsOk s (groupJobs s ks) b)
  if bad.isEmpty then s
  else
    let s := dropEdits s (fun off => groups.any (fun b => (List.range 32).any (fun l => off == LNK_PORT_CTRL b l)))
    bad.foldl (fun s b => event s (LNK_BUNDLE_STATUS b) LNK_BUNDLE_STATUS_CTRL_REJECT 4) s

/-- The QIDs stand in RESTARTING until the RESTART FT. -/
def beginRestart (s : State) (r : Nat) (e : CmdEntry) (t : Word) : State :=
  let s := checkWidths e.qids (checkQuotas e.qids s)
  let s := e.qids.foldl (fun s k => match mapFind s.qids k with
    | none => s
    | some q =>
      let q := { q with ring := Fin.ofNat 256 r, index := e.index, tag := BitVec.ofNat 32 e.tag, restartFt := t, group := e.qids }
      { setF s (PUP_QER k) PUP_QER_STATE 3 with qids := mapPut s.qids k q }) s
  evalAll (setCring s r { cring s r with serial := true })

/-- RESTART (R399). (DESIGN CHOICE, log entry 33.) -/
def runRestart (s : State) (r : Nat) (e : CmdEntry) : State :=
  let t := wordAt e.words 2
  if !restartOk e then serialDone s r e 0x01 0
  else if e.qids.any (fun k => qidState s k != 2) then serialDone s r e 0x07 0
  else if t.toNat < (now s).toNat + 20000 then serialDone s r e 0x09 0
  else if e.qids.any (gateRejects s e.qids) then serialDone s r e 0x0A 0
  else if regionRejects s e.qids then serialDone s r e 0x0B 0
  else beginRestart s r e t

def execRestart (r : RingId) (s : State) : Host.Outcome State Fault Refusal := .next (dispatch s r 0x0B (fun s e => runRestart s r e))

/-! ### The RESTART FT (R400) -/

/-- Timing-source counter of a register offset (Table 14.2). -/
def timingField (off : Nat) : Option Fld :=
  if off = HUB_CNT_FENCE_HOLD then some HUB_CNT_FENCE_HOLD_COUNT
  else if 0x100100 ≤ off ∧ off < 0x100140 then some FTU_SLIP_COUNT
  else if 0x1000000 ≤ off ∧ off < 0x1200000 ∧ 0x1000 ≤ off % 0x10000 ∧ off % 0x10000 < 0x2000 then
    if off % 0x80 = 0x28 then some LNK_CNT_RETRY_COUNT else if off % 0x80 = 0x40 then some LNK_CNT_LCRC_COUNT else none
  else if 0x3000000 ≤ off ∧ off < 0x3400000 then
    if off % 0x1000 = 0x100 ∨ off % 0x1000 = 0x108 ∨ off % 0x1000 = 0x110 then some TSC_CNT_DEFER_COUNT else none
  else if 0x4000000 ≤ off ∧ off < 0x4100000 then
    if off % 0x10000 = 0x10 then some RED_STATUS_FENCED else if off % 0x10000 = 0x28 then some RED_RESIDUE_COUNT else none
  else if 0x5000000 ≤ off ∧ off < 0x5500000 then
    if off % 0x10000 = 0x100 ∨ off % 0x10000 = 0x108 then some CORE_IDLE_COUNT else none
  else if 0x6000000 ≤ off ∧ off < 0x6100000 then if off % 0x10000 = 0x20 then some CLU_CNT_SWAP_COUNT else none
  else if 0x7000080 ≤ off ∧ off < 0x70000A0 then some MEM_CNT_REREAD_COUNT
  else none

/-- The counters of the timing sources that are not 0: steps run again, registers by offset, and the expulsions of each group
(R370). -/
def timingCounts (s : State) : List (Nat × Nat) :=
  let regs := s.csr.filterMap (fun e => (timingField e.1).map (fun f => (e.1, fget f e.2)))
  let groups := s.coll.groups.map (fun g => (2 ^ 32 + g.gid, g.expelled.toNat))
  ((0, s.sec.reruns) :: (regs ++ groups)).filter (fun e => e.2 != 0)

/-- Edits of the registers that satisfy a test take effect. -/
def applyEdits (s : State) (p : Nat → Bool) : State :=
  let s' := s.edits.foldl (fun t e => match e.2 with
    | some v => if p e.1 then setReg t e.1 (mergeRwq e.1 (reg t e.1) v) else t
    | none => t) s
  dropEdits s' p

/-- First FT at or after `t` that is PHASE modulo CYCLE. -/
def cycleFrom (cycle phase t : Nat) : Nat := t + (cycle + phase % cycle - t % cycle) % cycle

/-- The lowest schedule alarm that no domain holds. -/
def freeSchedAlarm (s : State) : Option Nat := (List.range 960).find? (fun n => (mapFind s.ftu.owner n).isNone)

/-- The GATE_CYCLE alarm of a port that leads lists keeps its list's time from an FT on. -/
def armGate (s : State) (q : Nat) (t : Nat) : State :=
  if gateLen s q = 0 ∨ gateCycle s q = 0 ∨ getF s (TSC_GATE_CTRL q) TSC_GATE_CTRL_LEADER ≠ q then
    (match gateAlarm s q with
    | some n => if (followers s q).isEmpty then freeAlarm s n else s
    | none => s)
  else
    let target := cycleFrom (gateCycle s q) (gatePhase s q) t
    match gateAlarm s q with
    | some n => setAlarm s n 1 q target (gateCycle s q)
    | none => match freeSchedAlarm s with
      | some n =>
        let o := BitVec.ofNat 16 ((listJobs s q).headD 0xFFFF)
        setAlarm { s with ftu := { s.ftu with owner := mapPut s.ftu.owner n o } } n 1 q target (gateCycle s q)
      | none => s

/-- A gate list of a loaded image is installed (R307). -/
def installList (s : State) (g : GateList) : State :=
  let q := g.port.toNat
  let s := setF s (TSC_GATE_CTRL q) TSC_GATE_CTRL_BASE g.base.toNat
  let s := setF s (TSC_GATE_CTRL q) TSC_GATE_CTRL_LEN (listEntries g.words).length
  let s := setF s (TSC_GATE_CTRL q) TSC_GATE_CTRL_LEADER g.leader.toNat
  let s := setF s (TSC_GATE_TIME q) TSC_GATE_TIME_CYCLE g.cycle.toNat
  let s := setF s (TSC_GATE_TIME q) TSC_GATE_TIME_PHASE g.phase.toNat
  g.words.zipIdx.foldl (fun s w => setReg s (TSC_GMEM (portDie q) (g.base.toNat / 2 + w.2)) w.1) s

/-- FLOW images that a job has loaded serve their OP codes from its RESTART FT on, and their lists come into force (R190,
R206). -/
def takeFlows (s : State) (j : Nat) (x : Job) : State :=
  if x.flowNext.isEmpty then s
  else
    let s := setJob s j { x with flowNext := [] }
    let s := { s with coll := { s.coll with flow := x.flowNext.foldl (fun m e => mapPut m e.1 e.2) s.coll.flow } }
    ((x.flowNext.map Prod.snd).eraseDups.flatMap (fun i => i.gates)).foldl installList s

/-- The image that a job runs from the RESTART FT on, and its lists, come into force; a port whose list no schedule holds
any more returns to the default list. A job without a schedule uses none of VC0 to VC3 (R188, R251). -/
def takeImage (s : State) (j : Nat) (x : Job) : State :=
  let s := takeFlows s j x
  let x := { x with flowNext := [] }
  match x.next with
  | none => s
  | some i =>
    let old : List Nat := match x.image with | some o => o.gates.map (fun (g : GateList) => g.port.toNat) | none => []
    let s := setJob s j { x with image := some i, next := none }
    let s := if i.events.isEmpty && i.gates.isEmpty then
        setF s (SWC_JOB 0 x.index) SWC_JOB_VC_EN (getF s (SWC_JOB 0 x.index) SWC_JOB_VC_EN / 16 * 16)
      else s
    let s := old.foldl (fun s q => if (listJobs s q).isEmpty then defaultList s q else s) s
    i.gates.foldl installList s

/-- A job's alarms are armed from its schedule, relative to an FT (R188, R400). -/
def armJob (s : State) (j : Nat) (t : Nat) : State :=
  ((imageOf s j).toList ++ flowsOf s j).foldl (fun s i =>
    let s := i.events.foldl (fun s e =>
      if e.action = 1 then s else setAlarm s e.alarm e.action.toNat e.index.toNat (t + e.offset.toNat) e.period.toNat) s
    i.gates.foldl (fun s g => if g.leader = g.port then armGate s g.port.toNat t else s) s) s

/-- IMMEDIATE entries of a job begin (R193). -/
def beginImmediate (s : State) (j : Nat) (t : Word) : State :=
  match imageOf s j with
  | none => s
  | some i => i.entries.zipIdx.foldl (fun s (e : EntryDef × Nat) =>
      if e.1.kind = 0#2 then (match coreOf s e.1.lcore.toNat with | some n => entryDue s n e.2 t | none => s) else s) s

/-- Before the edits: a job's image, its entries that waited, its alarms. -/
def restartJobA (s : State) (j : Nat) (t : Word) : State :=
  match job s j with
  | none => s
  | some x => armJob (takeImage (dropDue s j) j x) j t.toNat

/-- After the edits: the identities of its ranks, its counters' reference, IMMEDIATE entries, held launches. -/
def restartJobB (s : State) (j : Nat) (t : Word) : State :=
  match job s j with
  | none => s
  | some x =>
    let s := bindRanks (setJob s j { x with restartFt := t, timing := timingCounts s }) j
    let s := latchPlan { s with pwr := { s.pwr with restarted := true } }
    resumeJob (beginImmediate s j t) j

/-- Shapers, policers and throttles of a port start (R310–R312). -/
def startBuckets (s : State) (q : Nat) : State :=
  let unit := 128000
  let full (v : Nat) : Nat := getF s (TSC_SHAPER q v) TSC_SHAPER_BURST * unit
  let sh := (List.range 8).map (fun v => if isSet s (TSC_SHAPER q v) TSC_SHAPER_EN && isSet s (TSC_SHAPER q v) TSC_SHAPER_START_FULL then full v else 0)
  let po := (List.range 8).map (fun v => ((getF s (TSC_POLICER q v) TSC_POLICER_BURST * unit : Nat) : Int))
  let s := setPort s q { port s q with shaper := sh, policer := po, throttle := List.replicate 3 ((4224 * unit : Nat) : Int), tokensAt := now s }
  let s := checkPolicers s q
  setF (setF (setF s (TSC_THROTTLE q) TSC_THROTTLE_LEVEL4 8) (TSC_THROTTLE q) TSC_THROTTLE_LEVEL6 8) (TSC_THROTTLE q) TSC_THROTTLE_LEVEL7 8

/-- What decides a port's link: its enable and width, and its bundle's class, reach and mode. -/
def linkConfig (s : State) (q : Nat) : Nat × Nat × Word :=
  (getF s (pCtrl q) LNK_PORT_CTRL_EN, getF s (pCtrl q) LNK_PORT_CTRL_WIDTH, reg s (LNK_BUNDLE_CTRL (portBundle q)) &&& 0x1F)

/-- A port of a restarted group: one whose configuration changed leaves its link and trains again, a DOWN or FAILED one
trains, a disabled one, or one that Ethernet mode bars, is DOWN (R316, R326, R341). -/
def restartPort (s0 : State) (now' : List Nat) (s : State) (q : Nat) : State :=
  let live := now'.contains q && isSet s (pCtrl q) LNK_PORT_CTRL_EN && !ethBarred s q
  let same := linkConfig s0 q == linkConfig s q
  let s := if portUp s0 q && !(live && same) then linkDown s q (if live then 1 else 0) else s
  let s := if !live then setPState s q 0 else s
  if live && (portState s q = 0 || portState s q = 6 || !same) then startTraining s q else s

/-- The lasers of an engine in fault stay off, whatever LASER_EN was written; a bundle returns to service with LASER_EN written 1
once FAULT has cleared (R322). -/
def keepDark (s : State) (b : Nat) : State :=
  if isSet s (LNK_OPT_STATUS b) LNK_OPT_STATUS_FAULT then setF s (LNK_OPT_CTRL b) LNK_OPT_CTRL_LASER_EN 0
  else if isSet s (LNK_OPT_CTRL b) LNK_OPT_CTRL_LASER_EN then { s with net := { s.net with dark := s.net.dark.filter (· != b) } }
  else s

/-- A port group restarts. -/
def restartGroup (s0 : State) (s : State) (b : Nat) : State :=
  let s := match s.sec.plan with | some p => setF s (LNK_BUNDLE_CTRL b) LNK_BUNDLE_CTRL_CLASS (planClass p b) | none => s
  let s := keepDark s b
  let ports := portsOf s b
  let s := ((portsOf s0 b ++ ports).eraseDups).foldl (restartPort s0 ports) s
  let s := ports.foldl (fun s q => if portState s q = 4 then setReg s (HUB_RT_DOWN (q / 64)) (reg s (HUB_RT_DOWN (q / 64)) &&& ~~~((1 : Word) <<< (q % 64))) else s) s
  ports.foldl startBuckets s

/-- An engine restarts: one disabled leaves service, its groups served by another (R113). With no sibling left, as R114
has it for a lost engine. (DESIGN CHOICE, log entry 77.) -/
def restartEngine (s0 : State) (s : State) (e : Nat) : State :=
  if isSet s0 (RED_CTRL e) RED_CTRL_EN && !isSet s (RED_CTRL e) RED_CTRL_EN then leaveEngine s e else s

/-- A core of a restarted cluster whose EN changed: disabled, it gives its identity to the spare, or is lost; enabled, it
is the cluster's spare (Table 5.13, R451). -/
def restartCore (s0 : State) (s : State) (n : Nat) : State :=
  let c := n / 5
  let was := isSet s0 (CORE_CTRL n) CORE_CTRL_EN
  let is := isSet s (CORE_CTRL n) CORE_CTRL_EN
  let st := getF s (CORE_STATUS n) CORE_STATUS_STATE
  if was && !is then
    if st = 1 then spareGone (coreState (setSpare s c none) n 7) c
    else if st = 2 then
      let l := logicalOf s n
      if hasSpare s c then startSwap s l else coreState (zeroCore (loseCore s n) n) n 7
    else s
  else if !was && is && st == 7 then wakeTest s n
  else s

/-- A swap that CLU_SWAP requests begins, or waits until the spare is ready; with NO_SPARE 1, REQ is ignored (Table 5.20). -/
def restartSwap (s : State) (c : Nat) : State :=
  if isSet s (CLU_SWAP c) CLU_SWAP_REQ then
    if hasSpare s c then startSwap s (4 * c + getF s (CLU_SWAP c) CLU_SWAP_LOGICAL)
    else setF s (CLU_SWAP c) CLU_SWAP_REQ 0
  else s

/-- A gate-list set restarts: its ports' alarms follow their new lists. -/
def restartSet (s : State) (m : BitVec 1024) (t : Nat) : State :=
  ((List.range 1024).filter (inMap m)).foldl (fun s q => armGate s q t) s

/-- The effects of one QID's domain once its edits are in force. -/
def restartDomain (s0 : State) (s : State) (k : Nat) (t : Word) : State :=
  let id := qidId s0 k
  match mapFind s0.qids k with
  | none => s
  | some q =>
    match qidKind s0 k with
    | 0 => restartGroup s0 s id
    | 2 => restartEngine s0 s id
    | 3 => (List.range 5).foldl (fun s j => restartCore s0 s (5 * id + j)) (restartSwap s id)
    | 4 => restartSet s q.portMap t.toNat
    | _ => s

/-- Every edit of every named domain takes effect; the domains run. -/
def takeRestart (s : State) (ks : List Nat) (t : Word) : State :=
  let js := groupJobs s ks
  let s0 := s
  let s := js.foldl (fun s j => restartJobA s j t) s
  let s := applyEdits s (fun off => ks.any (fun k => inDomain s0 k off))
  let s := ks.foldl (fun s k => restartDomain s0 s k t) s
  let s := ks.foldl clearQid s
  let s := js.foldl (fun s j => restartJobB s j t) s
  let s := (ks.filter (fun k => qidKind s0 k == 3)).foldl (fun s k => (List.range 5).foldl (fun s j => nextDue s (5 * qidId s0 k + j)) s) s
  evalAll s

/-- RESTART_FT (R400): of the RESTART that names this QID. -/
def execRestartFt (qid : Fin 64) (s : State) : Host.Outcome State Fault Refusal :=
  .next (ifRunning s (match mapFind s.qids qid with
    | none => s
    | some q =>
      if qidState s qid = 3 then ringDone (takeRestart (advanceTo s q.restartFt) q.group q.restartFt) q 0 0 else s))

end Sys2Proof.Machine
end

