-- ==== Sys2Proof/Machine/Loader.lean ====
section
/-! DEFINITION. LOAD (R185–R192, R491): the eight steps of R191 over an image, from its header to the resources it binds,
with layer slots (R164–R167) and schedule sections (R306, R307). -/
namespace Sys2Proof.Machine

/-! ### The header (Table 7.6) -/

/-- A field of an image's header. -/
def hdF (w : List Word) (i hi lo : Nat) : Nat := bits (wordAt w i).toNat hi lo

/-- Sections: first byte and bytes, in the order code, data, entries, slots, objects, schedule, signatures. -/
def sections (w : List Word) : List (Nat × Nat) :=
  [ (hdF w 10 31 0, hdF w 10 63 32), (hdF w 11 31 0, hdF w 11 63 32), (hdF w 12 31 0, 16 * hdF w 12 47 32),
    (hdF w 13 31 0, 48 * hdF w 13 38 32), (hdF w 14 31 0, 16 * hdF w 14 47 32), (hdF w 15 31 0, hdF w 15 63 32),
    (hdF w 16 31 0, hdF w 16 63 32) ]

/-- Bytes of a section. -/
def sectionBytes (w : List Word) (i : Nat) : List Byte :=
  let x := (sections w).getD i (0, 0)
  ((wordsToBytes (w.drop (x.1 / 8))).drop (x.1 % 8)).take x.2
/-- Words of a section; sections start at multiples of 64. -/
def sectionWords (w : List Word) (i : Nat) : List Word :=
  let x := (sections w).getD i (0, 0)
  (w.drop (x.1 / 8)).take ((x.2 + 7) / 8)

/-- MAGIC, IMG_VERSION, ARITH_REV, the reserved bits, and FINGERPRINT without FP_REQ. -/
def headerOk (w : List Word) : Bool :=
  hdF w 0 31 0 == 0x5445485A && hdF w 0 39 32 == 1 && hdF w 0 55 48 == 1
    && hdF w 0 47 45 == 0 && hdF w 0 63 56 == 0 && hdF w 12 63 48 == 0 && hdF w 13 63 39 == 0
    && hdF w 14 63 48 == 0 && hdF w 17 63 32 == 0 && (List.range 14).all (fun i => wordAt w (18 + i) == 0)
    && (hdF w 0 44 44 == 1 || (List.range 4).all (fun i => wordAt w (2 + i) == 0))

/-- The size limits of Table 7.6. -/
def sizesOk (w : List Word) : Bool :=
  hdF w 10 63 32 ≤ 262144 && hdF w 12 47 32 ≤ 4096 && hdF w 13 38 32 ≤ 64 && hdF w 14 47 32 ≤ 16384

/-- A section that holds something lies past the header, within the length, at a multiple of 64. -/
def sectionFits (len : Nat) (x : Nat × Nat) : Bool := x.2 == 0 || (x.1 % 64 == 0 && 256 ≤ x.1 && x.1 + x.2 ≤ len)

/-- No two sections of a list overlap. -/
def disjoint : List (Nat × Nat) → Bool
  | [] => true
  | x :: xs => xs.all (fun y => x.2 == 0 || y.2 == 0 || !rangesMeet x.1 x.2 y.1 y.2) && disjoint xs

/-- Step 1. -/
def step1 (w : List Word) (len : Nat) : Nat :=
  if len < 256 ∨ w.length < 32 ∨ headerOk w = false then 1
  else if sizesOk w = false then 0xB
  else if (sections w).all (sectionFits len) && disjoint (sections w) then 0 else 1

/-- PROFILE: 0 CORE, 1 FLOW, 2 CONTROL. -/
def profile (w : List Word) : Nat := hdF w 0 41 40

/-- The signatures of a FLOW image hold under LIBRARY keys that the firmware bundle names (R189). -/
def flowSigOk (s : State) (sig : SigCheck) : Bool :=
  sig.rsaOk && sig.slhOk && (match s.sec.bundle with | some b => !b.libraryKeys.isEmpty | none => false)

/-- Step 2 (R176, R189). -/
def step2 (s : State) (w : List Word) (sig : SigCheck) : Nat :=
  match profile w with
  | 0 => 0
  | 1 => if hdF w 16 63 32 = 0 then 2 else if flowSigOk s sig then 0 else 3
  | _ => 2

/-- Step 3. -/
def step3 (s : State) (w : List Word) : Nat :=
  if hdF w 0 44 44 = 1 ∧ (List.range 4).all (fun i => wordAt w (2 + i) == digestWord s.sec.fp i) = false then 4 else 0

/-! ### The tables (Table 7.7, Table 7.8, Table 11.3) -/

/-- An entry-table entry by its two words. -/
def entryDef (a b : Nat) : EntryDef :=
  { lcore := BitVec.ofNat 8 (bits a 7 0), kind := BitVec.ofNat 2 (bits a 9 8), retry := bit a 10, report := bit a 11,
    slot := BitVec.ofNat 6 (bits a 17 12), pc := BitVec.ofNat 32 (bits a 63 32), schedRef := BitVec.ofNat 32 (bits b 31 0) }

/-- Pairs of words of a table. -/
def pairs : List Word → List (Nat × Nat)
  | a :: b :: l => (a.toNat, b.toNat) :: pairs l
  | _ => []

/-- Entries of the entry table, as words. -/
def entryWords (w : List Word) : List (Nat × Nat) := pairs (sectionWords w 2)
/-- The entry table. -/
def entryTable (w : List Word) : List EntryDef := (entryWords w).map (fun e => entryDef e.1 e.2)
/-- Object bindings. -/
def bindings (w : List Word) : List (Nat × Nat) := pairs (sectionWords w 4)
/-- Event records of the schedule section. -/
def eventWords (w : List Word) : List (Nat × Nat) :=
  let x := sectionWords w 5
  (pairs (x.drop 8)).take (bits (wordAt x 1).toNat 31 0)

/-- Words of six per slot binding. -/
def slotWords : Nat → List Word → List (List Word)
  | 0, _ => []
  | n + 1, l => l.take 6 :: slotWords n (l.drop 6)
/-- Slot bindings. -/
def slotTable (w : List Word) : List (List Word) := slotWords (hdF w 13 38 32) (sectionWords w 3)

/-- The event record that a SCHED_REF names is a STEP_START of the entry's core. -/
def refOk (ev : List (Nat × Nat)) (e : EntryDef) : Bool :=
  match ev[e.schedRef.toNat]? with
  | some r => bits r.1 3 0 == 6 && bits r.1 31 8 == e.lcore.toNat
  | none => false

/-- Whether the entry at index `i` passes step 4. -/
def entryOk (ev : List (Nat × Nat)) (tab : List EntryDef) (i : Nat) (a b : Nat) : Bool :=
  let e := entryDef a b
  bits a 31 18 == 0 && bits b 63 32 == 0 && (match e.kind.toNat with
    | 1 => refOk ev e && !(tab.zipIdx.any (fun x => x.2 != i && x.1.kind == 1 && x.1.schedRef == e.schedRef))
    | 3 => false
    | _ => e.schedRef == 0xFFFFFFFF#32)

/-- Step 4: the schedule's digest, then the entry table and the bindings; status and DETAIL. -/
def step4 (w : List Word) : Nat × Nat :=
  let sec := sectionBytes w 5
  let want := (List.range 4).map (fun i => wordAt w (6 + i))
  let d := if sec.isEmpty then [0, 0, 0, 0] else (List.range 4).map (digestWord (sha3 sec))
  if d ≠ want then (5, 0)
  else
    match (entryWords w).zipIdx.find? (fun e => !entryOk (eventWords w) (entryTable w) e.2 e.1.1 e.1.2) with
    | some e => (1, e.2)
    | none => match (bindings w).zipIdx.find? (fun b => 4 < bits b.1.1 18 16 || bits b.1.1 31 20 != 0) with
      | some b => (1, b.2)
      | none => (0, 0)

/-! ### Decoding (step 5) -/

/-- Code of an image as 32-bit words; a section that is no multiple of 4 bytes ends in a part of one. -/
def codeWords (w : List Word) : List (BitVec 32) :=
  ((sectionWords w 0).flatMap (fun v => [ext v 0 32, ext v 32 32])).take ((hdF w 10 63 32 + 3) / 4)

/-- A branch or jump target of the instruction at `i`. -/
def target (i off : Nat) (width : Nat) : Int := (i : Int) + signed width off

/-- A constant target starts an instruction. -/
def targetOk (code : List (BitVec 32)) (t : Int) : Bool := decide (0 ≤ t) && isStart code t.toNat

/-- Status of a 32-bit instruction (Tables 7.4, 8.1). -/
def shortStatus (code : List (BitVec 32)) (i x : Nat) : Nat :=
  let op := bits x 7 2
  let gd := bits x 12 8
  let ga := bits x 17 13
  let gb := bits x 22 18
  let func := bits x 31 23
  let ok : Bool := match op with
    | 0x01 => aluFuncs.contains func
    | 0x06 => bits x 31 24 == 0
    | 0x07 => bits x 31 24 == 0
    | 0x08 => bits x 31 24 == 0
    | 0x1D => gb == 0 && func == 0
    | 0x30 => ga == 0 && gb == 0 && func ≤ 7
    | 0x31 => ga == 0 && func == 0 && (gd != gb || gd == 0)
    | 0x32 => gd == 0 && ga == 0 && gb == 0 && func == 0
    | 0x33 => gd == 0 && ga == 0 && gb == 0 && func == 0
    | 0x34 => gd == 0 && ga == 0 && gb == 0 && func == 0
    | _ => (2 ≤ op && op ≤ 0x15) || (0x16 ≤ op && op ≤ 0x1B && targetOk code (target i (bits x 31 18) 14))
  if ok then 0 else 7

/-- Status of a 64-bit instruction. -/
def longStatus (code : List (BitVec 32)) (i x imm : Nat) : Nat :=
  let ga := bits x 17 13
  let func := bits x 31 18
  let ok : Bool := match bits x 7 2 with
    | 0x1C => ga == 0 && func == 0 && targetOk code (target i imm 32)
    | 0x1E => alulFuncs.contains func
    | 0x1F => ga == 0 && func == 0
    | 0x20 => func == 0
    | _ => false
  if ok then 0 else 7

/-- The descriptor at an index. -/
def descAt (code : List (BitVec 32)) (i : Nat) : BitVec 128 :=
  BitVec.ofNat 128 ((code.getD i 0).toNat + (code.getD (i + 1) 0).toNat * 2 ^ 32 + (code.getD (i + 2) 0).toNat * 2 ^ 64
    + (code.getD (i + 3) 0).toNat * 2 ^ 96)

/-- Whether the instruction at an index is V-marked (Table 7.5). -/
def instrV (code : List (BitVec 32)) (i : Nat) : Bool :=
  let x := (code.getD i 0).toNat
  match x % 4 with
  | 0 => bits x 7 2 == 0x31
  | 2 => descV (descAt code i)
  | _ => false

/-- Bytes from a constant base, g0, that leave the core's own SRAM (R129, Table 5.1): rows of `len` bytes. -/
def constOut (g : GReg) (rows stride len : Nat) : Bool := g == 0 && decide (0x800000 < (rows - 1) * stride + len)

/-- A constant operand of a descriptor lies outside Table 5.1 (R129), or names an object that the image does not bind
(R238): status ADDRESS. Address 0, the issuing core's own SRAM, is no global address in a region of a remote device. -/
def constStatus (bound : List Nat) (d : BitVec 128) : Nat :=
  let bad : Bool := match dNat d 0 8 with
    | 0x02 =>
      let len := if dmaMode d = 1 then rowBytes (match dmaEw d with | 0 => 4 | 1 => 6 | 2 => 8 | _ => 16) 64 else dmaRowBytes d
      (dmaMode d != 2 && constOut (dmaSrcG d) (dmaRows d) (dmaSrcStride d) len)
        || (dmaMode d != 1 && (if dmaRankG d == 0 then constOut (dmaDstG d) (dmaRows d) (dmaDstStride d) len else dmaDstG d == 0))
    | 0x06 => constOut (mmaDstG d) (mmaRows d) (mmaDstStride d) (4 * mmaCols d)
    | 0x0A => constOut (wldSrcG d) (wldRows d) (wldStride d) (rowBytes (fmtWidth (wldFmt d)) 64)
    | 0x12 =>
      let len := vecCols d * (fmtWidth (vecFmt d) / 8)
      constOut (vecAG d) (vecRows d) (vecStride d) len
        || (vecOp d < 22 && constOut (vecDstG d) (vecRows d) (vecStride d) len)
        || (vecHasB (vecOp d) && !vecBScalar d && constOut (vecBG d) (vecRows d) (vecStride d) len)
        || (vecHasC (vecOp d) && constOut (vecCG d) (vecRows d) (vecStride d) len)
    | 0x16 =>
      constOut (cvtSrcG d) (cvtRows d) (cvtSrcStride d) (rowBytes (fmtWidth (cvtSrcFmt d)) (cvtCols d))
        || constOut (cvtDstG d) (cvtRows d) (cvtDstStride d) (rowBytes (fmtWidth (cvtDstFmt d)) (cvtCols d))
        || (cvtMx d && constOut (cvtScaleG d) 1 0 (cvtRows d * (cvtCols d / 32)))
    | 0x1A => !syncObjReg d && (List.range ((if syncSop d = 4 then syncFirstN d else 0) + 1)).any (fun k => !bound.contains (syncObj d + k))
    | _ => false
  if bad then 9 else 0

/-- A scalar load or store from the constant base g0 lies outside the core's own SRAM: below 0 (R129, R213). -/
def constShort (x : Nat) : Nat := if 0x0B ≤ bits x 7 2 ∧ bits x 7 2 ≤ 0x15 ∧ bits x 17 13 = 0 ∧ bit x 31 = true then 9 else 0

/-- Status of the instruction at an index of a CORE image; `bound` are the objects that the image binds. -/
def instrStatus (code : List (BitVec 32)) (allowV : Bool) (bound : List Nat) (i : Nat) : Nat :=
  let x := (code.getD i 0).toNat
  if code.length < i + instrLen (code.getD i 0) then 7
  else
    let st := match x % 4 with
      | 0 => shortStatus code i x
      | 1 => longStatus code i x (code.getD (i + 1) 0).toNat
      | 2 => descStatus (descAt code i)
      | _ => 7
    let ad := match x % 4 with
      | 0 => constShort x
      | 2 => constStatus bound (descAt code i)
      | _ => 0
    if st ≠ 0 then st else if ad ≠ 0 then ad else if instrV code i && !allowV then 6 else 0

/-- Indices that start an instruction, from index `i` on, `k` indices of the present one being left. -/
def instrStarts : List (BitVec 32) → Nat → Nat → List Nat
  | [], _, _ => []
  | w :: ws, 0, i => i :: instrStarts ws (instrLen w - 1) (i + 1)
  | _ :: ws, k + 1, i => instrStarts ws k (i + 1)

/-- Unused fields of a Z-F instruction are 0 and its codes are listed (R239, R241). -/
def flowStatus (code : List (BitVec 32)) (k : Nat) : Nat :=
  let x := (code.getD (2 * k) 0).toNat
  let imm := (code.getD (2 * k + 1) 0).toNat
  let fd := bits x 9 6
  let fa := bits x 13 10
  let fb := bits x 17 14
  let func := bits x 31 18
  let ok : Bool := match bits x 5 0 with
    | 0x01 => func ≤ 7
    | 0x02 => fa == 0 && fb == 0 && func == 0
    | 0x03 => fd == 0 && func ≤ 4 && imm < code.length / 2 && (func != 0 || (fa == 0 && fb == 0))
    | 0x04 => fd == 0 && fb == 0 && func == 0
    | 0x05 => fd == 0 && fb == 0 && func == 0
    | 0x0B => fd == 0 && func == 0 && imm == 0
    | 0x0C => fd == 0 && fa == 0 && func == 0 && imm == 0
    | 0x0D => fd == 0 && fa == 0 && fb == 0 && func == 0 && imm == 0
    | 0x0E => fd == 0 && fa == 0 && fb == 0 && func == 0 && imm == 0
    | o => 6 ≤ o && o ≤ 0x0A && fd == 0 && fb == 0 && func == 0 && imm == 0
  if ok then 0 else 7

/-- A field of a slot binding. -/
def slF (w : List Word) (i hi lo : Nat) : Nat := bits (wordAt w i).toNat hi lo

/-- Objects that a slot binds: ARRIVE_SYNC, and SPACE_SYNC when it is not the last (R167). -/
def slotObjs (w : List Word) : List Nat := slF w 4 15 0 :: (if slF w 0 7 7 = 1 then [] else [slF w 4 31 16])

/-- Objects that an image binds, by its object bindings and its slots (R238). -/
def boundObjs (w : List Word) : List Nat := (bindings w).map (fun b => bits b.1 15 0) ++ (slotTable w).flatMap slotObjs

/-- Step 5: the first failing instruction, then the entry PCs; status and DETAIL. The last instruction ends exactly at
CODE_BYTES. -/
def step5 (w : List Word) : Nat × Nat :=
  let code := codeWords w
  if profile w = 1 then
    match (List.range ((code.length + 1) / 2)).find? (fun k => flowStatus code k != 0 || hdF w 10 63 32 < 8 * k + 8) with
    | some k => (7, k)
    | none => match (entryTable w).findIdx? (fun e => !decide (e.pc.toNat < code.length / 2)) with
      | some i => (7, i)
      | none => (0, 0)
  else
    let st := instrStatus code (hdF w 0 42 42 == 1) (boundObjs w)
    match (instrStarts code 0 0).find? (fun i => st i != 0 || hdF w 10 63 32 < 4 * (i + instrLen (code.getD i 0))) with
    | some i => (if hdF w 10 63 32 < 4 * (i + instrLen (code.getD i 0)) ∨ st i = 0 then 7 else st i, i)
    | none => match (entryTable w).findIdx? (fun e => !isStart code e.pc.toNat) with
      | some i => (7, i)
      | none => (0, 0)

/-! ### Resources (step 6, R165, R307, R491) -/

/-- Physical cores that the entry table assigns, in entry order without repeats. -/
def wantCores (s : State) (w : List Word) : List (Option Nat) :=
  (((entryTable w).map (fun e => e.lcore.toNat)).eraseDups).map (fun l => if l < 64 then coreOf s l else none)

/-- A logical core is named by a valid slot of another job (R23). -/
def slotHolds (s : State) (j l : Nat) : Bool :=
  s.slots.any (fun e => bit (wordAt e.2 0).toNat 6 && bits (wordAt e.2 0).toNat 31 16 != j && bit (wordAt e.2 1).toNat l)

/-- A logical core is absent, or another job holds it by an entry or a slot (R23). -/
def coreHeld (s : State) (j l : Nat) : Bool :=
  (match coreOf s l with | none => true | some n => (core s n).job != 0 && (core s n).job.toNat != j) || slotHolds s j l

/-- Index of an entry whose core is absent or held by another job. -/
def badCore (s : State) (j : Nat) (w : List Word) : Option Nat :=
  (entryTable w).findIdx? (fun e => decide (64 ≤ e.lcore.toNat) || coreHeld s j e.lcore.toNat)

/-- An object is held by another job, or by firmware. -/
def objHeld (s : State) (j o : Nat) : Bool := (obj s o).job != 0 && (obj s o).job.toNat != j

/-- Index of a binding whose object is held, or that an earlier binding names. -/
def badBinding (s : State) (j : Nat) (l : List (Nat × Nat)) : Option Nat :=
  (l.zipIdx.find? (fun b => objHeld s j (bits b.1.1 15 0)
    || (l.take b.2).any (fun c => bits c.1 15 0 == bits b.1.1 15 0))).map Prod.snd

/-- The queue of a slot lies in the SRAM of a cluster that CORES names, and fits it (R165). -/
def queueFits (w : List Word) : Bool :=
  let a := slF w 3 47 0
  let n := slF w 3 55 48 * slF w 4 55 32
  (List.range 16).any (fun c => bits (wordAt w 1).toNat (4 * c + 3) (4 * c) != 0
    && decide (cluKey c ≤ a) && decide (a + n ≤ cluKey c + 0x2000000))

/-- A slot binding is one that R165 accepts, by its own bits. -/
def slotForm (j : Nat) (w : List Word) : Bool :=
  slF w 0 15 8 == 0 && slF w 0 63 48 == 0 && slF w 2 31 26 == 0 && slF w 2 63 52 == 0 && slF w 4 63 56 == 0 && slF w 5 63 44 == 0
    && slF w 0 6 6 == 1 && slF w 0 31 16 == j && slF w 3 47 0 % 64 == 0 && 1 ≤ slF w 3 55 48 && slF w 4 55 32 % 64 == 0
    && 64 ≤ slF w 4 55 32 && queueFits w && (slF w 0 7 7 == 1 || slF w 3 63 56 != 0) && slF w 5 6 4 ≤ 4

/-- A core bit of a slot that is absent, or named by another slot or job. -/
def slotCoreBad (s : State) (j : Nat) (before : List (List Word)) (w : List Word) : Bool :=
  (List.range 64).any (fun l => bit (wordAt w 1).toNat l && (coreHeld s j l || before.any (fun v => bit (wordAt v 1).toNat l)))

/-- Index of a slot binding that cannot be bound. -/
def badSlot (s : State) (j : Nat) (bound : List Nat) (l : List (List Word)) : Option Nat :=
  (l.zipIdx.find? (fun x =>
    let before := l.take x.2
    let used := bound ++ before.flatMap slotObjs
    !slotForm j x.1 || (slotValid s (slF x.1 0 5 0) && slotJob s (slF x.1 0 5 0) != j)
      || before.any (fun v => slF v 0 5 0 == slF x.1 0 5 0) || slotCoreBad s j before x.1
      || (slotObjs x.1).any (fun o => objHeld s j o || used.contains o) || (slotObjs x.1).eraseDups.length != (slotObjs x.1).length)).map Prod.snd

/-! Schedule sections (R306) -/

/-- List records from a word list on: port, LEN, LEADER, CYCLE, PHASE and words of entries (structural in the count). -/
def listRecords : Nat → List Word → Option (List (Nat × Nat × Nat × Nat × Nat × List Word))
  | 0, [] => some []
  | 0, _ => none
  | n + 1, a :: b :: l =>
    let len := bits a.toNat 20 10
    let k := (len + 1) / 2
    if len = 0 ∨ 1024 < len ∨ l.length < k ∨ bit a.toNat 31 = true ∨ bits b.toNat 63 30 ≠ 0
      ∨ (len % 2 = 1 ∧ bits (wordAt l (k - 1)).toNat 63 32 ≠ 0) then none
    else (listRecords n (l.drop k)).map
      (fun r => (bits a.toNat 9 0, len, bits a.toNat 30 21, bits a.toNat 63 32, bits b.toNat 29 0, l.take k) :: r)
  | _ + 1, _ => none

/-- A schedule section is well-formed: header, events, lists (structural checks of R306). -/
def schedule (w : List Word) : Option (List (Nat × Nat) × List (Nat × Nat × Nat × Nat × Nat × List Word)) :=
  let x := sectionWords w 5
  if hdF w 15 63 32 = 0 then some ([], [])
  else
    let ev := bits (wordAt x 1).toNat 31 0
    let ls := bits (wordAt x 1).toNat 63 32
    if hdF w 15 63 32 % 8 ≠ 0 ∨ x.length < 8 + 2 * ev ∨ bits (wordAt x 0).toNat 31 0 ≠ 0x4843535A ∨ bits (wordAt x 0).toNat 63 32 ≠ 1
      ∨ 960 < ev ∨ 1024 < ls ∨ (List.range 6).any (fun i => wordAt x (2 + i) != 0) = true then none
    else
      let es := (pairs (x.drop 8)).take ev
      if es.all (fun e => bits e.1 7 4 == 0 && (bits e.1 3 0 == 2 || bits e.1 3 0 == 3 || bits e.1 3 0 == 6)
          && decide (bits e.1 31 8 < alarmRange (bits e.1 3 0)))
      then (listRecords ls (x.drop (8 + 2 * ev))).map (fun l => (es, l)) else none

/-- A gate list that another job has loaded, or that a port runs: CYCLE, PHASE, LEADER, BASE, entries. -/
def heldList (s : State) (j q : Nat) : Option (Nat × Nat × Nat × Nat × List (Nat × Nat)) :=
  if gateLen s q ≠ 0 then
    some (gateCycle s q, gatePhase s q, getF s (TSC_GATE_CTRL q) TSC_GATE_CTRL_LEADER, getF s (TSC_GATE_CTRL q) TSC_GATE_CTRL_BASE, gateEntries s q)
  else
    let l := (everyImage s).flatMap (fun e => if e.1 = j then [] else e.2.gates)
    (l.find? (fun g => g.port.toNat == q)).map (fun g => (g.cycle.toNat, g.phase.toNat, g.leader.toNat, g.base.toNat, listEntries g.words))

/-- R303 for a list record, at the width in force and at one that awaits a RESTART; the leader keeps the same time. -/
def recordOk (s : State) (j : Nat) (all : List (Nat × Nat × Nat × Nat × Nat × List Word)) (r : Nat × Nat × Nat × Nat × Nat × List Word) : Bool :=
  let q := r.1
  let es := (listEntries r.2.2.2.2.2).take r.2.1
  let leader := r.2.2.1
  let fits (w : Nat) : Bool := listOk s q w r.2.2.2.1 r.2.2.2.2.1 0 es
  lowestOf s q && es.length == r.2.1 && fits (portLanes s q) && fits (2 ^ editedF s (pCtrl q) LNK_PORT_CTRL_WIDTH)
    && (leader == q || (match all.find? (fun x => x.1 == leader) with
        | some x => x.2.2.2.1 == r.2.2.2.1 && x.2.2.2.2.1 == r.2.2.2.2.1
        | none => match heldList s j leader with
          | some h => h.1 == r.2.2.2.1 && h.2.1 == r.2.2.2.2.1
          | none => false))
where
  lowestOf (s : State) (q : Nat) : Bool := (portsOf s (portBundle q)).contains q

/-- Gate-memory ranges in use on a die: first entry and entries. -/
def gmemUsed (s : State) (d : Nat) (more : List GateList) : List (Nat × Nat) :=
  ((everyImage s).flatMap (fun e => e.2.gates) ++ more).filterMap
      (fun g => if portDie g.port.toNat = d then some (g.base.toNat, 2 * g.words.length) else none)
    ++ (List.range 1024).filterMap (fun q =>
      if portDie q = d ∧ gateLen s q ≠ 0 then some (getF s (TSC_GATE_CTRL q) TSC_GATE_CTRL_BASE, gateLen s q) else none)

/-- Lowest even entry of a die's gate memory from which `n` entries are free. -/
def freeGmem (s : State) (d n : Nat) (more : List GateList) : Option Nat :=
  let used := gmemUsed s d more
  ((0 :: used.map (fun u => u.1 + u.2 + (u.1 + u.2) % 2)).mergeSort (fun a b => a ≤ b)).find?
    (fun c => decide (c + n ≤ 131072) && !(used.any (fun u => rangesMeet c n u.1 u.2)))

/-- The list records of an image placed (R307), or the index of one refused. -/
def placeLists (s : State) (j : Nat) : List (Nat × Nat × Nat × Nat × Nat × List Word) → Nat → List GateList → Sum Nat (List GateList)
  | [], _, acc => .inr acc
  | r :: rs, i, acc =>
    let q := r.1
    let mk (base : Nat) : GateList :=
      ⟨BitVec.ofNat 10 q, BitVec.ofNat 10 r.2.2.1, BitVec.ofNat 30 r.2.2.2.1, BitVec.ofNat 30 r.2.2.2.2.1, BitVec.ofNat 17 base, r.2.2.2.2.2⟩
    match heldList s j q with
    | some h =>
      if h.1 = r.2.2.2.1 ∧ h.2.1 = r.2.2.2.2.1 ∧ h.2.2.1 = r.2.2.1 ∧ h.2.2.2.2 = listEntries r.2.2.2.2.2
      then placeLists s j rs (i + 1) (acc ++ [mk h.2.2.2.1]) else .inl i
    | none =>
      match freeGmem s (portDie q) (2 * r.2.2.2.2.2.length) acc with
      | some base => placeLists s j rs (i + 1) (acc ++ [mk base])
      | none => .inl i

/-- Schedule alarms that an image may take: free, or held by what it replaces (R491), in ascending number. -/
def alarmPool (s : State) (gone : List Nat) : List Nat :=
  (List.range 960).filter (fun n => (mapFind s.ftu.owner n).isNone || gone.contains n)

/-- Events with their alarms. -/
def eventDefs (es : List (Nat × Nat)) (pool : List Nat) : List SchedEvent :=
  (es.zip pool).map (fun x =>
    ⟨BitVec.ofNat 4 (bits x.1.1 3 0), BitVec.ofNat 24 (bits x.1.1 31 8), BitVec.ofNat 64 x.1.2, BitVec.ofNat 32 (bits x.1.1 63 32), x.2⟩)

/-- Pieces of 64 KiB (structural in the count). -/
def pieces : Nat → List Byte → List (List Byte)
  | 0, _ => []
  | n + 1, l => if l.isEmpty then [] else l.take 65536 :: pieces n (l.drop 65536)

/-- Leaf hashes of bytes (R373). -/
def leafHashes (l : List Byte) : List (BitVec 256) := (pieces (l.length / 65536 + 1) l).map (fun p => sha3 (0 :: p))

/-- The image as the device keeps it. -/
def mkImage (w : List Word) (len : Nat) (events : List SchedEvent) (gates : List GateList) : Image :=
  let code := codeWords w
  { code := code, seed := wordAt w 1, stepLimit := BitVec.ofNat 32 (hdF w 17 31 0),
    hasV := profile w == 0 && (instrStarts code 0 0).any (instrV code), fpReq := hdF w 0 44 44 == 1,
    entries := entryTable w, events := events, gates := gates, leaves := leafHashes ((wordsToBytes w).take len),
    raw := if profile w = 1 then (wordsToBytes w).take len else [], job := 0, objs := boundObjs w,
    slots := (slotTable w).map (fun v => slF v 0 5 0), cores := ((entryTable w).map (fun e => e.lcore.toNat)).eraseDups, alarms := [] }

/-- A core of the job gets the code, zero registers, banks with no format and no scales, and its place (R178, R191,
R222). -/
def loadCore (j : Nat) (rank : BitVec 20) (code : List (BitVec 32)) (s : State) (n : Nat) : State :=
  setCore s n { core s n with g := Vector.replicate 32 0, srPos := 0, pc := 0, lastPc := 0, code := code, step := 0, nextToken := 0,
                              bank0 := Bank.empty, bank1 := Bank.empty,
                              job := BitVec.ofNat 16 j, rank := rank, dueEntries := [] }

/-- CTRL of an object bound to a job. -/
def bindCtrl (j kind remote inc : Nat) : Word := BitVec.ofNat 64 (j + kind * 2 ^ 16 + remote * 2 ^ 19 + inc * 2 ^ 32)

/-- An object binding takes effect (R187). -/
def bindObj (j : Nat) (s : State) (b : Nat × Nat) : State :=
  setObj s (bits b.1 15 0) ⟨BitVec.ofNat 64 b.2, bindCtrl j (bits b.1 18 16) (bits b.1 19 19) (bits b.1 63 32)⟩

/-- A slot binding takes effect, with its two objects (R164, R167). -/
def bindSlot (j rank : Nat) (s : State) (w : List Word) : State :=
  let k := slF w 0 5 0
  let s := setSlotQ { s with slots := mapPut s.slots k w } k SlotQ.empty
  let far := slF w 5 27 27 == 1 && slF w 5 26 7 != rank
  let s := setObj s (slF w 4 15 0) ⟨0, bindCtrl j 0 (b2n far) 0⟩
  if slF w 0 7 7 = 1 then s
  else setObj s (slF w 4 31 16) ⟨BitVec.ofNat 64 (slF w 3 63 56), bindCtrl j 3 (b2n (slF w 2 19 0 != rank)) 0⟩

/-- What images of a job bound is free (R491), but for what the job's other images bound too: the caller binds anew. -/
def unbind (s : State) (gone left : List Image) : State :=
  let only (f : Image → List Nat) : List Nat := (gone.flatMap f).eraseDups.filter (fun k => !(left.flatMap f).contains k)
  let objs := only Image.objs
  let slots := only Image.slots
  let s := ((only Image.cores).filterMap (coreOf s)).foldl (fun s n => setCore s n { core s n with job := 0, dueEntries := [] }) s
  let s := { s with objs := s.objs.filter (fun e => !objs.contains e.1), slots := s.slots.filter (fun e => !slots.contains e.1),
                    slotQ := s.slotQ.filter (fun e => !slots.contains e.1) }
  (only Image.alarms).foldl (fun s n => clearRange (freeAlarm s n) (FTU_ALARM_TARGET n) (FTU_ALARM_TARGET n + 16)) s

/-- Alarms taken for events and for the lists that their own ports lead. -/
def takeAlarms (s : State) (j : Nat) (events : List SchedEvent) (leads : List Nat) (pool : List Nat) : State :=
  let s := events.foldl (fun s e => { s with ftu := { s.ftu with owner := mapPut s.ftu.owner e.alarm (BitVec.ofNat 16 j) } }) s
  (leads.zip (pool.drop events.length)).foldl (fun s x =>
    let s := { s with ftu := { s.ftu with owner := mapPut s.ftu.owner x.2 (BitVec.ofNat 16 j) } }
    setF (setF s (FTU_ALARM_CTRL x.2) FTU_ALARM_CTRL_ACTION 1) (FTU_ALARM_CTRL x.2) FTU_ALARM_CTRL_TARGET_INDEX x.1) s

/-- The data section of a job's image at the addresses of its relocation records: address, first byte, bytes. A failing word that
a record covers in part keeps its contents, and is a persistent error (R356). -/
def placeData (j : Nat) (data : List Byte) (s : State) (r : BitVec 48 × Nat × Nat) : State :=
  let bs := (data.drop r.2.1).take r.2.2
  match locateSpan s none r.1.toNat bs.length with
  | some (st, k) =>
    if st = .csr ∨ st = .object then s
    else match wrBytes s k bs with
      | (s, some w) => persist s st w 1 (BitVec.ofNat 16 j)
      | (s, none) => s
  | none => s

/-- Ports of an image's lists that lead themselves by an alarm of this job: no list yet, or one that this job drives. -/
def newLeads (s : State) (j : Nat) (gates : List GateList) : List Nat :=
  (gates.filter (fun g => g.port == g.leader && ((heldList s j g.port.toNat).isNone
    || (match gateAlarm s g.port.toNat with
        | some n => mapFind s.ftu.owner n == some (BitVec.ofNat 16 j)
        | none => true)))).map (fun g => g.port.toNat)

/-- Index of the list record whose alarm the pool no longer holds: its port leads itself, and `free` alarms serve the
records before it (R307). -/
def shortLead (ls : List (Nat × Nat × Nat × Nat × Nat × List Word)) (leads : List Nat) (free : Nat) : Nat :=
  match leads[free]? with
  | some q => (ls.findIdx? (fun r => r.1 == q)).getD 0
  | none => 0

/-- Step 6 of an image (R191, R307): status and DETAIL of the first failure, or the events, the gate lists with their
memory, and the ports that lead themselves. `gone` are the alarms of what it replaces. -/
def resources (s : State) (j : Nat) (gone : List Nat) (w : List Word) : Sum (Nat × Nat) (List SchedEvent × List GateList × List Nat) :=
  match schedule w with
  | none => .inl (1, 0)
  | some (es, ls) =>
    if ls.any (fun r => !recordOk s j ls r) then .inl (1, 0)
    else match badCore s j w, badBinding s j (bindings w) with
      | some i, _ => .inl (0xA, i)
      | none, some i => .inl (0xA, i)
      | none, none =>
        match badSlot s j ((bindings w).map (fun b => bits b.1 15 0)) (slotTable w) with
        | some i => .inl (0xA, i)
        | none =>
          match placeLists s j ls 0 [] with
          | .inl i => .inl (0xA, i)
          | .inr gates =>
            let pool := alarmPool s gone
            let leads := newLeads s j gates
            if pool.length < es.length then .inl (0xA, pool.length)
            else if pool.length < es.length + leads.length then .inl (0xA, shortLead ls leads (pool.length - es.length))
            else .inr (eventDefs es pool, gates, leads)

/-- The objects and slots of an image are bound, and its data section is placed. -/
def bindTables (s : State) (j : Nat) (x : Job) (w : List Word) (relocs : List (BitVec 48 × Nat × Nat)) : State :=
  let s := (bindings w).foldl (bindObj j) s
  let s := (slotTable w).foldl (bindSlot j x.rank.toNat) s
  relocs.foldl (placeData j (sectionBytes w 1)) s

/-- Steps 6 and 7 (R191, R491): the images that are replaced release what they bound, and the new one is bound; the status,
DETAIL, its image, and the state. -/
def bindNew (s : State) (j : Nat) (x : Job) (w : List Word) (len : Nat) (relocs : List (BitVec 48 × Nat × Nat)) (gone left : List Image) :
    Sum (Nat × Nat) (Image × State) :=
  let freed := gone.flatMap (fun i => i.alarms)
  match resources s j freed w with
  | .inl e => .inl e
  | .inr (events, gates, leads) =>
    let pool := alarmPool s freed
    let img := { mkImage w len events gates with job := j, alarms := pool.take (events.length + leads.length) }
    let s := takeAlarms (unbind s gone left) j events leads pool
    let s := ((wantCores s w).filterMap id).foldl (loadCore j x.rank img.code) (bindTables s j x w relocs)
    .inr (img, s)

/-- Logical cores of images. -/
def coresOfImages (l : List Image) : List LCore := ((l.flatMap (fun i => i.cores)).map (Fin.ofNat 64)).eraseDups

/-- Steps 6 to 8 for a CORE image that has passed the others: status, DETAIL and state. It replaces the job's earlier CORE
image. -/
def bindImage (s : State) (j : Nat) (x : Job) (w : List Word) (len : Nat) (relocs : List (BitVec 48 × Nat × Nat)) : Nat × Nat × State :=
  let left := (x.flowNext.map Prod.snd).eraseDups ++ flowsOf s j
  match bindNew s j x w len relocs (x.image.toList ++ x.next.toList) left with
  | .inl (st, d) => (st, d, s)
  | .inr (img, s) => (0, 0, bindRanks (setJob s j { x with next := some img, cores := coresOfImages (img :: left) }) j)

/-- Steps 6 to 8 for a FLOW image: what its tables name is bound beside the job's CORE image, and the library's
programs wait for the job's next RESTART FT (R190, R206). It replaces the job's FLOW images whose every OP it serves. (DESIGN
CHOICE, log entry 34.) -/
def bindFlow (s : State) (j : Nat) (x : Job) (w : List Word) (len : Nat) (ops : BitVec 6) (relocs : List (BitVec 48 × Nat × Nat)) :
    Nat × Nat × State :=
  let pending := x.flowNext.filter (fun e => !ops.getLsbD e.1)
  let stays := (pending.map Prod.snd
    ++ (s.coll.flow.filter (fun e => e.2.job == j && !ops.getLsbD e.1 && !pending.any (fun p => p.1 == e.1))).map Prod.snd).eraseDups
  let flows := ((x.flowNext.map Prod.snd) ++ flowsOf s j).eraseDups
  let left := x.image.toList ++ x.next.toList ++ stays
  match bindNew s j x w len relocs (flows.filter (fun i => !stays.contains i)) left with
  | .inl (st, d) => (st, d, s)
  | .inr (img, s) =>
    let new := ((List.range 6).filter (fun o => ops.getLsbD o)).map (fun o => (o, img))
    (0, 0, setJob s j { x with flowNext := pending ++ new, cores := coresOfImages (img :: left) })

/-- A job may take an image (R190). -/
def loadable (s : State) (j : Nat) : Bool := (job s j).isSome && jobQuiesced s j

/-- Steps 1 to 8 of R191. -/
def runSteps (s : State) (j : Nat) (x : Job) (w : List Word) (len : Nat) (sig : SigCheck) (ops : BitVec 6) (relocs : List (BitVec 48 × Nat × Nat)) :
    Nat × Nat × State :=
  let s1 := step1 w len
  if s1 ≠ 0 then (s1, 0, s)
  else
    let s2 := step2 s w sig
    let s := if profile w = 1 ∧ hdF w 16 63 32 ≠ 0 then countVerify s (flowSigOk s sig) else s
    if s2 ≠ 0 then (s2, 0, s)
    else
      let s3 := step3 s w
      if s3 ≠ 0 then (s3, 0, s)
      else
        let s4 := step4 w
        if s4.1 ≠ 0 then (s4.1, s4.2, s)
        else
          let s5 := step5 w
          if s5.1 ≠ 0 then (s5.1, s5.2, s)
          else if profile w = 1 then bindFlow s j x w len ops relocs
          else bindImage s j x w len relocs

/-- Words of an image that stands in tier 0. -/
def tierImage (s : State) (a len : Nat) : Option (List Word) :=
  match locateSpan s none a len with
  | some (.tier _ 0, k) => some (bytesToWords ((len + 7) / 8) (rdBytes s k len))
  | _ => none

/-- The first failing word of an image that stands in tier 0 (R355). -/
def badImage (s : State) (e : CmdEntry) : Option (Store × Nat) :=
  let a := (wordAt e.words 2).toNat
  let len := bits (wordAt e.words 3).toNat 63 32
  if bit (wordAt e.words 3).toNat 0 then
    match locateSpan s none a len with
    | some (.tier d 0, k) => (badIn s k len).map (fun w => (.tier d 0, w))
    | _ => none
  else none

/-- The image of a LOAD: from tier 0 or from host memory. -/
def loadImage (s : State) (e : CmdEntry) (image : Option (List Word)) : Option (List Word) :=
  if bit (wordAt e.words 3).toNat 0 then tierImage s (wordAt e.words 2).toNat (bits (wordAt e.words 3).toNat 63 32) else image

/-- The completion of a LOAD (R192). -/
def loadDone (s : State) (r : Nat) (e : CmdEntry) (st d : Nat) : State :=
  complete s (cqOf s r) { cmdCpl r e.index.toNat e.tag (BitVec.ofNat 16 e.job) st d true with kind := 2 }

/-- Domains that a job's new bindings need awake and that sleep: the clusters of its objects and slots, its cores
(R155, R413). -/
def loadSleepers (s : State) (j : Nat) : List Nat :=
  let cl := (s.objs.filter (fun e => e.2.job.toNat == j)).map (fun e => e.1 / 4096)
  ((cl ++ (coresOfJob s j).map (fun n => n / 5)).eraseDups.filter (fun c => c < 16 && !awake s (80 + c))).map (fun c => 80 + c)
    ++ (coresOfJob s j).filter (fun n => !awake s n)

/-- Form of a LOAD. -/
def loadForm (e : CmdEntry) : Bool :=
  e.headOk && e.bodyOk (fun i => if i = 2 then BitVec.allOnes 64 else if i = 3 then 0xFFFFFFFF00000001 else 0)

/-- LOAD (R191): one that binds what sleeps waits at the front of its ring until the wake ends (R413). (DESIGN CHOICE, log
entry 34.) -/
def runLoad (s : State) (r : Nat) (e : CmdEntry) (image : Option (List Word)) (sig : SigCheck) (ops : BitVec 6)
    (relocs : List (BitVec 48 × Nat × Nat)) : State :=
  let len := bits (wordAt e.words 3).toNat 63 32
  if !loadForm e then loadDone s r e 1 0
  else match job s e.job with
    | none => loadDone s r e 0xA 0
    | some x =>
      if !loadable s e.job then loadDone s r e 0xA 0
      else
        match badImage s e, loadImage s e image with
        | some (st, w), _ => loadDone (persist s st w 1 (BitVec.ofNat 16 e.job)) r e 1 0
        | none, none => loadDone s r e 1 0
        | none, some w =>
          let (st, d, t) := runSteps s e.job x w len sig ops relocs
          match loadSleepers t e.job with
          | [] => loadDone t r e st d
          | us => if st = 0 then us.foldl startWake (unpopEntry s r e) else loadDone t r e st d

/-- A LOAD whose image the SEC unit verifies: a signed FLOW image that passes step 1, for a job that may take it. -/
def flowLoad (s : State) (e : CmdEntry) (image : Option (List Word)) : Bool :=
  loadForm e && loadable s e.job && match (if (badImage s e).isSome then none else loadImage s e image) with
    | some w => step1 w (bits (wordAt e.words 3).toNat 63 32) == 0 && profile w == 1 && hdF w 16 63 32 != 0
    | none => false

def execLoad (r : RingId) (image : Option (List Word)) (sig : SigCheck) (flowOps : BitVec 6) (relocs : List (BitVec 48 × Nat × Nat))
    (s : State) : Host.Outcome State Fault Refusal :=
  .next (dispatch s r 5 (fun s e =>
    if flowLoad s e image then secTurn s r e (fun s => runLoad s r e image sig flowOps relocs)
    else runLoad s r e image sig flowOps relocs))

end Sys2Proof.Machine
end

