-- ==== Sys2Proof/Machine/Security.lean ====
section
/-! DEFINITION. The SEC unit's provenance records (R371–R378) and attestation (R470, R471), and what the
management port takes (R403, R404, R464). -/
namespace Sys2Proof.Machine

/-! ### Provenance requests (R371, R372) -/

/-- A field of a request's words. -/
def pF (w : List Word) (i hi lo : Nat) : Nat := bits (wordAt w i).toNat hi lo
/-- Its spans, as their two words. -/
def spans (w : List Word) : List (Nat × Nat) := pairs ((w.drop 8).take (2 * pF w 0 22 16))

/-- SOURCE of a span: 0 LOADED_CORE, 1 LOADED_FLOW, 2 DEVICE, 3 PRIOR, 4 HOST_ROOT. -/
def spSource (x : Nat × Nat) : Nat := bits x.1 2 0
/-- CLASS of a span: 0 IMAGE, 1 WEIGHTS, 2 INPUT, 3 RESULT. -/
def spClass (x : Nat × Nat) : Nat := bits x.1 4 3
/-- ADDR of a span. -/
def spAddr (x : Nat × Nat) : Nat := bits x.1 63 16

/-- A span by its own bits: codes, reserved bits, and classes its source may have (Table 14.4). -/
def spanOk (x : Nat × Nat) : Bool :=
  bits x.1 15 5 == 0 && (match spSource x with
    | 0 => spClass x == 0 && x.2 == 0
    | 1 => spClass x == 0 && x.2 == 0
    | 2 => spClass x != 0 && x.2 != 0
    | 3 => (spClass x == 1 || spClass x == 2) && bits x.2 63 32 == 0
    | 4 => spClass x == 2 && x.2 % 32 == 0
    | _ => false)

/-- Classes stand in ascending order. -/
def ascending : List Nat → Bool
  | a :: b :: l => a ≤ b && ascending (b :: l)
  | _ => true

/-- What BAD_REQ of Table 14.6 does not meet. -/
def reqOk (s : State) (j : Nat) (w : List Word) : Bool :=
  let n := pF w 0 22 16
  w.length == 8 + 2 * n && pF w 0 15 0 == j && 1 ≤ n && n ≤ 64 && pF w 0 63 26 == 0 && pF w 1 63 48 == 0 && pF w 3 7 0 == 0
    && wordAt w 5 == 0 && wordAt w 6 == 0 && wordAt w 7 == 0
    && (pF w 0 23 23 == 0 || boundTo s j (pF w 1 15 0)) && (pF w 0 24 24 == 0 || boundTo s j (pF w 1 31 16))
    && (pF w 0 25 25 == 0 || (groupOf s j (pF w 1 47 32)).isSome)
    && (spans w).all spanOk && ascending ((spans w).map spClass)

/-- A DEVICE span lies within one region of the job, one of its cores' SRAM, or the SRAM of one of its clusters. -/
def spanPlaced (s : State) (j : Nat) (x : Nat × Nat) : Bool :=
  let a := spAddr x
  let inside (lo len : Nat) : Bool := decide (lo ≤ a) && decide (a + x.2 ≤ lo + len)
  inRegion s j a x.2 false || (coresOfJob s j).any (fun n =>
    (match slotOfAux s n 5 with | some k => inside (coreKey k) 0x800000 | none => false) || inside (cluKey (n / 5)) 0x2000000)

/-- A kept record of a job. -/
def priorOf (s : State) (j id : Nat) : Option ProvRec :=
  s.sec.records.find? (fun r => r.id.toNat == id && r.job.toNat == j)

/-- Image in force or loaded. -/
def coreImage (s : State) (j : Nat) : Option Image :=
  match job s j with
  | some x => x.image <|> x.next
  | none => none

/-- Loaded FLOW images, in ascending lowest OP served: of each OP the one in force, then those that wait for a RESTART. -/
def flowImages (s : State) : List Image :=
  ((List.range 6).flatMap (fun o =>
    ((s.coll.flow ++ s.jobs.flatMap (fun x => x.2.flowNext)).filter (fun e => e.1 == o)).map Prod.snd)).eraseDups

/-- Storage key of a span; a span that R372 accepts may still meet an absent window. -/
def spanKey (s : State) (x : Nat × Nat) : Option (Store × Nat) := locateSpan s none (spAddr x) x.2

/-- The leaves of a span, the roots that HOST_ROOT spans still take, and the status of a failure. -/
def spanLeaves (s : State) (j : Nat) (roots : List (Option (BitVec 256))) (x : Nat × Nat) :
    Nat × List (BitVec 256) × List (Option (BitVec 256)) :=
  match spSource x with
  | 0 => (0, (match coreImage s j with | some i => i.leaves | none => []), roots)
  | 1 => (0, (flowImages s).flatMap (fun i => i.leaves), roots)
  | 2 =>
    if !spanPlaced s j x then (2, [], roots)
    else match spanKey s x with
      | none => (2, [], roots)
      | some (_, k) => if (badIn s k x.2).isSome then (4, [], roots) else (0, leafHashes (rdBytes s k x.2), roots)
  | 3 => match priorOf s j x.2 with
    | some r => (0, [sha3 (2 :: wordsToBytes r.words)], roots)
    | none => (3, [], roots)
  | _ => match roots with
    | some d :: rs => (0, [d], rs)
    | _ => (5, [], roots)

/-- Every span's class and leaves, or the status of the first that fails. -/
def allSpans (s : State) (j : Nat) : List (Nat × Nat) → List (Option (BitVec 256)) → Nat × List (Nat × List (BitVec 256))
  | [], _ => (0, [])
  | x :: xs, roots =>
    let (st, l, roots) := spanLeaves s j roots x
    if st ≠ 0 then (st, [])
    else
      let (st, r) := allSpans s j xs roots
      (st, (spClass x, l) :: r)

/-- One level of the tree of R373. -/
def rootLevel : List (BitVec 256) → List (BitVec 256)
  | a :: b :: l => sha3 (1 :: (digestBytes a ++ digestBytes b)) :: rootLevel l
  | l => l

/-- Levels until one element is left; `k` bounds them. -/
def rootOf : Nat → List (BitVec 256) → List (BitVec 256)
  | 0, l => l
  | k + 1, l => if l.length ≤ 1 then l else rootOf k (rootLevel l)

/-- The root of a list that is not empty. -/
def treeRoot (l : List (BitVec 256)) : Option (BitVec 256) := (rootOf l.length l).head?

/-- Four free words, as a digest: the spec gives the root of no list without leaves for PROV_ROOT. -/
def freeDigest (s : State) : BitVec 256 × State :=
  let (a, s) := fresh s
  let (b, s) := fresh s
  let (c, s) := fresh s
  let (d, s) := fresh s
  (a.setWidth 256 ||| b.setWidth 256 <<< 64 ||| c.setWidth 256 <<< 128 ||| d.setWidth 256 <<< 192, s)

/-! ### The record (R374, R375) -/

/-- Words of a digest. -/
def digestWords (d : BitVec 256) : List Word := (List.range 4).map (digestWord d)

/-- A V instruction, or a PRIOR record with VAR (Table 14.5). (DESIGN CHOICE, log entry 47.) -/
def provVar (s : State) (j : Nat) (l : List (Nat × Nat)) : Bool :=
  (match coreImage s j with | some i => i.hasV | none => false)
    || l.any (fun x => spSource x == 3 && (match priorOf s j x.2 with | some r => bit (wordAt r.words 0).toNat 8 | none => false))

/-- A timing source has counted since the job's RESTART FT. -/
def disturbed (s : State) (j : Nat) : Bool := match job s j with | some x => x.timing != timingCounts s | none => false

/-- The 32 words of a record, before its digests: STATUS and flags to BYTES; `fp` is the fingerprint latched at step 2. -/
def recHead (s : State) (j status : Nat) (w : List Word) (provN resN : Nat) (fp : BitVec 256) : List Word :=
  let l := if status = 0 then spans w else []
  let rank := match job s j with | some x => x.rank.toNat | none => 0
  let bytes := ((l.filter (fun x => spSource x == 2)).map Prod.snd).sum
  [ BitVec.ofNat 64 (status + b2n (provVar s j (spans w)) * 2 ^ 8 + b2n (l.any (fun x => spSource x == 4)) * 2 ^ 9
      + b2n (l.any (fun x => spSource x == 3)) * 2 ^ 10 + b2n (s.sec.fp != fp) * 2 ^ 11 + b2n (disturbed s j) * 2 ^ 12 + j * 2 ^ 16 + rank * 2 ^ 32),
    zext s.sec.nextRecord, now s, wordAt w 4, BitVec.ofNat 64 (provN + resN * 2 ^ 32), BitVec.ofNat 64 bytes, 0, 0 ]

/-- The words of a record. -/
def recWords (s : State) (j status : Nat) (w : List Word) (prov res : List (BitVec 256)) (fp : BitVec 256) : List Word × State :=
  if status ≠ 0 then ((recHead s j status w 0 0 fp ++ List.replicate 24 0), s)
  else
    let (p, s') := match treeRoot prov with | some d => (d, s) | none => freeDigest s
    let gm : BitVec 256 := if pF w 0 25 25 = 1 then (match groupOf s j (pF w 1 47 32) with | some g => g.digest | none => 0) else 0
    (recHead s j 0 w prov.length res.length fp ++ digestWords fp ++ digestWords p ++ digestWords ((treeRoot res).getD 0)
      ++ digestWords (planDigest s) ++ digestWords gm ++ [0, 0, 0, 0], s')

/-- The next request comes to the front. -/
def nextProv (s : State) : State :=
  let l := match s.sec.prov.tail with | [] => [] | q :: qs => { q with since := now s } :: qs
  let s := endWork { s with sec := { s.sec with prov := l } } .prov
  setF s SEC_PROV_STATUS SEC_PROV_STATUS_BUSY (b2n (!l.isEmpty))

/-- A request has failed (R376). -/
def countFailed (s : State) : State := event (bump s SEC_CNT_PROV SEC_CNT_PROV_FAILED 1) SEC_PROV_STATUS SEC_PROV_STATUS_PROV_FAIL_EVENT 3

/-- A record is written, kept and counted (R377); the completion entry follows, and DONE_OBJ behind it. -/
def writeRecord (s : State) (q : ProvReq) (status : Nat) (ws : List Word) : State :=
  let j := q.job.toNat
  let w := q.words
  let s := emit s (.hostWrite (wordAt w 3) ws)
  let r : ProvRec := ⟨s.sec.nextRecord, q.job, ws⟩
  let kept := (s.sec.records ++ [r])
  let s := { s with sec := { s.sec with records := kept.drop (kept.length - 1024), nextRecord := s.sec.nextRecord + 1 } }
  let s := bump s SEC_CNT_PROV SEC_CNT_PROV_WRITTEN 1
  let s := if status = 0 then s else countFailed s
  let done := if pF w 0 24 24 = 1 ∧ boundTo s j (pF w 1 31 16) = true then some (pF w 1 31 16, (1 : BitVec 64)) else none
  let s := jobComplete s j { kind := 3, cmdRing := BitVec.ofNat 8 q.ring, cmdIndex := q.index, job := q.job,
                             body := [BitVec.ofNat 64 status, zext r.id, wordAt w 4], signal := done }
  nextProv s

/-- A request fails with a status: every digest field of its record is 0. -/
def failProv (s : State) (q : ProvReq) (status : Nat) (fp : BitVec 256) : State :=
  let (ws, s) := recWords s q.job.toNat status q.words [] [] fp
  writeRecord s q status ws

/-- A persistent error in a span is recorded like any reader's (R357). -/
def spanErrors (s : State) (q : ProvReq) : State :=
  match (spans q.words).find? (fun x => spSource x == 2 && (match spanKey s x with | some (_, k) => (badIn s k x.2).isSome | none => false)) with
  | none => s
  | some x => match spanKey s x with
    | some (st, k) => persist s st ((badIn s k x.2).getD k) 1 q.job
    | none => s

/-- Steps 2 to 5 of R374. -/
def runProv (s : State) (q : ProvReq) (roots : List (Option (BitVec 256))) : State :=
  let j := q.job.toNat
  let fp := s.sec.fp
  if q.lost then failProv s q 5 fp
  else if !reqOk s j q.words then failProv s q 1 fp
  else
    let (st, l) := allSpans s j (spans q.words) roots
    if st ≠ 0 then failProv (if st = 4 then spanErrors s q else s) q st fp
    else
      let prov := (l.filter (fun x => x.1 != 3)).flatMap Prod.snd
      let res := (l.filter (fun x => x.1 == 3)).flatMap Prod.snd
      let (ws, s) := recWords s j 0 q.words prov res fp
      writeRecord s q 0 ws

/-- The wait of step 1 is or was satisfied, or there is none. -/
def provReady (s : State) (q : ProvReq) : Bool :=
  q.met || q.lost || !reqOk s q.job.toNat q.words || pF q.words 0 23 23 == 0 || decide ((wordAt q.words 2).toNat ≤ (obj s (pF q.words 1 15 0)).count.toNat)

/-- A PROV entry without a record, for want of its address: the request cannot be read, or the entry is malformed. -/
def provRefused (s : State) (r : Nat) (e : CmdEntry) (status : Nat) : State :=
  let s := countFailed s
  jobComplete s e.job { kind := 3, cmdRing := BitVec.ofNat 8 r, cmdIndex := e.index, job := BitVec.ofNat 16 e.job,
                        body := [BitVec.ofNat 64 status, zext s.sec.nextRecord, 0], signal := none }

/-- PROV (R371): queued for the SEC unit. Of a request whose span list could not be read, the header stands alone (R376). (DESIGN CHOICE, log entry 46.) -/
def queueProv (s : State) (r : Nat) (e : CmdEntry) (req : Option (List Word)) : State :=
  if (job s e.job).isNone then cmdDone s r e 0x04 0 false
  else if !e.headOk || !e.bodyOk (fun i => if i = 2 then BitVec.allOnes 64 else 0) then provRefused s r e 1
  else match req with
    | none => provRefused s r e 5
    | some w =>
      let q : ProvReq :=
        { ring := Fin.ofNat 256 r, index := e.index, tag := BitVec.ofNat 32 e.tag, job := BitVec.ofNat 16 e.job, words := w,
          since := now s, met := false, lost := w.length < 8 + 2 * pF w 0 22 16 }
      let s := { s with sec := { s.sec with prov := s.sec.prov ++ [q] } }
      setF (addWork s .prov) SEC_PROV_STATUS SEC_PROV_STATUS_BUSY 1

def execProv (r : RingId) (req : Option (List Word)) (s : State) : Host.Outcome State Fault Refusal :=
  .next (dispatch s r 9 (fun s e => queueProv s r e req))

/-- PROV_RECORD_WRITE (R374): the request at the front. -/
def execProvRecordWrite (roots : List (Option (BitVec 256))) (s : State) : Host.Outcome State Fault Refusal :=
  .next (ifRunning s (match s.sec.prov with
    | [] => s
    | q :: _ => if nextWork s = some .prov ∧ provReady s q = true then runProv s q roots else s))

/-- STEP_LIMIT of a job's image, ns. -/
def jobLimitNs (s : State) (j : Nat) : Nat :=
  let l := match coreImage s j with | some i => i.stepLimit.toNat | none => 0
  (if l = 0 then 1000000 else l) * 1000

/-- PROV_WAIT_TIMEOUT (R376). -/
def execProvWaitTimeout (s : State) : Host.Outcome State Fault Refusal :=
  .next (ifRunning s (match s.sec.prov with
    | [] => s
    | q :: _ =>
      if nextWork s = some .prov ∧ provReady s q = false then
        failProv (advanceTo s (q.since + BitVec.ofNat 64 (jobLimitNs s q.job.toNat))) q 6 s.sec.fp
      else s))

/-! ### Attestation (R470) -/

/-- Lasting fences of cores and engines: two words of Table 18.7. -/
def fenceWords (s : State) : List Byte :=
  let cores := (List.range 80).foldl (fun a n => if s.flt.lasting.contains n then a + 2 ^ n else a) 0
  let engines := (List.range 16).foldl (fun a e => if isSet s (RED_STATUS e) RED_STATUS_FENCED then a + 2 ^ e else a) 0
  toBytes 8 (cores % 2 ^ 64)
    ++ toBytes 8 (cores / 2 ^ 64 + engines * 2 ^ 16 + getF s FLT_STATUS FLT_STATUS_PREV_HALT * 2 ^ 32 + getF s FLT_STATUS FLT_STATUS_SEALED * 2 ^ 33)

/-- The attestation body, 288 bytes. -/
def attBody (s : State) : List Byte :=
  let version : BitVec 32 := match s.sec.bundle with | some b => b.version | none => 0
  wordsToBytes ((List.range 4).map (fun i => reg s (SEC_ATT_QUOTE i))) ++ toBytes 8 (deviceId s).toNat ++ toBytes 8 (now s).toNat
    ++ toBytes 4 (reg s FTU_STATUS).toNat ++ toBytes 4 (coldCount s).toNat
    ++ [s.sec.cfg.stepping, s.sec.cfg.grade, s.sec.cfg.variant, BitVec.ofNat 8 (getF s HUB_BOOT HUB_BOOT_SOURCE)]
    ++ toBytes 4 version.toNat ++ digestBytes (objDigest s.sec.cfg.obj) ++ digestBytes (bundleDigest s) ++ digestBytes s.sec.fp
    ++ digestBytes (planDigest s) ++ digestBytes (ownerDigest s) ++ digestBytes (sha3 ((flowImages s).flatMap (fun i => i.raw)))
    ++ toBytes 8 (reg s SEC_FP_MAP).toNat ++ fenceWords s ++ toBytes 4 (getF s SEC_CNT_PROV SEC_CNT_PROV_WRITTEN) ++ [0, 0, 0, 0]

/-- REQ is written: every field is latched in one cycle, and no report stands until it is signed. A REQ during a report has no
effect. -/
def requestReport (s : State) : State :=
  if isSet s SEC_ATT_CTRL SEC_ATT_CTRL_REQ then s
  else
    let s := { s with sec := { s.sec with report := [] } }
    let s := setF s SEC_ATT_CTRL SEC_ATT_CTRL_LENGTH 0
    if isSet s SEC_STATUS SEC_STATUS_KEYS_READY then
      let s := setF (setF s SEC_ATT_CTRL SEC_ATT_CTRL_STATUS 2) SEC_ATT_CTRL SEC_ATT_CTRL_REQ 1
      addWork { s with sec := { s.sec with body := attBody s } } .attest
    else setF s SEC_ATT_CTRL SEC_ATT_CTRL_STATUS 1

/-- The SEC unit takes requests: the device is out of reset and not halted. -/
def secRuns (s : State) : Bool := reach s == .all || reach s == .boot

/-- ATTESTATION_REQUEST. -/
def execAttestationRequest (s : State) : Host.Outcome State Fault Refusal := .next (if secRuns s then requestReport s else s)

/-- The report that is signed: an ATTEST object with the record's DEVICE_CERT, by the keys of the key store (R470). -/
def attReport (s : State) (random : List Byte) : List Byte :=
  let cert := s.sec.cfg.deviceCert
  let covered := objHead 0x4F534A46 5 s.sec.body.length (certLength cert) (now s) ++ s.sec.body ++ certBytes cert
  let keys := s.sec.keys.getD ([], [])
  covered ++ toBytes 384 (Config.rsaSign keys.1 covered (random.take 48)).toNat
    ++ toBytes 29792 (Config.slhSign keys.2 covered (random.drop 48)).toNat

/-- Its length (Table 18.2). -/
def attLength (s : State) : Nat := 128 + s.sec.body.length + certLength s.sec.cfg.deviceCert + 384 + 29792

/-- ATTESTATION_SIGNED: the report stands, REQ clears. -/
def signReport (s : State) (random : List Byte) : State :=
  let n := attLength s
  let s := endWork { s with sec := { s.sec with report := attReport s random } } .attest
  let s := setF (setF s SEC_ATT_CTRL SEC_ATT_CTRL_REQ 0) SEC_ATT_CTRL SEC_ATT_CTRL_STATUS 0
  let s := setF s SEC_ATT_CTRL SEC_ATT_CTRL_LENGTH (n % 65536)
  event s SEC_STATUS SEC_STATUS_ATT_DONE_EVENT 3

def execAttestationSigned (random : List Byte) (s : State) : Host.Outcome State Fault Refusal :=
  .next (if secRuns s && nextWork s == some .attest then signReport s random else s)

/-- A read of SEC_ATT_DATA moves SEC_ATT_ADDR on. -/
def readAtt (s : State) : Word × State :=
  let a := getF s SEC_ATT_ADDR SEC_ATT_ADDR_ADDR
  (attWord s, setF s SEC_ATT_ADDR SEC_ATT_ADDR_ADDR ((a + 8) % 65536))

/-- SEC_ATT_DATA_READ (R471). -/
def execSecAttDataRead (s : State) : Host.Outcome State Fault Refusal :=
  .next (if reach s == .none then s
    else
      let (v, s) := readAtt s
      emit s (.read v))

/-! ### The management port (R403, R404, R464) -/

/-- The flash slot that did not boot, and the SEQUENCE that it gets; after PCIe boot, slot 0, behind both. -/
def updateSlot (s : State) : Nat × Nat :=
  let q0 := match s.nvm.slot0 with | some x => x.1.toNat | none => 0
  let q1 := match s.nvm.slot1 with | some x => x.1.toNat | none => 0
  match getF s HUB_BOOT HUB_BOOT_SOURCE with
  | 0 => (1, q0 + 1)
  | 1 => (0, q1 + 1)
  | _ => (0, max q0 q1 + 1)

/-- PLDM_FIRMWARE_UPDATE (R464): SEQUENCE is written last, after the bundle has verified from flash; a bundle that fails
leaves a slot without one. -/
def updateFlash (s : State) (img : BundleImage) (c : SigCheck) : State :=
  let (k, q) := updateSlot s
  let ok := bundleOk s img c
  let s := countVerify s ok
  let v := if ok then some (BitVec.ofNat 32 q, img) else none
  { s with nvm := if k = 0 then { s.nvm with slot0 := v } else { s.nvm with slot1 := v } }

def execPldmFirmwareUpdate (img : BundleImage) (c : SigCheck) (s : State) : Host.Outcome State Fault Refusal :=
  .next (ifRunning s (updateFlash s img c))

/-- PLDM_MONITORING (R404): the temperature of a sensor or of an HBM stack, or a rail's reading and its regulator's
temperature. -/
def execPldmMonitoring (rail : Bool) (k : Fin 64) (s : State) (stack : Option (Fin 8) := none) : Host.Outcome State Fault Refusal :=
  .next (if pmRuns s then
    match stack with
    | some h => emit s (.read (reg s (PWR_HBM_TEMP h)))
    | none =>
    if rail then
      if k.val < 11 then emit s (.read (reg s (PWR_RAIL k) ||| zext (mapGet (fun _ => (0 : BitVec 16)) s.pwr.railTemp k) <<< 32)) else s
    else if k.val < 60 then emit s (.read (reg s (PWR_TEMP k))) else s
  else s)

/-- The provisioned ID: the manufacturer's ID above the low 32 bits of DEVICE_ID (R403). -/
def provisionedId (s : State) : Word := zext Config.mipiId <<< 32 ||| zext (ext (deviceId s) 0 32)

/-- The address at which the management port answers: the dynamic one, or on SMBus 0x4C (R403). -/
def mgmtAddress (s : State) : BitVec 7 := s.boot.mgmtAddr.getD 0x4C

/-- ENTDAA (R403): the controller reads the provisioned ID and assigns the dynamic address. -/
def execEntdaa (addr : BitVec 7) (s : State) : Host.Outcome State Fault Refusal :=
  .next (if standby s then emit { s with boot := { s.boot with mgmtAddr := some addr } } (.read (provisionedId s)) else s)

end Sys2Proof.Machine
end

