-- ==== Sys2Proof/Machine/Csr.lean ====
section
/-! DEFINITION. Reads and writes of the register block (R12–R14, R218, R384, R387, R398, R402, R404): what each access code
does with a written value, the values that a register takes in place of one out of range, dropped RWQ writes, and the
registers whose access starts an action. -/
namespace Sys2Proof.Machine

/-! ### Where an address leads (R384) -/

/-- The CSR offset behind a BAR0 offset: direct below 32 MiB, then four apertures of 8 MiB; none past 64 MiB, and where
an aperture's BASE leads past 0x7FF_FFFF. -/
def bar0Csr (s : State) (a : Nat) : Option Nat :=
  if a < 0x2000000 then some a
  else if a < 0x4000000 then
    let o := getF s (HIF_APERTURE ((a - 0x2000000) / 0x800000)) HIF_APERTURE_BASE * 0x800000 + a % 0x800000
    if o < 0x8000000 then some o else none
  else none

/-- The CSR offset of an access: a BAR0 offset from PCIe (source 0), a CSR offset otherwise. -/
def accessOff (s : State) (src : Nat) (a : Nat) : Option Nat :=
  if src = 0 then bar0Csr s a else if a < 0x8000000 then some a else none

/-! ### Reads -/

/-- A read: what it returns, and what reading does (R35, R440, R471). No field of the map has access RC. -/
def csrRead (s : State) (src off : Nat) : Word × State :=
  if !readable s src off then (0, s)
  else if off = 0x100018 then readTime s
  else if off = 0x300038 then readBb s
  else if off = 0x400230 then readAtt s
  else (peek s off, s)

/-! ### Values out of range -/

/-- Sustained package power of the grade, W (Table 16.8). -/
def tdp (s : State) : Nat := if s.sec.cfg.grade = 1 then 2750 else 2900

/-- A rate correction within ±100 ppm, in units of 2^-32 (R34). -/
def clampAdj (v : Nat) : Nat :=
  let x := (BitVec.ofNat 32 v).toInt
  ((max (-429496) (min 429496 x)) % 2 ^ 32).toNat

/-- Clamp a field of a written value. -/
def clampF (f : Fld) (lo hi : Nat) (w : Word) : Word := fset f w (clamp lo hi (fget f w))

/-- A LOG2SIZE other than 4 to 16 is taken as 4 (Table 15.12, Table 15.13). -/
def ringCtrl (f : Fld) (w : Word) : Word := if 4 ≤ fget f w ∧ fget f w ≤ 16 then w else fset f w 4

/-- A register of a command or completion ring: what the write is taken as, if it is not ignored. -/
def takenRing (s : State) (off : Nat) (w : Word) : Option Word :=
  let cr := decide (off < 0x520000)
  let base := off - off % 0x40
  let en := if cr then isSet s (base + 8) HIF_CR_CTRL_EN else isSet s (base + 8) HIF_QR_CTRL_EN
  if off % 0x40 = 8 then some (ringCtrl (if cr then HIF_CR_CTRL_LOG2SIZE else HIF_QR_CTRL_LOG2SIZE) w)
  else if en then none
  else some w

/-- What a write of an RW register is taken as; none where it is ignored. `w` is the register with the written bits. -/
def takenRw (s : State) (off : Nat) (w : Word) : Option Word :=
  if off = FTU_RATE_ADJ then some (fset FTU_RATE_ADJ_ADJ w (clampAdj (fget FTU_RATE_ADJ_ADJ w)))
  else if off = PWR_LIMIT then
    some (clampF PWR_LIMIT_PL 500 (tdp s) (clampF PWR_LIMIT_WINDOW 1 255 (clampF PWR_LIMIT_TDC_LIMIT 500 2200 w)))
  else if off = PWR_THERM then some (clampF PWR_THERM_T_THROTTLE 85 103 w)
  else if off = FLT_CTRL then some (clampF FLT_CTRL_TEST_HOURS 1 24 w)
  else if off = FLT_BB_ADDR then some (fset FLT_BB_ADDR_OFFSET w (bbAlign (fget FLT_BB_ADDR_OFFSET w)))
  else if off = SEC_ATT_ADDR then some (fset SEC_ATT_ADDR_ADDR w (fget SEC_ATT_ADDR_ADDR w / 8 * 8))
  else if off = HIF_BAR2_BASE then (if fget HIF_BAR2_BASE_WIN w = 3 then none else some w)
  else if 0x510000 ≤ off ∧ off < 0x530000 then takenRing s off w
  else if off = PUP_QER_TIMEOUT then some (clampF PUP_QER_TIMEOUT_MS 1 65535 w)
  else if off = SWC_FENCE_TIMEOUT 0 then some (clampF SWC_FENCE_TIMEOUT_VALUE 10 100000 w)
  else if 0x2000000 ≤ off ∧ off < 0x3000000 then
    (if (off - 0x2000000) % 0x400000 = 0x2000 ∨ (off - 0x2000000) % 0x400000 = 0x2040 then some (clampF SWC_MIR_CTRL_TRUNC 64 2112 w)
     else some w)
  else if off = TSC_SAMPLE_PERIOD then some (clampF TSC_SAMPLE_PERIOD_US 1 1000000 w)
  else if off = TSC_TEL_BASE ∨ off = TSC_TEL_SIZE then (if isSet s TSC_TEL_CTRL TSC_TEL_CTRL_EN then none else some w)
  else if off = RED_TAG_TIMEOUT 0 then some (clampF RED_TAG_TIMEOUT_VALUE 1000 4000000 w)
  else if off = RED_DATA_TIMEOUT 0 then some (clampF RED_DATA_TIMEOUT_VALUE 1000 4000000 w)
  else if off = MEM_SCRUB then some (clampF MEM_SCRUB_PERIOD 1 255 w)
  else some w

/-- LNK_BUNDLE_CTRL: REACH 3 needs a fitted engine and ETH class H, and ADV_MAX and DISC_TO have least values
(Table 12.10, R321). `old` is the value last written. -/
def takenBundle (s : State) (off : Nat) (old w : Word) : Word :=
  let w := if fget LNK_BUNDLE_CTRL_REACH w = 3 ∧ isSet s (LNK_BUNDLE_STATUS ((off - 0x1000000) / 0x10000)) LNK_BUNDLE_STATUS_OPT_PRESENT = false
    then fset LNK_BUNDLE_CTRL_REACH w (fget LNK_BUNDLE_CTRL_REACH old) else w
  let w := if fget LNK_BUNDLE_CTRL_CLASS w = 2 then w else fset LNK_BUNDLE_CTRL_ETH w (fget LNK_BUNDLE_CTRL_ETH old)
  clampF LNK_BUNDLE_CTRL_ADV_MAX 2 255 (clampF LNK_BUNDLE_CTRL_DISC_TO 1 255 w)

/-- What an RWQ write is taken as. -/
def takenRwq (s : State) (off : Nat) (old w : Word) : Word :=
  if 0x1000000 ≤ off ∧ off < 0x1200000 then
    let o := off % 0x10000
    if o = 0x8 then takenBundle s off old w
    else if 0x1000 ≤ o ∧ o < 0x2000 ∧ o % 0x80 = 0 then clampF LNK_PORT_CTRL_VER_MAX 0x30 0x52 w
    else w
  else if 0x3000000 ≤ off ∧ off < 0x3400000 ∧ off % 0x1000 = 0x028 then
    clampF TSC_THROTTLE_MIN_LEVEL 1 15 (clampF TSC_THROTTLE_INTERVAL 1 255 w)
  else if 0x6000000 ≤ off ∧ off < 0x6100000 ∧ off % 0x10000 = 0x18 then
    (if isSet s (CLU_STATUS ((off - 0x6000000) / 0x10000)) CLU_STATUS_NO_SPARE then fset CLU_SWAP_REQ w (fget CLU_SWAP_REQ old) else w)
  else w

/-! ### Writes of the plain access codes -/

/-- A register's fields that satisfy a test of the access code. -/
def codeMask (off : Nat) (p : Acc → Bool) : Word := match findReg off with | some (r, _) => accMask p r.fields | none => 0

/-- Device-event vector of a status register's events (R396). -/
def eventVector (off : Nat) : Option Nat :=
  if off = FTU_STATUS then some 1
  else if off = PWR_STATUS then some 2
  else if off = FLT_STATUS then some 0
  else if off = SEC_STATUS ∨ off = SEC_PROV_STATUS then some 3
  else if 0x1000000 ≤ off ∧ off < 0x1200000 then some 4
  else none

/-- Ones among the low `n` bits of a word (structural in `n`). -/
def ones (w : Word) : Nat → Nat
  | 0 => 0
  | n + 1 => b2n (w.getLsbD n) + ones w n

/-- Bits [63:56] of a status register. -/
def resetCnt : Fld := ⟨56, 8⟩

/-- The W1C bits of a register (R402): ones clear, a set of the same cycle wins, and each bit in which both met counts
in RESET_CNT. -/
def writeW1c (s : State) (off : Nat) (v hwSet : Word) : State :=
  let m := codeMask off (· == .w1c)
  if m = 0 then s
  else
    let old := reg s off
    let new := (old &&& ~~~(v &&& m)) ||| (hwSet &&& m)
    let s := setReg s off (fset resetCnt new (satAdd 8 (fget resetCnt old) (ones (v &&& hwSet &&& m) 64)))
    if hwSet &&& m = 0 then s
    else match eventVector off with
      | some i => eventMsg s i
      | none => s

/-- A completion ring that is enabled again goes on at its TAIL (R386). (DESIGN CHOICE, log entry 15.) -/
def resumeQ (s : State) (q : Nat) : State := qDrain q (qring s q).waiting (setF s (HIF_QR_STATUS q) HIF_QR_STATUS_RING_ERR 0)

/-- What follows an RW write, `old` being the value before it. -/
def afterRw (s : State) (off : Nat) (old : Word) : State :=
  if 0x510000 ≤ off ∧ off < 0x514000 ∧ off % 0x40 = 8 then
    (if old.getLsbD 0 = false ∧ isSet s off HIF_CR_CTRL_EN = true then setF s (off + 0x10) HIF_CR_STATUS_RING_ERR 0 else s)
  else if 0x520000 ≤ off ∧ off < 0x524000 ∧ off % 0x40 = 8 then
    (if old.getLsbD 0 = false ∧ isSet s off HIF_QR_CTRL_EN = true then resumeQ s ((off - 0x520000) / 0x40) else s)
  else if 0x540000 ≤ off ∧ off < 0x541200 ∧ off % 16 = 8 then sendPending s ((off - 0x540000) / 16)
  else s

/-- The RW bits of a register take effect at once. (DESIGN CHOICE, log entry 16.) -/
def writeRw (s : State) (off : Nat) (v : Word) : State :=
  let m := codeMask off (· == .rw)
  if m = 0 then s
  else
    let old := reg s off
    match takenRw s off ((old &&& ~~~m) ||| (v &&& m)) with
    | some w => afterRw (setReg s off w) off old
    | none => s

/-- An alarm register (R44, R50). -/
def isAlarm (off : Nat) : Bool := decide (0x101000 ≤ off) && decide (off < 0x105000)

/-- A register of firmware's alarms 960 to 1,023, or a quota of a requester of no port group (R50, R398): the Puppeteer
alone writes it, at once. -/
def firmwareOnly (off : Nat) : Bool :=
  (decide (0x104C00 ≤ off) && decide (off < 0x105000))
    || (decide (0x2000000 ≤ off) && decide (off < 0x3000000) && decide (0x1400 ≤ (off - 0x2000000) % 0x400000)
        && decide ((off - 0x2000000) % 0x400000 < 0x14A0))

/-- The RWQ bits of a register (R398): kept for the RESTART while the domain is quiesced, dropped otherwise. `shown` is
the offset that the access named. -/
def writeRwq (s : State) (src shown off : Nat) (v : Word) : State :=
  let m := rwqMask off
  if m = 0 then s
  else if isAlarm off && !isSet s FTU_STATUS FTU_STATUS_VALID then dropWrite s src shown
  else if firmwareOnly off then
    (if src = 2 then setReg s off (takenRwq s off (reg s off) (mergeRwq off (reg s off) v)) else dropWrite s src shown)
  else if editable s off then
    let old := (editOf s off).getD (reg s off)
    setEdit s off (some (takenRwq s off old (mergeRwq off (reg s off) v)))
  else dropWrite s src shown

/-! ### PCIe boot (R463) -/

/-- GO in PCIe boot starts the read of a bundle; elsewhere, and while one is read, it has no effect. -/
def bootGo (s : State) : State := if getF s HUB_BOOT HUB_BOOT_FAIL = 5 then setF s HUB_BOOT_LEN HUB_BOOT_LEN_GO 1 else s

/-- BOOT_GO (R463). -/
def execBootGo (s : State) : Host.Outcome State Fault Refusal := .next (if reach s == .boot then bootGo s else s)

/-! ### One write -/

/-- A register whose write starts an action of its own. -/
def writeAction (s : State) (src off : Nat) (v : Word) : Option State :=
  if off = FTU_CTRL then some (writeFtuCtrl s v)
  else if off = TSC_TEL_CTRL then some (writeTelCtrl s v)
  else if off = PWR_CTRL then some (writePwrCtrl s v)
  else if off = FLT_ACK then some (if src < 2 then writeAck s v else s)
  else if off = FLT_RETURN then some (writeReturn s v)
  else if off = FLT_BB_CTRL then some (if fget FLT_BB_CTRL_UNSEAL v = 1 then writeUnseal s else s)
  else if FLT_FORCE 0 ≤ off ∧ off < FLT_FORCE 192 ∧ off % 8 = 0 then some (writeForce s ((off - FLT_FORCE 0) / 8) v)
  else if off = SEC_ATT_CTRL then some (if fget SEC_ATT_CTRL_REQ v = 1 then requestReport s else s)
  else if off = HUB_BOOT_LEN then
    let s := writeRw s off v
    some (if fget HUB_BOOT_LEN_GO v = 1 then bootGo s else s)
  else none

/-- A write that has arrived, to the register that stands at an offset (R13). -/
def writeReg (s : State) (src shown off : Nat) (v hwSet : Word) : State :=
  match writeAction s src off v with
  | some s' => s'
  | none => writeRwq (writeRw (writeW1c s off v hwSet) off v) src shown off v

/-- A CSR write: ignored where it does not arrive, where a reset or HALT closes the block, and where no register stands
(R3, R12, R315, R318, R442, R467). -/
def csrWrite (s : State) (src off : Nat) (v hwSet : Word) : State :=
  if !writable s src off || inAbsentCore s off || noPort s off then s
  else writeReg s src off (canon off) v hwSet

/-- REGISTER_WRITE. -/
def execRegisterWrite (src : Fin 3) (addr v hwSet : Word) (s : State) : Host.Outcome State Fault Refusal :=
  .next (match accessOff s src addr.toNat with
    | some off => csrWrite s src off v hwSet
    | none => s)

/-- MCTP_CSR_READ (R404). -/
def execMctpCsrRead (off : Word) (s : State) (via : MctpTo := ⟨false, 0⟩) : Host.Outcome State Fault Refusal :=
  .next (if mctpIn s via then
      let s := takeEid s via
      (match accessOff s 1 off.toNat with
       | some o => let (v, s) := csrRead s 1 o; emit s (.read v)
       | none => emit s (.read 0))
    else s)

/-- MCTP_CSR_WRITE (R404). -/
def execMctpCsrWrite (off v hwSet : Word) (s : State) (via : MctpTo := ⟨false, 0⟩) : Host.Outcome State Fault Refusal :=
  .next (if mctpIn s via then
      let s := takeEid s via
      (match accessOff s 1 off.toNat with
       | some o => csrWrite s 1 o v hwSet
       | none => s)
    else s)

/-! ### The Puppeteer's instructions (R218) -/

/-- CSR.R. -/
def execCsrR (p : PupId) (gd ga : GReg) (s : State) : Host.Outcome State Fault Refusal :=
  .next (issuePup s p (fun s => match accessOff s 2 (getG s (.pup p) ga).toNat with
    | some o => let (v, s) := csrRead s 2 o; retire s (.pup p) gd v 1
    | none => retire s (.pup p) gd 0 1))

/-- CSR.W. -/
def execCsrW (p : PupId) (ga gb : GReg) (s : State) : Host.Outcome State Fault Refusal :=
  .next (issuePup s p (fun s => match accessOff s 2 (getG s (.pup p) ga).toNat with
    | some o => advance (csrWrite s 2 o (getG s (.pup p) gb) 0) (.pup p) 1
    | none => advance s (.pup p) 1))

/-- IRQ.WAIT: pending causes are reported at once; else the core waits. -/
def irqWait (s : State) (p : PupId) (gd : GReg) : State :=
  let c := pup s p
  match c.irq with
  | some v => retire (setPup s p { c with irq := none }) (.pup p) gd v 1
  | none => setF (setPup s p { c with wait := some gd }) (PUP_CORE p) PUP_CORE_STATE 1

/-- IRQ.WAIT (R218). -/
def execIrqWait (p : PupId) (gd : GReg) (s : State) : Host.Outcome State Fault Refusal :=
  .next (issuePup s p (fun s => irqWait s p gd))

end Sys2Proof.Machine
end

