-- ==== Sys2Proof/Machine/Boot.lean ====
section
/-! DEFINITION. Power, pins and resets (R386, R417, R441–R444, R482, R483), and start-up: the steps of Table 18.5, PCIe
boot, and the exit from a warm reset (R360–R362, R460–R469). -/
namespace Sys2Proof.Machine

/-! ### Cold reset (R45, R435, R483) -/

/-- A storage key of a memory tier. -/
def tierKey (k : Nat) : Bool := decide (0x010000000000 ≤ k) && decide (k < 0x080000000000)
/-- A storage key of tier 2, which no reset of the device touches (R361). (DESIGN CHOICE, log entry 26.) -/
def tier2Key (k : Nat) : Bool := decide (0x040000000000 ≤ k) && decide (k < 0x080000000000)

/-- What the black box keeps of the collector; the history goes on in a new page (R437, R439, R449, R450). -/
def keptFlt (f : Flt) : Flt :=
  { Flt.cold with bb := f.bb, bbBad := f.bbBad, nextSeq := f.nextSeq, obs := f.obs, lasting := f.lasting,
                  histPage := f.histPage, histCount := if f.histCount = 0 then 0 else 1022 }

/-- The device held in cold reset: everything at its cold value but the pins, MRAM, the boot flash, tier 2, and the fingerprint
that the next is compared with (R365). (DESIGN CHOICE, log entry 24.) -/
def coldHeld (s : State) : State :=
  let b : Boot := { State.reset.boot with perst := s.boot.perst, tapIr := s.boot.tapIr, tapDr := s.boot.tapDr, mgmtAddr := s.boot.mgmtAddr, eidI3c := s.boot.eidI3c }
  { State.reset with pending := s.pending, out := s.out, free := s.free, boot := b, nvm := s.nvm, flt := keptFlt s.flt,
                     sec := { Sec.cold with fp := s.sec.fp }, mem := s.mem.filter (fun c => tier2Key c.1), bad := s.bad.filter tier2Key }

/-- A low pulse of a reset input passes the input's 100 ns filter (R482). -/
def passes (low : Nat) : Bool := 100 ≤ low

/-- POWER_ON_RESET (R430, R483): PORST_N overrides every other reset, and leaves a halted device halted; the open record is
closed and written. -/
def execPowerOnReset (s : State) (low : Nat := 1000000) : Host.Outcome State Fault Refusal :=
  .next (if passes low && standby s && s.boot.rails && !s.boot.halt then coldHeld (closeRecord s) else s)

/-- VSTBY_REMOVED (R442, R45): the last rail falls; the HALT latch and FT are lost, and the memory devices lose power. -/
def execVstbyRemoved (s : State) : Host.Outcome State Fault Refusal :=
  let t := coldHeld s
  .next { t with boot := { State.reset.boot with vstby := false, rails := false }, sec := Sec.cold, mem := [], bad := [] }

/-- POWER_ON (R417): the rails are up, with PORST_N low. -/
def execPowerOn (s : State) : Host.Outcome State Fault Refusal :=
  .next { s with boot := { s.boot with vstby := true, rails := true } }

/-! ### The PCIe link (R383, R386, R467, R482) -/

/-- The host interface after PERST_N, a function-level reset or a link down: every ring's EN is clear, the function
is in D0, and MSI-X is not enabled. (PRESUMED, log entry 19.) -/
def hifReset (s : State) : State :=
  disableRings { s with boot := { s.boot with d3hot := false, msixEn := false, msixMask := false } } allRings

/-- PERST_N. -/
def execPerstN (s : State) (low : Nat := 1000000) : Host.Outcome State Fault Refusal :=
  .next (if passes low then hifReset { s with boot := { s.boot with perst := true, pcieUp := false } } else s)

/-- FUNCTION_LEVEL_RESET. -/
def execFunctionLevelReset (s : State) : Host.Outcome State Fault Refusal := .next (if hostUp s then hifReset s else s)

/-- PCIE_LINK_DOWN. -/
def execPcieLinkDown (s : State) : Host.Outcome State Fault Refusal :=
  .next (if s.boot.pcieUp then hifReset { s with boot := { s.boot with pcieUp := false } } else s)

/-- D3HOT. -/
def execD3hot (s : State) : Host.Outcome State Fault Refusal :=
  .next (if hostUp s then { s with boot := { s.boot with d3hot := true } } else s)

/-- PERST_N_RELEASE (R482). -/
def execPerstNRelease (s : State) : Host.Outcome State Fault Refusal := .next { s with boot := { s.boot with perst := false } }

/-- Enabled completion rings write what waited for the link. -/
def resumeRings (s : State) : State :=
  s.qrings.foldl (fun s e => if isSet s (HIF_QR_CTRL e.1) HIF_QR_CTRL_EN && !(qring s e.1).polling then qDrain e.1 (qring s e.1).waiting s else s) s

/-- PCIE_LINK_UP: from step 13, or from step 7 in PCIe boot (R467). -/
def execPcieLinkUp (s : State) : Host.Outcome State Fault Refusal :=
  .next (if standby s && s.boot.rails && !s.boot.porst && !s.boot.perst
      && ((s.boot.up && 13 ≤ getF s HUB_BOOT HUB_BOOT_STEP) || s.boot.pcieBoot) then
      resumeRings { s with boot := { s.boot with pcieUp := true } }
    else s)

/-- The function's identity (R383). -/
def pciIdentity (s : State) : PciIdentity :=
  { vendor := 0x1FD7, device := 0x0C90, revision := 0xB0, classCode := 0x120000, subVendor := 0x1FD7,
    subsystem := BitVec.ofNat 16 (s.sec.cfg.variant.toNat % 16 + s.sec.cfg.grade.toNat % 16 * 2 ^ 4 + s.sec.cfg.stepping.toNat * 2 ^ 8),
    serial := deviceId s }

/-- What a configuration request does (R383, R396): D0 or D3hot; MSI-X Enable and Function Mask, under which pending messages
may leave. -/
def configure (s : State) (op : CfgOp) : State :=
  match op with
  | .read => s
  | .power d3 => { s with boot := { s.boot with d3hot := d3 } }
  | .msix en mask => (List.range 288).foldl sendPending { s with boot := { s.boot with msixEn := en, msixMask := mask } }

/-- CONFIGURATION_REQUEST (R467): answered normally once step 13 has ended, and in PCIe boot; with Request Retry Status before,
and then without effect. -/
def execConfigurationRequest (s : State) (op : CfgOp := .read) : Host.Outcome State Fault Refusal :=
  .next (if hostUp s then
      if s.boot.opened || s.boot.pcieBoot then emit (configure s op) (.configOk (pciIdentity s)) else emit s .retryStatus
    else s)

/-! ### What the configuration record and the bundle set -/

/-- Record's CLU_MAP value of a cluster. -/
def recordMap (r : ConfigRecord) (c : Nat) : Word := r.disabledMap.getD c 0x7FFF

/-- Local core in a slot of a CLU_MAP value; 7 names none. -/
def mapSlot (w : Word) (j : Nat) : Nat := fget (mapField j) w

/-- A lasting fence in a cluster's map (R450): the spare takes the fenced core's place, if there is one. -/
def fenceInMap (w : Word) (l : Nat) : Word :=
  if mapSlot w 4 = l then fset CLU_MAP_SPARE w 7
  else match [0, 1, 2, 3].find? (fun j => mapSlot w j == l) with
    | some j => fset CLU_MAP_SPARE (fset (mapField j) w (mapSlot w 4)) 7
    | none => w

/-- CLU_MAP at cold reset: the record's, then the lasting fences. (DEDUCED, log entry 21.) -/
def coldMap (s : State) (r : ConfigRecord) (c : Nat) : Word :=
  (s.flt.lasting.filter (fun u => decide (u < 80) && u / 5 == c)).foldl (fun w u => fenceInMap w (u % 5)) (recordMap r c)

/-- State and identity of a core by a map (Table 5.14). -/
def placeCore (s : State) (r : ConfigRecord) (n : Nat) : State :=
  let w := reg s (CLU_MAP (n / 5))
  let l := n % 5
  let st := if [0, 1, 2, 3, 4].all (fun j => mapSlot (recordMap r (n / 5)) j != l) then 0
    else if s.flt.lasting.contains n then 6
    else if mapSlot w 4 = l then 1 else 2
  let id := match [0, 1, 2, 3].find? (fun j => mapSlot w j == l) with | some j => 4 * (n / 5) + j | none => 0xFF
  let s := setF (setF s (CORE_STATUS n) CORE_STATUS_STATE st) (CORE_STATUS n) CORE_STATUS_LOGICAL id
  let s := setF s (CORE_STATUS n) CORE_STATUS_OBSERVE (b2n (observed s n))
  (List.range 4).foldl (fun s a => setKnown s (CORE_ROWMAP n a) (r.rowMap.getD (4 * n + a) 0x7F7F)) s

/-- A cluster's map and NO_SPARE. -/
def placeCluster (s : State) (r : ConfigRecord) (c : Nat) : State :=
  let w := coldMap s r c
  setF (setKnown s (CLU_MAP c) w) (CLU_STATUS c) CLU_STATUS_NO_SPARE (b2n (mapSlot w 4 == 7))

/-- Engines under a lasting fence (R450). -/
def fenceEngines (s : State) : State :=
  (List.range 16).foldl (fun s e => if s.flt.lasting.contains (80 + e) then setF s (RED_STATUS e) RED_STATUS_FENCED 1 else s) s

/-- Optical sites, and the addresses of the class H ports (R322, R344). -/
def placeLinks (s : State) (r : ConfigRecord) : State :=
  let s := (List.range 16).foldl (fun s i =>
    if r.optSites.getLsbD i then
      setF (setF s (LNK_BUNDLE_STATUS (8 + i)) LNK_BUNDLE_STATUS_OPT_PRESENT 1) (LNK_OPT_STATUS (8 + i)) LNK_OPT_STATUS_PRESENT 1
    else s) s
  (List.range 128).foldl (fun s i => setReg s (LNK_ETH_ADDR (28 + i / 32) (i % 32)) (zext (r.baseMac + BitVec.ofNat 48 i))) s

/-- The configuration record in use (Table 18.4): maps, setpoint, limits, sites and addresses. -/
def takeRecord (s : State) (r : ConfigRecord) : State :=
  let s := { s with sec := { s.sec with cfg := r } }
  let s := (List.range 16).foldl (fun s c => placeCluster s r c) s
  let s := (List.range 80).foldl (fun s n => placeCore s r n) s
  let s := placeLinks (fenceEngines s) r
  let s := setF s PWR_VCORE PWR_VCORE_SETPOINT (clamp 600 850 r.vcoreMv.toNat)
  setF s PWR_LIMIT PWR_LIMIT_PL (tdp s)

/-- The fingerprint of the record and the bundle in force; another than the last one is a change (R365). -/
def newFp (s : State) : State :=
  let t := computeFp s
  if s.sec.fp != 0 && t.sec.fp != s.sec.fp then event t SEC_PROV_STATUS SEC_PROV_STATUS_FP_CHANGED_EVENT 3 else t

/-- A verified bundle is in force, from flash slot 0 or 1, or from the host (2), and the fingerprint follows (R365). -/
def takeBundle (s : State) (b : BundleImage) (source : Nat) : State :=
  newFp (setF (setF { s with sec := { s.sec with bundle := some b } } HUB_BOOT HUB_BOOT_SOURCE source) HUB_BOOT HUB_BOOT_FAIL 0)

/-- The Puppeteer's cores take their CONTROL images and roles from the bundle in force (R382). -/
def loadControl (s : State) : State :=
  match s.sec.bundle with
  | none => s
  | some b => (List.range 8).foldl (fun s p =>
      setF (setPup s p { pup s p with code := b.control.getD p [] }) (PUP_CORE p) PUP_CORE_ROLE (b.roles.getD p 0).toNat) s

/-! ### Steps 8 to 12 -/

/-- The step in progress. -/
def bootStep (s : State) (n : Nat) : State := setF s HUB_BOOT HUB_BOOT_STEP n

/-- T_align for a sequencer that arrives at an FT: the first multiple of 10 µs at least 1 µs later (R46). -/
def tAlign (arrival : Nat) : Nat := cdiv (arrival + 1000) 10000 * 10000

/-- Step 10: SRAM reads as zero, tiers 0 and 1 too after a cold reset (R361); a core whose SRAM fails has failed a
check. -/
def zeroSram (s : State) : State :=
  let keep := if s.boot.fromWarm then tierKey else tier2Key
  { s with mem := s.mem.filter (fun c => keep c.1), bad := s.bad.filter keep }

/-- A window by number (3 × die + tier) is present, of a size (R353, R362); one lost before a warm reset stays lost
(R359). (DEDUCED, log entry 25.) -/
def placeWindow (sizes : List Word) (s : State) (w : Nat) : State :=
  let d := w / 3
  let f := tierSizeF (w % 3)
  let size := if s.lostWin.contains w then 0 else fget f (sizes.getD d 0)
  let ok := getF s MEM_STATUS (tierOk (w % 3))
  let ok := if bit ok d then ok - 2 ^ d else ok
  setF (setF s (MEM_TIER_SIZE d) f size) MEM_STATUS (tierOk (w % 3)) (if size = 0 then ok else ok + 2 ^ d)

/-- Step 11: the tiers come up, with the windows that trained (R353, R360–R362). -/
def tiersUp (s : State) (b : BootInputs) : State :=
  let sizes := b.tierSize.zipIdx.map (fun e => (List.range 3).foldl (fun (w : Word) t =>
    if b.failedWindows.any (fun x => x.val == 3 * e.2 + t) || (t == 1 && b.mixedTier1.any (fun d => d.val == e.2)) then fset (tierSizeF t) w 0
    else w) e.1)
  (List.range 12).foldl (placeWindow sizes) s

/-- What steps 10 and 11 have met, lowest source first (R432, R466): a failed check of a core whose SRAM failed, a UNIT fault
for a window whose training failed, a NOTE for a die whose channels disagree. A disabled core has no check (R3). -/
def bootFaults (s : State) (b : BootInputs) : State :=
  let s := (List.range 80).foldl (fun s n => if b.badCores.any (fun x => x.val == n) && !coreAbsent s n then checkFails s n else s) s
  (List.range 12).foldl (fun s w =>
    let s := if b.failedWindows.any (fun x => x.val == w) then fault s (148 + w) 0x08 2 0xFFFF 0 else s
    if w % 3 == 1 && b.mixedTier1.any (fun d => d.val == w / 3) then note s (148 + w) 0x08 0 else s) s

/-- Step 12: the ports of the plan in force after a warm reset train again; a plan from the plan slot comes into force. Without
a plan the bundles have the classes of R317. -/
def discoverPlan (s : State) (plan : Option Plan) : State :=
  match s.sec.plan with
  | some _ => (List.range 1024).foldl startTraining s
  | none => match plan with
    | some p => installPlan p s
    | none => applyClasses defaultClass s

/-- Step 11, the beginning of step 12, and the statement's boot nonce (R334). -/
def openDevice (s : State) (b : BootInputs) (plan : Option Plan) : State :=
  let s := startMesh (loadControl (tiersUp (bootStep s 11) b))
  let (x, s) := fresh s
  let (y, s) := fresh s
  let s := { s with sec := { s.sec with nonce := BitVec.ofNat 128 (x.toNat + y.toNat * 2 ^ 64), signFt := now s },
                    boot := { s.boot with up := true } }
  bootAdvance (evalAll (discoverPlan (enterStep (bootFaults s b) 12) plan))

/-- Steps 8 to 12 (R465, R466, R480). (DEDUCED, log entry 22.) -/
def runClocks (s : State) (b : BootInputs) (plan : Option Plan) : State :=
  if !b.pllOk || s.boot.clockLost then holdBoot { s with boot := { s.boot with pcieBoot := false } } 8 6
  else
    let s := advanceTo (bootStep s 9) b.alignArrival
    let s := { s with boot := { s.boot with aligning := some (BitVec.ofNat 64 (tAlign b.alignArrival.toNat)) } }
    let s := zeroSram (bootStep s 10)
    if !b.bufferSramOk then holdBoot { s with boot := { s.boot with pcieBoot := false } } 10 7
    else openDevice s b plan

/-! ### Step 7 (R463) -/

/-- The plan slot: read and verified against the owner (R461, R465). (DEDUCED, log entry 28.) -/
def readPlan (s : State) (b : BootInputs) : Option Plan × State :=
  match s.nvm.planSlot with
  | none => (none, s)
  | some p =>
    if b.flashOk then
      let ok := planOk s p b.planSlot
      (if ok then some p else none, countVerify s ok)
    else (none, s)

/-- The bundle slots in the order tried: the higher SEQUENCE first. -/
def slotOrder (s : State) (b : BootInputs) : List (Nat × BundleImage × SigCheck) :=
  let l0 := match s.nvm.slot0 with | some (q, i) => [(q.toNat, 0, i, b.slot0)] | none => []
  let l1 := match s.nvm.slot1 with | some (q, i) => [(q.toNat, 1, i, b.slot1)] | none => []
  let l := match l0, l1 with
    | [x], [y] => if x.1 < y.1 then [y, x] else [x, y]
    | _, _ => l0 ++ l1
  l.map (fun e => e.2)

/-- Try slots until one verifies (R463). -/
def trySlots : List (Nat × BundleImage × SigCheck) → State → Option (Nat × BundleImage) × State
  | [], s => (none, s)
  | (k, i, c) :: l, s => if bundleOk s i c then (some (k, i), countVerify s true) else trySlots l (countVerify s false)

/-- Step 7: a bundle from flash, or PCIe boot; a flash that does not answer gives nothing to verify. -/
def bundleStep (s : State) (b : BootInputs) : State :=
  let (r, s) := trySlots (if b.flashOk then slotOrder s b else []) (bootStep s 7)
  match r with
  | some (k, i) =>
    let (plan, s) := readPlan (takeBundle s i k) b
    runClocks s b plan
  | none => holdBoot { s with boot := { s.boot with pcieBoot := true } } 7 5

/-- PCIE_BOOT_VERIFY_DONE (R463): the bundle that GO asked for is read and verified. (DESIGN CHOICE, log entry 48.) -/
def pcieBootDone (s : State) (img : BundleImage) (c : SigCheck) (b : BootInputs) : State :=
  let ok := bundleOk s img c
  let s := countVerify (setF s HUB_BOOT_LEN HUB_BOOT_LEN_GO 0) ok
  if ok then
    let (plan, s) := readPlan (takeBundle s img 2) b
    runClocks s b plan
  else setF s HUB_BOOT HUB_BOOT_FAIL 5

def execPcieBootVerifyDone (img : BundleImage) (c : SigCheck) (b : BootInputs) (s : State) : Host.Outcome State Fault Refusal :=
  .next (if reach s == .boot && isSet s HUB_BOOT_LEN HUB_BOOT_LEN_GO then pcieBootDone s img c b else s)

/-! ### Steps 4 to 6 -/

/-- SEQ of the record that a slot of the ring holds, by the slot's first word; none when its CRC fails (R436). -/
def slotSeq (s : State) (w : Nat) : Option Nat :=
  let ws := (List.range 8).map (fun i => mapGet (fun _ => (0 : Word)) s.flt.bb (w + i))
  let c := crc32c ((wordsToBytes ws).take 60)
  if bits (wordAt ws 7).toNat 63 32 = c.toNat then some (bits (wordAt ws 0).toNat 31 0) else none

/-- The later of two numbers modulo 2^32, the ring's records lying close together (R436). -/
def laterSeq (m q : Nat) : Nat := if (q + 2 ^ 32 - m) % 2 ^ 32 < 2 ^ 31 then q else m

/-- SEQ of the latest valid record of the ring's copies, if there is one (R437). -/
def latestSeq (s : State) : Option Nat :=
  s.flt.bb.foldl (fun m e =>
    if ringA ≤ e.1 ∧ e.1 < ringA + 524288 then
      match slotSeq s (e.1 - e.1 % 8) with
      | some q => some (match m with | some m => laterSeq m q | none => q)
      | none => m
    else m) none

/-- The SEQ that follows the ring's latest valid record, or 0 (R437). -/
def nextSeqOf (s : State) : Nat := match latestSeq s with | some q => q + 1 | none => 0

/-- The device runs again from cold reset: FT starts at 0, and the ring's next SEQ is found. -/
def releaseCold (s : State) : State :=
  let s := { s with boot := { s.boot with porst := false }, ftu := Ftu.cold }
  { s with flt := { s.flt with nextSeq := BitVec.ofNat 32 (nextSeqOf s) } }

/-- Step 4: the HALT segment found sealed (R444). -/
def findSeal (s : State) : State :=
  match sealedSegment s with
  | none => s
  | some q =>
    let s := setF (setF s FLT_STATUS FLT_STATUS_SEALED 1) FLT_STATUS FLT_STATUS_PREV_HALT 1
    logEvent { s with flt := { s.flt with sealedSeq := q } } 3 0x04 183 q

/-- Step 4: the seal, and the cold-boot count, in both copies (R444, R465). -/
def countBoot (s : State) : State :=
  let s := findSeal s
  let n := coldCount s + 1
  setF { s with nvm := { s.nvm with coldA := n, coldB := n } } HUB_BOOT HUB_BOOT_COLD_BOOTS n.toNat

/-- The first copy of an area of MRAM whose CRC holds (Tables 18.1 and 18.6). -/
def goodCopy (a b : Copy) : Option (List Byte) :=
  if crc32c a.bytes = a.crc then some a.bytes else if crc32c b.bytes = b.crc then some b.bytes else none

/-- Step 5: the root key out of the PUF, and the device keys unwrapped under SHA3-256 of it and 0x01 (R453, R454). -/
def takeKeys (s : State) (puf helper wrapped : List Byte) : State :=
  let root := Config.pufRoot puf helper
  let keys := Config.unwrapKeys (sha3 (digestBytes root ++ [1])) wrapped
  let s := { s with sec := { s.sec with rootKey := some root, keys := some keys } }
  setF (setF s SEC_STATUS SEC_STATUS_KEYS_READY 1) SEC_STATUS SEC_STATUS_OWNED (b2n s.nvm.owner.isSome)

/-- Step 6: copy A, then copy B (R460). -/
def recordStep (s : State) (b : BootInputs) : State :=
  let okA := configOk s s.nvm.cfgA b.cfgA
  let okB := configOk s s.nvm.cfgB b.cfgB
  let s := countVerify (countVerify (bootStep s 6) okA) okB
  let s := if okA && okB && s.nvm.cfgA != s.nvm.cfgB then logEvent s 3 0x05 183 0 else s
  if okA then bundleStep (takeRecord s s.nvm.cfgA) b
  else if okB then bundleStep (takeRecord s s.nvm.cfgB) b
  else holdBoot s 6 4

/-- COLD_START_UP (R465, R468): steps 4 to 12, or as far as the step that fails. (DESIGN CHOICE, log entry 8.) -/
def coldStart (s : State) (b : BootInputs) : State :=
  let s := bootStep (wear s b.worn) 4
  if s.boot.clockLost then holdBoot s 4 6
  else if !b.romOk then holdBoot s 4 1
  else match goodCopy s.nvm.helperA s.nvm.helperB, goodCopy s.nvm.wrappedA s.nvm.wrappedB with
    | some helper, some wrapped =>
      let s := countBoot s
      let s := { s with sec := { s.sec with puf := b.puf } }
      if !b.pufOk then holdBoot s 5 3
      else recordStep (takeKeys (bootStep s 5) b.puf helper wrapped) b
    | _, _ => holdBoot s 4 2

def execColdStartUp (b : BootInputs) (s : State) : Host.Outcome State Fault Refusal :=
  .next (if standby s && s.boot.rails && s.boot.porst && !s.boot.halt then coldStart (releaseCold s) b else s)

/-! ### Warm reset (R15, R50, R155, R361, R432, R469, R483) -/

/-- The live fields of a register at their cold values. -/
def liveCold : List FieldDef → Nat → Word → Word
  | [], _, v => v
  | f :: fs, i, v => let v' := liveCold fs i v; if f.warm = .live then fset f.fld v' (f.cold.at i) else v'

/-- Live fields of these blocks show state that a warm reset leaves alone: FTU, FLT, SEC, CORE and the levels of PWR. -/
def liveStays (off : Nat) : Bool :=
  (decide (0x100000 ≤ off) && decide (off < 0x500000) && !(decide (PWR_DOMAIN 0 ≤ off) && decide (off < PWR_DOMAIN 128)))
    || (decide (0x5000000 ≤ off) && decide (off < 0x6000000))

/-- A register's value after a warm reset. -/
def warmReg (off : Nat) (v : Word) : Word :=
  let w := warmValue off v
  if liveStays off then w
  else match findReg off with
    | some (r, ix) => liveCold r.fields (ix.getLastD 0) w
    | none => w

/-- Every register's value after a warm reset, in canonical form. -/
def warmRegs : List (Nat × Word) → List (Nat × Word)
  | [] => []
  | (k, v) :: m => if warmReg k v = coldValue k then warmRegs m else (k, warmReg k v) :: warmRegs m

/-- State of a core after a warm reset: its step, swap or wake has ended; tests that ran will run again. -/
def warmCore (s : State) (n : Nat) : State :=
  let st := getF s (CORE_STATUS n) CORE_STATUS_STATE
  let s := if st = 3 ∨ st = 5 then coreState s n (if isSpare s n then 1 else 2) else s
  setF s (CORE_STATUS n) CORE_STATUS_PSTATE 0

/-- Objects of jobs are unbound and zeroed; firmware's keep their state (R155). -/
def warmObjs (l : List (Nat × Obj)) : List (Nat × Obj) := l.filter (fun e => e.2.job == 0 || e.2.job == 0xFFFF#16)

/-- Working state of a completion ring that survives: the HEAD last read. -/
def warmQring (r : CplRing) : CplRing := { r with waiting := [], uncovered := 0, holdFirst := none, polling := false, full := false }

/-- Completion rings after a warm reset, in canonical form. -/
def warmQrings (l : List (Nat × CplRing)) : List (Nat × CplRing) :=
  (l.map (fun e => (e.1, warmQring e.2))).filter (fun e => e.2.head != 0)

/-- The collector after a warm reset: no snapshot goes on; tests keep their places. -/
def warmFlt (f : Flt) : Flt := { f with snap := none, wantAlarm := [] }

/-- The SEC unit after a warm reset: keys, record, bundle, plan and statements verified stay; its work and the kept records
are dropped (R377). -/
def warmSec (x : Sec) : Sec := { x with records := [], work := [], peers := [], challenge := [], body := [], report := [], prov := [] }

/-- The power manager after a warm reset: every domain is awake; thermal and supply watching goes on. -/
def warmPwr (p : Pwr) : Pwr := { p with waking := [], entering := [], alarms := [], starved := [], restarted := false, planned := false }

/-- A register of a region entry that a job owns. -/
def jobRegion (s : State) (off : Nat) : Bool :=
  decide (MEM_REGION 0 ≤ off) && decide (off < MEM_REGION 1024)
    && getF s (MEM_REGION_W1 ((off - MEM_REGION 0) / 16)) MEM_REGION_W1_JOB_ID != 0xFFFF

/-- The registers that a warm reset leaves: their Warm columns, and no region entry of a job (Table 13.9). -/
def warmCsr (s : State) : List (Nat × Word) := warmRegs (s.csr.filter (fun e => !jobRegion s e.1))

/-- Everything that a warm reset ends. (DESIGN CHOICE, log entry 23.) -/
def warmState (s : State) : State :=
  let t : State := { s with
    csr := warmCsr s, edits := [], ftu := { s.ftu with fired := [], owner := [] }, flt := warmFlt s.flt, sec := warmSec s.sec,
    pwr := warmPwr s.pwr, crings := [], qrings := warmQrings s.qrings, qids := [], cores := [], pups := [], objs := warmObjs s.objs,
    jobs := [], slots := [], slotQ := [], net := { Net.cold with dark := s.net.dark }, coll := Coll.cold,
    mem := s.mem.filter (fun c => tierKey c.1), bad := s.bad.filter tierKey,
    boot := { s.boot with warm := true, up := false, opened := false, pcieBoot := false, aligning := none } }
  let t := setF t SEC_PROV_STATUS SEC_PROV_STATUS_BUSY 0
  let t := (List.range 16).foldl (fun t i =>
    setF t (LNK_BUNDLE_STATUS (8 + i)) LNK_BUNDLE_STATUS_OPT_FAULT (getF t (LNK_OPT_STATUS (8 + i)) LNK_OPT_STATUS_FAULT)) t
  let t := (List.range 16).foldl (fun t c => setF t (CLU_STATUS c) CLU_STATUS_NO_SPARE (b2n (getF t (CLU_MAP c) CLU_MAP_SPARE == 7))) t
  let t := (List.range 80).foldl warmCore t
  setF (setF t HUB_BOOT HUB_BOOT_STEP 8) HUB_BOOT HUB_BOOT_READY 0

/-- WARM_RESET (R432, R483): WRST_N or a register request. The open record is closed and written, and a BOOT record
follows. Before step 8 of a start-up, in cold reset and in HALT it has no effect; during a warm reset it starts again. -/
def execWarmReset (pin : Option Nat) (s : State) : Host.Outcome State Fault Refusal :=
  .next (if pin.all passes && standby s && s.boot.rails && !s.boot.porst && !s.boot.halt && (s.boot.up || s.boot.warm) then
      warmState (logEvent (closeRecord s) 3 0x02 183 0)
    else s)

/-- The bundle that hub SRAM still holds has the digest verified at cold start (R469). -/
def bundleHeld (s : State) (b : BootInputs) : Bool :=
  match s.sec.bundle, b.held with
  | none, _ => false
  | some _, none => true
  | some i, some j => objDigest i.obj == objDigest j.obj

/-- The exit (R469): the bundle's digest still holds, or step 7 runs again. -/
def warmExit (s : State) (b : BootInputs) : State :=
  let s := wear { s with boot := { s.boot with warm := false, fromWarm := true } } b.worn
  if bundleHeld s b then runClocks s b none
  else bundleStep { s with sec := { s.sec with bundle := none } } b

/-- WARM_RESET_EXIT. -/
def execWarmResetExit (b : BootInputs) (s : State) : Host.Outcome State Fault Refusal :=
  .next (if standby s && s.boot.rails && s.boot.warm && !s.boot.porst && !s.boot.halt then warmExit s b else s)

end Sys2Proof.Machine
end

