-- ==== Sys2Proof/Machine/Spare.lean ====
section
/-! DEFINITION. The end of a swap (R156, R157, R450): the identity moves to the spare, or the copy has failed. -/
namespace Sys2Proof.Machine

/-- What becomes of the core that has given up its identity (R157, R448, R451): tested, fenced for observation, taken
out of service, or spare. (DESIGN CHOICE, log entry 53.) -/
def afterSwap (s : State) (p reason : Nat) : State :=
  match reason with
  | 0 => coreState { s with flt := { s.flt with swapped := s.flt.swapped ++ [p] } } p 4
  | 1 => coreState (dropTest s p) p 6
  | _ => if isSet s (CORE_CTRL p) CORE_CTRL_EN then wakeTest (dropTest s p) p else coreState s p 7

/-- A swap that has copied and checked (R156, steps 3 and 4). -/
def finishSwap (s : State) (c j p q : Nat) : State :=
  let r := swapReason s p
  let s := moveOps (copyCore s p q) p q
  let s := setF s (CLU_MAP c) (mapField j) (q % 5)
  let s := setSpare s c none
  let s := setF s (CORE_STATUS q) CORE_STATUS_LOGICAL (4 * c + j)
  let s := setF s (CORE_STATUS p) CORE_STATUS_LOGICAL 0xFF
  let s := setF s (CORE_STATUS p) CORE_STATUS_SWAP_EVENT 1
  let s := setF s (CORE_STATUS q) CORE_STATUS_SWAP_EVENT 1
  let s := setF s (CLU_STATUS c) CLU_STATUS_SWAP_BUSY 0
  let s := setF s (CLU_STATUS c) CLU_STATUS_SWAP_EVENT 1
  let s := bump s (CLU_CNT_SWAP c) CLU_CNT_SWAP_COUNT 1
  let s := setF s (CLU_CNT_SWAP c) CLU_CNT_SWAP_REASON r
  let s := setF s (CLU_CNT_SWAP c) CLU_CNT_SWAP_LOGICAL j
  let s := setF s (CLU_SWAP c) CLU_SWAP_REQ 0
  spareGone (nextDue (coreState (afterSwap s p r) q 2) q) c

/-- A swap whose copy check fails (R450): the spare is fenced for good, and the core resumes. -/
def abandonSwap (s : State) (c p q : Nat) : State :=
  let s := setF s (CLU_STATUS c) CLU_STATUS_SWAP_BUSY 0
  let s := setSpare s c none
  let s := lastFence (setF (coreState (coreState s q 6) p 2) (CORE_STATUS q) CORE_STATUS_OBSERVE 0) q
  spareGone (fault s q 0x19 2 0xFFFF 0) c

/-- SWAP_COMPLETE (R156): the copy has been made and checked. -/
def execSwapComplete (c : Cluster) (copyOk : Bool) (s : State) : Host.Outcome State Fault Refusal :=
  .next (ifRunning s (match swapping s c with
    | none => s
    | some (j, p, q) => if copyOk then finishSwap s c j p q else abandonSwap s c p q))

end Sys2Proof.Machine
end

