-- ==== Sys2Proof/Machine/Dispatch.lean ====
section
/-! DEFINITION. The meaning of every command: one arm a constructor, each one direct call. -/
namespace Sys2Proof.Machine

def exec (i : Instr) (s : State) : Host.Outcome State Fault Refusal :=
  match i with
  | .powerOnReset low => Sys2Proof.Machine.execPowerOnReset s low
  | .coldStartUp b => Sys2Proof.Machine.execColdStartUp b s
  | .warmReset pin => Sys2Proof.Machine.execWarmReset pin s
  | .warmResetExit b => Sys2Proof.Machine.execWarmResetExit b s
  | .resetAlignment edge => Sys2Proof.Machine.execResetAlignment edge s
  | .ready => Sys2Proof.Machine.execReady s
  | .perstN low => Sys2Proof.Machine.execPerstN s low
  | .functionLevelReset => Sys2Proof.Machine.execFunctionLevelReset s
  | .pcieLinkDown => Sys2Proof.Machine.execPcieLinkDown s
  | .d3hot => Sys2Proof.Machine.execD3hot s
  | .configurationRequest op => Sys2Proof.Machine.execConfigurationRequest s op
  | .clockLost => Sys2Proof.Machine.execClockLost s
  | .vstbyRemoved => Sys2Proof.Machine.execVstbyRemoved s
  | .supply rail => Sys2Proof.Machine.execSupply rail s
  | .edcAlert => Sys2Proof.Machine.execEdcAlert s
  | .pmAlert statusWords => Sys2Proof.Machine.execPmAlert statusWords s
  | .ftPpsEdge stamp ptpOffset => Sys2Proof.Machine.execFtPpsEdge stamp ptpOffset s
  | .holdover => Sys2Proof.Machine.execHoldover s
  | .ftUnsync => Sys2Proof.Machine.execFtUnsync s
  | .syncAcquired => Sys2Proof.Machine.execSyncAcquired s
  | .ptpMessage port stamp seconds request => Sys2Proof.Machine.execPtpMessage port stamp seconds s request
  | .pfpTimeSend => Sys2Proof.Machine.execPfpTimeSend s
  | .ftuTimeRead => Sys2Proof.Machine.execFtuTimeRead s
  | .ftuCtrlWrite src v => Sys2Proof.Machine.execFtuCtrlWrite src v s
  | .alarmFire n => Sys2Proof.Machine.execAlarmFire n s
  | .gateCycle n => Sys2Proof.Machine.execGateCycle n s
  | .ringFetch n => Sys2Proof.Machine.execRingFetch n s
  | .syncSignal n => Sys2Proof.Machine.execSyncSignal n s
  | .pwrWake n => Sys2Proof.Machine.execPwrWake n s
  | .testStart n => Sys2Proof.Machine.execTestStart n s
  | .stepStart n => Sys2Proof.Machine.execStepStart n s
  | .pupIrq n => Sys2Proof.Machine.execPupIrq n s
  | .alu u gd ga gb func => Sys2Proof.Machine.execAlu u gd ga gb func s
  | .addi u gd ga imm => Sys2Proof.Machine.execAddi u gd ga imm s
  | .andi u gd ga imm => Sys2Proof.Machine.execAndi u gd ga imm s
  | .ori u gd ga imm => Sys2Proof.Machine.execOri u gd ga imm s
  | .xori u gd ga imm => Sys2Proof.Machine.execXori u gd ga imm s
  | .shli u gd ga imm => Sys2Proof.Machine.execShli u gd ga imm s
  | .shri u gd ga imm => Sys2Proof.Machine.execShri u gd ga imm s
  | .shrai u gd ga imm => Sys2Proof.Machine.execShrai u gd ga imm s
  | .slti u gd ga imm => Sys2Proof.Machine.execSlti u gd ga imm s
  | .sltiu u gd ga imm => Sys2Proof.Machine.execSltiu u gd ga imm s
  | .ld8 u gd ga imm => Sys2Proof.Machine.execLd8 u gd ga imm s
  | .ld8u u gd ga imm => Sys2Proof.Machine.execLd8u u gd ga imm s
  | .ld16 u gd ga imm => Sys2Proof.Machine.execLd16 u gd ga imm s
  | .ld16u u gd ga imm => Sys2Proof.Machine.execLd16u u gd ga imm s
  | .ld32 u gd ga imm => Sys2Proof.Machine.execLd32 u gd ga imm s
  | .ld32u u gd ga imm => Sys2Proof.Machine.execLd32u u gd ga imm s
  | .ld64 u gd ga imm => Sys2Proof.Machine.execLd64 u gd ga imm s
  | .st8 u gs ga imm => Sys2Proof.Machine.execSt8 u gs ga imm s
  | .st16 u gs ga imm => Sys2Proof.Machine.execSt16 u gs ga imm s
  | .st32 u gs ga imm => Sys2Proof.Machine.execSt32 u gs ga imm s
  | .st64 u gs ga imm => Sys2Proof.Machine.execSt64 u gs ga imm s
  | .beq u ga gb off => Sys2Proof.Machine.execBeq u ga gb off s
  | .bne u ga gb off => Sys2Proof.Machine.execBne u ga gb off s
  | .blt u ga gb off => Sys2Proof.Machine.execBlt u ga gb off s
  | .bge u ga gb off => Sys2Proof.Machine.execBge u ga gb off s
  | .bltu u ga gb off => Sys2Proof.Machine.execBltu u ga gb off s
  | .bgeu u ga gb off => Sys2Proof.Machine.execBgeu u ga gb off s
  | .jal u gd imm => Sys2Proof.Machine.execJal u gd imm s
  | .jalr u gd ga => Sys2Proof.Machine.execJalr u gd ga s
  | .alul u gd ga func imm => Sys2Proof.Machine.execAlul u gd ga func imm s
  | .li u gd imm => Sys2Proof.Machine.execLi u gd imm s
  | .lih u gd ga imm => Sys2Proof.Machine.execLih u gd ga imm s
  | .mfs n gd func => Sys2Proof.Machine.execMfs n gd func s
  | .timeRead u gd gb => Sys2Proof.Machine.execTimeRead u gd gb s
  | .stepEnd n => Sys2Proof.Machine.execStepEnd n s
  | .trap n => Sys2Proof.Machine.execTrap n s
  | .nop u => Sys2Proof.Machine.execNop u s
  | .csrR p gd ga => Sys2Proof.Machine.execCsrR p gd ga s
  | .csrW p ga gb => Sys2Proof.Machine.execCsrW p ga gb s
  | .irqWait p gd => Sys2Proof.Machine.execIrqWait p gd s
  | .dma n d => Sys2Proof.Machine.execDma n d s
  | .dmaCompletion n k => Sys2Proof.Machine.execDmaCompletion n s k
  | .mma n d => Sys2Proof.Machine.execMma n d s
  | .mmaCompletion n held => Sys2Proof.Machine.execMmaCompletion n held s
  | .wld n d => Sys2Proof.Machine.execWld n d s
  | .wldCompletion n => Sys2Proof.Machine.execWldCompletion n s
  | .swap n => Sys2Proof.Machine.execSwap n s
  | .vec n d => Sys2Proof.Machine.execVec n d s
  | .vecCompletion n => Sys2Proof.Machine.execVecCompletion n s
  | .cvt n d => Sys2Proof.Machine.execCvt n d s
  | .cvtCompletion n => Sys2Proof.Machine.execCvtCompletion n s
  | .syncOpSignal n d => Sys2Proof.Machine.execSyncOpSignal n d s
  | .syncOpAdd n d => Sys2Proof.Machine.execSyncOpAdd n d s
  | .syncOpSet n d => Sys2Proof.Machine.execSyncOpSet n d s
  | .syncOpWait n d => Sys2Proof.Machine.execSyncOpWait n d s
  | .syncFirst n d => Sys2Proof.Machine.execSyncFirst n d s
  | .syncRelease cores => Sys2Proof.Machine.execSyncRelease cores s
  | .waitWake w => Sys2Proof.Machine.execWaitWake w s
  | .slotEntry l => Sys2Proof.Machine.execSlotEntry l s
  | .stepCompletion n => Sys2Proof.Machine.execStepCompletion n s
  | .stepTimeout n => Sys2Proof.Machine.execStepTimeout n s
  | .stepRetry n => Sys2Proof.Machine.execStepRetry n s
  | .falu e l fd fa fb func imm => Sys2Proof.Machine.execFalu e l fd fa fb func imm s
  | .fparam e l fd imm => Sys2Proof.Machine.execFparam e l fd imm s
  | .fbr e l fa fb func imm => Sys2Proof.Machine.execFbr e l fa fb func imm s
  | .fwait e l fa imm => Sys2Proof.Machine.execFwait e l fa imm s
  | .fsig e l fa imm => Sys2Proof.Machine.execFsig e l fa imm s
  | .chOpen e l fa => Sys2Proof.Machine.execChOpen e l fa s
  | .chClose e l fa residueOk => Sys2Proof.Machine.execChClose e l fa residueOk s
  | .chDown e l fa => Sys2Proof.Machine.execChDown e l fa s
  | .gaSrc e l fa => Sys2Proof.Machine.execGaSrc e l fa s
  | .gaFwd e l fa => Sys2Proof.Machine.execGaFwd e l fa s
  | .hhLeaf e l fa fb => Sys2Proof.Machine.execHhLeaf e l fa fb s
  | .hhFinal e l fb => Sys2Proof.Machine.execHhFinal e l fb s
  | .stFinal e l => Sys2Proof.Machine.execStFinal e l s
  | .fend e l => Sys2Proof.Machine.execFend e l s
  | .coll r => Sys2Proof.Machine.execColl r s
  | .launchAdmit l => Sys2Proof.Machine.execLaunchAdmit l s
  | .gapTimerExpiry cset => Sys2Proof.Machine.execGapTimerExpiry cset s
  | .dataTimeout l => Sys2Proof.Machine.execDataTimeout l s
  | .engineFence e => Sys2Proof.Machine.execEngineFence e s
  | .groupReg r block => Sys2Proof.Machine.execGroupReg r block s
  | .groupDereg r => Sys2Proof.Machine.execGroupDereg r s
  | .packetForward src p => Sys2Proof.Machine.execPacketForward src p s
  | .dataPacket k => Sys2Proof.Machine.execDataPacket k s
  | .collPacket k residueOk => Sys2Proof.Machine.execCollPacket k residueOk s
  | .slotPacket k => Sys2Proof.Machine.execSlotPacket k s
  | .radd k => Sys2Proof.Machine.execRadd k s
  | .ctrlPacket k c => Sys2Proof.Machine.execCtrlPacket k c s
  | .timePacket k dir offset => Sys2Proof.Machine.execTimePacket k dir offset s
  | .mgmtPacket k => Sys2Proof.Machine.execMgmtPacket k s
  | .refusePacket k => Sys2Proof.Machine.execRefusePacket k s
  | .packetTransmit port => Sys2Proof.Machine.execPacketTransmit port s
  | .bufferGrant d pool r => Sys2Proof.Machine.execBufferGrant d pool r s
  | .fenceHoldExpiry k => Sys2Proof.Machine.execFenceHoldExpiry k s
  | .streamEntryClose d st => Sys2Proof.Machine.execStreamEntryClose d st s
  | .eop port w seq rx => Sys2Proof.Machine.execEop port w seq rx s
  | .idle port w => Sys2Proof.Machine.execIdle port w s
  | .init port w => Sys2Proof.Machine.execInit port w s
  | .lpi port w => Sys2Proof.Machine.execLpi port w s
  | .replayTimeout port => Sys2Proof.Machine.execReplayTimeout port s
  | .linkDown port => Sys2Proof.Machine.execLinkDown port s
  | .linkTrainingDone port ok reversed => Sys2Proof.Machine.execLinkTrainingDone port ok reversed s
  | .portFailed port => Sys2Proof.Machine.execPortFailed port s
  | .rehash port => Sys2Proof.Machine.execRehash port s
  | .lossLimit => Sys2Proof.Machine.execLossLimit s
  | .opticalFault site temp => Sys2Proof.Machine.execOpticalFault site temp s
  | .controlFrame port => Sys2Proof.Machine.execControlFrame port s
  | .ethernetFrame port f => Sys2Proof.Machine.execEthernetFrame port f s
  | .discoveryStatement port st challenge => Sys2Proof.Machine.execDiscoveryStatement port st challenge s
  | .linkProof port => Sys2Proof.Machine.execLinkProof port s
  | .verificationComplete c proofOk => Sys2Proof.Machine.execVerificationComplete c proofOk s
  | .discoveryTimeout port => Sys2Proof.Machine.execDiscoveryTimeout port s
  | .gateEntryBoundary port => Sys2Proof.Machine.execGateEntryBoundary port s
  | .throttleEvaluation port => Sys2Proof.Machine.execThrottleEvaluation port s
  | .telemetrySample late => Sys2Proof.Machine.execTelemetrySample s late
  | .tscTelCtrlWrite src v => Sys2Proof.Machine.execTscTelCtrlWrite src v s
  | .memReread addr passes reader => Sys2Proof.Machine.execMemReread addr passes reader s
  | .scrubRead addr codeOk lastOfPass => Sys2Proof.Machine.execScrubRead addr codeOk lastOfPass s
  | .windowLost d tier => Sys2Proof.Machine.execWindowLost d tier s
  | .cxlLinkDown d => Sys2Proof.Machine.execCxlLinkDown d s
  | .bar2Read off n => Sys2Proof.Machine.execBar2Read off n s
  | .bar2Write off bytes => Sys2Proof.Machine.execBar2Write off bytes s
  | .periodicFetch r => Sys2Proof.Machine.execPeriodicFetch r s
  | .fetchAtPoint r => Sys2Proof.Machine.execFetchAtPoint r s
  | .fetchCompletion r tail entries => Sys2Proof.Machine.execFetchCompletion r tail entries s
  | .nopCommand r => Sys2Proof.Machine.execNopCommand r s
  | .fetchAt r => Sys2Proof.Machine.execFetchAt r s
  | .plan r body => Sys2Proof.Machine.execPlan r body s
  | .jobAdmit r block => Sys2Proof.Machine.execJobAdmit r block s
  | .jobEnd r => Sys2Proof.Machine.execJobEnd r s
  | .load r image sig flowOps relocs => Sys2Proof.Machine.execLoad r image sig flowOps relocs s
  | .prov r req => Sys2Proof.Machine.execProv r req s
  | .provRecordWrite roots => Sys2Proof.Machine.execProvRecordWrite roots s
  | .provWaitTimeout => Sys2Proof.Machine.execProvWaitTimeout s
  | .quiesce r => Sys2Proof.Machine.execQuiesce r s
  | .quiesced qid => Sys2Proof.Machine.execQuiesced qid s
  | .drainTimeout qid => Sys2Proof.Machine.execDrainTimeout qid s
  | .restart r => Sys2Proof.Machine.execRestart r s
  | .restartFt qid => Sys2Proof.Machine.execRestartFt qid s
  | .reservedCommand r => Sys2Proof.Machine.execReservedCommand r s
  | .cqFullPoll q head => Sys2Proof.Machine.execCqFullPoll q head s
  | .holdoffExpiry q => Sys2Proof.Machine.execHoldoffExpiry q s
  | .registerWrite src addr v hwSet => Sys2Proof.Machine.execRegisterWrite src addr v hwSet s
  | .fltAck src v => Sys2Proof.Machine.execFltAck src v s
  | .fltForce n v => Sys2Proof.Machine.execFltForce n v s
  | .fltReturn v => Sys2Proof.Machine.execFltReturn v s
  | .unseal => Sys2Proof.Machine.execUnseal s
  | .fltBbDataRead => Sys2Proof.Machine.execFltBbDataRead s
  | .attestationRequest => Sys2Proof.Machine.execAttestationRequest s
  | .attestationSigned random => Sys2Proof.Machine.execAttestationSigned random s
  | .secAttDataRead => Sys2Proof.Machine.execSecAttDataRead s
  | .bootGo => Sys2Proof.Machine.execBootGo s
  | .pcieBootVerifyDone img c b => Sys2Proof.Machine.execPcieBootVerifyDone img c b s
  | .pwrCtrlWrite src v => Sys2Proof.Machine.execPwrCtrlWrite src v s
  | .mctpCsrRead off via => Sys2Proof.Machine.execMctpCsrRead off s via
  | .mctpCsrWrite off v hwSet via => Sys2Proof.Machine.execMctpCsrWrite off v hwSet s via
  | .mctpBlackBoxRead eid off words via => Sys2Proof.Machine.execMctpBlackBoxRead eid off words s via
  | .ownerSet record c byOwnRoot byOwner => Sys2Proof.Machine.execOwnerSet record c byOwnRoot byOwner s
  | .pldmFirmwareUpdate img c => Sys2Proof.Machine.execPldmFirmwareUpdate img c s
  | .pldmMonitoring rail k stack => Sys2Proof.Machine.execPldmMonitoring rail k s stack
  | .entdaa addr => Sys2Proof.Machine.execEntdaa addr s
  | .sensorSample temps => Sys2Proof.Machine.execSensorSample temps s
  | .hbmTemperatureReport stack temp => Sys2Proof.Machine.execHbmTemperatureReport stack temp s
  | .thermalFault sensor => Sys2Proof.Machine.execThermalFault sensor s
  | .powerLevelStep up at_ => Sys2Proof.Machine.execPowerLevelStep up at_ s
  | .thermalLevelStep d => Sys2Proof.Machine.execThermalLevelStep d s
  | .vcoreTelemetry milliVolt amps => Sys2Proof.Machine.execVcoreTelemetry milliVolt amps s
  | .regulatorPoll rail reading => Sys2Proof.Machine.execRegulatorPoll rail reading s
  | .regulatorNoAnswer rail => Sys2Proof.Machine.execRegulatorNoAnswer rail s
  | .wakeComplete u kernelFails => Sys2Proof.Machine.execWakeComplete u kernelFails s
  | .halt source cause detail => Sys2Proof.Machine.execHalt source cause detail s
  | .sealed worn => Sys2Proof.Machine.execSealed worn s
  | .historyRecord worn => Sys2Proof.Machine.execHistoryRecord worn s
  | .pupFail p => Sys2Proof.Machine.execPupFail p s
  | .meshRetry link => Sys2Proof.Machine.execMeshRetry link s
  | .meshDown link => Sys2Proof.Machine.execMeshDown link s
  | .testDue n => Sys2Proof.Machine.execTestDue n s
  | .testLate n => Sys2Proof.Machine.execTestLate n s
  | .knownAnswerResult u passed => Sys2Proof.Machine.execKnownAnswerResult u passed s
  | .observationEnd n => Sys2Proof.Machine.execObservationEnd n s
  | .spareSwap l => Sys2Proof.Machine.execSpareSwap l s
  | .swapComplete c copyOk => Sys2Proof.Machine.execSwapComplete c copyOk s
  | .signalDetect b => Sys2Proof.Machine.execSignalDetect b s
  | .optFaultCleared site => Sys2Proof.Machine.execOptFaultCleared site s
  | .domainEntryComplete u => Sys2Proof.Machine.execDomainEntryComplete u s
  | .snapshotWritten => Sys2Proof.Machine.execSnapshotWritten s
  | .linkProofSigned port => Sys2Proof.Machine.execLinkProofSigned port s
  | .perstNRelease => Sys2Proof.Machine.execPerstNRelease s
  | .pcieLinkUp => Sys2Proof.Machine.execPcieLinkUp s
  | .testAccessPort op => Sys2Proof.Machine.execTestAccessPort op s
  | .lpiHoldSend port => Sys2Proof.Machine.execLpiHoldSend port s
  | .policerTokensReturn port v => Sys2Proof.Machine.execPolicerTokensReturn port v s
  | .powerOn => Sys2Proof.Machine.execPowerOn s

end Sys2Proof.Machine
end

