-- ==== Sys2Proof/Machine/Tick.lean ====
section
/-! DEFINITION. One HCLK cycle in which no command comes: FT advances (R34), the cores charge their idle periods (R159,
R419), and ports send what is due in idle words (R255). -/
namespace Sys2Proof.Machine

/-- FTU_RATE_ADJ as a number, in units of 2^-32. -/
def rateAdj (s : State) : Int := (BitVec.ofNat 32 (getF s FTU_RATE_ADJ FTU_RATE_ADJ_ADJ)).toInt

/-- The increment of one HCLK cycle with the accumulator, in units of 2^-48 ns (R34). -/
def tickTotal (s : State) : Nat := ((81920 * (2 ^ 32 + rateAdj s) : Int) + s.ftu.acc).toNat

/-- FT after one more HCLK cycle. -/
def tickTime (s : State) : State :=
  { s with ftu := { s.ftu with ft := s.ftu.ft + tickTotal s / 2 ^ 32, acc := tickTotal s % 2 ^ 32 } }

/-- An ACLK period at a frame position, in which no instruction issues: an assigned core charges its idle cause, or
BUSY where only its own units hold it back (R159). An instruction's own issue period is the command that issues it.
(DESIGN CHOICE, log entry 44.) -/
def chargeIdle (s : State) (p n : Nat) : State :=
  if charges s n then
    match idleCause s n p with
    | some c => bump s (CORE_IDLE n c) CORE_IDLE_COUNT 1
    | none => bump s (CORE_CNT_BUSY n) CORE_CNT_BUSY_COUNT 1
  else s

/-- An ACLK period of every core. -/
def idlePeriod (s : State) (k : Nat) : State := (List.range 80).foldl (fun s n => chargeIdle s (k % 16) n) s

/-- The ACLK periods that end in one HCLK cycle: eleven in eight cycles. -/
def tickCores (s : State) : State :=
  let a := s.aclk / 8
  let b := (s.aclk + 11) / 8
  let s := (List.range (b - a)).foldl (fun s i => idlePeriod s (a + i)) s
  { s with aclk := s.aclk + 11 }

/-- A port with nothing else to send carries acknowledgements and credits in idle words; in low-power idle nothing leaves
between HOLD words (R412). -/
def tickIdle (s : State) (q : Port) : State :=
  if portUp s q && !portEth s q && !(lpiPort s q && domState s (96 + portBundle q) == 2) && wordDue (port s q)
      && decide ((port s q).busyUntil.toNat ≤ (now s).toNat) then sendIdle s q
  else s

/-- Words that ports send of themselves. -/
def tickPorts (s : State) : State :=
  s.net.ports.foldl (fun s e => repeatInit (tickIdle s (Fin.ofNat 1024 e.1)) (Fin.ofNat 1024 e.1)) s

/-- One HCLK cycle. FT runs with VSTBY from the release of PORST_N on (R43, R45). (DESIGN CHOICE, log entry 2.) -/
def tick (s : State) : State :=
  if standby s && !s.boot.porst then
    let s := tickTime s
    if running s then tickPorts (tickCores (bootAdvance s)) else s
  else s

end Sys2Proof.Machine
end

