-- ==== Sys2Proof/Machine/Fetch.lean ====
section
/-! DEFINITION. The command that the words of an instruction spell: Z-S words (R180, R210, R218), Z-T descriptors (R181,
R219, R236) and Z-F instructions (R239, R241), and the command that the code at a program index spells. -/
namespace Sys2Proof.Machine

/-- The general register that five bits of an instruction name. -/
def gAt (x lo : Nat) : GReg := Fin.ofNat 32 (bits x (lo + 4) lo)

/-- The flow register that four bits of an instruction name. -/
def fAt (x lo : Nat) : FReg := Fin.ofNat 16 (bits x (lo + 3) lo)

/-- IMM14 or OFF14 of an instruction (Table 7.4). -/
def imm14At (x : Nat) : BitVec 14 := BitVec.ofNat 14 (bits x 31 18)

/-- The command of a 32-bit instruction by OP (Tables 7.4, 8.1). State registers, STEP.END and TRAP are a core's; CSR.R,
CSR.W and IRQ.WAIT are a Puppeteer core's (R218). -/
def spelledShort (u : ZsUnit) (x : Nat) : Option Instr :=
  let gd := gAt x 8
  let ga := gAt x 13
  let gb := gAt x 18
  let imm := imm14At x
  let func := BitVec.ofNat 9 (bits x 31 23)
  match bits x 7 2 with
  | 0x01 => some (.alu u gd ga gb func)
  | 0x02 => some (.addi u gd ga imm)
  | 0x03 => some (.andi u gd ga imm)
  | 0x04 => some (.ori u gd ga imm)
  | 0x05 => some (.xori u gd ga imm)
  | 0x06 => some (.shli u gd ga imm)
  | 0x07 => some (.shri u gd ga imm)
  | 0x08 => some (.shrai u gd ga imm)
  | 0x09 => some (.slti u gd ga imm)
  | 0x0A => some (.sltiu u gd ga imm)
  | 0x0B => some (.ld8 u gd ga imm)
  | 0x0C => some (.ld8u u gd ga imm)
  | 0x0D => some (.ld16 u gd ga imm)
  | 0x0E => some (.ld16u u gd ga imm)
  | 0x0F => some (.ld32 u gd ga imm)
  | 0x10 => some (.ld32u u gd ga imm)
  | 0x11 => some (.ld64 u gd ga imm)
  | 0x12 => some (.st8 u gd ga imm)
  | 0x13 => some (.st16 u gd ga imm)
  | 0x14 => some (.st32 u gd ga imm)
  | 0x15 => some (.st64 u gd ga imm)
  | 0x16 => some (.beq u gd ga imm)
  | 0x17 => some (.bne u gd ga imm)
  | 0x18 => some (.blt u gd ga imm)
  | 0x19 => some (.bge u gd ga imm)
  | 0x1A => some (.bltu u gd ga imm)
  | 0x1B => some (.bgeu u gd ga imm)
  | 0x1D => some (.jalr u gd ga)
  | 0x31 => some (.timeRead u gd gb)
  | 0x34 => some (.nop u)
  | op => match u, op with
    | .core n, 0x30 => some (.mfs n gd func)
    | .core n, 0x32 => some (.stepEnd n)
    | .core n, 0x33 => some (.trap n)
    | .pup p, 0x3C => some (.csrR p gd ga)
    | .pup p, 0x3D => some (.csrW p ga gb)
    | .pup p, 0x3E => some (.irqWait p gd)
    | _, _ => none

/-- The command of a 64-bit instruction by OP. -/
def spelledLong (u : ZsUnit) (x imm : Nat) : Option Instr :=
  let gd := gAt x 8
  let ga := gAt x 13
  let v := BitVec.ofNat 32 imm
  match bits x 7 2 with
  | 0x1C => some (.jal u gd v)
  | 0x1E => some (.alul u gd ga (imm14At x) v)
  | 0x1F => some (.li u gd v)
  | 0x20 => some (.lih u gd ga v)
  | _ => none

/-- The command of a descriptor by OPCODE (Table 8.4), of a SYNC by SOP (Table 8.11). -/
def spelledDesc (n : CoreId) (d : BitVec 128) : Option Instr :=
  match dNat d 0 8 with
  | 0x02 => some (.dma n d)
  | 0x06 => some (.mma n d)
  | 0x0A => some (.wld n d)
  | 0x0E => some (.swap n)
  | 0x12 => some (.vec n d)
  | 0x16 => some (.cvt n d)
  | 0x1A => match syncSop d with
    | 0 => some (.syncOpSignal n d)
    | 1 => some (.syncOpAdd n d)
    | 2 => some (.syncOpSet n d)
    | 3 => some (.syncOpWait n d)
    | 4 => some (.syncFirst n d)
    | _ => none
  | _ => none

/-- The command that the code at a program index spells; bits [1:0] give the length (R179). Descriptors are a core's. -/
def spelledAt (u : ZsUnit) (code : List (BitVec 32)) (i : Nat) : Option Instr :=
  let x := (code.getD i 0).toNat
  match x % 4, u with
  | 0, _ => spelledShort u x
  | 1, _ => spelledLong u x (code.getD (i + 1) 0).toNat
  | 2, .core n => spelledDesc n (descAt code i)
  | _, _ => none

/-- The command that a core's code spells at its program index (R178, R214). -/
def nextOfCore (s : State) (n : CoreId) : Option Instr :=
  if inCode s n then spelledAt (.core n) (core s n).code (core s n).pc.toNat else none

/-- The command that a Puppeteer core's code spells at its program index (R218). -/
def nextOfPup (s : State) (p : PupId) : Option Instr :=
  if pupInCode s p then spelledAt (.pup p) (pup s p).code (pup s p).pc.toNat else none

/-- The command of a Z-F instruction by OP (Tables 8.12, 8.13), run for launch `l` on an engine. `residueOk` is the outcome
of the residue checks of a chunk that closes at once (R111). -/
def spelledFlow (e : Engine) (l : Nat) (residueOk : Bool) (x imm : Nat) : Option Instr :=
  let fd := fAt x 6
  let fa := fAt x 10
  let fb := fAt x 14
  let v := BitVec.ofNat 32 imm
  match bits x 5 0 with
  | 0x01 => some (.falu e l fd fa fb (imm14At x) v)
  | 0x02 => some (.fparam e l fd v)
  | 0x03 => some (.fbr e l fa fb (imm14At x) v)
  | 0x04 => some (.fwait e l fa v)
  | 0x05 => some (.fsig e l fa v)
  | 0x06 => some (.chOpen e l fa)
  | 0x07 => some (.chClose e l fa residueOk)
  | 0x08 => some (.chDown e l fa)
  | 0x09 => some (.gaSrc e l fa)
  | 0x0A => some (.gaFwd e l fa)
  | 0x0B => some (.hhLeaf e l fa fb)
  | 0x0C => some (.hhFinal e l fb)
  | 0x0D => some (.stFinal e l)
  | 0x0E => some (.fend e l)
  | _ => none

end Sys2Proof.Machine
end

