-- ==== Sys2Proof/Machine/Pins.lean ====
section
/-! DEFINITION. The state of the control outputs and of the fabric transmitters (R477, R478), which follow the rest of the
state. -/
namespace Sys2Proof.Machine

/-- Control outputs (Table 19.3): the level of HALT_N (false while it is pulled low), DEV_READY and XSPI_RESET_N, and
whether TDO is held high-impedance outside a shift. -/
structure OutPins where
  haltN : Bool
  devReady : Bool
  xspiResetN : Bool
  tdoHighZ : Bool
deriving DecidableEq, Repr

/-- Outputs of a state: HALT_N follows the HALT latch, DEV_READY HUB_BOOT.READY, the others PORST_N (R478).
(PRESUMED, log entry 20.) -/
def outPins (s : State) : OutPins :=
  { haltN := !s.boot.halt, devReady := isSet s HUB_BOOT HUB_BOOT_READY && !s.boot.porst && !s.boot.warm,
    xspiResetN := !s.boot.porst, tdoHighZ := s.boot.porst }

/-- A bundle's ports run over its optical engine, not over its balls (R321, R475). -/
def usesEngine (s : State) (b : Nat) : Bool := getF s (LNK_BUNDLE_CTRL b) LNK_BUNDLE_CTRL_REACH == 3

/-- The balls of a port's transmitters are electrically idle: from power-up until its training begins, in a HALT, and in a bundle
that runs OPTICAL (R441, R475, R478). -/
def laneIdle (s : State) (q : Nat) : Bool :=
  s.boot.porst || s.boot.halt || portState s q == 0 || usesEngine s (portBundle q)

end Sys2Proof.Machine
end

