-- ==== Sys2Proof/WellFormed.lean ====
section
/-! DEFINITION. Which commands can be formed: an instruction that no loaded image holds (R191, R208) is ill-formed;
every other command is well-formed by its operand types. -/
namespace Sys2Proof
open Sys2Proof.Machine

/-- Whether the loader accepts the instruction that the command runs (R208–R218, R223–R238, R241); a command that
is no instruction is well-formed. (DESIGN CHOICE, log entry 9.) (DESIGN CHOICE, log entry 68.) -/
def Instr.wf (i : Instr) : Bool :=
  match i with
  | .powerOnReset _ => true
  | .coldStartUp _ => true
  | .warmReset _ => true
  | .warmResetExit _ => true
  | .resetAlignment _ => true
  | .ready => true
  | .perstN _ => true
  | .functionLevelReset => true
  | .pcieLinkDown => true
  | .d3hot => true
  | .configurationRequest _ => true
  | .clockLost => true
  | .vstbyRemoved => true
  | .supply _ => true
  | .edcAlert => true
  | .pmAlert _ => true
  | .ftPpsEdge _ _ => true
  | .holdover => true
  | .ftUnsync => true
  | .syncAcquired => true
  | .ptpMessage _ _ _ _ => true
  | .pfpTimeSend => true
  | .ftuTimeRead => true
  | .ftuCtrlWrite _ _ => true
  | .alarmFire _ => true
  | .gateCycle _ => true
  | .ringFetch _ => true
  | .syncSignal _ => true
  | .pwrWake _ => true
  | .testStart _ => true
  | .stepStart _ => true
  | .pupIrq _ => true
  | .alu _ _ _ _ func => aluFuncs.contains func.toNat
  | .addi _ _ _ _ => true
  | .andi _ _ _ _ => true
  | .ori _ _ _ _ => true
  | .xori _ _ _ _ => true
  | .shli _ _ _ imm => imm.toNat < 64
  | .shri _ _ _ imm => imm.toNat < 64
  | .shrai _ _ _ imm => imm.toNat < 64
  | .slti _ _ _ _ => true
  | .sltiu _ _ _ _ => true
  | .ld8 _ _ _ _ => true
  | .ld8u _ _ _ _ => true
  | .ld16 _ _ _ _ => true
  | .ld16u _ _ _ _ => true
  | .ld32 _ _ _ _ => true
  | .ld32u _ _ _ _ => true
  | .ld64 _ _ _ _ => true
  | .st8 _ _ _ _ => true
  | .st16 _ _ _ _ => true
  | .st32 _ _ _ _ => true
  | .st64 _ _ _ _ => true
  | .beq _ _ _ _ => true
  | .bne _ _ _ _ => true
  | .blt _ _ _ _ => true
  | .bge _ _ _ _ => true
  | .bltu _ _ _ _ => true
  | .bgeu _ _ _ _ => true
  | .jal _ _ _ => true
  | .jalr _ _ _ => true
  | .alul _ _ _ func _ => alulFuncs.contains func.toNat
  | .li _ _ _ => true
  | .lih _ _ _ _ => true
  | .mfs _ _ func => func.toNat ≤ 7
  | .timeRead _ gd gb => gd != gb || gd == 0
  | .stepEnd _ => true
  | .trap _ => true
  | .nop _ => true
  | .csrR _ _ _ => true
  | .csrW _ _ _ => true
  | .irqWait _ _ => true
  | .dma _ d => descOk 0x02 d
  | .dmaCompletion _ _ => true
  | .mma _ d => descOk 0x06 d
  | .mmaCompletion _ _ => true
  | .wld _ d => descOk 0x0A d
  | .wldCompletion _ => true
  | .swap _ => true
  | .vec _ d => descOk 0x12 d
  | .vecCompletion _ => true
  | .cvt _ d => descOk 0x16 d
  | .cvtCompletion _ => true
  | .syncOpSignal _ d => descOk 0x1A d && syncSop d == 0
  | .syncOpAdd _ d => descOk 0x1A d && syncSop d == 1
  | .syncOpSet _ d => descOk 0x1A d && syncSop d == 2
  | .syncOpWait _ d => descOk 0x1A d && syncSop d == 3
  | .syncFirst _ d => descOk 0x1A d && syncSop d == 4
  | .syncRelease _ => true
  | .waitWake _ => true
  | .slotEntry _ => true
  | .stepCompletion _ => true
  | .stepTimeout _ => true
  | .stepRetry _ => true
  | .falu _ _ _ _ _ func _ => func.toNat ≤ 7
  | .fparam _ _ _ _ => true
  | .fbr _ _ _ _ func _ => func.toNat ≤ 4
  | .fwait _ _ _ _ => true
  | .fsig _ _ _ _ => true
  | .chOpen _ _ _ => true
  | .chClose _ _ _ _ => true
  | .chDown _ _ _ => true
  | .gaSrc _ _ _ => true
  | .gaFwd _ _ _ => true
  | .hhLeaf _ _ _ _ => true
  | .hhFinal _ _ _ => true
  | .stFinal _ _ => true
  | .fend _ _ => true
  | .coll _ => true
  | .launchAdmit _ => true
  | .gapTimerExpiry _ => true
  | .dataTimeout _ => true
  | .engineFence _ => true
  | .groupReg _ _ => true
  | .groupDereg _ => true
  | .packetForward _ _ => true
  | .dataPacket _ => true
  | .collPacket _ _ => true
  | .slotPacket _ => true
  | .radd _ => true
  | .ctrlPacket _ _ => true
  | .timePacket _ _ _ => true
  | .mgmtPacket _ => true
  | .refusePacket _ => true
  | .packetTransmit _ => true
  | .bufferGrant _ _ _ => true
  | .fenceHoldExpiry _ => true
  | .streamEntryClose _ _ => true
  | .eop _ _ _ _ => true
  | .idle _ _ => true
  | .init _ _ => true
  | .lpi _ _ => true
  | .replayTimeout _ => true
  | .linkDown _ => true
  | .linkTrainingDone _ _ _ => true
  | .portFailed _ => true
  | .rehash _ => true
  | .lossLimit => true
  | .opticalFault _ _ => true
  | .controlFrame _ => true
  | .ethernetFrame _ _ => true
  | .discoveryStatement _ _ _ => true
  | .linkProof _ => true
  | .verificationComplete _ _ => true
  | .discoveryTimeout _ => true
  | .gateEntryBoundary _ => true
  | .throttleEvaluation _ => true
  | .telemetrySample _ => true
  | .tscTelCtrlWrite _ _ => true
  | .memReread _ _ _ => true
  | .scrubRead _ _ _ => true
  | .windowLost _ _ => true
  | .cxlLinkDown _ => true
  | .bar2Read _ _ => true
  | .bar2Write _ _ => true
  | .periodicFetch _ => true
  | .fetchAtPoint _ => true
  | .fetchCompletion _ _ _ => true
  | .nopCommand _ => true
  | .fetchAt _ => true
  | .plan _ _ => true
  | .jobAdmit _ _ => true
  | .jobEnd _ => true
  | .load _ _ _ _ _ => true
  | .prov _ _ => true
  | .provRecordWrite _ => true
  | .provWaitTimeout => true
  | .quiesce _ => true
  | .quiesced _ => true
  | .drainTimeout _ => true
  | .restart _ => true
  | .restartFt _ => true
  | .reservedCommand _ => true
  | .cqFullPoll _ _ => true
  | .holdoffExpiry _ => true
  | .registerWrite _ _ _ _ => true
  | .fltAck _ _ => true
  | .fltForce _ _ => true
  | .fltReturn _ => true
  | .unseal => true
  | .fltBbDataRead => true
  | .attestationRequest => true
  | .attestationSigned _ => true
  | .secAttDataRead => true
  | .bootGo => true
  | .pcieBootVerifyDone _ _ _ => true
  | .pwrCtrlWrite _ _ => true
  | .mctpCsrRead _ _ => true
  | .mctpCsrWrite _ _ _ _ => true
  | .mctpBlackBoxRead _ _ _ _ => true
  | .ownerSet _ _ _ _ => true
  | .pldmFirmwareUpdate _ _ => true
  | .pldmMonitoring _ _ _ => true
  | .entdaa _ => true
  | .sensorSample _ => true
  | .hbmTemperatureReport _ _ => true
  | .thermalFault _ => true
  | .powerLevelStep _ _ => true
  | .thermalLevelStep _ => true
  | .vcoreTelemetry _ _ => true
  | .regulatorPoll _ _ => true
  | .regulatorNoAnswer _ => true
  | .wakeComplete _ _ => true
  | .halt _ _ _ => true
  | .sealed _ => true
  | .historyRecord _ => true
  | .pupFail _ => true
  | .meshRetry _ => true
  | .meshDown _ => true
  | .testDue _ => true
  | .testLate _ => true
  | .knownAnswerResult _ _ => true
  | .observationEnd _ => true
  | .spareSwap _ => true
  | .swapComplete _ _ => true
  | .signalDetect _ => true
  | .optFaultCleared _ => true
  | .domainEntryComplete _ => true
  | .snapshotWritten => true
  | .linkProofSigned _ => true
  | .perstNRelease => true
  | .pcieLinkUp => true
  | .testAccessPort _ => true
  | .lpiHoldSend _ => true
  | .policerTokensReturn _ _ => true
  | .powerOn => true

end Sys2Proof
end

