-- ==== Sys2Proof/Safety.lean ====
section
/-! DEFINITION. The terms that statements use: what a command leaves unchanged, which units can issue, and the invariant
that every step keeps. -/
namespace Sys2Proof.Machine

/-! ### What a command leaves unchanged -/

/-- Every register outside a list of CSR offsets holds what it held. -/
def CsrKept (s t : State) (offs : List Nat) : Prop := ∀ o, o ∉ offs → reg t o = reg s o

/-- Every physical core outside a list is as it was. -/
def CoresKept (s t : State) (ns : List Nat) : Prop := ∀ n, n ∉ ns → core t n = core s n

/-- Every Puppeteer core outside a list is as it was. -/
def PupsKept (s t : State) (ns : List Nat) : Prop := ∀ n, n ∉ ns → pup t n = pup s n

/-- Every synchronisation object outside a list is as it was. -/
def ObjsKept (s t : State) (ns : List Nat) : Prop := ∀ n, n ∉ ns → obj t n = obj s n

/-- Every command ring outside a list is as it was. -/
def CmdRingsKept (s t : State) (ns : List Nat) : Prop := ∀ n, n ∉ ns → cring t n = cring s n

/-- Every completion ring outside a list is as it was. -/
def CplRingsKept (s t : State) (ns : List Nat) : Prop := ∀ n, n ∉ ns → qring t n = qring s n

/-- Every byte of storage outside the `n` bytes from key `k` reads as before. -/
def MemKept (s t : State) (k n : Nat) : Prop := ∀ a, a < k ∨ k + n ≤ a → rdByte t a = rdByte s a

/-! ### Issue -/

/-- A unit's next instruction issues: a core runs a step and nothing stops or holds it, or a Puppeteer core runs; and its
program index lies in its code. -/
def canIssue (s : State) (u : ZsUnit) : Bool :=
  match u with
  | .core n => coreReady s n && inCode s n
  | .pup p => pupReady s p && pupInCode s p

/-- What an instruction that issues on a unit leaves unchanged, `k` issue periods being charged: all of the state but the
unit's registers, program index and last index or trace, and a core's ISSUE count. -/
def UnitFrame (s t : State) (u : ZsUnit) (k : Nat) : Prop :=
  match u with
  | .core n =>
    { t with cores := s.cores, csr := s.csr } = s ∧ CoresKept s t [n.val] ∧ CsrKept s t [CORE_CNT_ISSUE n]
      ∧ reg t (CORE_CNT_ISSUE n) = fset CORE_CNT_ISSUE_COUNT (reg s (CORE_CNT_ISSUE n))
          (min (getF s (CORE_CNT_ISSUE n) CORE_CNT_ISSUE_COUNT + k) (2 ^ 48 - 1))
      ∧ { core t n with g := (core s n).g, pc := (core s n).pc, lastPc := (core s n).lastPc } = core s n
      ∧ (core t n).lastPc = (core s n).pc
  | .pup p =>
    { t with pups := s.pups } = s ∧ PupsKept s t [p.val]
      ∧ { pup t p with g := (pup s p).g, pc := (pup s p).pc, trace := (pup s p).trace } = pup s p
      ∧ (pup t p).trace = ((pup s p).pc :: (pup s p).trace).take 1024

/-- An instruction has written `v` to register `d` of a unit, g0 apart, and the program index has moved on by `k`. -/
def Wrote (s t : State) (u : ZsUnit) (d : GReg) (v : Word) (k : Nat) : Prop :=
  (∀ r, getG t u r = if r = d ∧ r ≠ 0 then v else getG s u r)
    ∧ getPc t u = getPc s u + BitVec.ofNat 32 k ∧ UnitFrame s t u 1

/-- An instruction has set the program index to `x` and written no register; `k` issue periods are charged. -/
def Jumped (s t : State) (u : ZsUnit) (x : BitVec 32) (k : Nat) : Prop :=
  (∀ r, getG t u r = getG s u r) ∧ getPc t u = x ∧ UnitFrame s t u k

/-! ### Faults -/

/-- The registers that taking a fault can change: its class's and its source's counts, FLT_STATUS, the counts of BB_WRITE,
and the pending bit of vector 256. -/
def faultRegs (src cls : Nat) : List Nat :=
  [FLT_CNT cls, FLT_SRC src, FLT_STATUS, FLT_CNT 0, FLT_SRC 183, HIF_MSIX_PEND 4]

/-- Between `s` and `t` the collector has taken one fault (R430, R433): its class and its source count it, the source's
row names class and FT, and the open record holds it, opened by it or merged. Said for a black box whose cells hold. -/
def Raised (s t : State) (src cause cls : Nat) (job : BitVec 16) (detail : BitVec 32) (forced : Bool := false) : Prop :=
  s.flt.bbBad = [] →
    getF t (FLT_CNT cls) FLT_CNT_COUNT = min (getF s (FLT_CNT cls) FLT_CNT_COUNT + 1) (2 ^ FLT_CNT_COUNT.w - 1)
    ∧ getF t (FLT_SRC src) FLT_SRC_COUNT = min (getF s (FLT_SRC src) FLT_SRC_COUNT + 1) (2 ^ FLT_SRC_COUNT.w - 1)
    ∧ getF t (FLT_SRC src) FLT_SRC_LAST_CLASS = cls
    ∧ getF t (FLT_SRC src) FLT_SRC_LAST_FT = (now s).toNat % 2 ^ FLT_SRC_LAST_FT.w
    ∧ t.flt.cur = some (match s.flt.cur with
        | none => openRec s src cause cls job detail forced
        | some r => mergeFault r src cause cls detail forced)
    ∧ t.flt.secFault = true

/-! ### What every step keeps -/

/-- The wake alarms that the power manager holds are alarms of the FTU (R409). -/
def WakeAlarms (s : State) : Prop := ∀ e ∈ s.pwr.alarms, e.2 < 1024

/-- The invariant: memory and the register file keep their canonical forms, so that equal contents are equal data, and every
wake alarm held is one of the FTU's. -/
def Invariant (s : State) : Prop := Memory.wf s.mem = true ∧ mapWf coldValue s.csr = true ∧ WakeAlarms s

/-- What a halted device has stopped (R441): cores, Puppeteer cores, jobs and their steps, collectives, the network, storage
and what the flash holds are as they were. -/
def HaltFrame (s t : State) : Prop :=
  t.cores = s.cores ∧ t.pups = s.pups ∧ t.jobs = s.jobs ∧ t.slots = s.slots ∧ t.slotQ = s.slotQ ∧ t.coll = s.coll ∧ t.net = s.net
    ∧ t.mem = s.mem ∧ t.qids = s.qids ∧ t.crings = s.crings ∧ t.edits = s.edits ∧ t.nvm = s.nvm

/-! ### Completion entries -/

/-- A completion ring takes an entry at once: enabled, the link up, nothing in line before it, and room (R394, R395). -/
def ringTakes (s : State) (q : Nat) : Bool :=
  isSet s (HIF_QR_CTRL q) HIF_QR_CTRL_EN && hostUp s && !(qring s q).polling && (qring s q).waiting.isEmpty
    && decide (qUsed s q < qSize s q)

/-- Where and with which PHASE bit the next entry of a ring goes (Table 15.5, R394). -/
def entryAddr (s : State) (q : Nat) : Word :=
  reg s (HIF_QR_BASE q)
    + BitVec.ofNat 64 (256 * (getF s (HIF_QR_STATUS q) HIF_QR_STATUS_TAIL % 2 ^ getF s (HIF_QR_CTRL q) HIF_QR_CTRL_LOG2SIZE))
/-- PHASE of the next entry: 1 on the first pass over the ring, and the other value on each pass after it. -/
def entryPhase (s : State) (q : Nat) : Bool :=
  getF s (HIF_QR_STATUS q) HIF_QR_STATUS_TAIL / 2 ^ getF s (HIF_QR_CTRL q) HIF_QR_CTRL_LOG2SIZE % 2 == 0

/-- Between `s` and `t` one entry has gone to a completion ring that takes it: TAIL has moved on by one, and the host writes
sent since `s` hold the entry's words 1 to 31 and its word 0 with PHASE. On a ring whose poll runs it has lined up last. -/
def Entered (s t : State) (q : Nat) (c : Cpl) : Prop :=
  (ringTakes s q = true →
    getF t (HIF_QR_STATUS q) HIF_QR_STATUS_TAIL = (getF s (HIF_QR_STATUS q) HIF_QR_STATUS_TAIL + 1) % 2 ^ 32
    ∧ ∃ l, t.out = l ++ s.out
      ∧ Out.hostWrite (entryAddr s q + 8) (c.toWords (now t)).tail ∈ l
      ∧ Out.hostWrite (entryAddr s q) [(c.toWords (now t)).headD 0 ||| b2w (entryPhase s q)] ∈ l)
  ∧ ((qring s q).polling = true → (qring t q).waiting = (qring s q).waiting ++ [c])

/-- The registers that entries of a completion ring change: its TAIL, and the pending bits of MSI-X vectors. -/
def ringRegs (q : Nat) : List Nat := HIF_QR_STATUS q :: (List.range 8).map HIF_MSIX_PEND

end Sys2Proof.Machine
end

