-- ==== Sys2Proof/Certificates/Slice0/Obligations.lean ====
section
/-! DEFINITION. The statements for the provers, family by family, and the terms they use. Each follows the numbered rules
of the spec that its docstring names. A clause by which a command without its cause changes nothing is the model's choice
(log entry 1), and a clause that rests on another choice names its log entry. -/

namespace Sys2Proof.Machine.Claims

/-! ### Scalar instructions (R210–R218) -/

/-- Table 8.2, each function from its own words: modular sums and products, shifts by b[5:0], comparisons of the signed or
unsigned values, and quotients rounded toward zero with the corners of R212. -/
def aluTable : List (Nat × (Word → Word → Word)) :=
  [ (0x000, fun a b => a + b),
    (0x001, fun a b => a - b),
    (0x002, fun a b => a &&& b),
    (0x003, fun a b => a ||| b),
    (0x004, fun a b => a ^^^ b),
    (0x005, fun a b => BitVec.ofNat 64 (a.toNat * 2 ^ (b.toNat % 64))),
    (0x006, fun a b => BitVec.ofNat 64 (a.toNat / 2 ^ (b.toNat % 64))),
    (0x007, fun a b => BitVec.ofInt 64 (a.toInt / 2 ^ (b.toNat % 64))),
    (0x008, fun a b => if a.toInt < b.toInt then 1 else 0),
    (0x009, fun a b => if a.toNat < b.toNat then 1 else 0),
    (0x00A, fun a b => if a.toInt ≤ b.toInt then a else b),
    (0x00B, fun a b => if a.toInt ≤ b.toInt then b else a),
    (0x00C, fun a b => if a.toNat ≤ b.toNat then a else b),
    (0x00D, fun a b => if a.toNat ≤ b.toNat then b else a),
    (0x010, fun a b => BitVec.ofInt 64 (a.toInt * b.toInt)),
    (0x011, fun a b => BitVec.ofInt 64 (a.toInt * b.toInt / 2 ^ 64)),
    (0x012, fun a b => BitVec.ofNat 64 (a.toNat * b.toNat / 2 ^ 64)),
    (0x014, fun a b => if b = 0 then 0 else BitVec.ofInt 64 (a.toInt.tdiv b.toInt)),
    (0x015, fun a b => if b = 0 then 0 else BitVec.ofNat 64 (a.toNat / b.toNat)),
    (0x016, fun a b => if b = 0 then a else BitVec.ofInt 64 (a.toInt.tmod b.toInt)),
    (0x017, fun a b => if b = 0 then a else BitVec.ofNat 64 (a.toNat % b.toNat)) ]

/-- FUNC values that ALUL has (Table 8.1): ADD, AND, OR, XOR, SLT, SLTU, MUL. -/
def alulCodes : List Nat := [0x000, 0x002, 0x003, 0x004, 0x008, 0x009, 0x010]

/-- The I-format instructions that write a register, and the result each gives (Table 8.1). -/
def immediateForms (u : ZsUnit) (gd ga : GReg) (imm : BitVec 14) (a : Word) : List (Instr × Word) :=
  [ (.addi u gd ga imm, a + imm.signExtend 64),
    (.andi u gd ga imm, a &&& imm.signExtend 64),
    (.ori u gd ga imm, a ||| imm.signExtend 64),
    (.xori u gd ga imm, a ^^^ imm.signExtend 64),
    (.slti u gd ga imm, if a.toInt < imm.toInt then 1 else 0),
    (.sltiu u gd ga imm, if a.toNat < (imm.signExtend 64).toNat then 1 else 0) ]

/-- The immediate shifts by a count below 64 (Table 8.1). -/
def shiftForms (u : ZsUnit) (gd ga : GReg) (imm : BitVec 14) (a : Word) : List (Instr × Word) :=
  [ (.shli u gd ga imm, BitVec.ofNat 64 (a.toNat * 2 ^ imm.toNat)),
    (.shri u gd ga imm, BitVec.ofNat 64 (a.toNat / 2 ^ imm.toNat)),
    (.shrai u gd ga imm, BitVec.ofInt 64 (a.toInt / 2 ^ imm.toNat)) ]

/-- The seven loads: instruction, bytes read, sign-extended or not. -/
def loadForms (u : ZsUnit) (gd ga : GReg) (imm : BitVec 14) : List (Instr × Nat × Bool) :=
  [ (.ld8 u gd ga imm, 1, true), (.ld8u u gd ga imm, 1, false), (.ld16 u gd ga imm, 2, true), (.ld16u u gd ga imm, 2, false),
    (.ld32 u gd ga imm, 4, true), (.ld32u u gd ga imm, 4, false), (.ld64 u gd ga imm, 8, false) ]

/-- The four stores: instruction and bytes written. -/
def storeForms (u : ZsUnit) (gs ga : GReg) (imm : BitVec 14) : List (Instr × Nat) :=
  [ (.st8 u gs ga imm, 1), (.st16 u gs ga imm, 2), (.st32 u gs ga imm, 4), (.st64 u gs ga imm, 8) ]

/-- The value of `size` little-endian bytes, extended as the load says (R9, Table 8.1). -/
def extended (sx : Bool) (size : Nat) (bs : List Byte) : Word :=
  if sx then BitVec.ofInt 64 (signed (8 * size) (ofBytes bs)) else BitVec.ofNat 64 (ofBytes bs)

/-- The six branches and their conditions. -/
def branchForms (u : ZsUnit) (ga gb : GReg) (off : BitVec 14) (a b : Word) : List (Instr × Prop) :=
  [ (.beq u ga gb off, a = b), (.bne u ga gb off, a ≠ b), (.blt u ga gb off, a.toInt < b.toInt),
    (.bge u ga gb off, b.toInt ≤ a.toInt), (.bltu u ga gb off, a.toNat < b.toNat), (.bgeu u ga gb off, b.toNat ≤ a.toNat) ]

/-- The storage key of a unit's scalar access, where it reaches storage: a core's own SRAM or its cluster's, naturally
aligned; a Puppeteer core's store (the model's own address choice, log entry 12). -/
def accessKey (s : State) (u : ZsUnit) (ea : Word) (size : Nat) : Option Nat :=
  match u with
  | .core n => match scalarAddr s n ea size with | .ok (_, k) => some k | .error _ => none
  | .pup p => some (pupAddr p ea)

/-- No earlier operation of the core still has to write (for a load), or to read or write (for a store), the range. -/
def rangeFree (s : State) (u : ZsUnit) (k size : Nat) (storing : Bool) : Bool :=
  match u with
  | .core n => if storing then !writeWaits (core s n) k size else !readWaits (core s n) k size
  | .pup _ => true

/-- How a stopped core stands: its trap cause and ERR_PC, no step end, no wait, and only the releases of earlier
instructions still held (R198). -/
def Stopped (s t : State) (n : CoreId) (cause : Nat) (pc : BitVec 32) : Prop :=
  (core t n).trap = some (BitVec.ofNat 8 cause) ∧ (core t n).errPc = pc ∧ (core t n).ended = false ∧ (core t n).wait = none
    ∧ (core t n).g = (core s n).g ∧ (core t n).pc = (core s n).pc
    ∧ (core t n).held = (core s n).held.filter (fun h => decide (h.no < (core s n).nextNo))
    ∧ { core t n with
        trap := (core s n).trap, errPc := (core s n).errPc, ended := (core s n).ended, wait := (core s n).wait,
        held := (core s n).held, lastPc := (core s n).lastPc } = core s n

/-- The frame of a trap: one core, the registers of a fault and ISSUE, the collector and what it sends out. -/
def TrapFrame (s t : State) (n : CoreId) : Prop :=
  { t with cores := s.cores, csr := s.csr, flt := s.flt, out := s.out } = s ∧ CoresKept s t [n.val]
    ∧ CsrKept s t (CORE_CNT_ISSUE n :: faultRegs n.val 1)

end Sys2Proof.Machine.Claims

open Sys2Proof hiding core
open Sys2Proof.Machine Sys2Proof.Machine.Claims

/-- The front command of the queue is the one that runs, on the state with the queue's rest. -/
def Obligations.FrontCommandRuns : Prop :=
  ∀ (c : Instr) (rest : List Instr) (s : State),
    step { s with pending := c :: rest } = exec c { s with pending := rest }

/-- R211: ALU and ALUL give the function of Table 8.2 that FUNC selects, of two registers, or of a register and the sign-
extended immediate; a FUNC that is not listed is refused. Each answers a next state with its effect: ALU, ALUL. -/
def Obligations.AluFunctionsFollowTheTable : Prop :=
  ∀ (u : ZsUnit) (gd ga gb : GReg) (s : State), canIssue s u = true →
    (∀ func : BitVec 9, ∀ f, (func.toNat, f) ∈ aluTable →
      ∃ t, exec (.alu u gd ga gb func) s = .next t ∧ Wrote s t u gd (f (getG s u ga) (getG s u gb)) 1)
    ∧ (∀ func : BitVec 9, func.toNat ∉ aluTable.map Prod.fst → exec (.alu u gd ga gb func) s = .refused .illFormed)
    ∧ (∀ (func : BitVec 14) (imm : BitVec 32), ∀ f, (func.toNat, f) ∈ aluTable → func.toNat ∈ alulCodes →
      ∃ t, exec (.alul u gd ga func imm) s = .next t ∧ Wrote s t u gd (f (getG s u ga) (imm.signExtend 64)) 2)
    ∧ (∀ (func : BitVec 14) (imm : BitVec 32), func.toNat ∉ alulCodes →
      exec (.alul u gd ga func imm) s = .refused .illFormed)

/-- R210: the I-format arithmetic, the shifts by IMM14[5:0] with the other bits 0, and the L-format constants write the
result of Table 8.1 and nothing else; a shift whose other bits are not 0 is refused. Each answers a next state with its
effect: LI, LIH, ADDI, ANDI, ORI, XORI, SHLI, SHRI, SHRAI, SLTI, SLTIU. -/
def Obligations.ImmediateArithmeticWritesItsResult : Prop :=
  ∀ (u : ZsUnit) (gd ga : GReg) (imm : BitVec 14) (s : State), canIssue s u = true →
    (∀ i v, (i, v) ∈ immediateForms u gd ga imm (getG s u ga) → ∃ t, exec i s = .next t ∧ Wrote s t u gd v 1)
    ∧ (imm.toNat < 64 →
        ∀ i v, (i, v) ∈ shiftForms u gd ga imm (getG s u ga) → ∃ t, exec i s = .next t ∧ Wrote s t u gd v 1)
    ∧ (64 ≤ imm.toNat → ∀ i v, (i, v) ∈ shiftForms u gd ga imm (getG s u ga) → exec i s = .refused .illFormed)
    ∧ (∀ w : BitVec 32, ∃ t, exec (.li u gd w) s = .next t ∧ Wrote s t u gd (w.signExtend 64) 2)
    ∧ (∀ w : BitVec 32, ∃ t, exec (.lih u gd ga w) s = .next t
        ∧ Wrote s t u gd (BitVec.ofNat 64 ((getG s u ga).toNat % 2 ^ 32 + w.toNat * 2 ^ 32)) 2)

/-- R213: a load whose address reaches the unit's storage, with no earlier write to the range outstanding and no failing
code word in it, writes the little-endian bytes there, extended as its mnemonic says; nothing but the register, the
program index and the ISSUE count changes. The model's choice of log entry 12 enters it. Each answers a next state with
its effect: LD8, LD8U, LD16, LD16U, LD32, LD32U, LD64. -/
def Obligations.LoadsReadLittleEndianBytes : Prop :=
  ∀ (u : ZsUnit) (gd ga : GReg) (imm : BitVec 14) (s : State) (k : Nat), canIssue s u = true →
    ∀ i size sx, (i, size, sx) ∈ loadForms u gd ga imm →
      accessKey s u (getG s u ga + imm.signExtend 64) size = some k → rangeFree s u k size false = true →
      (∀ n, u = .core n → badIn s k size = none) →
      ∃ t, exec i s = .next t ∧ Wrote s t u gd (extended sx size (rdBytes s k size)) 1

/-- R213, R356: a store whose address reaches the unit's storage, with no earlier access to the range outstanding and no
failing code word covered in part, stores the low bytes of its source little-endian at exactly the address computed, and
cures a failing word it covers whole; no register of the unit changes. The model's choice of log entry 12 enters it. Each
answers a next state with its effect: ST8, ST16, ST32, ST64. -/
def Obligations.StoresWriteLittleEndianBytes : Prop :=
  ∀ (u : ZsUnit) (gs ga : GReg) (imm : BitVec 14) (s : State) (k : Nat), canIssue s u = true →
    ∀ i size, (i, size) ∈ storeForms u gs ga imm →
      accessKey s u (getG s u ga + imm.signExtend 64) size = some k → rangeFree s u k size true = true →
      (∀ w ∈ s.bad, overlaps w k size = true → covers w k size = true) →
      ∃ t, exec i s = .next t
        ∧ (∀ j, j < size → rdByte t (k + j) = (getG s u gs).extractLsb' (8 * j) 8)
        ∧ MemKept s t k size
        ∧ t.bad = s.bad.filter (fun w => !covers w k size)
        ∧ Jumped { s with mem := t.mem, bad := t.bad } t u (getPc s u + 1) 1

/-- R214: a branch goes to PC + sext(OFF14) when its condition holds and to PC + 1 when not; JAL links PC + 2 and goes to
PC + sext(IMM32); NOP goes on. A taken transfer costs two further issue cycles on a core. -/
def Sys2Proof.Machine.Claims.ControlTransfersSetTheProgramIndex : Prop :=
  ∀ (u : ZsUnit) (ga gb gd : GReg) (off : BitVec 14) (imm : BitVec 32) (s : State), canIssue s u = true →
    (∀ i p, (i, p) ∈ branchForms u ga gb off (getG s u ga) (getG s u gb) →
      (p → ∃ t, exec i s = .next t ∧ Jumped s t u (getPc s u + off.signExtend 32) 3)
      ∧ (¬ p → ∃ t, exec i s = .next t ∧ Jumped s t u (getPc s u + 1) 1))
    ∧ (∃ t, exec (.jal u gd imm) s = .next t
        ∧ (∀ r, getG t u r = if r = gd ∧ r ≠ 0 then (getPc s u + 2).setWidth 64 else getG s u r)
        ∧ getPc t u = getPc s u + imm ∧ UnitFrame s t u 3)
    ∧ (∃ t, exec (.nop u) s = .next t ∧ Jumped s t u (getPc s u + 1) 1)

/-- R214: JALR reads its target before it links PC + 1; a target that starts no instruction of the code section traps
BAD_TARGET with the JALR's own index, and the link is written: on a core with the fault of the trap; a Puppeteer core
issues nothing more. -/
def Sys2Proof.Machine.Claims.JalrChecksItsTarget : Prop :=
  ∀ (u : ZsUnit) (gd ga : GReg) (s : State), canIssue s u = true →
    ((∀ n, u = .core n → isStart (core s n).code (getG s u ga).toNat = true) →
      (∀ p, u = .pup p → isStart (pup s p).code (getG s u ga).toNat = true) →
      ∃ t, exec (.jalr u gd ga) s = .next t
        ∧ (∀ r, getG t u r = if r = gd ∧ r ≠ 0 then (getPc s u + 1).setWidth 64 else getG s u r)
        ∧ getPc t u = (getG s u ga).setWidth 32 ∧ UnitFrame s t u 3)
    ∧ (∀ n, u = .core n → isStart (core s n).code (getG s u ga).toNat = false →
      ∃ t, exec (.jalr u gd ga) s = .next t
        ∧ (core t n).trap = some 0x04 ∧ (core t n).errPc = (core s n).pc ∧ (core t n).pc = (core s n).pc
        ∧ getG t u gd = (if gd = 0 then 0 else (getPc s u + 1).setWidth 64)
        ∧ Raised s t n.val 0x01 1 (core s n).job 4 ∧ TrapFrame s t n)
    ∧ (∀ p, u = .pup p → isStart (pup s p).code (getG s u ga).toNat = false →
      ∃ t, exec (.jalr u gd ga) s = .next t ∧ (pup t p).trap = some (pup s p).pc ∧ (pup t p).pc = (pup s p).pc
        ∧ (∀ r, getG t u r = if r = gd ∧ r ≠ 0 then (getPc s u + 1).setWidth 64 else getG s u r)
        ∧ canIssue t u = false ∧ { t with pups := s.pups } = s ∧ PupsKept s t [p.val]
        ∧ (pup t p).trace = ((pup s p).pc :: (pup s p).trace).take 1024
        ∧ { pup t p with g := (pup s p).g, trap := (pup s p).trap, trace := (pup s p).trace } = pup s p)

/-- R214: both parts hold: `ControlTransfersSetTheProgramIndex` and `JalrChecksItsTarget`. Each answers a next state with
its effect: JAL, NOP, JALR, BEQ, BNE, BLT, BGE, BLTU, BGEU. -/
def Obligations.ControlTransfersAndTheirChecks : Prop :=
  ControlTransfersSetTheProgramIndex ∧ JalrChecksItsTarget

/-- R215, R216: MFS writes the state register that FUNC selects, zero-extended; TIME.READ writes nanoseconds and fraction
of one instant and changes nothing else; an unlisted FUNC and two equal destinations other than g0 are refused. Each
answers a next state with its effect: MFS, TIME_READ. -/
def Obligations.StateRegistersAndTimeAreRead : Prop :=
  (∀ (n : CoreId) (gd : GReg) (func : BitVec 9) (s : State), canIssue s (.core n) = true →
    (∀ v, [BitVec.ofNat 64 (getF s (CORE_STATUS n) CORE_STATUS_LOGICAL), (core s n).job.setWidth 64, (core s n).rank.setWidth 64,
        (core s n).entry.setWidth 64, (core s n).slot.setWidth 64, (core s n).token, (core s n).step,
        (core s n).srPos.setWidth 64][func.toNat]? = some v →
      ∃ t, exec (.mfs n gd func) s = .next t ∧ Wrote s t (.core n) gd v 1)
    ∧ (8 ≤ func.toNat → exec (.mfs n gd func) s = .refused .illFormed))
  ∧ (∀ (u : ZsUnit) (gd gb : GReg) (s : State), canIssue s u = true →
    (gd ≠ gb ∨ gd = 0 →
      ∃ t, exec (.timeRead u gd gb) s = .next t
        ∧ (∀ r, getG t u r = if r ≠ 0 ∧ r = gd then BitVec.ofNat 64 (s.ftu.ft / 65536)
              else if r ≠ 0 ∧ r = gb then BitVec.ofNat 64 (s.ftu.ft % 65536) else getG s u r)
        ∧ getPc t u = getPc s u + 1 ∧ UnitFrame s t u 1)
    ∧ (gd = gb → gd ≠ 0 → exec (.timeRead u gd gb) s = .refused .illFormed))

/-- R217: after STEP.END nothing of the core issues; TRAP stops the step with cause TRAP and its own index, keeps the
releases of earlier instructions, and raises one STEP fault TRAP of the core. Each answers a next state with its effect:
STEP_END, TRAP. -/
def Obligations.StepEndAndTrapEndIssue : Prop :=
  ∀ (n : CoreId) (s : State), canIssue s (.core n) = true →
    (∃ t, exec (.stepEnd n) s = .next t ∧ (core t n).ended = true ∧ canIssue t (.core n) = false
      ∧ getPc t (.core n) = getPc s (.core n) + 1
      ∧ { core t n with ended := (core s n).ended, pc := (core s n).pc, lastPc := (core s n).lastPc } = core s n
      ∧ { t with cores := s.cores, csr := s.csr } = s ∧ CoresKept s t [n.val] ∧ CsrKept s t [CORE_CNT_ISSUE n])
    ∧ (∃ t, exec (.trap n) s = .next t ∧ Stopped s t n 0x07 (core s n).pc ∧ canIssue t (.core n) = false
      ∧ Raised s t n.val 0x01 1 (core s n).job 7 ∧ TrapFrame s t n)

/-- R213, R198: a scalar access that reaches no storage of the core traps ADDRESS, and one that is not naturally aligned
traps ALIGN: the core stops at the instruction, no register and no byte changes, and one STEP fault is raised. A step
that runs past its code section traps BAD_TARGET with the index of the last instruction run; a Puppeteer core that runs past
its code issues nothing more. -/
def Sys2Proof.Machine.Claims.BadAccessesTrap : Prop :=
  ∀ (n : CoreId) (gd ga : GReg) (imm : BitVec 14) (s : State),
    (canIssue s (.core n) = true → ∀ i size cause,
      (i, size) ∈ storeForms (.core n) gd ga imm ++ (loadForms (.core n) gd ga imm).map (fun x => (x.1, x.2.1)) →
      scalarAddr s n (getG s (.core n) ga + imm.signExtend 64) size = .error cause →
      (cause = 1 ∨ cause = 2)
      ∧ ∃ t, exec i s = .next t ∧ Stopped s t n cause (core s n).pc
        ∧ Raised s t n.val 0x01 1 (core s n).job (BitVec.ofNat 32 cause) ∧ TrapFrame s t n)
    ∧ (coreReady s n = true → inCode s n = false → ∃ t, exec (.nop (.core n)) s = .next t
        ∧ Stopped s t n 0x04 (core s n).lastPc ∧ Raised s t n.val 0x01 1 (core s n).job 4 ∧ TrapFrame s t n)
    ∧ (∀ p : PupId, pupReady s p = true → (pup s p).code.length ≤ (pup s p).pc.toNat → ∃ t, exec (.nop (.pup p)) s = .next t
        ∧ t = setPup s p { pup s p with trap := some ((pup s p).trace.headD 0) } ∧ canIssue t (.pup p) = false)

namespace Sys2Proof.Machine.Claims

/-! ### The register block (R12–R14, R384, R398, R402) -/

/-- Bit `i` of the register at a CSR offset lies in a field of the access code. -/
def hasCode (off i : Nat) (a : Acc) : Bool :=
  match findReg off with
  | some (r, _) => r.fields.any (fun f => decide (f.acc = a) && decide (f.fld.lo ≤ i) && decide (i < f.fld.lo + f.fld.w))
  | none => false

/-- A register of no action and no range of its own: outside the host interface's rings and vectors, and whatever value is
written to its RW bits is the value taken. -/
def PlainRegister (s : State) (off : Nat) (v : Word) : Prop :=
  canon off = off ∧ writeAction s 0 off v = none ∧ writeAction s 1 off v = none ∧ writeAction s 2 off v = none
    ∧ (∀ w, takenRw s off w = some w) ∧ ¬ (0x510000 ≤ off ∧ off < 0x541200)

/-- A write from a source reaches the register at an offset: it arrives, the block is open, and R3, R315 and R318 leave
the offset a register. -/
def Reaches (s : State) (src : Nat) (off : Nat) : Prop :=
  writable s src off = true ∧ inAbsentCore s off = false ∧ noPort s off = false

/-- A register no bit of which has access RWQ. -/
def NoRwq (off : Nat) : Prop := ∀ i, hasCode off i .rwq = false

/-- Table 15.2 and Table 15.15: first CSR offset, stride and count of each block's instances, and its BLOCK value. -/
def revisionTable : List (Nat × Nat × Nat × Nat) :=
  [ (0x0000000, 0, 1, 0x0001), (0x0100000, 0, 1, 0x0002), (0x0200000, 0, 1, 0x0003), (0x0300000, 0, 1, 0x0004),
    (0x0400000, 0, 1, 0x0005), (0x0500000, 0, 1, 0x0006), (0x0600000, 0, 1, 0x0007), (0x1000000, 0x10000, 32, 0x0010),
    (0x2000000, 0x400000, 4, 0x0011), (0x3000000, 0x1000, 1024, 0x0012), (0x4000000, 0x10000, 16, 0x0013),
    (0x5000000, 0x10000, 80, 0x0014), (0x6000000, 0x10000, 16, 0x0015), (0x7000000, 0, 1, 0x0016) ]

end Sys2Proof.Machine.Claims

/-- R13, R14, R402: a write that reaches a register without RWQ bits gives each RW bit its written value, clears each W1C
bit written 1 unless hardware sets it in the same cycle, and leaves every other bit; RESET_CNT rises by the bits in which
a set met a clear, and saturates. Nothing else changes but the message of a set. Answers a next state with its effect:
REGISTER_WRITE. -/
def Obligations.RegisterWritesFollowTheAccessCodes : Prop :=
  ∀ (src : Fin 3) (addr v hw : Word) (s : State) (off : Nat),
    accessOff s src addr.toNat = some off → Reaches s src off → PlainRegister s off v → NoRwq off →
    ∃ t, exec (.registerWrite src addr v hw) s = .next t
      ∧ (∀ i, i < 64 → hasCode off i .rw = true → (reg t off).getLsbD i = v.getLsbD i)
      ∧ (∀ i, i < 56 → hasCode off i .rw = false → hasCode off i .w1c = true →
          (reg t off).getLsbD i = (((reg s off).getLsbD i && !v.getLsbD i) || hw.getLsbD i))
      ∧ (∀ i, i < 56 → hasCode off i .rw = false → hasCode off i .w1c = false →
          (reg t off).getLsbD i = (reg s off).getLsbD i)
      ∧ ((∀ i, hasCode off i .w1c = false) →
          ∀ i, i < 64 → hasCode off i .rw = false → (reg t off).getLsbD i = (reg s off).getLsbD i)
      ∧ ((∃ i, hasCode off i .w1c = true) → (∀ i, 56 ≤ i → hasCode off i .rw = false ∧ hasCode off i .w1c = false) →
          fget ⟨56, 8⟩ (reg t off) = min 255 (fget ⟨56, 8⟩ (reg s off)
            + ((List.range 64).filter (fun i => v.getLsbD i && hw.getLsbD i && hasCode off i .w1c)).length))
      ∧ CsrKept s t [off, HIF_MSIX_PEND 4] ∧ { t with csr := s.csr, out := s.out } = s
      ∧ (hw = 0 → { t with csr := s.csr } = s ∧ CsrKept s t [off])

/-- R398: a write of the RWQ bits of a register is held while the register's domain is quiesced, the value in force
staying as it is and a read giving the bits written; any other such write is dropped, counted with its offset and source,
and sets DROP_EVENT. No fault is raised. Answers a next state with its effect: REGISTER_WRITE. -/
def Obligations.RwqWritesNeedAQuiescedDomain : Prop :=
  ∀ (src : Fin 3) (addr v : Word) (s : State) (off : Nat),
    accessOff s src addr.toNat = some off → Reaches s src off → canon off = off →
    (∀ src', writeAction s src' off v = none) → (∀ i, hasCode off i .rw = false ∧ hasCode off i .w1c = false) →
    rwqMask off ≠ 0 → isAlarm off = false → firmwareOnly off = false →
    (editable s off = true → (∀ old w, takenRwq s off old w = w) →
      ∃ t e, exec (.registerWrite src addr v 0) s = .next t ∧ editOf t off = some e
        ∧ (∀ i, i < 64 → e.getLsbD i = if (rwqMask off).getLsbD i then v.getLsbD i else (reg s off).getLsbD i)
        ∧ { t with edits := s.edits } = s ∧ (∀ o, o ≠ off → editOf t o = editOf s o))
    ∧ (editable s off = false →
      ∃ t, exec (.registerWrite src addr v 0) s = .next t
        ∧ getF t PUP_QER_DROP PUP_QER_DROP_COUNT
            = min (getF s PUP_QER_DROP PUP_QER_DROP_COUNT + 1) (2 ^ PUP_QER_DROP_COUNT.w - 1)
        ∧ getF t PUP_QER_DROP PUP_QER_DROP_OFFSET = off % 2 ^ PUP_QER_DROP_OFFSET.w
        ∧ getF t PUP_QER_DROP PUP_QER_DROP_SOURCE = src.val
        ∧ isSet t PUP_STATUS PUP_STATUS_DROP_EVENT = true
        ∧ CsrKept s t [PUP_QER_DROP, PUP_STATUS] ∧ { t with csr := s.csr } = s)

/-- R404, R218: MCTP_CSR_READ sends out, and CSR.R writes to its register, what a read of the offset returns, and neither
changes anything else but the endpoint ID of the transport; MCTP_CSR_WRITE and CSR.W write a plain register as REGISTER_WRITE does from their source. -/
def Sys2Proof.Machine.Claims.ManagementAndPuppeteerReachTheRegisters : Prop :=
  ∀ (s : State) (off : Nat), off ≠ 0x100018 → off ≠ 0x300038 → off ≠ 0x400230 → off < 0x8000000 →
    (∀ (addr : Word) (via : MctpTo), addr.toNat = off → mctpIn s via = true → ∃ t, exec (.mctpCsrRead addr via) s = .next t
        ∧ t = { takeEid s via with out := .read (if readable s 1 off then peek s off else 0) :: s.out })
    ∧ (∀ (p : PupId) (gd ga : GReg), canIssue s (.pup p) = true → (getG s (.pup p) ga).toNat = off →
        ∃ t, exec (.csrR p gd ga) s = .next t
          ∧ Wrote s t (.pup p) gd (if readable s 2 off then peek s off else 0) 1)
    ∧ (∀ (p : PupId) (ga gb : GReg), canIssue s (.pup p) = true → (getG s (.pup p) ga).toNat = off →
        Reaches s 2 off → PlainRegister s off (getG s (.pup p) gb) → NoRwq off →
        ∃ t u, exec (.csrW p ga gb) s = .next t
          ∧ exec (.registerWrite 2 (getG s (.pup p) ga) (getG s (.pup p) gb) 0) s = .next u
          ∧ t.csr = u.csr ∧ Jumped { s with csr := u.csr } t (.pup p) (getPc s (.pup p) + 1) 1)
    ∧ (∀ (addr v hw : Word) (via : MctpTo), addr.toNat = off → mctpIn s via = true →
        Reaches s 1 off → PlainRegister s off v → NoRwq off →
        ∃ t, exec (.mctpCsrWrite addr v hw via) s = .next t ∧ exec (.registerWrite 1 addr v hw) (takeEid s via) = .next t
          ∧ (∀ i, i < 64 → hasCode off i .rw = true → (reg t off).getLsbD i = v.getLsbD i)
          ∧ CsrKept s t [off, HIF_MSIX_PEND 4])

/-- R384: BAR0 reaches the first 32 MiB of the CSR space directly, and the CSR space above through four apertures of 8 MiB
at the BASE in force; an access past 0x7FF_FFFF, or past the BAR, reaches nothing. -/
def Sys2Proof.Machine.Claims.Bar0ReachesTheCsrSpace : Prop :=
  ∀ (s : State) (a : Nat),
    (a < 0x2000000 → accessOff s 0 a = some a)
    ∧ (∀ w o, w < 4 → o < 0x800000 → a = 0x2000000 + w * 0x800000 + o →
        getF s (HIF_APERTURE w) HIF_APERTURE_BASE * 0x800000 + o < 0x8000000 →
        accessOff s 0 a = some (getF s (HIF_APERTURE w) HIF_APERTURE_BASE * 0x800000 + o))
    ∧ (∀ w o, w < 4 → o < 0x800000 → a = 0x2000000 + w * 0x800000 + o →
        0x8000000 ≤ getF s (HIF_APERTURE w) HIF_APERTURE_BASE * 0x800000 + o → accessOff s 0 a = none)
    ∧ (0x4000000 ≤ a → accessOff s 0 a = none)

/-- R404, R218, R384: both parts hold: `ManagementAndPuppeteerReachTheRegisters` and `Bar0ReachesTheCsrSpace`. The model's
choices of log entries 11, 18 and 98 enter it. Each answers a next state with its effect: MCTP_CSR_READ, CSR_R, CSR_W,
MCTP_CSR_WRITE. -/
def Obligations.RegistersAreReachedFromEverySide : Prop :=
  ManagementAndPuppeteerReachTheRegisters ∧ Bar0ReachesTheCsrSpace

/-- R490: each block's revision register, in every instance, reads the value of Table 15.15 after reset, and every write
from PCIe, MCTP or the Puppeteer leaves the whole state as it is. -/
def Obligations.RevisionRegistersAreFixed : Prop :=
  ∀ base stride n block, (base, stride, n, block) ∈ revisionTable → ∀ i, i < n →
    reg State.reset (base + stride * i) = BitVec.ofNat 64 (0x00B00000 + block)
    ∧ (∀ (s : State) (src : Fin 3) (v hw : Word) (addr : Word), accessOff s src addr.toNat = some (base + stride * i) →
        exec (.registerWrite src addr v hw) s = .next s)

/-- R35, R440, R471: reading FTU_TIME returns the nanoseconds of FT and latches its fraction; reading FLT_BB_DATA returns
the eight bytes at FLT_BB_ADDR, and reading SEC_ATT_DATA those of the report at SEC_ATT_ADDR, which moves on by 8. Each
answers a next state with its effect: FTU_TIME_READ, FLT_BB_DATA_READ, SEC_ATT_DATA_READ. -/
def Obligations.ReadsWithAnEffect : Prop :=
  ∀ s : State,
    (s.boot.vstby = true → ∃ t, exec .ftuTimeRead s = .next t
      ∧ t.out = .read (BitVec.ofNat 64 (s.ftu.ft / 65536)) :: s.out
      ∧ getF t FTU_TIME_FRAC FTU_TIME_FRAC_FRAC = s.ftu.ft % 65536
      ∧ CsrKept s t [FTU_TIME_FRAC] ∧ { t with csr := s.csr, out := s.out } = s)
    ∧ (readable s 0 0x300038 = true → ∃ t, exec .fltBbDataRead s = .next t
      ∧ t.out = .read (mapGet (fun _ => (0 : Word)) s.flt.bb (getF s FLT_BB_ADDR FLT_BB_ADDR_OFFSET / 8)) :: s.out
      ∧ getF t FLT_BB_ADDR FLT_BB_ADDR_OFFSET
          = (if getF s FLT_BB_ADDR FLT_BB_ADDR_OFFSET + 8 < 0x1000000 then getF s FLT_BB_ADDR FLT_BB_ADDR_OFFSET + 8 else 0x200000)
      ∧ CsrKept s t [FLT_BB_ADDR] ∧ { t with csr := s.csr, out := s.out } = s)
    ∧ (reach s ≠ .none → ∃ t, exec .secAttDataRead s = .next t
      ∧ t.out = .read (BitVec.ofNat 64 (ofBytes ((s.sec.report.drop (getF s SEC_ATT_ADDR SEC_ATT_ADDR_ADDR)).take 8))) :: s.out
      ∧ getF t SEC_ATT_ADDR SEC_ATT_ADDR_ADDR = (getF s SEC_ATT_ADDR SEC_ATT_ADDR_ADDR + 8) % 65536
      ∧ CsrKept s t [SEC_ATT_ADDR] ∧ { t with csr := s.csr, out := s.out } = s)

/-- R218: IRQ.WAIT with causes pending writes their bitmap and clears them; with none it halts the core, which then issues
nothing, until the PUP_IRQ alarm of a core gives it its bitmap. -/
def Sys2Proof.Machine.Claims.IrqWaitHaltsUntilACause : Prop :=
  ∀ (p : PupId) (gd : GReg) (s : State), canIssue s (.pup p) = true →
    (∀ v, (pup s p).irq = some v → ∃ t, exec (.irqWait p gd) s = .next t
      ∧ (pup t p).irq = none ∧ (∀ r, getG t (.pup p) r = if r = gd ∧ r ≠ 0 then v else getG s (.pup p) r)
      ∧ getPc t (.pup p) = getPc s (.pup p) + 1 ∧ (pup t p).trace = ((pup s p).pc :: (pup s p).trace).take 1024
      ∧ { pup t p with g := (pup s p).g, pc := (pup s p).pc, irq := (pup s p).irq, trace := (pup s p).trace } = pup s p
      ∧ PupsKept s t [p.val] ∧ { t with pups := s.pups } = s)
    ∧ ((pup s p).irq = none → ∃ t, exec (.irqWait p gd) s = .next t
      ∧ pup t p = { pup s p with wait := some gd, trace := ((pup s p).pc :: (pup s p).trace).take 1024 }
      ∧ canIssue t (.pup p) = false
      ∧ getF t (PUP_CORE p) PUP_CORE_STATE = 1
      ∧ PupsKept s t [p.val] ∧ CsrKept s t [PUP_CORE p] ∧ { t with pups := s.pups, csr := s.csr } = s)

namespace Sys2Proof.Machine.Claims

/-! ### FT alarms and steps (R47–R50, R152, R193–R198) -/

/-- The lead of an action (Table 2.2). -/
def leadOf (action : Nat) : Nat := if action = 1 ∨ action = 3 ∨ action = 5 ∨ action = 6 then 40 else 10

/-- The fire instant of an alarm: its target less its action's lead. -/
def fireAt (s : State) (n : AlarmId) : Nat :=
  (reg s (FTU_ALARM_TARGET n)).toNat - leadOf (getF s (FTU_ALARM_CTRL n) FTU_ALARM_CTRL_ACTION)

/-- The action of an alarm has left the line of fired actions and takes effect at the FT it is due. -/
def TookEffect (s t : State) (x : Fired) : Prop :=
  t.ftu.fired = s.ftu.fired.erase x ∧ t.ftu.ft = max s.ftu.ft (x.due.toNat * 65536)
    ∧ { t.ftu with fired := s.ftu.fired, ft := s.ftu.ft } = s.ftu

/-- An object after an add (R152): COUNT saturates at 2^64 − 1 and sets SAT, and never wraps. -/
def addTo (o : Obj) (v : Nat) : Obj :=
  if o.count.toNat + v ≤ 2 ^ 64 - 1 then { o with count := o.count + BitVec.ofNat 64 v }
  else { count := 0xFFFFFFFFFFFFFFFF#64, ctrl := o.ctrl ||| (1 : Word) <<< 20 }

/-- A core that begins entry `e` with definition `d` of its image (R193, R195): registers and SR position recorded, S_STEP
one higher, flags clear, nothing issued. `late` slips count with those already counted for the step (R51). -/
def Began (s t : State) (n : Nat) (e : Nat) (d : EntryDef) (slot : BitVec 7) (token : Word) (late : Nat) : Prop :=
  { core t n with dueEntries := (core s n).dueEntries, nextToken := (core s n).nextToken }
    = { core s n with
        pc := d.pc, lastPc := d.pc, entry := BitVec.ofNat 16 e, slot := slot, token := token, step := (core s n).step + 1,
        running := true, ended := false, trap := none, errPc := 0xFFFFFFFF#32, wait := none, nextNo := 0,
        flags := List.replicate 5 UnitFlags.clear, g0 := (core s n).g, srPos0 := (core s n).srPos, retries := 0,
        slips := late + (core s n).owedSlips, owedSlips := 0, ftStart := now t, runStart := now t, heldAt := none, paths := [] }
  ∧ getF t (CORE_STATUS n) CORE_STATUS_STATE = 3 ∧ CoresKept s t [n]

/-- Beside the listed cores nothing of a core, a launch or a flow has changed but that waits met at the end of a cycle are
noted (R153). -/
def OnlyWaitsNoted (s t : State) (ns : List Nat) : Prop :=
  (∀ m, m ∉ ns → { core t m with wait := (core s m).wait } = core s m)
    ∧ { t.coll with launches := s.coll.launches } = s.coll
    ∧ t.coll.launches.map (fun (x : Launch) => { x with flows := x.flows.map (fun (f : Flow) => { f with wait := none }) })
        = s.coll.launches.map (fun (x : Launch) => { x with flows := x.flows.map (fun (f : Flow) => { f with wait := none }) })

/-- Registers that the beginning of a step can change: the states of the core, its cluster and the cores beside it, and the
STEP_START slips. -/
def beginRegs (n : Nat) : List Nat :=
  [PWR_DOMAIN n, PWR_DOMAIN (80 + n / 5), FTU_SLIP 2, FTU_SLIP_LAST, CORE_STATUS n]
    ++ (List.range 5).map (fun j => CORE_STATUS (5 * (n / 5) + j))

end Sys2Proof.Machine.Claims

/-- R47–R49: an enabled alarm whose action is 1 to 7 fires: FT stands at its fire instant or past it, its action lines up
with its target FT, a one-shot clears EN, and a periodic one moves its target by the smallest positive multiple of PERIOD
that places the next fire instant after FT. A firing at least an HCLK cycle late sets LATE_ALARM and counts one ALARM_LATE
slip, and its action is due its lead later. Then the domains that it is an event of are evaluated, which touches no more than
the power manager's choices do. An alarm that is disabled, or has no action or a reserved one, does not fire. -/
def Sys2Proof.Machine.Claims.AlarmsFireAtTheirInstants : Prop :=
  ∀ (n : AlarmId) (s : State), running s = true →
    (isSet s (FTU_ALARM_CTRL n) FTU_ALARM_CTRL_EN = true →
      getF s (FTU_ALARM_CTRL n) FTU_ALARM_CTRL_ACTION ∈ [1, 2, 3, 4, 5, 6, 7] →
      ∃ t x, exec (.alarmFire n) s = .next (evalAlarm t n)
        ∧ { evalAlarm t n with csr := t.csr, pwr := t.pwr, net := t.net, out := t.out } = t
        ∧ (getF s (FTU_ALARM_CTRL n) FTU_ALARM_CTRL_ACTION ∈ [1, 2, 4, 7] → evalAlarm t n = t)
        ∧ t.ftu.ft = max s.ftu.ft (fireAt s n * 65536) ∧ t.ftu.fired = s.ftu.fired ++ [x]
        ∧ x.alarm = n ∧ x.action.toNat = getF s (FTU_ALARM_CTRL n) FTU_ALARM_CTRL_ACTION
        ∧ x.index.toNat = getF s (FTU_ALARM_CTRL n) FTU_ALARM_CTRL_TARGET_INDEX ∧ x.target = reg s (FTU_ALARM_TARGET n)
        ∧ x.met = false ∧ x.late = decide (fireAt s n * 65536 + 81920 ≤ s.ftu.ft)
        ∧ x.due = (if x.late = true then now s + BitVec.ofNat 64 (leadOf (getF s (FTU_ALARM_CTRL n) FTU_ALARM_CTRL_ACTION))
            else x.target)
        ∧ (getF s (FTU_ALARM_CTRL n) FTU_ALARM_CTRL_PERIOD = 0 →
            isSet t (FTU_ALARM_CTRL n) FTU_ALARM_CTRL_EN = false ∧ reg t (FTU_ALARM_TARGET n) = reg s (FTU_ALARM_TARGET n))
        ∧ (∀ p, getF s (FTU_ALARM_CTRL n) FTU_ALARM_CTRL_PERIOD = p → 0 < p →
            isSet t (FTU_ALARM_CTRL n) FTU_ALARM_CTRL_EN = true
            ∧ ∃ k, 1 ≤ k ∧ reg t (FTU_ALARM_TARGET n) = reg s (FTU_ALARM_TARGET n) + BitVec.ofNat 64 (p * k)
              ∧ t.ftu.ft / 65536 % 2 ^ 64 < fireAt s n + p * k
              ∧ ∀ j, 1 ≤ j → j < k → fireAt s n + p * j ≤ t.ftu.ft / 65536 % 2 ^ 64)
        ∧ (fireAt s n * 65536 + 81920 ≤ s.ftu.ft →
            isSet t FTU_STATUS FTU_STATUS_LATE_ALARM = true
            ∧ getF t (FTU_SLIP 0) FTU_SLIP_COUNT = min (getF s (FTU_SLIP 0) FTU_SLIP_COUNT + 1) (2 ^ FTU_SLIP_COUNT.w - 1))
        ∧ (s.ftu.ft < fireAt s n * 65536 + 81920 →
            t.out = s.out ∧ CsrKept s t [FTU_ALARM_TARGET n, FTU_ALARM_CTRL n])
        ∧ CsrKept s t [FTU_ALARM_TARGET n, FTU_ALARM_CTRL n, FTU_STATUS, FTU_SLIP 0, FTU_SLIP_LAST, HIF_MSIX_PEND 4]
        ∧ { t.ftu with ft := s.ftu.ft, fired := s.ftu.fired } = s.ftu
        ∧ { t with csr := s.csr, ftu := s.ftu, out := s.out } = s)
    ∧ (isSet s (FTU_ALARM_CTRL n) FTU_ALARM_CTRL_EN = false ∨
        getF s (FTU_ALARM_CTRL n) FTU_ALARM_CTRL_ACTION ∉ [1, 2, 3, 4, 5, 6, 7] → exec (.alarmFire n) s = .next s)

/-- R302, Table 2.2: GATE_CYCLE begins a new cycle at the target FT in the list of every port that has one and that the
named port leads; SYNC_SIGNAL adds TIMER_INC to the object of a cluster that is awake, after waits already met are noted, and the cluster is then evaluated;
PUP_IRQ interrupts the Puppeteer
core, ending its IRQ.WAIT, with a bitmap whose bits the spec leaves open (a free value). An index out of the action's
range has no effect at any destination. -/
def Sys2Proof.Machine.Claims.AlarmActionsTakeEffect : Prop :=
  ∀ (n : AlarmId) (s : State) (x : Fired), running s = true →
    (firedNext s n 1 = some x → x.index.toNat < 1024 → ∃ t, exec (.gateCycle n) s = .next t ∧ TookEffect s t x
      ∧ (∀ q, q < 1024 → gateLen s q ≠ 0 → getF s (TSC_GATE_CTRL q) TSC_GATE_CTRL_LEADER = x.index.toNat →
          port t q = { port s q with cycleAt := x.target }
          ∧ getF t (TSC_GATE_STATUS q) TSC_GATE_STATUS_CYCLES
              = (getF s (TSC_GATE_STATUS q) TSC_GATE_STATUS_CYCLES + 1) % 2 ^ TSC_GATE_STATUS_CYCLES.w)
      ∧ (∀ q, gateLen s q = 0 ∨ getF s (TSC_GATE_CTRL q) TSC_GATE_CTRL_LEADER ≠ x.index.toNat →
          port t q = port s q ∧ reg t (TSC_GATE_STATUS q) = reg s (TSC_GATE_STATUS q))
      ∧ CsrKept s t ((List.range 1024).map TSC_GATE_STATUS)
      ∧ { t.net with ports := s.net.ports } = s.net ∧ { t with csr := s.csr, net := s.net, ftu := s.ftu } = s)
    ∧ (firedNext s n 3 = some x → x.index.toNat < 65536 → awake s (80 + x.index.toNat / 4096) = true →
      ∃ t, exec (.syncSignal n) s = .next (evalDomain t (80 + x.index.toNat / 4096)) ∧ TookEffect s t x
        ∧ obj t x.index.toNat = addTo (obj s x.index.toNat) ((obj s x.index.toNat).ctrl.extractLsb' 32 32).toNat
        ∧ ObjsKept s t [x.index.toNat] ∧ { t with objs := s.objs, ftu := s.ftu } = latchWaits s)
    ∧ (∀ p : PupId, firedNext s n 7 = some x → x.index.toNat = p.val → ∃ t, exec (.pupIrq n) s = .next t ∧ TookEffect s t x
      ∧ (∀ gd, (pup s p).wait = some gd → (pup t p).wait = none ∧ (pup t p).pc = (pup s p).pc + 1
          ∧ (∀ r, getG t (.pup p) r = if r = gd ∧ r ≠ 0 then Config.freeWord s.free else getG s (.pup p) r)
          ∧ getF t (PUP_CORE p) PUP_CORE_STATE = 0)
      ∧ ((pup s p).wait = none → pup t p = { pup s p with irq := some ((pup s p).irq.getD 0 ||| Config.freeWord s.free) }
          ∧ t.csr = s.csr)
      ∧ PupsKept s t [p.val] ∧ CsrKept s t [PUP_CORE p]
      ∧ { t with pups := s.pups, csr := s.csr, ftu := s.ftu, free := s.free } = s)
    ∧ (∀ c a, (c, a) ∈ [(Instr.gateCycle n, 1), (.syncSignal n, 3), (.pwrWake n, 4), (.stepStart n, 6), (.pupIrq n, 7)] →
        firedNext s n a = some x → [1024, 0, 65536, 128, 0, 64, 8].getD (a - 1) 0 ≤ x.index.toNat →
        ∃ t, exec c s = .next t ∧ TookEffect s t x ∧ { t with ftu := s.ftu } = s)

/-- R218, R302: both parts hold: `IrqWaitHaltsUntilACause` and `AlarmActionsTakeEffect`. The model's choice of log entry
17 enters it. Each answers a next state with its effect: IRQ_WAIT, GATE_CYCLE, SYNC_SIGNAL, PUP_IRQ. -/
def Obligations.AlarmActionsActAndIrqWaitsEnd : Prop :=
  IrqWaitHaltsUntilACause ∧ AlarmActionsTakeEffect

/-- R407, R409: PWR_WAKE starts the wake of its domain: a domain in ELAND is left as it is, one in IMPALA is in ELAND at
once, and a deeper one is waking and has given back the wake alarm it held. -/
def Sys2Proof.Machine.Claims.PowerWakeStartsAWake : Prop :=
  ∀ (n : AlarmId) (s : State) (x : Fired) (u : Nat), running s = true → firedNext s n 4 = some x → x.index.toNat = u → u < 128 →
    (domState s u = 0 ∨ u ∈ s.pwr.waking →
      ∃ t, exec (.pwrWake n) s = .next t ∧ TookEffect s t x ∧ { t with ftu := s.ftu } = s)
    ∧ (domState s u = 1 → u ∉ s.pwr.waking → ∃ t, exec (.pwrWake n) s = .next t ∧ TookEffect s t x ∧ domState t u = 0
        ∧ { t with csr := s.csr, ftu := s.ftu } = s)
    ∧ (2 ≤ domState s u → u ∉ s.pwr.waking →
      ∃ t, exec (.pwrWake n) s = .next t ∧ TookEffect s t x ∧ u ∈ t.pwr.waking ∧ mapFind t.pwr.alarms u = none
        ∧ { t with csr := s.csr, pwr := s.pwr, ftu := s.ftu, net := s.net, out := s.out } = s)
    ∧ (2 ≤ domState s u → u ∉ s.pwr.waking → s.pwr.starved = [] →
      ∃ t, exec (.pwrWake n) s = .next t ∧ t.pwr.waking = s.pwr.waking ++ [u]
        ∧ (∀ a, mapFind s.pwr.alarms u = some a → reg t (FTU_ALARM_CTRL a) = 0 ∧ CsrKept s t [FTU_ALARM_CTRL a]
            ∧ t.pwr.alarms = mapErase s.pwr.alarms u)
        ∧ (mapFind s.pwr.alarms u = none → t.csr = s.csr ∧ t.pwr.alarms = s.pwr.alarms)
        ∧ { t with csr := s.csr, pwr := s.pwr, ftu := s.ftu } = s)

/-- R47–R49, R407, R409: both parts hold: `AlarmsFireAtTheirInstants` and `PowerWakeStartsAWake`. Each answers a next
state with its effect: ALARM_FIRE, PWR_WAKE. -/
def Obligations.AlarmsFireAndWake : Prop :=
  AlarmsFireAtTheirInstants ∧ PowerWakeStartsAWake

/-- R193: STEP_START begins the entry tied to its alarm on a core that may begin one, whatever FT the alarm then holds; on
a core that still runs a step the entry waits. A delay that the action met at a waking domain is no second slip of the
step. SLOT_ENTRY begins the slot's entry for the core's next token, planned for the time of the beginning, or for the
instant at which a swap or a test held it back. Each answers a next state with its effect: STEP_START, SLOT_ENTRY. -/
def Obligations.StepsBeginAtTheirEntries : Prop :=
  ∀ (s : State) (c : Nat), running s = true → c < 80 →
    (∀ (n : AlarmId) (x : Fired) (e : Nat) (d : EntryDef), firedNext s n 6 = some x → x.index.toNat < 64 →
      coreOf s x.index.toNat = some c → tiedEntry s (core s c).job.toNat n = some e →
      (imageOf s (core s c).job.toNat).bind (fun i => i.entries[e]?) = some d → coreAwake s c = true →
      (mayBegin s c = true → (core s c).dueEntries = [] →
        ∃ t, exec (.stepStart n) s = .next t ∧ TookEffect s t x
          ∧ Began s t c e d 0x40#7 0 (if x.met = false ∧ x.target.toNat < (now t).toNat then 1 else 0)
          ∧ (core t c).dueEntries = [] ∧ (core t c).nextToken = (core s c).nextToken
          ∧ getF t (FTU_SLIP 2) FTU_SLIP_COUNT
              = min (getF s (FTU_SLIP 2) FTU_SLIP_COUNT + if x.met = false ∧ x.target.toNat < (now t).toNat then 1 else 0)
                  (2 ^ FTU_SLIP_COUNT.w - 1)
          ∧ CsrKept s t (beginRegs c) ∧ { t with cores := s.cores, csr := s.csr, ftu := s.ftu } = s)
      ∧ (mayBegin s c = false → ∃ t, exec (.stepStart n) s = .next t ∧ TookEffect s t x
          ∧ core t c = { core s c with dueEntries := (core s c).dueEntries ++ [(BitVec.ofNat 16 e, if x.met = true then now t else x.target)] }
          ∧ CoresKept s t [c] ∧ { t with cores := s.cores, ftu := s.ftu } = s))
    ∧ (∀ (l : LCore) (e : Nat) (d : EntryDef), coreOf s l = some c → mayBegin s c = true → coreAwake s c = true →
        slotEntryOf s (core s c).job.toNat l = some (e, d) →
        (imageOf s (core s c).job.toNat).bind (fun i => i.entries[e]?) = some d →
        ∃ t, exec (.slotEntry l) s = .next t
          ∧ Began s t c e d (d.slot.setWidth 7) (core s c).nextToken
              ((if ((core s c).heldAt.getD (now s)).toNat < (now s).toNat then 1 else 0)
                + if (slotQueue s d.slot.toNat).late.contains (core s c).nextToken.toNat = true then 1 else 0)
          ∧ (core t c).nextToken = (core s c).nextToken + 1 ∧ (core t c).dueEntries = (core s c).dueEntries
          ∧ CsrKept s t (beginRegs c) ∧ { t with cores := s.cores, csr := s.csr } = s)

/-- R194: a step whose STEP.END has issued, and all of whose operations have completed, ends: the core runs nothing, its
flags are clear, and its record goes to the job's completion ring exactly when the entry has REPORT set; a trap that no
retry follows ends the step with an error record. -/
def Sys2Proof.Machine.Claims.StepsEndWithARecord : Prop :=
  ∀ (n : CoreId) (s : State), running s = true → (core s n).running = true → quietCore (core s n) = true →
    (core s n).dueEntries = [] → WakeAlarms s →
    ∀ status cause,
      ((core s n).trap = none ∧ (core s n).ended = true ∧ status = 0 ∧ cause = 0)
        ∨ (∃ c : BitVec 8, (core s n).trap = some c ∧ mayRetry s n = false ∧ cause = c.toNat ∧ status = if c = 8 then 2 else 1) →
      ∃ t, exec (.stepCompletion n) s = .next t
        ∧ core t n = { core s n with
            running := false, ended := false, trap := none, wait := none, dma := [], mx := [], vec := [], held := [], unsent := 0,
            feedHeld := false, drainHeld := false, flags := List.replicate 5 UnitFlags.clear, heldAt := (core t n).heldAt }
        ∧ (testWaits s n = false → (core t n).heldAt = (core s n).heldAt)
        ∧ OnlyWaitsNoted s t [n.val]
        ∧ (64 ≤ (core s n).slot.toNat → CoresKept s t [n.val] ∧ t.coll = s.coll ∧ t.sec = s.sec)
        ∧ t.sec = { s.sec with prov := t.sec.prov }
        ∧ (∀ e, entryOf s n = some e → e.report = false → status = 0 → t.qrings = s.qrings)
        ∧ (∀ e x, entryOf s n = some e → (e.report = true ∨ status ≠ 0) → job s (core s n).job.toNat = some x →
            ∃ r : Cpl, Entered s t x.cq.toNat r ∧ r.kind = 0 ∧ r.job = (core s n).job
              ∧ (wordAt r.body 0).toNat % 2 ^ 8 = status ∧ (wordAt r.body 0).toNat / 2 ^ 8 % 2 ^ 8 = cause
              ∧ (wordAt r.body 0).toNat / 2 ^ 16 % 2 ^ 8 = logicalOf s n
              ∧ (wordAt r.body 0).extractLsb' 24 16 = (core s n).entry ∧ (wordAt r.body 0).extractLsb' 40 16 = (core s n).job
              ∧ wordAt r.body 1 = (core s n).step ∧ wordAt r.body 2 = (core s n).ftStart ∧ wordAt r.body 3 = now s
              ∧ (wordAt r.body 4).toNat % 2 ^ 16 = min (core s n).slips 65535
              ∧ (wordAt r.body 4).extractLsb' 32 32 = (core s n).errPc
              ∧ wordAt r.body 5 = (mergeAll (core s n).flags).word0)
        ∧ { t with
            cores := s.cores, csr := s.csr, pwr := s.pwr, net := s.net, slotQ := s.slotQ, objs := s.objs,
            coll := s.coll, sec := s.sec, qrings := s.qrings, out := s.out } = s

/-- R195, R197: a trapped step with RETRY set and fewer than two retries behind it runs again from its entry with the
registers and SR position of its start, its flags clear and FT_START kept; memory and objects are not restored. A run at
its STEP_LIMIT stops with cause TIMEOUT and raises one STEP fault TIMEOUT. -/
def Sys2Proof.Machine.Claims.StepsRetryAndTimeOut : Prop :=
  ∀ (n : CoreId) (s : State), running s = true → (core s n).running = true →
    (∀ e, (core s n).trap.isSome = true → quietCore (core s n) = true → mayRetry s n = true → entryOf s n = some e →
      ∃ t, exec (.stepRetry n) s = .next t
        ∧ core t n = { core s n with
            flags := List.replicate 5 UnitFlags.clear, g := (core s n).g0, srPos := (core s n).srPos0, pc := e.pc, lastPc := e.pc,
            ended := false, trap := none, errPc := 0xFFFFFFFF#32, wait := none, nextNo := 0,
            feedHeld := false, drainHeld := false, retries := (core s n).retries + 1, runStart := now s }
        ∧ t.sec = { s.sec with reruns := s.sec.reruns + 1 } ∧ CoresKept s t [n.val] ∧ { t with cores := s.cores, sec := s.sec } = s)
    ∧ ((core s n).trap = none → ¬ ((core s n).ended = true ∧ quietCore (core s n) = true) → ∃ t, exec (.stepTimeout n) s = .next t
        ∧ (core t n).trap = some 8 ∧ (core t n).errPc = 0xFFFFFFFF#32 ∧ (core t n).held = [] ∧ (core t n).wait = none
        ∧ t.ftu.ft = max s.ftu.ft (((core s n).runStart + BitVec.ofNat 64 (stepLimitNs s n)).toNat * 65536)
        ∧ Raised { s with ftu := t.ftu } t n.val 0x02 1 (core s n).job 0
        ∧ CoresKept s t [n.val] ∧ CsrKept s t (faultRegs n.val 1)
        ∧ { t with cores := s.cores, csr := s.csr, flt := s.flt, ftu := s.ftu, out := s.out } = s)

/-- R194, R195, R197: both parts hold: `StepsEndWithARecord` and `StepsRetryAndTimeOut`. The model's choice of log entry
55 enters it. Each answers a next state with its effect: STEP_COMPLETION, STEP_RETRY, STEP_TIMEOUT. -/
def Obligations.StepsEndOrAreRetried : Prop :=
  StepsEndWithARecord ∧ StepsRetryAndTimeOut

namespace Sys2Proof.Machine.Claims

/-! ### Synchronisation (R151–R153, R201, R236–R238) -/

/-- The object a SYNC names and its value (R237). -/
def objOf (s : State) (n : CoreId) (d : BitVec 128) : Nat :=
  if d.getLsbD 11 then (getG s (.core n) (syncObjG d)).toNat else (d.extractLsb' 17 16).toNat
/-- The value of a SYNC. -/
def valOf (s : State) (n : CoreId) (d : BitVec 128) : Word :=
  if d.getLsbD 38 then (d.extractLsb' 39 32).setWidth 64 else getG s (.core n) (syncValG d)

/-- Objects `o` to `o + k` exist and are bound to the core's job (R238). -/
def Bound (s : State) (n : CoreId) (o k : Nat) : Prop :=
  o + k ≤ 65535 ∧ (core s n).job ≠ 0 ∧ ∀ i, i ≤ k → (obj s (o + i)).ctrl.extractLsb' 0 16 = (core s n).job

/-- The core has issued a SYNC: program index and number have moved on, a release has joined those that wait or a wait
holds the core; no object and no register has changed. -/
def SyncIssued (s t : State) (n : CoreId) (held : List Held) (w : Option CoreWait) : Prop :=
  core t n = { core s n with
      held := (core s n).held ++ held, wait := w, nextNo := (core s n).nextNo + 1, pc := (core s n).pc + 4, lastPc := (core s n).pc }
    ∧ CoresKept s t [n.val] ∧ CsrKept s t [CORE_CNT_ISSUE n] ∧ { t with cores := s.cores, csr := s.csr } = s

/-- A flow sequencer waits, and its object has reached the value. -/
def flowSatisfied (s : State) (f : Flow) : Bool :=
  match f.wait with
  | some (o, v) => decide (v.toNat ≤ (obj s o).count.toNat)
  | none => false

end Sys2Proof.Machine.Claims

/-- R181, R201, R237: with room in the port's queue of 8, SIGNAL, ADD and SET join the core's releases and change no
object yet, and WAIT and FIRST hold the core on their objects, after which a core left idle is evaluated (R408); with no
room they wait at issue. A descriptor that the loader refuses is refused. Each answers a next state with its effect:
SYNC_OP_SIGNAL, SYNC_OP_ADD, SYNC_OP_SET, SYNC_OP_WAIT, SYNC_FIRST. -/
def Obligations.SyncInstructionsReleaseAndWait : Prop :=
  ∀ (n : CoreId) (d : BitVec 128) (s : State), canIssue s (.core n) = true → (core s n).held.length < 8 →
    descOk 0x1A d = true →
    (syncSop d = 0 → Bound s n (objOf s n d) 0 → ∃ t, exec (.syncOpSignal n d) s = .next t
      ∧ SyncIssued s t n [⟨(core s n).nextNo, 0, objOf s n d, 1⟩] none)
    ∧ (syncSop d = 1 → Bound s n (objOf s n d) 0 → (valOf s n d).toNat ≤ 2 ^ 32 - 1 →
      ∃ t, exec (.syncOpAdd n d) s = .next t ∧ SyncIssued s t n [⟨(core s n).nextNo, 1, objOf s n d, valOf s n d⟩] none)
    ∧ (syncSop d = 2 → Bound s n (objOf s n d) 0 → ∃ t, exec (.syncOpSet n d) s = .next t
      ∧ SyncIssued s t n [⟨(core s n).nextNo, 2, objOf s n d, valOf s n d⟩] none)
    ∧ (syncSop d = 3 → Bound s n (objOf s n d) 0 → ∃ t, exec (.syncOpWait n d) s = .next (evalIdle t n)
      ∧ SyncIssued s t n [] (some ⟨objOf s n d, 0, valOf s n d, none, none⟩) ∧ canIssue t (.core n) = false)
    ∧ (syncSop d = 4 → Bound s n (objOf s n d) (d.extractLsb' 71 5).toNat → ∃ t, exec (.syncFirst n d) s = .next (evalIdle t n)
      ∧ SyncIssued s t n [] (some ⟨objOf s n d, (d.extractLsb' 71 5).toNat, valOf s n d, some (syncFirstG d), none⟩)
      ∧ canIssue t (.core n) = false)
    ∧ (∀ i k, (i, k) ∈ [(Instr.syncOpSignal n d, 0), (.syncOpAdd n d, 1), (.syncOpSet n d, 2), (.syncOpWait n d, 3), (.syncFirst n d, 4)] →
        syncSop d ≠ k → exec i s = .refused .illFormed)
    ∧ (∀ i k u, (i, k) ∈ [(Instr.syncOpSignal n d, 0), (.syncOpAdd n d, 1), (.syncOpSet n d, 2), (.syncOpWait n d, 3),
          (.syncFirst n d, 4)] → syncSop d = k → canIssue u (.core n) = true → 8 ≤ (core u n).held.length →
        ∃ t, exec i u = .next t ∧ t.cores = u.cores ∧ { t with csr := u.csr } = u)

/-- R238, R237: a SYNC whose object is above 65,535, unbound or of another job, or an ADD of more than 2^32 − 1, traps BAD_DESC
with its own index. -/
def Sys2Proof.Machine.Claims.SyncOfAForeignObjectTraps : Prop :=
  ∀ (n : CoreId) (d : BitVec 128) (s : State), canIssue s (.core n) = true → (core s n).held.length < 8 →
    descOk 0x1A d = true → ∀ i k, (i, k) ∈ [(Instr.syncOpSignal n d, 0), (.syncOpAdd n d, 1), (.syncOpSet n d, 2), (.syncOpWait n d, 3), (.syncFirst n d, 4)] →
      syncSop d = k →
      ¬ Bound s n (objOf s n d) (if k = 4 then (d.extractLsb' 71 5).toNat else 0) ∨ (k = 1 ∧ 2 ^ 32 - 1 < (valOf s n d).toNat) →
      ∃ t, exec i s = .next t ∧ Stopped s t n 3 (core s n).pc ∧ Raised s t n.val 0x01 1 (core s n).job 3 ∧ TrapFrame s t n

/-- R153, R201: in one cycle the oldest releases of the listed cores, each with no earlier operation of its core outstanding,
take effect together: COUNT becomes the SET of the lowest logical core that sets it, or what it was, plus the sum of all
adds, saturating at 2^64 − 1. Waits met at the end of the cycle before are noted, and cores left idle are evaluated. -/
def Sys2Proof.Machine.Claims.ReleasesOfACycleTakeEffectTogether : Prop :=
  ∀ (cores : List CoreId) (s : State), running s = true → cores.Nodup →
    ∃ t, exec (.syncRelease cores) s = .next (cores.foldl (fun t n => evalIdle t n) t)
      ∧ (∀ l, l = cores.filterMap (fun n => (readyRelease s n).map (fun h => (logicalOf s n, h))) →
          ∀ o base,
            ((∀ x ∈ l, ¬ (x.2.kind = 2 ∧ x.2.obj = o)) ∧ base = (obj s o).count.toNat
              ∨ ∃ x ∈ l, x.2.kind = 2 ∧ x.2.obj = o ∧ base = x.2.v.toNat
                  ∧ ∀ y ∈ l, y.2.kind = 2 → y.2.obj = o → y = x ∨ x.1 < y.1) →
            (obj t o).count.toNat
              = min (base + ((l.filter (fun x => decide (x.2.kind ≠ 2 ∧ x.2.obj = o))).map (fun x => x.2.v.toNat)).sum) (2 ^ 64 - 1)
            ∧ (obj t o).ctrl.extractLsb' 0 20 = (obj s o).ctrl.extractLsb' 0 20
            ∧ (obj t o).ctrl.extractLsb' 21 43 = (obj s o).ctrl.extractLsb' 21 43)
      ∧ (∀ n ∈ cores, core t n = { core s n with
            wait := (core s n).wait.map (CoreWait.latch s),
            held := if (readyRelease s n).isSome then (core s n).held.tail else (core s n).held })
      ∧ (∀ m, m ∉ cores.map (fun n => n.val) → core t m = { core s m with wait := (core s m).wait.map (CoreWait.latch s) })
      ∧ t.coll = (latchWaits s).coll ∧ t.sec = (latchWaits s).sec
      ∧ ((∀ k, slotValid s k = false) → { t with cores := s.cores, objs := s.objs, coll := s.coll, sec := s.sec } = s)
      ∧ { t with
          cores := s.cores, objs := s.objs, coll := s.coll, sec := s.sec, slotQ := s.slotQ, mem := s.mem, bad := s.bad, csr := s.csr } = s

/-- R153, R237: a waiter proceeds once COUNT has reached its value, at the end of this cycle or of an earlier one: a core's
wait ends, FIRST writes the smallest index that is satisfied, a sleeping core wakes first, and a flow sequencer's wait ends; a
waiter whose objects are all below its value stays as it is, and so does the whole state. The provenance request in progress
notes that its object has reached its value (R374). -/
def Sys2Proof.Machine.Claims.WaitsEndAtTheirValue : Prop :=
  ∀ (s : State), running s = true →
    (∀ (n : CoreId) (w : CoreWait) (i : Nat), (core s n).wait = some w →
        w.hit = some i ∨ (w.hit = none ∧ i ≤ w.count ∧ w.v.toNat ≤ (obj s (w.obj + i)).count.toNat
          ∧ ∀ j, j < i → (obj s (w.obj + j)).count.toNat < w.v.toNat) →
        (coreAwake s n = true → ∃ t, exec (.waitWake (.core n)) s = .next t
          ∧ (core t n).wait = none
          ∧ (∀ r, getG t (.core n) r = if w.dst = some r ∧ r ≠ 0 then BitVec.ofNat 64 i else getG s (.core n) r)
          ∧ { core t n with wait := (core s n).wait, g := (core s n).g } = core s n
          ∧ CoresKept s t [n.val] ∧ { t with cores := s.cores } = s)
        ∧ (coreAwake s n = false → ∃ t, exec (.waitWake (.core n)) s = .next (startWake (startWake t (80 + n / 5)) n)
          ∧ t = setCore s n { core s n with wait := some { w with hit := some i } }))
    ∧ (∀ (n : CoreId) (w : CoreWait), (core s n).wait = some w → w.hit = none →
        (∀ i, i ≤ w.count → (obj s (w.obj + i)).count.toNat < w.v.toNat) → exec (.waitWake (.core n)) s = .next s)
    ∧ (∀ (e : Engine) (l : Nat) (x : Launch), launch s l = some x →
        ∃ t y, exec (.waitWake (.flow e l)) s = .next t ∧ launch t l = some y
          ∧ y = { x with flows := x.flows.map (fun f =>
              if f.engine = e.val ∧ flowSatisfied s f = true then { f with wait := none } else f) }
          ∧ (∀ k, k ≠ l → launch t k = launch s k) ∧ { t.coll with launches := s.coll.launches } = s.coll ∧ { t with coll := s.coll } = s)
    ∧ (∃ t, exec (.waitWake .prov) s = .next t ∧ t.sec = { s.sec with prov := t.sec.prov } ∧ { t with sec := s.sec } = s
        ∧ (∀ q qs, s.sec.prov = q :: qs → nextWork s = some .prov → t.sec.prov = q.latch s :: qs)
        ∧ (nextWork s ≠ some .prov → t = s))

/-- R153, R201, R237: both parts hold: `ReleasesOfACycleTakeEffectTogether` and `WaitsEndAtTheirValue`. The model's choice
of log entry 13 enters it. Each answers a next state with its effect: SYNC_RELEASE, WAIT_WAKE. -/
def Obligations.ReleasesAndWaitsMeet : Prop :=
  ReleasesOfACycleTakeEffectTogether ∧ WaitsEndAtTheirValue

namespace Sys2Proof.Machine.Claims

/-! ### Tensor descriptors (R132–R135, R142, R147–R150, R181, R219–R235) -/

/-- What a unit's operation is at issue: number, index, descriptor, register values, SR position, the bank select it will find, ranges. -/
def opOf (s : State) (n : CoreId) (d : BitVec 128) (r : List Word) (rd wr : List Span) : ZtOp :=
  { no := (core s n).nextNo, pc := (core s n).pc, d := d, r := r, sr := (core s n).srPos, bank := (core s n).sel,
    reads := rd, writes := wr, formed := false, finished := false }

/-- A descriptor has issued: its operation has joined the queue that `c` shows, number and program index have moved on, and
nothing else but ISSUE and the last index has changed. -/
def ZtIssued (s t : State) (n : CoreId) (c : Core) (sr : Nat) : Prop :=
  core t n = { c with
      nextNo := (core s n).nextNo + 1, pc := (core s n).pc + 4, lastPc := (core s n).pc,
      srPos := (core s n).srPos + BitVec.ofNat 32 sr }
    ∧ CoresKept s t [n.val] ∧ CsrKept s t [CORE_CNT_ISSUE n] ∧ { t with cores := s.cores, csr := s.csr } = s

/-- No failing code word meets a range of a list. -/
def Clean (s : State) (l : List Span) : Prop := ∀ w ∈ s.bad, ∀ x ∈ l, overlaps w x.lo x.len = false

/-- A key lies outside every range of a list. -/
def Outside (l : List Span) (k : Nat) : Prop := ∀ x ∈ l, k < x.lo ∨ x.lo + x.len ≤ k

/-- Two ranges share no byte. -/
def Apart (x y : Span) : Prop := x.lo + x.len ≤ y.lo ∨ y.lo + y.len ≤ x.lo

/-- The value of `size` bytes of storage, little-endian. -/
def numAt (s : State) (k size : Nat) : Nat := ofBytes (rdBytes s k size)

/-- The INT32 element functions of Table 8.8 with two operands, modulo 2^32. -/
def int32Table : List (Nat × (BitVec 32 → BitVec 32 → BitVec 32)) :=
  [(0x00, (· + ·)), (0x01, (· - ·)), (0x02, (· * ·)), (0x10, (· &&& ·)), (0x11, (· ||| ·)), (0x12, (· ^^^ ·)),
   (0x13, fun a b => a <<< (b.toNat % 32)), (0x14, fun a b => a >>> (b.toNat % 32)),
   (0x15, fun a b => a.sshiftRight (b.toNat % 32))]

/-- The frame of a tensor operation that completes: one core, whose queue and flags alone change, and storage outside its
destination as it was. -/
def TensorFrame (s t : State) (n : CoreId) (wr : List Span) : Prop :=
  CoresKept s t [n.val] ∧ (∀ k, Outside wr k → rdByte t k = rdByte s k) ∧ t.bad = s.bad

/-- A local DMA that was alone in its queue has left it, and DONE_SYNC has received 1 when SYNC_EN is set; then waits already
met are noted first. Beside the core, memory, and the object nothing has changed. -/
def DmaSignalled (s t : State) (n : CoreId) (o : ZtOp) : Prop :=
  core t n = { core s n with
      dma := [], wait := if dmaSyncEn o.d then (core s n).wait.map (CoreWait.latch s) else (core s n).wait }
    ∧ OnlyWaitsNoted s t [n.val] ∧ t.bad = s.bad
    ∧ (if dmaSyncEn o.d then obj t (dmaDoneSync o.d) = addTo (obj s (dmaDoneSync o.d)) 1 ∧ ObjsKept s t [dmaDoneSync o.d]
        else t.objs = s.objs ∧ CoresKept s t [n.val] ∧ t.coll = s.coll)
    ∧ t.sec = (if dmaSyncEn o.d then (latchWaits s).sec else s.sec)
    ∧ { t with cores := s.cores, mem := s.mem, objs := s.objs, coll := s.coll, sec := s.sec } = s

end Sys2Proof.Machine.Claims

/-- R181, R219, R133: a descriptor whose registers and ranges pass its unit's checks, that need not wait, and whose unit's
queue has room, joins that queue with the values read at issue; DMA in its engine's queue, MMA and WLD in the matrix
queue, VEC and CVT in the vector queue, the last two moving the SR position when they round with SR. SWAP takes its place
in the matrix queue: with no WLD or SWAP before it, it inverts the bank select at once, and behind a WLD it waits there.
Each answers a next state with its effect: DMA, MMA, WLD, VEC, CVT, SWAP. -/
def Obligations.DescriptorsJoinTheirQueues : Prop :=
  ∀ (n : CoreId) (d : BitVec 128) (s : State), canIssue s (.core n) = true → ∀ r rd wr,
    (descOk 0x02 d = true → dmaRankG d = 0 → dmaPrep s n d = .ok (r, rd, wr, false) → (core s n).dma.length < 9 →
      (∀ o ∈ (core s n).dma, dmaRankG o.d = 0) →
      ∃ t, exec (.dma n d) s = .next t ∧ ZtIssued s t n { core s n with dma := (core s n).dma ++ [opOf s n d r rd wr] } 0)
    ∧ (descOk 0x06 d = true → mmaPrep s n d = .ok (r, rd, wr, false) → (core s n).mx.length < 9 →
      ∃ t, exec (.mma n d) s = .next t ∧ ZtIssued s t n { core s n with mx := (core s n).mx ++ [opOf s n d r rd wr] } 0)
    ∧ (descOk 0x0A d = true → wldPrep s n d = .ok (r, rd, wr, false) → (core s n).mx.length < 9 →
      ∃ t, exec (.wld n d) s = .next t ∧ ZtIssued s t n { core s n with mx := (core s n).mx ++ [opOf s n d r rd wr] } 0)
    ∧ (descOk 0x12 d = true → vecPrep s n d = .ok (r, rd, wr, false) → (core s n).vec.length < 9 →
      ∃ t, exec (.vec n d) s = .next t
        ∧ ZtIssued s t n { core s n with vec := (core s n).vec ++ [opOf s n d r rd wr] } (if vecRm d = 2 then 1 else 0))
    ∧ (descOk 0x16 d = true → cvtPrep s n d = .ok (r, rd, wr, false) → (core s n).vec.length < 9 →
      ∃ t, exec (.cvt n d) s = .next t
        ∧ ZtIssued s t n { core s n with vec := (core s n).vec ++ [opOf s n d r rd wr] } (if cvtRm d = 2 then 1 else 0))
    ∧ ((core s n).mx.length < 9 → (∀ o ∈ (core s n).mx, o.d.toNat % 256 ≠ 0x0A ∧ o.d.toNat % 256 ≠ 0x0E) →
      ∃ t, exec (.swap n) s = .next t ∧ ZtIssued s t n { core s n with bankSel := !(core s n).bankSel } 0)
    ∧ ((core s n).mx.length < 9 → ∀ l w m, (core s n).mx = l ++ w :: m → w.d.toNat % 256 = 0x0A →
        (∀ o ∈ l, o.d.toNat % 256 ≠ 0x0A ∧ o.d.toNat % 256 ≠ 0x0E) →
      ∃ t, exec (.swap n) s = .next t
        ∧ ZtIssued s t n { core s n with mx := (core s n).mx ++ [opOf s n 0x0E [] [] []] } 0)
    ∧ (∀ i op, (i, op) ∈ [(Instr.dma n d, 0x02), (.mma n d, 0x06), (.wld n d, 0x0A), (.vec n d, 0x12), (.cvt n d, 0x16)] →
        descOk op d = false → exec i s = .refused .illFormed)

/-- R222–R224, R228, R147: at run time an MMA traps BAD_DESC when the bank it will find selected will hold another format, or an address is not
64-byte aligned; a WLD when its tile address is not; a VEC when its STRIDE is below one row; a remote DMA when its target
register has reserved bits set. The core stops at the descriptor and one STEP fault TRAP is raised. -/
def Sys2Proof.Machine.Claims.BadDescriptorsTrap : Prop :=
  ∀ (n : CoreId) (d : BitVec 128) (s : State), canIssue s (.core n) = true → ∀ i,
    (i = Instr.mma n d ∧ descOk 0x06 d = true
        ∧ (((core s n).bankView (core s n).sel).1 ≠ some (d.extractLsb' 12 4)
            ∨ (getG s (.core n) (mmaFeedG d)).toNat % 64 ≠ 0 ∨ (getG s (.core n) (mmaDstG d)).toNat % 64 ≠ 0
            ∨ mmaDstStride d < 256))
    ∨ (i = .wld n d ∧ descOk 0x0A d = true ∧ (getG s (.core n) (wldSrcG d)).toNat % 64 ≠ 0)
    ∨ (i = .vec n d ∧ descOk 0x12 d = true ∧ vecStride d < vecCols d * (fmtWidth (vecFmt d) / 8))
    ∨ (i = .dma n d ∧ descOk 0x02 d = true ∧ dmaRankG d ≠ 0 ∧ 2 ^ 37 ≤ (getG s (.core n) (dmaRankG d)).toNat
        ∧ (core s n).dma = []) →
    ∃ t, exec i s = .next t ∧ Stopped s t n 3 (core s n).pc ∧ Raised s t n.val 0x01 1 (core s n).job 3 ∧ TrapFrame s t n

/-- R213, R198, R238, R237, R222–R224, R228, R147: all three parts hold: `BadAccessesTrap` and `SyncOfAForeignObjectTraps`
and `BadDescriptorsTrap`. -/
def Obligations.TrapsStopTheCore : Prop :=
  BadAccessesTrap ∧ SyncOfAForeignObjectTraps ∧ BadDescriptorsTrap

/-- R148, R150: the oldest local DMA of a core completes. FILL writes its pattern from byte 0 in every row; COPY moves its rows
where source and destination share no byte; SKEW of 8-bit elements puts element k of a row 0 at slot k of lane k. Storage
outside the destination is as it was, the DMA has left its queue, and DONE_SYNC has received 1 when SYNC_EN is set. Then the
domains of a core left idle are evaluated (R408). -/
def Sys2Proof.Machine.Claims.LocalDmaMovesItsRows : Prop :=
  ∀ (n : CoreId) (s : State) (o : ZtOp), running s = true → (core s n).dma = [o] → dmaRankG o.d = 0 →
    o.finished = false → o.formed = false →
    (o.reads ++ o.writes).all (stillThere s) = true → asleepAt s o = none → Clean s (o.reads ++ o.writes) →
    (dmaSyncEn o.d = true → slotOfArrive s (dmaDoneSync o.d) = none) →
    (dmaMode o.d = 2 → o.writes.Pairwise Apart → ∃ t, exec (.dmaCompletion n 0) s = .next (evalIdle t n)
      ∧ (∀ x ∈ o.writes, ∀ j, j < x.len → rdByte t (x.lo + j) = (o.r.headD 0).extractLsb' (8 * (j % 8)) 8)
      ∧ (∀ k, Outside o.writes k → rdByte t k = rdByte s k) ∧ DmaSignalled s t n o)
    ∧ (dmaMode o.d = 0 → o.reads.length = o.writes.length → (∀ i, i < o.reads.length →
          (o.reads.getD i ⟨0, 0⟩).len = (o.writes.getD i ⟨0, 0⟩).len) →
        o.writes.Pairwise Apart → (∀ x ∈ o.reads, ∀ y ∈ o.writes, Apart x y) → ∃ t, exec (.dmaCompletion n 0) s = .next (evalIdle t n)
      ∧ (∀ i j, i < o.writes.length → j < (o.writes.getD i ⟨0, 0⟩).len →
          rdByte t ((o.writes.getD i ⟨0, 0⟩).lo + j) = rdByte s ((o.reads.getD i ⟨0, 0⟩).lo + j))
      ∧ (∀ k, Outside o.writes k → rdByte t k = rdByte s k) ∧ DmaSignalled s t n o)
    ∧ (∀ x y, dmaMode o.d = 1 → dmaEw o.d = 2 → o.reads = [x] → o.writes = [y] → x.len = 64 → y.len = 8192 → Apart x y →
      ∃ t, exec (.dmaCompletion n 0) s = .next (evalIdle t n)
        ∧ (∀ k, k < 64 → rdByte t (y.lo + 65 * k) = rdByte s (x.lo + k))
        ∧ (∀ k, (∀ j, j < 64 → k ≠ y.lo + 65 * j) → rdByte t k = rdByte s k)
        ∧ DmaSignalled s t n o)

/-- R149, R278, R281: a remote DMA that its engine takes forms packets of at most 2,048 bytes whose payloads in order are the bytes
of its rows; only the last is fenced. The core counts them as unsent, and the DMA completes once they have left. -/
def Sys2Proof.Machine.Claims.RemoteDmaFormsPackets : Prop :=
  ∀ (n : CoreId) (d : BitVec 128) (s : State), canIssue s (.core n) = true → descOk 0x02 d = true → dmaRankG d ≠ 0 →
    ∀ r rd wr, dmaPrep s n d = .ok (r, rd, wr, false) → (core s n).dma = [] → dmaSpray d = false →
    asleepAt s (opOf s n d r rd wr) = none → Clean s rd → (∀ x ∈ rd, 0 < x.len) → rd ≠ [] →
    ∃ t l, exec (.dma n d) s = .next t
      ∧ t.net.outbox = s.net.outbox ++ l ∧ (core t n).unsent = l.length
      ∧ (l.map (fun x => x.p.payload)).flatten = rd.flatMap (fun x => rdBytes s x.lo x.len)
      ∧ (∀ x ∈ l, x.p.payload.length ≤ 2048 ∧ x.owner = some n.val ∧ x.die = n.val / 20)
      ∧ (∀ i, i < l.length → ((l.map (fun x => x.p.fence)).getD i false = true ↔ i + 1 = l.length))
      ∧ (core t n).dma = [{ opOf s n d r rd wr with formed := true }]
      ∧ (core t n).pc = (core s n).pc + 4 ∧ CoresKept s t [n.val]
      ∧ { t.net with outbox := s.net.outbox, senders := s.net.senders, nextNo := s.net.nextNo } = s.net
      ∧ { t with cores := s.cores, csr := s.csr, net := s.net } = s

/-- R148, R150, R149, R278, R281: both parts hold: `LocalDmaMovesItsRows` and `RemoteDmaFormsPackets`. The model's choice
of log entry 3 enters it. Each answers a next state with its effect: DMA_COMPLETION, DMA. -/
def Obligations.DmaMovesDataHereAndAway : Prop :=
  LocalDmaMovesItsRows ∧ RemoteDmaFormsPackets

/-- R142, R222, R138: the oldest MMA of a core, with no waiting SWAP before it, completes: the elements of its rows, and no
other byte, are written, and only the arrays' flags can rise. With INT8 operands, no scales and one row, column c is the sum
over k below K_ROWS of A[0][k] × W[k][c], added to the old contents when ACC is set, modulo 2^32. An interruption of more than
four cycles before that counts and stretches the MMA when its feed, or its destination, lies in cluster SRAM, and never comes
about when it lies in core SRAM. After a completion the domains of a core left idle are evaluated (R408). -/
def Sys2Proof.Machine.Claims.MmaWritesItsProducts : Prop :=
  ∀ (n : CoreId) (s : State) (o : ZtOp), running s = true → mxNext (core s n) 0x06 = some o →
    (o.writes.length = mmaRows o.d → (∀ x ∈ o.writes, x.len = 4 * mmaCols o.d) → s.bad = [] →
    ∃ t, exec (.mmaCompletion n none) s = .next (evalIdle t n)
      ∧ (core t n).mx = (core s n).mx.filter (fun x => x.no != o.no)
      ∧ (core t n).flags[4]? = (core s n).flags[4]? ∧ (core t n).feedHeld = false ∧ (core t n).drainHeld = false
      ∧ { core t n with
          mx := (core s n).mx, flags := (core s n).flags, feedHeld := (core s n).feedHeld,
          drainHeld := (core s n).drainHeld } = core s n
      ∧ TensorFrame s t n o.writes ∧ { t with cores := s.cores, mem := s.mem } = s
      ∧ (∀ b, b = (if o.bank then (core s n).bank1 else (core s n).bank0) →
          mmaAFmt o.d = 9 → mmaWFmt o.d = 9 → mmaIscale o.d = false → mmaRows o.d = 1 → b.kRows ≤ 64 →
          ∀ c, c < mmaCols o.d →
            BitVec.ofNat 32 (numAt t (rowKey o.writes 0 + 4 * c) 4)
              = (if mmaAcc o.d then BitVec.ofNat 32 (numAt s (rowKey o.writes 0 + 4 * c) 4) else 0)
                + BitVec.ofInt 32 ((List.range b.kRows).map (fun k =>
                    (rdByte s (rowKey o.reads 0 + 65 * k)).toInt * signed 8 (b.w.getD (64 * k + c) 0))).sum))
    ∧ (∀ h f, (h, f) ∈ [(Stretch.feed, CORE_STALL_FEED), (.drain, CORE_STALL_DRAIN)] →
        (∀ x ∈ (if h = .feed then o.reads.take 1 else o.writes), x.lo < cluKey 0) →
          exec (.mmaCompletion n (some h)) s = .next s)
    ∧ (∀ h f, (h, f) ∈ [(Stretch.feed, CORE_STALL_FEED), (.drain, CORE_STALL_DRAIN)] →
        (∃ x ∈ (if h = .feed then o.reads.take 1 else o.writes), cluKey 0 ≤ x.lo) →
          ∃ t, exec (.mmaCompletion n (some h)) s = .next t
            ∧ core t n = (if h = .feed then { core s n with feedHeld := true } else { core s n with drainHeld := true })
            ∧ getF t (CORE_STALL n) f = min (getF s (CORE_STALL n) f + 1) (2 ^ f.w - 1)
            ∧ isSet t (CORE_STATUS n) CORE_STATUS_STALL_EVENT = true
            ∧ CoresKept s t [n.val] ∧ CsrKept s t [CORE_STALL n, CORE_STATUS n]
            ∧ { t with cores := s.cores, csr := s.csr } = s)

/-- R134, R224, R225: the oldest WLD of a core completes: the bank that was not selected at its issue holds the tile's rows, its
format, whether it has scales, and K_ROWS; the other bank, storage and the flags are as they were. SWAPs that waited for it
take effect, and with none in the queue the bank select is as it was. The domains of a core left idle are then evaluated. -/
def Sys2Proof.Machine.Claims.WldLoadsTheOtherBank : Prop :=
  ∀ (n : CoreId) (s : State) (o : ZtOp), running s = true →
    mxNext (core s n) 0x0A = some o → Clean s o.reads →
    ∃ t b c, exec (.wldCompletion n) s = .next (evalIdle t n)
      ∧ c = settleMx { core s n with mx := (core s n).mx.filter (fun x => x.no != o.no) }
      ∧ core t n = (if o.bank then { c with bank0 := b } else { c with bank1 := b })
      ∧ ((∀ x ∈ (core s n).mx, x.d.toNat % 256 ≠ 0x0E) →
          c = { core s n with mx := (core s n).mx.filter (fun x => x.no != o.no) })
      ∧ b.fmt = some (o.d.extractLsb' 8 4) ∧ (b.scaled = true ↔ wldScaleG o.d ≠ 0) ∧ b.kRows = wldRows o.d
      ∧ (∀ k c, k < wldRows o.d → c < 64 →
          b.w[64 * k + c]? = some (numAt s (rowKey o.reads k) (rowBytes (fmtWidth (wldFmt o.d)) 64)
            / 2 ^ (fmtWidth (wldFmt o.d) * c) % 2 ^ fmtWidth (wldFmt o.d)))
      ∧ (wldScaleG o.d ≠ 0 → b.scale = rdBytes s (rowKey o.reads (wldRows o.d)) 128)
      ∧ CoresKept s t [n.val] ∧ { t with cores := s.cores } = s

/-- R142, R222, R138, R134, R224, R225: both parts hold: `MmaWritesItsProducts` and `WldLoadsTheOtherBank`. Each answers a
next state with its effect: MMA_COMPLETION, WLD_COMPLETION. -/
def Obligations.TheMatrixUnitMultiplies : Prop :=
  MmaWritesItsProducts ∧ WldLoadsTheOtherBank

/-- R228, R229, R234, R235: the oldest operation of a core's vector engine completes: the elements of its rows, and no
other byte, are written, and only the engine's flags can rise. An INT32 operation of one row on operands that share no
byte with its destination gives Table 8.8's function of each pair, modulo 2^32, the second from B or from the low bits of
a register. The domains of a core left idle are then evaluated. Each answers a next state with its effect: VEC_COMPLETION,
CVT_COMPLETION. -/
def Obligations.VectorOperationsWriteTheirRows : Prop :=
  ∀ (n : CoreId) (s : State) (o : ZtOp) (os : List ZtOp), running s = true → (core s n).vec = o :: os →
    Clean s (o.reads ++ o.writes) →
    (o.d.toNat % 256 = 0x12 → o.writes.length = vecRows o.d →
      (∀ x ∈ o.writes, x.len = if 22 ≤ vecOp o.d then fmtWidth (vecFmt o.d) / 8 else vecCols o.d * (fmtWidth (vecFmt o.d) / 8)) →
      ∃ t, exec (.vecCompletion n) s = .next (evalIdle t n)
        ∧ (core t n).vec = os ∧ (∀ i, i ≠ 4 → (core t n).flags[i]? = (core s n).flags[i]?)
        ∧ { core t n with vec := (core s n).vec, flags := (core s n).flags } = core s n
        ∧ TensorFrame s t n o.writes ∧ { t with cores := s.cores, mem := s.mem, free := s.free } = s
        ∧ (vecRm o.d ≠ 3 → t.free = s.free)
        ∧ (∀ op f, (op, f) ∈ int32Table → vecOp o.d = op → vecFmt o.d = 8 → vecRows o.d = 1 →
            (∀ x ∈ o.reads, ∀ y ∈ o.writes, Apart x y) →
            (∀ x ∈ o.reads, x.len = 4 * vecCols o.d) → o.reads.length = (if vecBScalar o.d then 1 else 2) →
            ∀ c, c < vecCols o.d →
              BitVec.ofNat 32 (numAt t (rowKey o.writes 0 + 4 * c) 4)
                = f (BitVec.ofNat 32 (numAt s (rowKey o.reads 0 + 4 * c) 4))
                    (if vecBScalar o.d then (o.r.headD 0).setWidth 32 else BitVec.ofNat 32 (numAt s (rowKey o.reads 1 + 4 * c) 4))))
    ∧ (o.d.toNat % 256 = 0x16 → o.writes.length = cvtRows o.d * (if cvtMx o.d then 2 else 1) →
      (∀ i, i < cvtRows o.d → (o.writes.getD i ⟨0, 0⟩).len = rowBytes (fmtWidth (cvtDstFmt o.d)) (cvtCols o.d)) →
      (∀ i, cvtRows o.d ≤ i → i < o.writes.length → (o.writes.getD i ⟨0, 0⟩).len = cvtCols o.d / 32) →
      ∃ t, exec (.cvtCompletion n) s = .next (evalIdle t n)
        ∧ (core t n).vec = os ∧ (∀ i, i ≠ 4 → (core t n).flags[i]? = (core s n).flags[i]?)
        ∧ { core t n with vec := (core s n).vec, flags := (core s n).flags } = core s n
        ∧ TensorFrame s t n o.writes ∧ { t with cores := s.cores, mem := s.mem, free := s.free } = s
        ∧ (cvtRm o.d ≠ 3 → t.free = s.free)
        ∧ (∀ y z, cvtMx o.d = false → cvtRows o.d = 1 → o.reads = [y] → o.writes = [z] → fmtWidth (cvtSrcFmt o.d) = 8 →
            fmtWidth (cvtDstFmt o.d) = 32 → cvtRm o.d = 0 → ∀ c, c < cvtCols o.d →
              numAt t (z.lo + 4 * c) 4
                = (convert (cvtSrcFmt o.d) (cvtDstFmt o.d) .rne (cvtSat o.d) 0 (rdByte s (y.lo + c)).toNat).1 % 2 ^ 32))

namespace Sys2Proof.Machine.Claims

/-! ### Flow programs and launches (R99, R108, R115, R118, R123, R182, R239–R243) -/

/-- Engine `e` issues for launch `l`: the launch `x` of group `g` is admitted, and the engine's flow `f` neither waits nor
has passed FEND (R242). -/
def OnFlow (s : State) (e : Engine) (l : Nat) (g : Group) (x : Launch) (f : Flow) : Prop :=
  running s = true ∧ launch s l = some x ∧ launchGroup s x = some g ∧ x.flows.find? (fun y => y.engine == e.val) = some f
    ∧ x.stage = 2 ∧ f.wait = none ∧ f.fend = false

/-- Between `s` and `t` launch `l` has become `x'`, and nothing else has changed. -/
def LaunchBecomes (s t : State) (l : Nat) (x' : Launch) : Prop :=
  launch t l = some x' ∧ (∀ k, k ≠ l → launch t k = launch s k)
    ∧ { t with coll := { t.coll with launches := s.coll.launches } } = s

/-- A launch with the flow of one engine replaced. -/
def withFlow (x : Launch) (e : Engine) (f : Flow) : Launch :=
  { x with flows := x.flows.map (fun y => if y.engine = e.val then f else y) }

/-- Table 8.13: the functions of FALU that are stated for every operand, by FUNC. -/
def faluTable (a b : Word) : List (Nat × Word) :=
  [ (0, a + b), (1, a - b), (2, a &&& b), (3, a ||| b), (6, BitVec.ofNat 64 (a.toNat * b.toNat)),
    (7, BitVec.ofNat 64 (min a.toNat b.toNat)) ]

/-- Table 8.13: the conditions of FBR, by FUNC. -/
def fbrTable (a b : Word) : List (Nat × Prop) :=
  [ (0, True), (1, a = b), (2, a ≠ b), (3, a.toNat < b.toNat), (4, b.toNat ≤ a.toNat) ]

/-- Chunk operations that only mark their chunk: the instruction and the marked chunk. -/
def chunkForms (e : Engine) (l : Nat) (fa : FReg) (c : Chunk) : List (Instr × Chunk) :=
  [ (.chClose e l fa true, { c with closeReq := true }), (.chDown e l fa, { c with downReq := true }),
    (.gaFwd e l fa, { c with fwdReq := true }) ]

/-- Header of a chunk that GA.SRC sends to a rank (R104, R173): CKIND 3, the launch, the chunk's first element. -/
def gatherHdr (s : State) (g : Group) (x : Launch) (c : Chunk) (r : Nat) : Hdr :=
  { type := 1, vc := g.vc, job := x.job, src := g.own, dst := r, origin := 0x0100 + g.server c.engine,
    birth := (now s).toNat % 2 ^ 40, group := x.gid, lseq := x.seq, offset := c.first, ckind := 3, pfmt := x.inFmt,
    input := g.own }

/-- A launch for which nothing can be done: no chunk, no release that waits, no herd work. -/
def NothingDue (g : Group) (x : Launch) : Prop :=
  x.chunks = [] ∧ x.sigs = [] ∧ x.leafReq = [] ∧ x.finalReq = [] ∧ (x.op = 5 → x.verdict = 0 → herdTable g x = none)
    ∧ launchDone g x = false

end Sys2Proof.Machine.Claims

/-- R241: FALU, FPARAM, FBR and FWAIT act on the registers and the index of one engine's flow and on nothing else. f0 reads
as 0 and a write to it is discarded; a shift by 64 or more gives a free value; FWAIT holds the sequencer. -/
def Sys2Proof.Machine.Claims.FlowInstructionsActOnTheirFlow : Prop :=
  ∀ (s : State) (e : Engine) (l : Nat) (g : Group) (x : Launch) (f : Flow) (fd fa fb : FReg) (func : BitVec 14)
    (imm : BitVec 32) (a b : Word), OnFlow s e l g x f →
    a = (if fa = 0 then 0 else f.f[fa.val]) → b = (if fb = 0 then 0 else f.f[fb.val]) →
    (∀ v, (func.toNat, v) ∈ faluTable a (b + imm.signExtend 64)
        ∨ (func.toNat = 4 ∧ (b + imm.signExtend 64).toNat < 64 ∧ v = BitVec.ofNat 64 (a.toNat * 2 ^ (b + imm.signExtend 64).toNat))
        ∨ (func.toNat = 5 ∧ (b + imm.signExtend 64).toNat < 64 ∧ v = BitVec.ofNat 64 (a.toNat / 2 ^ (b + imm.signExtend 64).toNat)) →
      ∃ t, exec (.falu e l fd fa fb func imm) s = .next t
        ∧ LaunchBecomes s t l (withFlow x e { f with pc := f.pc + 1, f := if fd = 0 then f.f else f.f.set fd.val v }))
    ∧ ((func.toNat = 4 ∨ func.toNat = 5) → 64 ≤ (b + imm.signExtend 64).toNat →
      ∃ t, exec (.falu e l fd fa fb func imm) s = .next t
        ∧ LaunchBecomes { s with free := s.free + 1 } t l
            (withFlow x e { f with pc := f.pc + 1, f := if fd = 0 then f.f else f.f.set fd.val (Config.freeWord s.free) }))
    ∧ (imm.toNat < 24 →
      (∃ t, exec (.fparam e l fd imm) s = .next t
        ∧ LaunchBecomes s t l (withFlow x e
            { f with pc := f.pc + 1, f := if fd = 0 then f.f else f.f.set fd.val (wordAt x.words imm.toNat) }))
      ∧ ∃ t, exec (.fwait e l fa imm) s = .next t
        ∧ LaunchBecomes s t l (withFlow x e
            { f with pc := f.pc + 1, wait := some ((wordAt x.words imm.toNat).toNat % 2 ^ 16, a) }))
    ∧ (∀ p, (func.toNat, p) ∈ fbrTable a b →
      (p → ∃ t, exec (.fbr e l fa fb func imm) s = .next t ∧ LaunchBecomes s t l (withFlow x e { f with pc := imm.toNat }))
      ∧ (¬ p → ∃ t, exec (.fbr e l fa fb func imm) s = .next t ∧ LaunchBecomes s t l (withFlow x e { f with pc := f.pc + 1 })))
    ∧ (7 < func.toNat → exec (.falu e l fd fa fb func imm) s = .refused .illFormed)
    ∧ (4 < func.toNat → exec (.fbr e l fa fb func imm) s = .refused .illFormed)

/-- R241, R242: CH.OPEN opens its chunk, passes over one that is open, and waits where WINDOW chunks are open; CH.CLOSE,
CH.DOWN, GA.FWD, FSIG, HH.LEAF, HH.FINAL, ST.FINAL and FEND note what they ask for and the flow moves on, after which the
launch does what it now can. GA.SRC reads its chunk at DEST_ADDR and sends it to each receiver down the tree, or, for
MX-scaled data, reads the scales with it; of a launch without DEST_ADDR it sends nothing. ST.FINAL of the last engine of a
statistics launch passes the device's part to the other devices. -/
def Sys2Proof.Machine.Claims.FlowOperationsAreNoted : Prop :=
  ∀ (s : State) (e : Engine) (l : Nat) (g : Group) (x : Launch) (f : Flow) (fa fb : FReg) (imm : BitVec 32) (a b : Word),
    OnFlow s e l g x f → a = (if fa = 0 then 0 else f.f[fa.val]) → b = (if fb = 0 then 0 else f.f[fb.val]) →
    (∀ c, getChunk g x e a.toNat = some c →
      (∀ i c', (i, c') ∈ chunkForms e l fa c → ∃ t, exec i s = .next (advanceLaunch t l)
        ∧ LaunchBecomes s t l (withFlow (putChunk x c') e { f with pc := f.pc + 1 }))
      ∧ (c.opened = false → openChunks x e < x.window → ∃ t, exec (.chOpen e l fa) s = .next (advanceLaunch t l)
        ∧ LaunchBecomes s t l (withFlow (putChunk x { c with opened := true }) e { f with pc := f.pc + 1 }))
      ∧ (c.opened = false → x.window ≤ openChunks x e → exec (.chOpen e l fa) s = .next s)
      ∧ (c.opened = true → ∃ t, exec (.chOpen e l fa) s = .next t
        ∧ LaunchBecomes s t l (withFlow x e { f with pc := f.pc + 1 }))
      ∧ (x.dest = 0 → ∃ t, exec (.gaSrc e l fa) s = .next t
        ∧ LaunchBecomes s t l (withFlow x e { f with pc := f.pc + 1 }))
      ∧ (∀ bs, x.dest ≠ 0 → x.mx = false → readAt s (destAddr x x.inFmt c.first) (chunkLen x c) = .ok bs →
        ∃ t ps, exec (.gaSrc e l fa) s = .next (advanceLaunch t l)
          ∧ t.net.outbox = s.net.outbox ++ ps
          ∧ ps.map (fun y => y.p) = (downRanks g (shardAt g c.shard)).map (fun r => mkPacket (gatherHdr s g x c r) bs)
          ∧ launch t l = some { withFlow (putChunk x { c with sentDown := true }) e { f with pc := f.pc + 1 } with
              unsent := x.unsent + ps.length }
          ∧ (∀ k, k ≠ l → launch t k = launch s k)
          ∧ { t.net with outbox := s.net.outbox, nextNo := s.net.nextNo } = s.net
          ∧ { t with net := s.net, coll := { t.coll with launches := s.coll.launches } } = s)
      ∧ (∀ bs qs, x.dest ≠ 0 → x.mx = true → readAt s (destAddr x x.inFmt c.first) (chunkLen x c) = .ok bs →
        readAt s (scaleAddr x c.first) (c.len / 32) = .ok qs →
        ∃ t, exec (.gaSrc e l fa) s = .next (advanceLaunch t l)
          ∧ LaunchBecomes s t l (withFlow (putChunk x { c with
              sourced := true, result := some (x.inFmt, unpackCodes x.inFmt bs),
              scales := (List.range qs.length).zip (qs.map BitVec.toNat) }) e { f with pc := f.pc + 1 })))
    ∧ (imm.toNat < 24 → ∃ t r, exec (.fsig e l fa imm) s = .next (advanceLaunch t l)
        ∧ r.engine = e.val ∧ r.obj = (wordAt x.words imm.toNat).toNat % 2 ^ 16 ∧ r.v = a
        ∧ (∀ i, i ∈ r.after ↔ ∃ c ∈ x.chunks, c.idx = i ∧ c.engine = e.val ∧ chunkQuiet g x c = false)
        ∧ LaunchBecomes s t l (withFlow { x with sigs := x.sigs ++ [r] } e { f with pc := f.pc + 1 }))
    ∧ (∀ i, currentShard g x e b.toNat = some i →
      (a.toNat < leafCount (shardBytes g x i) → ∃ t, exec (.hhLeaf e l fa fb) s = .next (advanceLaunch t l)
        ∧ LaunchBecomes s t l (withFlow { x with leafReq := x.leafReq ++ [(e.val, i, b.toNat, a.toNat)] } e { f with pc := f.pc + 1 }))
      ∧ ∃ t, exec (.hhFinal e l fb) s = .next (advanceLaunch t l)
        ∧ LaunchBecomes s t l (withFlow { x with finalReq := x.finalReq ++ [(i, b.toNat)] } e { f with pc := f.pc + 1 }))
    ∧ (x.stats = false → ∃ t, exec (.stFinal e l) s = .next (advanceLaunch t l)
        ∧ LaunchBecomes s t l (withFlow x e { f with pc := f.pc + 1, statDone := true }))
    ∧ (x.stats = true → (∃ y ∈ x.flows, y.engine ≠ e.val ∧ y.statDone = false) → ∃ t, exec (.stFinal e l) s = .next (advanceLaunch t l)
        ∧ LaunchBecomes s t l (withFlow x e { f with pc := f.pc + 1, statDone := true }))
    ∧ (x.stats = true → f.statDone = false → (∀ y ∈ x.flows, y.engine ≠ e.val → y.statDone = true) →
      ∃ t ps, exec (.stFinal e l) s = .next (advanceLaunch t l)
        ∧ t.net.outbox = s.net.outbox ++ ps
        ∧ ps.map (fun y => y.p) = ((List.range g.devices.length).filter (fun k => k != g.me)).zipIdx.map (fun k =>
            mkPacket { type := 4, vc := 6, job := g.job, src := g.own, dst := g.devices.getD k.1 0, origin := 0x0200,
                       birth := (now s).toNat % 2 ^ 40 } (toBytes 8 (Config.freeWord (s.free + k.2)).toNat))
        ∧ launch t l = some (withFlow x e { f with pc := f.pc + 1, statDone := true })
        ∧ (∀ k, k ≠ l → launch t k = launch s k) ∧ t.free = s.free + ps.length
        ∧ { t.net with outbox := s.net.outbox, nextNo := s.net.nextNo } = s.net
        ∧ { t with net := s.net, free := s.free, coll := { t.coll with launches := s.coll.launches } } = s)
    ∧ (∃ t, exec (.fend e l) s = .next (advanceLaunch t l)
        ∧ LaunchBecomes s t l (withFlow x e { f with pc := f.pc + 1, fend := true }))

/-- R241, R242: both parts hold: `FlowInstructionsActOnTheirFlow` and `FlowOperationsAreNoted`. The model's choices of log
entries 3 and 78 enter it. Each answers a next state with its effect: FALU, FPARAM, FWAIT, FBR, CH_OPEN, GA_SRC, FSIG,
HH_LEAF, HH_FINAL, ST_FINAL, FEND, CH_CLOSE, CH_DOWN, GA_FWD. -/
def Obligations.FlowProgramsRun : Prop :=
  FlowInstructionsActOnTheirFlow ∧ FlowOperationsAreNoted

/-- R123, R201, R241: a launch for which nothing is due stays as it is; a release whose earlier writes are done adds its value
to its object; a launch that
every engine's flow has ended, with nothing outstanding, completes: its staging is back, it is gone, and its record goes
to the job's completion ring. -/
def Sys2Proof.Machine.Claims.LaunchesGoOnAndComplete : Prop :=
  ∀ (s : State) (l : Nat) (g : Group) (x : Launch), launch s l = some x → launchGroup s x = some g →
    (NothingDue g x → LaunchBecomes s (advanceLaunch s l) l x)
    ∧ (∀ r, NothingDue g { x with sigs := [] } → x.sigs = [r] →
        obj (advanceLaunch s l) r.obj = (obj s r.obj).add r.v.toNat
        ∧ LaunchBecomes { latchWaits s with objs := (objAdd s r.obj r.v.toNat).objs } (advanceLaunch s l) l
            { x with sigs := [], flows := x.flows.map (Flow.latch s) })
    ∧ (x.stage = 2 → x.op ≠ 5 → x.stats = false → x.unsent = 0 → x.chunks = [] → x.sigs = [] → x.leafReq = [] → x.finalReq = [] →
        csetOf s x.job x.cset = none → x.syncEn = false → (∀ f ∈ x.flows, f.fend = true) →
        (∀ r ∈ x.staging, r.1 < 16) → (∀ e ∈ servers s x, e < 16) → ∀ j, job s x.job = some j → j.index < 4096 →
        (∀ e n, x.staging = [(e, n)] →
          getF (advanceLaunch s l) (RED_STAGING e) RED_STAGING_NOW = getF s (RED_STAGING e) RED_STAGING_NOW - n)
        ∧ launch (advanceLaunch s l) l = none ∧ (∀ k, k ≠ l → launch (advanceLaunch s l) k = launch s k)
        ∧ (∃ y ∈ (advanceLaunch s l).coll.done, y.no = l ∧ y.job = x.job ∧ y.gid = x.gid ∧ y.seq = x.seq)
        ∧ ∃ r : Cpl, Entered s (advanceLaunch s l) j.cq.toNat r ∧ r.kind = 1 ∧ r.job = BitVec.ofNat 16 x.job
            ∧ (wordAt r.body 0).toNat % 2 ^ 8 = 0 ∧ (wordAt r.body 0).toNat / 2 ^ 8 % 2 ^ 4 = x.op
            ∧ (wordAt r.body 1).toNat % 2 ^ 32 = x.seq ∧ wordAt r.body 3 = x.ftAdmit ∧ wordAt r.body 4 = now s)

/-- R99: a COLL packet that a fence does not hold and whose launch is admitted and open for it enters the launch: each of its elements
that is new to its open chunk is staged once, copies are counted in RED_CNT_DUP, and the packet is gone. R108: one of a
launch that is not admitted yet is held in the early-arrival area while that has room, and counted. -/
def Sys2Proof.Machine.Claims.CollPacketsEnterTheirLaunch : Prop :=
  ∀ (s : State) (k : Nat) (y : Pkt), running s = true → localPkt s k = some y → y.p.type = 1 → y.p.fence = false → y.hold ≤ 1 →
    (∀ x g, s.coll.launches.find? (fun x => x.job == y.p.job && x.gid == y.p.group && x.seq == y.p.lseq) = some x →
      x.stage = 2 → launchGroup s x = some g → y.p.stomp = false → y.p.ckind = 0 → x.op ≤ 1 → g.expels y.p.input = false →
      (contributors g x).any (fun m => m.1 == y.p.input && m.2.2 == g.me) = true →
      touchesOpen g x y.p.offset (pktTerms false y.p).length = true → y.owner = none →
      ∃ t0 : State, exec (.collPacket k true) s = .next (advanceLaunch t0 x.no)
        ∧ localPkt t0 k = none
        ∧ (∀ e c j ch, launchElem g x y.p.offset = some (e, c, j) → findChunk x e c = some ch → (pktTerms false y.p).length = 1 →
            ∃ x', launch t0 x.no = some x' ∧ findChunk x' e c = some
              (if ch.closed = true ∨ ch.has false y.p.input j = true then ch
               else { ch with staged := ch.staged ++ (pktTerms false y.p).map (fun t => ⟨false, y.p.input, j, t⟩) })
              ∧ (y.buf = none → g.server e < 16 → getF t0 (RED_CNT_DUP (g.server e)) RED_CNT_DUP_COUNT
                  = min (getF s (RED_CNT_DUP (g.server e)) RED_CNT_DUP_COUNT
                      + if ch.closed = true ∨ ch.has false y.p.input j = true then 1 else 0) (2 ^ RED_CNT_DUP_COUNT.w - 1))))
    ∧ (s.coll.launches.find? (fun x => x.job == y.p.job && x.gid == y.p.group && x.seq == y.p.lseq) = none →
      endedLaunch s y.p = none → y.hold = 0 → y.buf = none →
      earlyBytes s y.die + 64 + y.p.payload.length ≤ 524288 → y.die < 4 → groupOf s y.p.job y.p.group = none →
      ∃ t, exec (.collPacket k true) s = .next t
        ∧ (∃ y', localPkt t k = some y' ∧ y'.hold = 1 ∧ y'.p = y.p)
        ∧ getF t (RED_CNT_EARLY (4 * y.die)) RED_CNT_EARLY_COUNT
            = min (getF s (RED_CNT_EARLY (4 * y.die)) RED_CNT_EARLY_COUNT + 1) (2 ^ RED_CNT_EARLY_COUNT.w - 1)
        ∧ CsrKept s t [RED_CNT_EARLY (4 * y.die)] ∧ { t with csr := s.csr, net := s.net } = s)

/-- R123, R201, R241, R99: both parts hold: `LaunchesGoOnAndComplete` and `CollPacketsEnterTheirLaunch`. The model's
choice of log entry 52 enters it. Answers a next state with its effect: COLL_PACKET. -/
def Obligations.LaunchesProceed : Prop :=
  LaunchesGoOnAndComplete ∧ CollPacketsEnterTheirLaunch

namespace Sys2Proof.Machine.Claims

/-! ### Command and completion rings (R388–R396) -/

/-- A ring's working state after a fetch point of planned FT `x` in state `s`, where it may fetch (R389): a fetch starts, or
follows the one that runs; the points of one HCLK cycle of 1.25 ns give one fetch. -/
def afterPoint (s : State) (c : CmdRing) (x : Word) : CmdRing :=
  match c.fetching with
  | none => { c with fetching := some x, point := s.ftu.ft / 81920 }
  | some _ => if c.point = s.ftu.ft / 81920 then c else { c with again := some x, point := s.ftu.ft / 81920 }

/-- The entry `e` stands at the front of ring `r` on a device that runs, and no serial command holds it back. -/
def AtFront (s : State) (r : RingId) (e : CmdEntry) : Prop := running s = true ∧ frontEntry s r = some e

/-- The entry has left the front of its ring. -/
def Popped (s t : State) (r : RingId) : Prop := (cring t r).queue = (cring s r).queue.tail

/-- JOB_ID of a completion entry: 0xFFFF where the command names no job (Table 15.5). -/
def shownJob (j : BitVec 16) : BitVec 16 := if j = 0 then 0xFFFF else j

/-- One CMD completion of the entry has gone to the ring that the command ring's CQ names (R393, R394, Table 15.5). -/
def CmdEnds (s t : State) (r : RingId) (e : CmdEntry) (status detail : Nat) : Prop :=
  ∃ c : Cpl, Entered s t (getF s (HIF_CR_CTRL r) HIF_CR_CTRL_CQ) c
    ∧ c.kind = 4 ∧ c.cmdRing.toNat = r.val ∧ c.cmdIndex = e.index ∧ c.job = shownJob ((wordAt e.words 0).extractLsb' 16 16)
    ∧ (wordAt c.body 0).toNat = status + detail * 2 ^ 32 ∧ (wordAt c.body 1).toNat = (wordAt e.words 0).toNat / 2 ^ 32

/-- The ring commands, each with its TYPE (Table 15.3). -/
def ringCommands (r : RingId) : List (Instr × Nat) :=
  [ (.nopCommand r, 0), (.fetchAt r, 1), (.jobEnd r, 4), (.groupDereg r, 7), (.coll r, 8), (.quiesce r, 10), (.restart r, 11) ]

end Sys2Proof.Machine.Claims

/-- R389: PERIODIC_FETCH comes at the next FT that is PHASE modulo PERIOD, FETCH_AT_POINT at the FT that the ring's FETCH_AT
named, RING_FETCH at its alarm's target; each is a fetch point of its ring, and nothing else changes. -/
def Sys2Proof.Machine.Claims.FetchesStartAtTheirPoints : Prop :=
  ∀ (r : RingId) (s : State), running s = true →
    (mayFetch s r = true → getF s (HIF_CR_CTRL r) HIF_CR_CTRL_PERIOD ≠ 0 → s.ftu.ft < 2 ^ 79 →
      ∀ x p f : Nat, p = getF s (HIF_CR_CTRL r) HIF_CR_CTRL_PERIOD * 1000 → f = getF s (HIF_CR_CTRL r) HIF_CR_CTRL_PHASE * 1000 →
        s.ftu.ft ≤ x * 65536 → x % p = f % p → (∀ y, s.ftu.ft ≤ y * 65536 → y % p = f % p → x ≤ y) →
        ∃ t, exec (.periodicFetch r) s = .next t ∧ cring t r = afterPoint t (cring s r) (BitVec.ofNat 64 x)
          ∧ CmdRingsKept s t [r.val] ∧ t.ftu = { s.ftu with ft := max s.ftu.ft (x * 65536) }
          ∧ { t with crings := s.crings, ftu := s.ftu } = s)
    ∧ (getF s (HIF_CR_CTRL r) HIF_CR_CTRL_PERIOD = 0 ∨ mayFetch s r = false → exec (.periodicFetch r) s = .next s)
    ∧ (∀ x, (cring s r).fetchAt = some x → ∃ t, exec (.fetchAtPoint r) s = .next t
        ∧ cring t r = (if mayFetch s r then afterPoint t { cring s r with fetchAt := none } x else { cring s r with fetchAt := none })
        ∧ getF t (HIF_CR_STATUS r) HIF_CR_STATUS_FETCH_AT = 0 ∧ CsrKept s t [HIF_CR_STATUS r] ∧ CmdRingsKept s t [r.val]
        ∧ t.ftu = { s.ftu with ft := max s.ftu.ft (x.toNat * 65536) }
        ∧ { t with crings := s.crings, csr := s.csr, ftu := s.ftu } = s)
    ∧ (∀ (n : AlarmId) (x : Fired), firedNext s n 2 = some x → x.index.toNat = r.val → ∃ t, exec (.ringFetch n) s = .next t
        ∧ TookEffect s t x ∧ cring t r = (if mayFetch s r then afterPoint t (cring s r) x.target else cring s r)
        ∧ CmdRingsKept s t [r.val] ∧ { t with crings := s.crings, ftu := s.ftu } = s)
    ∧ (∀ (n : AlarmId) (x : Fired), firedNext s n 2 = some x → 256 ≤ x.index.toNat → ∃ t, exec (.ringFetch n) s = .next t
        ∧ TookEffect s t x ∧ { t with ftu := s.ftu } = s)

/-- R388, R390: a fetch takes the entries from HEAD up to TAIL, at most FETCH_MAX and what the 256-entry queue has room for, and
writes the new HEAD; a fetch that waited then starts; one of 1 µs and more past its planned FT counts FETCH_LATE. A TAIL
beyond the ring's size disables the ring, sets RING_ERR and raises one NOTE fault. -/
def Sys2Proof.Machine.Claims.FetchesTakeEntriesAndWriteHead : Prop :=
  ∀ (r : RingId) (tail : BitVec 32) (entries : List (List Word)) (s : State) (x : Word) (h avail k : Nat), running s = true →
    (cring s r).fetching = some x → mayFetch s r = true → h = getF s (HIF_CR_STATUS r) HIF_CR_STATUS_HEAD →
    avail = (tail.toNat + 2 ^ 32 - h) % 2 ^ 32 →
    k = min avail (min (if getF s (HIF_CR_CTRL r) HIF_CR_CTRL_FETCH_MAX = 0 then 256 else getF s (HIF_CR_CTRL r) HIF_CR_CTRL_FETCH_MAX)
        (256 - (cring s r).queue.length)) →
    (avail ≤ 2 ^ getF s (HIF_CR_CTRL r) HIF_CR_CTRL_LOG2SIZE → k ≤ entries.length →
      ∃ t, exec (.fetchCompletion r tail entries) s = .next t
        ∧ (cring t r).queue = (cring s r).queue ++ (entries.take k).mapIdx (fun i e => ⟨BitVec.ofNat 16 (h + i), e⟩)
        ∧ cring t r = { cring s r with queue := (cring t r).queue, fetching := (cring s r).again, again := none }
        ∧ getF t (HIF_CR_STATUS r) HIF_CR_STATUS_HEAD = (h + k) % 2 ^ 32
        ∧ t.out = .hostWrite (reg s (HIF_CR_PTR r) + 8) [BitVec.ofNat 64 ((h + k) % 2 ^ 32)] :: s.out
        ∧ getF t (FTU_SLIP 4) FTU_SLIP_COUNT = min (getF s (FTU_SLIP 4) FTU_SLIP_COUNT
            + if x.toNat + 1000 < (now s).toNat then 1 else 0) (2 ^ FTU_SLIP_COUNT.w - 1)
        ∧ CsrKept s t [HIF_CR_STATUS r, FTU_SLIP 4, FTU_SLIP_LAST] ∧ CmdRingsKept s t [r.val]
        ∧ { t with crings := s.crings, csr := s.csr, out := s.out } = s)
    ∧ (2 ^ getF s (HIF_CR_CTRL r) HIF_CR_CTRL_LOG2SIZE < avail →
      ∃ t, exec (.fetchCompletion r tail entries) s = .next t
        ∧ cring t r = { cring s r with fetching := none, again := none }
        ∧ getF t (HIF_CR_CTRL r) HIF_CR_CTRL_EN = 0 ∧ getF t (HIF_CR_STATUS r) HIF_CR_STATUS_RING_ERR = 1
        ∧ getF t HIF_STATUS HIF_STATUS_RING_ERR_EVENT = 1
        ∧ Raised s t 174 0x1A 0 0xFFFF (BitVec.ofNat 32 r)
        ∧ CsrKept s t ([HIF_CR_CTRL r, HIF_CR_STATUS r, HIF_STATUS] ++ faultRegs 174 0) ∧ CmdRingsKept s t [r.val]
        ∧ { t with crings := s.crings, csr := s.csr, flt := s.flt, out := s.out } = s)

/-- R389, R388, R390: both parts hold: `FetchesStartAtTheirPoints` and `FetchesTakeEntriesAndWriteHead`. Each answers a
next state with its effect: PERIODIC_FETCH, FETCH_AT_POINT, RING_FETCH, FETCH_COMPLETION. -/
def Obligations.RingsFetchTheirEntries : Prop :=
  FetchesStartAtTheirPoints ∧ FetchesTakeEntriesAndWriteHead

/-- R389, R392, R393: a ring's commands run in ring order, each leaving its queue: NOP does nothing; FETCH_AT becomes the
ring's pending fetch point, or fetches at once when its FT has passed; a reserved TYPE completes with BAD_CMD. A command
that is not at the front, or that a serial command holds back, does nothing. Each answers a next state with its effect:
NOP_COMMAND, FETCH_AT, RESERVED_COMMAND. -/
def Obligations.RingCommandsRunInOrder : Prop :=
  ∀ (r : RingId) (s : State) (e : CmdEntry) (ty : Nat), ty = (wordAt e.words 0).toNat % 2 ^ 8 → AtFront s r e →
    (ty = 0 → ∃ t, exec (.nopCommand r) s = .next t ∧ cring t r = { cring s r with queue := (cring s r).queue.tail }
      ∧ CmdRingsKept s t [r.val] ∧ { t with crings := s.crings } = s)
    ∧ (ty = 1 → (now s).toNat < (wordAt e.words 2).toNat → ∃ t, exec (.fetchAt r) s = .next t
      ∧ cring t r = { cring s r with queue := (cring s r).queue.tail, fetchAt := some (wordAt e.words 2) }
      ∧ getF t (HIF_CR_STATUS r) HIF_CR_STATUS_FETCH_AT = 1 ∧ CsrKept s t [HIF_CR_STATUS r] ∧ CmdRingsKept s t [r.val]
      ∧ { t with crings := s.crings, csr := s.csr } = s)
    ∧ (ty = 1 → (wordAt e.words 2).toNat ≤ (now s).toNat → ∃ t, exec (.fetchAt r) s = .next t
      ∧ cring t r = (let c := { cring s r with queue := (cring s r).queue.tail, fetchAt := none }
          if mayFetch s r then afterPoint t c (wordAt e.words 2) else c)
      ∧ getF t (HIF_CR_STATUS r) HIF_CR_STATUS_FETCH_AT = 0 ∧ CsrKept s t [HIF_CR_STATUS r] ∧ CmdRingsKept s t [r.val]
      ∧ { t with crings := s.crings, csr := s.csr } = s)
    ∧ (12 ≤ ty → ∃ t, exec (.reservedCommand r) s = .next t ∧ Popped s t r ∧ CmdEnds s t r e 0x01 0
      ∧ CmdRingsKept s t [r.val]
      ∧ { t with crings := s.crings, csr := s.csr, qrings := s.qrings, objs := s.objs, out := s.out } = s)
    ∧ (∀ i k, (i, k) ∈ ringCommands r → ty ≠ k → exec i s = .next s)
    ∧ (∀ s', serialHeld s' r = true → ∀ i k, (i, k) ∈ ringCommands r → exec i s' = .next s')

/-- R395, R396: a poll of a full completion ring reads HEAD again: with room the waiting entry is written; a ring that is
still full counts its wait once; a HEAD out of range disables the ring. HOLDOFF µs after the first entry that no message
has covered the ring's message is sent, or its vector's pending bit set while MSI-X is off or the function or the vector
is masked. Each answers a next state with its effect: CQ_FULL_POLL, HOLDOFF_EXPIRY. -/
def Obligations.CompletionRingsPollAndSignal : Prop :=
  ∀ (q : RingId) (s : State) (size : Nat), running s = true → size = 2 ^ getF s (HIF_QR_CTRL q) HIF_QR_CTRL_LOG2SIZE →
    (∀ (head : BitVec 32) (used : Nat), used = (getF s (HIF_QR_STATUS q) HIF_QR_STATUS_TAIL + 2 ^ 32 - head.toNat) % 2 ^ 32 →
      (qring s q).polling = true → isSet s (HIF_QR_CTRL q) HIF_QR_CTRL_EN = true →
      (used < size → hostUp s = true → ∀ c, (qring s q).waiting = [c] → ∃ t, exec (.cqFullPoll q head) s = .next t
        ∧ Entered (setQring s q { qring s q with head := head, waiting := [], polling := false }) t q c
        ∧ (qring t q).waiting = [] ∧ (qring t q).polling = false ∧ (qring t q).head = head
        ∧ CplRingsKept s t [q.val] ∧ CsrKept s t (ringRegs q)
        ∧ { t with qrings := s.qrings, csr := s.csr, objs := s.objs, out := s.out } = s)
      ∧ (used = size → ∃ t, exec (.cqFullPoll q head) s = .next t
        ∧ qring t q = { qring s q with head := head, full := true }
        ∧ getF t (HIF_QR_STATUS q) HIF_QR_STATUS_FULL_CNT
            = min (getF s (HIF_QR_STATUS q) HIF_QR_STATUS_FULL_CNT + if (qring s q).full then 0 else 1) (2 ^ HIF_QR_STATUS_FULL_CNT.w - 1)
        ∧ ((qring s q).full = false → getF t HIF_STATUS HIF_STATUS_CQ_FULL_EVENT = 1)
        ∧ CsrKept s t [HIF_STATUS, HIF_QR_STATUS q] ∧ CplRingsKept s t [q.val] ∧ { t with qrings := s.qrings, csr := s.csr } = s)
      ∧ (size < used → ∃ t, exec (.cqFullPoll q head) s = .next t
        ∧ qring t q = { qring s q with head := head, polling := false, full := false }
        ∧ getF t (HIF_QR_CTRL q) HIF_QR_CTRL_EN = 0 ∧ getF t (HIF_QR_STATUS q) HIF_QR_STATUS_RING_ERR = 1
        ∧ Raised s t 174 0x1A 0 0xFFFF (BitVec.ofNat 32 q)
        ∧ CsrKept s t ([HIF_QR_CTRL q, HIF_QR_STATUS q, HIF_STATUS] ++ faultRegs 174 0) ∧ CplRingsKept s t [q.val]
        ∧ { t with qrings := s.qrings, csr := s.csr, flt := s.flt, out := s.out } = s))
    ∧ (∀ (x : Word) (v : Nat), (qring s q).holdFirst = some x → v = getF s (HIF_QR_CTRL q) HIF_QR_CTRL_VECTOR →
      ∃ t, exec (.holdoffExpiry q) s = .next t
        ∧ qring t q = { qring s q with uncovered := 0, holdFirst := none } ∧ CplRingsKept s t [q.val]
        ∧ t.ftu = { s.ftu with
            ft := max s.ftu.ft ((x + BitVec.ofNat 64 (getF s (HIF_QR_CTRL q) HIF_QR_CTRL_HOLDOFF * 1000)).toNat * 65536) }
        ∧ (s.boot.msixEn = true → s.boot.msixMask = false → isSet s (HIF_MSIX_DATA v) HIF_MSIX_DATA_MASK = false → t.out = .msix v :: s.out ∧ t.csr = s.csr)
        ∧ (s.boot.msixEn = false ∨ s.boot.msixMask = true ∨ isSet s (HIF_MSIX_DATA v) HIF_MSIX_DATA_MASK = true → t.out = s.out
            ∧ reg t (HIF_MSIX_PEND (v / 64)) = reg s (HIF_MSIX_PEND (v / 64)) ||| (1 : Word) <<< (v % 64)
            ∧ CsrKept s t [HIF_MSIX_PEND (v / 64)])
        ∧ { t with qrings := s.qrings, csr := s.csr, ftu := s.ftu, out := s.out } = s)
    ∧ ((qring s q).holdFirst = none → exec (.holdoffExpiry q) s = .next s)

namespace Sys2Proof.Machine.Claims

/-! ### Launches, conflict sets and engines (R90–R113, R123, R124, R240) -/

/-- The launch that a COLL entry describes: parameter words 0–23 stand in words 2–25 (R240, R392). -/
def collOf (s : State) (e : CmdEntry) : Launch :=
  let w := (List.range 24).map (fun i => wordAt e.words (i + 2))
  Launch.fresh s.coll.nextLaunch ((wordAt e.words 0).extractLsb' 16 16).toNat w ((wordAt w 0).extractLsb' 32 16).toNat
    e.index

/-- A COLL entry whose reserved bits outside the descriptor are 0, and whose header and descriptor name one job. -/
def CollFormed (e : CmdEntry) (x : Launch) : Prop :=
  (wordAt e.words 0).extractLsb' 8 8 = 0 ∧ wordAt e.words 1 = 0
    ∧ ((wordAt x.words 1).extractLsb' 32 16).toNat = x.job ∧ (∀ i, i < 6 → wordAt e.words (26 + i) = 0)

/-- A COLL entry that goes on to its sequence number: its job is admitted, header and descriptor name it, reserved words
are 0, and the descriptor passes Table 4.11. -/
def CollFits (s : State) (e : CmdEntry) (x : Launch) (j : Job) : Prop :=
  x = collOf s e ∧ job s x.job = some j ∧ CollFormed e x ∧ refuseLaunch s x = none

/-- One COLL record of a status has gone to the job's completion ring (R123, Table 4.10). -/
def CollRecorded (s t : State) (x : Launch) (j : Job) (status : Nat) : Prop :=
  ∃ r : Cpl, Entered s t j.cq.toNat r ∧ r.kind = 1 ∧ r.job = BitVec.ofNat 16 x.job ∧ r.cmdIndex = x.index
    ∧ (wordAt r.body 0).toNat % 2 ^ 8 = status ∧ (wordAt r.body 1).toNat % 2 ^ 32 = x.seq

/-- A launch has been refused with a status: its record has been written, a STEP status has raised one STEP fault
COLL_ERROR, and no launch or set has changed. -/
def Refused (s t : State) (r : RingId) (x : Launch) (j : Job) (status : Nat) : Prop :=
  CollRecorded s t x j status ∧ Popped s t r
    ∧ (5 ≤ status ∧ status ≤ 9 → Raised s t (launchSource s x) 0x03 1 (BitVec.ofNat 16 x.job) (BitVec.ofNat 32 status))
    ∧ { t with
        crings := s.crings, csr := s.csr, qrings := s.qrings, objs := s.objs, out := s.out, flt := s.flt } = s
    ∧ ((status < 5 ∨ 9 < status) → t.flt = s.flt)

/-- A launch's engines, staging and job entry have numbers of this device. -/
def Placed (s : State) (x : Launch) (j : Job) : Prop :=
  (∀ e ∈ servers s x, e < 16) ∧ (∀ r ∈ x.staging, r.1 < 16) ∧ j.index < 4096

end Sys2Proof.Machine.Claims

/-- R106: a COLL whose descriptor fits is handled by its SEQ: E comes to its turn, E + 1 to E + 16 are held and start the
set's gap timer, a larger one completes with SEQ_WINDOW and an earlier one with SEQ_DUP, each with a STEP fault; a set
that has broken gives SEQ_GAP. One that fails the checks completes with their status. An entry with a reserved bit set, or
whose header names another job than its descriptor, completes as a command with BAD_CMD, and one of a job that is not
admitted with UNKNOWN_JOB. The model's choices of log entries 50 and 51 enter it. Answers a next state with its effect:
COLL. -/
def Obligations.CollFollowsTheSequence : Prop :=
  ∀ (r : RingId) (s : State) (e : CmdEntry) (x : Launch), AtFront s r e → (wordAt e.words 0).toNat % 2 ^ 8 = 8 → x = collOf s e →
    (∀ k ∈ servers s x, k < 16) →
    (¬ CollFormed e x → ∃ t, exec (.coll r) s = .next t ∧ CmdEnds s t r e 0x01 0 ∧ Popped s t r ∧ t.coll = s.coll)
    ∧ (CollFormed e x → job s x.job = none → ∃ t, exec (.coll r) s = .next t ∧ CmdEnds s t r e 0x04 0 ∧ Popped s t r ∧ t.coll = s.coll)
    ∧ (∀ j, CollFits s e x j → x.cset = 0xFFFF → (∀ y ∈ s.coll.launches, y.no ≠ x.no) →
        ∃ t, exec (.coll r) s = .next t ∧ launch t x.no = some { x with stage := 1 } ∧ Popped s t r
          ∧ { t with coll := s.coll, crings := s.crings, csr := s.csr } = s)
    ∧ (∀ j c d, CollFits s e x j → x.cset ≠ 0xFFFF → csetOf s x.job x.cset = some c →
        d = (x.seq + 2 ^ 32 - c.e.toNat) % 2 ^ 32 → c.slot < 1024 →
        (c.broken = true → ∃ t, exec (.coll r) s = .next t ∧ Refused s t r x j 0x07)
        ∧ (c.broken = false → d = 0 → turnOf s x.job x.cset = none → (∀ y ∈ s.coll.launches, y.no ≠ x.no) →
            ∃ t, exec (.coll r) s = .next t ∧ launch t x.no = some { x with stage := 1 } ∧ Popped s t r
              ∧ csetOf t x.job x.cset = some { c with gap := none, retries := 0 }
              ∧ { t with coll := s.coll, crings := s.crings, csr := s.csr } = s)
        ∧ (c.broken = false → 1 ≤ d → d ≤ 16 → (∀ y ∈ heldOf s x.job x.cset c.e, y.seq ≠ x.seq ∧ y.seq ≠ c.e.toNat) →
            turnOf s x.job x.cset = none → (∀ y ∈ s.coll.launches, y.no ≠ x.no) →
            ∃ t, exec (.coll r) s = .next t ∧ launch t x.no = some x ∧ Popped s t r
              ∧ csetOf t x.job x.cset = some (if c.gap.isSome then c else { c with gap := some (now s), retries := 0 })
              ∧ { t with coll := s.coll, crings := s.crings, csr := s.csr } = s)
        ∧ (c.broken = false → 16 < d → d < 2 ^ 31 → ∃ t, exec (.coll r) s = .next t ∧ Refused s t r x j 0x05)
        ∧ (c.broken = false → 2 ^ 31 ≤ d → ∃ t, exec (.coll r) s = .next t ∧ Refused s t r x j 0x06))
    ∧ (∀ j st, job s x.job = some j → CollFormed e x → refuseLaunch s x = some st →
        ∃ t, exec (.coll r) s = .next t ∧ Refused s t r x j st)

/-- R107, R110, R113, R124: at its turn a launch takes its whole requirement from its job's quota and starts its flows, E
passing on; with too little room it holds nothing and waits; beyond the whole quota it ends with STAGING. From its
admission it keeps the members and the KV6s that it then found (R91, R120). A gap timer raises a STEP fault twice and then
breaks its set; a launch without progress ends with DATA_TIMEOUT; a second residue mismatch fences its engine. The model's
choices of log entries 50, 52 and 77 enter it. Each answers a next state with its effect: LAUNCH_ADMIT, GAP_TIMER_EXPIRY,
DATA_TIMEOUT, ENGINE_FENCE. -/
def Obligations.LaunchesAreAdmittedAndTimed : Prop :=
  (∀ (l : Nat) (s : State) (x : Launch) (g0 g : Group) (j : Job), running s = true → launch s l = some x → x.stage = 1 →
    groupOf s x.job x.gid = some g0 → g = g0.seen s → job s x.job = some j → csetOf s x.job x.cset = none →
    jobQuiet s x.job = false → engineQuiet s x = false → groupLost s g = false →
    ((∀ d, d < 4 → p3Use s x.job d + dieNeed (launchNeed g x) d ≤ p3Quota s x.job d) →
      ∃ t, exec (.launchAdmit l) s = .next t
        ∧ launch t l = some { x with
            stage := 2, ftAdmit := now t, progress := now t,
            staging := (launchNeed g x).map (fun e => (g.server e.1, e.2)), flows := (enginesOf s x).map Flow.start,
            out := g.expelled, fwd := kv6Devices s g }
        ∧ t.ftu = { s.ftu with ft := max s.ftu.ft (x.startFt * 65536) }
        ∧ (∀ k, k ≠ l → launch t k = launch s k)
        ∧ { t with coll := s.coll, csr := s.csr, ftu := s.ftu, net := s.net } = s)
    ∧ ((∀ d, d < 4 → dieNeed (launchNeed g x) d ≤ p3Quota s x.job d) →
        (∃ d, d < 4 ∧ p3Quota s x.job d < p3Use s x.job d + dieNeed (launchNeed g x) d) →
      ∃ t, exec (.launchAdmit l) s = .next t ∧ { t with ftu := s.ftu } = s)
    ∧ ((∃ d, d < 4 ∧ p3Quota s x.job d < dieNeed (launchNeed g x) d) → Placed s x j → x.syncEn = false →
      ∃ t, exec (.launchAdmit l) s = .next t ∧ launch t l = none
        ∧ CollRecorded { s with ftu := t.ftu } t x j 0x04 ∧ (∀ k, k ≠ l → launch t k = launch s k)))
  ∧ (∀ (k : Fin 1024) (s : State) (c : Cset) (x : Word) (e : Nat), running s = true →
      s.coll.csets.find? (fun c => c.slot == k.val) = some c → c.gap = some x →
      e = (match heldOf s c.job c.id c.e with | y :: _ => (servers s y).headD 0 | [] => 0) → e < 16 → c.retries < 2 →
      ∃ t, exec (.gapTimerExpiry k) s = .next t
        ∧ t.coll.csets.find? (fun c => c.slot == k.val) = some { c with gap := some (now t), retries := c.retries + 1 }
        ∧ t.ftu = { s.ftu with
            ft := max s.ftu.ft ((x + BitVec.ofNat 64 (getF s (RED_TAG_TIMEOUT 0) RED_TAG_TIMEOUT_VALUE * 1000)).toNat * 65536) }
        ∧ Raised { s with ftu := t.ftu } t (96 + e) 0x03 1 (BitVec.ofNat 16 c.job) 7
        ∧ t.coll.launches = s.coll.launches
        ∧ { t with coll := s.coll, csr := s.csr, ftu := s.ftu, flt := s.flt, out := s.out } = s)
  ∧ (∀ (k : Fin 1024) (s : State) (c : Cset) (x : Word), running s = true →
      s.coll.csets.find? (fun c => c.slot == k.val) = some c → c.gap = some x → 2 ≤ c.retries →
      (∀ y ∈ s.coll.launches, launch s y.no = some y) →
      ∃ t, exec (.gapTimerExpiry k) s = .next t
        ∧ (∃ c', t.coll.csets.find? (fun c => c.slot == k.val) = some c' ∧ c'.broken = true ∧ c'.gap = none ∧ c'.e = c.e)
        ∧ (∀ y ∈ heldOf s c.job c.id c.e, launch t y.no = none
            ∧ ∃ z ∈ t.coll.done, z.no = y.no ∧ z.job = y.job ∧ z.gid = y.gid ∧ z.seq = y.seq))
  ∧ (∀ (l : Nat) (s : State) (x : Launch) (j : Job), running s = true → launch s l = some x → x.stage = 2 →
      job s x.job = some j → csetOf s x.job x.cset = none → Placed s x j → x.syncEn = false →
      ∃ t, exec (.dataTimeout l) s = .next t ∧ launch t l = none ∧ (∀ k, k ≠ l → launch t k = launch s k)
        ∧ t.ftu = { s.ftu with
            ft := max s.ftu.ft
              ((x.progress + BitVec.ofNat 64 (getF s (RED_DATA_TIMEOUT 0) RED_DATA_TIMEOUT_VALUE * 1000)).toNat * 65536) }
        ∧ CollRecorded { s with ftu := t.ftu } t x j 0x08
        ∧ Raised { s with ftu := t.ftu } t (launchSource s x) 0x03 1 (BitVec.ofNat 16 x.job) 8)
  ∧ (∀ (e : Engine) (s : State) (n : Nat), running s = true → isSet s (RED_STATUS e) RED_STATUS_FENCED = false →
      (secondMismatch s e = false → exec (.engineFence e) s = .next s)
      ∧ (secondMismatch s e = true →
          ((List.range 4).map (4 * (e.val / 4) + ·)).find? (fun k => k != e.val && engineUp s k) = some n →
          ∃ t, exec (.engineFence e) s = .next t ∧ isSet t (RED_STATUS e) RED_STATUS_FENCED = true
            ∧ Raised s t (96 + e.val) 0x05 2 0xFFFF 0 ∧ (80 + e.val) ∈ t.flt.lasting
            ∧ t.coll.launches = s.coll.launches ∧ t.coll.groups.length = s.coll.groups.length
            ∧ (∀ (i : Nat) (g : Group), s.coll.groups[i]? = some g → ∃ g' : Group, t.coll.groups[i]? = some g'
                ∧ { g' with moved := g.moved } = g
                ∧ ∀ sh ∈ g.shards, g'.server (sh.engineAt g.me)
                    = if g.server (sh.engineAt g.me) = e.val then n else g.server (sh.engineAt g.me))
            ∧ (∀ o, o ∉ RED_STATUS e :: faultRegs (96 + e.val) 2 → (∀ k, o ≠ RED_ACTIVE k) → reg t o = reg s o)
            ∧ { t with coll := s.coll, csr := s.csr, flt := s.flt, out := s.out } = s))

/-- R95, R96, R392: GROUP_REG registers the group that its map describes, with the SHA3-256 digest of the map and with its
conflict set at E = 0 when new; a map that breaks the rules completes with BAD_CMD and one that host memory does not give
with HOST_READ. GROUP_DEREG removes a group; one with launches in flight is BUSY and one unknown is BAD_CMD. The model's
choice of log entry 51 enters it. Each answers a next state with its effect: GROUP_REG, GROUP_DEREG. -/
def Obligations.GroupsAreRegisteredAndRemoved : Prop :=
  ∀ (r : RingId) (s : State) (e : CmdEntry) (j : Nat), AtFront s r e → j = ((wordAt e.words 0).extractLsb' 16 16).toNat →
    (∀ m g jb, (wordAt e.words 0).toNat % 2 ^ 8 = 6 → e.headOk = true →
        (∀ i, i ≠ 2 → i ≠ 3 → i < 32 → 2 ≤ i → wordAt e.words i = 0) → job s j = some jb →
        (∃ t, exec (.groupReg r none) s = .next t ∧ CmdEnds s t r e 0x02 0 ∧ Popped s t r ∧ t.coll = s.coll)
        ∧ (parseGroup s (m.take ((wordAt e.words 3).toNat / 4)) = none →
            ∃ t, exec (.groupReg r (some m)) s = .next t ∧ CmdEnds s t r e 0x01 0 ∧ Popped s t r ∧ t.coll = s.coll)
        ∧ (parseGroup s (m.take ((wordAt e.words 3).toNat / 4)) = some g → g.job = j → vcEnabled s j g.vc = true →
            (g.cset = 0xFFFF → ∀ y ∈ s.coll.groups, y.job = j → y.gid = g.gid) → s.coll.groups.length < 4096 →
            g.cset = 0xFFFF ∨ csetOf s j g.cset = none → s.coll.csets.length < 1024 → (∀ c ∈ s.coll.csets, c.slot < 1024) →
            ∃ t g', exec (.groupReg r (some m)) s = .next t ∧ CmdEnds s t r e 0 0 ∧ Popped s t r
              ∧ groupOf t j g.gid = some g' ∧ { g' with moved := g.moved, lost := g.lost } = g
              ∧ g'.digest = sha3 ((m.take ((wordAt e.words 3).toNat / 4)).flatMap (fun w => toBytes 4 w.toNat))
              ∧ (∀ j' k, (j', k) ≠ (j, g.gid) → groupOf t j' k = groupOf s j' k)
              ∧ (g.cset ≠ 0xFFFF → ∃ c, csetOf t j g.cset = some c ∧ c.e = 0 ∧ c.broken = false ∧ c.slot < 1024)
              ∧ t.coll.launches = s.coll.launches
              ∧ { t with
                  coll := s.coll, crings := s.crings, csr := s.csr, qrings := s.qrings, objs := s.objs, out := s.out } = s))
    ∧ (∀ jb k, (wordAt e.words 0).toNat % 2 ^ 8 = 7 → e.headOk = true → k = ((wordAt e.words 2).extractLsb' 0 16).toNat →
        (wordAt e.words 2).toNat < 2 ^ 16 → (∀ i, 2 < i → i < 32 → wordAt e.words i = 0) → job s j = some jb →
        (groupOf s j k = none → ∃ t, exec (.groupDereg r) s = .next t ∧ CmdEnds s t r e 0x01 0 ∧ Popped s t r ∧ t.coll = s.coll)
        ∧ (∀ g, groupOf s j k = some g →
            ((∃ x ∈ s.coll.launches, x.job = j ∧ x.gid = k) →
              ∃ t, exec (.groupDereg r) s = .next t ∧ CmdEnds s t r e 0x06 0 ∧ Popped s t r ∧ t.coll = s.coll)
            ∧ ((∀ x ∈ s.coll.launches, ¬ (x.job = j ∧ x.gid = k)) → (∀ c ∈ s.coll.csets, c.slot < 1024) →
              ∃ t, exec (.groupDereg r) s = .next t ∧ CmdEnds s t r e 0 0 ∧ Popped s t r
                ∧ groupOf t j k = none ∧ (∀ j' k', (j', k') ≠ (j, k) → groupOf t j' k' = groupOf s j' k')
                ∧ t.coll.launches = s.coll.launches
                ∧ { t with
                    coll := s.coll, crings := s.crings, csr := s.csr, qrings := s.qrings, objs := s.objs, out := s.out } = s)))

namespace Sys2Proof.Machine.Claims

/-! ### The switch core (R246–R268, R280–R283, R291–R293, R298, R310) -/

/-- A packet's buffer, if it holds one, is one of this device's, its state bit is set (R264), and its credit goes back to
one of its ports or pair links. -/
def HoldsBuf (s : State) (x : Pkt) : Prop :=
  ∀ b, x.buf = some b → b.die < 4 ∧ b.req < 38 ∧ b.pool < 4 ∧ runsHas s.net.bits (bitOf b.die b.pool b.idx) = true
    ∧ ∀ y, b.back = some y → b.pool = (if y.2.2.2 = 3 then 2 else y.2.2.2) ∧ y.1 < 1040 ∧ y.2.1 < 8 ∧ y.2.2.2 < 4

/-- No packet that a fence has held and released waits for its turn, and none of the named stream is held. -/
def NoneHeld (s : State) (st : Stream) : Prop :=
  ∀ y ∈ s.net.locals ++ s.net.ports.flatMap (fun e => e.2.q), y.hold ≠ 4 ∧ (y.hold = 3 → streamOf y.p ≠ st)

/-- An address that a register of a port holds (Table 12.9). -/
def linkAddr (s : State) (r : Nat → Nat → Nat) (q : Port) : BitVec 48 := (reg s (r (portBundle q) (portLane q))).extractLsb' 0 48

/-- The 802.1Q tag of a PFP frame on a port (Table 12.8): PCP from PCP_MAP by the buffer VC, which a control frame has not,
and VID. -/
def tagOf (s : State) (q : Port) (vc : Option (Fin 8)) : Option (Option (BitVec 3) × BitVec 12) :=
  let w := reg s (LNK_ETH_CTRL (portBundle q) (portLane q))
  if w.getLsbD 24 then some (vc.map (fun v => w.extractLsb' (3 * v.val) 3), w.extractLsb' 25 12) else none

/-- No mirror session copies packets (R266). -/
def NoMirror (s : State) : Prop := ∀ d k, d < 4 → k < 2 → isSet s (SWC_MIR_CTRL d k) SWC_MIR_CTRL_EN = false

/-- Packet number `k` of a type has been delivered to this device; it is whole and the first of its input, class and
consumer (R276), nothing holds it, no unit waits for it, and no fence holds another of its stream. -/
def Arrived (s : State) (k : Nat) (x : Pkt) (type : Nat) : Prop :=
  running s = true ∧ localPkt s k = some x ∧ x.p.type = type ∧ x.p.stomp = false ∧ x.hold = 0 ∧ x.owner = none ∧ x.die < 4
    ∧ HoldsBuf s x ∧ (∀ a, x.port = some a → a < 1024) ∧ NoneHeld s (streamOf x.p)

/-- Packet `x` has been consumed on die `d` and its stream counted (R282, R283). -/
def Consumed (s t : State) (k d : Nat) (x : Pkt) : Prop :=
  localPkt t k = none
    ∧ (∀ e, streamFind s d (streamOf x.p) = some e →
        streamFind t d (streamOf x.p) = some ⟨d, streamOf x.p, e.c + 1, now s⟩)
    ∧ (streamFind s d (streamOf x.p) = none → streamRoom s d = true →
        streamFind t d (streamOf x.p) = some ⟨d, streamOf x.p, 1, now s⟩)

/-- A packet has been refused (R251): it is gone, SWC_CNT_REFUSE and SWC_LAST_REFUSE show it, and a REFUSE with bytes 0 to
55 of its header and the cause goes to its source, unless it is a RADD or a REFUSE itself. -/
def PacketRefused (s t : State) (k : Nat) (x : Pkt) (cause : Nat) : Prop :=
  localPkt t k = none
    ∧ getF t (SWC_CNT_REFUSE x.die) SWC_CNT_REFUSE_COUNT
        = min (getF s (SWC_CNT_REFUSE x.die) SWC_CNT_REFUSE_COUNT + 1) (2 ^ SWC_CNT_REFUSE_COUNT.w - 1)
    ∧ getF t (SWC_STATUS x.die) SWC_STATUS_REFUSE_EVENT = 1
    ∧ getF t (SWC_LAST_REFUSE x.die) SWC_LAST_REFUSE_CAUSE = cause
    ∧ getF t (SWC_LAST_REFUSE x.die) SWC_LAST_REFUSE_JOB_ID = x.p.job
    ∧ ((x.p.type = 3 ∨ x.p.type = 7) → t.net.outbox = s.net.outbox)
    ∧ (x.p.type ≠ 3 → x.p.type ≠ 7 → translates s x.p.job x.p.src = true →
        ∃ y, t.net.outbox = s.net.outbox ++ [y] ∧ y.dest = .here
          ∧ y.p = mkPacket { type := 7, vc := 6, job := x.p.job, src := ownRank s x.p.job, dst := x.p.src, origin := 0x0200,
                             birth := (now s).toNat % 2 ^ 40 } (toBytes 56 x.p.hdr.toNat ++ toBytes 8 cause))

/-- The code words of a range that fail are covered whole, so that a write reaches every byte. -/
def WritesWhole (s : State) (k n : Nat) : Prop := ∀ w ∈ s.bad, overlaps w k n = true → covers w k n = true

/-- The commands of the packets that a fence may hold here, each with its TYPE. -/
def fencedForms (k : Nat) (c : CtrlContent) : List (Instr × Nat) :=
  [(.dataPacket k, 0), (.slotPacket k, 2), (.radd k, 3), (.ctrlPacket k c, 4), (.mgmtPacket k, 6), (.refusePacket k, 7)]

/-- Die, input number and VC of a local unit that sends packets into a slice (R292): a reduction engine, a core's DMA
engine, the management endpoint. -/
def unitInput : PktSrc → Option (Nat × Nat × Nat)
  | .engine e v => some (e.val / 4, 259 + e.val % 4, v.val)
  | .dma n v => some (n.val / 20, 263 + n.val % 20, v.val)
  | .mgmt d v => some (d.val, 283, v.val)
  | _ => none

/-- Object `o` takes remote adds of job `j` (R154). -/
def TakesAdds (s : State) (o j : Nat) : Prop :=
  (obj s o).ctrl.getLsbD 19 = true ∧ j ≠ 0 ∧ (obj s o).ctrl.extractLsb' 0 16 = BitVec.ofNat 16 j

/-- A remote add to object `o` has been refused (R154): counted, shown in CLU_STATUS, and recorded as a NOTE fault. -/
def AddRefused (s t : State) (o j : Nat) : Prop :=
  getF t (CLU_SYNC_REFUSED (o / 4096)) CLU_SYNC_REFUSED_COUNT
      = min (getF s (CLU_SYNC_REFUSED (o / 4096)) CLU_SYNC_REFUSED_COUNT + 1) (2 ^ CLU_SYNC_REFUSED_COUNT.w - 1)
    ∧ getF t (CLU_STATUS (o / 4096)) CLU_STATUS_REFUSED_EVENT = 1
    ∧ Raised s t (80 + o / 4096) 0x12 0 (BitVec.ofNat 16 j) (BitVec.ofNat 32 o)

end Sys2Proof.Machine.Claims

/-- R248–R250, R254, R261, R292, R324: a packet whose sequence number, header or credit does not hold, or that comes
before the end of its predecessor, is asked for again and changes nothing else; one that has been accepted before is
acknowledged and discarded; one that translates to this device has its credit used and its end word still to come, and
stands with the local packets of its consumer's die or on its way there across the die mesh; one that cannot be dispatched
is received whole, to be refused at its end. The packet of a local unit that the ingress arbiter chooses takes a buffer of
its fit class, whose state bit is set, and enters the slice. A buffer that is granted goes to the request that waited, a
packet's or the credit of a port or pair link, whose further grants go on. The model's choices of log entries 37, 38, 59,
82, 87 and 100 enter it. Each answers a next state with its effect: PACKET_FORWARD, BUFFER_GRANT. -/
def Obligations.PacketsEnterTheirSlice : Prop :=
  (∀ (q : Port) (p : Packet) (s : State), running s = true →
    (portUp s q = false → exec (.packetForward (.port q) p) s = .next s)
    ∧ (portUp s q = true → 1 ≤ ((port s q).rxSeq - p.seq).toNat → ((port s q).rxSeq - p.seq).toNat ≤ 2047 →
        ∃ t, exec (.packetForward (.port q) p) s = .next t ∧ port t q = { port s q with ackDue := true }
          ∧ (∀ o, o ≠ q.val → port t o = port s o) ∧ { t.net with ports := s.net.ports } = s.net ∧ { t with net := s.net } = s)
    ∧ (portUp s q = true → (2047 < ((port s q).rxSeq - p.seq).toNat
          ∨ (p.seq = (port s q).rxSeq
            ∧ ((port s q).midway = true ∨ pktOk (linkVersion s q) p = false ∨ creditOut (port s q) p = false))) →
        ∃ t, exec (.packetForward (.port q) p) s = .next t ∧ port t q = { port s q with nakDue := true }
          ∧ (∀ o, o ≠ q.val → port t o = port s o) ∧ { t.net with ports := s.net.ports } = s.net ∧ { t with net := s.net } = s)
    ∧ (portUp s q = true → p.seq = (port s q).rxSeq → (port s q).midway = false → pktOk (linkVersion s q) p = true →
        creditOut (port s q) p = true → p.stomp = false → 0x52 ≤ getF s (pStat q) LNK_PORT_STATUS_VERSION → NoMirror s →
        isSet s (TSC_POLICER q p.bvc) TSC_POLICER_EN = false →
        (∀ n d, portMgmtOnly s q = false → (wayOf s p (some q) = .here ∨ (wayOf s p (some q) = .endpoint ∧ p.type ≠ 7)) →
          n = arrived s q p (occupy s (portBuf q p)).2 →
          d = (if wayOf s p (some q) = .here then consumerDie s n else portDie q) →
          ∃ t, exec (.packetForward (.port q) p) s = .next t
          ∧ t.net.locals = s.net.locals ++ (if d = portDie q then [n] else [])
          ∧ t.net.outbox = s.net.outbox ++ (if d = portDie q then [] else [{ n with dest := .die d }])
          ∧ t.net.nextNo = s.net.nextNo + 1 ∧ t.net.bits = s.net.bits ∧ t.net.occ = (occupy s (portBuf q p)).1.net.occ
          ∧ port t q = { useCredit (port s q) p with rxSeq := (port s q).rxSeq + 1, midway := true }
          ∧ (∀ o, o ≠ q.val → port t o = port s o)
          ∧ getF t (SWC_PCNT (portDie q) (portLocal q) p.vc 0) SWC_PCNT_COUNT
              = min (getF s (SWC_PCNT (portDie q) (portLocal q) p.vc 0) SWC_PCNT_COUNT + 1) (2 ^ SWC_PCNT_COUNT.w - 1)
          ∧ { t with net := s.net, csr := s.csr } = s)
        ∧ (∀ c n, ((portMgmtOnly s q = false ∧ wayOf s p (some q) = .refuse c)
              ∨ (portMgmtOnly s q = true ∧ (p.bvc ≠ 7 ∨ p.twin = true) ∧ p.type ≠ 7 ∧ c = 5)
              ∨ (portState s q = 3 ∧ p.bvc = 7 ∧ p.twin = false ∧ p.type ≠ 6 ∧ p.type ≠ 7 ∧ c = 4)) →
          (∀ y ∈ s.net.locals, y.no ≠ s.net.nextNo) → n = arrived s q p (occupy s (portBuf q p)).2 →
          ∃ t, exec (.packetForward (.port q) p) s = .next t ∧ t.net.locals = s.net.locals ++ [{ n with dest := .refuse c }]
          ∧ t.net.outbox = s.net.outbox ∧ t.net.bits = s.net.bits
          ∧ reg t (SWC_CNT_REFUSE (portDie q)) = reg s (SWC_CNT_REFUSE (portDie q))
          ∧ port t q = { useCredit (port s q) p with rxSeq := (port s q).rxSeq + 1, midway := true }
          ∧ { t with net := s.net, csr := s.csr } = s)))
  ∧ (∀ (src : PktSrc) (p : Packet) (s : State) (d i v : Nat) (hs : List Pkt) (x y : Pkt) (pool d' : Nat) (b : Buf),
      running s = true → unitInput src = some (d, i, v) → hs = inputHeads (atIngress s d v) [] →
      hs.find? (fun y => y.input == i) = some x →
      firstOfClass (rotNow s) (hs.filter (fun y => canEnter s y d (requesterOf y.input))) = some x →
      pool = (if x.p.payload.length ≤ 128 then 0 else if x.p.payload.length ≤ 640 then 1 else 2) → s.net.hand = [] →
      grantableNow s d (requesterOf i) pool = true → x.dest = .here → wayOf s x.p none = .here →
      b = (occupy (setBit s d pool) ⟨d, requesterOf i, pool, 0, none⟩).2 →
      y = { x with buf := some b, key := ageKey s none x.p, ingress := none } → d' = consumerDie s y →
      ∃ t, exec (.packetForward src p) s = .next t
        ∧ t.net.locals = s.net.locals ++ (if d' = d then [y] else [])
        ∧ t.net.outbox = s.net.outbox.filter (fun z => z.no != x.no) ++ (if d' = d then [] else [{ y with dest := .die d' }])
        ∧ t.net.bits = (setBit s d pool).net.bits ∧ t.net.occ = (occupy (setBit s d pool) ⟨d, requesterOf i, pool, 0, none⟩).1.net.occ
        ∧ getF t (SWC_POOL_STAT d pool) SWC_POOL_STAT_FREE = getF s (SWC_POOL_STAT d pool) SWC_POOL_STAT_FREE - 1
        ∧ t.net.ports = s.net.ports ∧ { t with net := s.net, csr := s.csr } = s)
  ∧ (∀ (d : Die) (pool : Fin 3) (r : Fin 37) (s : State) (w : BufWait) (rest : List BufWait), running s = true →
      grantOrder s d pool = w :: rest →
      (w.req ≠ r.val → exec (.bufferGrant d pool r) s = .next s)
      ∧ (w.req = r.val → w.credit = none → ∃ t, exec (.bufferGrant d pool r) s = .next t
        ∧ t.net.waits = s.net.waits.erase w ∧ t.net.hand = s.net.hand ++ [(d.val, r.val, pool.val)]
        ∧ getF t (SWC_POOL_STAT d pool) SWC_POOL_STAT_FREE = getF s (SWC_POOL_STAT d pool) SWC_POOL_STAT_FREE - 1
        ∧ CsrKept s t [SWC_QUOTA d r pool, SWC_POOL_STAT d pool, SWC_STATUS d]
        ∧ t.net.bits = (setBit s d pool).net.bits
        ∧ { t.net with waits := s.net.waits, hand := s.net.hand, bits := s.net.bits } = s.net
        ∧ { t with net := s.net, csr := s.csr } = s)
      ∧ (∀ a v, w.req = r.val → w.credit = some (a, v) → ∃ t, exec (.bufferGrant d pool r) s = .next (resumeGrants t d r)
        ∧ (a < 1024 → port t a = { port s a with
            granted := incAt (port s a).granted (3 * v + pool), owed := (port s a).owed ++ [(v, 0, pool.val)] })
        ∧ (1024 ≤ a → meshCredits t a v pool = meshCredits s a v pool + 1 ∧ port t a = port s a)
        ∧ (∀ o, o ≠ a → port t o = port s o)
        ∧ t.net.waits = s.net.waits.erase w ∧ t.net.bits = (setBit s d pool).net.bits
        ∧ getF t (SWC_POOL_STAT d pool) SWC_POOL_STAT_FREE = getF s (SWC_POOL_STAT d pool) SWC_POOL_STAT_FREE - 1
        ∧ { t.net with waits := s.net.waits, ports := s.net.ports, bits := s.net.bits, meshOut := s.net.meshOut } = s.net
        ∧ { t with net := s.net, csr := s.csr } = s))

/-- R149, R154, R166, R168, R250: a DATA packet into a region of its job writes exactly its bytes and applies its add, or
has the add refused; one outside is refused with REGION. A SLOT packet is written into its token's entry, held while that
is occupied, and refused with SLOT where it does not fit. A RADD adds, or is counted and raises a NOTE fault. -/
def Sys2Proof.Machine.Claims.DeliveredPacketsTakeEffect : Prop :=
  ∀ (k : Nat) (s : State) (x : Pkt),
    (∀ st a d, Arrived s k x 0 → x.p.fence = false → inRegion s x.p.job x.p.offset x.p.payload.length true = true →
        locateSpan s none x.p.offset x.p.payload.length = some (st, a) → sleeper s st = none →
        WritesWhole s a x.p.payload.length → d = deliverDie s x →
        (∀ u, u = (if x.p.syncEn then latchWaits s else s) →
          (x.p.syncEn = true → TakesAdds s x.p.syncObj x.p.job ∧ slotOfArrive s x.p.syncObj = none) →
          ∃ t, exec (.dataPacket k) s = .next t ∧ rdBytes t a x.p.payload.length = x.p.payload ∧ MemKept s t a x.p.payload.length
            ∧ obj t x.p.syncObj = (if x.p.syncEn then addTo (obj s x.p.syncObj) 1 else obj s x.p.syncObj)
            ∧ ObjsKept s t [x.p.syncObj] ∧ Consumed s t k d x
            ∧ { t with mem := u.mem, bad := u.bad, objs := u.objs, net := u.net, csr := u.csr } = u)
        ∧ (x.p.syncEn = true → ¬ TakesAdds s x.p.syncObj x.p.job →
          ∃ t, exec (.dataPacket k) s = .next t ∧ rdBytes t a x.p.payload.length = x.p.payload ∧ MemKept s t a x.p.payload.length
            ∧ Consumed s t k d x ∧ AddRefused s t x.p.syncObj x.p.job
            ∧ { t with mem := s.mem, bad := s.bad, net := s.net, csr := s.csr, flt := s.flt, out := s.out } = s))
    ∧ (Arrived s k x 0 → x.p.fence = false → (inRegion s x.p.job x.p.offset x.p.payload.length true = false
          ∨ locateSpan s none x.p.offset x.p.payload.length = none) →
        ∃ t, exec (.dataPacket k) s = .next t ∧ PacketRefused s t k x 6 ∧ { t with net := s.net, csr := s.csr } = s)
    ∧ (∀ st a q, Arrived s k x 2 → x.p.fence = false → x.p.slotEn = true → slotValid s x.p.slot = true → slotJob s x.p.slot = x.p.job →
        x.p.offset + x.p.payload.length ≤ (slotWord s x.p.slot 4) / 2 ^ 32 % 2 ^ 24 →
        locate s none (slotWord s x.p.slot 3 % 2 ^ 48) = some (st, a) → q = slotQueue s x.p.slot →
        (q.arrived - q.freed < slotWord s x.p.slot 3 / 2 ^ 48 % 2 ^ 8 → sleeper s st = none →
          WritesWhole s (queueKey s x.p.slot q.arrived x.p.offset) x.p.payload.length →
          ∃ t, exec (.slotPacket k) s = .next t
            ∧ rdBytes t (queueKey s x.p.slot q.arrived x.p.offset) x.p.payload.length = x.p.payload
            ∧ MemKept s t (queueKey s x.p.slot q.arrived x.p.offset) x.p.payload.length
            ∧ { slotQueue t x.p.slot with reqTag := q.reqTag } = { q with fill := max q.fill (x.p.offset + x.p.payload.length) }
            ∧ Consumed s t k x.die x
            ∧ { t with mem := s.mem, bad := s.bad, slotQ := s.slotQ, net := s.net, csr := s.csr } = s)
        ∧ (slotWord s x.p.slot 3 / 2 ^ 48 % 2 ^ 8 ≤ q.arrived - q.freed → ∃ t, exec (.slotPacket k) s = .next t
            ∧ localPkt t k = some { x with hold := 2, since := now s }
            ∧ (∀ p, x.port = some p → (x.vc, 2) ∈ (port t p).withheld)
            ∧ getF t (SWC_CNT_SLOT_HOLD x.die) SWC_CNT_SLOT_HOLD_COUNT
                = min (getF s (SWC_CNT_SLOT_HOLD x.die) SWC_CNT_SLOT_HOLD_COUNT + 1) (2 ^ SWC_CNT_SLOT_HOLD_COUNT.w - 1)
            ∧ { t with net := s.net, csr := s.csr } = s))
    ∧ (Arrived s k x 2 → x.p.fence = false → (x.p.slotEn = false ∨ slotValid s x.p.slot = false ∨ slotJob s x.p.slot ≠ x.p.job
          ∨ (slotWord s x.p.slot 4) / 2 ^ 32 % 2 ^ 24 < x.p.offset + x.p.payload.length) →
        ∃ t, exec (.slotPacket k) s = .next t ∧ PacketRefused s t k x 7 ∧ { t with net := s.net, csr := s.csr } = s)
    ∧ (∀ o u, Arrived s k x 3 → x.p.fence = false → x.p.syncEn = true → o = x.p.syncObj → u = latchWaits s →
        (TakesAdds s o x.p.job → slotOfArrive s o = none → ∃ t, exec (.radd k) s = .next t
            ∧ obj t o = addTo (obj s o) (ofBytes (x.p.payload.take 8)) ∧ ObjsKept s t [o] ∧ Consumed s t k x.die x
            ∧ { t with objs := u.objs, net := u.net, csr := u.csr } = u)
        ∧ (¬ TakesAdds s o x.p.job → ∃ t, exec (.radd k) s = .next t ∧ Consumed s t k x.die x ∧ t.net.outbox = s.net.outbox
            ∧ AddRefused s t o x.p.job ∧ { t with net := s.net, csr := s.csr, flt := s.flt, out := s.out } = s))

/-- R281–R283: a fenced packet whose predecessors have not all been delivered is held and counted, and opens its stream's
entry where there is room, or is the latest packet of it; one whose predecessors have been delivered is delivered and its stream's count lowered by
theirs, and one of a logical core on VC4 is acknowledged with a CTRL packet to its sender; a hold that expires loses the
packet and raises a STEP fault FENCE_TIMEOUT for its job; a stream's entry closes 2 ms after its last packet. -/
def Sys2Proof.Machine.Claims.FencesHoldAndExpire : Prop :=
  (∀ (k : Nat) (s : State) (x : Pkt) (d : Nat) (c : CtrlContent) (i : Instr) (ty : Nat), (i, ty) ∈ fencedForms k c →
      Arrived s k x ty → x.p.fence = true → d = deliverDie s x →
      ((∃ e, streamFind s d (streamOf x.p) = some e ∧ e.c < x.p.fcount)
        ∨ (streamFind s d (streamOf x.p) = none ∧ x.p.fcount ≠ 0)) →
      ∃ t, exec i s = .next t
        ∧ localPkt t k = some { x with
            hold := if (streamFind s d (streamOf x.p)).isSome || streamRoom s d then 3 else 6, die := d, since := now s }
        ∧ (∀ e, streamFind s d (streamOf x.p) = some e → streamFind t d (streamOf x.p) = some { e with last := now s })
        ∧ (streamFind s d (streamOf x.p) = none → streamRoom s d = true →
            streamFind t d (streamOf x.p) = some ⟨d, streamOf x.p, 0, now s⟩)
        ∧ (streamFind s d (streamOf x.p) = none → streamRoom s d = false → getF t HUB_RT_STATUS HUB_RT_STATUS_FENCE_FULL_EVENT = 1)
        ∧ getF t HUB_CNT_FENCE_HOLD HUB_CNT_FENCE_HOLD_COUNT
            = min (getF s HUB_CNT_FENCE_HOLD HUB_CNT_FENCE_HOLD_COUNT + 1) (2 ^ HUB_CNT_FENCE_HOLD_COUNT.w - 1)
        ∧ CsrKept s t [HUB_CNT_FENCE_HOLD, HUB_RT_STATUS] ∧ { t with net := s.net, csr := s.csr } = s)
  ∧ (∀ (k : Nat) (s : State) (x : Pkt) (st : Store) (a d : Nat) (e : StreamEnt), Arrived s k x 0 → x.p.fence = true →
      inRegion s x.p.job x.p.offset x.p.payload.length true = true →
      locateSpan s none x.p.offset x.p.payload.length = some (st, a) → sleeper s st = none →
      WritesWhole s a x.p.payload.length → x.p.syncEn = false → d = deliverDie s x →
      streamFind s d (streamOf x.p) = some e → x.p.fcount ≤ e.c →
      ∃ t, exec (.dataPacket k) s = .next t ∧ localPkt t k = none ∧ rdBytes t a x.p.payload.length = x.p.payload
        ∧ (x.p.fcount < e.c → streamFind t d (streamOf x.p) = some ⟨d, streamOf x.p, e.c - x.p.fcount, now s⟩)
        ∧ (x.p.fcount = e.c → fenceHeld s d (streamOf x.p) = false → streamFind t d (streamOf x.p) = none)
        ∧ (x.p.vc = 4 → x.p.origin < 64 → ∀ j, job s x.p.job = some j → ∃ y b, t.net.outbox = s.net.outbox ++ [y]
            ∧ y.p = mkPacket { type := 4, vc := 6, job := x.p.job, src := j.rank.toNat, dst := x.p.src, origin := 0x0200,
                               birth := (now s).toNat % 2 ^ 40 } b))
  ∧ (∀ (k : Nat) (s : State) (x : Pkt), running s = true → heldPkt s k = some x → x.owner = none → x.die < 4 → HoldsBuf s x →
      (∀ y ∈ s.net.locals ++ s.net.ports.flatMap (fun e => e.2.q),
        y.no = k ∨ (y.hold ≠ 4 ∧ (y.hold = 3 → streamOf y.p ≠ streamOf x.p))) →
      ∃ t, exec (.fenceHoldExpiry k) s = .next t ∧ heldPkt t k = none ∧ (x.whole = true → ∀ y ∈ t.net.locals, y.no ≠ k)
        ∧ t.ftu = { s.ftu with
            ft := max s.ftu.ft
              ((x.since + BitVec.ofNat 64 (getF s (SWC_FENCE_TIMEOUT 0) SWC_FENCE_TIMEOUT_VALUE * 1000)).toNat * 65536) }
        ∧ getF t HUB_CNT_FENCE_EXPIRED HUB_CNT_FENCE_EXPIRED_COUNT
            = min (getF s HUB_CNT_FENCE_EXPIRED HUB_CNT_FENCE_EXPIRED_COUNT + 1) (2 ^ HUB_CNT_FENCE_EXPIRED_COUNT.w - 1)
        ∧ getF t HUB_RT_STATUS HUB_RT_STATUS_FENCE_EXPIRED_EVENT = 1
        ∧ Raised { s with ftu := t.ftu } t (144 + x.die) 0x11 1 (BitVec.ofNat 16 x.p.job) 0
        ∧ { t with net := s.net, csr := s.csr, flt := s.flt, ftu := s.ftu, out := s.out } = s)
  ∧ (∀ (d : Die) (st : Stream) (s : State) (e : StreamEnt), running s = true → streamFind s d st = some e →
      ∃ t, exec (.streamEntryClose d st) s = .next t ∧ streamFind t d st = none
        ∧ (∀ d' st', (d', st') ≠ (d.val, st) → streamFind t d' st' = streamFind s d' st')
        ∧ t.ftu = { s.ftu with ft := max s.ftu.ft ((e.last + 2000000).toNat * 65536) }
        ∧ { t.net with streams := s.net.streams } = s.net ∧ { t with net := s.net, ftu := s.ftu } = s)

/-- R149, R154, R166, R168, R250, R281–R283: both parts hold: `DeliveredPacketsTakeEffect` and `FencesHoldAndExpire`. The
model's choices of log entries 35, 36 and 37 enter it. Each answers a next state with its effect: DATA_PACKET,
SLOT_PACKET, RADD, FENCE_HOLD_EXPIRY, STREAM_ENTRY_CLOSE. -/
def Obligations.PacketsAreDelivered : Prop :=
  DeliveredPacketsTakeEffect ∧ FencesHoldAndExpire

/-- R120, R149, R250, R281, R289: CTRL, MGMT and REFUSE packets are consumed, and each command answers a next state: an
acknowledgement of its stream's last fenced packet lets the stream go on, digests, statistics and a verdict enter their launch, a lost path stops its
job, a MGMT packet goes to the management firmware, and a REFUSE ends the step of its ORIGIN with REMOTE_REFUSED, or the
launch of a reduction engine, and of any other ORIGIN nothing. -/
def Sys2Proof.Machine.Claims.ManagementPacketsAreConsumed : Prop :=
  ∀ (k : Nat) (s : State) (x : Pkt), x.p.fence = false →
    (Arrived s k x 4 →
      (∃ t, exec (.ctrlPacket k .exchange) s = .next t ∧ Consumed s t k x.die x ∧ { t with net := s.net, csr := s.csr } = s)
      ∧ (∀ (l : LCore) (dst : BitVec 20) (birth : BitVec 40) (st : Stream), (∀ n, coreOf s l = some n → dmaTaken (core s n) = none) →
          st = ⟨BitVec.ofNat 16 x.p.job, BitVec.ofNat 20 x.p.dst, BitVec.ofNat 16 l.val, dst, 4⟩ →
          ∃ t, exec (.ctrlPacket k (.fenceAck l dst birth)) s = .next t ∧ localPkt t k = none
            ∧ sender t st = (if (sender s st).unacked = some birth then { sender s st with unacked := none } else sender s st)
            ∧ (∀ st', st' ≠ st → sender t st' = sender s st') ∧ { t with net := s.net, csr := s.csr } = s)
      ∧ (∀ l y s1 b1 s2 b2, launch s l = some y → y.job = x.p.job →
          ∃ t, exec (.ctrlPacket k (.statistics l s1 b1 s2 b2)) s = .next (advanceLaunch t l) ∧ Consumed s t k x.die x
            ∧ launch t l = some { y with
                s1 := ⟨y.s1.sum + s1, y.s1.special || b1⟩, s2 := ⟨y.s2.sum + s2, y.s2.special || b2⟩, statIn := y.statIn + 1 })
      ∧ (∀ l y sh rep d, launch s l = some y → y.job = x.p.job → (∀ e ∈ y.digests, (e.1, e.2.1) ≠ (sh, rep)) →
          ∃ t, exec (.ctrlPacket k (.herdDigest l sh rep d)) s = .next (advanceLaunch t l) ∧ Consumed s t k x.die x
            ∧ launch t l = some { y with digests := y.digests ++ [(sh, rep, d)] })
      ∧ (∀ l y, launch s l = some y → y.job = x.p.job →
          ∃ t, exec (.ctrlPacket k (.herdVerdict l)) s = .next (advanceLaunch t l) ∧ Consumed s t k x.die x
            ∧ launch t l = some { y with agreed := true })
      ∧ (∀ j : BitVec 16, ∃ t,
          exec (.ctrlPacket k (.pathLost j)) s = .next (if (job s j.toNat).isSome then jobFault t 175 0x0D j.toNat 0 else t)
            ∧ Consumed s t k x.die x ∧ { t with net := s.net, csr := s.csr } = s))
    ∧ (Arrived s k x 6 → ∃ t, exec (.mgmtPacket k) s = .next t ∧ Consumed s t k x.die x
        ∧ t.out = .mgmt (Fin.ofNat 1024 (x.port.getD 0)) x.p :: s.out ∧ { t with net := s.net, csr := s.csr, out := s.out } = s)
    ∧ (Arrived s k x 7 →
        (∀ n : CoreId, refusedOrigin x.p < 64 → coreOf s (refusedOrigin x.p) = some n.val →
          (core s n).running = true → (core s n).trap = none → (core s n).job.toNat = refusedJob x.p →
          ∃ t, exec (.refusePacket k) s = .next t ∧ Consumed s t k x.die x ∧ Stopped s t n 5 (core s n).lastPc
            ∧ Raised s t n.val 0x01 1 (core s n).job 5 ∧ CoresKept s t [n.val]
            ∧ { t with cores := s.cores, net := s.net, csr := s.csr, flt := s.flt, out := s.out } = s)
        ∧ (∀ y, 0x0100 ≤ refusedOrigin x.p → refusedOrigin x.p ≤ 0x010F →
          s.coll.launches.find? (fun y => y.stage == 2 && y.job == refusedJob x.p && y.gid == refusedHdr x.p 271 256
            && y.seq == refusedHdr x.p 303 272) = some y →
          ∃ t st, exec (.refusePacket k) s = .next (finishLaunch t y st false) ∧ Consumed s t k x.die x
            ∧ st = 0x08 + (Config.freeWord s.free).toNat % 6 ∧ t.free = s.free + 1
            ∧ { t with net := s.net, csr := s.csr, free := s.free } = s)
        ∧ ((64 ≤ refusedOrigin x.p ∧ refusedOrigin x.p < 0x0100) ∨ 0x010F < refusedOrigin x.p →
          ∃ t, exec (.refusePacket k) s = .next t ∧ Consumed s t k x.die x ∧ { t with net := s.net, csr := s.csr } = s))

/-- R247, R254, R256, R268, R291, R293, R298, R327: the packet that goes first of the classes whose gate is open long enough
and that tokens, throttle and credit let through starts to transmit, and the command answers a next state: framed with the
port's sequence number and one of the partner's credits, kept for replay, its port busy for its wire time; its end word
follows at once, or waits for that of the link which brings the packet. A mirror copy leaves an Ethernet port in its own
frame. With none eligible nothing leaves. -/
def Sys2Proof.Machine.Claims.TheOldestEligiblePacketLeaves : Prop :=
  ∀ (q : Port) (s : State) (x : Pkt) (code : Nat), running s = true → portUp s q = true → awake s (96 + portBundle q) = true →
    (port s q).cut = none → (port s q).q = [x] → x.hold = 0 → x.deferred = false → x.vc < 8 → x.twin < 2 →
    (port s q).busyUntil.toNat ≤ (now s).toNat → gateLen s q = 0 → isSet s (TSC_SHAPER q x.vc) TSC_SHAPER_EN = false →
    isSet s (TSC_THROTTLE q) TSC_THROTTLE_EN = false → portMgmtOnly s q = false → (port s q).replay = [] →
    x.p.payload.length ≤ 2048 → NoMirror s → x.owner = none → x.dest = .port q.val false → pktTime s q x.p ≤ 2 ^ 56 →
    HoldsBuf s x →
    (copyFrame s q x.p = false → creditFor (port s q) x = some code → ∃ t p, exec (.packetTransmit q) s = .next t
      ∧ p = { convertOut (linkVersion s q) x.p with
          bvc := Fin.ofNat 8 x.vc, twin := x.twin == 1, credit := Fin.ofNat 4 code,
          age := if linkVersion s q < 0x50 then 0 else BitVec.ofNat 40 x.key, seq := (port s q).txSeq }
      ∧ .packet q p ∈ t.out ∧ (portEth s q = true → .pfpFrame q (linkAddr s LNK_ETH_PEER q) (linkAddr s LNK_ETH_ADDR q) (tagOf s q (some p.bvc)) ∈ t.out)
      ∧ (x.whole = true → (port t q).cut = none ∧ ∃ e : Word, .word q e ∈ t.out ∧ e.toNat % 16 = 2)
      ∧ (x.whole = false → (port t q).cut = some (x, p))
      ∧ (port t q).q = [] ∧ (port t q).replay = [((port s q).txSeq, p)] ∧ (port t q).txSeq = (port s q).txSeq + 1
      ∧ (port t q).busyUntil = now s + BitVec.ofNat 64 (cdiv (pktTime s q x.p) 65536)
      ∧ { t with net := s.net, csr := s.csr, pwr := s.pwr, flt := s.flt, out := s.out } = s)
    ∧ (copyFrame s q x.p = true → ∃ t a, exec (.packetTransmit q) s = .next t ∧ .copyFrame q a x.p.payload ∈ t.out
      ∧ a = ext (reg s (LNK_ETH_ADDR (portBundle q) (portLane q))) 0 48
      ∧ (port t q).q = [] ∧ (port t q).replay = [] ∧ (port t q).txSeq = (port s q).txSeq
      ∧ (port t q).busyUntil = now s + BitVec.ofNat 64 (cdiv (pktTime s q x.p) 65536)
      ∧ { t with net := s.net, csr := s.csr, pwr := s.pwr, flt := s.flt, out := s.out } = s)
    ∧ (copyFrame s q x.p = false → creditFor (port s q) x = none → ∃ t, exec (.packetTransmit q) s = .next t
      ∧ (port t q).q = [x] ∧ t.out = s.out ∧ { t.net with ports := s.net.ports } = s.net ∧ { t with net := s.net } = s)

/-- R120, R149, R250, R281, R289, R247, R254, R256, R268, R291, R293, R298, R327: both parts hold:
`ManagementPacketsAreConsumed` and `TheOldestEligiblePacketLeaves`. The model's choices of log entries 37, 43, 86 and 87
enter it. Each answers a next state with its effect: CTRL_PACKET, MGMT_PACKET, REFUSE_PACKET, PACKET_TRANSMIT. -/
def Obligations.PacketsLeaveOrAreConsumed : Prop :=
  ManagementPacketsAreConsumed ∧ TheOldestEligiblePacketLeaves

namespace Sys2Proof.Machine.Claims

/-! ### Links and discovery (R279, R296, R322–R343, R412, R413) -/

/-- An EOP or IDLE word without NAK has reached a port (Table 12.4): the packets it acknowledges leave the replay buffer,
its credits are added, and low-power idle ends. -/
def WordTaken (s t : State) (q : Port) (w : Word) : Prop :=
  (∀ s0 p rest k, (port s q).replay = (s0, p) :: rest → k = (w.extractLsb' 6 12 - s0).toNat →
      (port t q).replay = (if k ≤ rest.length then ((s0, p) :: rest).drop (k + 1) else (s0, p) :: rest)
      ∧ (k ≤ rest.length → (port t q).retries = 0 ∧ (port t q).replayAt = now s ∧ getF t (pLink q) LNK_PORT_LINK_RETRY_RUN = 0))
    ∧ (∀ v c n, v = (w.extractLsb' 18 3).toNat → c = (w.extractLsb' 22 2).toNat → n = (w.extractLsb' 24 8).toNat →
        (c < 3 → (port t q).shared = (port s q).shared.modify (3 * v + c) (· + n) ∧ (port t q).ded = (port s q).ded)
        ∧ (c = 3 → (port t q).ded = (port s q).ded.modify (2 * v + (w.extractLsb' 21 1).toNat) (· + n)
            ∧ (port t q).shared = (port s q).shared))
    ∧ (port t q).lpi = 0
    ∧ { port t q with
        replay := (port s q).replay, retries := (port s q).retries, replayAt := (port s q).replayAt,
        shared := (port s q).shared, ded := (port s q).ded, lpi := (port s q).lpi } = port s q

/-- The frame of one port's link layer: that port, one register of it and nothing else. -/
def PortFrame (s t : State) (q : Port) (offs : List Nat) : Prop :=
  (∀ o, o ≠ q.val → port t o = port s o) ∧ { t.net with ports := s.net.ports } = s.net ∧ CsrKept s t offs
    ∧ { t with net := s.net, csr := s.csr } = s

/-- A port asks for a packet again, and nothing else changes. -/
def Naks (s t : State) (q : Port) : Prop :=
  port t q = { port s q with nakDue := true } ∧ PortFrame s t q []

/-- A port's link has gone down (R255, R279, R326): it trains again, unversioned and undiscovered, with nothing to replay
and no credit out; what the scheduled VCs had queued is lost, the rest waits. -/
def WentDown (s t : State) (q : Port) (st : Nat) : Prop :=
  portState t q = st ∧ getF t (pStat q) LNK_PORT_STATUS_DOWN_EVENT = 1 ∧ getF t (pStat q) LNK_PORT_STATUS_VERSION = 0
    ∧ getF t (pStat q) LNK_PORT_STATUS_DISC = 0
    ∧ getF t (LNK_CNT_DOWN (portBundle q) (portLane q)) LNK_CNT_DOWN_COUNT
        = min (getF s (LNK_CNT_DOWN (portBundle q) (portLane q)) LNK_CNT_DOWN_COUNT + 1) (2 ^ LNK_CNT_DOWN_COUNT.w - 1)
    ∧ (port t q).replay = [] ∧ (port t q).txSeq = 0 ∧ (port t q).rxSeq = 0 ∧ (port t q).downAt = some (now s)
    ∧ (port t q).statement = none ∧ (port t q).granted = List.replicate 24 0 ∧ (port t q).shared = List.replicate 24 0
    ∧ (port t q).q.map (fun y => y.no) = ((port s q).q.filter (fun y => !(y.vc ≤ 3 || y.vc == 5))).map (fun y => y.no)
    ∧ { t with net := s.net, csr := s.csr, out := s.out } = s

/-- No job uses a port, nothing is half received or half sent there, and the packets queued there hold buffers of their
own, which they occupy. -/
def LosesQuietly (s : State) (q : Port) : Prop :=
  jobsOnPort s q = [] ∧ (port s q).cut = none ∧ partials s q = []
    ∧ (∀ y ∈ (port s q).q, y.owner = none ∧ HoldsBuf s y ∧ ∀ b, y.buf = some b → bitOf b.die b.pool b.idx ∈ s.net.occ)
    ∧ ((port s q).q.filterMap (fun y => y.buf.map (fun b => bitOf b.die b.pool b.idx))).Nodup

/-- A packet's end word has come, stomped or not; after a failed LCRC its buffer is the replay's (R256, R258, R325). -/
def endMark (y : Pkt) (stomp keep : Bool) (x : Pkt) : Pkt :=
  if x.no = y.no then
    { x with whole := true, p := { x.p with stomp := x.p.stomp || stomp }, ingress := none,
             buf := if keep || x.ingress.isSome then x.buf else none }
  else x

/-- A packet that comes in goes on once it is whole: it is not to be refused or dropped, and has not crossed the die mesh. -/
def GoesOn (y : Pkt) : Prop := (∀ c, y.dest ≠ .refuse c) ∧ y.dest ≠ .drop ∧ y.ingress = none

/-- No transmission waits for the end word of a packet. -/
def NoneCut (s : State) (y : Pkt) : Prop := ∀ e ∈ s.net.ports, ∀ c, e.2.cut = some c → c.1.no ≠ y.no

/-- Between `s` and `u` port `q` has accepted packet `y` whole: it is marked wherever it stands, and acknowledged. -/
def Accepts (s u : State) (q : Port) (y : Pkt) (stomp : Bool) : Prop :=
  u.net.locals = s.net.locals.map (endMark y stomp true) ∧ u.net.outbox = s.net.outbox.map (endMark y stomp true)
    ∧ (∀ o, (port u o).q = (port s o).q.map (endMark y stomp true))
    ∧ { port u q with q := (port s q).q, midway := (port s q).midway, ackDue := (port s q).ackDue } = port s q
    ∧ (port u q).ackDue = true ∧ (port u q).midway = false
    ∧ (stomp = true → y.p.stomp = false → getF u (SWC_CNT_STOMP y.die) SWC_CNT_STOMP_COUNT
        = min (getF s (SWC_CNT_STOMP y.die) SWC_CNT_STOMP_COUNT + 1) (2 ^ SWC_CNT_STOMP_COUNT.w - 1))
    ∧ (stomp = false → u.csr = s.csr) ∧ { u with net := s.net, csr := s.csr } = s

/-- The work list of the SEC unit, and nothing else, has changed. -/
def WorkFrame (s t : State) : Prop := { t.sec with work := s.sec.work } = s.sec ∧ { t with sec := s.sec } = s

end Sys2Proof.Machine.Claims

/-- R256, R258, R323–R326, R412: IDLE and EOP words bring acknowledgement and credits, an EOP ends its packet, whole or
stomped, to go on or to be refused, and a transmission that waited for it; corrected codewords are counted; a word,
codeword or packet that fails its check is asked for again, the packet's copy ending stomped and its sequence number
expected anew; LPI words set the partner's idle state; a replay timeout sends every unacknowledged packet again, the
eighth finds the link down. A link that ends trains again. The model's choice of log entry 38 enters it. Each answers a
next state with its effect: IDLE, LPI, EOP, LPI_HOLD_SEND, CONTROL_FRAME, REPLAY_TIMEOUT, LINK_DOWN. -/
def Obligations.LinkWordsAndReplay : Prop :=
  ∀ (q : Port) (s : State) (w : Word), running s = true → portUp s q = true →
    (∀ wo, wo = wcrcOk w → (wo = true → (w.extractLsb' 0 4).toNat = 3 → w.getLsbD 5 = false →
        ∃ t, exec (.idle q w) s = .next t ∧ WordTaken s t q w ∧ PortFrame s t q [pLink q])
      ∧ (wo = false ∨ (w.extractLsb' 0 4).toNat ≠ 3 → ∃ t, exec (.idle q w) s = .next t ∧ Naks s t q)
      ∧ (wo = true → (w.extractLsb' 0 4).toNat = 5 → 0x50 ≤ getF s (pStat q) LNK_PORT_STATUS_VERSION → (port s q).replay = [] →
        ∃ t, exec (.lpi q w) s = .next t ∧ PortFrame s t q []
          ∧ (port t q).lpi = [0, 1, 2, 0].getD (w.extractLsb' 4 2).toNat 0
          ∧ { port t q with lpi := (port s q).lpi, replayAt := (port s q).replayAt } = port s q)
      ∧ (wo = false ∨ (w.extractLsb' 0 4).toNat ≠ 5 ∨ getF s (pStat q) LNK_PORT_STATUS_VERSION < 0x50 →
        ∃ t, exec (.lpi q w) s = .next t ∧ Naks s t q))
    ∧ (∀ seq, (w.extractLsb' 0 4).toNat = 2 → w.getLsbD 5 = false →
        (findReceived s q seq = none →
          ∃ t, exec (.eop q w seq .good) s = .next t ∧ WordTaken s t q w ∧ PortFrame s t q [pLink q])
        ∧ (∀ y, findReceived s q seq = some y → y.die < 4 →
          (NoneCut s y → GoesOn y → ∃ t u, exec (.eop q w seq .good) s = .next t ∧ Accepts s u q y (w.getLsbD 4) ∧ WordTaken u t q w
            ∧ PortFrame u t q [pLink q])
          ∧ (∀ c, c < 8 → NoneCut s y → y.dest = .refuse c → y.ingress = none → y.owner = none → HoldsBuf s y → w.getLsbD 4 = false →
              s.net.locals.find? (fun x => x.no == y.no) = some y → (∀ x ∈ s.net.outbox, x.no ≠ y.no) →
              (∀ a, y.port = some a → a < 1024) → ∃ t, exec (.eop q w seq .good) s = .next t ∧ PacketRefused s t y.no y c
                ∧ (port t q).ackDue = true ∧ (port t q).midway = false ∧ { t with net := s.net, csr := s.csr } = s)
          ∧ (∀ (r : Port) c, s.net.ports.find? (fun e => match e.2.cut with | some (k, _) => k.no == y.no | none => false)
                = some (r.val, port s r) → (port s r).cut = some c →
              ∃ t, exec (.eop q w seq .good) s = .next t ∧ ∃ e, .word r e ∈ t.out)))
    ∧ (∀ seq, (w.extractLsb' 0 4).toNat ≠ 2 → ∃ t, exec (.eop q w seq .good) s = .next t ∧ Naks s t q)
    ∧ (∀ seq c, c = LNK_CNT_LCRC (portBundle q) (portLane q) →
        (findReceived s q seq = none → ∃ t, exec (.eop q w seq .badLcrc) s = .next t
          ∧ port t q = { port s q with nakDue := true }
          ∧ getF t c LNK_CNT_LCRC_COUNT = min (getF s c LNK_CNT_LCRC_COUNT + 1) (2 ^ LNK_CNT_LCRC_COUNT.w - 1)
          ∧ PortFrame s t q [c])
        ∧ (∀ y, findReceived s q seq = some y → NoneCut s y → GoesOn y → ∃ t, exec (.eop q w seq .badLcrc) s = .next t
          ∧ (port t q).rxSeq = seq ∧ (port t q).nakDue = true ∧ (port t q).midway = false
          ∧ t.net.locals = s.net.locals.map (endMark y true false)
          ∧ (∀ o, (port t o).q = (port s o).q.map (endMark y true false))
          ∧ (∀ b a v tw k, y.buf = some b → b.back = some (a, v, tw, k) →
              (k = 3 → (port t q).dedOut = (port s q).dedOut.modify (2 * v + tw) (· + 1))
              ∧ (k ≠ 3 → (port t q).granted = (port s q).granted.modify (3 * v + k) (· + 1)))
          ∧ getF t c LNK_CNT_LCRC_COUNT = min (getF s c LNK_CNT_LCRC_COUNT + 1) (2 ^ LNK_CNT_LCRC_COUNT.w - 1)
          ∧ CsrKept s t [c] ∧ { t with net := s.net, csr := s.csr } = s))
    ∧ (∀ seq c, c = LNK_CNT_FEC (portBundle q) (portLane q) → ∃ t, exec (.eop q w seq .uncorrectable) s = .next t
        ∧ port t q = { port s q with nakDue := true }
        ∧ getF t c LNK_CNT_FEC_UNCORRECTABLE
            = min (getF s c LNK_CNT_FEC_UNCORRECTABLE + 1) (2 ^ LNK_CNT_FEC_UNCORRECTABLE.w - 1)
        ∧ PortFrame s t q [c])
    ∧ (∀ seq c n, c = LNK_CNT_FEC (portBundle q) (portLane q) → (w.extractLsb' 0 4).toNat = 2 → w.getLsbD 5 = false →
        findReceived s q seq = none → ∃ t, exec (.eop q w seq (.corrected n)) s = .next t ∧ WordTaken s t q w
        ∧ getF t c LNK_CNT_FEC_CORRECTED = min (getF s c LNK_CNT_FEC_CORRECTED + n.toNat) (2 ^ LNK_CNT_FEC_CORRECTED.w - 1)
        ∧ PortFrame s t q [pLink q, c])
    ∧ (getF s (pStat q) LNK_PORT_STATUS_VERSION < 0x50 → exec (.lpiHoldSend q) s = .next s)
    ∧ (0x50 ≤ getF s (pStat q) LNK_PORT_STATUS_VERSION → domState s (96 + portBundle q) = 2 → 96 + portBundle q ∉ s.pwr.waking →
        ∃ t, exec (.lpiHoldSend q) s = .next t ∧ t.out = .word q (lpiWord (port s q) 2) :: s.out
          ∧ port t q = { port s q with ackDue := false } ∧ (∀ o, o ≠ q.val → port t o = port s o)
          ∧ { t with net := s.net, out := s.out } = s)
    ∧ (portEth s q = true → wordDue (port s q) = true →
        ∃ t, exec (.controlFrame q) s = .next t ∧ t.out = .word q (idleWord (port s q))
              :: .pfpFrame q (linkAddr s LNK_ETH_PEER q) (linkAddr s LNK_ETH_ADDR q) (tagOf s q none) :: s.out
          ∧ (port t q).ackDue = false ∧ (port t q).nakDue = false ∧ (port t q).q = (port s q).q
          ∧ (∀ o, o ≠ q.val → port t o = port s o) ∧ { t with net := s.net, out := s.out } = s)
    ∧ (∀ s0 p, (port s q).replay = [(s0, p)] → (port s q).lpi = 0 → (port s q).retries < 7 →
        ∃ t, exec (.replayTimeout q) s = .next t ∧ .packet q p ∈ t.out ∧ (port t q).replay = [(s0, p)]
          ∧ (port t q).retries = (port s q).retries + 1
          ∧ getF t (LNK_CNT_RETRY (portBundle q) (portLane q)) LNK_CNT_RETRY_COUNT
              = min (getF s (LNK_CNT_RETRY (portBundle q) (portLane q)) LNK_CNT_RETRY_COUNT + 1) (2 ^ LNK_CNT_RETRY_COUNT.w - 1)
          ∧ Raised { s with ftu := t.ftu } t (112 + portBundle q) 0x09 0 0xFFFF (BitVec.ofNat 32 q.val)
          ∧ { t with net := s.net, csr := s.csr, flt := s.flt, ftu := s.ftu, out := s.out } = s)
    ∧ (LosesQuietly s q → (port s q).replay ≠ [] → (port s q).lpi = 0 → 7 ≤ (port s q).retries →
        ∃ t, exec (.replayTimeout q) s = .next t ∧ WentDown { s with ftu := t.ftu } t q 1)
    ∧ (LosesQuietly s q → ∃ t, exec (.linkDown q) s = .next t ∧ WentDown s t q 1)

/-- R322, R326, R328–R331, R343, R279, R296, R413: training ends in the INIT exchange, which settles version, round trip
and ADV and brings the link up; 16 failures fail the port. A link down for 10 ms leaves its direction's candidates, eight
such losses are noted, an optical fault darkens its bundle, and an Ethernet frame is policed, passed on or discarded. -/
def Sys2Proof.Machine.Claims.LinksComeUpAndFail : Prop :=
  ∀ (q : Port) (s : State), running s = true →
    (portState s q = 1 →
      (∀ rev, ∃ t, exec (.linkTrainingDone q true rev) s = .next t ∧ portState t q = 2
          ∧ getF t (pStat q) LNK_PORT_STATUS_REVERSED = (if rev then 1 else 0)
          ∧ .word q (initWord 1 0x30 (getF s (pCtrl q) LNK_PORT_CTRL_VER_MAX) (now s).toNat) ∈ t.out ∧ (port t q).fails = 0
          ∧ { t with net := s.net, csr := s.csr, boot := s.boot, out := s.out } = s)
      ∧ (∀ rev, ∃ t, exec (.linkTrainingDone q false rev) s = .next t
          ∧ port t q = { port s q with fails := (port s q).fails + 1 } ∧ PortFrame s t q [])
      ∧ (16 ≤ (port s q).fails → WakeAlarms s → s.pwr.starved = [] → ∃ t, exec (.portFailed q) s = .next t ∧ portState t q = 6
          ∧ Raised s t (112 + portBundle q) 0x0A 0 0xFFFF (BitVec.ofNat 32 q.val)
          ∧ { t with net := s.net, csr := s.csr, pwr := s.pwr, boot := s.boot, flt := s.flt, out := s.out } = s))
    ∧ (portState s q = 2 → ∃ t, exec (.linkDown q) s = .next t ∧ portState t q = 1 ∧ port t q = { port s q with initStep := 0 }
        ∧ { t with net := s.net, csr := s.csr, out := s.out } = s)
    ∧ (∀ w : Word, portState s q = 2 → (w.extractLsb' 0 4).toNat = 4 →
        ((w.extractLsb' 4 2).toNat = 1 →
          ∀ vmin vmax ver, vmin = (w.extractLsb' 6 8).toNat → vmax = (w.extractLsb' 14 8).toNat →
            ver = min (getF s (pCtrl q) LNK_PORT_CTRL_VER_MAX) vmax →
            (ver < 0x30 ∨ ver < vmin → ∃ t, exec (.init q w) s = .next t ∧ portState t q = 6
              ∧ { t with csr := s.csr, out := s.out } = s)
            ∧ (0x30 ≤ ver → vmin ≤ ver → ∃ t, exec (.init q w) s = .next t ∧ portState t q = 2
              ∧ (port t q).peerMax.toNat = vmax ∧ (port t q).peerMin.toNat = vmin
              ∧ t.out = .word q (initWord 2 0x30 (getF s (pCtrl q) LNK_PORT_CTRL_VER_MAX) (w.toNat / 2 ^ 32)) :: s.out
              ∧ { t with net := s.net, out := s.out } = s))
        ∧ ((w.extractLsb' 4 2).toNat = 2 → (port s q).initStep ≠ 0 →
            ∀ rtt, rtt = min 65535 (((now s).toNat % 2 ^ 32 + 2 ^ 32 - w.toNat / 2 ^ 32) % 2 ^ 32) →
            ∃ t, exec (.init q w) s = .next t ∧ getF t (pLink q) LNK_PORT_LINK_RTT = rtt
              ∧ getF t (pLink q) LNK_PORT_LINK_ADV
                  = min (getF s (LNK_BUNDLE_CTRL (portBundle q)) LNK_BUNDLE_CTRL_ADV_MAX)
                      (max 2 ((rtt * 25 * portLanes s q + 2111) / 2112)) % 2 ^ LNK_PORT_LINK_ADV.w
              ∧ (port t q).initStep = 2 ∧ CsrKept s t [pLink q] ∧ { t with net := s.net, csr := s.csr, out := s.out } = s)
        ∧ ((w.extractLsb' 4 2).toNat = 3 → (port s q).initStep = 2 → jobsOnPort s q = [] →
            (∀ y ∈ (port s q).q, expressible (min (getF s (pCtrl q) LNK_PORT_CTRL_VER_MAX) (port s q).peerMax.toNat) y.p = true) →
            ∃ t, exec (.init q w) s = .next t ∧ portState t q = 3
              ∧ getF t (pStat q) LNK_PORT_STATUS_VERSION = min (getF s (pCtrl q) LNK_PORT_CTRL_VER_MAX) (port s q).peerMax.toNat
              ∧ (port t q).txSeq = 0 ∧ (port t q).rxSeq = 0 ∧ (port t q).replay = [] ∧ (port t q).ded = List.replicate 16 1
              ∧ (∃ ch, t.sec = { s.sec with challenge := mapPut s.sec.challenge q ch } ∧ .statement q (ownStatement s) ch ∈ t.out)
              ∧ { t with net := s.net, csr := s.csr, out := s.out, sec := s.sec, free := s.free } = s))
    ∧ (∀ x d, (port s q).downAt = some x → portUp s q = false → (port s q).q = [] → crossingTo s q = [] → planDir s q = some d →
        ∃ t, exec (.rehash q) s = .next t ∧ (port t q).downAt = none
          ∧ reg t (HUB_RT_DOWN (q.val / 64)) = reg s (HUB_RT_DOWN (q.val / 64)) ||| (1 : Word) <<< (q.val % 64)
          ∧ t.ftu = { s.ftu with ft := max s.ftu.ft ((x + 10000000).toNat * 65536) }
          ∧ CsrKept s t [HUB_RT_DOWN (q.val / 64)] ∧ { t with net := s.net, csr := s.csr, ftu := s.ftu } = s)
    ∧ (8 ≤ s.net.losses.length → ∃ t, exec .lossLimit s = .next t
        ∧ getF t HUB_RT_STATUS HUB_RT_STATUS_LOSS_LIMIT_EVENT = 1 ∧ Raised s t 175 0x1D 0 0xFFFF 0
        ∧ CsrKept s t (HUB_RT_STATUS :: faultRegs 175 0) ∧ { t with csr := s.csr, flt := s.flt, out := s.out } = s)
    ∧ (∀ (site : Fin 16) (temp : Byte) (b : Nat), b = 8 + site.val →
        (isSet s (LNK_BUNDLE_STATUS b) LNK_BUNDLE_STATUS_OPT_PRESENT = true → (∀ p ∈ portsOf s b, portUp s p = false) →
          ∃ t, exec (.opticalFault site temp) s = .next t ∧ isSet t (LNK_OPT_CTRL b) LNK_OPT_CTRL_LASER_EN = false
            ∧ getF t (LNK_OPT_STATUS b) LNK_OPT_STATUS_TEMP = temp.toNat ∧ isSet t (LNK_OPT_STATUS b) LNK_OPT_STATUS_FAULT = true
            ∧ (∀ p ∈ portsOf s b, portState t p = 0) ∧ Raised s t (112 + b) 0x0B 2 0xFFFF 0 ∧ b ∈ t.net.dark
            ∧ { t.net with dark := s.net.dark } = s.net ∧ { t with net := s.net, csr := s.csr, flt := s.flt, out := s.out } = s)
        ∧ (∃ t, exec (.optFaultCleared site) s = .next t ∧ isSet t (LNK_OPT_STATUS b) LNK_OPT_STATUS_FAULT = false
            ∧ isSet t (LNK_BUNDLE_STATUS b) LNK_BUNDLE_STATUS_OPT_FAULT = false
            ∧ CsrKept s t [LNK_OPT_STATUS b, LNK_BUNDLE_STATUS b] ∧ { t with csr := s.csr } = s))
    ∧ (∀ b : Bundle, (domState s (96 + b) = 3 → 96 + b.val ∉ s.pwr.waking → WakeAlarms s → s.pwr.starved = [] →
        ∃ t, exec (.signalDetect b) s = .next t ∧ 96 + b.val ∈ t.pwr.waking
          ∧ getF t PWR_CNT_DEMAND PWR_CNT_DEMAND_COUNT
              = min (getF s PWR_CNT_DEMAND PWR_CNT_DEMAND_COUNT + 1) (2 ^ PWR_CNT_DEMAND_COUNT.w - 1)
          ∧ { t with csr := s.csr, pwr := s.pwr, net := s.net, out := s.out } = s)
        ∧ (domState s (96 + b) ≠ 3 → exec (.signalDetect b) s = .next s))
    ∧ (∀ (f : EthFrame) (d : Nat), portEth s q = true → d = LNK_ETH_DISCARD (portBundle q) (portLane q) →
        (f.fcsOk = false → ∃ t, exec (.ethernetFrame q f) s = .next t
          ∧ getF t d LNK_ETH_DISCARD_FCS = min (getF s d LNK_ETH_DISCARD_FCS + 1) (2 ^ LNK_ETH_DISCARD_FCS.w - 1)
          ∧ CsrKept s t [d] ∧ { t with csr := s.csr } = s)
        ∧ (f.fcsOk = true → ¬ (f.etherType = 0x88B6 ∧ f.toPort = true) →
            isSet s (LNK_ETH_CTRL (portBundle q) (portLane q)) LNK_ETH_CTRL_PTP_EN = false → ∃ t, exec (.ethernetFrame q f) s = .next t
          ∧ getF t d LNK_ETH_DISCARD_FRAMES = min (getF s d LNK_ETH_DISCARD_FRAMES + 1) (2 ^ LNK_ETH_DISCARD_FRAMES.w - 1)
          ∧ CsrKept s t [d] ∧ { t with csr := s.csr } = s)
        ∧ (f.fcsOk = true → f.etherType = 0x88B6 → f.toPort = true → isSet s (TSC_POLICER q f.vc) TSC_POLICER_EN = false →
            exec (.ethernetFrame q f) s = .next s)
        ∧ (f.fcsOk = true → ¬ (f.etherType = 0x88B6 ∧ f.toPort = true) →
            isSet s (LNK_ETH_CTRL (portBundle q) (portLane q)) LNK_ETH_CTRL_PTP_EN = true →
            (f.ptpAddressed = true ∨ (f.etherType = 0x88F7 ∧ f.toPort = true)) → ∃ t, exec (.ethernetFrame q f) s = .next t
          ∧ t.out = .ptp q :: s.out ∧ { t with out := s.out } = s))

/-- R334–R337: a partner's statement is judged against the plan: an endpoint under policy ANY at once, any other once its
statement and its proof have verified; the statement of a device that is known counts as verified. A partner that fails to verify is quarantined as BAD, one that the plan does not
expect as UNPLANNED or MISMATCH, and a match makes the port ACTIVE. No match in time flags the neighbour missing. -/
def Sys2Proof.Machine.Claims.DiscoveryDecidesEachPort : Prop :=
  ∀ (q : Port) (s : State), running s = true →
    (∀ (st : Statement) (ch : BitVec 128), portState s q = 3 →
      (st.kind = 3 → expectAt s q = .endpointAny → quiesced s 0 (portBundle q) = false →
        (∀ e ∈ (port s q).bound, e.2 = st.deviceId) →
        ∃ t, exec (.discoveryStatement q st ch) s = .next t ∧ portState t q = 4
          ∧ getF t (pStat q) LNK_PORT_STATUS_DISC = 1 ∧ getF t (pStat q) LNK_PORT_STATUS_UP_EVENT = 1
          ∧ reg t (LNK_PORT_PEER (portBundle q) (portLane q)) = st.deviceId
          ∧ { t with net := s.net, csr := s.csr, out := s.out } = s)
      ∧ (st.kind = 1 → s.sec.known.any (fun k => k.deviceId == st.deviceId && k.nonce == st.nonce) = false →
        ∃ t, exec (.discoveryStatement q st ch) s = .next t ∧ portState t q = 3
          ∧ t.sec.work = s.sec.work ++ [.statement q st, .signProof q]
          ∧ port t q = { port s q with statement := some st, challenge := some ch, stmtOk := false }
          ∧ { t with net := s.net, sec := s.sec } = s)
      ∧ (∀ k, st.kind = 1 → s.sec.known.find? (fun k => k.deviceId == st.deviceId && k.nonce == st.nonce) = some k →
        ∃ t, exec (.discoveryStatement q st ch) s = .next t ∧ portState t q = 3 ∧ t.sec.work = s.sec.work ++ [.signProof q]
          ∧ port t q = { port s q with statement := some { k with port := st.port }, challenge := some ch, stmtOk := true }
          ∧ { t with net := s.net, sec := s.sec } = s)
      ∧ (st.kind = 3 → expectAt s q = .none →
        ∃ t, exec (.discoveryStatement q st ch) s = .next t ∧ portState t q = 5 ∧ getF t (pStat q) LNK_PORT_STATUS_DISC = 2
          ∧ Raised s t (112 + portBundle q) 0x0C 0 0xFFFF (BitVec.ofNat 32 (q.val + 2 * 2 ^ 16))
          ∧ { t with net := s.net, csr := s.csr, flt := s.flt, out := s.out } = s))
    ∧ (portState s q = 3 → (port s q).statement.isSome = true → ∃ t, exec (.linkProof q) s = .next t
        ∧ t.sec.work = s.sec.work ++ [.proof q] ∧ WorkFrame s t)
    ∧ (.signProof q ∈ s.sec.work → portUp s q = true → ∃ t, exec (.linkProofSigned q) s = .next t
        ∧ t.sec.work = s.sec.work.erase (.signProof q)
        ∧ t.out = .linkProof q ((port s q).challenge.getD 0) (deviceId s) (Config.statementDigest (ownStatement s)) :: s.out
        ∧ { t with sec := s.sec, out := s.out } = s)
    ∧ (∀ (st : Statement) (c : SigCheck) (pf : Bool), s.sec.work.find? SecWork.verifies = some (.statement q st) → st.kind = 1 →
        portState s q = 3 → (port s q).statement = some st →
        (statementOk s st c = true → ∃ t, exec (.verificationComplete c pf) s = .next t ∧ t.sec.known = s.sec.known ++ [st]
          ∧ port t q = { port s q with stmtOk := true } ∧ portState t q = 3
          ∧ getF t SEC_CNT_VERIFY SEC_CNT_VERIFY_ACCEPTED
              = min (getF s SEC_CNT_VERIFY SEC_CNT_VERIFY_ACCEPTED + 1) (2 ^ SEC_CNT_VERIFY_ACCEPTED.w - 1)
          ∧ { t with net := s.net, csr := s.csr, sec := s.sec } = s)
        ∧ (statementOk s st c = false → wantsNeighbour (expectAt s q) = false →
          ∃ t, exec (.verificationComplete c pf) s = .next t ∧ portState t q = 5 ∧ getF t (pStat q) LNK_PORT_STATUS_DISC = 5
          ∧ getF t SEC_CNT_VERIFY SEC_CNT_VERIFY_REJECTED
              = min (getF s SEC_CNT_VERIFY SEC_CNT_VERIFY_REJECTED + 1) (2 ^ SEC_CNT_VERIFY_REJECTED.w - 1)
          ∧ Raised s t (112 + portBundle q) 0x0C 0 0xFFFF (BitVec.ofNat 32 (q.val + 5 * 2 ^ 16))
          ∧ { t with net := s.net, csr := s.csr, sec := s.sec, flt := s.flt, out := s.out } = s))
    ∧ (∀ (st : Statement) (c : SigCheck), s.sec.work.find? SecWork.verifies = some (.proof q) → portState s q = 3 →
        (port s q).statement = some st → (port s q).stmtOk = true → meetsPlan (expectAt s q) st = true →
        quiesced s 0 (portBundle q) = false → (∀ e ∈ (port s q).bound, e.2 = st.deviceId) →
        ∃ t, exec (.verificationComplete c true) s = .next t ∧ portState t q = 4 ∧ getF t (pStat q) LNK_PORT_STATUS_DISC = 1
          ∧ { t with net := s.net, csr := s.csr, sec := s.sec, out := s.out } = s)
    ∧ (∀ x, (port s q).trainAt = some x → wantsNeighbour (expectAt s q) = true → portState s q ≤ 3 → missingJobs (placePos (setDisc s q 4)) q = [] →
        ∃ t, exec (.discoveryTimeout q) s = .next t ∧ (port t q).missing = true ∧ (port t q).trainAt = none
          ∧ getF t (pStat q) LNK_PORT_STATUS_DISC = 4
          ∧ t.ftu = { s.ftu with
              ft := max s.ftu.ft ((x + BitVec.ofNat 64
                (max 1 (getF s (LNK_BUNDLE_CTRL (portBundle q)) LNK_BUNDLE_CTRL_DISC_TO) * 100000000)).toNat * 65536) }
          ∧ Raised { s with ftu := t.ftu } t (112 + portBundle q) 0x0C 0 0xFFFF (BitVec.ofNat 32 (q.val + 4 * 2 ^ 16))
          ∧ { t with net := s.net, csr := s.csr, flt := s.flt, ftu := s.ftu, out := s.out } = s)

/-- R322, R326, R328–R331, R343, R279, R296, R413, R334–R337: both parts hold: `LinksComeUpAndFail` and
`DiscoveryDecidesEachPort`. The model's choices of log entries 38 and 39 enter it. Each answers a next state with its
effect: LINK_TRAINING_DONE, PORT_FAILED, LINK_DOWN, INIT, REHASH, LOSS_LIMIT, OPTICAL_FAULT, OPT_FAULT_CLEARED,
SIGNAL_DETECT, ETHERNET_FRAME, DISCOVERY_STATEMENT, LINK_PROOF, LINK_PROOF_SIGNED, VERIFICATION_COMPLETE,
DISCOVERY_TIMEOUT. -/
def Obligations.LinksTrainAndDiscover : Prop :=
  LinksComeUpAndFail ∧ DiscoveryDecidesEachPort

namespace Sys2Proof.Machine.Claims

/-! ### Traffic timers, control registers, fabric time (R33–R46, R253, R301–R304, R312–R315, R423, R480) -/

/-- Fabric time has moved on to an instant in ns; nothing else of the FTU has changed. -/
def TimeAt (s t : State) (ns : Nat) : Prop := t.ftu = { s.ftu with ft := max s.ftu.ft (ns * 65536) }

/-- Level fields of the throttled VCs. -/
def levelFields : List (Nat × Fld) := [(4, TSC_THROTTLE_LEVEL4), (6, TSC_THROTTLE_LEVEL6), (7, TSC_THROTTLE_LEVEL7)]

/-- A throttle level after an evaluation (R312). -/
def nextLevel (queuedBytes thresh low minLevel k : Nat) : Nat :=
  if thresh * 1024 < queuedBytes then (if max (k - 1) (max 1 minLevel) < k then max (k - 1) (max 1 minLevel) else k)
  else if queuedBytes < low * 1024 then min (k + 1) 8 else k

/-- An FT_PPS edge at `u` units with phase error `p` is not within 100 ns of the last. -/
def FarEdge (s : State) (u : Nat) (p : Int) : Prop :=
  (∀ e, s.ftu.lastEdge = some e → e + 100 * 65536 ≤ u) ∧ p = phaseError ((u : Int) - ppsComp s)

/-- No wake alarm of the power manager lies outside the FTU, and no domain waits for one. -/
def CalmPower (s : State) : Prop := WakeAlarms s ∧ s.pwr.starved = []

end Sys2Proof.Machine.Claims

/-- R253, R301, R304, R312, R313, R315: at an entry boundary the gate status shows the entry in force; a throttle
evaluation moves each level by one; a telemetry sample writes each sampled port's record to the ring or skips it when the
ring is full or the sample before is not yet written; a policer with tokens again ends its withholding; setting TSC_TEL_CTRL.EN empties the ring. -/
def Sys2Proof.Machine.Claims.TrafficTimersAct : Prop :=
  ∀ (q : Port) (s : State), running s = true →
    (∀ b, nextBoundary s q = some b → b < 2 ^ 64 → CalmPower s → ∃ t, exec (.gateEntryBoundary q) s = .next t ∧ TimeAt s t b
      ∧ fget TSC_GATE_STATUS_ENTRY (liveFields t (TSC_GATE_STATUS q)) = (gateAt s q (now t).toNat).1 % 2 ^ TSC_GATE_STATUS_ENTRY.w
      ∧ fget TSC_GATE_STATUS_MASK (liveFields t (TSC_GATE_STATUS q)) = (gateAt s q (now t).toNat).2 % 2 ^ TSC_GATE_STATUS_MASK.w
      ∧ getF t (TSC_CNT_OVERRUN q) TSC_CNT_OVERRUN_COUNT = min (getF s (TSC_CNT_OVERRUN q) TSC_CNT_OVERRUN_COUNT
          + if ((now t).toNat < (port s q).busyUntil.toNat ∨ (port s q).cut.isSome = true)
              ∧ bit (gateAt s q (now t).toNat).2 (port s q).busyVc = false then 1 else 0) (2 ^ TSC_CNT_OVERRUN_COUNT.w - 1)
      ∧ { t with csr := s.csr, ftu := s.ftu, pwr := s.pwr, net := s.net, out := s.out } = s)
    ∧ (gateLen s q = 0 → exec (.gateEntryBoundary q) s = .next s)
    ∧ (∀ ns p, p = max 1 (getF s (TSC_THROTTLE q) TSC_THROTTLE_INTERVAL) * 1000 → ns = ((now s).toNat / p + 1) * p → ns < 2 ^ 64 →
        ∃ t, exec (.throttleEvaluation q) s = .next t ∧ TimeAt s t ns
          ∧ (∀ v f, (v, f) ∈ levelFields →
              (isSet s (TSC_THROTTLE q) TSC_THROTTLE_EN = false → getF t (TSC_THROTTLE q) f = 8)
              ∧ (isSet s (TSC_THROTTLE q) TSC_THROTTLE_EN = true → getF t (TSC_THROTTLE q) f
                  = nextLevel (queued s q v) (getF s (TSC_THROTTLE q) TSC_THROTTLE_THRESH) (getF s (TSC_THROTTLE q) TSC_THROTTLE_LOW)
                      (getF s (TSC_THROTTLE q) TSC_THROTTLE_MIN_LEVEL) (getF s (TSC_THROTTLE q) f)))
          ∧ (∀ o, o ≠ q.val → port t o = port s o) ∧ CsrKept s t [TSC_THROTTLE q, TSC_CNT_THROTTLE q, TSC_STATUS q]
          ∧ { t with csr := s.csr, ftu := s.ftu, net := s.net } = s)
    ∧ (∀ late, isSet s TSC_TEL_CTRL TSC_TEL_CTRL_EN = false → exec (.telemetrySample late) s = .next s)
    ∧ (∀ size head ns p late, isSet s TSC_TEL_CTRL TSC_TEL_CTRL_EN = true → telPorts s = [q.val] →
        size = 2 ^ getF s TSC_TEL_SIZE TSC_TEL_SIZE_LOG2 → head = (reg s TSC_TEL_HEAD).toNat →
        p = max 1 (getF s TSC_SAMPLE_PERIOD TSC_SAMPLE_PERIOD_US) * 1000 → ns = ((now s).toNat / p + 1) * p → ns < 2 ^ 64 →
        (late = true ∨ (head + 2 ^ 64 - (reg s TSC_TEL_TAIL).toNat) % 2 ^ 64 = size →
          ∃ t, exec (.telemetrySample late) s = .next t ∧ TimeAt s t ns ∧ t.net.samples = s.net.samples + 1
          ∧ getF t TSC_TEL_SKIPPED TSC_TEL_SKIPPED_COUNT
              = min (getF s TSC_TEL_SKIPPED TSC_TEL_SKIPPED_COUNT + 1) (2 ^ TSC_TEL_SKIPPED_COUNT.w - 1)
          ∧ CsrKept s t [TSC_TEL_SKIPPED] ∧ { t with csr := s.csr, ftu := s.ftu, net := s.net } = s)
        ∧ (∀ st k, late = false → (head + 2 ^ 64 - (reg s TSC_TEL_TAIL).toNat) % 2 ^ 64 ≠ size →
            locateSpan s none ((reg s TSC_TEL_BASE).toNat + head % size * 128) 128 = some (st, k) → WritesWhole s k 128 →
            ∃ t, exec (.telemetrySample late) s = .next t ∧ TimeAt s t ns ∧ MemKept s t k 128
              ∧ rdBytes t k 128 = wordsToBytes (telRecord { s with ftu := t.ftu } q (s.net.samples + 1))
              ∧ reg t TSC_TEL_HEAD = reg s TSC_TEL_HEAD + 1 ∧ t.net.samples = s.net.samples + 1
              ∧ CsrKept s t [TSC_TEL_HEAD] ∧ { t with csr := s.csr, ftu := s.ftu, net := s.net, mem := s.mem, bad := s.bad } = s))
    ∧ (∀ v : Vc, ((v.val, 0) ∉ (port s q).withheld → exec (.policerTokensReturn q v) s = .next s)
        ∧ ((v.val, 0) ∈ (port s q).withheld → 0 < (port s q).policer.getD v.val 0 →
            ∃ t, exec (.policerTokensReturn q v) s = .next t
              ∧ port t q = { port s q with withheld := (port s q).withheld.filter (fun w => w != (v.val, 0)) } ∧ PortFrame s t q []))
    ∧ (∀ (src : Fin 3) (v : Word), writable s src TSC_TEL_CTRL = true → v.getLsbD 0 = true →
        isSet s TSC_TEL_CTRL TSC_TEL_CTRL_EN = false → ∃ t, exec (.tscTelCtrlWrite src v) s = .next t
          ∧ reg t TSC_TEL_HEAD = 0 ∧ reg t TSC_TEL_TAIL = 0 ∧ t.net.samples = 0 ∧ isSet t TSC_TEL_CTRL TSC_TEL_CTRL_EN = true
          ∧ CsrKept s t [TSC_TEL_HEAD, TSC_TEL_TAIL, TSC_TEL_CTRL] ∧ { t with csr := s.csr, net := s.net } = s)

/-- R38, R423: a write of FTU_CTRL that changes SRC starts that source afresh, one that names the reserved SRC leaves it, and
one that changes PFP_TX_EN also evaluates the bundles' domains;
a write of PWR_CTRL bounds the depth of every domain, and a domain that stands deeper is woken. A write that does not
reach its block is ignored. -/
def Sys2Proof.Machine.Claims.ControlWritesTakeEffect : Prop :=
  ∀ (src : Fin 3) (v : Word) (s : State),
    (writable s src FTU_CTRL = false → exec (.ftuCtrlWrite src v) s = .next s)
    ∧ (writable s src FTU_CTRL = true → ∃ t, exec (.ftuCtrlWrite src v) s = .next t
        ∧ getF t FTU_CTRL FTU_CTRL_SRC = (if fget FTU_CTRL_SRC v ≤ 2 then fget FTU_CTRL_SRC v else getF s FTU_CTRL FTU_CTRL_SRC)
        ∧ getF t FTU_CTRL FTU_CTRL_PTP_PORT = fget FTU_CTRL_PTP_PORT v
        ∧ getF t FTU_CTRL FTU_CTRL_PFP_TX_EN = fget FTU_CTRL_PFP_TX_EN v
        ∧ getF t FTU_CTRL FTU_CTRL_PPS_COMP = fget FTU_CTRL_PPS_COMP v
        ∧ (fget FTU_CTRL_SRC v ≤ 2 → fget FTU_CTRL_SRC v ≠ getF s FTU_CTRL FTU_CTRL_SRC →
            getF t FTU_STATUS FTU_STATUS_SYNC = 0 ∧ getF t FTU_STATUS FTU_STATUS_HOLDOVER = 0
            ∧ getF t FTU_STATUS FTU_STATUS_VALID = (if fget FTU_CTRL_SRC v = 0 then 1 else 0) ∧ t.ftu.seconds = none)
        ∧ (fget FTU_CTRL_PFP_TX_EN v = getF s FTU_CTRL FTU_CTRL_PFP_TX_EN →
            (3 ≤ fget FTU_CTRL_SRC v → t.ftu = s.ftu ∧ t.pwr = s.pwr ∧ CsrKept s t [FTU_CTRL])
            ∧ CsrKept s t [FTU_CTRL, FTU_STATUS, FTU_SRC_OFFSET] ∧ { t.pwr with planned := s.pwr.planned } = s.pwr
            ∧ { t with csr := s.csr, ftu := s.ftu, pwr := s.pwr } = s)
        ∧ t.ftu.ft = s.ftu.ft ∧ { t with csr := s.csr, ftu := s.ftu, pwr := s.pwr, net := s.net, out := s.out } = s)
    ∧ (writable s src TSC_TEL_CTRL = false → exec (.tscTelCtrlWrite src v) s = .next s)
    ∧ (writable s src PWR_CTRL = false → exec (.pwrCtrlWrite src v) s = .next s)
    ∧ (writable s src PWR_CTRL = true → CalmPower s → ∃ t, exec (.pwrCtrlWrite src v) s = .next t
        ∧ getF t PWR_CTRL PWR_CTRL_MAX_CORE = min 2 (fget PWR_CTRL_MAX_CORE v)
        ∧ getF t PWR_CTRL PWR_CTRL_MAX_BUNDLE = (if fget PWR_CTRL_MAX_BUNDLE v = 1 then 0 else fget PWR_CTRL_MAX_BUNDLE v)
        ∧ getF t PWR_CTRL PWR_CTRL_CLUSTER_DIKDIK = fget PWR_CTRL_CLUSTER_DIKDIK v
        ∧ (∀ u, u < 128 → 2 ≤ domState s u → depthLimit t u < domState s u → u ∈ t.pwr.waking)
        ∧ ((∀ u, u < 128 → domState s u = 0) → CsrKept s t [PWR_CTRL] ∧ t.pwr = s.pwr)
        ∧ { t with csr := s.csr, pwr := s.pwr, net := s.net, out := s.out } = s)

/-- R253, R301, R304, R312, R313, R315, R38, R423: both parts hold: `TrafficTimersAct` and `ControlWritesTakeEffect`. The
model's choices of log entries 43 and 70 enter it. Each answers a next state with its effect: GATE_ENTRY_BOUNDARY,
THROTTLE_EVALUATION, TELEMETRY_SAMPLE, POLICER_TOKENS_RETURN, TSC_TEL_CTRL_WRITE, FTU_CTRL_WRITE, PWR_CTRL_WRITE. -/
def Obligations.TrafficIsTimedAndControlled : Prop :=
  TrafficTimersAct ∧ ControlWritesTakeEffect

/-- R40–R43, R481: an FT_PPS edge records its phase error in FTU_OFFSET; one less than 100 ns after the last, or further than
SYNC_LIMIT from its second, is a glitch with a NOTE fault; the first edge after a seconds value sets FT, its only step, and
VALID; any other ends holdover and gives the servo a sample, the PTP offset or the peers' one. Under FREE an edge only
records its error. Holdover begins 1.001 s after the last good edge, and SYNC is lost by a phase jump, an offset beyond the
limit or a long holdover, and set by 16 edges within 10 ns. -/
def Sys2Proof.Machine.Claims.FabricTimeFollowsItsSource : Prop :=
  ∀ (s : State) (stamp : Nat) (off : Word) (u : Nat), standby s = true → u = stamp * 8192 →
    (∀ p, p = phaseError ((u : Int) - ppsComp s) → getF s FTU_CTRL FTU_CTRL_SRC = 0 → ∃ t, exec (.ftPpsEdge stamp off) s = .next t
      ∧ t.ftu = { s.ftu with ft := max s.ftu.ft u, lastEdge := some u } ∧ reg t FTU_OFFSET = signedWord p
      ∧ CsrKept s t [FTU_OFFSET] ∧ { t with csr := s.csr, ftu := s.ftu } = s)
    ∧ (∀ p, p = phaseError ((u : Int) - ppsComp s) → getF s FTU_CTRL FTU_CTRL_SRC ≠ 0 → isSet s FTU_STATUS FTU_STATUS_VALID = true →
        ((∃ e, s.ftu.lastEdge = some e ∧ u < e + 100 * 65536) ∨ getF s FTU_LIMITS FTU_LIMITS_SYNC_LIMIT * 65536 < p.natAbs) →
        ∃ t, exec (.ftPpsEdge stamp off) s = .next t
          ∧ t.ftu = { s.ftu with ft := max s.ftu.ft u, lastEdge := some u, glitches := p :: s.ftu.glitches }
          ∧ reg t FTU_OFFSET = signedWord p ∧ getF t FTU_STATUS FTU_STATUS_PPS_GLITCH = 1
          ∧ Raised { s with ftu := t.ftu } t 170 0x0E 0 0xFFFF 0
          ∧ { t with csr := s.csr, ftu := s.ftu, flt := s.flt, out := s.out } = s)
    ∧ (∀ p (x : Int) (smp : Option Word) (l : List Word) (o : Word), FarEdge s u p → isSet s FTU_STATUS FTU_STATUS_VALID = true →
        p.natAbs ≤ getF s FTU_LIMITS FTU_LIMITS_SYNC_LIMIT * 65536 →
        (getF s FTU_CTRL FTU_CTRL_SRC = 1 ∧ smp = some off)
          ∨ (2 ≤ getF s FTU_CTRL FTU_CTRL_SRC ∧ peerOffsets s = [x] ∧ smp = some (signedWord x))
          ∨ (2 ≤ getF s FTU_CTRL FTU_CTRL_SRC ∧ peerOffsets s = [] ∧ smp = none) →
        l = smp.toList ++ s.ftu.samples → o = (if smp.isSome then Config.servoFilter l else reg s FTU_SRC_OFFSET) →
        ∃ t, exec (.ftPpsEdge stamp off) s = .next t
          ∧ t.ftu = { s.ftu with
              ft := max s.ftu.ft u, lastEdge := some u, lastGood := max s.ftu.ft u, glitches := [], holdStart := none,
              inRange := if o.toInt.natAbs ≤ 655360 then s.ftu.inRange + 1 else 0, samples := l }
          ∧ reg t FTU_OFFSET = signedWord p ∧ reg t FTU_SRC_OFFSET = o ∧ getF t FTU_STATUS FTU_STATUS_HOLDOVER = 0
          ∧ CsrKept s t [FTU_OFFSET, FTU_SRC_OFFSET, FTU_STATUS] ∧ { t with csr := s.csr, ftu := s.ftu } = s)
    ∧ (∀ p sec, FarEdge s u p → getF s FTU_CTRL FTU_CTRL_SRC ≠ 0 → isSet s FTU_STATUS FTU_STATUS_VALID = false →
        s.ftu.seconds = some sec → ∃ t, exec (.ftPpsEdge stamp off) s = .next t
          ∧ t.ftu.ft = ((sec.toNat * (65536 * 1000000000) : Nat) + ppsComp s).toNat ∧ isSet t FTU_STATUS FTU_STATUS_VALID = true
          ∧ t.ftu.seconds = none ∧ CsrKept s t [FTU_OFFSET, FTU_STATUS] ∧ { t with csr := s.csr, ftu := s.ftu } = s)
    ∧ (getF s FTU_CTRL FTU_CTRL_SRC ≠ 0 → isSet s FTU_STATUS FTU_STATUS_VALID = true →
        isSet s FTU_STATUS FTU_STATUS_HOLDOVER = false → ∃ t, exec .holdover s = .next t
          ∧ t.ftu.ft = max s.ftu.ft (s.ftu.lastGood + 1001000000 * 65536) ∧ t.ftu.holdStart = some t.ftu.ft
          ∧ isSet t FTU_STATUS FTU_STATUS_HOLDOVER = true ∧ Raised { s with ftu := t.ftu } t 170 0x0E 0 0xFFFF 0
          ∧ { t with csr := s.csr, ftu := s.ftu, flt := s.flt, out := s.out } = s)
    ∧ (isSet s FTU_STATUS FTU_STATUS_SYNC = true → scheduledJobs s = [] →
        (phaseJump s.ftu.glitches = true ∨ getF s FTU_LIMITS FTU_LIMITS_SYNC_LIMIT * 65536 < (reg s FTU_SRC_OFFSET).toInt.natAbs) →
        ∃ t, exec .ftUnsync s = .next t ∧ isSet t FTU_STATUS FTU_STATUS_SYNC = false
          ∧ getF t FTU_STATUS FTU_STATUS_UNSYNC_EVENT = 1 ∧ t.ftu = { s.ftu with inRange := 0, glitches := [] }
          ∧ { t with csr := s.csr, ftu := s.ftu, out := s.out } = s)
    ∧ (getF s FTU_CTRL FTU_CTRL_SRC ≠ 0 → isSet s FTU_STATUS FTU_STATUS_VALID = true →
        (16 ≤ s.ftu.inRange → ∃ t, exec .syncAcquired s = .next t ∧ isSet t FTU_STATUS FTU_STATUS_SYNC = true
          ∧ CsrKept s t [FTU_STATUS] ∧ { t.pwr with planned := s.pwr.planned } = s.pwr ∧ { t with csr := s.csr, pwr := s.pwr } = s)
        ∧ (s.ftu.inRange < 16 → exec .syncAcquired s = .next s))

/-- R39, R40, R44, R46, R343, R466, R480: an Ethernet port with PTP_EN timestamps a PTP message, and on the PTP port it
yields the seconds value and may be followed by a delay request; without PTP_EN it is discarded and counted; PFP time messages yield the neighbours' offsets; a time message leaves by every class T port that may carry one; the reset-alignment edge sets FTU_ALIGN; READY follows SYNC once
steps 12 to 14 have ended, and is logged; a lost clock halts a running device. -/
def Sys2Proof.Machine.Claims.TimeMessagesAndStartUpOfTime : Prop :=
  ∀ (s : State),
    (∀ (q : Port) (stamp : Nat) (sec : Option Word) (req : Option DelayMech), running s = true → portEth s q = true →
        (isSet s (LNK_ETH_CTRL (portBundle q) (portLane q)) LNK_ETH_CTRL_PTP_EN = false → ∃ t d, exec (.ptpMessage q stamp sec req) s = .next t
          ∧ d = LNK_ETH_DISCARD (portBundle q) (portLane q)
          ∧ getF t d LNK_ETH_DISCARD_FRAMES = min (getF s d LNK_ETH_DISCARD_FRAMES + 1) (2 ^ LNK_ETH_DISCARD_FRAMES.w - 1)
          ∧ CsrKept s t [d] ∧ { t with csr := s.csr } = s)
        ∧ (ptpPort s q = false → isSet s (LNK_ETH_CTRL (portBundle q) (portLane q)) LNK_ETH_CTRL_PTP_EN = true → ∃ t, exec (.ptpMessage q stamp sec req) s = .next t ∧ t.out = .ptpStamp q stamp :: s.out
          ∧ t.ftu = { s.ftu with ft := max s.ftu.ft (stamp * 8192) } ∧ { t with ftu := s.ftu, out := s.out } = s)
        ∧ (ptpPort s q = true → isSet s (LNK_ETH_CTRL (portBundle q) (portLane q)) LNK_ETH_CTRL_PTP_EN = true → ∃ t, exec (.ptpMessage q stamp sec req) s = .next t
          ∧ t.out = (req.map (Out.delayRequest q)).toList ++ .ptpStamp q stamp :: s.out
          ∧ t.ftu = { s.ftu with
              ft := max s.ftu.ft (stamp * 8192),
              seconds := if sec.isSome = true ∧ isSet s FTU_STATUS FTU_STATUS_VALID = false then sec else s.ftu.seconds }
          ∧ { t with ftu := s.ftu, out := s.out } = s))
    ∧ (∀ ns, running s = true → ns = ((now s).toNat / 1000000 + 1) * 1000000 → ns < 2 ^ 64 →
        (isSet s FTU_CTRL FTU_CTRL_PFP_TX_EN = false → ∃ t, exec .pfpTimeSend s = .next t ∧ TimeAt s t ns ∧ { t with ftu := s.ftu } = s)
        ∧ (∀ q, isSet s FTU_CTRL FTU_CTRL_PFP_TX_EN = true → timePorts s = [q] → ∃ t y, exec .pfpTimeSend s = .next t ∧ TimeAt s t ns
          ∧ t.net.outbox = s.net.outbox ++ [y] ∧ y.dest = .port q false ∧ y.die = portDie q
          ∧ y.p = mkPacket { type := 5, vc := 7, origin := 0x0200, birth := (now t).toNat % 2 ^ 40 }
              (toBytes 8 (Config.freeWord s.free).toNat)
          ∧ { t with ftu := s.ftu, net := s.net, free := s.free } = s))
    ∧ (∀ (k : Nat) (d : Fin 6) (off : Word) (x : Pkt), Arrived s k x 5 → x.p.fence = false →
        x.port.bind (planDir s) = some d.val → getF s FTU_CTRL FTU_CTRL_SRC ≠ 2 →
        ∃ t, exec (.timePacket k d off) s = .next t ∧ Consumed s t k x.die x ∧ reg t (FTU_PEER_OFFSET d) = off
          ∧ t.ftu = { s.ftu with peers := if s.ftu.peers.contains d.val then s.ftu.peers else s.ftu.peers ++ [d.val] }
          ∧ { t with net := s.net, csr := s.csr, ftu := s.ftu } = s)
    ∧ (∀ (edge x : Word), s.boot.aligning = some x → standby s = true → x.toNat ≤ edge.toNat →
        ∃ t, exec (.resetAlignment edge) s = .next t ∧ reg t FTU_ALIGN = x ∧ t.boot = { s.boot with aligning := none } ∧ t.aclk = 0
          ∧ TimeAt s t edge.toNat ∧ CsrKept s t [FTU_ALIGN] ∧ { t with csr := s.csr, boot := s.boot, ftu := s.ftu, aclk := s.aclk } = s)
    ∧ (running s = true → s.flt.bbBad = [] →
        ((isSet s FTU_STATUS FTU_STATUS_SYNC = true ∨ getF s FTU_CTRL FTU_CTRL_SRC = 0) →
          ((getF s HUB_BOOT HUB_BOOT_STEP = 14 ∧ discovered s = true)
            ∨ (getF s HUB_BOOT HUB_BOOT_STEP = 13 ∧ s.sec.plan = none ∧ s.boot.stepAt.toNat + 20000000 ≤ (now s).toNat)) →
          ∃ t, exec .ready s = .next t ∧ (getF s HUB_BOOT HUB_BOOT_STEP = 13 → t.boot.opened = true)
          ∧ (getF s HUB_BOOT HUB_BOOT_STEP = 14 → t.boot = s.boot)
          ∧ isSet t HUB_BOOT HUB_BOOT_READY = true ∧ (t.boot.porst = false → t.boot.warm = false → (outPins t).devReady = true) ∧ getF t HUB_BOOT HUB_BOOT_STEP = 15 ∧ t.flt.nextSeq = s.flt.nextSeq + 1
          ∧ t.flt.cur = s.flt.cur ∧ CsrKept s t [HUB_BOOT] ∧ { t with csr := s.csr, boot := s.boot, flt := s.flt } = s)
        ∧ ((isSet s FTU_STATUS FTU_STATUS_SYNC = false ∧ getF s FTU_CTRL FTU_CTRL_SRC ≠ 0)
            ∨ getF s HUB_BOOT HUB_BOOT_STEP ∉ [12, 13, 14] ∨ (getF s HUB_BOOT HUB_BOOT_STEP = 14 ∧ discovered s = false) →
          exec .ready s = .next s))
    ∧ (standby s = true → s.boot.up = true → s.boot.halt = false → ∃ t, exec .clockLost s = .next t
        ∧ t.boot = { s.boot with clockLost := true, halt := true } ∧ isSet t FTU_STATUS FTU_STATUS_SYNC = false
        ∧ isSet t FLT_STATUS FLT_STATUS_HALTED = true ∧ Raised { s with ftu := t.ftu } t 170 0x23 3 0xFFFF 0
        ∧ (∀ r : RingId, isSet t (HIF_CR_CTRL r) HIF_CR_CTRL_EN = false ∧ isSet t (HIF_QR_CTRL r) HIF_QR_CTRL_EN = false)
        ∧ { t with csr := s.csr, boot := s.boot, ftu := s.ftu, flt := s.flt, out := s.out } = s)

/-- R40–R43, R481, R39, R40, R44, R46, R343, R466, R480: both parts hold: `FabricTimeFollowsItsSource` and
`TimeMessagesAndStartUpOfTime`. The model's choices of log entries 40, 63, 76 and 97 enter it. Each answers a next state
with its effect: FT_PPS_EDGE, HOLDOVER, FT_UNSYNC, SYNC_ACQUIRED, PTP_MESSAGE, PFP_TIME_SEND, TIME_PACKET,
RESET_ALIGNMENT, READY, CLOCK_LOST. -/
def Obligations.FabricTimeIsKept : Prop :=
  FabricTimeFollowsItsSource ∧ TimeMessagesAndStartUpOfTime

namespace Sys2Proof.Machine.Claims

/-! ### Memory errors and windows (R354–R361, R385) -/

/-- A persistent error of the code word at key `k` of a store has been taken (R357): counted, shown, and one MEM_PERSIST
fault of a class raised. -/
def Persisted (s t : State) (st : Store) (k cls : Nat) (job : BitVec 16) : Prop :=
  getF t (MEM_CNT_PERSIST st.die) MEM_CNT_PERSIST_COUNT
      = min (getF s (MEM_CNT_PERSIST st.die) MEM_CNT_PERSIST_COUNT + 1) (2 ^ MEM_CNT_PERSIST_COUNT.w - 1)
    ∧ getF t MEM_STATUS MEM_STATUS_PERSIST_EVENT = 1 ∧ getF t MEM_ERR_LAST MEM_ERR_LAST_STORE = st.code
    ∧ Raised s t st.source 0x07 cls job (BitVec.ofNat 32 (devAddr s st (k - k % codeWord k)))

/-- A word of a die's packet buffer or staging has passed its re-read (R357): counted, shown, one NOTE fault of the slice. -/
def BufPassed (s t : State) (d : Nat) (job : BitVec 16) (addr : BitVec 48) : Prop :=
  getF t (MEM_CNT_REREAD d) MEM_CNT_REREAD_COUNT
      = min (getF s (MEM_CNT_REREAD d) MEM_CNT_REREAD_COUNT + 1) (2 ^ MEM_CNT_REREAD_COUNT.w - 1)
    ∧ getF t MEM_STATUS MEM_STATUS_REREAD_EVENT = 1 ∧ Raised s t (144 + d) 0x06 0 job (BitVec.ofNat 32 addr.toNat)
    ∧ { t with csr := s.csr, flt := s.flt, out := s.out } = s

/-- It has failed (R357): counted, shown with its store's code, one STEP fault MEM_PERSIST of the slice. -/
def BufFailed (s t : State) (d code : Nat) (job : BitVec 16) (addr : BitVec 48) : Prop :=
  getF t (MEM_CNT_PERSIST d) MEM_CNT_PERSIST_COUNT
      = min (getF s (MEM_CNT_PERSIST d) MEM_CNT_PERSIST_COUNT + 1) (2 ^ MEM_CNT_PERSIST_COUNT.w - 1)
    ∧ getF t MEM_STATUS MEM_STATUS_PERSIST_EVENT = 1 ∧ getF t MEM_ERR_LAST MEM_ERR_LAST_STORE = code
    ∧ Raised s t (144 + d) 0x07 1 job (BitVec.ofNat 32 addr.toNat)

/-- The window of a tier of a die has left service (R359): absent, of size 0, with one UNIT fault. -/
def WindowGone (s t : State) (d : Die) (tier : Fin 3) : Prop :=
  bit (getF t MEM_STATUS (tierOk tier)) d = false ∧ getF t (MEM_TIER_SIZE d) (tierSizeF tier) = 0
    ∧ (∀ d' : Die, d' ≠ d → bit (getF t MEM_STATUS (tierOk tier)) d' = bit (getF s MEM_STATUS (tierOk tier)) d')
    ∧ getF t MEM_STATUS MEM_STATUS_WINDOW_LOST_EVENT = 1
    ∧ Raised s t (148 + 3 * d.val + tier.val) 0x08 2 0xFFFF 0
    ∧ CsrKept s t ([MEM_STATUS, MEM_TIER_SIZE d] ++ faultRegs (148 + 3 * d.val + tier.val) 2)

end Sys2Proof.Machine.Claims

/-- R258, R354, R357–R359: a re-read that passes is counted with a NOTE fault; one that fails marks its code word and raises
MEM_PERSIST with the class of its reader (poison of tier 2 is never read again), the host's read completing with poison, a core's step trapping DATA_ERROR, a
packet in its buffer going on stomped and the launch that read staging ending with DATA_ERROR.
The scrub finds words that still fail; the sixteenth error of a window within an hour, or a CXL link down, ends the
window. -/
def Sys2Proof.Machine.Claims.MemoryErrorsAreTaken : Prop :=
  ∀ (s : State) (addr : BitVec 48), running s = true →
    (∀ (r : MemReader) (st : Store) (k : Nat), (∀ y, r ≠ .slice y) → (∀ e l, r ≠ .staging e l) →
        locate s (readerCore r) addr.toNat = some (st, k) → (∀ p, st = .core p → p < 80) →
        (∀ d, st ≠ .tier d 2) →
      ∃ t, exec (.memReread addr true r) s = .next t
        ∧ getF t (MEM_CNT_REREAD st.die) MEM_CNT_REREAD_COUNT
            = min (getF s (MEM_CNT_REREAD st.die) MEM_CNT_REREAD_COUNT + 1) (2 ^ MEM_CNT_REREAD_COUNT.w - 1)
        ∧ getF t MEM_STATUS MEM_STATUS_REREAD_EVENT = 1
        ∧ Raised s t st.source 0x06 0 (readerJob s r) (BitVec.ofNat 32 (devAddr s st k))
        ∧ { t with csr := s.csr, flt := s.flt, out := s.out } = s)
    ∧ (∀ (st : Store) (k : Nat) (passes : Bool), (∀ p, st ≠ .core p) → (passes = true → ∃ d, st = .tier d 2) →
      (locate s none addr.toNat = some (st, k) → ∃ t, exec (.memReread addr passes .host) s = .next t
        ∧ Persisted s t st k 0 0xFFFF ∧ .poisoned ∈ t.out ∧ (k - k % codeWord k) ∈ t.bad
        ∧ { t with csr := s.csr, flt := s.flt, bad := s.bad, errTimes := s.errTimes, out := s.out } = s)
      ∧ (∀ n : CoreId, locate s (some n.val) addr.toNat = some (st, k) → (core s n).running = true → (core s n).trap = none →
        ∃ t, exec (.memReread addr passes (.core n)) s = .next t ∧ Persisted s t st k 1 (core s n).job
          ∧ (core t n).trap = some 0x06 ∧ (core t n).wait = none ∧ CoresKept s t [n.val]
          ∧ { t with cores := s.cores, csr := s.csr, flt := s.flt, bad := s.bad, errTimes := s.errTimes, out := s.out } = s))
    ∧ (∀ k x, slicePkt s k = some x → x.die < 4 →
        (∃ t, exec (.memReread addr true (.slice k)) s = .next t ∧ BufPassed s t x.die (BitVec.ofNat 16 x.p.job) addr)
        ∧ (∃ t, exec (.memReread addr false (.slice k)) s = .next t ∧ BufFailed s t x.die 2 (BitVec.ofNat 16 x.p.job) addr
          ∧ (∀ y ∈ allPkts t, y.no = k → y.p.stomp = true) ∧ (allPkts t).map (fun y => y.no) = (allPkts s).map (fun y => y.no)
          ∧ { t with csr := s.csr, flt := s.flt, net := s.net, out := s.out } = s))
    ∧ (∀ (e : Engine) l x, launch s l = some x → x.stage = 2 →
        (∃ t, exec (.memReread addr true (.staging e l)) s = .next t ∧ BufPassed s t (e.val / 4) (BitVec.ofNat 16 x.job) addr)
        ∧ (∃ t, exec (.memReread addr false (.staging e l)) s = .next (finishLaunch t x 0x09 true)
          ∧ BufFailed s t (e.val / 4) 3 (BitVec.ofNat 16 x.job) addr ∧ { t with csr := s.csr, flt := s.flt, out := s.out } = s))
    ∧ (∀ codeOk last, isSet s MEM_SCRUB MEM_SCRUB_EN = false → exec (.scrubRead addr codeOk last) s = .next s)
    ∧ (∀ (d tier k : Nat) (last : Bool), isSet s MEM_SCRUB MEM_SCRUB_EN = true → locate s none addr.toNat = some (.tier d tier, k) →
        tier ≠ 2 →
        (∃ t, exec (.scrubRead addr true last) s = .next t
          ∧ getF t MEM_STATUS MEM_STATUS_SCRUB_DONE_EVENT = (if last then 1 else getF s MEM_STATUS MEM_STATUS_SCRUB_DONE_EVENT)
          ∧ CsrKept s t [MEM_STATUS] ∧ { t with csr := s.csr } = s)
        ∧ ((badIn s k 1).isSome = true → ∃ t, exec (.scrubRead addr false false) s = .next t ∧ Persisted s t (.tier d tier) k 0 0xFFFF
          ∧ { t with csr := s.csr, flt := s.flt, errTimes := s.errTimes, out := s.out } = s))
    ∧ (∀ (d : Die) (tier : Fin 3), bit (getF s MEM_STATUS (tierOk tier)) d = true → windowJobs s d tier = [] →
        (16 ≤ recentErrors s (3 * d.val + tier.val) → ∃ t, exec (.windowLost d tier) s = .next t ∧ WindowGone s t d tier
          ∧ t.lostWin = s.lostWin ++ [3 * d.val + tier.val]
          ∧ { t with csr := s.csr, flt := s.flt, lostWin := s.lostWin, out := s.out } = s)
        ∧ (recentErrors s (3 * d.val + tier.val) < 16 → exec (.windowLost d tier) s = .next s)
        ∧ (tier = 2 → ∃ t, exec (.cxlLinkDown d) s = .next t ∧ WindowGone s t d 2
          ∧ { t with csr := s.csr, flt := s.flt, out := s.out } = s))

/-- R356, R385: while BAR2 is open a read returns the bytes of tier 0 at its window and changes nothing, and a write
stores exactly its bytes there. Outside the window, or while BAR2 is closed, each is an unsupported request. -/
def Sys2Proof.Machine.Claims.Bar2ReachesTierZero : Prop :=
  ∀ (s : State) (off : BitVec 38) (n : Nat) (bs : List Byte),
    (bar2Open s = false → 1 ≤ n → bs ≠ [] →
      exec (.bar2Read off n) s = .next { s with out := .unsupported :: s.out }
      ∧ exec (.bar2Write off bs) s = .next { s with out := .unsupported :: s.out })
    ∧ (∀ (a k : Nat) (st : Store), bar2Open s = true → off.toNat + n ≤ 2 ^ 38 → 1 ≤ n → n ≤ 4096 →
        a = 0x010000000000 + getF s HIF_BAR2_BASE HIF_BAR2_BASE_WIN * 0x2000000000 + off.toNat →
        a % 0x2000000000 + n ≤ 0x2000000000 →
        (locateSpan s none a n = none → exec (.bar2Read off n) s = .next { s with out := .unsupported :: s.out })
        ∧ (locateSpan s none a n = some (st, k) →
          (badIn s k n = none → exec (.bar2Read off n) s = .next { s with out := .readBytes (rdBytes s k n) :: s.out })
          ∧ (bs.length = n → WritesWhole s k n → ∃ t, exec (.bar2Write off bs) s = .next t
            ∧ rdBytes t k n = bs ∧ MemKept s t k n ∧ { t with mem := s.mem, bad := s.bad } = s)))

/-- R258, R354, R357–R359, R356, R385: both parts hold: `MemoryErrorsAreTaken` and `Bar2ReachesTierZero`. The model's
choice of log entry 67 enters it. Each answers a next state with its effect: MEM_REREAD, SCRUB_READ, WINDOW_LOST,
CXL_LINK_DOWN, BAR2_READ, BAR2_WRITE. -/
def Obligations.MemoryIsWatchedAndReached : Prop :=
  MemoryErrorsAreTaken ∧ Bar2ReachesTierZero

namespace Sys2Proof.Machine.Claims

/-! ### Plans, jobs, images, domains (R185–R192, R392, R397–R401, R461) -/

/-- Bits of an entry's words 2 to 31 that a command leaves reserved are 0, and so are FLAGS and word 1. -/
def FormOk (e : CmdEntry) (used : List Nat) : Prop :=
  (wordAt e.words 0).extractLsb' 8 8 = 0 ∧ wordAt e.words 1 = 0 ∧ ∀ i, i < 32 → 2 ≤ i → i ∉ used → wordAt e.words i = 0

/-- A command has left its queue and completed with a status, and otherwise nothing has changed but registers of its ring.
-/
def OnlyCompleted (s t : State) (r : RingId) (e : CmdEntry) (status detail : Nat) : Prop :=
  CmdEnds s t r e status detail ∧ Popped s t r ∧ CmdRingsKept s t [r.val]
    ∧ CsrKept s t (ringRegs (getF s (HIF_CR_CTRL r) HIF_CR_CTRL_CQ))
    ∧ { t with crings := s.crings, csr := s.csr, qrings := s.qrings, objs := s.objs, out := s.out } = s

/-- The JOB_ID of an entry. -/
def jobOfEntry (e : CmdEntry) : Nat := ((wordAt e.words 0).extractLsb' 16 16).toNat

/-- A job's numbers lie in the device's tables. -/
def JobInTables (x : Job) : Prop :=
  x.index < 4096 ∧ x.rttBase + x.rttCount ≤ 131072 ∧ (∀ i ∈ x.circuits, i < 4096) ∧ (∀ i ∈ x.regions, i < 1024)

/-- A command whose object the SEC unit verifies may have its turn (R459). -/
def HasTurn (s : State) (r : RingId) : Prop := s.sec.work = [] ∨ nextWork s = some (.ring r)

/-- Before its turn it waits at the front of its ring, and in the unit's list. -/
def WaitsForSec (s t : State) (r : RingId) : Prop :=
  (cring t r).queue = (cring s r).queue ∧ CmdRingsKept s t [r.val]
    ∧ t.sec.work = (if SecWork.ring r ∈ s.sec.work then s.sec.work else s.sec.work ++ [.ring r])
    ∧ { t.sec with work := s.sec.work } = s.sec ∧ { t with crings := s.crings, sec := s.sec } = s

/-- No image of a job names an alarm that is not a schedule alarm. -/
def ScheduleAlarms (s : State) (j : Nat) : Prop := ∀ i ∈ heldImages s j, ∀ a ∈ i.alarms, a < 960

/-- One LOAD completion of an entry (R192). -/
def LoadEnds (s t : State) (r : RingId) (e : CmdEntry) (status detail : Nat) : Prop :=
  ∃ c : Cpl, Entered s t (getF s (HIF_CR_CTRL r) HIF_CR_CTRL_CQ) c
    ∧ c.kind = 2 ∧ c.cmdRing.toNat = r.val ∧ c.cmdIndex = e.index
    ∧ c.job = shownJob ((wordAt e.words 0).extractLsb' 16 16)
    ∧ (wordAt c.body 0).toNat = status + detail * 2 ^ 32 ∧ (wordAt c.body 1).toNat = (wordAt e.words 0).toNat / 2 ^ 32

/-- A QID's entry has the state, KIND and ID of a domain (Table 15.8). -/
def QidHolds (t : State) (k state kind ident : Nat) : Prop :=
  getF t (PUP_QER k) PUP_QER_STATE = state ∧ getF t (PUP_QER k) PUP_QER_KIND = kind ∧ getF t (PUP_QER k) PUP_QER_ID = ident

/-- The completion of a command that held its ring: it goes to the ring's CQ, and the ring goes on. -/
def HeldEnds (s t : State) (q : Qid) (status detail : Nat) : Prop :=
  (cring t q.ring).serial = false
    ∧ ∃ c : Cpl, Entered s t (getF s (HIF_CR_CTRL q.ring) HIF_CR_CTRL_CQ) c
      ∧ c.kind = 4 ∧ c.cmdRing.toNat = q.ring.val ∧ c.cmdIndex = q.index
      ∧ (wordAt c.body 0).toNat = status + detail * 2 ^ 32 ∧ (wordAt c.body 1).toNat = q.tag.toNat

end Sys2Proof.Machine.Claims

/-- R270, R316, R392, R459, R461, R466: a PLAN whose body host memory does not give completes with HOST_READ; one that has
come waits at the front of its ring while the SEC unit has earlier work; one that the owner's root does not verify, or of
a device without an owner, ends with SIGNATURE, the plan in force staying; one that verifies is in force, its digest in
SEC_PLAN_DIGEST, and completes with OK. The first plan enables its ports and classes its bundles, and its position stands
in HUB_RT_POS once discovery has reported every neighbour that it expects. SEC counts each verification. The model's
choices of log entries 5 and 28 enter it. Answers a next state with its effect: PLAN. -/
def Obligations.PlansComeIntoForce : Prop :=
  ∀ (r : RingId) (s : State) (e : CmdEntry), AtFront s r e → (wordAt e.words 0).toNat % 2 ^ 8 = 2 →
    (¬ FormOk e [2, 3] → ∀ b, ∃ t, exec (.plan r b) s = .next t ∧ OnlyCompleted s t r e 0x01 0)
    ∧ (FormOk e [2, 3] →
      (∃ t, exec (.plan r none) s = .next t ∧ OnlyCompleted s t r e 0x02 0)
      ∧ (∀ p c w, nextWork s = some w → w ≠ .ring r → ∃ t, exec (.plan r (some (p, c))) s = .next t ∧ WaitsForSec s t r)
      ∧ (∀ p c, HasTurn s r → (s.nvm.owner = none ∨ planOk s p c = false) → ∃ t, exec (.plan r (some (p, c))) s = .next t
          ∧ CmdEnds s t r e 0x03 0 ∧ Popped s t r ∧ { t.sec with work := s.sec.work } = s.sec ∧ t.net = s.net
          ∧ getF t SEC_CNT_VERIFY SEC_CNT_VERIFY_REJECTED
              = min (getF s SEC_CNT_VERIFY SEC_CNT_VERIFY_REJECTED + 1) (2 ^ SEC_CNT_VERIFY_REJECTED.w - 1)
          ∧ CsrKept s t ([SEC_CNT_VERIFY, SEC_STATUS, HIF_MSIX_PEND 4] ++ ringRegs (getF s (HIF_CR_CTRL r) HIF_CR_CTRL_CQ)))
      ∧ (∀ p c, HasTurn s r → s.nvm.owner ≠ none → planOk s p c = true →
          ∃ t, exec (.plan r (some (p, c))) s = .next t ∧ Popped s t r ∧ t.sec.plan = some p
            ∧ (∀ i, i < 4 → peek t (SEC_PLAN_DIGEST i) = digestWord (objDigest p.obj) i)
            ∧ (s.sec.plan = none → (∀ x ∈ p.ports, getF t (pCtrl x.port) LNK_PORT_CTRL_EN = 1)
                ∧ (∀ b, b < 32 → getF t (LNK_BUNDLE_CTRL b) LNK_BUNDLE_CTRL_CLASS = planClass p b % 4)
                ∧ ((∀ x ∈ p.ports, wantsNeighbour x.expect = true → getF s (pStat x.port) LNK_PORT_STATUS_DISC ≠ 0) →
                    reg t HUB_RT_POS = BitVec.ofNat 64 (p.pos.toNat % 2 ^ 59))
                ∧ ((∃ x ∈ p.ports, wantsNeighbour x.expect = true ∧ getF s (pStat x.port) LNK_PORT_STATUS_DISC = 0) →
                    reg t HUB_RT_POS = reg s HUB_RT_POS)
                ∧ t.mem = s.mem ∧ t.cores = s.cores ∧ t.jobs = s.jobs)))

/-- R392, R38, R265, R285, R338, R348, R359: JOB_ADMIT refuses a malformed block with BAD_CMD, an admitted job with BUSY,
and a job that the tables, links, time or regions do not allow with ADMIT_REJECT, REGION or RESOURCE, nothing being
admitted; otherwise the job holds its entries, quiesced under a new QID that DETAIL names. JOB_END of an unknown job
completes with UNKNOWN_JOB and one of a job that is not quiesced with NOT_QUIESCED; of a quiesced job it frees all that
the job holds. The model's choices of log entries 29, 30, 31 and 89 enter it. Each answers a next state with its effect:
JOB_ADMIT, JOB_END. -/
def Obligations.JobsAreAdmittedAndEnd : Prop :=
  ∀ (r : RingId) (s : State) (e : CmdEntry) (j : Nat), AtFront s r e → j = jobOfEntry e →
    ((wordAt e.words 0).toNat % 2 ^ 8 = 3 → FormOk e [2, 3] →
      (∃ t, exec (.jobAdmit r none) s = .next t ∧ OnlyCompleted s t r e 0x02 0)
      ∧ (∀ b, blockOk b (wordAt e.words 3).toNat j = false →
          ∃ t, exec (.jobAdmit r (some b)) s = .next t ∧ OnlyCompleted s t r e 0x01 0)
      ∧ (∀ b, blockOk b (wordAt e.words 3).toNat j = true →
          (job s j ≠ none → ∃ t, exec (.jobAdmit r (some b)) s = .next t ∧ OnlyCompleted s t r e 0x06 0)
          ∧ (∀ d, job s j = none → admitReject s j b = some d →
              ∃ t, exec (.jobAdmit r (some b)) s = .next t ∧ OnlyCompleted s t r e 0x0C (d % 2 ^ 32))
          ∧ (∀ x ∈ aRegions b, job s j = none → admitReject s j b = none → bits x.1 48 48 = 1 →
              (regionClash s j (bits x.1 47 0) (bits x.2 47 0) = true ∨ windowAbsent s (bits x.1 47 0) (bits x.2 47 0) = true) →
              ∃ t, exec (.jobAdmit r (some b)) s = .next t ∧ OnlyCompleted s t r e 0x0B 0)
          ∧ (job s j = none → admitReject s j b = none → aRegions b = [] → (∀ k, k < 64 → getF s (PUP_QER k) PUP_QER_STATE ≠ 0) →
              ∃ t, exec (.jobAdmit r (some b)) s = .next t ∧ OnlyCompleted s t r e 0x05 0)
          ∧ (∀ k i base, job s j = none → admitReject s j b = none → aCircuits b = [] → aRegions b = [] →
              k < 64 → getF s (PUP_QER k) PUP_QER_STATE = 0 → (∀ k', k' < k → getF s (PUP_QER k') PUP_QER_STATE ≠ 0) →
              i < 4096 → (∀ x ∈ s.jobs, x.2.index ≠ i) → (∀ i', i' < i → ∃ x ∈ s.jobs, x.2.index = i') →
              freeRtt s (aF b 0 49 32) = some base →
              ∃ t x, exec (.jobAdmit r (some b)) s = .next t ∧ CmdEnds s t r e 0 k ∧ Popped s t r ∧ QidHolds t k 2 1 j
                ∧ job t j = some x ∧ x.index = i ∧ x.cq.toNat = aF b 0 23 16 ∧ (blockInSlice s b (ownCoord s) = true → x.vcEn.toNat = aF b 0 31 24)
                ∧ x.rttBase = base ∧ x.rttCount = aF b 0 49 32 ∧ x.image = none ∧ x.next = none
                ∧ (∀ j', j' ≠ j → job t j' = job s j')
                ∧ getF t (SWC_JOB 0 i) SWC_JOB_VALID = 1 ∧ getF t (SWC_JOB 0 i) SWC_JOB_JOB_ID = j
                ∧ (∀ d, d < 4 → getF t (SWC_JOBQ d i) SWC_JOBQ_P3_QUOTA = aQuota b d)
                ∧ (∀ n y, (aRanks b)[n]? = some y → reg t (SWC_RTT 0 (base + n)) = BitVec.ofNat 64 y.1
                    ∧ reg t (SWC_RTT_W1 0 (base + n)) = BitVec.ofNat 64 y.2)
                ∧ t.mem = s.mem ∧ t.cores = s.cores ∧ t.coll = s.coll)))
    ∧ ((wordAt e.words 0).toNat % 2 ^ 8 = 4 → FormOk e [] →
      (job s j = none → ∃ t, exec (.jobEnd r) s = .next t ∧ OnlyCompleted s t r e 0x04 0)
      ∧ (∀ x, job s j = some x → jobQuiesced s j = false → ∃ t c, exec (.jobEnd r) s = .next t ∧ Popped s t r
          ∧ Entered s t x.cq.toNat c ∧ c.kind = 4 ∧ c.job = shownJob (BitVec.ofNat 16 j) ∧ (wordAt c.body 0).toNat = 0x07
          ∧ CsrKept s t (ringRegs x.cq.toNat) ∧ CmdRingsKept s t [r.val]
          ∧ { t with crings := s.crings, csr := s.csr, qrings := s.qrings, objs := s.objs, out := s.out } = s)
      ∧ (∀ x, job s j = some x → jobQuiesced s j = true → JobInTables x → WakeAlarms s → s.pwr.starved = [] →
          (∀ y ∈ s.coll.launches, y.job ≠ j) → (∀ a ∈ s.ftu.owner, a.1 < 960) → (∀ q ∈ s.qids, q.1 < 64) →
          (∀ c ∈ s.coll.csets, c.slot < 1024) →
          ∃ t c, exec (.jobEnd r) s = .next t ∧ Popped s t r
            ∧ Entered s t x.cq.toNat c ∧ c.kind = 4 ∧ c.job = shownJob (BitVec.ofNat 16 j) ∧ (wordAt c.body 0).toNat = 0
            ∧ job t j = none ∧ (∀ j', j' ≠ j → job t j' = job s j')
            ∧ getF t (SWC_JOB 0 x.index) SWC_JOB_VALID = 0
            ∧ (∀ i ∈ x.circuits, getF t (HUB_CIRCUIT i) HUB_CIRCUIT_VALID = 0)
            ∧ (∀ i ∈ x.regions, getF t (MEM_REGION i) MEM_REGION_VALID = 0)
            ∧ (∀ i ∈ t.coll.flow, i.2.job ≠ j) ∧ (∀ g ∈ t.coll.groups, g.job ≠ j) ∧ (∀ c ∈ t.coll.csets, c.job ≠ j)
            ∧ (∀ n, n < 80 → j ≠ 0 → (core t n).job.toNat ≠ j)
            ∧ (∀ n, j ≠ 0 → (obj t n).job.toNat ≠ j) ∧ t.mem = s.mem))

/-- R180, R210, R219, R236, R239, R241: every word, descriptor and Z-F instruction that the loader accepts spells a well-formed
command by its operation code: a 32-bit word and a 64-bit instruction by OP, a descriptor by OPCODE and a SYNC also by SOP. -/
def Sys2Proof.Machine.Claims.AcceptedWordsSpellCommands : Prop :=
  (∀ (n : CoreId) (code : List (BitVec 32)) (i x : Nat), shortStatus code i x = 0 →
      ∃ c, spelledShort (.core n) x = some c ∧ c.wf = true)
  ∧ (∀ (u : ZsUnit) (code : List (BitVec 32)) (i x imm : Nat), longStatus code i x imm = 0 →
      ∃ c, spelledLong u x imm = some c ∧ c.wf = true)
  ∧ (∀ (n : CoreId) (d : BitVec 128), descStatus d = 0 → ∃ c, spelledDesc n d = some c ∧ c.wf = true)
  ∧ (∀ (e : Engine) (l : Nat) (ok : Bool) (code : List (BitVec 32)) (k : Nat), flowStatus code k = 0 →
      ∃ c, spelledFlow e l ok (code.getD (2 * k) 0).toNat (code.getD (2 * k + 1) 0).toNat = some c ∧ c.wf = true)

/-- R190, R191, R192, R355, R459: a LOAD for a job that is not admitted and quiesced completes with RESOURCE; otherwise the steps run
in order, and the first that fails gives the status and DETAIL and leaves the job without the image: MAGIC or another
header bit 1, an oversized section 0xB, a profile 2 or a FLOW image without signature 2, one whose signature no
LIBRARY key of the bundle verifies 3, a fingerprint that differs 4, a schedule digest 5, an entry 1, an instruction 6 or 7. A CORE image that passes
becomes the job's next image, its cores holding its code with their registers 0 and no bank; the programs of a FLOW image
wait in the job for its RESTART, those in force staying, and what its tables name is bound. A FLOW image waits at the front
of its ring while the SEC unit has earlier work. A LOAD that binds nothing asleep completes at once. An image in tier 0 with
a failing word ends with 1. -/
def Sys2Proof.Machine.Claims.LoadsBindTheirImages : Prop :=
  ∀ (r : RingId) (s : State) (e : CmdEntry) (j : Nat) (sig : SigCheck) (ops : BitVec 6) (relocs : List (BitVec 48 × Nat × Nat)),
    AtFront s r e → j = jobOfEntry e → (wordAt e.words 0).toNat % 2 ^ 8 = 5 → FormOk e [2, 3] → bits (wordAt e.words 3).toNat 31 1 = 0 →
    (∀ m, job s j = none ∨ jobQuiesced s j = false →
      ∃ t, exec (.load r m sig ops relocs) s = .next t ∧ LoadEnds s t r e 0xA 0 ∧ Popped s t r ∧ t.jobs = s.jobs ∧ t.cores = s.cores)
    ∧ (∀ (x : Job) m st k, job s j = some x → jobQuiesced s j = true → badImage s e = some (st, k) →
      ∃ t, exec (.load r m sig ops relocs) s = .next t ∧ LoadEnds s t r e 1 0 ∧ Popped s t r ∧ t.jobs = s.jobs ∧ t.cores = s.cores)
    ∧ (∀ (x : Job) (w : List Word) v, job s j = some x → jobQuiesced s j = true → bit (wordAt e.words 3).toNat 0 = false → step1 w (bits (wordAt e.words 3).toNat 63 32) = 0 → profile w = 1 →
      hdF w 16 63 32 ≠ 0 → nextWork s = some v → v ≠ .ring r →
      ∃ t, exec (.load r (some w) sig ops relocs) s = .next t ∧ WaitsForSec s t r)
    ∧ (∀ (x : Job) (w : List Word) (len : Nat), (profile w = 1 → HasTurn s r) → job s j = some x → jobQuiesced s j = true → bit (wordAt e.words 3).toNat 0 = false →
        len = bits (wordAt e.words 3).toNat 63 32 →
        let Fails (st d : Nat) : Prop := ∃ t, exec (.load r (some w) sig ops relocs) s = .next t ∧ LoadEnds s t r e st (d % 2 ^ 32)
          ∧ Popped s t r ∧ t.jobs = s.jobs ∧ t.cores = s.cores ∧ t.objs = s.objs ∧ t.coll = s.coll ∧ t.mem = s.mem
        (len < 256 → Fails 1 0)
        ∧ (headerOk w = false → Fails 1 0)
        ∧ (256 ≤ len → 32 ≤ w.length → headerOk w = true → sizesOk w = false → Fails 0xB 0)
        ∧ (step1 w len = 0 → 2 ≤ profile w → Fails 2 0)
        ∧ (step1 w len = 0 → profile w = 1 → hdF w 16 63 32 = 0 → Fails 2 0)
        ∧ (step1 w len = 0 → profile w = 1 → hdF w 16 63 32 ≠ 0 → flowSigOk s sig = false → Fails 3 0)
        ∧ (step1 w len = 0 → step2 s w sig = 0 → hdF w 0 44 44 = 1 → ∀ i, i < 4 → wordAt w (2 + i) ≠ digestWord s.sec.fp i → Fails 4 0)
        ∧ (step1 w len = 0 → step2 s w sig = 0 → step3 s w = 0 → ∀ st d, step4 w = (st, d) → st ≠ 0 → Fails st d)
        ∧ (step1 w len = 0 → step2 s w sig = 0 → step3 s w = 0 → (step4 w).1 = 0 → ∀ st d, step5 w = (st, d) → st ≠ 0 → Fails st d)
        ∧ (∀ d u, step1 w len = 0 → step2 s w sig = 0 → step3 s w = 0 → (step4 w).1 = 0 → (step5 w).1 = 0 → profile w = 1 →
            bindFlow (countVerify (endWork (popEntry s r) (.ring r)) true) j x w len ops relocs = (0, d, u) →
            loadSleepers u j = [] → ScheduleAlarms s j →
            ∃ t y, exec (.load r (some w) sig ops relocs) s = .next t ∧ LoadEnds s t r e 0 0 ∧ Popped s t r
              ∧ job t j = some y ∧ (∀ o, o < 6 → ops.getLsbD o = true → ∃ i, (o, i) ∈ y.flowNext ∧ i.code = codeWords w)
              ∧ (∀ z ∈ x.flowNext, ops.getLsbD z.1 = false → z ∈ y.flowNext)
              ∧ (∀ n, some n ∈ wantCores s w → n < 80 → (core t n).code = codeWords w ∧ (core t n).job = BitVec.ofNat 16 j)
              ∧ { y with flowNext := x.flowNext, cores := x.cores } = x
              ∧ (∀ j', j' ≠ j → job t j' = job s j') ∧ t.coll = s.coll)
        ∧ (∀ st d u, step1 w len = 0 → step2 s w sig = 0 → step3 s w = 0 → (step4 w).1 = 0 → (step5 w).1 = 0 → profile w = 1 →
            bindFlow (countVerify (endWork (popEntry s r) (.ring r)) true) j x w len ops relocs = (st, d, u) → st ≠ 0 → Fails st d)
        ∧ (∀ st d u, step1 w len = 0 → step2 s w sig = 0 → step3 s w = 0 → (step4 w).1 = 0 → (step5 w).1 = 0 → profile w = 0 →
            bindImage (popEntry s r) j x w len relocs = (st, d, u) → st ≠ 0 → Fails st d)
        ∧ (∀ d u, step1 w len = 0 → step2 s w sig = 0 → step3 s w = 0 → (step4 w).1 = 0 → (step5 w).1 = 0 → profile w = 0 →
            bindImage (popEntry s r) j x w len relocs = (0, d, u) → relocs = [] → s.ftu.owner = [] → hdF w 15 63 32 = 0 →
            ScheduleAlarms s j → s.pwr.starved = [] → loadSleepers u j = [] →
            ∃ t y i, exec (.load r (some w) sig ops relocs) s = .next t ∧ LoadEnds s t r e 0 0 ∧ Popped s t r
              ∧ job t j = some y ∧ y.next = some i ∧ i.code = codeWords w ∧ i.entries = entryTable w ∧ y.image = x.image
              ∧ (∀ n, some n ∈ wantCores s w → n < 80 → (core t n).code = codeWords w ∧ (core t n).pc = 0 ∧ (core t n).job = BitVec.ofNat 16 j
                  ∧ (core t n).bank0 = Bank.empty ∧ (core t n).bank1 = Bank.empty ∧ ∀ g : Fin 32, (core t n).g[g] = 0)
              ∧ (∀ j', j' ≠ j → job t j' = job s j')))

/-- R180, R210, R219, R236, R239, R241, R190, R191, R192, R355, R459: both parts hold: `AcceptedWordsSpellCommands` and
`LoadsBindTheirImages`. The model's choices of log entries 34 and 80 enter it. Answers a next state with its effect: LOAD.
-/
def Obligations.LoadsCheckAndBindTheirImages : Prop :=
  AcceptedWordsSpellCommands ∧ LoadsBindTheirImages

/-- R397, R398: QUIESCE refuses a malformed entry, an unknown job, a domain that lies in a QID, and a ninth use of the
table; a port group is quiesced at once and every other domain drains, holding its ring until it is quiesced or its time
has passed, which returns it to running with DRAIN_TIMEOUT. -/
def Sys2Proof.Machine.Claims.DomainsQuiesceOrTimeOut : Prop :=
  (∀ (r : RingId) (s : State) (e : CmdEntry) (kind ident : Nat), AtFront s r e → (wordAt e.words 0).toNat % 2 ^ 8 = 10 →
    kind = bits (wordAt e.words 2).toNat 2 0 → ident = bits (wordAt e.words 2).toNat 31 16 →
    (5 ≤ kind → ∃ t, exec (.quiesce r) s = .next t ∧ OnlyCompleted s t r e 0x01 0)
    ∧ (quiesceOk e = true → kind = 1 → job s ident = none → ∃ t, exec (.quiesce r) s = .next t ∧ OnlyCompleted s t r e 0x04 0)
    ∧ (quiesceOk e = true → kind ≠ 4 → (kind = 1 → job s ident ≠ none) →
        (∃ q ∈ s.qids, getF s (PUP_QER q.1) PUP_QER_STATE ≠ 0 ∧ getF s (PUP_QER q.1) PUP_QER_KIND = kind
          ∧ getF s (PUP_QER q.1) PUP_QER_ID = ident) →
        ∃ t, exec (.quiesce r) s = .next t ∧ OnlyCompleted s t r e 0x06 0)
    ∧ (∀ k, quiesceOk e = true → (kind = 1 → job s ident ≠ none) → quiesceBusy s e = false →
        k < 64 → getF s (PUP_QER k) PUP_QER_STATE = 0 → (∀ k', k' < k → getF s (PUP_QER k') PUP_QER_STATE ≠ 0) →
        (kind = 0 → ∃ t, exec (.quiesce r) s = .next t ∧ CmdEnds s t r e 0 k ∧ Popped s t r ∧ QidHolds t k 2 0 ident
            ∧ CsrKept s t (PUP_QER k :: ringRegs (getF s (HIF_CR_CTRL r) HIF_CR_CTRL_CQ)))
        ∧ (kind = 2 ∨ kind = 3 → ∃ t, exec (.quiesce r) s = .next t ∧ (cring t r).serial = true ∧ Popped s t r ∧ QidHolds t k 1 kind ident
            ∧ CsrKept s t [PUP_QER k] ∧ CmdRingsKept s t [r.val] ∧ { t with csr := s.csr, crings := s.crings, qids := s.qids } = s)
        ∧ (kind = 1 → (∀ a ∈ s.ftu.owner, a.1 < 960) → s.pwr.starved = [] →
            ∃ t, exec (.quiesce r) s = .next t ∧ (cring t r).serial = true ∧ Popped s t r ∧ QidHolds t k 1 1 ident
            ∧ (∀ a ∈ alarmsOfJob s ident, getF t (FTU_ALARM_CTRL a) FTU_ALARM_CTRL_EN = 0)
            ∧ t.cores = s.cores ∧ t.coll = s.coll ∧ t.jobs = s.jobs ∧ t.mem = s.mem)))
  ∧ (∀ (k : Fin 64) (s : State) (q : Qid), running s = true → mapFind s.qids k = some q → getF s (PUP_QER k) PUP_QER_STATE = 1 →
      (drained s k q = true → ∃ t, exec (.quiesced k) s = .next t ∧ HeldEnds s t q 0 k ∧ getF t (PUP_QER k) PUP_QER_STATE = 2
          ∧ CsrKept s t (PUP_QER k :: ringRegs (getF s (HIF_CR_CTRL q.ring) HIF_CR_CTRL_CQ)) ∧ CmdRingsKept s t [q.ring.val]
          ∧ { t with csr := s.csr, crings := s.crings, qrings := s.qrings, objs := s.objs, out := s.out } = s)
      ∧ (drained s k q = false → exec (.quiesced k) s = .next s)
      ∧ (drained s k q = false → q.stopped = [] → WakeAlarms s → s.pwr.starved = [] → q.jobs = [] → getF s (PUP_QER k) PUP_QER_KIND = 2 →
          ∃ t, ∃ u : State, exec (.drainTimeout k) s = .next t
            ∧ u.ftu = { s.ftu with
                ft := max s.ftu.ft ((q.since.toNat + max 1 (getF s PUP_QER_TIMEOUT PUP_QER_TIMEOUT_MS) * 1000000) % 2 ^ 64 * 65536) }
            ∧ HeldEnds { s with ftu := u.ftu } t q 0x08 k ∧ getF t (PUP_QER k) PUP_QER_STATE = 0 ∧ mapFind t.qids k = none
            ∧ getF t PUP_STATUS PUP_STATUS_TIMEOUT_EVENT = 1))

/-- R399, R400: RESTART refuses a malformed entry with BAD_CMD, a QID that is not quiesced with NOT_QUIESCED, an FT less
than 20 µs ahead with LATE, gate lists and shapers that break their rules with GATE_REJECT, and regions that would meet
with REGION, the QIDs staying quiesced; otherwise they are RESTARTING and at the FT every edit of the domain is in force,
the QIDs are free, and the command completes. -/
def Sys2Proof.Machine.Claims.RestartsTakeTheirEdits : Prop :=
  (∀ (r : RingId) (s : State) (e : CmdEntry) (x : Word), AtFront s r e → (wordAt e.words 0).toNat % 2 ^ 8 = 11 → x = wordAt e.words 2 →
    (restartOk e = false → ∃ t, exec (.restart r) s = .next t ∧ OnlyCompleted s t r e 0x01 0)
    ∧ (restartOk e = true → (∃ k ∈ e.qids, getF s (PUP_QER k) PUP_QER_STATE ≠ 2) →
        ∃ t, exec (.restart r) s = .next t ∧ OnlyCompleted s t r e 0x07 0)
    ∧ (restartOk e = true → (∀ k ∈ e.qids, getF s (PUP_QER k) PUP_QER_STATE = 2) →
        (x.toNat < (now s).toNat + 20000 → ∃ t, exec (.restart r) s = .next t ∧ OnlyCompleted s t r e 0x09 0)
        ∧ ((now s).toNat + 20000 ≤ x.toNat →
          (∀ k ∈ e.qids, gateRejects (popEntry s r) e.qids k = true → ∃ t, exec (.restart r) s = .next t ∧ OnlyCompleted s t r e 0x0A 0)
          ∧ ((∀ k ∈ e.qids, gateRejects (popEntry s r) e.qids k = false) → regionRejects (popEntry s r) e.qids = true →
              ∃ t, exec (.restart r) s = .next t ∧ OnlyCompleted s t r e 0x0B 0)
          ∧ (∀ k, e.qids = [k] → k < 64 → gateRejects (popEntry s r) e.qids k = false → regionRejects (popEntry s r) e.qids = false →
              ∀ q, mapFind s.qids k = some q → WakeAlarms s → s.pwr.starved = [] →
              ∃ t, exec (.restart r) s = .next t ∧ (cring t r).serial = true ∧ Popped s t r
                ∧ getF t (PUP_QER k) PUP_QER_STATE = 3
                ∧ mapFind t.qids k = some { q with
                    ring := r, index := e.index, tag := ((wordAt e.words 0).extractLsb' 32 32), restartFt := x, group := [k] }
                ∧ t.mem = s.mem ∧ t.jobs = s.jobs))))
  ∧ (∀ (k : Fin 64) (s : State) (q : Qid) (off : Nat) (v : Word), running s = true → mapFind s.qids k = some q →
      getF s (PUP_QER k) PUP_QER_STATE = 3 → getF s (PUP_QER k) PUP_QER_KIND = 2 → q.group = [k.val] → q.jobs = [] →
      off = RED_CTRL (qidId s k) → qidId s k < 16 → s.edits = [(off, some v)] → WakeAlarms s → s.pwr.starved = [] →
      isSet s off RED_CTRL_EN = false →
      ∃ t, ∃ u : State, exec (.restartFt k) s = .next t ∧ u.ftu = { s.ftu with ft := max s.ftu.ft (q.restartFt.toNat * 65536) }
        ∧ HeldEnds { s with ftu := u.ftu } t q 0 0 ∧ reg t off = mergeRwq off (reg s off) v ∧ t.edits = []
        ∧ getF t (PUP_QER k) PUP_QER_STATE = 0 ∧ mapFind t.qids k = none)

/-- R397, R398, R399, R400: both parts hold: `DomainsQuiesceOrTimeOut` and `RestartsTakeTheirEdits`. The model's choices
of log entries 32 and 33 enter it. Each answers a next state with its effect: QUIESCE, QUIESCED, DRAIN_TIMEOUT, RESTART,
RESTART_FT. -/
def Obligations.DomainsQuiesceAndRestart : Prop :=
  DomainsQuiesceOrTimeOut ∧ RestartsTakeTheirEdits

namespace Sys2Proof.Machine.Claims

/-! ### Provenance, attestation, owners, the management port (R371–R378, R403, R404, R461, R464, R470) -/

/-- One PROV completion of a job with a status, a RECORD_ID and a COOKIE (R374, Table 15.5). -/
def ProvEnds (s t : State) (x : Job) (index : BitVec 16) (j status id : Nat) (cookie : Word) : Prop :=
  ∃ c : Cpl, Entered s t x.cq.toNat c ∧ c.kind = 3 ∧ c.cmdIndex = index ∧ c.job = BitVec.ofNat 16 j
    ∧ (wordAt c.body 0).toNat = status ∧ (wordAt c.body 1).toNat = id ∧ wordAt c.body 2 = cookie

/-- A request has failed without a record, and SEC_CNT_PROV counts it. -/
def FailCounted (s t : State) : Prop :=
  getF t SEC_CNT_PROV SEC_CNT_PROV_FAILED = min (getF s SEC_CNT_PROV SEC_CNT_PROV_FAILED + 1) (2 ^ SEC_CNT_PROV_FAILED.w - 1)

/-- A record has been written for the request at the front (R374, R375, R377): 32 words to RECORD_ADDR, with STATUS,
JOB_ID, RECORD_ID, COOKIE and, of a failed request, no digest; it is kept, counted, and named by its completion. -/
def RecordWritten (s t : State) (q : ProvReq) (x : Job) (status : Nat) (ws : List Word) : Prop :=
  (∃ l, t.out = l ++ .hostWrite (wordAt q.words 3) ws :: s.out) ∧ ws.length = 32
    ∧ (wordAt ws 0).toNat % 2 ^ 8 = status ∧ (wordAt ws 0).extractLsb' 16 16 = q.job
    ∧ (wordAt ws 1).toNat = s.sec.nextRecord.toNat ∧ wordAt ws 3 = wordAt q.words 4
    ∧ (status ≠ 0 → ∀ i, 8 ≤ i → wordAt ws i = 0)
    ∧ t.sec.nextRecord = s.sec.nextRecord + 1
    ∧ t.sec.records.getLast? = some ⟨s.sec.nextRecord, q.job, ws⟩ ∧ t.sec.prov.length = s.sec.prov.length - 1
    ∧ ProvEnds s t x q.index q.job.toNat status s.sec.nextRecord.toNat (wordAt q.words 4)
    ∧ getF t SEC_CNT_PROV SEC_CNT_PROV_WRITTEN = min (getF s SEC_CNT_PROV SEC_CNT_PROV_WRITTEN + 1) (2 ^ SEC_CNT_PROV_WRITTEN.w - 1)
    ∧ getF t SEC_CNT_PROV SEC_CNT_PROV_FAILED
        = min (getF s SEC_CNT_PROV SEC_CNT_PROV_FAILED + if status = 0 then 0 else 1) (2 ^ SEC_CNT_PROV_FAILED.w - 1)
    ∧ CsrKept s t ([SEC_CNT_PROV, SEC_PROV_STATUS, HIF_MSIX_PEND 4] ++ ringRegs x.cq.toNat)

/-- An event: its bit stands, and its message or pending bit follows; no register changes besides. -/
def EventSet (s t : State) (off : Nat) (f : Fld) (more : List Nat) : Prop :=
  getF t off f = 1 ∧ CsrKept s t (off :: HIF_MSIX_PEND 4 :: more)

/-- The digest of a slot as its four registers show it. -/
def digestRegs (t : State) (at0 : Nat → Nat) (d : BitVec 256) : Prop := ∀ i, i < 4 → peek t (at0 i) = digestWord d i

/-- One closed record of a KIND and code has been written to both copies of the ring, at the slot of its SEQ (R430, R437,
Table 17.4). Said for a black box whose cells hold. -/
def Logged (s t : State) (kind code src : Nat) (detail : BitVec 32) : Prop :=
  s.flt.bbBad = [] → t.flt.nextSeq = s.flt.nextSeq + 1
    ∧ ∀ base, base = 0x0200000 ∨ base = 0x0400000 → ∀ a, a = base + 64 * (s.flt.nextSeq.toNat % 32768) →
      (bbAt t a).extractLsb' 0 32 = s.flt.nextSeq ∧ ((bbAt t a).extractLsb' 36 4).toNat = kind
        ∧ bbAt t (a + 8) = now t ∧ (bbAt t (a + 16)).extractLsb' 0 32 = detail
        ∧ ((bbAt t (a + 24)).extractLsb' 0 8).toNat = src ∧ ((bbAt t (a + 24)).extractLsb' 8 8).toNat = code

end Sys2Proof.Machine.Claims

/-- R371, R374, R376, R377: a PROV command queues its request; one whose request host memory does not give, or whose entry
is malformed, completes without a record (a model's choice, log entry 46), and one that lacks its span list fails with
HOST_READ. When the SEC unit comes to a request, the record of its spans is written, or one with the status of the first
rule it breaks; a wait that has been met stays met, and one that lasts longer than STEP_LIMIT ends with TIMEOUT. Each
answers a next state with its effect: PROV, PROV_RECORD_WRITE, PROV_WAIT_TIMEOUT. -/
def Obligations.ProvenanceRecordsAreWritten : Prop :=
  (∀ (r : RingId) (s : State) (e : CmdEntry) (x : Job) (w : List Word), AtFront s r e → (wordAt e.words 0).toNat % 2 ^ 8 = 9 →
    (job s (jobOfEntry e) = none → ∀ b, ∃ t, exec (.prov r b) s = .next t ∧ OnlyCompleted s t r e 0x04 0)
    ∧ (job s (jobOfEntry e) = some x → FormOk e [2] → ∃ t, exec (.prov r (some w)) s = .next t ∧ Popped s t r
        ∧ t.sec.prov = s.sec.prov ++ [⟨r, e.index, (wordAt e.words 0).extractLsb' 32 32, (wordAt e.words 0).extractLsb' 16 16, w, now s,
            false, decide (w.length < 8 + 2 * ((wordAt w 0).extractLsb' 16 7).toNat)⟩]
        ∧ t.sec.work = s.sec.work ++ [.prov] ∧ getF t SEC_PROV_STATUS SEC_PROV_STATUS_BUSY = 1
        ∧ CsrKept s t [SEC_PROV_STATUS] ∧ CmdRingsKept s t [r.val] ∧ { t with csr := s.csr, crings := s.crings, sec := s.sec } = s)
    ∧ (job s (jobOfEntry e) = some x → FormOk e [2] → ∃ t, exec (.prov r none) s = .next t ∧ Popped s t r
        ∧ ProvEnds s t x e.index (jobOfEntry e) 5 s.sec.nextRecord.toNat 0 ∧ FailCounted s t ∧ t.sec = s.sec)
    ∧ (job s (jobOfEntry e) = some x → ¬ FormOk e [2] → ∀ b, ∃ t, exec (.prov r b) s = .next t ∧ Popped s t r
        ∧ ProvEnds s t x e.index (jobOfEntry e) 1 s.sec.nextRecord.toNat 0 ∧ FailCounted s t ∧ t.sec = s.sec))
  ∧ (∀ (roots : List (Option (BitVec 256))) (s : State) (q : ProvReq) (l : List ProvReq) (x : Job) (j : Nat), running s = true →
      s.sec.prov = q :: l → nextWork s = some .prov → provReady s q = true → j = q.job.toNat → job s j = some x →
      (q.lost = true → ∃ t ws, exec (.provRecordWrite roots) s = .next t ∧ RecordWritten s t q x 5 ws)
      ∧ (q.lost = false → reqOk s j q.words = false → ∃ t ws, exec (.provRecordWrite roots) s = .next t ∧ RecordWritten s t q x 1 ws)
      ∧ (∀ st ls, q.lost = false → reqOk s j q.words = true → allSpans s j (spans q.words) roots = (st, ls) → st ≠ 0 →
          ∃ t ws, exec (.provRecordWrite roots) s = .next t ∧ RecordWritten (if st = 4 then spanErrors s q else s) t q x st ws)
      ∧ (∀ ls, q.lost = false → reqOk s j q.words = true → allSpans s j (spans q.words) roots = (0, ls) →
          ∃ t ws, exec (.provRecordWrite roots) s = .next t ∧ RecordWritten s t q x 0 ws
              ∧ (wordAt ws 4).toNat % 2 ^ 32 = ((ls.filter (fun y => y.1 != 3)).flatMap Prod.snd).length % 2 ^ 32
              ∧ wordAt ws 2 = now s ∧ (∀ i, i < 4 → wordAt ws (8 + i) = digestWord s.sec.fp i)
              ∧ (∀ d, treeRoot ((ls.filter (fun y => y.1 != 3)).flatMap Prod.snd) = some d → ∀ i, i < 4 → wordAt ws (12 + i) = digestWord d i)
              ∧ (∀ i, i < 4 → wordAt ws (16 + i) = digestWord ((treeRoot ((ls.filter (fun y => y.1 == 3)).flatMap Prod.snd)).getD 0) i)))
  ∧ (∀ (s : State) (q : ProvReq) (l : List ProvReq) (x : Job), running s = true → s.sec.prov = q :: l → nextWork s = some .prov →
      provReady s q = false → job s q.job.toNat = some x → ∃ t ws, ∃ u : State, exec .provWaitTimeout s = .next t
        ∧ u.ftu = { s.ftu with
            ft := max s.ftu.ft ((q.since + BitVec.ofNat 64 (jobLimitNs s q.job.toNat)).toNat * 65536) }
        ∧ RecordWritten { s with ftu := u.ftu } t q x 6 ws)

/-- R470, R471, R457: a REQ write latches the body and starts a report while the keys are ready, and refuses with STATUS
KEYS otherwise; STATUS is NONE until it is signed, and a REQ made while it is in progress has no effect. When it is signed,
REQ clears, LENGTH gives its bytes, its 128-byte header, body, DEVICE_CERT and the two signatures by the device's keys
stand behind SEC_ATT_DATA, and ATT_DONE_EVENT is set. -/
def Sys2Proof.Machine.Claims.AttestationReportsAreSigned : Prop :=
  (∀ s : State, secRuns s = true →
    (getF s SEC_ATT_CTRL SEC_ATT_CTRL_REQ = 1 → exec .attestationRequest s = .next s)
    ∧ (getF s SEC_ATT_CTRL SEC_ATT_CTRL_REQ = 0 → getF s SEC_STATUS SEC_STATUS_KEYS_READY = 0 → ∃ t, exec .attestationRequest s = .next t
        ∧ getF t SEC_ATT_CTRL SEC_ATT_CTRL_STATUS = 1 ∧ getF t SEC_ATT_CTRL SEC_ATT_CTRL_LENGTH = 0
        ∧ getF t SEC_ATT_CTRL SEC_ATT_CTRL_REQ = 0 ∧ CsrKept s t [SEC_ATT_CTRL]
        ∧ { t with csr := s.csr, sec := s.sec } = s ∧ t.sec = { s.sec with report := [] })
    ∧ (getF s SEC_ATT_CTRL SEC_ATT_CTRL_REQ = 0 → getF s SEC_STATUS SEC_STATUS_KEYS_READY = 1 → ∃ t, exec .attestationRequest s = .next t
        ∧ getF t SEC_ATT_CTRL SEC_ATT_CTRL_STATUS = 2 ∧ getF t SEC_ATT_CTRL SEC_ATT_CTRL_LENGTH = 0
        ∧ getF t SEC_ATT_CTRL SEC_ATT_CTRL_REQ = 1 ∧ CsrKept s t [SEC_ATT_CTRL]
        ∧ { t with csr := s.csr, sec := s.sec } = s
        ∧ t.sec = { s.sec with report := [], body := t.sec.body, work := s.sec.work ++ [.attest] }
        ∧ t.sec.body.length = 288
        ∧ (∀ i, i < 4 → BitVec.ofNat 64 (ofBytes ((t.sec.body.drop (8 * i)).take 8)) = reg s (SEC_ATT_QUOTE i))
        ∧ BitVec.ofNat 64 (ofBytes ((t.sec.body.drop 32).take 8)) = deviceId s
        ∧ BitVec.ofNat 64 (ofBytes ((t.sec.body.drop 40).take 8)) = now s
        ∧ ((t.sec.body.drop 128).take 32) = digestBytes s.sec.fp))
  ∧ (∀ (random : List Byte) (s : State) (n m : Nat) (cert : Certificate), secRuns s = true → nextWork s = some .attest →
      cert = s.sec.cfg.deviceCert → m = 128 + s.sec.body.length + (865 + cert.sigSlh.length) → n = m + 384 + 29792 → n < 65536 →
      ∃ t, exec (.attestationSigned random) s = .next t ∧ getF t SEC_ATT_CTRL SEC_ATT_CTRL_STATUS = 0
        ∧ t.sec.report.length = n ∧ (t.sec.report.take m).drop 128 = s.sec.body ++ certBytes cert
        ∧ (∀ k, s.sec.keys = some k → t.sec.report.drop m
            = toBytes 384 (Config.rsaSign k.1 (t.sec.report.take m) (random.take 48)).toNat
              ++ toBytes 29792 (Config.slhSign k.2 (t.sec.report.take m) (random.drop 48)).toNat)
        ∧ t.sec = { s.sec with report := t.sec.report, work := s.sec.work.erase .attest }
        ∧ getF t SEC_ATT_CTRL SEC_ATT_CTRL_REQ = 0 ∧ getF t SEC_ATT_CTRL SEC_ATT_CTRL_LENGTH = n
        ∧ EventSet s t SEC_STATUS SEC_STATUS_ATT_DONE_EVENT [SEC_ATT_CTRL] ∧ { t with csr := s.csr, sec := s.sec, out := s.out } = s)

/-- R403, R404, R461, R464: after READY an OWNER record is accepted when it verifies and its own root (an empty slot) or
the owner's (a full one) certifies it, its turn in the SEC unit having come, and SEC counts it; a bundle by PLDM goes into the slot that did not boot, numbered
after the booted one; PLDM reads the sensors, rails and HBM stacks, and ENTDAA gives the address and reads the provisioned ID. -/
def Sys2Proof.Machine.Claims.TheManagementPortServes : Prop :=
  (∀ (o : Signed) (c : SigCheck) (byOwnRoot byOwner byRoot : Bool) (root : PubKeys) (s : State) (ok : Bool), running s = true →
    getF s HUB_BOOT HUB_BOOT_READY = 1 → (s.nvm.owner = none → root = ownerRoot o ∧ byRoot = byOwnRoot) →
    (∀ r, s.nvm.owner = some r → root = ownerRoot r ∧ byRoot = byOwner) →
    (ok = true ↔ c.rsaOk = true ∧ c.slhOk = true ∧ byRoot = true ∧ objOk o 4 4 [keysDigest root] = true) →
    (nextWork s ≠ none → ∃ t, exec (.ownerSet o c byOwnRoot byOwner) s = .next t ∧ t.sec.work = s.sec.work ++ [.owner o] ∧ WorkFrame s t)
    ∧ (ok = true → s.flt.bbBad = [] → nextWork s = none → ∃ t, exec (.ownerSet o c byOwnRoot byOwner) s = .next t
        ∧ t.nvm = { s.nvm with owner := some o } ∧ digestRegs t SEC_OWNER_DIGEST (objDigest o) ∧ getF t SEC_STATUS SEC_STATUS_OWNED = 1 ∧ getF t SEC_STATUS SEC_STATUS_OWNER_EVENT = 1
        ∧ getF t SEC_CNT_VERIFY SEC_CNT_VERIFY_ACCEPTED
            = min (getF s SEC_CNT_VERIFY SEC_CNT_VERIFY_ACCEPTED + 1) (2 ^ SEC_CNT_VERIFY_ACCEPTED.w - 1)
        ∧ Logged s t 4 0x03 173 0 ∧ { t with csr := s.csr, nvm := s.nvm, flt := s.flt, out := s.out } = s)
    ∧ (ok = false → nextWork s = none → ∃ t, exec (.ownerSet o c byOwnRoot byOwner) s = .next t
        ∧ EventSet s t SEC_STATUS SEC_STATUS_VERIFY_FAIL_EVENT [SEC_CNT_VERIFY]
        ∧ getF t SEC_CNT_VERIFY SEC_CNT_VERIFY_REJECTED
            = min (getF s SEC_CNT_VERIFY SEC_CNT_VERIFY_REJECTED + 1) (2 ^ SEC_CNT_VERIFY_REJECTED.w - 1)
        ∧ { t with csr := s.csr, out := s.out } = s)
    ∧ (∀ pf, nextWork s = some (.owner o) → byOwnRoot = (c.certRsaOk && c.certSlhOk) → byOwner = byOwnRoot →
        ∃ t, exec (.verificationComplete c pf) s = .next t ∧ t.sec.work = s.sec.work.erase (.owner o)
        ∧ t.nvm = (if ok then { s.nvm with owner := some o } else s.nvm)
        ∧ { t with csr := s.csr, nvm := s.nvm, sec := s.sec, flt := s.flt, out := s.out } = s))
  ∧ (∀ (img : BundleImage) (c : SigCheck) (s : State) (n : BitVec 32) (b : BundleImage), running s = true → bundleOk s img c = true →
      (getF s HUB_BOOT HUB_BOOT_SOURCE = 0 → s.nvm.slot0 = some (n, b) → ∃ t, exec (.pldmFirmwareUpdate img c) s = .next t
        ∧ t.nvm = { s.nvm with slot1 := some (n + 1, img) } ∧ CsrKept s t [SEC_CNT_VERIFY] ∧ { t with csr := s.csr, nvm := s.nvm } = s)
      ∧ (getF s HUB_BOOT HUB_BOOT_SOURCE = 1 → s.nvm.slot1 = some (n, b) → ∃ t, exec (.pldmFirmwareUpdate img c) s = .next t
        ∧ t.nvm = { s.nvm with slot0 := some (n + 1, img) } ∧ CsrKept s t [SEC_CNT_VERIFY] ∧ { t with csr := s.csr, nvm := s.nvm } = s))
  ∧ (∀ (k : Fin 64) (s : State), pmRuns s = true →
      (k.val < 60 → ∃ t, exec (.pldmMonitoring false k) s = .next t ∧ t = { s with out := .read (reg s (PWR_TEMP k)) :: s.out })
      ∧ (k.val < 11 → ∃ t v, exec (.pldmMonitoring true k) s = .next t ∧ t = { s with out := .read v :: s.out }
          ∧ v.extractLsb' 0 32 = (reg s (PWR_RAIL k)).extractLsb' 0 32)
      ∧ (∀ rail h, exec (.pldmMonitoring rail k (some h)) s = .next { s with out := .read (reg s (PWR_HBM_TEMP h)) :: s.out }))
  ∧ (∀ (a : BitVec 7) (s : State), standby s = true → (s.boot.mgmtAddr = none → mgmtAddress s = 0x4C) ∧ exec (.entdaa a) s = .next { s with
      boot := { s.boot with mgmtAddr := some a }
      out := .read (Config.mipiId.setWidth 64 <<< 32 ||| ((deviceId s).extractLsb' 0 32).setWidth 64) :: s.out })

/-- R470, R471, R457, R403, R404, R461, R464: both parts hold: `AttestationReportsAreSigned` and
`TheManagementPortServes`. The model's choices of log entries 5, 47, 48 and 91 enter it. Each answers a next state with
its effect: ATTESTATION_REQUEST, ATTESTATION_SIGNED, OWNER_SET, VERIFICATION_COMPLETE, PLDM_FIRMWARE_UPDATE,
PLDM_MONITORING, ENTDAA. -/
def Obligations.ReportsAndRecordsAreServed : Prop :=
  AttestationReportsAreSigned ∧ TheManagementPortServes

namespace Sys2Proof.Machine.Claims

/-! ### Faults, HALT, the black box, tests (R429–R451, R156–R158, R487) -/

/-- The open record has been closed and written with its CLOSED bit to both copies (R431, R437). -/
def Closed (s t : State) (r : EventRec) : Prop :=
  t.flt.cur = none ∧ getF t FLT_STATUS FLT_STATUS_OPEN = 0
    ∧ (s.flt.bbBad = [] → ∀ base, base = 0x0200000 ∨ base = 0x0400000 →
        (bbAt t (base + 64 * (r.seq.toNat % 32768))).extractLsb' 0 32 = r.seq
        ∧ (bbAt t (base + 64 * (r.seq.toNat % 32768))).getLsbD 35 = true)

/-- Every ring register that a HALT clears. -/
def haltRegs : List Nat := (List.range 256).map HIF_CR_CTRL ++ (List.range 256).map HIF_QR_CTRL

/-- The device has halted for a cause of a source (R441, Table 17.6): latch, HALT fault, HALTED, rings off, snapshot and
seal to follow. -/
def Halted (s t : State) (src cause : Nat) (detail : BitVec 32) (forced : Bool) (job : BitVec 16 := 0xFFFF) : Prop :=
  t.boot = { s.boot with halt := true } ∧ (outPins t).haltN = false ∧ (∀ q, laneIdle t q = true) ∧ Raised s t src cause 3 job detail forced
    ∧ getF t FLT_STATUS FLT_STATUS_HALTED = 1
    ∧ (∀ r, r < 256 → getF t (HIF_CR_CTRL r) HIF_CR_CTRL_EN = 0 ∧ getF t (HIF_QR_CTRL r) HIF_QR_CTRL_EN = 0)
    ∧ (isSet s FLT_STATUS FLT_STATUS_SEALED = false → s.flt.bbBad = [] → ∃ r, t.flt.cur = some r ∧ t.flt.snap = some (now s, r.seq)
        ∧ t.flt.haltRec = some (now s, r))
    ∧ t.flt.haltForced = forced
    ∧ CsrKept s t (haltRegs ++ faultRegs src 3) ∧ { t with csr := s.csr, flt := s.flt, boot := s.boot, out := s.out } = s

/-- A copy of an area of the black box holds a list of words behind its 64-byte header: FT, SEQ and the SEALED flag, its length
and a CRC-32C (R438, R443). The header's layout is the model's choice (log entry 95). -/
def AreaHolds (t : State) (base : Nat) (ft : Word) (seq : BitVec 32) (sealed : Bool) (ws : List Word) : Prop :=
  bbAt t base = ft ∧ (bbAt t (base + 8)).extractLsb' 0 32 = seq ∧ (bbAt t (base + 8)).getLsbD 32 = sealed
    ∧ (bbAt t (base + 16)).toNat = 64 + 8 * ws.length
    ∧ (∀ i, i < ws.length → bbAt t (base + 64 + 8 * i) = wordAt ws i)
    ∧ bbAt t (base + 56) = zext (crc32c (wordsToBytes ((List.range 7).map (fun i => bbAt t (base + 8 * i)) ++ ws)))

/-- A core's SRAM and register state stand at another (R156). -/
def CoreMoved (s t : State) (p q : Nat) : Prop :=
  (∀ k, k < 0x1000000 → rdByte t (coreKey q + k) = rdByte s (coreKey p + k) ∧ rdByte t (coreKey p + k) = 0)
    ∧ (∀ k, (k < coreKey p ∨ coreKey p + 0x1000000 ≤ k) → (k < coreKey q ∨ coreKey q + 0x1000000 ≤ k) → rdByte t k = rdByte s k)

/-- A test of a unit runs, for a reason. -/
def TestRuns (t : State) (n reason : Nat) : Prop := (n, reason) ∈ t.flt.tests ∧ getF t (CORE_STATUS n) CORE_STATUS_STATE = 4

/-- FT has moved on to an instant in ns, unless it stood there already, and nothing else of the FTU has changed. -/
def ReachesFt (s t : State) (at0 : Nat) : Prop := t.ftu = { s.ftu with ft := max s.ftu.ft (at0 % 2 ^ 64 * 65536) }

/-- The cores of a cluster but two: enabled, and with no entry that waits to begin. -/
def OthersServe (s : State) (c p q : Nat) : Prop :=
  ∀ m, m / 5 = c → m ≠ p → m ≠ q → isSet s (CORE_CTRL m) CORE_CTRL_EN = true ∧ (core s m).dueEntries = []

end Sys2Proof.Machine.Claims

/-- R431, R434: FLT_ACK with the open record's SEQ and MERGE_CNT closes it, and any other write sets ACK_STALE_EVENT;
FLT_FORCE raises the fault it describes with FORCED, takes its recovery only with ACT, and halts only with ACT and
HALT_FORCE_EN. -/
def Sys2Proof.Machine.Claims.FaultsAreAcknowledgedAndForced : Prop :=
  (∀ (src : Fin 3) (v : Word) (s : State), src.val < 2 → writable s src FLT_ACK = true →
    (∀ r, s.flt.cur = some r → fget FLT_ACK_SEQ v = r.seq.toNat → fget FLT_ACK_MERGE_CNT v = r.mergeCnt.toNat → s.flt.bbBad = [] →
      ∃ t, exec (.fltAck src v) s = .next t ∧ Closed s t r ∧ CsrKept s t [FLT_STATUS] ∧ { t with csr := s.csr, flt := s.flt } = s
        ∧ { t.flt with cur := s.flt.cur, bb := s.flt.bb } = s.flt)
    ∧ ((∀ r, s.flt.cur = some r → fget FLT_ACK_SEQ v ≠ r.seq.toNat ∨ fget FLT_ACK_MERGE_CNT v ≠ r.mergeCnt.toNat) →
      ∃ t, exec (.fltAck src v) s = .next t ∧ EventSet s t FLT_STATUS FLT_STATUS_ACK_STALE_EVENT []
        ∧ { t with csr := s.csr, out := s.out } = s))
  ∧ (∀ (v : Word) (s : State), exec (.fltAck 2 v) s = .next s)
  ∧ (∀ (n : Fin 192) (v : Word) (s : State) (j : BitVec 16) (d : BitVec 32) (cause cls : Nat), fltOpen s = true →
      cause = fget FLT_FORCE_CAUSE v → cls = fget FLT_FORCE_CLASS v → j.toNat = fget FLT_FORCE_JOB_ID v → d.toNat = fget FLT_FORCE_DETAIL v →
      (cls < 3 → fget FLT_FORCE_ACT v = 0 ∨ cls = 0 → ∃ t, exec (.fltForce n v) s = .next t ∧ Raised s t n cause cls j d true
        ∧ CsrKept s t (faultRegs n cls) ∧ { t with csr := s.csr, flt := s.flt, out := s.out } = s)
      ∧ (cls = 3 → fget FLT_FORCE_ACT v = 0 ∨ isSet s FLT_CTRL FLT_CTRL_HALT_FORCE_EN = false → ∃ t, exec (.fltForce n v) s = .next t
        ∧ Raised s t n cause 3 j d true ∧ t.boot = s.boot
        ∧ CsrKept s t (faultRegs n 3) ∧ { t with csr := s.csr, flt := s.flt, out := s.out } = s)
      ∧ (cls = 3 → fget FLT_FORCE_ACT v = 1 → isSet s FLT_CTRL FLT_CTRL_HALT_FORCE_EN = true → ∃ t, exec (.fltForce n v) s = .next t
        ∧ Halted s t n cause d true j)
      ∧ (cls = 1 → fget FLT_FORCE_ACT v = 1 → n.val < 80 → (core s n).running = true → (core s n).trap = none →
        ∃ t, exec (.fltForce n v) s = .next t ∧ Raised s t n cause 1 j d true
          ∧ (core t n).trap = some (BitVec.ofNat 8 (if cause = 1 then d.toNat % 256 else if cause = 2 then 8 else if cause = 7 then 6 else 7))
          ∧ CoresKept s t [n.val]))

/-- R429, R441, R443: a HALT cause latches HALT, raises a HALT fault, disables every ring and starts the seal, and so do a
Puppeteer's missed watchdog and a hub link that does not retrain; a replayed flit is a NOTE. The seal writes the HALT
segment, SEALED and a STATE record, an earlier seal standing; UNSEAL releases it with an ACCESS record. The model's
choices of log entries 49 and 95 enter it. Each answers a next state with its effect: HALT, PUP_FAIL, MESH_DOWN,
MESH_RETRY, SNAPSHOT_WRITTEN, SEALED, UNSEAL. -/
def Obligations.HaltsStopAndAreSealed : Prop :=
  (∀ (n : Fin 192) (c : Byte) (d : BitVec 32) (s : State), pmRuns s = true → s.boot.halt = false →
    (c.toNat ∈ [0x1C, 0x1F, 0x20, 0x21, 0x23] → ∃ t, exec (.halt n c d) s = .next t ∧ Halted s t n c.toNat d false)
    ∧ (c.toNat ∉ [0x1C, 0x1F, 0x20, 0x21, 0x23] → exec (.halt n c d) s = .next s))
  ∧ (∀ s : State, running s = true →
      (∀ p : PupId, ∃ t, exec (.pupFail p) s = .next t ∧ Halted s t (175 + p.val) 0x20 0 false)
      ∧ (∀ l : Fin 10, (∃ t, exec (.meshDown l) s = .next t ∧ Halted s t (160 + l.val) 0x1F 0 false)
          ∧ (∃ t, exec (.meshRetry l) s = .next t ∧ Raised s t (160 + l.val) 0x1E 0 0xFFFF 0
              ∧ CsrKept s t (faultRegs (160 + l.val) 0) ∧ { t with csr := s.csr, flt := s.flt, out := s.out } = s)))
  ∧ (∀ (s : State) (x : Word × BitVec 32), standby s = true → s.flt.snap = some x → s.boot.halt = false → s.flt.bbBad = [] →
      ∃ t, exec .snapshotWritten s = .next t ∧ t.flt.snap = none
        ∧ (∀ base, base = 0x0600000 ∨ base = 0x0800000 → AreaHolds t base x.1 x.2 false ((snapOffs s).map (peek s)))
        ∧ { t with flt := s.flt } = s ∧ { t.flt with snap := s.flt.snap, bb := s.flt.bb } = s.flt)
  ∧ (∀ (worn : List Nat) (s : State) (u : Word) (r : EventRec), standby s = true → s.flt.haltRec = some (u, r) →
      (isSet s FLT_STATUS FLT_STATUS_SEALED = false → ∃ t, exec (.sealed worn) s = .next t
        ∧ (∀ base, base = 0x0F00000 ∨ base = 0x0F80000 → base ∉ s.flt.bbBad → base / 8 ∉ worn →
            AreaHolds t base u r.seq true (segWords s r))
        ∧ getF t FLT_STATUS FLT_STATUS_SEALED = 1 ∧ t.flt.sealedSeq = r.seq ∧ t.flt.haltRec = none ∧ t.flt.snap = none
        ∧ (s.flt.bbBad = [] → worn = [] → t.flt.cur = none
            ∧ (∀ x, s.flt.snap = some x → ∀ base, base = 0x0600000 ∨ base = 0x0800000 →
              AreaHolds t base x.1 x.2 false ((snapOffs s).map (peek s)))
            ∧ (∀ q, s.flt.cur = some q → Closed s t q)
            ∧ ((∀ q, s.flt.cur = some q → q.seq.toNat % 32768 ≠ s.flt.nextSeq.toNat % 32768) → Logged s t 2 0x04 183 r.seq)
            ∧ CsrKept s t [FLT_STATUS] ∧ { t with csr := s.csr, flt := s.flt } = s))
      ∧ (isSet s FLT_STATUS FLT_STATUS_SEALED = true → ∃ t, exec (.sealed worn) s = .next t ∧ t.flt.haltRec = none
        ∧ t.flt.sealedSeq = s.flt.sealedSeq ∧ getF t FLT_STATUS FLT_STATUS_SEALED = 1
        ∧ (∀ k, 0x0F00000 ≤ k → k < 0x1000000 → bbAt t k = bbAt s k)
        ∧ (s.flt.bbBad = [] → worn = [] → t.flt.cur = none ∧ ∀ q, s.flt.cur = some q → Closed s t q)))
  ∧ (∀ s : State, running s = true → s.flt.bbBad = [] →
      (isSet s FLT_STATUS FLT_STATUS_SEALED = true → mapWf (fun _ => (0 : Word)) s.flt.bb = true →
        ∃ t, exec .unseal s = .next t ∧ getF t FLT_STATUS FLT_STATUS_SEALED = 0
        ∧ (bbAt t 0x0F00008).getLsbD 32 = false ∧ (bbAt t 0x0F80008).getLsbD 32 = false
        ∧ Logged s t 4 0x02 183 0 ∧ CsrKept s t [FLT_STATUS] ∧ { t with csr := s.csr, flt := s.flt } = s)
      ∧ (isSet s FLT_STATUS FLT_STATUS_SEALED = false → exec .unseal s = .next s))

/-- R439, R440, R487: each whole second of FT adds one record of power, temperature and levels to the history's page; a
black-box read over MCTP answers its bytes and writes an ACCESS record, after HALT too; the test access port selects its
instruction, and shifts out IDCODE or its bypass bit. -/
def Sys2Proof.Machine.Claims.TheBlackBoxIsKeptAndRead : Prop :=
  (∀ (worn : List Nat) (s : State) (x : Nat) (r : BitVec 32), standby s = true → (now s).toNat < x →
    x < 2 ^ 64 → x % 1000000000 = 0 → (∀ y, (now s).toNat < y → y % 1000000000 = 0 → x ≤ y) →
    r.toNat = min 4095 (s.flt.secWatts / max 1 s.flt.secSamples / 1000) + min s.flt.secTemp 255 * 2 ^ 12
      + s.flt.secPower.toNat * 2 ^ 20 + s.flt.secThermal.toNat * 2 ^ 24
      + b2n s.flt.secThrottled * 2 ^ 28 + b2n s.flt.secEdc * 2 ^ 29 + b2n s.flt.secFault * 2 ^ 30 + b2n s.boot.halt * 2 ^ 31 →
    s.flt.histCount < 1022 → s.flt.histPage < 640 → (0 < s.flt.histCount → s.flt.hist.length = s.flt.histCount + 1) →
    ∃ t, exec (.historyRecord worn) s = .next t ∧ t.ftu = { s.ftu with ft := max s.ftu.ft (x * 65536) }
      ∧ t.flt.histCount = s.flt.histCount + 1 ∧ t.flt.histPage = s.flt.histPage
      ∧ (∀ base, base = 0x0A00000 + 4096 * s.flt.histPage ∨ base = 0x0C80000 + 4096 * s.flt.histPage →
          base ∉ s.flt.bbBad → base / 8 ∉ worn →
          (bbAt t (base + 4 * (1 + s.flt.histCount))).extractLsb' (32 * ((1 + s.flt.histCount) % 2)) 32 = r
          ∧ (s.flt.histCount = 0 → ((bbAt t base).extractLsb' 0 32).toNat = (x / 1000000000 - 1) % 2 ^ 32)
          ∧ (0 < s.flt.histCount → ∀ i v, s.flt.hist[i]? = some v → (bbAt t (base + 4 * i)).extractLsb' (32 * (i % 2)) 32 = v))
      ∧ (s.flt.bbBad = [] → worn = [] →
          (∀ n m, n < 80 → s.boot.rails = true → (n, m) ∈ s.flt.obs → (n, m - 1) ∈ t.flt.obs) ∧ t.flt.secFault = false
          ∧ (∀ o, (∀ b i, o ≠ LNK_LANE_STAT b i) → reg t o = reg s o)
          ∧ { t with flt := s.flt, ftu := s.ftu, csr := s.csr, free := s.free } = s))
  ∧ (∀ (e : Byte) (off : BitVec 24) (k : Nat) (via : MctpTo) (s : State), mctpIn s via = true → s.flt.bbBad = [] →
      ∃ t bs, exec (.mctpBlackBoxRead e off k via) s = .next t ∧ t.out = .readBytes bs :: s.out ∧ bs.length = 8 * k
        ∧ (∀ i, i < k → 0x0200000 ≤ off.toNat → off.toNat + 8 * k ≤ 0x1000000 → off.toNat % 8 = 0 →
            BitVec.ofNat 64 (ofBytes ((bs.drop (8 * i)).take 8)) = bbAt s (off.toNat + 8 * i))
        ∧ Logged s t 4 0x01 183 (e.setWidth 32) ∧ t.boot = (takeEid s via).boot ∧ { t with flt := s.flt, out := s.out, boot := s.boot } = s)
  ∧ (∀ s : State, s.boot.vstby = true → s.boot.rails = true →
      exec (.testAccessPort .reset) s = .next { s with boot := { s.boot with tapIr := .idcode, tapDr := [] } }
      ∧ (∀ i, exec (.testAccessPort (.shiftIr i)) s = .next { s with boot := { s.boot with tapIr := i } })
      ∧ (∀ tdi : List Bool, s.boot.tapIr = .idcode → ∃ l, exec (.testAccessPort (.shiftDr tdi)) s = .next { s with out := .shift l :: s.out }
          ∧ l.length = tdi.length ∧ ∀ i, i < 32 → i < tdi.length → l[i]? = some (Config.idcode.getLsbD i))
      ∧ (∀ tdi : List Bool, s.boot.tapIr = .bypass → exec (.testAccessPort (.shiftDr tdi)) s
          = .next { s with out := .shift ((false :: tdi).take tdi.length) :: s.out })
      ∧ (∀ tdi : List Bool, s.boot.tapIr = .sample → ∃ t l, exec (.testAccessPort (.shiftDr tdi)) s = .next t
          ∧ t.out = .shift l :: s.out ∧ l.length = tdi.length ∧ { t with out := s.out, free := s.free } = s))

/-- R431, R434, R439, R440, R487: both parts hold: `FaultsAreAcknowledgedAndForced` and `TheBlackBoxIsKeptAndRead`. The
model's choices of log entries 20, 27, 43, 45 and 98 enter it. Each answers a next state with its effect: FLT_ACK,
FLT_FORCE, HISTORY_RECORD, MCTP_BLACK_BOX_READ, TEST_ACCESS_PORT. -/
def Obligations.FaultsAreRecordedAndRead : Prop :=
  FaultsAreAcknowledgedAndForced ∧ TheBlackBoxIsKeptAndRead

/-- R447–R450: a due test runs at once on a spare, an observed fenced core or a core without a job, and waits for its
window otherwise; after 6 h it runs at the next step boundary. A passed test returns the core to its place, a first
failure puts it under observation, a second fences it for good, 168 hours end the observation, and FLT_RETURN tests a
fenced unit. A core that is to be a spare again has been filled with zeros and passes the WAKE kernel first. The model's
choices of log entries 53, 69 and 81 enter it. Each answers a next state with its effect: TEST_DUE, TEST_LATE, TEST_START,
KNOWN_ANSWER_RESULT, OBSERVATION_END, FLT_RETURN. -/
def Obligations.TestsRunAndDecide : Prop :=
  (∀ (n : CoreId) (s : State) (st o : Nat), running s = true → st = getF s (CORE_STATUS n) CORE_STATUS_STATE → o = b2n (observed s n) →
    (∀ e ∈ s.flt.tests, e.1 ≠ n.val) → n.val ∉ s.flt.due →
    (isSet s FLT_CTRL FLT_CTRL_TEST_EN = true ∨ observed s n = true →
      (st = 1 ∨ (st = 6 ∧ isSet s (CORE_STATUS n) CORE_STATUS_OBSERVE = true) ∨ (st = 2 ∧ (core s n).job = 0) →
        ∃ t, exec (.testDue n) s = .next t ∧ TestRuns t n o ∧ CsrKept s t [CORE_STATUS n] ∧ ReachesFt s t (testDue s n)
          ∧ { t with csr := s.csr, flt := s.flt, ftu := s.ftu } = s ∧ { t.flt with tests := s.flt.tests, due := s.flt.due } = s.flt)
      ∧ (st = 3 → (core s n).running = true → ∃ t, exec (.testDue n) s = .next t ∧ ReachesFt s t (testDue s n)
          ∧ t = { s with ftu := t.ftu, flt := { s.flt with due := s.flt.due ++ [n.val] } })
      ∧ (st = 2 → (core s n).job ≠ 0 → ∃ t, exec (.testDue n) s = .next t ∧ n.val ∈ t.flt.due ∧ t.flt.tests = s.flt.tests
          ∧ t.cores = s.cores))
    ∧ (isSet s FLT_CTRL FLT_CTRL_TEST_EN = false → observed s n = false → exec (.testDue n) s = .next s))
  ∧ (∀ (n : CoreId) (s : State), running s = true → WakeAlarms s →
      (n.val ∈ s.flt.due → (core s n).running = true → ∃ t, exec (.testLate n) s = .next t
        ∧ (n.val, b2n (observed s n)) ∈ t.flt.tests ∧ n.val ∉ t.flt.due ∧ getF t FLT_STATUS FLT_STATUS_TEST_LATE_EVENT = 1
        ∧ (heldTestAlarm s n = none → EventSet s t FLT_STATUS FLT_STATUS_TEST_LATE_EVENT []
            ∧ ReachesFt s t (testDue s n + 21600000000000)
            ∧ { t with csr := s.csr, flt := s.flt, ftu := s.ftu, out := s.out } = s))
      ∧ (n.val ∈ s.flt.due → (core s n).running = false → hasSpare s (n.val / 5) = false → testAsked s n = false →
          ∃ t, exec (.testLate n) s = .next t ∧ TestRuns t n (b2n (observed s n)) ∧ n.val ∉ t.flt.due
            ∧ getF t FLT_STATUS FLT_STATUS_TEST_LATE_EVENT = 1)
      ∧ (n.val ∉ s.flt.due → exec (.testLate n) s = .next s))
  ∧ (∀ (a : AlarmId) (s : State) (x : Fired) (c : Nat), running s = true → firedNext s a 5 = some x → x.unit ≠ none → c = x.index.toNat →
      c < 80 → coreAwake s c = true → s.flt.wantAlarm = [] → (core s c).running = false → (∀ e ∈ s.flt.tests, e.1 ≠ c) →
      (getF s (CORE_STATUS c) CORE_STATUS_STATE = 1 ∨ getF s (CORE_STATUS c) CORE_STATUS_STATE = 2) →
      WakeAlarms s → s.pwr.starved = [] →
      ∃ t, exec (.testStart a) s = .next t ∧ TestRuns t c (b2n (observed s c))
        ∧ (a.val < 960 ∨ 968 ≤ a.val → TookEffect s t x)
        ∧ (960 ≤ a.val → a.val < 968 → t.ftu.fired = s.ftu.fired.erase x ∧ reg t (FTU_ALARM_CTRL a) = 0
            ∧ mapFind t.ftu.owner a = none))
  ∧ (∀ (n : CoreId) (s : State) (r : Nat), running s = true → getF s (CORE_STATUS n) CORE_STATUS_STATE = 4 →
      s.flt.tests = [(n.val, r)] → r < 2 → s.flt.due = [] → s.flt.bbBad = [] → logicalOf s n = 0xFF → isSpare s n = true →
      OthersServe s (n.val / 5) n n →
      (∃ t, exec (.knownAnswerResult ⟨n.val, by omega⟩ true) s = .next t ∧ t.flt.tests = []
        ∧ getF t (CORE_STATUS n) CORE_STATUS_STATE = 1 ∧ Logged s t 1 0x01 n (BitVec.ofNat 32 r) ∧ mapFind t.flt.passed n = some (now s)
        ∧ CsrKept s t [CORE_STATUS n] ∧ { t with csr := s.csr, flt := s.flt } = s)
      ∧ (observed s n = false → ∃ t, exec (.knownAnswerResult ⟨n.val, by omega⟩ false) s = .next t
        ∧ getF t (CORE_STATUS n) CORE_STATUS_STATE = 6 ∧ getF t (CORE_STATUS n) CORE_STATUS_OBSERVE = 1
        ∧ (n.val, 168 * 3600) ∈ t.flt.obs ∧ mapFind t.flt.passed n = some (now s) ∧ getF t (CLU_MAP (n.val / 5)) CLU_MAP_SPARE = 7
        ∧ getF t (FLT_CNT 0) FLT_CNT_COUNT = min (getF s (FLT_CNT 0) FLT_CNT_COUNT + 1) (2 ^ FLT_CNT_COUNT.w - 1)
        ∧ (∀ k, k < 0x1000000 → rdByte t (coreKey n + k) = 0))
      ∧ (observed s n = true → ∃ t, exec (.knownAnswerResult ⟨n.val, by omega⟩ false) s = .next t
        ∧ getF t (CORE_STATUS n) CORE_STATUS_STATE = 6 ∧ getF t (CORE_STATUS n) CORE_STATUS_OBSERVE = 0
        ∧ n.val ∈ t.flt.lasting ∧ observed t n = false
        ∧ getF t (FLT_CNT 2) FLT_CNT_COUNT = min (getF s (FLT_CNT 2) FLT_CNT_COUNT + 1) (2 ^ FLT_CNT_COUNT.w - 1)))
  ∧ (∀ (n : CoreId) (s : State), running s = true → getF s (CORE_STATUS n) CORE_STATUS_STATE = 4 → s.flt.tests = [(n.val, 4)] →
      s.flt.due = [] → s.flt.bbBad = [] → getF s (CLU_MAP (n.val / 5)) CLU_MAP_SPARE = 7 →
      ∃ t, exec (.knownAnswerResult ⟨n.val, by omega⟩ true) s = .next t ∧ t.flt.tests = [] ∧ Logged s t 1 0x03 n 0
        ∧ getF t (CORE_STATUS n) CORE_STATUS_STATE = 1 ∧ getF t (CLU_MAP (n.val / 5)) CLU_MAP_SPARE = n.val % 5
        ∧ getF t (CLU_STATUS (n.val / 5)) CLU_STATUS_NO_SPARE = 0)
  ∧ (∀ (n : CoreId) (s : State), running s = true → s.flt.bbBad = [] →
      (s.flt.obs = [(n.val, 0)] → testWaits s n = false → (now s).toNat < testDue s n →
          getF s (CORE_STATUS n) CORE_STATUS_STATE ≠ 6 → ∃ t, exec (.observationEnd n) s = .next t
        ∧ observed t n = false ∧ getF t (CORE_STATUS n) CORE_STATUS_OBSERVE = 0 ∧ Logged s t 2 0x02 n 0
        ∧ CsrKept s t [CORE_STATUS n] ∧ { t with csr := s.csr, flt := s.flt } = s)
      ∧ (s.flt.obs = [(n.val, 0)] → testWaits s n = false → (now s).toNat < testDue s n → getF s (CORE_STATUS n) CORE_STATUS_STATE = 6 →
          ∃ t, exec (.observationEnd n) s = .next t ∧ TestRuns t n 4 ∧ (∀ k, k < 0x1000000 → rdByte t (coreKey n + k) = 0))
      ∧ (mapFind s.flt.obs n ≠ some 0 ∨ testWaits s n = true ∨ testDue s n ≤ (now s).toNat → exec (.observationEnd n) s = .next s))
  ∧ (∀ (v : Word) (s : State) (i : Nat), running s = true → getF s FLT_RETURN FLT_RETURN_REQ = 0 → fget FLT_RETURN_REQ v = 1 →
      i = fget FLT_RETURN_INDEX v →
      (fget FLT_RETURN_ENGINE v = 0 → i < 80 → getF s (CORE_STATUS i) CORE_STATUS_STATE = 6 → ∃ t, exec (.fltReturn v) s = .next t
        ∧ getF t FLT_RETURN FLT_RETURN_REQ = 1 ∧ TestRuns t i 2 ∧ (∀ k, k < 0x1000000 → rdByte t (coreKey i + k) = 0)
        ∧ (∀ o, o ≠ FLT_RETURN → o / 0x10000 ≠ 0x500 + i → reg t o = reg s o)
        ∧ (mapWf coldValue s.csr = true → ∀ e ∈ s.csr, e.1 / 0x10000 = 0x500 + i → e.1 ≠ CORE_STATUS i →
            reg t e.1 = warmValue e.1 (reg s e.1)))
      ∧ (fget FLT_RETURN_ENGINE v = 1 → i < 16 → isSet s (RED_STATUS i) RED_STATUS_FENCED = true → ∃ t, exec (.fltReturn v) s = .next t
        ∧ getF t FLT_RETURN FLT_RETURN_REQ = 1 ∧ (80 + i, 2) ∈ t.flt.tests ∧ CsrKept s t [FLT_RETURN]))
  ∧ (∀ (v : Word) (s : State), running s = true → getF s FLT_RETURN FLT_RETURN_REQ = 1 →
      ∃ t, exec (.fltReturn v) s = .next t ∧ getF t FLT_RETURN FLT_RETURN_REQ = 1
        ∧ getF t FLT_RETURN FLT_RETURN_INDEX = fget FLT_RETURN_INDEX v ∧ getF t FLT_RETURN FLT_RETURN_ENGINE = fget FLT_RETURN_ENGINE v
        ∧ CsrKept s t [FLT_RETURN] ∧ { t with csr := s.csr } = s)

/-- R156–R158, R450: a swap begins at a step boundary, P and S stopping for the copy; when the copy has been checked, P's
SRAM and state stand at S, S holds the identity and counts the swap with its reason, and P follows the reason; a copy that
fails its check fences S for good and P resumes. The model's choice of log entry 53 enters it. Each answers a next state
with its effect: SPARE_SWAP, SWAP_COMPLETE. -/
def Obligations.TheSpareTakesAnIdentity : Prop :=
  (∀ (l : LCore) (s : State) (p q c : Nat), running s = true → c = l.val / 4 → coreOf s l = some p → spareOf s c = some q →
    p / 5 = c → q / 5 = c → p ≠ q →
    ((core s p).running = false → isSet s (CLU_STATUS c) CLU_STATUS_SWAP_BUSY = false → quietCore (core s p) = true → swapWanted s p = true →
      (coreAwake s p = true → coreAwake s q = true →
        ∃ t, exec (.spareSwap l) s = .next t ∧ getF t (CORE_STATUS p) CORE_STATUS_STATE = 5 ∧ getF t (CORE_STATUS q) CORE_STATUS_STATE = 5
          ∧ (∀ m, m < 80 → m ≠ p → m ≠ q → getF t (CORE_STATUS m) CORE_STATUS_STATE = getF s (CORE_STATUS m) CORE_STATUS_STATE)
          ∧ getF t (CLU_STATUS c) CLU_STATUS_SWAP_BUSY = 1
          ∧ CsrKept s t ([CLU_STATUS c, PWR_DOMAIN p, PWR_DOMAIN q, PWR_DOMAIN (80 + c)] ++ (List.range 5).map (fun j => CORE_STATUS (5 * c + j)))
          ∧ (∀ m, { core t m with heldAt := (core s m).heldAt } = core s m) ∧ CoresKept s t [p]
          ∧ { t with csr := s.csr, cores := s.cores } = s)
      ∧ (coreAwake s p = false ∨ coreAwake s q = false → WakeAlarms s → s.pwr.starved = [] →
        ∃ t, exec (.spareSwap l) s = .next t ∧ isSet t (CLU_STATUS c) CLU_STATUS_SWAP_BUSY = false
          ∧ (∀ u, u = 80 + c ∨ u = p ∨ u = q → 2 ≤ domState s u → u ∈ t.pwr.waking)))
    ∧ ((core s p).running = true ∨ swapWanted s p = false → exec (.spareSwap l) s = .next s))
  ∧ (∀ (c : Cluster) (s : State) (j p q : Nat), running s = true → swapping s c = some (j, p, q) → p ≠ q → p / 5 = c.val → q / 5 = c.val →
      OthersServe s c p q → isSet s (CORE_CTRL q) CORE_CTRL_EN = true → (∀ e ∈ s.flt.tests, e.1 = p) →
      (Memory.wf s.mem = true → (core s p).dueEntries = [] → (core s p).dma = [] →
        ∃ t, exec (.swapComplete c true) s = .next t ∧ CoreMoved s t p q ∧ core t q = core s p ∧ core t p = Core.init
        ∧ (∀ n, n ≠ p → n ≠ q → core t n = { core s n with dma := (core s n).dma.map (ZtOp.moved p q) })
        ∧ physOf t (5 * c.val + j) = some (5 * c.val + q % 5) ∧ logicalOf t q = 4 * c.val + j ∧ logicalOf t p = 0xFF
        ∧ getF t (CLU_STATUS c) CLU_STATUS_SWAP_BUSY = 0 ∧ getF t (CLU_STATUS c) CLU_STATUS_SWAP_EVENT = 1
        ∧ getF t (CLU_SWAP c) CLU_SWAP_REQ = 0
        ∧ getF t (CLU_CNT_SWAP c) CLU_CNT_SWAP_COUNT
            = min (getF s (CLU_CNT_SWAP c) CLU_CNT_SWAP_COUNT + 1) (2 ^ CLU_CNT_SWAP_COUNT.w - 1)
        ∧ getF t (CLU_CNT_SWAP c) CLU_CNT_SWAP_REASON = swapReason s p
        ∧ getF t (CORE_STATUS p) CORE_STATUS_STATE = (match swapReason s p with
            | 0 => 4 | 1 => 6 | _ => if isSet s (CORE_CTRL p) CORE_CTRL_EN then 4 else 7)
        ∧ (swapReason s p = 0 → p ∈ t.flt.swapped)
        ∧ (1 < swapReason s p → isSet s (CORE_CTRL p) CORE_CTRL_EN = true → (p, 4) ∈ t.flt.tests))
      ∧ (s.flt.bbBad = [] → isSet s (CORE_CTRL p) CORE_CTRL_EN = true →
        ∃ t, exec (.swapComplete c false) s = .next t ∧ getF t (CORE_STATUS q) CORE_STATUS_STATE = 6
        ∧ q ∈ t.flt.lasting ∧ observed t q = false ∧ getF t (CORE_STATUS q) CORE_STATUS_OBSERVE = 0
        ∧ getF t (CLU_MAP c) CLU_MAP_SPARE = 7 ∧ getF t (CLU_STATUS c) CLU_STATUS_SWAP_BUSY = 0
        ∧ ((core s p).dueEntries = [] → (∀ e ∈ s.flt.tests, e.2 = 5) →
            getF t (CORE_STATUS p) CORE_STATUS_STATE = 2)
        ∧ Raised s t q 0x19 2 0xFFFF 0 ∧ t.mem = s.mem))

namespace Sys2Proof.Machine.Claims

/-! ### Resets, the PCIe function and start-up (R15, R43–R46, R361, R383, R386, R441–R444, R460–R469, R482, R483) -/

/-- The device is held in cold reset: the standby domain's latches, MRAM, the boot flash, tier 2 and the black box stand,
and all else is as after power-on. -/
def HeldCold (s t : State) : Prop :=
  { t with boot := State.reset.boot, nvm := State.reset.nvm, flt := State.reset.flt, sec := State.reset.sec, mem := [], bad := [],
           pending := [], out := [], free := 0 } = State.reset
    ∧ t.nvm = s.nvm ∧ t.sec = { Sec.cold with fp := s.sec.fp } ∧ t.pending = s.pending ∧ t.free = s.free
    ∧ (s.flt.cur = none ∨ s.flt.bbBad = [] → t.out = s.out)
    ∧ outPins t = ⟨true, false, false, true⟩ ∧ t.boot.porst = true ∧ t.boot.up = false ∧ t.boot.halt = false ∧ t.boot.perst = s.boot.perst
    ∧ (∀ o, reg t o = coldValue o)
    ∧ (∀ k, rdByte t k = if 0x040000000000 ≤ k ∧ k < 0x080000000000 then rdByte s k else 0)
    ∧ (∀ k, k < 0x0200000 ∨ 0x0600000 ≤ k → bbAt t k = bbAt s k) ∧ (s.flt.cur = none → t.flt.bb = s.flt.bb)
    ∧ (∀ r, s.flt.cur = some r → s.flt.bbBad = [] → ∀ base, base = 0x0200000 ∨ base = 0x0400000 →
        (bbAt t (base + 64 * (r.seq.toNat % 32768))).extractLsb' 0 32 = r.seq
        ∧ (bbAt t (base + 64 * (r.seq.toNat % 32768))).getLsbD 35 = true)
    ∧ t.flt.obs = s.flt.obs ∧ t.flt.lasting = s.flt.lasting ∧ t.flt.cur = none

/-- PERST_N, a function-level reset or a link down has cleared EN of every ring and left the device's work as it was
(R386). -/
def RingsOff (s t : State) : Prop :=
  (∀ r, r < 256 → getF t (HIF_CR_CTRL r) HIF_CR_CTRL_EN = 0 ∧ getF t (HIF_QR_CTRL r) HIF_QR_CTRL_EN = 0)
    ∧ CsrKept s t haltRegs ∧ { t with csr := s.csr, boot := s.boot } = s

/-- Start-up is held at a step with a failure code, and one BOOT record tells it (R468). -/
def Held (s t : State) (stepNo fail : Nat) : Prop :=
  getF t HUB_BOOT HUB_BOOT_STEP = stepNo ∧ getF t HUB_BOOT HUB_BOOT_FAIL = fail ∧ t.boot.up = false ∧ t.jobs = s.jobs
    ∧ (s.flt.bbBad = [] → ∃ q : BitVec 32, t.flt.nextSeq = q + 1 ∧ ∀ a, a = 0x0200000 + 64 * (q.toNat % 32768) →
        (bbAt t a).extractLsb' 0 32 = q ∧ ((bbAt t a).extractLsb' 36 4).toNat = 3
          ∧ ((bbAt t (a + 16)).extractLsb' 0 32).toNat = fail + stepNo * 256 ∧ ((bbAt t (a + 24)).extractLsb' 8 8).toNat = 6)

/-- The identity of the function (R383). -/
def identity (s : State) : PciIdentity :=
  ⟨0x1FD7, 0x0C90, 0xB0, 0x120000, 0x1FD7,
    BitVec.ofNat 16 (s.sec.cfg.variant.toNat % 16 + s.sec.cfg.grade.toNat % 16 * 16 + s.sec.cfg.stepping.toNat * 256), deviceId s⟩

/-- Inputs of a start-up in which every part checks. -/
def Sound (b : BootInputs) : Prop :=
  b.romOk = true ∧ b.pufOk = true ∧ b.flashOk = true ∧ b.pllOk = true ∧ b.bufferSramOk = true
    ∧ b.badCores = [] ∧ b.failedWindows = [] ∧ b.mixedTier1 = [] ∧ b.worn = []

/-- A copy each of the PUF's helper data and of the wrapped keys passes its CRC (R465, Table 18.6). -/
def MramReads (s : State) : Prop :=
  (goodCopy s.nvm.helperA s.nvm.helperB).isSome = true ∧ (goodCopy s.nvm.wrappedA s.nvm.wrappedB).isSome = true

/-- The device has passed step 12, and from PCIe boot step 13 too, with a bundle in force: its digest, control images, source and
fingerprint, and the steps as they stand. -/
def Started (s t : State) (b : BootInputs) (img : BundleImage) (source : Nat) : Prop :=
  t.boot.up = true ∧ t.boot.pcieBoot = false ∧ getF t HUB_BOOT HUB_BOOT_STEP = (if source = 2 then 14 else 13)
    ∧ t.boot.opened = (source == 2) ∧ getF t HUB_BOOT HUB_BOOT_FAIL = 0
    ∧ getF t HUB_BOOT HUB_BOOT_SOURCE = source ∧ t.sec.bundle = some img ∧ digestRegs t SEC_BUNDLE_DIGEST (objDigest img.obj)
    ∧ (∀ p, p < 8 → (pup t p).code = img.control.getD p [])
    ∧ t.sec.fp = sha3 (fpPreimage t) ∧ digestRegs t SEC_FP t.sec.fp
    ∧ t.boot.aligning = some (BitVec.ofNat 64 (tAlign b.alignArrival.toNat))
    ∧ (s.lostWin = [] → ∀ d, d < 4 → ∀ f ∈ [MEM_TIER_SIZE_T0, MEM_TIER_SIZE_T1, MEM_TIER_SIZE_T2],
        getF t (MEM_TIER_SIZE d) f = fget f (b.tierSize.getD d 0))
    ∧ t.nvm.slot0 = s.nvm.slot0

end Sys2Proof.Machine.Claims

/-- R15, R43, R45, R361, R363, R377, R430, R432, R435, R482, R483: PORST_N closes the open record, returns every register
to its cold value and keeps the black box with its seal, and tier 2, but a halted device stays halted; a low pulse of a
reset input under 100 ns has no effect; losing VSTBY ends the HALT latch and FT with it; a warm reset closes the open
record, writes a BOOT record and keeps FT, tiers 0 and 1 and what each register's Warm column keeps, but no region entry
of a job and no provenance record. The model's choices of log entries 23 and 26 enter it. Each answers a next state with
its effect: POWER_ON_RESET, VSTBY_REMOVED, POWER_ON, WARM_RESET. -/
def Obligations.ResetsHoldTheDevice : Prop :=
  (∀ (low : Nat) (s : State), standby s = true → s.boot.rails = true →
    (s.boot.halt = false → 100 ≤ low →
      ∃ t, exec (.powerOnReset low) s = .next t ∧ HeldCold s t ∧ t.boot.vstby = true ∧ t.boot.rails = true)
    ∧ (s.boot.halt = true ∨ low < 100 → exec (.powerOnReset low) s = .next s))
  ∧ (∀ s : State, ∃ t, exec .vstbyRemoved s = .next t ∧ t.boot.vstby = false ∧ t.boot.rails = false ∧ t.boot.halt = false ∧ t.mem = []
      ∧ t.ftu = Ftu.cold ∧ t.nvm = s.nvm ∧ t.flt.bb = s.flt.bb ∧ t.sec = Sec.cold ∧ (∀ o, reg t o = coldValue o))
  ∧ (∀ s : State, exec .powerOn s = .next { s with boot := { s.boot with vstby := true, rails := true } })
  ∧ (∀ (pin : Option Nat) (s : State), standby s = true → s.boot.rails = true → s.boot.porst = false → s.boot.halt = false →
      (s.boot.up = true ∨ s.boot.warm = true → (∀ low, pin = some low → 100 ≤ low) → s.flt.bbBad = [] → mapWf coldValue s.csr = true → ∃ t, exec (.warmReset pin) s = .next t
        ∧ t.boot = { s.boot with warm := true, up := false, opened := false, pcieBoot := false, aligning := none }
        ∧ t.sec.records = [] ∧ t.sec.keys = s.sec.keys ∧ t.sec.cfg = s.sec.cfg ∧ t.sec.bundle = s.sec.bundle ∧ t.sec.plan = s.sec.plan
        ∧ (∀ i, i < 1024 → getF s (MEM_REGION_W1 i) MEM_REGION_W1_JOB_ID ≠ 0xFFFF →
            reg t (MEM_REGION i) = coldValue (MEM_REGION i) ∧ reg t (MEM_REGION_W1 i) = coldValue (MEM_REGION_W1 i))
        ∧ t.ftu = { s.ftu with fired := [], owner := [] } ∧ t.nvm = s.nvm ∧ t.jobs = [] ∧ t.cores = [] ∧ t.crings = [] ∧ t.qids = []
        ∧ t.flt.cur = none ∧ (∀ r, s.flt.cur = some r → ∀ base, base = 0x0200000 ∨ base = 0x0400000 →
            r.seq.toNat % 32768 ≠ s.flt.nextSeq.toNat % 32768 →
            (bbAt t (base + 64 * (r.seq.toNat % 32768))).getLsbD 35 = true)
        ∧ t.flt.nextSeq = s.flt.nextSeq + 1
        ∧ (∀ k, rdByte t k = if 0x010000000000 ≤ k ∧ k < 0x080000000000 then rdByte s k else 0)
        ∧ reg t FTU_CTRL = warmValue FTU_CTRL (reg s FTU_CTRL) ∧ reg t PWR_LIMIT = warmValue PWR_LIMIT (reg s PWR_LIMIT)
        ∧ (∀ c, c < 4 → reg t (FLT_CNT c) = warmValue (FLT_CNT c) (reg s (FLT_CNT c)))
        ∧ (∀ r, r < 256 → reg t (HIF_CR_CTRL r) = warmValue (HIF_CR_CTRL r) (reg s (HIF_CR_CTRL r)))
        ∧ (∀ i, i < 1024 → reg t (FTU_ALARM_CTRL i) = warmValue (FTU_ALARM_CTRL i) (reg s (FTU_ALARM_CTRL i)))
        ∧ (∀ o ∈ s.objs, o.2.job = 0 ∨ o.2.job = 0xFFFF#16 → mapFind s.objs o.1 = some o.2 → obj t o.1 = o.2)
        ∧ getF t HUB_BOOT HUB_BOOT_STEP = 8 ∧ getF t HUB_BOOT HUB_BOOT_READY = 0 ∧ (outPins t).devReady = false)
      ∧ ((s.boot.up = false ∧ s.boot.warm = false) ∨ (∃ low, pin = some low ∧ low < 100) → exec (.warmReset pin) s = .next s))

/-- R383, R386, R396, R467: PERST_N, a function-level reset and a link down clear EN of every ring, put the function in D0
with MSI-X off and leave the device's work alone; the link comes up from step 13, or in PCIe boot; configuration requests
are then answered, in step 13 with Request Retry Status, and set the power state, or MSI-X Enable and Function Mask, under
which pending messages leave. In PCIe boot GO starts the read of a bundle, and one that does not verify is BUNDLE again.
The model's choices of log entries 19, 48 and 96 enter it. Each answers a next state with its effect: PERST_N,
FUNCTION_LEVEL_RESET, D3HOT, CONFIGURATION_REQUEST, PCIE_LINK_DOWN, PERST_N_RELEASE, PCIE_LINK_UP, BOOT_GO,
PCIE_BOOT_VERIFY_DONE. -/
def Obligations.TheFunctionFollowsItsLink : Prop :=
  ∀ s : State,
    (∀ low, (100 ≤ low → ∃ t, exec (.perstN low) s = .next t ∧ RingsOff s t
          ∧ t.boot = { s.boot with perst := true, pcieUp := false, d3hot := false, msixEn := false, msixMask := false })
        ∧ (low < 100 → exec (.perstN low) s = .next s))
    ∧ (hostUp s = true → (∃ t, exec .functionLevelReset s = .next t ∧ RingsOff s t
          ∧ t.boot = { s.boot with d3hot := false, msixEn := false, msixMask := false })
        ∧ exec .d3hot s = .next { s with boot := { s.boot with d3hot := true } }
        ∧ (s.boot.opened = false → s.boot.pcieBoot = false → ∀ op, exec (.configurationRequest op) s = .next { s with out := .retryStatus :: s.out })
        ∧ (s.boot.opened = true ∨ s.boot.pcieBoot = true →
            exec (.configurationRequest .read) s = .next { s with out := .configOk (identity s) :: s.out }
            ∧ (∀ d3, exec (.configurationRequest (.power d3)) s
                = .next { s with boot := { s.boot with d3hot := d3 }, out := .configOk (identity s) :: s.out })
            ∧ (∀ en mask, ∃ t, exec (.configurationRequest (.msix en mask)) s = .next t
                ∧ t.boot = { s.boot with msixEn := en, msixMask := mask } ∧ t.out.head? = some (.configOk (identity s))
                ∧ (en = false ∨ mask = true → t.csr = s.csr) ∧ CsrKept s t ((List.range 5).map HIF_MSIX_PEND)
                ∧ (en = true → mask = false → ∀ v, v < 288 → isSet s (HIF_MSIX_DATA v) HIF_MSIX_DATA_MASK = false →
                    (reg t (HIF_MSIX_PEND (v / 64))).getLsbD (v % 64) = false
                    ∧ ((reg s (HIF_MSIX_PEND (v / 64))).getLsbD (v % 64) = true → .msix v ∈ t.out))
                ∧ { t with csr := s.csr, boot := s.boot, out := s.out } = s)))
    ∧ (s.boot.pcieUp = true → ∃ t, exec .pcieLinkDown s = .next t ∧ RingsOff s t
        ∧ t.boot = { s.boot with pcieUp := false, d3hot := false, msixEn := false, msixMask := false })
    ∧ (s.boot.pcieUp = false → exec .pcieLinkDown s = .next s)
    ∧ exec .perstNRelease s = .next { s with boot := { s.boot with perst := false } }
    ∧ (standby s = true → s.boot.rails = true → s.boot.porst = false → s.boot.perst = false →
        ((s.boot.up = true ∧ 13 ≤ getF s HUB_BOOT HUB_BOOT_STEP) ∨ s.boot.pcieBoot = true → (∀ q ∈ s.qrings, (qring s q.1).waiting = [] ∨ isSet s (HIF_QR_CTRL q.1) HIF_QR_CTRL_EN = false) →
          ∃ t, exec .pcieLinkUp s = .next t ∧ t.boot = { s.boot with pcieUp := true } ∧ t.csr = s.csr ∧ t.out = s.out ∧ t.jobs = s.jobs)
        ∧ (s.boot.up = false ∨ getF s HUB_BOOT HUB_BOOT_STEP < 13 → s.boot.pcieBoot = false → exec .pcieLinkUp s = .next s))
    ∧ (reach s = .boot → (∃ t, exec .bootGo s = .next t ∧ getF t HUB_BOOT_LEN HUB_BOOT_LEN_GO = 1 ∧ CsrKept s t [HUB_BOOT_LEN]
          ∧ { t with csr := s.csr } = s)
        ∧ (isSet s HUB_BOOT_LEN HUB_BOOT_LEN_GO = true → ∀ img c b, bundleOk s img c = false →
            ∃ t, exec (.pcieBootVerifyDone img c b) s = .next t ∧ getF t HUB_BOOT HUB_BOOT_FAIL = 5
              ∧ getF t HUB_BOOT_LEN HUB_BOOT_LEN_GO = 0 ∧ t.boot = s.boot ∧ t.sec = s.sec))

/-- R444, R453, R460, R463, R465, R466, R468, R469: start-up takes its steps in order and holds at the first that fails,
with the code of Table 18.6 and a BOOT record; with every part good and a bundle that verifies, from flash, from the host,
or kept through a warm reset, it passes step 12 with the bundle's digest and images, the fingerprint and T_align. A sealed
HALT segment is found and shown; the root key comes out of the PUF and its helper data. The model's choices of log entries
5, 6, 8, 21, 22, 24 and 97 enter it. Each answers a next state with its effect: COLD_START_UP, PCIE_BOOT_VERIFY_DONE,
WARM_RESET_EXIT. -/
def Obligations.StartUpRunsItsSteps : Prop :=
  (∀ (b : BootInputs) (s : State), standby s = true → s.boot.rails = true → s.boot.porst = true → s.boot.halt = false →
    s.boot.up = false → let Holds (stepNo fail : Nat) : Prop := ∃ t, exec (.coldStartUp b) s = .next t ∧ Held (wear s b.worn) t stepNo fail
    (s.boot.clockLost = true → Holds 4 6)
    ∧ (s.boot.clockLost = false →
      (b.romOk = false → Holds 4 1)
      ∧ (b.romOk = true → ¬ MramReads s → Holds 4 2)
      ∧ (b.romOk = true → MramReads s → b.pufOk = false → Holds 5 3
          ∧ (∀ q, sealedSegment s = some q → ∃ t, exec (.coldStartUp b) s = .next t ∧ t.flt.sealedSeq = q
              ∧ getF t FLT_STATUS FLT_STATUS_SEALED = 1 ∧ getF t FLT_STATUS FLT_STATUS_PREV_HALT = 1))
      ∧ (b.romOk = true → MramReads s → b.pufOk = true → configOk s s.nvm.cfgA b.cfgA = false → configOk s s.nvm.cfgB b.cfgB = false →
          Holds 6 4)
      ∧ (b.romOk = true → MramReads s → b.pufOk = true → configOk s s.nvm.cfgA b.cfgA = true →
          (s.nvm.slot0 = none ∧ s.nvm.slot1 = none) ∨ b.flashOk = false →
          ∃ t, exec (.coldStartUp b) s = .next t ∧ Held (wear s b.worn) t 7 5 ∧ t.boot.pcieBoot = true
            ∧ getF t SEC_STATUS SEC_STATUS_KEYS_READY = 1 ∧ digestRegs t SEC_CFG_DIGEST (objDigest s.nvm.cfgA.obj)
            ∧ (∀ h, goodCopy s.nvm.helperA s.nvm.helperB = some h → t.sec.rootKey = some (Config.pufRoot b.puf h)))
      ∧ (∀ q img, b.romOk = true → MramReads s → b.pufOk = true → configOk s s.nvm.cfgA b.cfgA = true → s.nvm.slot0 = some (q, img) →
          s.nvm.slot1 = none → b.flashOk = true → bundleOk s img b.slot0 = true → s.nvm.planSlot = none →
          (b.pllOk = false → Holds 8 6) ∧ (b.pllOk = true → b.bufferSramOk = false → Holds 10 7)
          ∧ (Sound b → s.boot.fromWarm = false → s.boot.pcieBoot = false → s.boot.opened = false → s.sec.plan = none → WakeAlarms s →
              s.pwr.starved = [] →
              ∃ t, exec (.coldStartUp b) s = .next t ∧ Started s t b img 0
              ∧ t.ftu.ft = b.alignArrival.toNat * 65536 ∧ coldCount t = coldCount s + 1
              ∧ (∀ k, rdByte t k = if 0x040000000000 ≤ k ∧ k < 0x080000000000 then rdByte s k else 0)))))
  ∧ (∀ (b : BootInputs) (s : State) (img : BundleImage) (c : SigCheck), reach s = .boot → isSet s HUB_BOOT_LEN HUB_BOOT_LEN_GO = true →
      bundleOk s img c = true → Sound b → s.boot.clockLost = false → s.nvm.planSlot = none → s.sec.plan = none → s.boot.fromWarm = false →
      s.pwr = Pwr.cold → ∃ t, exec (.pcieBootVerifyDone img c b) s = .next t ∧ Started s t b img 2)
  ∧ (∀ (b : BootInputs) (s : State), standby s = true → s.boot.rails = true → s.boot.warm = true →
      s.boot.porst = false → s.boot.halt = false → s.boot.up = false →
      (∀ img, s.sec.bundle = some img → bundleHeld s b = true →
        (b.pllOk = false ∨ s.boot.clockLost = true → ∃ t, exec (.warmResetExit b) s = .next t ∧ Held (wear s b.worn) t 8 6)
        ∧ (Sound b → s.boot.clockLost = false → s.sec.plan = none → s.pwr.alarms = [] → s.pwr.starved = [] → s.boot.pcieBoot = false →
            s.boot.opened = false → ∃ t, exec (.warmResetExit b) s = .next t ∧ t.boot.up = true ∧ t.boot.warm = false
            ∧ getF t HUB_BOOT HUB_BOOT_STEP = 13 ∧ t.boot.opened = false ∧ t.sec.bundle = some img
            ∧ t.ftu.ft = max s.ftu.ft (b.alignArrival.toNat * 65536)
            ∧ (∀ k, rdByte t k = if 0x010000000000 ≤ k ∧ k < 0x080000000000 then rdByte s k else 0)))
      ∧ (bundleHeld s b = false → (s.nvm.slot0 = none ∧ s.nvm.slot1 = none) ∨ b.flashOk = false →
          ∃ t, exec (.warmResetExit b) s = .next t ∧ Held (wear s b.worn) t 7 5 ∧ t.sec.bundle = none ∧ t.boot.pcieBoot = true))

namespace Sys2Proof.Machine.Claims

/-! ### Supplies, levels, temperatures, domains (R406–R423, R477, R484) -/

/-- A power event: its bit stands, its message follows, and otherwise only the registers listed change. -/
def PwrEvent (s t : State) (f : Fld) (more : List Nat) : Prop :=
  getF t PWR_STATUS f = 1 ∧ CsrKept s t ([PWR_STATUS, HIF_MSIX_PEND 4] ++ more)

/-- A sample of package power has been taken (R420, R423, R439): the sum of each rail's voltage times its current joins the last
samples, PWR_PKG shows their mean over the window of PWR_LIMIT, and the history's second takes it in. -/
def PowerSampled (s t : State) : Prop :=
  t.pwr.watts = (((List.range 11).map (fun i => getF t (PWR_RAIL i) PWR_RAIL_MV * getF t (PWR_RAIL i) PWR_RAIL_CURRENT / 10)).sum
      :: s.pwr.watts).take 25500
    ∧ getF t PWR_PKG PWR_PKG_POWER = min 65535 (windowMw t / 1000)
    ∧ t.flt.secSamples = s.flt.secSamples + 1
    ∧ t.flt.secWatts = s.flt.secWatts + ((List.range 11).map (fun i => getF t (PWR_RAIL i) PWR_RAIL_MV * getF t (PWR_RAIL i) PWR_RAIL_CURRENT / 10)).sum

/-- A throttle level stands at `v` from now on (R420, R421); a step up counts and is an event. -/
def LevelBecomes (s t : State) (k : Nat) (f : Fld) (v at0 : Nat) (more : List Nat) : Prop :=
  getF t PWR_LEVEL f = v ∧ t.ftu = { s.ftu with ft := max s.ftu.ft (at0 * 65536) }
    ∧ mapGet (fun _ => (0 : Word)) t.pwr.lastStep k = now t
    ∧ (getF s PWR_LEVEL f < v → getF t PWR_STATUS PWR_STATUS_THROTTLE_EVENT = 1
        ∧ getF t PWR_CNT_THROTTLE PWR_CNT_THROTTLE_COUNT
          = min (getF s PWR_CNT_THROTTLE PWR_CNT_THROTTLE_COUNT + 1) (2 ^ PWR_CNT_THROTTLE_COUNT.w - 1))
    ∧ (v ≤ getF s PWR_LEVEL f → reg t PWR_STATUS = reg s PWR_STATUS)
    ∧ CsrKept s t ([PWR_LEVEL, PWR_STATUS, PWR_CNT_THROTTLE, HIF_MSIX_PEND 4] ++ more)
    ∧ { t with csr := s.csr, ftu := s.ftu, pwr := s.pwr, flt := s.flt, out := s.out } = s

/-- The sample of one sensor `k` is a value (0.25 °C). -/
def oneSample (k : Nat) (v : BitVec 16) (s : State) : List (BitVec 16) :=
  (List.range k).map (fun i => BitVec.ofNat 16 (getF s (PWR_TEMP i) PWR_TEMP_TEMP)) ++ [v]

end Sys2Proof.Machine.Claims

/-- R418, R423, R429, R477, R484: an answered poll shows the rail's voltage and current, and an unanswered one counts; the third
in a row is REG_EVENT and a NOTE, the rail reading 0; AVSBus telemetry shows in PWR_VCORE and the VCORE rail, and with it a sample
of package power is taken; PM_ALERT reads the STATUS_WORDs and raises nothing; a supply out of its range is a HALT of its rail. -/
def Sys2Proof.Machine.Claims.SuppliesAreWatched : Prop :=
  ∀ s : State, pmRuns s = true →
    (∀ (r : Fin 11) (x : RailReading), r.val ≠ 3 → ∃ t, mapGet (fun _ => 0) t.pwr.railTemp r = x.temp ∧ exec (.regulatorPoll r (some x)) s = .next t
        ∧ getF t (PWR_RAIL r) PWR_RAIL_MV = x.milliVolt.toNat ∧ getF t (PWR_RAIL r) PWR_RAIL_CURRENT = x.current.toNat
        ∧ CsrKept s t [PWR_RAIL r] ∧ { t with csr := s.csr, pwr := s.pwr } = s
        ∧ mapGet (fun _ => 0) t.pwr.silent r = 0)
    ∧ (∀ x : RailReading, ∃ t, exec (.regulatorPoll 3 (some x)) s = .next t ∧ { t with pwr := s.pwr } = s
        ∧ mapGet (fun _ => 0) t.pwr.silent 3 = 0)
    ∧ (∀ r : Fin 11, ∃ t, exec (.regulatorPoll r none) s = .next t
        ∧ mapGet (fun _ => 0) t.pwr.silent r = mapGet (fun _ => 0) s.pwr.silent r + 1 ∧ { t with pwr := s.pwr } = s)
    ∧ (∀ r : Fin 11, 3 ≤ mapGet (fun _ => 0) s.pwr.silent r ∨ (r.val = 3 ∧ 3 ≤ mapGet (fun _ => 0) s.pwr.silent 11) →
        ∃ t, exec (.regulatorNoAnswer r) s = .next t
        ∧ PwrEvent s t PWR_STATUS_REG_EVENT (PWR_RAIL r :: faultRegs 171 0) ∧ reg t (PWR_RAIL r) = 0
        ∧ mapGet (fun _ => 0) t.pwr.silent r = 0 ∧ Raised s t 171 0x1B 0 0xFFFF (BitVec.ofNat 32 r))
    ∧ (∀ r : Fin 11, mapGet (fun _ => 0) s.pwr.silent r < 3 → (r.val = 3 → mapGet (fun _ => 0) s.pwr.silent 11 < 3) →
        exec (.regulatorNoAnswer r) s = .next s)
    ∧ (∀ v i : BitVec 16, ∃ t, exec (.vcoreTelemetry (some v) (some i)) s = .next t
        ∧ getF t PWR_VCORE PWR_VCORE_MEASURED = v.toNat % 2 ^ PWR_VCORE_MEASURED.w
        ∧ getF t PWR_VCORE PWR_VCORE_CURRENT = i.toNat % 2 ^ PWR_VCORE_CURRENT.w
        ∧ getF t (PWR_RAIL 3) PWR_RAIL_MV = v.toNat % 2 ^ PWR_RAIL_MV.w ∧ getF t PWR_VCORE PWR_VCORE_SETPOINT = getF s PWR_VCORE PWR_VCORE_SETPOINT
        ∧ t.pwr.amps = (i.toNat :: s.pwr.amps).take 100 ∧ mapGet (fun _ => 0) t.pwr.silent 11 = 0
        ∧ PowerSampled s t ∧ CsrKept s t [PWR_VCORE, PWR_RAIL 3, PWR_PKG] ∧ { t with csr := s.csr, pwr := s.pwr, flt := s.flt } = s)
    ∧ (∀ v i : Option (BitVec 16), v = none ∨ i = none → ∃ t, exec (.vcoreTelemetry v i) s = .next t
        ∧ mapGet (fun _ => 0) t.pwr.silent 11 = mapGet (fun _ => 0) s.pwr.silent 11 + 1
        ∧ PowerSampled s t ∧ CsrKept s t [PWR_PKG] ∧ { t with csr := s.csr, pwr := s.pwr, flt := s.flt } = s)
    ∧ (∀ l : List (BitVec 16), exec (.pmAlert l) s = .next { s with pwr := { s.pwr with statusWords := l.take 11 } })
    ∧ (∀ r : Fin 11, s.boot.halt = false → ∃ t, exec (.supply r) s = .next t ∧ Halted s t 171 0x21 (BitVec.ofNat 32 r) false)

/-- R420, R421: over a limit the power level goes up by one every 100 µs, and below 95% of both limits it goes down by one
every 1 ms; an EDC alert puts it to 8; a die at T_THROTTLE goes up and one 3 °C below goes down in the same way. Each
answers a next state with its effect: POWER_LEVEL_STEP, EDC_ALERT, THERMAL_LEVEL_STEP. -/
def Obligations.LevelsFollowPowerAndHeat : Prop :=
  ∀ (s : State) (k : Nat), pmRuns s = true →
    (∀ at_ : Word, k = getF s PWR_LEVEL PWR_LEVEL_POWER → s.ftu.ft < 2 ^ 78 → at_.toNat < 2 ^ 62 →
      (mapGet (fun _ => (0 : Word)) s.pwr.lastStep 0).toNat < 2 ^ 62 → s.pwr.edcUntil.toNat < 2 ^ 62 →
      (getF s PWR_LIMIT PWR_LIMIT_PL * 1000 < windowMw s ∨ getF s PWR_LIMIT PWR_LIMIT_TDC_LIMIT < meanAmps s → k < 8 →
        ∃ t, exec (.powerLevelStep true at_) s = .next t
          ∧ LevelBecomes s t 0 PWR_LEVEL_POWER (k + 1)
              (max at_.toNat ((mapGet (fun _ => (0 : Word)) s.pwr.lastStep 0).toNat + 100000)) [])
      ∧ (windowMw s * 100 < getF s PWR_LIMIT PWR_LIMIT_PL * 1000 * 95 → meanAmps s * 100 < getF s PWR_LIMIT PWR_LIMIT_TDC_LIMIT * 95 → 0 < k →
        ∃ t, exec (.powerLevelStep false at_) s = .next t
          ∧ LevelBecomes s t 0 PWR_LEVEL_POWER (k - 1)
              (max at_.toNat (max s.pwr.edcUntil.toNat ((mapGet (fun _ => (0 : Word)) s.pwr.lastStep 0).toNat + 1000000))) [])
      ∧ (windowMw s ≤ getF s PWR_LIMIT PWR_LIMIT_PL * 1000 → meanAmps s ≤ getF s PWR_LIMIT PWR_LIMIT_TDC_LIMIT →
        exec (.powerLevelStep true at_) s = .next (advanceTo s at_))
      ∧ (getF s PWR_LIMIT PWR_LIMIT_PL * 1000 * 95 ≤ windowMw s * 100 ∨ getF s PWR_LIMIT PWR_LIMIT_TDC_LIMIT * 95 ≤ meanAmps s * 100 →
        exec (.powerLevelStep false at_) s = .next (advanceTo s at_)))
    ∧ (∃ t, exec .edcAlert s = .next t ∧ getF t PWR_STATUS PWR_STATUS_EDC_EVENT = 1
        ∧ (k = getF s PWR_LEVEL PWR_LEVEL_POWER → k < 8 → getF t PWR_LEVEL PWR_LEVEL_POWER = 8
            ∧ getF t PWR_CNT_THROTTLE PWR_CNT_THROTTLE_COUNT
              = min (getF s PWR_CNT_THROTTLE PWR_CNT_THROTTLE_COUNT + 1) (2 ^ PWR_CNT_THROTTLE_COUNT.w - 1))
        ∧ t.pwr.edcUntil = now s + 10000 ∧ t.flt.secEdc = true
        ∧ CsrKept s t [PWR_LEVEL, PWR_STATUS, PWR_CNT_THROTTLE, HIF_MSIX_PEND 4]
        ∧ { t with csr := s.csr, pwr := s.pwr, flt := s.flt, out := s.out } = s)
    ∧ (∀ d : Die, k = thermalLevel s d → (mapGet (fun _ => (0 : Word)) s.pwr.lastStep (1 + d.val)).toNat < 2 ^ 62 →
      ((∃ i, i < 12 ∧ tThrottle s ≤ tempAt s (12 * d.val + i)) → k < 8 →
        ∃ t, exec (.thermalLevelStep d) s = .next t
          ∧ LevelBecomes s t (1 + d.val) (thermalF d) (k + 1) ((mapGet (fun _ => (0 : Word)) s.pwr.lastStep (1 + d.val)).toNat + 100000) [])
      ∧ ((∀ i, i < 12 → tempAt s (12 * d.val + i) < tThrottle s - 12) → 0 < k →
        ∃ t, exec (.thermalLevelStep d) s = .next t
          ∧ LevelBecomes s t (1 + d.val) (thermalF d) (k - 1) ((mapGet (fun _ => (0 : Word)) s.pwr.lastStep (1 + d.val)).toNat + 1000000) []))

/-- R422: a sample shows each sensor; 110 °C in two samples in a row is a HALT, and 1,000 samples above 105 °C are a UNIT
fault; an HBM stack at 95 °C is an event and a NOTE, and at 85 °C it refreshes faster. -/
def Sys2Proof.Machine.Claims.TemperaturesAreWatched : Prop :=
  (∀ (v : BitVec 16) (s : State), pmRuns s = true → s.boot.halt = false →
    (v.toInt ≤ 420 → ∃ t, exec (.sensorSample [v]) s = .next t ∧ getF t (PWR_TEMP 0) PWR_TEMP_TEMP = v.toNat
      ∧ CsrKept s t [PWR_TEMP 0] ∧ { t with csr := s.csr, pwr := s.pwr, flt := s.flt } = s
      ∧ mapGet (fun _ => 0) t.pwr.hot110 0 = 0)
    ∧ (440 ≤ v.toInt → mapGet (fun _ => 0) s.pwr.hot110 0 = 1 → ∃ t, exec (.sensorSample [v]) s = .next t ∧ t.boot.halt = true
      ∧ getF t FLT_STATUS FLT_STATUS_HALTED = 1 ∧ getF t (PWR_TEMP 0) PWR_TEMP_TEMP = v.toNat ∧ Raised s t 172 0x1C 3 0xFFFF 0))
  ∧ (∀ (l : List (BitVec 16)) (s : State), pmRuns s = true → l.length = 60 → (∀ v ∈ l, v.toInt < tThrottle s ∧ v.toInt ≤ 420) →
      ∃ t, exec (.sensorSample l) s = .next t ∧ (∀ i, i < 60 → some (BitVec.ofNat 16 (getF t (PWR_TEMP i) PWR_TEMP_TEMP)) = l[i]?)
        ∧ CsrKept s t ((List.range 60).map PWR_TEMP) ∧ (s.boot.halt = true → t.pwr.trace = s.pwr.trace) ∧ { t with csr := s.csr, pwr := s.pwr, flt := s.flt } = s)
  ∧ (∀ (k : Fin 60) (s : State), pmRuns s = true →
      (1000 ≤ mapGet (fun _ => 0) s.pwr.hot105 k → ∃ t, exec (.thermalFault k) s = .next t ∧ Raised s t 172 0x1C 2 0xFFFF (BitVec.ofNat 32 k)
        ∧ mapGet (fun _ => 0) t.pwr.hot105 k = 0
        ∧ CsrKept s t (faultRegs 172 2) ∧ { t with csr := s.csr, pwr := s.pwr, flt := s.flt, out := s.out } = s)
      ∧ (mapGet (fun _ => 0) s.pwr.hot105 k < 1000 → exec (.thermalFault k) s = .next s))
  ∧ (∀ (k : Fin 8) (v : BitVec 16) (s : State), pmRuns s = true →
      ∃ t, exec (.hbmTemperatureReport k v) s = .next t ∧ getF t (PWR_HBM_TEMP k) PWR_HBM_TEMP_TEMP = v.toNat
        ∧ (k.val ∈ t.pwr.refresh ↔ 340 ≤ v.toInt) ∧ (∀ j, j ≠ k.val → (j ∈ t.pwr.refresh ↔ j ∈ s.pwr.refresh))
        ∧ (signed 16 (getF s (PWR_HBM_TEMP k) PWR_HBM_TEMP_TEMP) < 380 → 380 ≤ v.toInt →
            getF t PWR_STATUS PWR_STATUS_THERMAL_EVENT = 1 ∧ Raised s t 172 0x1C 0 0xFFFF (BitVec.ofNat 32 (64 + k.val)))
        ∧ (v.toInt < 380 → CsrKept s t [PWR_HBM_TEMP k] ∧ { t with csr := s.csr, pwr := s.pwr } = s))

/-- R418, R423, R429, R477, R484, R422: both parts hold: `SuppliesAreWatched` and `TemperaturesAreWatched`. The model's
choices of log entries 41 and 42 enter it. Each answers a next state with its effect: REGULATOR_POLL, REGULATOR_NO_ANSWER,
VCORE_TELEMETRY, PM_ALERT, SUPPLY, SENSOR_SAMPLE, THERMAL_FAULT, HBM_TEMPERATURE_REPORT. -/
def Obligations.SuppliesAndTemperaturesAreWatched : Prop :=
  SuppliesAreWatched ∧ TemperaturesAreWatched

/-- R407, R411, R415, R448: a wake that has ended leaves its domain awake, without its wake alarm; a core with nothing to
do is then in IMPALA, as the power manager's rule has it. A cluster that left DIKDIK has been filled with zeros, and each
of its cores has run its WAKE kernel. When an entry ends, the domain is no longer entering. The model's choice of log
entry 42 enters it. Each answers a next state with its effect: DOMAIN_ENTRY_COMPLETE, WAKE_COMPLETE. -/
def Obligations.DomainsWakeAndSettle : Prop :=
  (∀ (u : DomainId) (s : State), running s = true →
    ∃ t, exec (.domainEntryComplete u) s = .next t ∧ u.val ∉ t.pwr.entering ∧ (∀ v, v ≠ u.val → (v ∈ t.pwr.entering ↔ v ∈ s.pwr.entering))
      ∧ { t with pwr := s.pwr } = s ∧ { t.pwr with entering := s.pwr.entering } = s.pwr)
  ∧ (∀ (u : DomainId) (fails : List CoreId) (s : State), running s = true →
      (u.val ∉ s.pwr.waking → exec (.wakeComplete u fails) s = .next s)
      ∧ (u.val ∈ s.pwr.waking → WakeAlarms s → s.pwr.starved = [] →
          (u.val < 80 → (core s u).dueEntries = [] → s.coll.launches = [] →
            ∃ t, exec (.wakeComplete u fails) s = .next t ∧ u.val ∉ t.pwr.waking ∧ mapFind t.pwr.alarms u = none
              ∧ domState t u = (if coreIdle s u = true ∧ 1 ≤ getF s PWR_CTRL PWR_CTRL_MAX_CORE then 1 else 0)
              ∧ getF t (CORE_STATUS u) CORE_STATUS_PSTATE = (if domState s (80 + u.val / 5) = 3 then 3 else domState t u) ∧ t.mem = s.mem
              ∧ (∀ n, core t n = { core s n with owedSlips := (core s n).owedSlips + (s.ftu.fired.filter (fun x =>
                  x.action == 6 && !x.met && firedDomain s x == some u.val && firedDomain s x == some n && awake s (80 + u.val / 5)
                    && decide (x.target.toNat < (now s).toNat))).length }))
          ∧ (80 ≤ u.val → u.val < 96 → domState s u = 3 → s.coll.launches = [] → s.flt.bbBad = [] → fails = [] →
              (∀ j, j < 5 → getF s (CORE_STATUS (5 * (u.val - 80) + j)) CORE_STATUS_STATE = 2 ∧ (core s (5 * (u.val - 80) + j)).dueEntries = []) →
              ∃ t, exec (.wakeComplete u fails) s = .next t ∧ domState t u = 0 ∧ u.val ∉ t.pwr.waking
                ∧ (∀ k, k < 0x2000000 → rdByte t (cluKey (u.val - 80) + k) = 0)
                ∧ (∀ j, j < 5 → ∀ k, k < 0x1000000 → rdByte t (coreKey (5 * (u.val - 80) + j) + k) = 0)
                ∧ t.flt.nextSeq = s.flt.nextSeq + 5)))

namespace Sys2Proof.Machine.Claims

/-! ### The whole machine -/

/-- A step's next state, if it has one. -/
def Steps (s t : State) : Prop := step s = .next t

end Sys2Proof.Machine.Claims

/-- Every step keeps the canonical forms of memory and of the register file, and the wake alarms within the FTU's.
Memory's form is the model's choice (log entry 4). -/
def Obligations.EveryStepKeepsTheInvariant : Prop := ∀ s t : State, Invariant s → Steps s t → Invariant t

/-- R441, R442: the HALT latch clears only when VSTBY is removed; until then no step moves a core, a Puppeteer core, a
job, a launch, a packet or a byte of storage, whatever is commanded. -/
def Obligations.OnlyLosingVstbyEndsAHalt : Prop :=
  ∀ s t : State, s.boot.halt = true → s.pending.head? ≠ some .vstbyRemoved → Steps s t → t.boot.halt = true ∧ HaltFrame s t

/-- R15, R43, R361, R435, R465: after power-on the invariant holds, every register reads its cold value, storage reads as
zero but tier 2, FT is 0, the device is held in cold reset and nothing waits; HUB_BOOT.STEP reads 4. The model's choices
of log entries 6 and 7 enter it. -/
def Obligations.ResetLeavesColdValues : Prop :=
  Invariant State.reset ∧ (∀ o, reg State.reset o = coldValue o)
    ∧ (∀ k, ¬ (0x040000000000 ≤ k ∧ k < 0x080000000000) → rdByte State.reset k = 0)
    ∧ State.reset.ftu.ft = 0 ∧ State.reset.boot.porst = true ∧ State.reset.boot.halt = false ∧ State.reset.pending = []
    ∧ getF State.reset HUB_BOOT HUB_BOOT_STEP = 4 ∧ getF State.reset HUB_BOOT HUB_BOOT_READY = 0

/-- R34, R37, R159, R465: with no command waiting one HCLK cycle passes (the model's choice, log entry 2): FT gains 1.25
ns corrected by FTU_RATE_ADJ, with its fraction carried on; nothing else happens while no unit runs, and otherwise only
idle and busy counts, idle words, and the end of step 12 or 13 of start-up, whose durations are the model's choice (log
entry 97). -/
def Obligations.AnEmptyQueueLetsOneCyclePass : Prop :=
  ∀ s : State, s.pending = [] →
    (standby s = true → s.boot.porst = false → s.ftu.acc < 2 ^ 32 → ∃ t, Steps s t
      ∧ ((t.ftu.ft : Int) * 2 ^ 32 + t.ftu.acc
          = s.ftu.ft * 2 ^ 32 + s.ftu.acc + 81920 * (2 ^ 32 + (BitVec.ofNat 32 (getF s FTU_RATE_ADJ FTU_RATE_ADJ_ADJ)).toInt))
      ∧ t.ftu.acc < 2 ^ 32 ∧ { t.ftu with ft := s.ftu.ft, acc := s.ftu.acc } = s.ftu
      ∧ (running s = false → { t with ftu := s.ftu } = s)
      ∧ (running s = true → s.net.ports = [] → { t with ftu := s.ftu, csr := s.csr, aclk := s.aclk, boot := s.boot } = s ∧ t.aclk = s.aclk + 11
          ∧ (∀ o, o ≠ HUB_BOOT → (∀ n c, n < 80 → c < 16 → o ≠ CORE_IDLE n c ∧ o ≠ CORE_CNT_BUSY n) → reg t o = reg s o)
          ∧ (getF s HUB_BOOT HUB_BOOT_STEP ≠ 12 → getF s HUB_BOOT HUB_BOOT_STEP ≠ 13 → reg t HUB_BOOT = reg s HUB_BOOT ∧ t.boot = s.boot)
          ∧ (getF s HUB_BOOT HUB_BOOT_STEP = 13 → s.boot.pcieBoot = false →
              (s.boot.stepAt.toNat + 20000000 ≤ (now t).toNat →
                getF t HUB_BOOT HUB_BOOT_STEP = 14 ∧ t.boot = { s.boot with opened := true, stepAt := now t })
              ∧ ((now t).toNat < s.boot.stepAt.toNat + 20000000 → reg t HUB_BOOT = reg s HUB_BOOT ∧ t.boot = s.boot))))
    ∧ (standby s = false ∨ s.boot.porst = true → Steps s s)
end

