-- ==== Sys2Proof/Laws/Bits.lean ====
section
/-! SUPPORT. Laws of bit fields: a field read back after it is written, and the other fields of the word; little-endian bytes. -/
namespace Sys2Proof.Laws
open Sys2Proof.Machine

theorem fget_testBit (f : Fld) (x : Word) (i : Nat) :
    (fget f x).testBit i = (decide (i < f.w) && x.getLsbD (f.lo + i)) := by
  simp only [fget, Nat.testBit_mod_two_pow, Nat.testBit_shiftRight, BitVec.testBit_toNat]

theorem fset_getLsbD (f : Fld) (x : Word) (v i : Nat) (h : i < 64) :
    (fset f x v).getLsbD i =
      if f.lo ≤ i ∧ i < f.lo + f.w then v.testBit (i - f.lo) else x.getLsbD i := by
  simp only [fset, BitVec.getLsbD_or, BitVec.getLsbD_and, BitVec.getLsbD_not, BitVec.getLsbD_ofNat,
    Nat.testBit_shiftLeft, Nat.testBit_two_pow_sub_one, Nat.testBit_mod_two_pow, h, decide_true, Bool.true_and]
  by_cases a : f.lo ≤ i
  · by_cases b : i < f.lo + f.w
    · have : i - f.lo < f.w := by omega
      simp [a, b, this]
    · have : ¬ i - f.lo < f.w := by omega
      simp [a, b, this]
  · simp [a]

/-- A field reads what was written to it. -/
theorem fget_fset_same (f : Fld) (x : Word) (v : Nat) (h : f.lo + f.w ≤ 64) : fget f (fset f x v) = v % 2 ^ f.w := by
  apply Nat.eq_of_testBit_eq
  intro i
  rw [fget_testBit, Nat.testBit_mod_two_pow]
  by_cases a : i < f.w
  · have b : f.lo + i < f.lo + f.w := by omega
    rw [fset_getLsbD _ _ _ _ (by omega)]
    simp [a]
  · simp [a]

/-- A field that shares no bit with the one written reads as before. -/
theorem fget_fset_other (f g : Fld) (x : Word) (v : Nat) (hg : g.lo + g.w ≤ 64)
    (h : g.lo + g.w ≤ f.lo ∨ f.lo + f.w ≤ g.lo) : fget g (fset f x v) = fget g x := by
  apply Nat.eq_of_testBit_eq
  intro i
  rw [fget_testBit, fget_testBit]
  by_cases a : i < g.w
  · rw [fset_getLsbD _ _ _ _ (by omega), if_neg (by omega)]
  · simp [a]

/-- A field is below its width's power. -/
theorem fget_lt (f : Fld) (x : Word) : fget f x < 2 ^ f.w := Nat.mod_lt _ (Nat.two_pow_pos _)

/-- Writing a field its own value changes nothing. -/
theorem fset_fget (f : Fld) (x : Word) : fset f x (fget f x) = x := by
  apply BitVec.eq_of_getLsbD_eq
  intro i hi
  rw [fset_getLsbD _ _ _ _ hi]
  split
  · rename_i h
    rw [fget_testBit, show f.lo + (i - f.lo) = i by omega]
    simp; omega
  · rfl

/-- The later of two writes of one field stands. -/
theorem fset_fset (f : Fld) (x : Word) (v w : Nat) : fset f (fset f x v) w = fset f x w := by
  apply BitVec.eq_of_getLsbD_eq
  intro i hi
  rw [fset_getLsbD _ _ _ _ hi, fset_getLsbD _ _ _ _ hi, fset_getLsbD _ _ _ _ hi]
  split <;> rfl

@[simp] theorem toBytes_length (n x : Nat) : (toBytes n x).length = n := by
  induction n generalizing x with
  | zero => rfl
  | succ n ih => simp [toBytes, ih]

/-- Bytes read back give the value written (R9). -/
theorem ofBytes_toBytes (n x : Nat) : ofBytes (toBytes n x) = x % 256 ^ n := by
  induction n generalizing x with
  | zero => simp [toBytes, ofBytes, Nat.mod_one]
  | succ n ih =>
    simp only [toBytes, ofBytes, ih, BitVec.toNat_ofNat]
    have e : 256 ^ (n + 1) = 256 * 256 ^ n := by rw [Nat.pow_succ, Nat.mul_comm]
    rw [e, Nat.mod_mul]

end Sys2Proof.Laws
end

