-- ==== Sys2Proof/Laws/Map.lean ====
section
/-! SUPPORT. Laws of the sparse maps: read after write, other keys untouched, the canonical form kept. -/
namespace Sys2Proof.Laws
open Sys2Proof.Machine

variable {α : Type}

theorem mapGet_erase_same (d : Nat → α) (m : List (Nat × α)) (k : Nat) :
    mapGet d (mapErase m k) k = d k := by
  induction m with
  | nil => rfl
  | cons e m ih =>
    obtain ⟨k', v⟩ := e
    by_cases h : k' = k
    · simp [mapErase, h, ih]
    · simp [mapErase, h, mapGet, ih]

theorem mapGet_erase_other (d : Nat → α) (m : List (Nat × α)) (k j : Nat) (h : j ≠ k) :
    mapGet d (mapErase m k) j = mapGet d m j := by
  induction m with
  | nil => rfl
  | cons e m ih =>
    obtain ⟨k', v⟩ := e
    by_cases hk : k' = k
    · have : k' ≠ j := by omega
      simp [mapErase, hk, ih, mapGet]; intro hh; omega
    · simp only [mapErase, if_neg hk, mapGet, ih]

theorem mapGet_insert_other (d : Nat → α) (m : List (Nat × α)) (k j : Nat) (v : α) (h : j ≠ k) :
    mapGet d (mapInsert m k v) j = mapGet d m j := by
  induction m with
  | nil => simp [mapInsert, mapGet]; intro hh; omega
  | cons e m ih =>
    obtain ⟨k', v'⟩ := e
    unfold mapInsert
    split
    · have : k ≠ j := by omega
      simp [mapGet, this]
    · simp [mapGet, ih]

theorem mapGet_insert_same (d : Nat → α) (m : List (Nat × α)) (k : Nat) (v : α) :
    mapGet d (mapInsert (mapErase m k) k v) k = v := by
  induction m with
  | nil => simp [mapErase, mapInsert, mapGet]
  | cons e m ih =>
    obtain ⟨k', v'⟩ := e
    by_cases h : k' = k
    · simp [mapErase, h, ih]
    · simp only [mapErase, h, if_false, mapInsert]
      split
      · simp [mapGet]
      · simp [mapGet, h, ih]

/-- A read after a write to the same key gives the value written. -/
@[simp] theorem mapGet_set_same [DecidableEq α] (d : Nat → α) (m : List (Nat × α)) (k : Nat) (v : α) :
    mapGet d (mapSet d m k v) k = v := by
  unfold mapSet
  split
  · rename_i h; rw [mapGet_erase_same, h]
  · exact mapGet_insert_same d m k v

/-- A write leaves every other key alone. -/
theorem mapGet_set_other [DecidableEq α] (d : Nat → α) (m : List (Nat × α)) (k j : Nat) (v : α) (h : j ≠ k) :
    mapGet d (mapSet d m k v) j = mapGet d m j := by
  unfold mapSet
  split
  · exact mapGet_erase_other d m k j h
  · rw [mapGet_insert_other d _ k j v h, mapGet_erase_other d m k j h]

theorem mapGet_set [DecidableEq α] (d : Nat → α) (m : List (Nat × α)) (k j : Nat) (v : α) :
    mapGet d (mapSet d m k v) j = if j = k then v else mapGet d m j := by
  by_cases h : j = k
  · simp [h]
  · simp [h, mapGet_set_other]

theorem mapWfFrom_mono [DecidableEq α] (d : Nat → α) (m : List (Nat × α)) (a b : Nat) (hab : a ≤ b)
    (h : mapWfFrom d b m = true) : mapWfFrom d a m = true := by
  cases m with
  | nil => rfl
  | cons e m =>
    obtain ⟨k, v⟩ := e
    simp only [mapWfFrom, Bool.and_eq_true, decide_eq_true_eq] at h ⊢
    exact ⟨⟨by omega, h.1.2⟩, h.2⟩

theorem mapWfFrom_erase [DecidableEq α] (d : Nat → α) (m : List (Nat × α)) (b k : Nat)
    (h : mapWfFrom d b m = true) : mapWfFrom d b (mapErase m k) = true := by
  induction m generalizing b with
  | nil => rfl
  | cons e m ih =>
    obtain ⟨k', v⟩ := e
    simp only [mapWfFrom, Bool.and_eq_true, decide_eq_true_eq] at h
    unfold mapErase
    split
    · exact mapWfFrom_mono d _ b (k' + 1) (by omega) (ih _ h.2)
    · simp only [mapWfFrom, Bool.and_eq_true, decide_eq_true_eq]
      exact ⟨h.1, ih _ h.2⟩

theorem mapWfFrom_insert [DecidableEq α] (d : Nat → α) (m : List (Nat × α)) (b k : Nat) (v : α)
    (h : mapWfFrom d b (mapErase m k) = true) (hb : b ≤ k) (hv : v ≠ d k) :
    mapWfFrom d b (mapInsert (mapErase m k) k v) = true := by
  induction m generalizing b with
  | nil => simp [mapErase, mapInsert, mapWfFrom, hb, hv]
  | cons e m ih =>
    obtain ⟨k', v'⟩ := e
    by_cases hk : k' = k
    · simp only [mapErase, hk, if_true] at h ⊢; exact ih _ h hb
    · simp only [mapErase, hk, if_false] at h ⊢
      simp only [mapWfFrom, Bool.and_eq_true, decide_eq_true_eq] at h
      unfold mapInsert
      split
      · rename_i hlt
        simp only [mapWfFrom, Bool.and_eq_true, decide_eq_true_eq]
        exact ⟨⟨hb, hv⟩, ⟨by omega, h.1.2⟩, h.2⟩
      · rename_i hlt
        simp only [mapWfFrom, Bool.and_eq_true, decide_eq_true_eq]
        exact ⟨h.1, ih _ h.2 (by omega)⟩

/-- Every write keeps the canonical form. -/
theorem mapSet_wf [DecidableEq α] (d : Nat → α) (m : List (Nat × α)) (k : Nat) (v : α)
    (h : mapWf d m = true) : mapWf d (mapSet d m k v) = true := by
  unfold mapWf at *
  unfold mapSet
  split
  · exact mapWfFrom_erase d m 0 k h
  · rename_i hv
    exact mapWfFrom_insert d m 0 k v (mapWfFrom_erase d m 0 k h) (Nat.zero_le _) hv

theorem mapWfFrom_filter [DecidableEq α] (d : Nat → α) (p : Nat × α → Bool) (m : List (Nat × α)) (b : Nat)
    (h : mapWfFrom d b m = true) : mapWfFrom d b (m.filter p) = true := by
  induction m generalizing b with
  | nil => rfl
  | cons e m ih =>
    obtain ⟨k, v⟩ := e
    simp only [mapWfFrom, Bool.and_eq_true, decide_eq_true_eq] at h
    rw [List.filter_cons]
    split
    · simp only [mapWfFrom, Bool.and_eq_true, decide_eq_true_eq]; exact ⟨h.1, ih _ h.2⟩
    · exact mapWfFrom_mono d _ b (k + 1) (by omega) (ih _ h.2)

/-- Dropping entries keeps the canonical form. -/
theorem filter_wf [DecidableEq α] (d : Nat → α) (p : Nat × α → Bool) (m : List (Nat × α))
    (h : mapWf d m = true) : mapWf d (m.filter p) = true := mapWfFrom_filter d p m 0 h

theorem mapFind_erase_other (m : List (Nat × α)) (k j : Nat) (h : j ≠ k) : mapFind (mapErase m k) j = mapFind m j := by
  induction m with
  | nil => rfl
  | cons e m ih =>
    obtain ⟨k', v⟩ := e
    by_cases hk : k' = k
    · have : k' ≠ j := by omega
      simp only [mapErase, if_pos hk, mapFind, if_neg this, ih]
    · simp only [mapErase, if_neg hk, mapFind, ih]

theorem mapFind_erase_same (m : List (Nat × α)) (k : Nat) : mapFind (mapErase m k) k = none := by
  induction m with
  | nil => rfl
  | cons e m ih =>
    obtain ⟨k', v⟩ := e
    by_cases hk : k' = k
    · simp only [mapErase, if_pos hk, ih]
    · simp only [mapErase, if_neg hk, mapFind, ih]

theorem mapFind_insert_same (m : List (Nat × α)) (k : Nat) (v : α) (h : mapFind m k = none) :
    mapFind (mapInsert m k v) k = some v := by
  induction m with
  | nil => simp [mapInsert, mapFind]
  | cons e m ih =>
    obtain ⟨k', v'⟩ := e
    by_cases hk : k' = k
    · simp [mapFind, hk] at h
    · simp only [mapFind, if_neg hk] at h
      unfold mapInsert
      split
      · simp [mapFind]
      · simp only [mapFind, if_neg hk, ih h]

theorem mapFind_insert_other (m : List (Nat × α)) (k j : Nat) (v : α) (h : j ≠ k) :
    mapFind (mapInsert m k v) j = mapFind m j := by
  induction m with
  | nil => have : k ≠ j := by omega
           simp [mapInsert, mapFind, this]
  | cons e m ih =>
    obtain ⟨k', v'⟩ := e
    unfold mapInsert
    split
    · have : k ≠ j := by omega
      simp only [mapFind, if_neg this]
    · simp only [mapFind, ih]

@[simp] theorem mapFind_put_same (m : List (Nat × α)) (k : Nat) (v : α) : mapFind (mapPut m k v) k = some v :=
  mapFind_insert_same _ k v (mapFind_erase_same m k)

theorem mapFind_put_other (m : List (Nat × α)) (k j : Nat) (v : α) (h : j ≠ k) : mapFind (mapPut m k v) j = mapFind m j := by
  rw [mapPut, mapFind_insert_other _ _ _ _ h, mapFind_erase_other _ _ _ h]

/-- An unlisted key reads the default. -/
theorem mapGet_nil (d : Nat → α) (k : Nat) : mapGet d [] k = d k := rfl

end Sys2Proof.Laws
end

