-- ==== Sys2Proof/Laws/State.lean ====
section
/-! SUPPORT. The laws of State's updates: for each operation that writes one field, what every other field reads after it;
then read after write for each kind of state. No later proof unfolds a record update. -/
namespace Sys2Proof.Laws
open Sys2Proof.Machine

variable (s : State)

/-! ### setReg writes `csr` -/

@[simp] theorem setReg_pending (off : Nat) (v : Word) : (setReg s off v).pending = s.pending := rfl
@[simp] theorem setReg_boot (off : Nat) (v : Word) : (setReg s off v).boot = s.boot := rfl
@[simp] theorem setReg_nvm (off : Nat) (v : Word) : (setReg s off v).nvm = s.nvm := rfl
@[simp] theorem setReg_edits (off : Nat) (v : Word) : (setReg s off v).edits = s.edits := rfl
@[simp] theorem setReg_ftu (off : Nat) (v : Word) : (setReg s off v).ftu = s.ftu := rfl
@[simp] theorem setReg_flt (off : Nat) (v : Word) : (setReg s off v).flt = s.flt := rfl
@[simp] theorem setReg_sec (off : Nat) (v : Word) : (setReg s off v).sec = s.sec := rfl
@[simp] theorem setReg_pwr (off : Nat) (v : Word) : (setReg s off v).pwr = s.pwr := rfl
@[simp] theorem setReg_crings (off : Nat) (v : Word) : (setReg s off v).crings = s.crings := rfl
@[simp] theorem setReg_qrings (off : Nat) (v : Word) : (setReg s off v).qrings = s.qrings := rfl
@[simp] theorem setReg_qids (off : Nat) (v : Word) : (setReg s off v).qids = s.qids := rfl
@[simp] theorem setReg_cores (off : Nat) (v : Word) : (setReg s off v).cores = s.cores := rfl
@[simp] theorem setReg_pups (off : Nat) (v : Word) : (setReg s off v).pups = s.pups := rfl
@[simp] theorem setReg_objs (off : Nat) (v : Word) : (setReg s off v).objs = s.objs := rfl
@[simp] theorem setReg_jobs (off : Nat) (v : Word) : (setReg s off v).jobs = s.jobs := rfl
@[simp] theorem setReg_slots (off : Nat) (v : Word) : (setReg s off v).slots = s.slots := rfl
@[simp] theorem setReg_slotQ (off : Nat) (v : Word) : (setReg s off v).slotQ = s.slotQ := rfl
@[simp] theorem setReg_net (off : Nat) (v : Word) : (setReg s off v).net = s.net := rfl
@[simp] theorem setReg_coll (off : Nat) (v : Word) : (setReg s off v).coll = s.coll := rfl
@[simp] theorem setReg_mem (off : Nat) (v : Word) : (setReg s off v).mem = s.mem := rfl
@[simp] theorem setReg_bad (off : Nat) (v : Word) : (setReg s off v).bad = s.bad := rfl
@[simp] theorem setReg_errTimes (off : Nat) (v : Word) : (setReg s off v).errTimes = s.errTimes := rfl
@[simp] theorem setReg_lostWin (off : Nat) (v : Word) : (setReg s off v).lostWin = s.lostWin := rfl
@[simp] theorem setReg_aclk (off : Nat) (v : Word) : (setReg s off v).aclk = s.aclk := rfl
@[simp] theorem setReg_out (off : Nat) (v : Word) : (setReg s off v).out = s.out := rfl
@[simp] theorem setReg_free (off : Nat) (v : Word) : (setReg s off v).free = s.free := rfl

/-! ### setEdit writes `edits` -/

@[simp] theorem setEdit_pending (off : Nat) (v : Option Word) : (setEdit s off v).pending = s.pending := rfl
@[simp] theorem setEdit_boot (off : Nat) (v : Option Word) : (setEdit s off v).boot = s.boot := rfl
@[simp] theorem setEdit_nvm (off : Nat) (v : Option Word) : (setEdit s off v).nvm = s.nvm := rfl
@[simp] theorem setEdit_csr (off : Nat) (v : Option Word) : (setEdit s off v).csr = s.csr := rfl
@[simp] theorem setEdit_ftu (off : Nat) (v : Option Word) : (setEdit s off v).ftu = s.ftu := rfl
@[simp] theorem setEdit_flt (off : Nat) (v : Option Word) : (setEdit s off v).flt = s.flt := rfl
@[simp] theorem setEdit_sec (off : Nat) (v : Option Word) : (setEdit s off v).sec = s.sec := rfl
@[simp] theorem setEdit_pwr (off : Nat) (v : Option Word) : (setEdit s off v).pwr = s.pwr := rfl
@[simp] theorem setEdit_crings (off : Nat) (v : Option Word) : (setEdit s off v).crings = s.crings := rfl
@[simp] theorem setEdit_qrings (off : Nat) (v : Option Word) : (setEdit s off v).qrings = s.qrings := rfl
@[simp] theorem setEdit_qids (off : Nat) (v : Option Word) : (setEdit s off v).qids = s.qids := rfl
@[simp] theorem setEdit_cores (off : Nat) (v : Option Word) : (setEdit s off v).cores = s.cores := rfl
@[simp] theorem setEdit_pups (off : Nat) (v : Option Word) : (setEdit s off v).pups = s.pups := rfl
@[simp] theorem setEdit_objs (off : Nat) (v : Option Word) : (setEdit s off v).objs = s.objs := rfl
@[simp] theorem setEdit_jobs (off : Nat) (v : Option Word) : (setEdit s off v).jobs = s.jobs := rfl
@[simp] theorem setEdit_slots (off : Nat) (v : Option Word) : (setEdit s off v).slots = s.slots := rfl
@[simp] theorem setEdit_slotQ (off : Nat) (v : Option Word) : (setEdit s off v).slotQ = s.slotQ := rfl
@[simp] theorem setEdit_net (off : Nat) (v : Option Word) : (setEdit s off v).net = s.net := rfl
@[simp] theorem setEdit_coll (off : Nat) (v : Option Word) : (setEdit s off v).coll = s.coll := rfl
@[simp] theorem setEdit_mem (off : Nat) (v : Option Word) : (setEdit s off v).mem = s.mem := rfl
@[simp] theorem setEdit_bad (off : Nat) (v : Option Word) : (setEdit s off v).bad = s.bad := rfl
@[simp] theorem setEdit_errTimes (off : Nat) (v : Option Word) : (setEdit s off v).errTimes = s.errTimes := rfl
@[simp] theorem setEdit_lostWin (off : Nat) (v : Option Word) : (setEdit s off v).lostWin = s.lostWin := rfl
@[simp] theorem setEdit_aclk (off : Nat) (v : Option Word) : (setEdit s off v).aclk = s.aclk := rfl
@[simp] theorem setEdit_out (off : Nat) (v : Option Word) : (setEdit s off v).out = s.out := rfl
@[simp] theorem setEdit_free (off : Nat) (v : Option Word) : (setEdit s off v).free = s.free := rfl

/-! ### emit writes `out` -/

@[simp] theorem emit_pending (o : Out) : (emit s o).pending = s.pending := rfl
@[simp] theorem emit_boot (o : Out) : (emit s o).boot = s.boot := rfl
@[simp] theorem emit_nvm (o : Out) : (emit s o).nvm = s.nvm := rfl
@[simp] theorem emit_csr (o : Out) : (emit s o).csr = s.csr := rfl
@[simp] theorem emit_edits (o : Out) : (emit s o).edits = s.edits := rfl
@[simp] theorem emit_ftu (o : Out) : (emit s o).ftu = s.ftu := rfl
@[simp] theorem emit_flt (o : Out) : (emit s o).flt = s.flt := rfl
@[simp] theorem emit_sec (o : Out) : (emit s o).sec = s.sec := rfl
@[simp] theorem emit_pwr (o : Out) : (emit s o).pwr = s.pwr := rfl
@[simp] theorem emit_crings (o : Out) : (emit s o).crings = s.crings := rfl
@[simp] theorem emit_qrings (o : Out) : (emit s o).qrings = s.qrings := rfl
@[simp] theorem emit_qids (o : Out) : (emit s o).qids = s.qids := rfl
@[simp] theorem emit_cores (o : Out) : (emit s o).cores = s.cores := rfl
@[simp] theorem emit_pups (o : Out) : (emit s o).pups = s.pups := rfl
@[simp] theorem emit_objs (o : Out) : (emit s o).objs = s.objs := rfl
@[simp] theorem emit_jobs (o : Out) : (emit s o).jobs = s.jobs := rfl
@[simp] theorem emit_slots (o : Out) : (emit s o).slots = s.slots := rfl
@[simp] theorem emit_slotQ (o : Out) : (emit s o).slotQ = s.slotQ := rfl
@[simp] theorem emit_net (o : Out) : (emit s o).net = s.net := rfl
@[simp] theorem emit_coll (o : Out) : (emit s o).coll = s.coll := rfl
@[simp] theorem emit_mem (o : Out) : (emit s o).mem = s.mem := rfl
@[simp] theorem emit_bad (o : Out) : (emit s o).bad = s.bad := rfl
@[simp] theorem emit_errTimes (o : Out) : (emit s o).errTimes = s.errTimes := rfl
@[simp] theorem emit_lostWin (o : Out) : (emit s o).lostWin = s.lostWin := rfl
@[simp] theorem emit_aclk (o : Out) : (emit s o).aclk = s.aclk := rfl
@[simp] theorem emit_free (o : Out) : (emit s o).free = s.free := rfl

/-! ### advanceTo writes `ftu` -/

@[simp] theorem advanceTo_pending (t : Word) : (advanceTo s t).pending = s.pending := rfl
@[simp] theorem advanceTo_boot (t : Word) : (advanceTo s t).boot = s.boot := rfl
@[simp] theorem advanceTo_nvm (t : Word) : (advanceTo s t).nvm = s.nvm := rfl
@[simp] theorem advanceTo_csr (t : Word) : (advanceTo s t).csr = s.csr := rfl
@[simp] theorem advanceTo_edits (t : Word) : (advanceTo s t).edits = s.edits := rfl
@[simp] theorem advanceTo_flt (t : Word) : (advanceTo s t).flt = s.flt := rfl
@[simp] theorem advanceTo_sec (t : Word) : (advanceTo s t).sec = s.sec := rfl
@[simp] theorem advanceTo_pwr (t : Word) : (advanceTo s t).pwr = s.pwr := rfl
@[simp] theorem advanceTo_crings (t : Word) : (advanceTo s t).crings = s.crings := rfl
@[simp] theorem advanceTo_qrings (t : Word) : (advanceTo s t).qrings = s.qrings := rfl
@[simp] theorem advanceTo_qids (t : Word) : (advanceTo s t).qids = s.qids := rfl
@[simp] theorem advanceTo_cores (t : Word) : (advanceTo s t).cores = s.cores := rfl
@[simp] theorem advanceTo_pups (t : Word) : (advanceTo s t).pups = s.pups := rfl
@[simp] theorem advanceTo_objs (t : Word) : (advanceTo s t).objs = s.objs := rfl
@[simp] theorem advanceTo_jobs (t : Word) : (advanceTo s t).jobs = s.jobs := rfl
@[simp] theorem advanceTo_slots (t : Word) : (advanceTo s t).slots = s.slots := rfl
@[simp] theorem advanceTo_slotQ (t : Word) : (advanceTo s t).slotQ = s.slotQ := rfl
@[simp] theorem advanceTo_net (t : Word) : (advanceTo s t).net = s.net := rfl
@[simp] theorem advanceTo_coll (t : Word) : (advanceTo s t).coll = s.coll := rfl
@[simp] theorem advanceTo_mem (t : Word) : (advanceTo s t).mem = s.mem := rfl
@[simp] theorem advanceTo_bad (t : Word) : (advanceTo s t).bad = s.bad := rfl
@[simp] theorem advanceTo_errTimes (t : Word) : (advanceTo s t).errTimes = s.errTimes := rfl
@[simp] theorem advanceTo_lostWin (t : Word) : (advanceTo s t).lostWin = s.lostWin := rfl
@[simp] theorem advanceTo_aclk (t : Word) : (advanceTo s t).aclk = s.aclk := rfl
@[simp] theorem advanceTo_out (t : Word) : (advanceTo s t).out = s.out := rfl
@[simp] theorem advanceTo_free (t : Word) : (advanceTo s t).free = s.free := rfl

/-! ### wrByte writes `mem` -/

@[simp] theorem wrByte_pending (k : Nat) (b : Byte) : (wrByte s k b).pending = s.pending := rfl
@[simp] theorem wrByte_boot (k : Nat) (b : Byte) : (wrByte s k b).boot = s.boot := rfl
@[simp] theorem wrByte_nvm (k : Nat) (b : Byte) : (wrByte s k b).nvm = s.nvm := rfl
@[simp] theorem wrByte_csr (k : Nat) (b : Byte) : (wrByte s k b).csr = s.csr := rfl
@[simp] theorem wrByte_edits (k : Nat) (b : Byte) : (wrByte s k b).edits = s.edits := rfl
@[simp] theorem wrByte_ftu (k : Nat) (b : Byte) : (wrByte s k b).ftu = s.ftu := rfl
@[simp] theorem wrByte_flt (k : Nat) (b : Byte) : (wrByte s k b).flt = s.flt := rfl
@[simp] theorem wrByte_sec (k : Nat) (b : Byte) : (wrByte s k b).sec = s.sec := rfl
@[simp] theorem wrByte_pwr (k : Nat) (b : Byte) : (wrByte s k b).pwr = s.pwr := rfl
@[simp] theorem wrByte_crings (k : Nat) (b : Byte) : (wrByte s k b).crings = s.crings := rfl
@[simp] theorem wrByte_qrings (k : Nat) (b : Byte) : (wrByte s k b).qrings = s.qrings := rfl
@[simp] theorem wrByte_qids (k : Nat) (b : Byte) : (wrByte s k b).qids = s.qids := rfl
@[simp] theorem wrByte_cores (k : Nat) (b : Byte) : (wrByte s k b).cores = s.cores := rfl
@[simp] theorem wrByte_pups (k : Nat) (b : Byte) : (wrByte s k b).pups = s.pups := rfl
@[simp] theorem wrByte_objs (k : Nat) (b : Byte) : (wrByte s k b).objs = s.objs := rfl
@[simp] theorem wrByte_jobs (k : Nat) (b : Byte) : (wrByte s k b).jobs = s.jobs := rfl
@[simp] theorem wrByte_slots (k : Nat) (b : Byte) : (wrByte s k b).slots = s.slots := rfl
@[simp] theorem wrByte_slotQ (k : Nat) (b : Byte) : (wrByte s k b).slotQ = s.slotQ := rfl
@[simp] theorem wrByte_net (k : Nat) (b : Byte) : (wrByte s k b).net = s.net := rfl
@[simp] theorem wrByte_coll (k : Nat) (b : Byte) : (wrByte s k b).coll = s.coll := rfl
@[simp] theorem wrByte_bad (k : Nat) (b : Byte) : (wrByte s k b).bad = s.bad := rfl
@[simp] theorem wrByte_errTimes (k : Nat) (b : Byte) : (wrByte s k b).errTimes = s.errTimes := rfl
@[simp] theorem wrByte_lostWin (k : Nat) (b : Byte) : (wrByte s k b).lostWin = s.lostWin := rfl
@[simp] theorem wrByte_aclk (k : Nat) (b : Byte) : (wrByte s k b).aclk = s.aclk := rfl
@[simp] theorem wrByte_out (k : Nat) (b : Byte) : (wrByte s k b).out = s.out := rfl
@[simp] theorem wrByte_free (k : Nat) (b : Byte) : (wrByte s k b).free = s.free := rfl

/-! ### setObj writes `objs` -/

@[simp] theorem setObj_pending (n : Nat) (o : Obj) : (setObj s n o).pending = s.pending := rfl
@[simp] theorem setObj_boot (n : Nat) (o : Obj) : (setObj s n o).boot = s.boot := rfl
@[simp] theorem setObj_nvm (n : Nat) (o : Obj) : (setObj s n o).nvm = s.nvm := rfl
@[simp] theorem setObj_csr (n : Nat) (o : Obj) : (setObj s n o).csr = s.csr := rfl
@[simp] theorem setObj_edits (n : Nat) (o : Obj) : (setObj s n o).edits = s.edits := rfl
@[simp] theorem setObj_ftu (n : Nat) (o : Obj) : (setObj s n o).ftu = s.ftu := rfl
@[simp] theorem setObj_flt (n : Nat) (o : Obj) : (setObj s n o).flt = s.flt := rfl
@[simp] theorem setObj_sec (n : Nat) (o : Obj) : (setObj s n o).sec = s.sec := rfl
@[simp] theorem setObj_pwr (n : Nat) (o : Obj) : (setObj s n o).pwr = s.pwr := rfl
@[simp] theorem setObj_crings (n : Nat) (o : Obj) : (setObj s n o).crings = s.crings := rfl
@[simp] theorem setObj_qrings (n : Nat) (o : Obj) : (setObj s n o).qrings = s.qrings := rfl
@[simp] theorem setObj_qids (n : Nat) (o : Obj) : (setObj s n o).qids = s.qids := rfl
@[simp] theorem setObj_cores (n : Nat) (o : Obj) : (setObj s n o).cores = s.cores := rfl
@[simp] theorem setObj_pups (n : Nat) (o : Obj) : (setObj s n o).pups = s.pups := rfl
@[simp] theorem setObj_jobs (n : Nat) (o : Obj) : (setObj s n o).jobs = s.jobs := rfl
@[simp] theorem setObj_slots (n : Nat) (o : Obj) : (setObj s n o).slots = s.slots := rfl
@[simp] theorem setObj_slotQ (n : Nat) (o : Obj) : (setObj s n o).slotQ = s.slotQ := rfl
@[simp] theorem setObj_net (n : Nat) (o : Obj) : (setObj s n o).net = s.net := rfl
@[simp] theorem setObj_coll (n : Nat) (o : Obj) : (setObj s n o).coll = s.coll := rfl
@[simp] theorem setObj_mem (n : Nat) (o : Obj) : (setObj s n o).mem = s.mem := rfl
@[simp] theorem setObj_bad (n : Nat) (o : Obj) : (setObj s n o).bad = s.bad := rfl
@[simp] theorem setObj_errTimes (n : Nat) (o : Obj) : (setObj s n o).errTimes = s.errTimes := rfl
@[simp] theorem setObj_lostWin (n : Nat) (o : Obj) : (setObj s n o).lostWin = s.lostWin := rfl
@[simp] theorem setObj_aclk (n : Nat) (o : Obj) : (setObj s n o).aclk = s.aclk := rfl
@[simp] theorem setObj_out (n : Nat) (o : Obj) : (setObj s n o).out = s.out := rfl
@[simp] theorem setObj_free (n : Nat) (o : Obj) : (setObj s n o).free = s.free := rfl

/-! ### setQring writes `qrings` -/

@[simp] theorem setQring_pending (q : Nat) (r : CplRing) : (setQring s q r).pending = s.pending := rfl
@[simp] theorem setQring_boot (q : Nat) (r : CplRing) : (setQring s q r).boot = s.boot := rfl
@[simp] theorem setQring_nvm (q : Nat) (r : CplRing) : (setQring s q r).nvm = s.nvm := rfl
@[simp] theorem setQring_csr (q : Nat) (r : CplRing) : (setQring s q r).csr = s.csr := rfl
@[simp] theorem setQring_edits (q : Nat) (r : CplRing) : (setQring s q r).edits = s.edits := rfl
@[simp] theorem setQring_ftu (q : Nat) (r : CplRing) : (setQring s q r).ftu = s.ftu := rfl
@[simp] theorem setQring_flt (q : Nat) (r : CplRing) : (setQring s q r).flt = s.flt := rfl
@[simp] theorem setQring_sec (q : Nat) (r : CplRing) : (setQring s q r).sec = s.sec := rfl
@[simp] theorem setQring_pwr (q : Nat) (r : CplRing) : (setQring s q r).pwr = s.pwr := rfl
@[simp] theorem setQring_crings (q : Nat) (r : CplRing) : (setQring s q r).crings = s.crings := rfl
@[simp] theorem setQring_qids (q : Nat) (r : CplRing) : (setQring s q r).qids = s.qids := rfl
@[simp] theorem setQring_cores (q : Nat) (r : CplRing) : (setQring s q r).cores = s.cores := rfl
@[simp] theorem setQring_pups (q : Nat) (r : CplRing) : (setQring s q r).pups = s.pups := rfl
@[simp] theorem setQring_objs (q : Nat) (r : CplRing) : (setQring s q r).objs = s.objs := rfl
@[simp] theorem setQring_jobs (q : Nat) (r : CplRing) : (setQring s q r).jobs = s.jobs := rfl
@[simp] theorem setQring_slots (q : Nat) (r : CplRing) : (setQring s q r).slots = s.slots := rfl
@[simp] theorem setQring_slotQ (q : Nat) (r : CplRing) : (setQring s q r).slotQ = s.slotQ := rfl
@[simp] theorem setQring_net (q : Nat) (r : CplRing) : (setQring s q r).net = s.net := rfl
@[simp] theorem setQring_coll (q : Nat) (r : CplRing) : (setQring s q r).coll = s.coll := rfl
@[simp] theorem setQring_mem (q : Nat) (r : CplRing) : (setQring s q r).mem = s.mem := rfl
@[simp] theorem setQring_bad (q : Nat) (r : CplRing) : (setQring s q r).bad = s.bad := rfl
@[simp] theorem setQring_errTimes (q : Nat) (r : CplRing) : (setQring s q r).errTimes = s.errTimes := rfl
@[simp] theorem setQring_lostWin (q : Nat) (r : CplRing) : (setQring s q r).lostWin = s.lostWin := rfl
@[simp] theorem setQring_aclk (q : Nat) (r : CplRing) : (setQring s q r).aclk = s.aclk := rfl
@[simp] theorem setQring_out (q : Nat) (r : CplRing) : (setQring s q r).out = s.out := rfl
@[simp] theorem setQring_free (q : Nat) (r : CplRing) : (setQring s q r).free = s.free := rfl

/-! ### setCring writes `crings` -/

@[simp] theorem setCring_pending (r : Nat) (c : CmdRing) : (setCring s r c).pending = s.pending := rfl
@[simp] theorem setCring_boot (r : Nat) (c : CmdRing) : (setCring s r c).boot = s.boot := rfl
@[simp] theorem setCring_nvm (r : Nat) (c : CmdRing) : (setCring s r c).nvm = s.nvm := rfl
@[simp] theorem setCring_csr (r : Nat) (c : CmdRing) : (setCring s r c).csr = s.csr := rfl
@[simp] theorem setCring_edits (r : Nat) (c : CmdRing) : (setCring s r c).edits = s.edits := rfl
@[simp] theorem setCring_ftu (r : Nat) (c : CmdRing) : (setCring s r c).ftu = s.ftu := rfl
@[simp] theorem setCring_flt (r : Nat) (c : CmdRing) : (setCring s r c).flt = s.flt := rfl
@[simp] theorem setCring_sec (r : Nat) (c : CmdRing) : (setCring s r c).sec = s.sec := rfl
@[simp] theorem setCring_pwr (r : Nat) (c : CmdRing) : (setCring s r c).pwr = s.pwr := rfl
@[simp] theorem setCring_qrings (r : Nat) (c : CmdRing) : (setCring s r c).qrings = s.qrings := rfl
@[simp] theorem setCring_qids (r : Nat) (c : CmdRing) : (setCring s r c).qids = s.qids := rfl
@[simp] theorem setCring_cores (r : Nat) (c : CmdRing) : (setCring s r c).cores = s.cores := rfl
@[simp] theorem setCring_pups (r : Nat) (c : CmdRing) : (setCring s r c).pups = s.pups := rfl
@[simp] theorem setCring_objs (r : Nat) (c : CmdRing) : (setCring s r c).objs = s.objs := rfl
@[simp] theorem setCring_jobs (r : Nat) (c : CmdRing) : (setCring s r c).jobs = s.jobs := rfl
@[simp] theorem setCring_slots (r : Nat) (c : CmdRing) : (setCring s r c).slots = s.slots := rfl
@[simp] theorem setCring_slotQ (r : Nat) (c : CmdRing) : (setCring s r c).slotQ = s.slotQ := rfl
@[simp] theorem setCring_net (r : Nat) (c : CmdRing) : (setCring s r c).net = s.net := rfl
@[simp] theorem setCring_coll (r : Nat) (c : CmdRing) : (setCring s r c).coll = s.coll := rfl
@[simp] theorem setCring_mem (r : Nat) (c : CmdRing) : (setCring s r c).mem = s.mem := rfl
@[simp] theorem setCring_bad (r : Nat) (c : CmdRing) : (setCring s r c).bad = s.bad := rfl
@[simp] theorem setCring_errTimes (r : Nat) (c : CmdRing) : (setCring s r c).errTimes = s.errTimes := rfl
@[simp] theorem setCring_lostWin (r : Nat) (c : CmdRing) : (setCring s r c).lostWin = s.lostWin := rfl
@[simp] theorem setCring_aclk (r : Nat) (c : CmdRing) : (setCring s r c).aclk = s.aclk := rfl
@[simp] theorem setCring_out (r : Nat) (c : CmdRing) : (setCring s r c).out = s.out := rfl
@[simp] theorem setCring_free (r : Nat) (c : CmdRing) : (setCring s r c).free = s.free := rfl

/-! ### setJob writes `jobs` -/

@[simp] theorem setJob_pending (j : Nat) (x : Job) : (setJob s j x).pending = s.pending := rfl
@[simp] theorem setJob_boot (j : Nat) (x : Job) : (setJob s j x).boot = s.boot := rfl
@[simp] theorem setJob_nvm (j : Nat) (x : Job) : (setJob s j x).nvm = s.nvm := rfl
@[simp] theorem setJob_csr (j : Nat) (x : Job) : (setJob s j x).csr = s.csr := rfl
@[simp] theorem setJob_edits (j : Nat) (x : Job) : (setJob s j x).edits = s.edits := rfl
@[simp] theorem setJob_ftu (j : Nat) (x : Job) : (setJob s j x).ftu = s.ftu := rfl
@[simp] theorem setJob_flt (j : Nat) (x : Job) : (setJob s j x).flt = s.flt := rfl
@[simp] theorem setJob_sec (j : Nat) (x : Job) : (setJob s j x).sec = s.sec := rfl
@[simp] theorem setJob_pwr (j : Nat) (x : Job) : (setJob s j x).pwr = s.pwr := rfl
@[simp] theorem setJob_crings (j : Nat) (x : Job) : (setJob s j x).crings = s.crings := rfl
@[simp] theorem setJob_qrings (j : Nat) (x : Job) : (setJob s j x).qrings = s.qrings := rfl
@[simp] theorem setJob_qids (j : Nat) (x : Job) : (setJob s j x).qids = s.qids := rfl
@[simp] theorem setJob_cores (j : Nat) (x : Job) : (setJob s j x).cores = s.cores := rfl
@[simp] theorem setJob_pups (j : Nat) (x : Job) : (setJob s j x).pups = s.pups := rfl
@[simp] theorem setJob_objs (j : Nat) (x : Job) : (setJob s j x).objs = s.objs := rfl
@[simp] theorem setJob_slots (j : Nat) (x : Job) : (setJob s j x).slots = s.slots := rfl
@[simp] theorem setJob_slotQ (j : Nat) (x : Job) : (setJob s j x).slotQ = s.slotQ := rfl
@[simp] theorem setJob_net (j : Nat) (x : Job) : (setJob s j x).net = s.net := rfl
@[simp] theorem setJob_coll (j : Nat) (x : Job) : (setJob s j x).coll = s.coll := rfl
@[simp] theorem setJob_mem (j : Nat) (x : Job) : (setJob s j x).mem = s.mem := rfl
@[simp] theorem setJob_bad (j : Nat) (x : Job) : (setJob s j x).bad = s.bad := rfl
@[simp] theorem setJob_errTimes (j : Nat) (x : Job) : (setJob s j x).errTimes = s.errTimes := rfl
@[simp] theorem setJob_lostWin (j : Nat) (x : Job) : (setJob s j x).lostWin = s.lostWin := rfl
@[simp] theorem setJob_aclk (j : Nat) (x : Job) : (setJob s j x).aclk = s.aclk := rfl
@[simp] theorem setJob_out (j : Nat) (x : Job) : (setJob s j x).out = s.out := rfl
@[simp] theorem setJob_free (j : Nat) (x : Job) : (setJob s j x).free = s.free := rfl

/-! ### setCore writes `cores` -/

@[simp] theorem setCore_pending (n : Nat) (c : Core) : (setCore s n c).pending = s.pending := rfl
@[simp] theorem setCore_boot (n : Nat) (c : Core) : (setCore s n c).boot = s.boot := rfl
@[simp] theorem setCore_nvm (n : Nat) (c : Core) : (setCore s n c).nvm = s.nvm := rfl
@[simp] theorem setCore_csr (n : Nat) (c : Core) : (setCore s n c).csr = s.csr := rfl
@[simp] theorem setCore_edits (n : Nat) (c : Core) : (setCore s n c).edits = s.edits := rfl
@[simp] theorem setCore_ftu (n : Nat) (c : Core) : (setCore s n c).ftu = s.ftu := rfl
@[simp] theorem setCore_flt (n : Nat) (c : Core) : (setCore s n c).flt = s.flt := rfl
@[simp] theorem setCore_sec (n : Nat) (c : Core) : (setCore s n c).sec = s.sec := rfl
@[simp] theorem setCore_pwr (n : Nat) (c : Core) : (setCore s n c).pwr = s.pwr := rfl
@[simp] theorem setCore_crings (n : Nat) (c : Core) : (setCore s n c).crings = s.crings := rfl
@[simp] theorem setCore_qrings (n : Nat) (c : Core) : (setCore s n c).qrings = s.qrings := rfl
@[simp] theorem setCore_qids (n : Nat) (c : Core) : (setCore s n c).qids = s.qids := rfl
@[simp] theorem setCore_pups (n : Nat) (c : Core) : (setCore s n c).pups = s.pups := rfl
@[simp] theorem setCore_objs (n : Nat) (c : Core) : (setCore s n c).objs = s.objs := rfl
@[simp] theorem setCore_jobs (n : Nat) (c : Core) : (setCore s n c).jobs = s.jobs := rfl
@[simp] theorem setCore_slots (n : Nat) (c : Core) : (setCore s n c).slots = s.slots := rfl
@[simp] theorem setCore_slotQ (n : Nat) (c : Core) : (setCore s n c).slotQ = s.slotQ := rfl
@[simp] theorem setCore_net (n : Nat) (c : Core) : (setCore s n c).net = s.net := rfl
@[simp] theorem setCore_coll (n : Nat) (c : Core) : (setCore s n c).coll = s.coll := rfl
@[simp] theorem setCore_mem (n : Nat) (c : Core) : (setCore s n c).mem = s.mem := rfl
@[simp] theorem setCore_bad (n : Nat) (c : Core) : (setCore s n c).bad = s.bad := rfl
@[simp] theorem setCore_errTimes (n : Nat) (c : Core) : (setCore s n c).errTimes = s.errTimes := rfl
@[simp] theorem setCore_lostWin (n : Nat) (c : Core) : (setCore s n c).lostWin = s.lostWin := rfl
@[simp] theorem setCore_aclk (n : Nat) (c : Core) : (setCore s n c).aclk = s.aclk := rfl
@[simp] theorem setCore_out (n : Nat) (c : Core) : (setCore s n c).out = s.out := rfl
@[simp] theorem setCore_free (n : Nat) (c : Core) : (setCore s n c).free = s.free := rfl

/-! ### setPup writes `pups` -/

@[simp] theorem setPup_pending (n : Nat) (c : PupCore) : (setPup s n c).pending = s.pending := rfl
@[simp] theorem setPup_boot (n : Nat) (c : PupCore) : (setPup s n c).boot = s.boot := rfl
@[simp] theorem setPup_nvm (n : Nat) (c : PupCore) : (setPup s n c).nvm = s.nvm := rfl
@[simp] theorem setPup_csr (n : Nat) (c : PupCore) : (setPup s n c).csr = s.csr := rfl
@[simp] theorem setPup_edits (n : Nat) (c : PupCore) : (setPup s n c).edits = s.edits := rfl
@[simp] theorem setPup_ftu (n : Nat) (c : PupCore) : (setPup s n c).ftu = s.ftu := rfl
@[simp] theorem setPup_flt (n : Nat) (c : PupCore) : (setPup s n c).flt = s.flt := rfl
@[simp] theorem setPup_sec (n : Nat) (c : PupCore) : (setPup s n c).sec = s.sec := rfl
@[simp] theorem setPup_pwr (n : Nat) (c : PupCore) : (setPup s n c).pwr = s.pwr := rfl
@[simp] theorem setPup_crings (n : Nat) (c : PupCore) : (setPup s n c).crings = s.crings := rfl
@[simp] theorem setPup_qrings (n : Nat) (c : PupCore) : (setPup s n c).qrings = s.qrings := rfl
@[simp] theorem setPup_qids (n : Nat) (c : PupCore) : (setPup s n c).qids = s.qids := rfl
@[simp] theorem setPup_cores (n : Nat) (c : PupCore) : (setPup s n c).cores = s.cores := rfl
@[simp] theorem setPup_objs (n : Nat) (c : PupCore) : (setPup s n c).objs = s.objs := rfl
@[simp] theorem setPup_jobs (n : Nat) (c : PupCore) : (setPup s n c).jobs = s.jobs := rfl
@[simp] theorem setPup_slots (n : Nat) (c : PupCore) : (setPup s n c).slots = s.slots := rfl
@[simp] theorem setPup_slotQ (n : Nat) (c : PupCore) : (setPup s n c).slotQ = s.slotQ := rfl
@[simp] theorem setPup_net (n : Nat) (c : PupCore) : (setPup s n c).net = s.net := rfl
@[simp] theorem setPup_coll (n : Nat) (c : PupCore) : (setPup s n c).coll = s.coll := rfl
@[simp] theorem setPup_mem (n : Nat) (c : PupCore) : (setPup s n c).mem = s.mem := rfl
@[simp] theorem setPup_bad (n : Nat) (c : PupCore) : (setPup s n c).bad = s.bad := rfl
@[simp] theorem setPup_errTimes (n : Nat) (c : PupCore) : (setPup s n c).errTimes = s.errTimes := rfl
@[simp] theorem setPup_lostWin (n : Nat) (c : PupCore) : (setPup s n c).lostWin = s.lostWin := rfl
@[simp] theorem setPup_aclk (n : Nat) (c : PupCore) : (setPup s n c).aclk = s.aclk := rfl
@[simp] theorem setPup_out (n : Nat) (c : PupCore) : (setPup s n c).out = s.out := rfl
@[simp] theorem setPup_free (n : Nat) (c : PupCore) : (setPup s n c).free = s.free := rfl

/-! ### setPort writes `net` -/

@[simp] theorem setPort_pending (p : Nat) (x : PortSt) : (setPort s p x).pending = s.pending := rfl
@[simp] theorem setPort_boot (p : Nat) (x : PortSt) : (setPort s p x).boot = s.boot := rfl
@[simp] theorem setPort_nvm (p : Nat) (x : PortSt) : (setPort s p x).nvm = s.nvm := rfl
@[simp] theorem setPort_csr (p : Nat) (x : PortSt) : (setPort s p x).csr = s.csr := rfl
@[simp] theorem setPort_edits (p : Nat) (x : PortSt) : (setPort s p x).edits = s.edits := rfl
@[simp] theorem setPort_ftu (p : Nat) (x : PortSt) : (setPort s p x).ftu = s.ftu := rfl
@[simp] theorem setPort_flt (p : Nat) (x : PortSt) : (setPort s p x).flt = s.flt := rfl
@[simp] theorem setPort_sec (p : Nat) (x : PortSt) : (setPort s p x).sec = s.sec := rfl
@[simp] theorem setPort_pwr (p : Nat) (x : PortSt) : (setPort s p x).pwr = s.pwr := rfl
@[simp] theorem setPort_crings (p : Nat) (x : PortSt) : (setPort s p x).crings = s.crings := rfl
@[simp] theorem setPort_qrings (p : Nat) (x : PortSt) : (setPort s p x).qrings = s.qrings := rfl
@[simp] theorem setPort_qids (p : Nat) (x : PortSt) : (setPort s p x).qids = s.qids := rfl
@[simp] theorem setPort_cores (p : Nat) (x : PortSt) : (setPort s p x).cores = s.cores := rfl
@[simp] theorem setPort_pups (p : Nat) (x : PortSt) : (setPort s p x).pups = s.pups := rfl
@[simp] theorem setPort_objs (p : Nat) (x : PortSt) : (setPort s p x).objs = s.objs := rfl
@[simp] theorem setPort_jobs (p : Nat) (x : PortSt) : (setPort s p x).jobs = s.jobs := rfl
@[simp] theorem setPort_slots (p : Nat) (x : PortSt) : (setPort s p x).slots = s.slots := rfl
@[simp] theorem setPort_slotQ (p : Nat) (x : PortSt) : (setPort s p x).slotQ = s.slotQ := rfl
@[simp] theorem setPort_coll (p : Nat) (x : PortSt) : (setPort s p x).coll = s.coll := rfl
@[simp] theorem setPort_mem (p : Nat) (x : PortSt) : (setPort s p x).mem = s.mem := rfl
@[simp] theorem setPort_bad (p : Nat) (x : PortSt) : (setPort s p x).bad = s.bad := rfl
@[simp] theorem setPort_errTimes (p : Nat) (x : PortSt) : (setPort s p x).errTimes = s.errTimes := rfl
@[simp] theorem setPort_lostWin (p : Nat) (x : PortSt) : (setPort s p x).lostWin = s.lostWin := rfl
@[simp] theorem setPort_aclk (p : Nat) (x : PortSt) : (setPort s p x).aclk = s.aclk := rfl
@[simp] theorem setPort_out (p : Nat) (x : PortSt) : (setPort s p x).out = s.out := rfl
@[simp] theorem setPort_free (p : Nat) (x : PortSt) : (setPort s p x).free = s.free := rfl

/-! ### setSlotQ writes `slotQ` -/

@[simp] theorem setSlotQ_pending (k : Nat) (q : SlotQ) : (setSlotQ s k q).pending = s.pending := rfl
@[simp] theorem setSlotQ_boot (k : Nat) (q : SlotQ) : (setSlotQ s k q).boot = s.boot := rfl
@[simp] theorem setSlotQ_nvm (k : Nat) (q : SlotQ) : (setSlotQ s k q).nvm = s.nvm := rfl
@[simp] theorem setSlotQ_csr (k : Nat) (q : SlotQ) : (setSlotQ s k q).csr = s.csr := rfl
@[simp] theorem setSlotQ_edits (k : Nat) (q : SlotQ) : (setSlotQ s k q).edits = s.edits := rfl
@[simp] theorem setSlotQ_ftu (k : Nat) (q : SlotQ) : (setSlotQ s k q).ftu = s.ftu := rfl
@[simp] theorem setSlotQ_flt (k : Nat) (q : SlotQ) : (setSlotQ s k q).flt = s.flt := rfl
@[simp] theorem setSlotQ_sec (k : Nat) (q : SlotQ) : (setSlotQ s k q).sec = s.sec := rfl
@[simp] theorem setSlotQ_pwr (k : Nat) (q : SlotQ) : (setSlotQ s k q).pwr = s.pwr := rfl
@[simp] theorem setSlotQ_crings (k : Nat) (q : SlotQ) : (setSlotQ s k q).crings = s.crings := rfl
@[simp] theorem setSlotQ_qrings (k : Nat) (q : SlotQ) : (setSlotQ s k q).qrings = s.qrings := rfl
@[simp] theorem setSlotQ_qids (k : Nat) (q : SlotQ) : (setSlotQ s k q).qids = s.qids := rfl
@[simp] theorem setSlotQ_cores (k : Nat) (q : SlotQ) : (setSlotQ s k q).cores = s.cores := rfl
@[simp] theorem setSlotQ_pups (k : Nat) (q : SlotQ) : (setSlotQ s k q).pups = s.pups := rfl
@[simp] theorem setSlotQ_objs (k : Nat) (q : SlotQ) : (setSlotQ s k q).objs = s.objs := rfl
@[simp] theorem setSlotQ_jobs (k : Nat) (q : SlotQ) : (setSlotQ s k q).jobs = s.jobs := rfl
@[simp] theorem setSlotQ_slots (k : Nat) (q : SlotQ) : (setSlotQ s k q).slots = s.slots := rfl
@[simp] theorem setSlotQ_net (k : Nat) (q : SlotQ) : (setSlotQ s k q).net = s.net := rfl
@[simp] theorem setSlotQ_coll (k : Nat) (q : SlotQ) : (setSlotQ s k q).coll = s.coll := rfl
@[simp] theorem setSlotQ_mem (k : Nat) (q : SlotQ) : (setSlotQ s k q).mem = s.mem := rfl
@[simp] theorem setSlotQ_bad (k : Nat) (q : SlotQ) : (setSlotQ s k q).bad = s.bad := rfl
@[simp] theorem setSlotQ_errTimes (k : Nat) (q : SlotQ) : (setSlotQ s k q).errTimes = s.errTimes := rfl
@[simp] theorem setSlotQ_lostWin (k : Nat) (q : SlotQ) : (setSlotQ s k q).lostWin = s.lostWin := rfl
@[simp] theorem setSlotQ_aclk (k : Nat) (q : SlotQ) : (setSlotQ s k q).aclk = s.aclk := rfl
@[simp] theorem setSlotQ_out (k : Nat) (q : SlotQ) : (setSlotQ s k q).out = s.out := rfl
@[simp] theorem setSlotQ_free (k : Nat) (q : SlotQ) : (setSlotQ s k q).free = s.free := rfl

/-! ### setGroup writes `coll` -/

@[simp] theorem setGroup_pending (x : Group) : (setGroup s x).pending = s.pending := rfl
@[simp] theorem setGroup_boot (x : Group) : (setGroup s x).boot = s.boot := rfl
@[simp] theorem setGroup_nvm (x : Group) : (setGroup s x).nvm = s.nvm := rfl
@[simp] theorem setGroup_csr (x : Group) : (setGroup s x).csr = s.csr := rfl
@[simp] theorem setGroup_edits (x : Group) : (setGroup s x).edits = s.edits := rfl
@[simp] theorem setGroup_ftu (x : Group) : (setGroup s x).ftu = s.ftu := rfl
@[simp] theorem setGroup_flt (x : Group) : (setGroup s x).flt = s.flt := rfl
@[simp] theorem setGroup_sec (x : Group) : (setGroup s x).sec = s.sec := rfl
@[simp] theorem setGroup_pwr (x : Group) : (setGroup s x).pwr = s.pwr := rfl
@[simp] theorem setGroup_crings (x : Group) : (setGroup s x).crings = s.crings := rfl
@[simp] theorem setGroup_qrings (x : Group) : (setGroup s x).qrings = s.qrings := rfl
@[simp] theorem setGroup_qids (x : Group) : (setGroup s x).qids = s.qids := rfl
@[simp] theorem setGroup_cores (x : Group) : (setGroup s x).cores = s.cores := rfl
@[simp] theorem setGroup_pups (x : Group) : (setGroup s x).pups = s.pups := rfl
@[simp] theorem setGroup_objs (x : Group) : (setGroup s x).objs = s.objs := rfl
@[simp] theorem setGroup_jobs (x : Group) : (setGroup s x).jobs = s.jobs := rfl
@[simp] theorem setGroup_slots (x : Group) : (setGroup s x).slots = s.slots := rfl
@[simp] theorem setGroup_slotQ (x : Group) : (setGroup s x).slotQ = s.slotQ := rfl
@[simp] theorem setGroup_net (x : Group) : (setGroup s x).net = s.net := rfl
@[simp] theorem setGroup_mem (x : Group) : (setGroup s x).mem = s.mem := rfl
@[simp] theorem setGroup_bad (x : Group) : (setGroup s x).bad = s.bad := rfl
@[simp] theorem setGroup_errTimes (x : Group) : (setGroup s x).errTimes = s.errTimes := rfl
@[simp] theorem setGroup_lostWin (x : Group) : (setGroup s x).lostWin = s.lostWin := rfl
@[simp] theorem setGroup_aclk (x : Group) : (setGroup s x).aclk = s.aclk := rfl
@[simp] theorem setGroup_out (x : Group) : (setGroup s x).out = s.out := rfl
@[simp] theorem setGroup_free (x : Group) : (setGroup s x).free = s.free := rfl

/-! ### setLaunch writes `coll` -/

@[simp] theorem setLaunch_pending (x : Launch) : (setLaunch s x).pending = s.pending := rfl
@[simp] theorem setLaunch_boot (x : Launch) : (setLaunch s x).boot = s.boot := rfl
@[simp] theorem setLaunch_nvm (x : Launch) : (setLaunch s x).nvm = s.nvm := rfl
@[simp] theorem setLaunch_csr (x : Launch) : (setLaunch s x).csr = s.csr := rfl
@[simp] theorem setLaunch_edits (x : Launch) : (setLaunch s x).edits = s.edits := rfl
@[simp] theorem setLaunch_ftu (x : Launch) : (setLaunch s x).ftu = s.ftu := rfl
@[simp] theorem setLaunch_flt (x : Launch) : (setLaunch s x).flt = s.flt := rfl
@[simp] theorem setLaunch_sec (x : Launch) : (setLaunch s x).sec = s.sec := rfl
@[simp] theorem setLaunch_pwr (x : Launch) : (setLaunch s x).pwr = s.pwr := rfl
@[simp] theorem setLaunch_crings (x : Launch) : (setLaunch s x).crings = s.crings := rfl
@[simp] theorem setLaunch_qrings (x : Launch) : (setLaunch s x).qrings = s.qrings := rfl
@[simp] theorem setLaunch_qids (x : Launch) : (setLaunch s x).qids = s.qids := rfl
@[simp] theorem setLaunch_cores (x : Launch) : (setLaunch s x).cores = s.cores := rfl
@[simp] theorem setLaunch_pups (x : Launch) : (setLaunch s x).pups = s.pups := rfl
@[simp] theorem setLaunch_objs (x : Launch) : (setLaunch s x).objs = s.objs := rfl
@[simp] theorem setLaunch_jobs (x : Launch) : (setLaunch s x).jobs = s.jobs := rfl
@[simp] theorem setLaunch_slots (x : Launch) : (setLaunch s x).slots = s.slots := rfl
@[simp] theorem setLaunch_slotQ (x : Launch) : (setLaunch s x).slotQ = s.slotQ := rfl
@[simp] theorem setLaunch_net (x : Launch) : (setLaunch s x).net = s.net := rfl
@[simp] theorem setLaunch_mem (x : Launch) : (setLaunch s x).mem = s.mem := rfl
@[simp] theorem setLaunch_bad (x : Launch) : (setLaunch s x).bad = s.bad := rfl
@[simp] theorem setLaunch_errTimes (x : Launch) : (setLaunch s x).errTimes = s.errTimes := rfl
@[simp] theorem setLaunch_lostWin (x : Launch) : (setLaunch s x).lostWin = s.lostWin := rfl
@[simp] theorem setLaunch_aclk (x : Launch) : (setLaunch s x).aclk = s.aclk := rfl
@[simp] theorem setLaunch_out (x : Launch) : (setLaunch s x).out = s.out := rfl
@[simp] theorem setLaunch_free (x : Launch) : (setLaunch s x).free = s.free := rfl

/-! ### setF writes `csr` -/

@[simp] theorem setF_pending (off : Nat) (f : Fld) (v : Nat) : (setF s off f v).pending = s.pending := rfl
@[simp] theorem setF_boot (off : Nat) (f : Fld) (v : Nat) : (setF s off f v).boot = s.boot := rfl
@[simp] theorem setF_nvm (off : Nat) (f : Fld) (v : Nat) : (setF s off f v).nvm = s.nvm := rfl
@[simp] theorem setF_edits (off : Nat) (f : Fld) (v : Nat) : (setF s off f v).edits = s.edits := rfl
@[simp] theorem setF_ftu (off : Nat) (f : Fld) (v : Nat) : (setF s off f v).ftu = s.ftu := rfl
@[simp] theorem setF_flt (off : Nat) (f : Fld) (v : Nat) : (setF s off f v).flt = s.flt := rfl
@[simp] theorem setF_sec (off : Nat) (f : Fld) (v : Nat) : (setF s off f v).sec = s.sec := rfl
@[simp] theorem setF_pwr (off : Nat) (f : Fld) (v : Nat) : (setF s off f v).pwr = s.pwr := rfl
@[simp] theorem setF_crings (off : Nat) (f : Fld) (v : Nat) : (setF s off f v).crings = s.crings := rfl
@[simp] theorem setF_qrings (off : Nat) (f : Fld) (v : Nat) : (setF s off f v).qrings = s.qrings := rfl
@[simp] theorem setF_qids (off : Nat) (f : Fld) (v : Nat) : (setF s off f v).qids = s.qids := rfl
@[simp] theorem setF_cores (off : Nat) (f : Fld) (v : Nat) : (setF s off f v).cores = s.cores := rfl
@[simp] theorem setF_pups (off : Nat) (f : Fld) (v : Nat) : (setF s off f v).pups = s.pups := rfl
@[simp] theorem setF_objs (off : Nat) (f : Fld) (v : Nat) : (setF s off f v).objs = s.objs := rfl
@[simp] theorem setF_jobs (off : Nat) (f : Fld) (v : Nat) : (setF s off f v).jobs = s.jobs := rfl
@[simp] theorem setF_slots (off : Nat) (f : Fld) (v : Nat) : (setF s off f v).slots = s.slots := rfl
@[simp] theorem setF_slotQ (off : Nat) (f : Fld) (v : Nat) : (setF s off f v).slotQ = s.slotQ := rfl
@[simp] theorem setF_net (off : Nat) (f : Fld) (v : Nat) : (setF s off f v).net = s.net := rfl
@[simp] theorem setF_coll (off : Nat) (f : Fld) (v : Nat) : (setF s off f v).coll = s.coll := rfl
@[simp] theorem setF_mem (off : Nat) (f : Fld) (v : Nat) : (setF s off f v).mem = s.mem := rfl
@[simp] theorem setF_bad (off : Nat) (f : Fld) (v : Nat) : (setF s off f v).bad = s.bad := rfl
@[simp] theorem setF_errTimes (off : Nat) (f : Fld) (v : Nat) : (setF s off f v).errTimes = s.errTimes := rfl
@[simp] theorem setF_lostWin (off : Nat) (f : Fld) (v : Nat) : (setF s off f v).lostWin = s.lostWin := rfl
@[simp] theorem setF_aclk (off : Nat) (f : Fld) (v : Nat) : (setF s off f v).aclk = s.aclk := rfl
@[simp] theorem setF_out (off : Nat) (f : Fld) (v : Nat) : (setF s off f v).out = s.out := rfl
@[simp] theorem setF_free (off : Nat) (f : Fld) (v : Nat) : (setF s off f v).free = s.free := rfl

/-! ### bump writes `csr` -/

@[simp] theorem bump_pending (off : Nat) (f : Fld) (k : Nat) : (bump s off f k).pending = s.pending := rfl
@[simp] theorem bump_boot (off : Nat) (f : Fld) (k : Nat) : (bump s off f k).boot = s.boot := rfl
@[simp] theorem bump_nvm (off : Nat) (f : Fld) (k : Nat) : (bump s off f k).nvm = s.nvm := rfl
@[simp] theorem bump_edits (off : Nat) (f : Fld) (k : Nat) : (bump s off f k).edits = s.edits := rfl
@[simp] theorem bump_ftu (off : Nat) (f : Fld) (k : Nat) : (bump s off f k).ftu = s.ftu := rfl
@[simp] theorem bump_flt (off : Nat) (f : Fld) (k : Nat) : (bump s off f k).flt = s.flt := rfl
@[simp] theorem bump_sec (off : Nat) (f : Fld) (k : Nat) : (bump s off f k).sec = s.sec := rfl
@[simp] theorem bump_pwr (off : Nat) (f : Fld) (k : Nat) : (bump s off f k).pwr = s.pwr := rfl
@[simp] theorem bump_crings (off : Nat) (f : Fld) (k : Nat) : (bump s off f k).crings = s.crings := rfl
@[simp] theorem bump_qrings (off : Nat) (f : Fld) (k : Nat) : (bump s off f k).qrings = s.qrings := rfl
@[simp] theorem bump_qids (off : Nat) (f : Fld) (k : Nat) : (bump s off f k).qids = s.qids := rfl
@[simp] theorem bump_cores (off : Nat) (f : Fld) (k : Nat) : (bump s off f k).cores = s.cores := rfl
@[simp] theorem bump_pups (off : Nat) (f : Fld) (k : Nat) : (bump s off f k).pups = s.pups := rfl
@[simp] theorem bump_objs (off : Nat) (f : Fld) (k : Nat) : (bump s off f k).objs = s.objs := rfl
@[simp] theorem bump_jobs (off : Nat) (f : Fld) (k : Nat) : (bump s off f k).jobs = s.jobs := rfl
@[simp] theorem bump_slots (off : Nat) (f : Fld) (k : Nat) : (bump s off f k).slots = s.slots := rfl
@[simp] theorem bump_slotQ (off : Nat) (f : Fld) (k : Nat) : (bump s off f k).slotQ = s.slotQ := rfl
@[simp] theorem bump_net (off : Nat) (f : Fld) (k : Nat) : (bump s off f k).net = s.net := rfl
@[simp] theorem bump_coll (off : Nat) (f : Fld) (k : Nat) : (bump s off f k).coll = s.coll := rfl
@[simp] theorem bump_mem (off : Nat) (f : Fld) (k : Nat) : (bump s off f k).mem = s.mem := rfl
@[simp] theorem bump_bad (off : Nat) (f : Fld) (k : Nat) : (bump s off f k).bad = s.bad := rfl
@[simp] theorem bump_errTimes (off : Nat) (f : Fld) (k : Nat) : (bump s off f k).errTimes = s.errTimes := rfl
@[simp] theorem bump_lostWin (off : Nat) (f : Fld) (k : Nat) : (bump s off f k).lostWin = s.lostWin := rfl
@[simp] theorem bump_aclk (off : Nat) (f : Fld) (k : Nat) : (bump s off f k).aclk = s.aclk := rfl
@[simp] theorem bump_out (off : Nat) (f : Fld) (k : Nat) : (bump s off f k).out = s.out := rfl
@[simp] theorem bump_free (off : Nat) (f : Fld) (k : Nat) : (bump s off f k).free = s.free := rfl

/-! ### fresh counts one free value -/

@[simp] theorem fresh_pending : (fresh s).2.pending = s.pending := rfl
@[simp] theorem fresh_boot : (fresh s).2.boot = s.boot := rfl
@[simp] theorem fresh_nvm : (fresh s).2.nvm = s.nvm := rfl
@[simp] theorem fresh_csr : (fresh s).2.csr = s.csr := rfl
@[simp] theorem fresh_edits : (fresh s).2.edits = s.edits := rfl
@[simp] theorem fresh_ftu : (fresh s).2.ftu = s.ftu := rfl
@[simp] theorem fresh_flt : (fresh s).2.flt = s.flt := rfl
@[simp] theorem fresh_sec : (fresh s).2.sec = s.sec := rfl
@[simp] theorem fresh_pwr : (fresh s).2.pwr = s.pwr := rfl
@[simp] theorem fresh_crings : (fresh s).2.crings = s.crings := rfl
@[simp] theorem fresh_qrings : (fresh s).2.qrings = s.qrings := rfl
@[simp] theorem fresh_qids : (fresh s).2.qids = s.qids := rfl
@[simp] theorem fresh_cores : (fresh s).2.cores = s.cores := rfl
@[simp] theorem fresh_pups : (fresh s).2.pups = s.pups := rfl
@[simp] theorem fresh_objs : (fresh s).2.objs = s.objs := rfl
@[simp] theorem fresh_jobs : (fresh s).2.jobs = s.jobs := rfl
@[simp] theorem fresh_slots : (fresh s).2.slots = s.slots := rfl
@[simp] theorem fresh_slotQ : (fresh s).2.slotQ = s.slotQ := rfl
@[simp] theorem fresh_net : (fresh s).2.net = s.net := rfl
@[simp] theorem fresh_coll : (fresh s).2.coll = s.coll := rfl
@[simp] theorem fresh_mem : (fresh s).2.mem = s.mem := rfl
@[simp] theorem fresh_bad : (fresh s).2.bad = s.bad := rfl
@[simp] theorem fresh_errTimes : (fresh s).2.errTimes = s.errTimes := rfl
@[simp] theorem fresh_lostWin : (fresh s).2.lostWin = s.lostWin := rfl
@[simp] theorem fresh_aclk : (fresh s).2.aclk = s.aclk := rfl
@[simp] theorem fresh_out : (fresh s).2.out = s.out := rfl
@[simp] theorem fresh_free : (fresh s).2.free = s.free + 1 := rfl

/-! ### Read after write -/

@[simp] theorem reg_setReg_same (off : Nat) (v : Word) : reg (setReg s off v) off = v := mapGet_set_same ..
theorem reg_setReg_other (off k : Nat) (v : Word) (h : k ≠ off) : reg (setReg s off v) k = reg s k := mapGet_set_other _ _ _ _ _ h
theorem reg_setReg (off k : Nat) (v : Word) : reg (setReg s off v) k = if k = off then v else reg s k := mapGet_set ..
@[simp] theorem editOf_setEdit_same (off : Nat) (v : Option Word) : editOf (setEdit s off v) off = v := mapGet_set_same ..
theorem editOf_setEdit_other (off k : Nat) (v : Option Word) (h : k ≠ off) : editOf (setEdit s off v) k = editOf s k :=
  mapGet_set_other _ _ _ _ _ h
@[simp] theorem rdByte_wrByte_same (k : Nat) (b : Byte) : rdByte (wrByte s k b) k = b := mapGet_set_same ..
theorem rdByte_wrByte_other (k i : Nat) (b : Byte) (h : i ≠ k) : rdByte (wrByte s k b) i = rdByte s i := mapGet_set_other _ _ _ _ _ h
@[simp] theorem obj_setObj_same (n : Nat) (o : Obj) : obj (setObj s n o) n = o := mapGet_set_same ..
theorem obj_setObj_other (n i : Nat) (o : Obj) (h : i ≠ n) : obj (setObj s n o) i = obj s i := mapGet_set_other _ _ _ _ _ h
@[simp] theorem qring_setQring_same (q : Nat) (r : CplRing) : qring (setQring s q r) q = r := mapGet_set_same ..
theorem qring_setQring_other (q i : Nat) (r : CplRing) (h : i ≠ q) : qring (setQring s q r) i = qring s i := mapGet_set_other _ _ _ _ _ h
@[simp] theorem cring_setCring_same (r : Nat) (c : CmdRing) : cring (setCring s r c) r = c := mapGet_set_same ..
theorem cring_setCring_other (r i : Nat) (c : CmdRing) (h : i ≠ r) : cring (setCring s r c) i = cring s i := mapGet_set_other _ _ _ _ _ h
@[simp] theorem core_setCore_same (n : Nat) (c : Core) : Machine.core (setCore s n c) n = c := mapGet_set_same ..
theorem core_setCore_other (n i : Nat) (c : Core) (h : i ≠ n) : Machine.core (setCore s n c) i = Machine.core s i := mapGet_set_other _ _ _ _ _ h
@[simp] theorem pup_setPup_same (n : Nat) (c : PupCore) : pup (setPup s n c) n = c := mapGet_set_same ..
theorem pup_setPup_other (n i : Nat) (c : PupCore) (h : i ≠ n) : pup (setPup s n c) i = pup s i := mapGet_set_other _ _ _ _ _ h
@[simp] theorem port_setPort_same (p : Nat) (x : PortSt) : port (setPort s p x) p = x := mapGet_set_same ..
theorem port_setPort_other (p i : Nat) (x : PortSt) (h : i ≠ p) : port (setPort s p x) i = port s i := mapGet_set_other _ _ _ _ _ h
@[simp] theorem slotQueue_setSlotQ_same (k : Nat) (q : SlotQ) : slotQueue (setSlotQ s k q) k = q := mapGet_set_same ..
theorem slotQueue_setSlotQ_other (k i : Nat) (q : SlotQ) (h : i ≠ k) : slotQueue (setSlotQ s k q) i = slotQueue s i := mapGet_set_other _ _ _ _ _ h
@[simp] theorem job_setJob_same (j : Nat) (x : Job) : job (setJob s j x) j = some x := mapFind_put_same ..
theorem job_setJob_other (j i : Nat) (x : Job) (h : i ≠ j) : job (setJob s j x) i = job s i := mapFind_put_other _ _ _ _ h

/-! ### Accessors under updates of another field -/

@[simp] theorem core_setReg (off : Nat) (v : Word) (i : Nat) : Machine.core (setReg s off v) i = Machine.core s i := rfl
@[simp] theorem pup_setReg (off : Nat) (v : Word) (i : Nat) : pup (setReg s off v) i = pup s i := rfl
@[simp] theorem obj_setReg (off : Nat) (v : Word) (i : Nat) : obj (setReg s off v) i = obj s i := rfl
@[simp] theorem rdByte_setReg (off : Nat) (v : Word) (i : Nat) : rdByte (setReg s off v) i = rdByte s i := rfl
@[simp] theorem job_setReg (off : Nat) (v : Word) (i : Nat) : job (setReg s off v) i = job s i := rfl
@[simp] theorem reg_setEdit (off : Nat) (v : Option Word) (i : Nat) : reg (setEdit s off v) i = reg s i := rfl
@[simp] theorem core_setEdit (off : Nat) (v : Option Word) (i : Nat) : Machine.core (setEdit s off v) i = Machine.core s i := rfl
@[simp] theorem pup_setEdit (off : Nat) (v : Option Word) (i : Nat) : pup (setEdit s off v) i = pup s i := rfl
@[simp] theorem obj_setEdit (off : Nat) (v : Option Word) (i : Nat) : obj (setEdit s off v) i = obj s i := rfl
@[simp] theorem rdByte_setEdit (off : Nat) (v : Option Word) (i : Nat) : rdByte (setEdit s off v) i = rdByte s i := rfl
@[simp] theorem job_setEdit (off : Nat) (v : Option Word) (i : Nat) : job (setEdit s off v) i = job s i := rfl
@[simp] theorem reg_emit (o : Out) (i : Nat) : reg (emit s o) i = reg s i := rfl
@[simp] theorem core_emit (o : Out) (i : Nat) : Machine.core (emit s o) i = Machine.core s i := rfl
@[simp] theorem pup_emit (o : Out) (i : Nat) : pup (emit s o) i = pup s i := rfl
@[simp] theorem obj_emit (o : Out) (i : Nat) : obj (emit s o) i = obj s i := rfl
@[simp] theorem rdByte_emit (o : Out) (i : Nat) : rdByte (emit s o) i = rdByte s i := rfl
@[simp] theorem job_emit (o : Out) (i : Nat) : job (emit s o) i = job s i := rfl
@[simp] theorem reg_advanceTo (t : Word) (i : Nat) : reg (advanceTo s t) i = reg s i := rfl
@[simp] theorem core_advanceTo (t : Word) (i : Nat) : Machine.core (advanceTo s t) i = Machine.core s i := rfl
@[simp] theorem pup_advanceTo (t : Word) (i : Nat) : pup (advanceTo s t) i = pup s i := rfl
@[simp] theorem obj_advanceTo (t : Word) (i : Nat) : obj (advanceTo s t) i = obj s i := rfl
@[simp] theorem rdByte_advanceTo (t : Word) (i : Nat) : rdByte (advanceTo s t) i = rdByte s i := rfl
@[simp] theorem job_advanceTo (t : Word) (i : Nat) : job (advanceTo s t) i = job s i := rfl
@[simp] theorem reg_wrByte (k : Nat) (b : Byte) (i : Nat) : reg (wrByte s k b) i = reg s i := rfl
@[simp] theorem core_wrByte (k : Nat) (b : Byte) (i : Nat) : Machine.core (wrByte s k b) i = Machine.core s i := rfl
@[simp] theorem pup_wrByte (k : Nat) (b : Byte) (i : Nat) : pup (wrByte s k b) i = pup s i := rfl
@[simp] theorem obj_wrByte (k : Nat) (b : Byte) (i : Nat) : obj (wrByte s k b) i = obj s i := rfl
@[simp] theorem job_wrByte (k : Nat) (b : Byte) (i : Nat) : job (wrByte s k b) i = job s i := rfl
@[simp] theorem reg_setObj (n : Nat) (o : Obj) (i : Nat) : reg (setObj s n o) i = reg s i := rfl
@[simp] theorem core_setObj (n : Nat) (o : Obj) (i : Nat) : Machine.core (setObj s n o) i = Machine.core s i := rfl
@[simp] theorem pup_setObj (n : Nat) (o : Obj) (i : Nat) : pup (setObj s n o) i = pup s i := rfl
@[simp] theorem rdByte_setObj (n : Nat) (o : Obj) (i : Nat) : rdByte (setObj s n o) i = rdByte s i := rfl
@[simp] theorem job_setObj (n : Nat) (o : Obj) (i : Nat) : job (setObj s n o) i = job s i := rfl
@[simp] theorem reg_setQring (q : Nat) (r : CplRing) (i : Nat) : reg (setQring s q r) i = reg s i := rfl
@[simp] theorem core_setQring (q : Nat) (r : CplRing) (i : Nat) : Machine.core (setQring s q r) i = Machine.core s i := rfl
@[simp] theorem pup_setQring (q : Nat) (r : CplRing) (i : Nat) : pup (setQring s q r) i = pup s i := rfl
@[simp] theorem obj_setQring (q : Nat) (r : CplRing) (i : Nat) : obj (setQring s q r) i = obj s i := rfl
@[simp] theorem rdByte_setQring (q : Nat) (r : CplRing) (i : Nat) : rdByte (setQring s q r) i = rdByte s i := rfl
@[simp] theorem job_setQring (q : Nat) (r : CplRing) (i : Nat) : job (setQring s q r) i = job s i := rfl
@[simp] theorem reg_setCring (r : Nat) (c : CmdRing) (i : Nat) : reg (setCring s r c) i = reg s i := rfl
@[simp] theorem core_setCring (r : Nat) (c : CmdRing) (i : Nat) : Machine.core (setCring s r c) i = Machine.core s i := rfl
@[simp] theorem pup_setCring (r : Nat) (c : CmdRing) (i : Nat) : pup (setCring s r c) i = pup s i := rfl
@[simp] theorem obj_setCring (r : Nat) (c : CmdRing) (i : Nat) : obj (setCring s r c) i = obj s i := rfl
@[simp] theorem rdByte_setCring (r : Nat) (c : CmdRing) (i : Nat) : rdByte (setCring s r c) i = rdByte s i := rfl
@[simp] theorem job_setCring (r : Nat) (c : CmdRing) (i : Nat) : job (setCring s r c) i = job s i := rfl
@[simp] theorem reg_setJob (j : Nat) (x : Job) (i : Nat) : reg (setJob s j x) i = reg s i := rfl
@[simp] theorem core_setJob (j : Nat) (x : Job) (i : Nat) : Machine.core (setJob s j x) i = Machine.core s i := rfl
@[simp] theorem pup_setJob (j : Nat) (x : Job) (i : Nat) : pup (setJob s j x) i = pup s i := rfl
@[simp] theorem obj_setJob (j : Nat) (x : Job) (i : Nat) : obj (setJob s j x) i = obj s i := rfl
@[simp] theorem rdByte_setJob (j : Nat) (x : Job) (i : Nat) : rdByte (setJob s j x) i = rdByte s i := rfl
@[simp] theorem reg_setCore (n : Nat) (c : Core) (i : Nat) : reg (setCore s n c) i = reg s i := rfl
@[simp] theorem pup_setCore (n : Nat) (c : Core) (i : Nat) : pup (setCore s n c) i = pup s i := rfl
@[simp] theorem obj_setCore (n : Nat) (c : Core) (i : Nat) : obj (setCore s n c) i = obj s i := rfl
@[simp] theorem rdByte_setCore (n : Nat) (c : Core) (i : Nat) : rdByte (setCore s n c) i = rdByte s i := rfl
@[simp] theorem job_setCore (n : Nat) (c : Core) (i : Nat) : job (setCore s n c) i = job s i := rfl
@[simp] theorem reg_setPup (n : Nat) (c : PupCore) (i : Nat) : reg (setPup s n c) i = reg s i := rfl
@[simp] theorem core_setPup (n : Nat) (c : PupCore) (i : Nat) : Machine.core (setPup s n c) i = Machine.core s i := rfl
@[simp] theorem obj_setPup (n : Nat) (c : PupCore) (i : Nat) : obj (setPup s n c) i = obj s i := rfl
@[simp] theorem rdByte_setPup (n : Nat) (c : PupCore) (i : Nat) : rdByte (setPup s n c) i = rdByte s i := rfl
@[simp] theorem job_setPup (n : Nat) (c : PupCore) (i : Nat) : job (setPup s n c) i = job s i := rfl
@[simp] theorem reg_setPort (p : Nat) (x : PortSt) (i : Nat) : reg (setPort s p x) i = reg s i := rfl
@[simp] theorem core_setPort (p : Nat) (x : PortSt) (i : Nat) : Machine.core (setPort s p x) i = Machine.core s i := rfl
@[simp] theorem pup_setPort (p : Nat) (x : PortSt) (i : Nat) : pup (setPort s p x) i = pup s i := rfl
@[simp] theorem obj_setPort (p : Nat) (x : PortSt) (i : Nat) : obj (setPort s p x) i = obj s i := rfl
@[simp] theorem rdByte_setPort (p : Nat) (x : PortSt) (i : Nat) : rdByte (setPort s p x) i = rdByte s i := rfl
@[simp] theorem job_setPort (p : Nat) (x : PortSt) (i : Nat) : job (setPort s p x) i = job s i := rfl
@[simp] theorem reg_setSlotQ (k : Nat) (q : SlotQ) (i : Nat) : reg (setSlotQ s k q) i = reg s i := rfl
@[simp] theorem core_setSlotQ (k : Nat) (q : SlotQ) (i : Nat) : Machine.core (setSlotQ s k q) i = Machine.core s i := rfl
@[simp] theorem pup_setSlotQ (k : Nat) (q : SlotQ) (i : Nat) : pup (setSlotQ s k q) i = pup s i := rfl
@[simp] theorem obj_setSlotQ (k : Nat) (q : SlotQ) (i : Nat) : obj (setSlotQ s k q) i = obj s i := rfl
@[simp] theorem rdByte_setSlotQ (k : Nat) (q : SlotQ) (i : Nat) : rdByte (setSlotQ s k q) i = rdByte s i := rfl
@[simp] theorem job_setSlotQ (k : Nat) (q : SlotQ) (i : Nat) : job (setSlotQ s k q) i = job s i := rfl
@[simp] theorem reg_setGroup (x : Group) (i : Nat) : reg (setGroup s x) i = reg s i := rfl
@[simp] theorem core_setGroup (x : Group) (i : Nat) : Machine.core (setGroup s x) i = Machine.core s i := rfl
@[simp] theorem pup_setGroup (x : Group) (i : Nat) : pup (setGroup s x) i = pup s i := rfl
@[simp] theorem obj_setGroup (x : Group) (i : Nat) : obj (setGroup s x) i = obj s i := rfl
@[simp] theorem rdByte_setGroup (x : Group) (i : Nat) : rdByte (setGroup s x) i = rdByte s i := rfl
@[simp] theorem job_setGroup (x : Group) (i : Nat) : job (setGroup s x) i = job s i := rfl
@[simp] theorem reg_setLaunch (x : Launch) (i : Nat) : reg (setLaunch s x) i = reg s i := rfl
@[simp] theorem core_setLaunch (x : Launch) (i : Nat) : Machine.core (setLaunch s x) i = Machine.core s i := rfl
@[simp] theorem pup_setLaunch (x : Launch) (i : Nat) : pup (setLaunch s x) i = pup s i := rfl
@[simp] theorem obj_setLaunch (x : Launch) (i : Nat) : obj (setLaunch s x) i = obj s i := rfl
@[simp] theorem rdByte_setLaunch (x : Launch) (i : Nat) : rdByte (setLaunch s x) i = rdByte s i := rfl
@[simp] theorem job_setLaunch (x : Launch) (i : Nat) : job (setLaunch s x) i = job s i := rfl
@[simp] theorem core_setF (off : Nat) (f : Fld) (v : Nat) (i : Nat) : Machine.core (setF s off f v) i = Machine.core s i := rfl
@[simp] theorem pup_setF (off : Nat) (f : Fld) (v : Nat) (i : Nat) : pup (setF s off f v) i = pup s i := rfl
@[simp] theorem obj_setF (off : Nat) (f : Fld) (v : Nat) (i : Nat) : obj (setF s off f v) i = obj s i := rfl
@[simp] theorem rdByte_setF (off : Nat) (f : Fld) (v : Nat) (i : Nat) : rdByte (setF s off f v) i = rdByte s i := rfl
@[simp] theorem job_setF (off : Nat) (f : Fld) (v : Nat) (i : Nat) : job (setF s off f v) i = job s i := rfl
@[simp] theorem core_bump (off : Nat) (f : Fld) (k : Nat) (i : Nat) : Machine.core (bump s off f k) i = Machine.core s i := rfl
@[simp] theorem pup_bump (off : Nat) (f : Fld) (k : Nat) (i : Nat) : pup (bump s off f k) i = pup s i := rfl
@[simp] theorem obj_bump (off : Nat) (f : Fld) (k : Nat) (i : Nat) : obj (bump s off f k) i = obj s i := rfl
@[simp] theorem rdByte_bump (off : Nat) (f : Fld) (k : Nat) (i : Nat) : rdByte (bump s off f k) i = rdByte s i := rfl
@[simp] theorem job_bump (off : Nat) (f : Fld) (k : Nat) (i : Nat) : job (bump s off f k) i = job s i := rfl

end Sys2Proof.Laws
end

