-- ==== Sys2Proof/Laws/Operands.lean ====
section
/-! SUPPORT. Laws of a unit's registers and program index. -/
namespace Sys2Proof.Laws
open Sys2Proof.Machine

variable (s : State) (u : ZsUnit)

/-- g0 reads as 0 and discards writes (R177). -/
@[simp] theorem regRead_zero (g : Vector Word 32) : regRead g 0 = 0 := rfl
@[simp] theorem regWrite_zero (g : Vector Word 32) (v : Word) : regWrite g 0 v = g := rfl

theorem regRead_regWrite (g : Vector Word 32) (d r : GReg) (v : Word) :
    regRead (regWrite g d v) r = if r = d ∧ r ≠ 0 then v else regRead g r := by
  unfold regRead regWrite
  by_cases hr : r = 0
  · simp [hr]
  · by_cases hd : d = 0
    · have : r ≠ d := by rw [hd]; exact hr
      simp [hr, hd]
    · by_cases h : r = d
      · subst h; simp [hr]
      · have hv : d.val ≠ r.val := fun e => h (Fin.ext e.symm)
        simp [hr, hd, h, hv]

theorem getG_setG (d r : GReg) (v : Word) : getG (setG s u d v) u r = if r = d ∧ r ≠ 0 then v else getG s u r := by
  cases u with
  | core n => simp only [getG, setG, core_setCore_same]; exact regRead_regWrite ..
  | pup p => simp only [getG, setG, pup_setPup_same]; exact regRead_regWrite ..

@[simp] theorem getG_zero : getG s u 0 = 0 := by cases u <;> rfl

@[simp] theorem getG_setPc (x : BitVec 32) (r : GReg) : getG (setPc s u x) u r = getG s u r := by
  cases u with
  | core n => simp only [getG, setPc, core_setCore_same]
  | pup p => simp only [getG, setPc, pup_setPup_same]

@[simp] theorem getPc_setPc (x : BitVec 32) : getPc (setPc s u x) u = x := by
  cases u with
  | core n => simp only [getPc, setPc, core_setCore_same]
  | pup p => simp only [getPc, setPc, pup_setPup_same]

@[simp] theorem getPc_setG (d : GReg) (v : Word) : getPc (setG s u d v) u = getPc s u := by
  cases u with
  | core n => simp only [getPc, setG, core_setCore_same]
  | pup p => simp only [getPc, setG, pup_setPup_same]

/-- A register write touches cores or Puppeteer cores and nothing else. -/
theorem setG_frame (d : GReg) (v : Word) : { setG s u d v with cores := s.cores, pups := s.pups } = s := by cases u <;> rfl
theorem setPc_frame (x : BitVec 32) : { setPc s u x with cores := s.cores, pups := s.pups } = s := by cases u <;> rfl

end Sys2Proof.Laws
end

