-- ==== Sys2Proof/Laws/Memory.lean ====
section
/-! SUPPORT. Laws of storage: every operation on it keeps its canonical form, and what each leaves alone. -/
namespace Sys2Proof.Laws
open Sys2Proof.Machine

variable (s : State)

/-- A range of storage written byte by byte, with nothing skipped: what `wrBytesBut` can do at most. -/
theorem wrBytesBut_wf (skip : List Nat) (k : Nat) (bs : List Byte) (h : Memory.wf s.mem = true) :
    Memory.wf (wrBytesBut skip s k bs).mem = true := by
  induction bs generalizing s k with
  | nil => exact h
  | cons b bs ih =>
    apply ih
    split
    · exact h
    · exact mapSet_wf _ _ _ _ h

theorem wrByte_wf (k : Nat) (b : Byte) (h : Memory.wf s.mem = true) : Memory.wf (wrByte s k b).mem = true :=
  mapSet_wf _ _ _ _ h

theorem wrBytes_wf (k : Nat) (bs : List Byte) (h : Memory.wf s.mem = true) : Memory.wf (wrBytes s k bs).1.mem = true :=
  wrBytesBut_wf s _ k bs h

theorem putBytes_wf (k : Nat) (bs : List Byte) (h : Memory.wf s.mem = true) : Memory.wf (putBytes s k bs).mem = true :=
  wrBytes_wf s k bs h

/-- A unit's storage dropped, as a reset or a power state drops it. -/
theorem dropMem_wf (m : List Host.Cell) (p : Host.Cell → Bool) (h : Memory.wf m = true) : Memory.wf (m.filter p) = true :=
  filter_wf _ p m h

/-- Storage moved by a core swap (R156). -/
theorem moveMem_wf (m : List Host.Cell) (src dst len : Nat) (h : Memory.wf m = true) :
    Memory.wf (moveMem m src dst len) = true := by
  unfold moveMem
  generalize m.filter (fun e => decide (src ≤ e.1) && decide (e.1 < src + len)) = l
  have hk := dropMem_wf m (fun e => !(decide (src ≤ e.1) && decide (e.1 < src + len)) && !(decide (dst ≤ e.1) && decide (e.1 < dst + len))) h
  revert hk
  generalize m.filter (fun e => !(decide (src ≤ e.1) && decide (e.1 < src + len)) && !(decide (dst ≤ e.1) && decide (e.1 < dst + len))) = r
  intro hk
  induction l generalizing r with
  | nil => exact hk
  | cons e l ih => exact ih _ (mapSet_wf _ _ _ _ hk)

theorem reset_mem_wf : Memory.wf State.reset.mem = true := rfl
theorem reset_csr_wf : mapWf coldValue State.reset.csr = true := rfl

/-- Every register write keeps the register file's canonical form. -/
theorem setReg_wf (off : Nat) (v : Word) (h : mapWf coldValue s.csr = true) : mapWf coldValue (setReg s off v).csr = true :=
  mapSet_wf _ _ _ _ h
theorem setF_wf (off : Nat) (f : Fld) (v : Nat) (h : mapWf coldValue s.csr = true) : mapWf coldValue (setF s off f v).csr = true :=
  mapSet_wf _ _ _ _ h
theorem bump_wf (off : Nat) (f : Fld) (k : Nat) (h : mapWf coldValue s.csr = true) : mapWf coldValue (bump s off f k).csr = true :=
  mapSet_wf _ _ _ _ h

/-- Writing bytes changes storage and the list of failing words, and nothing else. -/
theorem wrBytesBut_frame (skip : List Nat) (k : Nat) (bs : List Byte) : { wrBytesBut skip s k bs with mem := s.mem } = s := by
  induction bs generalizing s k with
  | nil => rfl
  | cons b bs ih =>
    unfold wrBytesBut
    split
    · exact ih s (k + 1)
    · have := ih (wrByte s k b) (k + 1)
      calc { wrBytesBut skip (wrByte s k b) (k + 1) bs with mem := s.mem }
          = { ({ wrBytesBut skip (wrByte s k b) (k + 1) bs with mem := (wrByte s k b).mem } : State) with mem := s.mem } := rfl
        _ = s := by rw [this]; rfl

theorem wrBytes_frame (k : Nat) (bs : List Byte) : { (wrBytes s k bs).1 with mem := s.mem, bad := s.bad } = s := by
  have h := wrBytesBut_frame s (s.bad.filter (fun w => overlaps w k bs.length && !(covers w k bs.length))) k bs
  unfold wrBytes
  calc _ = { ({ wrBytesBut (s.bad.filter (fun w => overlaps w k bs.length && !(covers w k bs.length))) s k bs with mem := s.mem } : State)
              with bad := s.bad } := rfl
    _ = s := by rw [h]

theorem putBytes_frame (k : Nat) (bs : List Byte) : { putBytes s k bs with mem := s.mem, bad := s.bad } = s :=
  wrBytes_frame s k bs

/-- A byte outside the range written reads as before; one inside reads what was written, unless its word is skipped. -/
theorem rdByte_wrBytesBut (skip : List Nat) (k a : Nat) (bs : List Byte) :
    rdByte (wrBytesBut skip s k bs) a =
      if k ≤ a ∧ a < k + bs.length ∧ inBad skip a = false then bs.getD (a - k) 0 else rdByte s a := by
  induction bs generalizing s k with
  | nil => simp only [wrBytesBut, List.length_nil, Nat.add_zero]; rw [if_neg (by omega)]
  | cons b bs ih =>
    unfold wrBytesBut
    rw [ih]
    by_cases hk : a = k
    · subst hk
      rw [if_neg (by omega)]
      by_cases hb : inBad skip a = true
      · simp [hb]
      · simp only [Bool.not_eq_true] at hb
        simp [hb]
    · have hr : rdByte (if inBad skip k = true then s else wrByte s k b) a = rdByte s a := by
        split
        · rfl
        · exact rdByte_wrByte_other s k a b hk
      rw [hr]
      by_cases hlt : k < a
      · have e : a - k = (a - (k + 1)) + 1 := by omega
        simp only [List.length_cons, e, List.getD_cons_succ]
        congr 1
        apply propext
        constructor
        · rintro ⟨h1, h2, h3⟩; exact ⟨by omega, by omega, h3⟩
        · rintro ⟨h1, h2, h3⟩; exact ⟨by omega, by omega, h3⟩
      · rw [if_neg (by omega), if_neg (by omega)]

theorem rdByte_putBytes_other (k a : Nat) (bs : List Byte) (h : a < k ∨ k + bs.length ≤ a) :
    rdByte (putBytes s k bs) a = rdByte s a := by
  have := rdByte_wrBytesBut s (s.bad.filter (fun w => overlaps w k bs.length && !(covers w k bs.length))) k a bs
  rw [if_neg (by omega)] at this
  exact this

/-- With no failing word, the bytes written read back. -/
theorem rdByte_putBytes_same (k a : Nat) (bs : List Byte) (hb : s.bad = []) (h1 : k ≤ a) (h2 : a < k + bs.length) :
    rdByte (putBytes s k bs) a = bs.getD (a - k) 0 := by
  have := rdByte_wrBytesBut s (s.bad.filter (fun w => overlaps w k bs.length && !(covers w k bs.length))) k a bs
  rw [if_pos ⟨h1, h2, by rw [hb]; rfl⟩] at this
  exact this

/-- A range read one byte at a time. -/
theorem rdBytes_length (k n : Nat) : (rdBytes s k n).length = n := by
  induction n generalizing k with
  | zero => rfl
  | succ n ih => simp [rdBytes, ih]

end Sys2Proof.Laws
end

