-- ==== Sys2Proof/Laws/Ops.lean ====
section
/-! SUPPORT. For each shared operation, what it can do: one frame law that names every field it writes (all else is equal),
and the values of the fields it computes. Later proofs cite these and do not unfold the operation. -/
namespace Sys2Proof.Laws
open Sys2Proof.Machine

variable (s : State)

/-! ### Fields of registers -/

theorem getF_setF_same (off : Nat) (f : Fld) (v : Nat) (h : f.lo + f.w ≤ 64) : getF (setF s off f v) off f = v % 2 ^ f.w := by
  unfold getF setF; rw [reg_setReg_same]; exact fget_fset_same f _ v h

theorem getF_setF_field (off : Nat) (f g : Fld) (v : Nat) (hg : g.lo + g.w ≤ 64)
    (h : g.lo + g.w ≤ f.lo ∨ f.lo + f.w ≤ g.lo) : getF (setF s off f v) off g = getF s off g := by
  unfold getF setF; rw [reg_setReg_same]; exact fget_fset_other f g _ v hg h

theorem reg_setF_other (off k : Nat) (f : Fld) (v : Nat) (h : k ≠ off) : reg (setF s off f v) k = reg s k :=
  reg_setReg_other s off k _ h

theorem getF_setF_other (off k : Nat) (f g : Fld) (v : Nat) (h : k ≠ off) : getF (setF s off f v) k g = getF s k g := by
  unfold getF; rw [reg_setF_other s off k f v h]

/-- A count saturates at its width (Table 2.2). -/
theorem getF_bump_same (off : Nat) (f : Fld) (k : Nat) (h : f.lo + f.w ≤ 64) :
    getF (bump s off f k) off f = min (getF s off f + k) (2 ^ f.w - 1) := by
  unfold bump
  rw [getF_setF_same _ _ _ _ h]
  apply Nat.mod_eq_of_lt
  have := Nat.two_pow_pos f.w
  unfold satAdd
  omega

theorem reg_bump_other (off k : Nat) (f : Fld) (v : Nat) (h : k ≠ off) : reg (bump s off f v) k = reg s k :=
  reg_setF_other s off k f _ h

theorem setReg_frame (off : Nat) (v : Word) : { setReg s off v with csr := s.csr } = s := rfl
theorem setF_frame (off : Nat) (f : Fld) (v : Nat) : { setF s off f v with csr := s.csr } = s := rfl
theorem bump_frame (off : Nat) (f : Fld) (k : Nat) : { bump s off f k with csr := s.csr } = s := rfl

/-! ### Slips and interrupts -/

/-- The state but for registers. -/
def outsideRegs (s : State) : State := { s with csr := [] }

theorem outsideRegs_setF (off : Nat) (f : Fld) (v : Nat) : outsideRegs (setF s off f v) = outsideRegs s := by rfl
theorem outsideRegs_bump (off : Nat) (f : Fld) (v : Nat) : outsideRegs (bump s off f v) = outsideRegs s := by rfl

/-- A slip writes its class's count and FTU_SLIP_LAST (R51). -/
theorem outsideRegs_slip (k p d : Nat) : outsideRegs (slip s k p d) = outsideRegs s := by
  unfold slip; dsimp only; simp only [outsideRegs_setF, outsideRegs_bump]

theorem outsideRegs_slipIfLate (k : Nat) (p : Word) : outsideRegs (slipIfLate s k p) = outsideRegs s := by
  unfold slipIfLate; split
  · exact outsideRegs_slip ..
  · rfl

/-- From the state outside the registers being kept: every other field is. -/
theorem keptRegs (t : State) (h : outsideRegs t = outsideRegs s) : { t with csr := s.csr } = s :=
  calc { t with csr := s.csr } = { outsideRegs t with csr := s.csr } := rfl
    _ = { outsideRegs s with csr := s.csr } := by rw [h]
    _ = s := rfl

theorem slip_frame (k p d : Nat) : { slip s k p d with csr := s.csr } = s := keptRegs s _ (outsideRegs_slip s k p d)
theorem slipIfLate_frame (k : Nat) (p : Word) : { slipIfLate s k p with csr := s.csr } = s := keptRegs s _ (outsideRegs_slipIfLate s k p)

/-- A message sets a pending bit or leaves the device (R396). -/
theorem msix_frame (v : Nat) : { msix s v with csr := s.csr, out := s.out } = s := by
  unfold msix; split <;> rfl

theorem msix_reg_other (v k : Nat) (h : k ≠ HIF_MSIX_PEND (v / 64)) : reg (msix s v) k = reg s k := by
  unfold msix
  split
  · rfl
  · exact reg_setReg_other s _ _ _ h

theorem eventMsg_frame (i : Nat) : { eventMsg s i with csr := s.csr, out := s.out } = s := by
  unfold eventMsg; split
  · exact msix_frame s _
  · rfl

/-! ### The collector: registers, messages, the black box -/

/-- The state but for registers, messages sent and the collector: what a fault never writes. -/
def outsideCollector (s : State) : State := { s with csr := [], out := [], flt := Flt.cold }

theorem outside_of_setReg (off : Nat) (v : Word) : outsideCollector (setReg s off v) = outsideCollector s := by rfl
theorem outside_of_setF (off : Nat) (f : Fld) (v : Nat) : outsideCollector (setF s off f v) = outsideCollector s := by rfl
theorem outside_of_bump (off : Nat) (f : Fld) (v : Nat) : outsideCollector (bump s off f v) = outsideCollector s := by rfl
theorem outside_of_emit (o : Out) : outsideCollector (emit s o) = outsideCollector s := by rfl
theorem outside_of_msix (v : Nat) : outsideCollector (msix s v) = outsideCollector s := by
  unfold msix; split
  · exact outside_of_emit ..
  · exact outside_of_setReg ..
theorem outside_of_eventMsg (i : Nat) : outsideCollector (eventMsg s i) = outsideCollector s := by
  unfold eventMsg; split
  · exact outside_of_msix s _
  · rfl
theorem outside_of_event (off : Nat) (f : Fld) (i : Nat) : outsideCollector (event s off f i) = outsideCollector s := by
  unfold event; rw [outside_of_eventMsg, outside_of_setF]
theorem outside_of_countFault (src cls : Nat) : outsideCollector (countFault s src cls) = outsideCollector s := by
  unfold countFault; dsimp only; simp only [outside_of_setF, outside_of_bump]
theorem outside_of_flt (f : Flt) : outsideCollector { s with flt := f } = outsideCollector s := by rfl
theorem outside_of_bbWrite (r : EventRec) : outsideCollector (bbWrite s r) = outsideCollector s := by
  unfold bbWrite; exact outside_of_flt s _

theorem outside_of_bbRaise : outsideCollector (bbRaise s) = outsideCollector s := by
  unfold bbRaise; dsimp only; rw [outside_of_flt, outside_of_event, outside_of_countFault]

theorem outside_of_bbMerge (w : Nat) : outsideCollector (bbMerge s w) = outsideCollector s := by
  unfold bbMerge; dsimp only; rw [outside_of_flt, outside_of_bbRaise]

/-- Reporting the copies that failed keeps what each report keeps. -/
theorem outside_of_bbReport (q : BitVec 32) (raise : State → Nat → State)
    (h : ∀ s w, outsideCollector (raise s w) = outsideCollector s) : outsideCollector (bbReport s q raise) = outsideCollector s := by
  unfold bbReport
  dsimp only
  (repeat' split) <;> simp only [h]

theorem outside_of_bbError (w : Nat) : outsideCollector (bbError s w) = outsideCollector s := by
  unfold bbError
  split
  · exact outside_of_bbMerge s w
  · dsimp only
    rw [outside_of_bbReport _ _ _ outside_of_bbMerge, outside_of_bbWrite, outside_of_event, outside_of_setF, outside_of_flt,
      outside_of_bbRaise]

theorem outside_of_putRecord (r : EventRec) : outsideCollector (putRecord s r) = outsideCollector s := by
  unfold putRecord; rw [outside_of_bbReport _ _ _ outside_of_bbError, outside_of_bbWrite]

theorem outside_of_logEvent (k c src : Nat) (d : BitVec 32) : outsideCollector (logEvent s k c src d) = outsideCollector s := by
  unfold logEvent; rw [outside_of_putRecord, outside_of_flt]

theorem outside_of_snapTrigger (q : BitVec 32) (h : Bool) : outsideCollector (snapTrigger s q h) = outsideCollector s := by
  unfold snapTrigger
  (repeat' split) <;> simp only [outside_of_flt]

/-- Taking a fault writes registers, the collector and messages, and nothing else (R430). -/
theorem outside_of_fault (src cause cls : Nat) (j : BitVec 16) (d : BitVec 32) (forced : Bool) :
    outsideCollector (fault s src cause cls j d forced) = outsideCollector s := by
  unfold fault
  dsimp only
  (repeat' split) <;>
    simp only [outside_of_snapTrigger, outside_of_putRecord, outside_of_eventMsg, outside_of_setF, outside_of_flt, outside_of_countFault]

theorem outside_of_note (src cause : Nat) (d : BitVec 32) (j : BitVec 16) :
    outsideCollector (note s src cause d j) = outsideCollector s := outside_of_fault ..

theorem outside_of_closeRecord : outsideCollector (closeRecord s) = outsideCollector s := by
  unfold closeRecord
  dsimp only
  split
  · rfl
  · rw [outside_of_putRecord, outside_of_setF, outside_of_flt]

theorem outside_of_disableRings (l : List Nat) : outsideCollector (disableRings s l) = outsideCollector s := by
  induction l generalizing s with
  | nil => rfl
  | cons r l ih => unfold disableRings; rw [ih, outside_of_setF, outside_of_setF]

/-- From the state outside the collector being kept: every other field is. -/
theorem kept_outside (t : State) (h : outsideCollector t = outsideCollector s) :
    { t with csr := s.csr, out := s.out, flt := s.flt } = s :=
  calc { t with csr := s.csr, out := s.out, flt := s.flt }
      = { outsideCollector t with csr := s.csr, out := s.out, flt := s.flt } := rfl
    _ = { outsideCollector s with csr := s.csr, out := s.out, flt := s.flt } := by rw [h]
    _ = s := rfl

theorem fault_frame (src cause cls : Nat) (j : BitVec 16) (d : BitVec 32) (forced : Bool) :
    { fault s src cause cls j d forced with csr := s.csr, out := s.out, flt := s.flt } = s :=
  kept_outside s _ (outside_of_fault s src cause cls j d forced)

theorem logEvent_frame (k c src : Nat) (d : BitVec 32) :
    { logEvent s k c src d with csr := s.csr, out := s.out, flt := s.flt } = s :=
  kept_outside s _ (outside_of_logEvent s k c src d)

theorem closeRecord_frame : { closeRecord s with csr := s.csr, out := s.out, flt := s.flt } = s :=
  kept_outside s _ (outside_of_closeRecord s)

/-- The state but for what a HALT writes: its latch, and what a fault writes (R441). -/
def outsideHalt (s : State) : State := { s with csr := [], out := [], flt := Flt.cold, boot := State.reset.boot }

theorem halt_of_collector (t : State) (h : outsideCollector t = outsideCollector s) : outsideHalt t = outsideHalt s :=
  calc outsideHalt t = { outsideCollector t with boot := State.reset.boot } := rfl
    _ = { outsideCollector s with boot := State.reset.boot } := by rw [h]
    _ = outsideHalt s := rfl

theorem outside_of_haltTail (l : List Nat) (q : BitVec 32) (f : Flt) :
    outsideCollector { snapTrigger (eventMsg (disableRings (setF s FLT_STATUS FLT_STATUS_HALTED 1) l) 0) q true with flt := f }
      = outsideCollector s := by
  rw [outside_of_flt, outside_of_snapTrigger, outside_of_eventMsg, outside_of_disableRings, outside_of_setF]

theorem outside_of_haltNow (src cause : Nat) (d : BitVec 32) (forced : Bool) :
    outsideHalt (haltNow s src cause d forced) = outsideHalt s := by
  unfold haltNow
  cases h0 : s.boot.halt
  · rw [if_neg (by decide)]
    have h : outsideHalt { s with boot := { s.boot with halt := true } } = outsideHalt s := rfl
    refine Eq.trans ?_ h
    apply halt_of_collector
    refine (outside_of_haltTail _ _ _ _).trans ?_
    exact outside_of_fault ..
  · rw [if_pos rfl]
    exact halt_of_collector s _ (outside_of_fault ..)

/-! ### Completion rings -/

/-- The state but for what writing completion entries writes: registers, the rings' working state, what is sent out, and the
objects that entries signal (R123, R394). -/
def outsideRings (s : State) : State := { s with csr := [], out := [], qrings := [], objs := [] }

theorem outsideRings_setF (off : Nat) (f : Fld) (v : Nat) : outsideRings (setF s off f v) = outsideRings s := by rfl
theorem outsideRings_setReg (off : Nat) (v : Word) : outsideRings (setReg s off v) = outsideRings s := by rfl
theorem outsideRings_emit (o : Out) : outsideRings (emit s o) = outsideRings s := by rfl
theorem outsideRings_setQring (q : Nat) (r : CplRing) : outsideRings (setQring s q r) = outsideRings s := by rfl
theorem outsideRings_objAdd (n v : Nat) : outsideRings (objAdd s n v) = outsideRings s := by rfl
theorem outsideRings_msix (v : Nat) : outsideRings (msix s v) = outsideRings s := by
  unfold msix; split
  · exact outsideRings_emit ..
  · exact outsideRings_setReg ..
theorem outsideRings_qMessage (q : Nat) : outsideRings (qMessage s q) = outsideRings s := by
  unfold qMessage; dsimp only; rw [outsideRings_msix, outsideRings_setQring]

theorem outsideRings_qWrite (q : Nat) (c : Cpl) : outsideRings (qWrite s q c) = outsideRings s := by
  unfold qWrite
  dsimp only
  rcases c.signal with _ | ⟨n, v⟩ <;> dsimp only <;> (repeat' split) <;>
    simp only [outsideRings_qMessage, outsideRings_setQring, outsideRings_objAdd, outsideRings_emit, outsideRings_setF]

theorem outsideRings_qDrain (q : Nat) (l : List Cpl) : outsideRings (qDrain q l s) = outsideRings s := by
  induction l generalizing s with
  | nil => exact outsideRings_setQring ..
  | cons c l ih =>
    unfold qDrain
    (repeat' split) <;> simp only [outsideRings_setQring, ih, outsideRings_qWrite]

theorem outsideRings_complete (q : Nat) (c : Cpl) : outsideRings (complete s q c) = outsideRings s := by
  unfold complete
  dsimp only
  split
  · exact outsideRings_setQring ..
  · exact outsideRings_qDrain ..

/-- A completion entry in line for a ring: nothing but what writing entries writes. -/
theorem complete_frame (q : Nat) (c : Cpl) :
    { complete s q c with csr := s.csr, out := s.out, qrings := s.qrings, objs := s.objs } = s :=
  calc { complete s q c with csr := s.csr, out := s.out, qrings := s.qrings, objs := s.objs }
      = { outsideRings (complete s q c) with csr := s.csr, out := s.out, qrings := s.qrings, objs := s.objs } := rfl
    _ = { outsideRings s with csr := s.csr, out := s.out, qrings := s.qrings, objs := s.objs } := by rw [outsideRings_complete]
    _ = s := rfl

/-! ### Synchronisation objects -/

@[simp] theorem obj_objAdd_same (n v : Nat) : obj (objAdd s n v) n = (obj s n).add v := mapGet_set_same ..
theorem obj_objAdd_other (n k v : Nat) (h : k ≠ n) : obj (objAdd s n v) k = obj s k := mapGet_set_other _ _ _ _ _ h
theorem objAdd_frame (n v : Nat) : { objAdd s n v with objs := s.objs } = s := rfl
theorem objSet_frame (n : Nat) (v : Word) : { objSet s n v with objs := s.objs } = s := rfl

/-- COUNT never decreases by an add, and saturates (R152). -/
theorem add_count (o : Obj) (v : Nat) : (o.add v).count.toNat = min (o.count.toNat + v) (2 ^ 64 - 1) := by
  unfold Obj.add
  split
  · rename_i h; simp only [BitVec.toNat_ofNat]; rw [Nat.mod_eq_of_lt h]; omega
  · rename_i h; simp only [BitVec.toNat_allOnes]; omega

end Sys2Proof.Laws
end

