-- ==== Sys2Proof/Laws/Issue.lean ====
section
/-! SUPPORT. What issuing an instruction on a unit can do (R209, R214): the three outcomes on a core, and the state in which
the instruction takes effect. -/
namespace Sys2Proof.Laws
open Sys2Proof.Machine

variable (s : State)

/-- The state in which an instruction that issues takes effect: the core's last index noted and one period
charged, or the Puppeteer core's trace lengthened. -/
def issued (s : State) (u : ZsUnit) : State :=
  match u with
  | .core n => noteIssue s n
  | .pup p => tracePup s p

/-- Everything that issue on a core can do: nothing, the trap past the code section, a BUSY period, or the effect. -/
theorem issueCore_cases (n : CoreId) (busy : Bool) (k : State → State) :
    (coreReady s n = false ∧ issueCore s n busy k = s)
    ∨ (coreReady s n = true ∧ inCode s n = false
        ∧ issueCore s n busy k = trapCore s n (Machine.core s n).nextNo 0x04 (Machine.core s n).lastPc)
    ∨ (coreReady s n = true ∧ inCode s n = true ∧ busy = true ∧ issueCore s n busy k = chargeBusy s n)
    ∨ (coreReady s n = true ∧ inCode s n = true ∧ busy = false ∧ issueCore s n busy k = k (noteIssue s n)) := by
  unfold issueCore
  cases hr : coreReady s n
  · exact .inl ⟨rfl, rfl⟩
  · cases hc : inCode s n
    · exact .inr (.inl ⟨rfl, rfl, rfl⟩)
    · cases busy
      · exact .inr (.inr (.inr ⟨rfl, rfl, rfl, rfl⟩))
      · exact .inr (.inr (.inl ⟨rfl, rfl, rfl, rfl⟩))

theorem issue_core_ready (n : CoreId) (k : State → State) (h : coreReady s n = true) (hc : inCode s n = true) :
    issue s (.core n) false k = k (issued s (.core n)) := by
  simp [issue, issueCore, h, hc, issued]

/-- Everything that issue on a Puppeteer core can do: nothing, the trap past its code, or the effect. -/
theorem issuePup_cases (p : PupId) (k : State → State) :
    (pupReady s p = false ∧ issuePup s p k = s)
    ∨ (pupReady s p = true ∧ pupInCode s p = false
        ∧ issuePup s p k = setPup s p { pup s p with trap := some ((pup s p).trace.headD 0) })
    ∨ (pupReady s p = true ∧ pupInCode s p = true ∧ issuePup s p k = k (tracePup s p)) := by
  unfold issuePup
  cases hr : pupReady s p
  · exact .inl ⟨rfl, rfl⟩
  · cases hc : pupInCode s p
    · exact .inr (.inl ⟨rfl, rfl, rfl⟩)
    · exact .inr (.inr ⟨rfl, rfl, rfl⟩)

theorem issue_pup_ready (p : PupId) (busy : Bool) (k : State → State) (h : pupReady s p = true) (hc : pupInCode s p = true) :
    issue s (.pup p) busy k = k (issued s (.pup p)) := by
  simp [issue, issuePup, h, hc, issued]

theorem issue_pup_waits (p : PupId) (busy : Bool) (k : State → State) (h : pupReady s p = false) :
    issue s (.pup p) busy k = s := by
  simp [issue, issuePup, h]

@[simp] theorem getG_issued (u : ZsUnit) (r : GReg) : getG (issued s u) u r = getG s u r := by
  cases u with
  | core n => unfold getG issued noteIssue chargeIssue; simp only [core_bump, core_setCore_same]
  | pup p => unfold getG issued tracePup; simp only [pup_setPup_same]

@[simp] theorem getPc_issued (u : ZsUnit) : getPc (issued s u) u = getPc s u := by
  cases u with
  | core n => unfold getPc issued noteIssue chargeIssue; simp only [core_bump, core_setCore_same]
  | pup p => unfold getPc issued tracePup; simp only [pup_setPup_same]

/-- Noting the issue leaves all but the core and its ISSUE count, or the Puppeteer core's trace. -/
theorem issued_frame (u : ZsUnit) : { issued s u with cores := s.cores, csr := s.csr, pups := s.pups } = s := by
  cases u <;> rfl

theorem issued_core (n : CoreId) : Machine.core (issued s (.core n)) n = { Machine.core s n with lastPc := (Machine.core s n).pc } := by
  unfold issued noteIssue chargeIssue; simp only [core_bump, core_setCore_same]

theorem issued_core_other (n : CoreId) (i : Nat) (h : i ≠ n.val) : Machine.core (issued s (.core n)) i = Machine.core s i := by
  unfold issued noteIssue chargeIssue; simp only [core_bump]; exact core_setCore_other s _ _ _ h

theorem issued_reg_other (n : CoreId) (o : Nat) (h : o ≠ CORE_CNT_ISSUE n) : reg (issued s (.core n)) o = reg s o := by
  unfold issued noteIssue chargeIssue; rw [reg_bump_other _ _ _ _ _ h]; rfl

/-! ### The result of an instruction -/

/-- Its destination and the program index (R210): every register as before but the destination, g0 apart. -/
theorem getG_retire (u : ZsUnit) (d r : GReg) (v : Word) (k : Nat) :
    getG (retire s u d v k) u r = if r = d ∧ r ≠ 0 then v else getG s u r := by
  unfold retire advance; rw [getG_setPc]; exact getG_setG ..

theorem getPc_retire (u : ZsUnit) (d : GReg) (v : Word) (k : Nat) :
    getPc (retire s u d v k) u = getPc s u + BitVec.ofNat 32 k := by
  unfold retire advance; rw [getPc_setPc, getPc_setG]

theorem retire_frame (u : ZsUnit) (d : GReg) (v : Word) (k : Nat) :
    { retire s u d v k with cores := s.cores, pups := s.pups } = s := by cases u <;> rfl

/-- On a core: its registers and its program index, and no other core. -/
theorem retire_core (n : CoreId) (d : GReg) (v : Word) (k : Nat) :
    Machine.core (retire s (.core n) d v k) n
      = { Machine.core s n with g := regWrite (Machine.core s n).g d v, pc := (Machine.core s n).pc + BitVec.ofNat 32 k } := by
  unfold retire advance setPc setG getPc; simp only [core_setCore_same]

theorem retire_core_other (n : CoreId) (d : GReg) (v : Word) (k i : Nat) (h : i ≠ n.val) :
    Machine.core (retire s (.core n) d v k) i = Machine.core s i := by
  unfold retire advance setPc setG
  simp only [core_setCore_other _ _ _ _ h]

theorem retire_pup (p : PupId) (d : GReg) (v : Word) (k : Nat) :
    pup (retire s (.pup p) d v k) p
      = { pup s p with g := regWrite (pup s p).g d v, pc := (pup s p).pc + BitVec.ofNat 32 k } := by
  unfold retire advance setPc setG getPc; simp only [pup_setPup_same]

theorem retire_pup_other (p : PupId) (d : GReg) (v : Word) (k i : Nat) (h : i ≠ p.val) :
    pup (retire s (.pup p) d v k) i = pup s i := by
  unfold retire advance setPc setG
  simp only [pup_setPup_other _ _ _ _ h]

/-! ### Traps (R198) -/

/-- The core as a trap leaves it: stopped at the instruction, later releases dropped. -/
theorem trapStop_core (n : CoreId) (no cause : Nat) (pc : BitVec 32) :
    Machine.core (trapStop s n no cause pc) n
      = { Machine.core s n with trap := some (BitVec.ofNat 8 cause), errPc := pc, ended := false, wait := none,
                                  held := (Machine.core s n).held.filter (fun h => decide (h.no < no)) } := core_setCore_same ..

theorem trapStop_core_other (n : CoreId) (no cause i : Nat) (pc : BitVec 32) (h : i ≠ n.val) :
    Machine.core (trapStop s n no cause pc) i = Machine.core s i := core_setCore_other _ _ _ _ h

theorem trapStop_frame (n : CoreId) (no cause : Nat) (pc : BitVec 32) : { trapStop s n no cause pc with cores := s.cores } = s := rfl

/-- A trap writes the core, and what a fault writes. -/
theorem trapCore_frame (n : CoreId) (no cause : Nat) (pc : BitVec 32) :
    { trapCore s n no cause pc with cores := s.cores, csr := s.csr, out := s.out, flt := s.flt } = s := by
  unfold trapCore
  generalize hx : trapStop s n no cause pc = x
  have hc : { x with cores := s.cores } = s := by rw [← hx]; rfl
  have h := fault_frame x n.val 0x01 1 (Machine.core s n).job (BitVec.ofNat 32 cause) false
  generalize fault x n.val 0x01 1 (Machine.core s n).job (BitVec.ofNat 32 cause) = y at h ⊢
  calc { y with cores := s.cores, csr := s.csr, out := s.out, flt := s.flt }
      = { ({ y with csr := x.csr, out := x.out, flt := x.flt } : State) with cores := s.cores, csr := s.csr, out := s.out, flt := s.flt } := rfl
    _ = { ({ x with cores := s.cores } : State) with csr := s.csr, out := s.out, flt := s.flt } := by rw [h]
    _ = s := by rw [hc]

end Sys2Proof.Laws
end

