-- ==== Sys2Proof/Laws/Shared.lean ====
section
/-! SUPPORT. For each shared operation, the fields of State that it leaves as they are, for use instead of unfolding it. -/
namespace Sys2Proof.Laws
open Sys2Proof.Machine

/-! ### Conditionals and folds -/

@[simp] theorem ite_pending (c : Prop) [Decidable c] (a b : State) : (if c then a else b).pending = if c then a.pending else b.pending := by
  split <;> rfl
@[simp] theorem ite_boot (c : Prop) [Decidable c] (a b : State) : (if c then a else b).boot = if c then a.boot else b.boot := by
  split <;> rfl
@[simp] theorem ite_nvm (c : Prop) [Decidable c] (a b : State) : (if c then a else b).nvm = if c then a.nvm else b.nvm := by
  split <;> rfl
@[simp] theorem ite_csr (c : Prop) [Decidable c] (a b : State) : (if c then a else b).csr = if c then a.csr else b.csr := by
  split <;> rfl
@[simp] theorem ite_edits (c : Prop) [Decidable c] (a b : State) : (if c then a else b).edits = if c then a.edits else b.edits := by
  split <;> rfl
@[simp] theorem ite_ftu (c : Prop) [Decidable c] (a b : State) : (if c then a else b).ftu = if c then a.ftu else b.ftu := by
  split <;> rfl
@[simp] theorem ite_flt (c : Prop) [Decidable c] (a b : State) : (if c then a else b).flt = if c then a.flt else b.flt := by
  split <;> rfl
@[simp] theorem ite_sec (c : Prop) [Decidable c] (a b : State) : (if c then a else b).sec = if c then a.sec else b.sec := by
  split <;> rfl
@[simp] theorem ite_pwr (c : Prop) [Decidable c] (a b : State) : (if c then a else b).pwr = if c then a.pwr else b.pwr := by
  split <;> rfl
@[simp] theorem ite_crings (c : Prop) [Decidable c] (a b : State) : (if c then a else b).crings = if c then a.crings else b.crings := by
  split <;> rfl
@[simp] theorem ite_qrings (c : Prop) [Decidable c] (a b : State) : (if c then a else b).qrings = if c then a.qrings else b.qrings := by
  split <;> rfl
@[simp] theorem ite_qids (c : Prop) [Decidable c] (a b : State) : (if c then a else b).qids = if c then a.qids else b.qids := by
  split <;> rfl
@[simp] theorem ite_cores (c : Prop) [Decidable c] (a b : State) : (if c then a else b).cores = if c then a.cores else b.cores := by
  split <;> rfl
@[simp] theorem ite_pups (c : Prop) [Decidable c] (a b : State) : (if c then a else b).pups = if c then a.pups else b.pups := by
  split <;> rfl
@[simp] theorem ite_objs (c : Prop) [Decidable c] (a b : State) : (if c then a else b).objs = if c then a.objs else b.objs := by
  split <;> rfl
@[simp] theorem ite_jobs (c : Prop) [Decidable c] (a b : State) : (if c then a else b).jobs = if c then a.jobs else b.jobs := by
  split <;> rfl
@[simp] theorem ite_slots (c : Prop) [Decidable c] (a b : State) : (if c then a else b).slots = if c then a.slots else b.slots := by
  split <;> rfl
@[simp] theorem ite_slotQ (c : Prop) [Decidable c] (a b : State) : (if c then a else b).slotQ = if c then a.slotQ else b.slotQ := by
  split <;> rfl
@[simp] theorem ite_net (c : Prop) [Decidable c] (a b : State) : (if c then a else b).net = if c then a.net else b.net := by
  split <;> rfl
@[simp] theorem ite_coll (c : Prop) [Decidable c] (a b : State) : (if c then a else b).coll = if c then a.coll else b.coll := by
  split <;> rfl
@[simp] theorem ite_mem (c : Prop) [Decidable c] (a b : State) : (if c then a else b).mem = if c then a.mem else b.mem := by
  split <;> rfl
@[simp] theorem ite_bad (c : Prop) [Decidable c] (a b : State) : (if c then a else b).bad = if c then a.bad else b.bad := by
  split <;> rfl
@[simp] theorem ite_errTimes (c : Prop) [Decidable c] (a b : State) : (if c then a else b).errTimes = if c then a.errTimes else b.errTimes := by
  split <;> rfl
@[simp] theorem ite_lostWin (c : Prop) [Decidable c] (a b : State) : (if c then a else b).lostWin = if c then a.lostWin else b.lostWin := by
  split <;> rfl
@[simp] theorem ite_aclk (c : Prop) [Decidable c] (a b : State) : (if c then a else b).aclk = if c then a.aclk else b.aclk := by
  split <;> rfl
@[simp] theorem ite_out (c : Prop) [Decidable c] (a b : State) : (if c then a else b).out = if c then a.out else b.out := by
  split <;> rfl
@[simp] theorem ite_free (c : Prop) [Decidable c] (a b : State) : (if c then a else b).free = if c then a.free else b.free := by
  split <;> rfl
@[simp] theorem foldl_pending {β : Type} (f : State → β → State) (h : ∀ s x, (f s x).pending = s.pending) (l : List β) (s : State) :
    (l.foldl f s).pending = s.pending := by
  induction l generalizing s with
  | nil => rfl
  | cons a l ih => exact (ih _).trans (h _ _)
@[simp] theorem foldl_boot {β : Type} (f : State → β → State) (h : ∀ s x, (f s x).boot = s.boot) (l : List β) (s : State) :
    (l.foldl f s).boot = s.boot := by
  induction l generalizing s with
  | nil => rfl
  | cons a l ih => exact (ih _).trans (h _ _)
@[simp] theorem foldl_nvm {β : Type} (f : State → β → State) (h : ∀ s x, (f s x).nvm = s.nvm) (l : List β) (s : State) :
    (l.foldl f s).nvm = s.nvm := by
  induction l generalizing s with
  | nil => rfl
  | cons a l ih => exact (ih _).trans (h _ _)
@[simp] theorem foldl_csr {β : Type} (f : State → β → State) (h : ∀ s x, (f s x).csr = s.csr) (l : List β) (s : State) :
    (l.foldl f s).csr = s.csr := by
  induction l generalizing s with
  | nil => rfl
  | cons a l ih => exact (ih _).trans (h _ _)
@[simp] theorem foldl_edits {β : Type} (f : State → β → State) (h : ∀ s x, (f s x).edits = s.edits) (l : List β) (s : State) :
    (l.foldl f s).edits = s.edits := by
  induction l generalizing s with
  | nil => rfl
  | cons a l ih => exact (ih _).trans (h _ _)
@[simp] theorem foldl_ftu {β : Type} (f : State → β → State) (h : ∀ s x, (f s x).ftu = s.ftu) (l : List β) (s : State) :
    (l.foldl f s).ftu = s.ftu := by
  induction l generalizing s with
  | nil => rfl
  | cons a l ih => exact (ih _).trans (h _ _)
@[simp] theorem foldl_flt {β : Type} (f : State → β → State) (h : ∀ s x, (f s x).flt = s.flt) (l : List β) (s : State) :
    (l.foldl f s).flt = s.flt := by
  induction l generalizing s with
  | nil => rfl
  | cons a l ih => exact (ih _).trans (h _ _)
@[simp] theorem foldl_sec {β : Type} (f : State → β → State) (h : ∀ s x, (f s x).sec = s.sec) (l : List β) (s : State) :
    (l.foldl f s).sec = s.sec := by
  induction l generalizing s with
  | nil => rfl
  | cons a l ih => exact (ih _).trans (h _ _)
@[simp] theorem foldl_pwr {β : Type} (f : State → β → State) (h : ∀ s x, (f s x).pwr = s.pwr) (l : List β) (s : State) :
    (l.foldl f s).pwr = s.pwr := by
  induction l generalizing s with
  | nil => rfl
  | cons a l ih => exact (ih _).trans (h _ _)
@[simp] theorem foldl_crings {β : Type} (f : State → β → State) (h : ∀ s x, (f s x).crings = s.crings) (l : List β) (s : State) :
    (l.foldl f s).crings = s.crings := by
  induction l generalizing s with
  | nil => rfl
  | cons a l ih => exact (ih _).trans (h _ _)
@[simp] theorem foldl_qrings {β : Type} (f : State → β → State) (h : ∀ s x, (f s x).qrings = s.qrings) (l : List β) (s : State) :
    (l.foldl f s).qrings = s.qrings := by
  induction l generalizing s with
  | nil => rfl
  | cons a l ih => exact (ih _).trans (h _ _)
@[simp] theorem foldl_qids {β : Type} (f : State → β → State) (h : ∀ s x, (f s x).qids = s.qids) (l : List β) (s : State) :
    (l.foldl f s).qids = s.qids := by
  induction l generalizing s with
  | nil => rfl
  | cons a l ih => exact (ih _).trans (h _ _)
@[simp] theorem foldl_cores {β : Type} (f : State → β → State) (h : ∀ s x, (f s x).cores = s.cores) (l : List β) (s : State) :
    (l.foldl f s).cores = s.cores := by
  induction l generalizing s with
  | nil => rfl
  | cons a l ih => exact (ih _).trans (h _ _)
@[simp] theorem foldl_pups {β : Type} (f : State → β → State) (h : ∀ s x, (f s x).pups = s.pups) (l : List β) (s : State) :
    (l.foldl f s).pups = s.pups := by
  induction l generalizing s with
  | nil => rfl
  | cons a l ih => exact (ih _).trans (h _ _)
@[simp] theorem foldl_objs {β : Type} (f : State → β → State) (h : ∀ s x, (f s x).objs = s.objs) (l : List β) (s : State) :
    (l.foldl f s).objs = s.objs := by
  induction l generalizing s with
  | nil => rfl
  | cons a l ih => exact (ih _).trans (h _ _)
@[simp] theorem foldl_jobs {β : Type} (f : State → β → State) (h : ∀ s x, (f s x).jobs = s.jobs) (l : List β) (s : State) :
    (l.foldl f s).jobs = s.jobs := by
  induction l generalizing s with
  | nil => rfl
  | cons a l ih => exact (ih _).trans (h _ _)
@[simp] theorem foldl_slots {β : Type} (f : State → β → State) (h : ∀ s x, (f s x).slots = s.slots) (l : List β) (s : State) :
    (l.foldl f s).slots = s.slots := by
  induction l generalizing s with
  | nil => rfl
  | cons a l ih => exact (ih _).trans (h _ _)
@[simp] theorem foldl_slotQ {β : Type} (f : State → β → State) (h : ∀ s x, (f s x).slotQ = s.slotQ) (l : List β) (s : State) :
    (l.foldl f s).slotQ = s.slotQ := by
  induction l generalizing s with
  | nil => rfl
  | cons a l ih => exact (ih _).trans (h _ _)
@[simp] theorem foldl_net {β : Type} (f : State → β → State) (h : ∀ s x, (f s x).net = s.net) (l : List β) (s : State) :
    (l.foldl f s).net = s.net := by
  induction l generalizing s with
  | nil => rfl
  | cons a l ih => exact (ih _).trans (h _ _)
@[simp] theorem foldl_coll {β : Type} (f : State → β → State) (h : ∀ s x, (f s x).coll = s.coll) (l : List β) (s : State) :
    (l.foldl f s).coll = s.coll := by
  induction l generalizing s with
  | nil => rfl
  | cons a l ih => exact (ih _).trans (h _ _)
@[simp] theorem foldl_mem {β : Type} (f : State → β → State) (h : ∀ s x, (f s x).mem = s.mem) (l : List β) (s : State) :
    (l.foldl f s).mem = s.mem := by
  induction l generalizing s with
  | nil => rfl
  | cons a l ih => exact (ih _).trans (h _ _)
@[simp] theorem foldl_bad {β : Type} (f : State → β → State) (h : ∀ s x, (f s x).bad = s.bad) (l : List β) (s : State) :
    (l.foldl f s).bad = s.bad := by
  induction l generalizing s with
  | nil => rfl
  | cons a l ih => exact (ih _).trans (h _ _)
@[simp] theorem foldl_errTimes {β : Type} (f : State → β → State) (h : ∀ s x, (f s x).errTimes = s.errTimes) (l : List β) (s : State) :
    (l.foldl f s).errTimes = s.errTimes := by
  induction l generalizing s with
  | nil => rfl
  | cons a l ih => exact (ih _).trans (h _ _)
@[simp] theorem foldl_lostWin {β : Type} (f : State → β → State) (h : ∀ s x, (f s x).lostWin = s.lostWin) (l : List β) (s : State) :
    (l.foldl f s).lostWin = s.lostWin := by
  induction l generalizing s with
  | nil => rfl
  | cons a l ih => exact (ih _).trans (h _ _)
@[simp] theorem foldl_aclk {β : Type} (f : State → β → State) (h : ∀ s x, (f s x).aclk = s.aclk) (l : List β) (s : State) :
    (l.foldl f s).aclk = s.aclk := by
  induction l generalizing s with
  | nil => rfl
  | cons a l ih => exact (ih _).trans (h _ _)
@[simp] theorem foldl_out {β : Type} (f : State → β → State) (h : ∀ s x, (f s x).out = s.out) (l : List β) (s : State) :
    (l.foldl f s).out = s.out := by
  induction l generalizing s with
  | nil => rfl
  | cons a l ih => exact (ih _).trans (h _ _)
@[simp] theorem foldl_free {β : Type} (f : State → β → State) (h : ∀ s x, (f s x).free = s.free) (l : List β) (s : State) :
    (l.foldl f s).free = s.free := by
  induction l generalizing s with
  | nil => rfl
  | cons a l ih => exact (ih _).trans (h _ _)

/-! ### Operations of Machine/Ops -/

@[simp] theorem setKnown_keeps (s : State) (off : Nat) (v : Word) :
    (setKnown s off v).pending = s.pending ∧ (setKnown s off v).boot = s.boot ∧ (setKnown s off v).nvm = s.nvm ∧
    (setKnown s off v).edits = s.edits ∧ (setKnown s off v).ftu = s.ftu ∧ (setKnown s off v).flt = s.flt ∧ (setKnown s
    off v).sec = s.sec ∧ (setKnown s off v).pwr = s.pwr ∧ (setKnown s off v).crings = s.crings ∧ (setKnown s off
    v).qrings = s.qrings ∧ (setKnown s off v).qids = s.qids ∧ (setKnown s off v).cores = s.cores ∧ (setKnown s off
    v).pups = s.pups ∧ (setKnown s off v).objs = s.objs ∧ (setKnown s off v).jobs = s.jobs ∧ (setKnown s off v).slots
    = s.slots ∧ (setKnown s off v).slotQ = s.slotQ ∧ (setKnown s off v).net = s.net ∧ (setKnown s off v).coll = s.coll
    ∧ (setKnown s off v).mem = s.mem ∧ (setKnown s off v).bad = s.bad ∧ (setKnown s off v).errTimes = s.errTimes ∧
    (setKnown s off v).lostWin = s.lostWin ∧ (setKnown s off v).aclk = s.aclk ∧ (setKnown s off v).out = s.out ∧
    (setKnown s off v).free = s.free := by
  simp [setKnown]
@[simp] theorem slip_keeps (s : State) (k : Nat) (planned delay : Nat) :
    (slip s k planned delay).pending = s.pending ∧ (slip s k planned delay).boot = s.boot ∧ (slip s k planned
    delay).nvm = s.nvm ∧ (slip s k planned delay).edits = s.edits ∧ (slip s k planned delay).ftu = s.ftu ∧ (slip s k
    planned delay).flt = s.flt ∧ (slip s k planned delay).sec = s.sec ∧ (slip s k planned delay).pwr = s.pwr ∧ (slip s
    k planned delay).crings = s.crings ∧ (slip s k planned delay).qrings = s.qrings ∧ (slip s k planned delay).qids =
    s.qids ∧ (slip s k planned delay).cores = s.cores ∧ (slip s k planned delay).pups = s.pups ∧ (slip s k planned
    delay).objs = s.objs ∧ (slip s k planned delay).jobs = s.jobs ∧ (slip s k planned delay).slots = s.slots ∧ (slip s
    k planned delay).slotQ = s.slotQ ∧ (slip s k planned delay).net = s.net ∧ (slip s k planned delay).coll = s.coll ∧
    (slip s k planned delay).mem = s.mem ∧ (slip s k planned delay).bad = s.bad ∧ (slip s k planned delay).errTimes =
    s.errTimes ∧ (slip s k planned delay).lostWin = s.lostWin ∧ (slip s k planned delay).aclk = s.aclk ∧ (slip s k
    planned delay).out = s.out ∧ (slip s k planned delay).free = s.free := by
  simp [slip]
@[simp] theorem slipIfLate_keeps (s : State) (k : Nat) (planned : Word) :
    (slipIfLate s k planned).pending = s.pending ∧ (slipIfLate s k planned).boot = s.boot ∧ (slipIfLate s k
    planned).nvm = s.nvm ∧ (slipIfLate s k planned).edits = s.edits ∧ (slipIfLate s k planned).ftu = s.ftu ∧
    (slipIfLate s k planned).flt = s.flt ∧ (slipIfLate s k planned).sec = s.sec ∧ (slipIfLate s k planned).pwr = s.pwr
    ∧ (slipIfLate s k planned).crings = s.crings ∧ (slipIfLate s k planned).qrings = s.qrings ∧ (slipIfLate s k
    planned).qids = s.qids ∧ (slipIfLate s k planned).cores = s.cores ∧ (slipIfLate s k planned).pups = s.pups ∧
    (slipIfLate s k planned).objs = s.objs ∧ (slipIfLate s k planned).jobs = s.jobs ∧ (slipIfLate s k planned).slots =
    s.slots ∧ (slipIfLate s k planned).slotQ = s.slotQ ∧ (slipIfLate s k planned).net = s.net ∧ (slipIfLate s k
    planned).coll = s.coll ∧ (slipIfLate s k planned).mem = s.mem ∧ (slipIfLate s k planned).bad = s.bad ∧ (slipIfLate
    s k planned).errTimes = s.errTimes ∧ (slipIfLate s k planned).lostWin = s.lostWin ∧ (slipIfLate s k planned).aclk
    = s.aclk ∧ (slipIfLate s k planned).out = s.out ∧ (slipIfLate s k planned).free = s.free := by
  simp [slipIfLate]
@[simp] theorem msix_keeps (s : State) (v : Nat) :
    (msix s v).pending = s.pending ∧ (msix s v).boot = s.boot ∧ (msix s v).nvm = s.nvm ∧ (msix s v).edits = s.edits ∧
    (msix s v).ftu = s.ftu ∧ (msix s v).flt = s.flt ∧ (msix s v).sec = s.sec ∧ (msix s v).pwr = s.pwr ∧ (msix s
    v).crings = s.crings ∧ (msix s v).qrings = s.qrings ∧ (msix s v).qids = s.qids ∧ (msix s v).cores = s.cores ∧
    (msix s v).pups = s.pups ∧ (msix s v).objs = s.objs ∧ (msix s v).jobs = s.jobs ∧ (msix s v).slots = s.slots ∧
    (msix s v).slotQ = s.slotQ ∧ (msix s v).net = s.net ∧ (msix s v).coll = s.coll ∧ (msix s v).mem = s.mem ∧ (msix s
    v).bad = s.bad ∧ (msix s v).errTimes = s.errTimes ∧ (msix s v).lostWin = s.lostWin ∧ (msix s v).aclk = s.aclk ∧
    (msix s v).free = s.free := by
  simp [msix]
@[simp] theorem eventMsg_keeps (s : State) (i : Nat) :
    (eventMsg s i).pending = s.pending ∧ (eventMsg s i).boot = s.boot ∧ (eventMsg s i).nvm = s.nvm ∧ (eventMsg s
    i).edits = s.edits ∧ (eventMsg s i).ftu = s.ftu ∧ (eventMsg s i).flt = s.flt ∧ (eventMsg s i).sec = s.sec ∧
    (eventMsg s i).pwr = s.pwr ∧ (eventMsg s i).crings = s.crings ∧ (eventMsg s i).qrings = s.qrings ∧ (eventMsg s
    i).qids = s.qids ∧ (eventMsg s i).cores = s.cores ∧ (eventMsg s i).pups = s.pups ∧ (eventMsg s i).objs = s.objs ∧
    (eventMsg s i).jobs = s.jobs ∧ (eventMsg s i).slots = s.slots ∧ (eventMsg s i).slotQ = s.slotQ ∧ (eventMsg s
    i).net = s.net ∧ (eventMsg s i).coll = s.coll ∧ (eventMsg s i).mem = s.mem ∧ (eventMsg s i).bad = s.bad ∧
    (eventMsg s i).errTimes = s.errTimes ∧ (eventMsg s i).lostWin = s.lostWin ∧ (eventMsg s i).aclk = s.aclk ∧
    (eventMsg s i).free = s.free := by
  simp [eventMsg]
@[simp] theorem event_keeps (s : State) (off : Nat) (f : Fld) (i : Nat) :
    (event s off f i).pending = s.pending ∧ (event s off f i).boot = s.boot ∧ (event s off f i).nvm = s.nvm ∧ (event s
    off f i).edits = s.edits ∧ (event s off f i).ftu = s.ftu ∧ (event s off f i).flt = s.flt ∧ (event s off f i).sec =
    s.sec ∧ (event s off f i).pwr = s.pwr ∧ (event s off f i).crings = s.crings ∧ (event s off f i).qrings = s.qrings
    ∧ (event s off f i).qids = s.qids ∧ (event s off f i).cores = s.cores ∧ (event s off f i).pups = s.pups ∧ (event s
    off f i).objs = s.objs ∧ (event s off f i).jobs = s.jobs ∧ (event s off f i).slots = s.slots ∧ (event s off f
    i).slotQ = s.slotQ ∧ (event s off f i).net = s.net ∧ (event s off f i).coll = s.coll ∧ (event s off f i).mem =
    s.mem ∧ (event s off f i).bad = s.bad ∧ (event s off f i).errTimes = s.errTimes ∧ (event s off f i).lostWin =
    s.lostWin ∧ (event s off f i).aclk = s.aclk ∧ (event s off f i).free = s.free := by
  simp [event]
@[simp] theorem countFault_keeps (s : State) (src cls : Nat) :
    (countFault s src cls).pending = s.pending ∧ (countFault s src cls).boot = s.boot ∧ (countFault s src cls).nvm =
    s.nvm ∧ (countFault s src cls).edits = s.edits ∧ (countFault s src cls).ftu = s.ftu ∧ (countFault s src cls).flt =
    s.flt ∧ (countFault s src cls).sec = s.sec ∧ (countFault s src cls).pwr = s.pwr ∧ (countFault s src cls).crings =
    s.crings ∧ (countFault s src cls).qrings = s.qrings ∧ (countFault s src cls).qids = s.qids ∧ (countFault s src
    cls).cores = s.cores ∧ (countFault s src cls).pups = s.pups ∧ (countFault s src cls).objs = s.objs ∧ (countFault s
    src cls).jobs = s.jobs ∧ (countFault s src cls).slots = s.slots ∧ (countFault s src cls).slotQ = s.slotQ ∧
    (countFault s src cls).net = s.net ∧ (countFault s src cls).coll = s.coll ∧ (countFault s src cls).mem = s.mem ∧
    (countFault s src cls).bad = s.bad ∧ (countFault s src cls).errTimes = s.errTimes ∧ (countFault s src cls).lostWin
    = s.lostWin ∧ (countFault s src cls).aclk = s.aclk ∧ (countFault s src cls).out = s.out ∧ (countFault s src
    cls).free = s.free := by
  simp [countFault]
@[simp] theorem bbWrite_keeps (s : State) (r : EventRec) :
    (bbWrite s r).pending = s.pending ∧ (bbWrite s r).boot = s.boot ∧ (bbWrite s r).nvm = s.nvm ∧ (bbWrite s r).csr =
    s.csr ∧ (bbWrite s r).edits = s.edits ∧ (bbWrite s r).ftu = s.ftu ∧ (bbWrite s r).sec = s.sec ∧ (bbWrite s r).pwr
    = s.pwr ∧ (bbWrite s r).crings = s.crings ∧ (bbWrite s r).qrings = s.qrings ∧ (bbWrite s r).qids = s.qids ∧
    (bbWrite s r).cores = s.cores ∧ (bbWrite s r).pups = s.pups ∧ (bbWrite s r).objs = s.objs ∧ (bbWrite s r).jobs =
    s.jobs ∧ (bbWrite s r).slots = s.slots ∧ (bbWrite s r).slotQ = s.slotQ ∧ (bbWrite s r).net = s.net ∧ (bbWrite s
    r).coll = s.coll ∧ (bbWrite s r).mem = s.mem ∧ (bbWrite s r).bad = s.bad ∧ (bbWrite s r).errTimes = s.errTimes ∧
    (bbWrite s r).lostWin = s.lostWin ∧ (bbWrite s r).aclk = s.aclk ∧ (bbWrite s r).out = s.out ∧ (bbWrite s r).free =
    s.free := by
  simp [bbWrite]
@[simp] theorem bbRaise_keeps (s : State) :
    (bbRaise s).pending = s.pending ∧ (bbRaise s).boot = s.boot ∧ (bbRaise s).nvm = s.nvm ∧ (bbRaise s).edits =
    s.edits ∧ (bbRaise s).ftu = s.ftu ∧ (bbRaise s).sec = s.sec ∧ (bbRaise s).pwr = s.pwr ∧ (bbRaise s).crings =
    s.crings ∧ (bbRaise s).qrings = s.qrings ∧ (bbRaise s).qids = s.qids ∧ (bbRaise s).cores = s.cores ∧ (bbRaise
    s).pups = s.pups ∧ (bbRaise s).objs = s.objs ∧ (bbRaise s).jobs = s.jobs ∧ (bbRaise s).slots = s.slots ∧
    (bbRaise s).slotQ = s.slotQ ∧ (bbRaise s).net = s.net ∧ (bbRaise s).coll = s.coll ∧ (bbRaise s).mem = s.mem ∧
    (bbRaise s).bad = s.bad ∧ (bbRaise s).errTimes = s.errTimes ∧ (bbRaise s).lostWin = s.lostWin ∧ (bbRaise s).aclk
    = s.aclk ∧ (bbRaise s).free = s.free := by
  simp [bbRaise]
@[simp] theorem bbMerge_keeps (s : State) (w : Nat) :
    (bbMerge s w).pending = s.pending ∧ (bbMerge s w).boot = s.boot ∧ (bbMerge s w).nvm = s.nvm ∧ (bbMerge s
    w).edits = s.edits ∧ (bbMerge s w).ftu = s.ftu ∧ (bbMerge s w).sec = s.sec ∧ (bbMerge s w).pwr = s.pwr ∧
    (bbMerge s w).crings = s.crings ∧ (bbMerge s w).qrings = s.qrings ∧ (bbMerge s w).qids = s.qids ∧ (bbMerge s
    w).cores = s.cores ∧ (bbMerge s w).pups = s.pups ∧ (bbMerge s w).objs = s.objs ∧ (bbMerge s w).jobs = s.jobs ∧
    (bbMerge s w).slots = s.slots ∧ (bbMerge s w).slotQ = s.slotQ ∧ (bbMerge s w).net = s.net ∧ (bbMerge s w).coll =
    s.coll ∧ (bbMerge s w).mem = s.mem ∧ (bbMerge s w).bad = s.bad ∧ (bbMerge s w).errTimes = s.errTimes ∧ (bbMerge
    s w).lostWin = s.lostWin ∧ (bbMerge s w).aclk = s.aclk ∧ (bbMerge s w).free = s.free := by
  simp [bbMerge]
@[simp] theorem bbReport_merge_keeps (s : State) (q : BitVec 32) :
    (bbReport s q bbMerge).pending = s.pending ∧ (bbReport s q bbMerge).boot = s.boot ∧ (bbReport s q bbMerge).nvm =
    s.nvm ∧ (bbReport s q bbMerge).edits = s.edits ∧ (bbReport s q bbMerge).ftu = s.ftu ∧ (bbReport s q bbMerge).sec
    = s.sec ∧ (bbReport s q bbMerge).pwr = s.pwr ∧ (bbReport s q bbMerge).crings = s.crings ∧ (bbReport s q
    bbMerge).qrings = s.qrings ∧ (bbReport s q bbMerge).qids = s.qids ∧ (bbReport s q bbMerge).cores = s.cores ∧
    (bbReport s q bbMerge).pups = s.pups ∧ (bbReport s q bbMerge).objs = s.objs ∧ (bbReport s q bbMerge).jobs =
    s.jobs ∧ (bbReport s q bbMerge).slots = s.slots ∧ (bbReport s q bbMerge).slotQ = s.slotQ ∧ (bbReport s q
    bbMerge).net = s.net ∧ (bbReport s q bbMerge).coll = s.coll ∧ (bbReport s q bbMerge).mem = s.mem ∧ (bbReport s q
    bbMerge).bad = s.bad ∧ (bbReport s q bbMerge).errTimes = s.errTimes ∧ (bbReport s q bbMerge).lostWin = s.lostWin
    ∧ (bbReport s q bbMerge).aclk = s.aclk ∧ (bbReport s q bbMerge).free = s.free := by
  unfold bbReport; dsimp only; (repeat' split) <;> simp
@[simp] theorem bbError_keeps (s : State) (w : Nat) :
    (bbError s w).pending = s.pending ∧ (bbError s w).boot = s.boot ∧ (bbError s w).nvm = s.nvm ∧ (bbError s
    w).edits = s.edits ∧ (bbError s w).ftu = s.ftu ∧ (bbError s w).sec = s.sec ∧ (bbError s w).pwr = s.pwr ∧
    (bbError s w).crings = s.crings ∧ (bbError s w).qrings = s.qrings ∧ (bbError s w).qids = s.qids ∧ (bbError s
    w).cores = s.cores ∧ (bbError s w).pups = s.pups ∧ (bbError s w).objs = s.objs ∧ (bbError s w).jobs = s.jobs ∧
    (bbError s w).slots = s.slots ∧ (bbError s w).slotQ = s.slotQ ∧ (bbError s w).net = s.net ∧ (bbError s w).coll =
    s.coll ∧ (bbError s w).mem = s.mem ∧ (bbError s w).bad = s.bad ∧ (bbError s w).errTimes = s.errTimes ∧ (bbError
    s w).lostWin = s.lostWin ∧ (bbError s w).aclk = s.aclk ∧ (bbError s w).free = s.free := by
  unfold bbError; dsimp only; split <;> simp
@[simp] theorem bbReport_error_keeps (s : State) (q : BitVec 32) :
    (bbReport s q bbError).pending = s.pending ∧ (bbReport s q bbError).boot = s.boot ∧ (bbReport s q bbError).nvm =
    s.nvm ∧ (bbReport s q bbError).edits = s.edits ∧ (bbReport s q bbError).ftu = s.ftu ∧ (bbReport s q bbError).sec
    = s.sec ∧ (bbReport s q bbError).pwr = s.pwr ∧ (bbReport s q bbError).crings = s.crings ∧ (bbReport s q
    bbError).qrings = s.qrings ∧ (bbReport s q bbError).qids = s.qids ∧ (bbReport s q bbError).cores = s.cores ∧
    (bbReport s q bbError).pups = s.pups ∧ (bbReport s q bbError).objs = s.objs ∧ (bbReport s q bbError).jobs =
    s.jobs ∧ (bbReport s q bbError).slots = s.slots ∧ (bbReport s q bbError).slotQ = s.slotQ ∧ (bbReport s q
    bbError).net = s.net ∧ (bbReport s q bbError).coll = s.coll ∧ (bbReport s q bbError).mem = s.mem ∧ (bbReport s q
    bbError).bad = s.bad ∧ (bbReport s q bbError).errTimes = s.errTimes ∧ (bbReport s q bbError).lostWin = s.lostWin
    ∧ (bbReport s q bbError).aclk = s.aclk ∧ (bbReport s q bbError).free = s.free := by
  unfold bbReport; dsimp only; (repeat' split) <;> simp
@[simp] theorem putRecord_keeps (s : State) (r : EventRec) :
    (putRecord s r).pending = s.pending ∧ (putRecord s r).boot = s.boot ∧ (putRecord s r).nvm = s.nvm ∧ (putRecord s
    r).edits = s.edits ∧ (putRecord s r).ftu = s.ftu ∧ (putRecord s r).sec = s.sec ∧ (putRecord s r).pwr = s.pwr ∧
    (putRecord s r).crings = s.crings ∧ (putRecord s r).qrings = s.qrings ∧ (putRecord s r).qids = s.qids ∧ (putRecord
    s r).cores = s.cores ∧ (putRecord s r).pups = s.pups ∧ (putRecord s r).objs = s.objs ∧ (putRecord s r).jobs =
    s.jobs ∧ (putRecord s r).slots = s.slots ∧ (putRecord s r).slotQ = s.slotQ ∧ (putRecord s r).net = s.net ∧
    (putRecord s r).coll = s.coll ∧ (putRecord s r).mem = s.mem ∧ (putRecord s r).bad = s.bad ∧ (putRecord s
    r).errTimes = s.errTimes ∧ (putRecord s r).lostWin = s.lostWin ∧ (putRecord s r).aclk = s.aclk ∧ (putRecord s
    r).free = s.free := by
  simp [putRecord]
@[simp] theorem logEvent_keeps (s : State) (kind code source : Nat) (detail : BitVec 32) :
    (logEvent s kind code source detail).pending = s.pending ∧ (logEvent s kind code source detail).boot = s.boot ∧
    (logEvent s kind code source detail).nvm = s.nvm ∧ (logEvent s kind code source detail).edits = s.edits ∧
    (logEvent s kind code source detail).ftu = s.ftu ∧ (logEvent s kind code source detail).sec = s.sec ∧ (logEvent s
    kind code source detail).pwr = s.pwr ∧ (logEvent s kind code source detail).crings = s.crings ∧ (logEvent s kind
    code source detail).qrings = s.qrings ∧ (logEvent s kind code source detail).qids = s.qids ∧ (logEvent s kind code
    source detail).cores = s.cores ∧ (logEvent s kind code source detail).pups = s.pups ∧ (logEvent s kind code source
    detail).objs = s.objs ∧ (logEvent s kind code source detail).jobs = s.jobs ∧ (logEvent s kind code source
    detail).slots = s.slots ∧ (logEvent s kind code source detail).slotQ = s.slotQ ∧ (logEvent s kind code source
    detail).net = s.net ∧ (logEvent s kind code source detail).coll = s.coll ∧ (logEvent s kind code source
    detail).mem = s.mem ∧ (logEvent s kind code source detail).bad = s.bad ∧ (logEvent s kind code source
    detail).errTimes = s.errTimes ∧ (logEvent s kind code source detail).lostWin = s.lostWin ∧ (logEvent s kind code
    source detail).aclk = s.aclk ∧ (logEvent s kind code source detail).free = s.free := by
  simp [logEvent]
@[simp] theorem snapTrigger_keeps (s : State) (seq : BitVec 32) (halt : Bool) :
    (snapTrigger s seq halt).pending = s.pending ∧ (snapTrigger s seq halt).boot = s.boot ∧ (snapTrigger s seq
    halt).nvm = s.nvm ∧ (snapTrigger s seq halt).csr = s.csr ∧ (snapTrigger s seq halt).edits = s.edits ∧ (snapTrigger
    s seq halt).ftu = s.ftu ∧ (snapTrigger s seq halt).sec = s.sec ∧ (snapTrigger s seq halt).pwr = s.pwr ∧
    (snapTrigger s seq halt).crings = s.crings ∧ (snapTrigger s seq halt).qrings = s.qrings ∧ (snapTrigger s seq
    halt).qids = s.qids ∧ (snapTrigger s seq halt).cores = s.cores ∧ (snapTrigger s seq halt).pups = s.pups ∧
    (snapTrigger s seq halt).objs = s.objs ∧ (snapTrigger s seq halt).jobs = s.jobs ∧ (snapTrigger s seq halt).slots =
    s.slots ∧ (snapTrigger s seq halt).slotQ = s.slotQ ∧ (snapTrigger s seq halt).net = s.net ∧ (snapTrigger s seq
    halt).coll = s.coll ∧ (snapTrigger s seq halt).mem = s.mem ∧ (snapTrigger s seq halt).bad = s.bad ∧ (snapTrigger s
    seq halt).errTimes = s.errTimes ∧ (snapTrigger s seq halt).lostWin = s.lostWin ∧ (snapTrigger s seq halt).aclk =
    s.aclk ∧ (snapTrigger s seq halt).out = s.out ∧ (snapTrigger s seq halt).free = s.free := by
  simp [snapTrigger]
@[simp] theorem fault_keeps (s : State) (src cause cls : Nat) (job : BitVec 16) (detail : BitVec 32) (forced : Bool) :
    (fault s src cause cls job detail forced).pending = s.pending ∧ (fault s src cause cls job detail forced).boot =
    s.boot ∧ (fault s src cause cls job detail forced).nvm = s.nvm ∧ (fault s src cause cls job detail forced).edits =
    s.edits ∧ (fault s src cause cls job detail forced).ftu = s.ftu ∧ (fault s src cause cls job detail forced).sec =
    s.sec ∧ (fault s src cause cls job detail forced).pwr = s.pwr ∧ (fault s src cause cls job detail forced).crings =
    s.crings ∧ (fault s src cause cls job detail forced).qrings = s.qrings ∧ (fault s src cause cls job detail
    forced).qids = s.qids ∧ (fault s src cause cls job detail forced).cores = s.cores ∧ (fault s src cause cls job
    detail forced).pups = s.pups ∧ (fault s src cause cls job detail forced).objs = s.objs ∧ (fault s src cause cls
    job detail forced).jobs = s.jobs ∧ (fault s src cause cls job detail forced).slots = s.slots ∧ (fault s src cause
    cls job detail forced).slotQ = s.slotQ ∧ (fault s src cause cls job detail forced).net = s.net ∧ (fault s src
    cause cls job detail forced).coll = s.coll ∧ (fault s src cause cls job detail forced).mem = s.mem ∧ (fault s src
    cause cls job detail forced).bad = s.bad ∧ (fault s src cause cls job detail forced).errTimes = s.errTimes ∧
    (fault s src cause cls job detail forced).lostWin = s.lostWin ∧ (fault s src cause cls job detail forced).aclk =
    s.aclk ∧ (fault s src cause cls job detail forced).free = s.free := by
  unfold fault; dsimp only; split <;> simp
@[simp] theorem note_keeps (s : State) (src cause : Nat) (detail : BitVec 32) (job : BitVec 16) :
    (note s src cause detail job).pending = s.pending ∧ (note s src cause detail job).boot = s.boot ∧ (note s src
    cause detail job).nvm = s.nvm ∧ (note s src cause detail job).edits = s.edits ∧ (note s src cause detail job).ftu
    = s.ftu ∧ (note s src cause detail job).sec = s.sec ∧ (note s src cause detail job).pwr = s.pwr ∧ (note s src
    cause detail job).crings = s.crings ∧ (note s src cause detail job).qrings = s.qrings ∧ (note s src cause detail
    job).qids = s.qids ∧ (note s src cause detail job).cores = s.cores ∧ (note s src cause detail job).pups = s.pups ∧
    (note s src cause detail job).objs = s.objs ∧ (note s src cause detail job).jobs = s.jobs ∧ (note s src cause
    detail job).slots = s.slots ∧ (note s src cause detail job).slotQ = s.slotQ ∧ (note s src cause detail job).net =
    s.net ∧ (note s src cause detail job).coll = s.coll ∧ (note s src cause detail job).mem = s.mem ∧ (note s src
    cause detail job).bad = s.bad ∧ (note s src cause detail job).errTimes = s.errTimes ∧ (note s src cause detail
    job).lostWin = s.lostWin ∧ (note s src cause detail job).aclk = s.aclk ∧ (note s src cause detail job).free =
    s.free := by
  simp [note]
@[simp] theorem closeRecord_keeps (s : State) :
    (closeRecord s).pending = s.pending ∧ (closeRecord s).boot = s.boot ∧ (closeRecord s).nvm = s.nvm ∧ (closeRecord
    s).edits = s.edits ∧ (closeRecord s).ftu = s.ftu ∧ (closeRecord s).sec = s.sec ∧ (closeRecord s).pwr = s.pwr ∧
    (closeRecord s).crings = s.crings ∧ (closeRecord s).qrings = s.qrings ∧ (closeRecord s).qids = s.qids ∧
    (closeRecord s).cores = s.cores ∧ (closeRecord s).pups = s.pups ∧ (closeRecord s).objs = s.objs ∧ (closeRecord
    s).jobs = s.jobs ∧ (closeRecord s).slots = s.slots ∧ (closeRecord s).slotQ = s.slotQ ∧ (closeRecord s).net = s.net
    ∧ (closeRecord s).coll = s.coll ∧ (closeRecord s).mem = s.mem ∧ (closeRecord s).bad = s.bad ∧ (closeRecord
    s).errTimes = s.errTimes ∧ (closeRecord s).lostWin = s.lostWin ∧ (closeRecord s).aclk = s.aclk ∧ (closeRecord
    s).free = s.free := by
  unfold closeRecord; split <;> simp
@[simp] theorem disableRings_keeps (s : State) (l : List Nat) :
    (disableRings s l).pending = s.pending ∧ (disableRings s l).boot = s.boot ∧ (disableRings s l).nvm = s.nvm ∧
    (disableRings s l).edits = s.edits ∧ (disableRings s l).ftu = s.ftu ∧ (disableRings s l).flt = s.flt ∧
    (disableRings s l).sec = s.sec ∧ (disableRings s l).pwr = s.pwr ∧ (disableRings s l).crings = s.crings ∧
    (disableRings s l).qrings = s.qrings ∧ (disableRings s l).qids = s.qids ∧ (disableRings s l).cores = s.cores ∧
    (disableRings s l).pups = s.pups ∧ (disableRings s l).objs = s.objs ∧ (disableRings s l).jobs = s.jobs ∧
    (disableRings s l).slots = s.slots ∧ (disableRings s l).slotQ = s.slotQ ∧ (disableRings s l).net = s.net ∧
    (disableRings s l).coll = s.coll ∧ (disableRings s l).mem = s.mem ∧ (disableRings s l).bad = s.bad ∧ (disableRings
    s l).errTimes = s.errTimes ∧ (disableRings s l).lostWin = s.lostWin ∧ (disableRings s l).aclk = s.aclk ∧
    (disableRings s l).out = s.out ∧ (disableRings s l).free = s.free := by
  induction l generalizing s with
  | nil => simp [disableRings]
  | cons r l ih => simp [disableRings, ih]
@[simp] theorem haltNow_keeps (s : State) (src cause : Nat) (detail : BitVec 32) (forced : Bool) :
    (haltNow s src cause detail forced).pending = s.pending ∧ (haltNow s src cause detail forced).nvm = s.nvm ∧
    (haltNow s src cause detail forced).edits = s.edits ∧ (haltNow s src cause detail forced).ftu = s.ftu ∧ (haltNow s
    src cause detail forced).sec = s.sec ∧ (haltNow s src cause detail forced).pwr = s.pwr ∧ (haltNow s src cause
    detail forced).crings = s.crings ∧ (haltNow s src cause detail forced).qrings = s.qrings ∧ (haltNow s src cause
    detail forced).qids = s.qids ∧ (haltNow s src cause detail forced).cores = s.cores ∧ (haltNow s src cause detail
    forced).pups = s.pups ∧ (haltNow s src cause detail forced).objs = s.objs ∧ (haltNow s src cause detail
    forced).jobs = s.jobs ∧ (haltNow s src cause detail forced).slots = s.slots ∧ (haltNow s src cause detail
    forced).slotQ = s.slotQ ∧ (haltNow s src cause detail forced).net = s.net ∧ (haltNow s src cause detail
    forced).coll = s.coll ∧ (haltNow s src cause detail forced).mem = s.mem ∧ (haltNow s src cause detail forced).bad
    = s.bad ∧ (haltNow s src cause detail forced).errTimes = s.errTimes ∧ (haltNow s src cause detail forced).lostWin
    = s.lostWin ∧ (haltNow s src cause detail forced).aclk = s.aclk ∧ (haltNow s src cause detail forced).free =
    s.free := by
  simp [haltNow]
@[simp] theorem putBytes_keeps (s : State) (k : Nat) (bs : List Byte) :
    (putBytes s k bs).pending = s.pending ∧ (putBytes s k bs).boot = s.boot ∧ (putBytes s k bs).nvm = s.nvm ∧
    (putBytes s k bs).csr = s.csr ∧ (putBytes s k bs).edits = s.edits ∧ (putBytes s k bs).ftu = s.ftu ∧ (putBytes s k
    bs).flt = s.flt ∧ (putBytes s k bs).sec = s.sec ∧ (putBytes s k bs).pwr = s.pwr ∧ (putBytes s k bs).crings =
    s.crings ∧ (putBytes s k bs).qrings = s.qrings ∧ (putBytes s k bs).qids = s.qids ∧ (putBytes s k bs).cores =
    s.cores ∧ (putBytes s k bs).pups = s.pups ∧ (putBytes s k bs).objs = s.objs ∧ (putBytes s k bs).jobs = s.jobs ∧
    (putBytes s k bs).slots = s.slots ∧ (putBytes s k bs).slotQ = s.slotQ ∧ (putBytes s k bs).net = s.net ∧ (putBytes
    s k bs).coll = s.coll ∧ (putBytes s k bs).errTimes = s.errTimes ∧ (putBytes s k bs).lostWin = s.lostWin ∧
    (putBytes s k bs).aclk = s.aclk ∧ (putBytes s k bs).out = s.out ∧ (putBytes s k bs).free = s.free := by
  have h := putBytes_frame s k bs
  exact ⟨(congrArg State.pending h :), (congrArg State.boot h :), (congrArg State.nvm h :), (congrArg State.csr h :), (congrArg State.edits h :), (congrArg State.ftu h :), (congrArg State.flt h :), (congrArg State.sec h :), (congrArg State.pwr h :), (congrArg State.crings h :), (congrArg State.qrings h :), (congrArg State.qids h :), (congrArg State.cores h :), (congrArg State.pups h :), (congrArg State.objs h :), (congrArg State.jobs h :), (congrArg State.slots h :), (congrArg State.slotQ h :), (congrArg State.net h :), (congrArg State.coll h :), (congrArg State.errTimes h :), (congrArg State.lostWin h :), (congrArg State.aclk h :), (congrArg State.out h :), (congrArg State.free h :)⟩
@[simp] theorem memPersist_keeps (s : State) (st : Store) (k cls : Nat) (job : BitVec 16) :
    (memPersist s st k cls job).pending = s.pending ∧ (memPersist s st k cls job).boot = s.boot ∧ (memPersist s st k
    cls job).nvm = s.nvm ∧ (memPersist s st k cls job).edits = s.edits ∧ (memPersist s st k cls job).ftu = s.ftu ∧
    (memPersist s st k cls job).sec = s.sec ∧ (memPersist s st k cls job).pwr = s.pwr ∧ (memPersist s st k cls
    job).crings = s.crings ∧ (memPersist s st k cls job).qrings = s.qrings ∧ (memPersist s st k cls job).qids = s.qids
    ∧ (memPersist s st k cls job).cores = s.cores ∧ (memPersist s st k cls job).pups = s.pups ∧ (memPersist s st k cls
    job).objs = s.objs ∧ (memPersist s st k cls job).jobs = s.jobs ∧ (memPersist s st k cls job).slots = s.slots ∧
    (memPersist s st k cls job).slotQ = s.slotQ ∧ (memPersist s st k cls job).net = s.net ∧ (memPersist s st k cls
    job).coll = s.coll ∧ (memPersist s st k cls job).mem = s.mem ∧ (memPersist s st k cls job).bad = s.bad ∧
    (memPersist s st k cls job).lostWin = s.lostWin ∧ (memPersist s st k cls job).aclk = s.aclk ∧ (memPersist s st k
    cls job).free = s.free := by
  unfold memPersist; split <;> simp
@[simp] theorem objAdd_keeps (s : State) (n v : Nat) :
    (objAdd s n v).pending = s.pending ∧ (objAdd s n v).boot = s.boot ∧ (objAdd s n v).nvm = s.nvm ∧ (objAdd s n
    v).csr = s.csr ∧ (objAdd s n v).edits = s.edits ∧ (objAdd s n v).ftu = s.ftu ∧ (objAdd s n v).flt = s.flt ∧
    (objAdd s n v).sec = s.sec ∧ (objAdd s n v).pwr = s.pwr ∧ (objAdd s n v).crings = s.crings ∧ (objAdd s n v).qrings
    = s.qrings ∧ (objAdd s n v).qids = s.qids ∧ (objAdd s n v).cores = s.cores ∧ (objAdd s n v).pups = s.pups ∧
    (objAdd s n v).jobs = s.jobs ∧ (objAdd s n v).slots = s.slots ∧ (objAdd s n v).slotQ = s.slotQ ∧ (objAdd s n
    v).net = s.net ∧ (objAdd s n v).coll = s.coll ∧ (objAdd s n v).mem = s.mem ∧ (objAdd s n v).bad = s.bad ∧ (objAdd
    s n v).errTimes = s.errTimes ∧ (objAdd s n v).lostWin = s.lostWin ∧ (objAdd s n v).aclk = s.aclk ∧ (objAdd s n
    v).out = s.out ∧ (objAdd s n v).free = s.free := by
  simp [objAdd]
@[simp] theorem objSet_keeps (s : State) (n : Nat) (v : Word) :
    (objSet s n v).pending = s.pending ∧ (objSet s n v).boot = s.boot ∧ (objSet s n v).nvm = s.nvm ∧ (objSet s n
    v).csr = s.csr ∧ (objSet s n v).edits = s.edits ∧ (objSet s n v).ftu = s.ftu ∧ (objSet s n v).flt = s.flt ∧
    (objSet s n v).sec = s.sec ∧ (objSet s n v).pwr = s.pwr ∧ (objSet s n v).crings = s.crings ∧ (objSet s n v).qrings
    = s.qrings ∧ (objSet s n v).qids = s.qids ∧ (objSet s n v).cores = s.cores ∧ (objSet s n v).pups = s.pups ∧
    (objSet s n v).jobs = s.jobs ∧ (objSet s n v).slots = s.slots ∧ (objSet s n v).slotQ = s.slotQ ∧ (objSet s n
    v).net = s.net ∧ (objSet s n v).coll = s.coll ∧ (objSet s n v).mem = s.mem ∧ (objSet s n v).bad = s.bad ∧ (objSet
    s n v).errTimes = s.errTimes ∧ (objSet s n v).lostWin = s.lostWin ∧ (objSet s n v).aclk = s.aclk ∧ (objSet s n
    v).out = s.out ∧ (objSet s n v).free = s.free := by
  simp [objSet]
@[simp] theorem latchProv_keeps (s : State) :
    (latchProv s).pending = s.pending ∧ (latchProv s).boot = s.boot ∧ (latchProv s).nvm = s.nvm ∧ (latchProv s).csr
    = s.csr ∧ (latchProv s).edits = s.edits ∧ (latchProv s).ftu = s.ftu ∧ (latchProv s).flt = s.flt ∧ (latchProv
    s).pwr = s.pwr ∧ (latchProv s).crings = s.crings ∧ (latchProv s).qrings = s.qrings ∧ (latchProv s).qids = s.qids
    ∧ (latchProv s).cores = s.cores ∧ (latchProv s).pups = s.pups ∧ (latchProv s).objs = s.objs ∧ (latchProv s).jobs
    = s.jobs ∧ (latchProv s).slots = s.slots ∧ (latchProv s).slotQ = s.slotQ ∧ (latchProv s).net = s.net ∧
    (latchProv s).coll = s.coll ∧ (latchProv s).mem = s.mem ∧ (latchProv s).bad = s.bad ∧ (latchProv s).errTimes =
    s.errTimes ∧ (latchProv s).lostWin = s.lostWin ∧ (latchProv s).aclk = s.aclk ∧ (latchProv s).out = s.out ∧
    (latchProv s).free = s.free := by
  unfold latchProv; (repeat' split) <;> simp
@[simp] theorem latchWaits_keeps (s : State) :
    (latchWaits s).pending = s.pending ∧ (latchWaits s).boot = s.boot ∧ (latchWaits s).nvm = s.nvm ∧ (latchWaits
    s).csr = s.csr ∧ (latchWaits s).edits = s.edits ∧ (latchWaits s).ftu = s.ftu ∧ (latchWaits s).flt = s.flt ∧
    (latchWaits s).pwr = s.pwr ∧ (latchWaits s).crings = s.crings ∧ (latchWaits s).qrings = s.qrings ∧ (latchWaits
    s).qids = s.qids ∧ (latchWaits s).pups = s.pups ∧ (latchWaits s).objs = s.objs ∧ (latchWaits s).jobs = s.jobs ∧
    (latchWaits s).slots = s.slots ∧ (latchWaits s).slotQ = s.slotQ ∧ (latchWaits s).net = s.net ∧ (latchWaits
    s).mem = s.mem ∧ (latchWaits s).bad = s.bad ∧ (latchWaits s).errTimes = s.errTimes ∧ (latchWaits s).lostWin =
    s.lostWin ∧ (latchWaits s).aclk = s.aclk ∧ (latchWaits s).out = s.out ∧ (latchWaits s).free = s.free := by
  simp [latchWaits]
@[simp] theorem qMessage_keeps (s : State) (q : Nat) :
    (qMessage s q).pending = s.pending ∧ (qMessage s q).boot = s.boot ∧ (qMessage s q).nvm = s.nvm ∧ (qMessage s
    q).edits = s.edits ∧ (qMessage s q).ftu = s.ftu ∧ (qMessage s q).flt = s.flt ∧ (qMessage s q).sec = s.sec ∧
    (qMessage s q).pwr = s.pwr ∧ (qMessage s q).crings = s.crings ∧ (qMessage s q).qids = s.qids ∧ (qMessage s
    q).cores = s.cores ∧ (qMessage s q).pups = s.pups ∧ (qMessage s q).objs = s.objs ∧ (qMessage s q).jobs = s.jobs ∧
    (qMessage s q).slots = s.slots ∧ (qMessage s q).slotQ = s.slotQ ∧ (qMessage s q).net = s.net ∧ (qMessage s q).coll
    = s.coll ∧ (qMessage s q).mem = s.mem ∧ (qMessage s q).bad = s.bad ∧ (qMessage s q).errTimes = s.errTimes ∧
    (qMessage s q).lostWin = s.lostWin ∧ (qMessage s q).aclk = s.aclk ∧ (qMessage s q).free = s.free := by
  simp [qMessage]
@[simp] theorem qWrite_keeps (s : State) (q : Nat) (c : Cpl) :
    (qWrite s q c).pending = s.pending ∧ (qWrite s q c).boot = s.boot ∧ (qWrite s q c).nvm = s.nvm ∧ (qWrite s q
    c).edits = s.edits ∧ (qWrite s q c).ftu = s.ftu ∧ (qWrite s q c).flt = s.flt ∧ (qWrite s q c).sec = s.sec ∧
    (qWrite s q c).pwr = s.pwr ∧ (qWrite s q c).crings = s.crings ∧ (qWrite s q c).qids = s.qids ∧ (qWrite s q
    c).cores = s.cores ∧ (qWrite s q c).pups = s.pups ∧ (qWrite s q c).jobs = s.jobs ∧ (qWrite s q c).slots = s.slots
    ∧ (qWrite s q c).slotQ = s.slotQ ∧ (qWrite s q c).net = s.net ∧ (qWrite s q c).coll = s.coll ∧ (qWrite s q c).mem
    = s.mem ∧ (qWrite s q c).bad = s.bad ∧ (qWrite s q c).errTimes = s.errTimes ∧ (qWrite s q c).lostWin = s.lostWin ∧
    (qWrite s q c).aclk = s.aclk ∧ (qWrite s q c).free = s.free := by
  unfold qWrite; split <;> simp
@[simp] theorem qDrain_keeps (q : Nat) (l : List Cpl) (s : State) :
    (qDrain q l s).pending = s.pending ∧ (qDrain q l s).boot = s.boot ∧ (qDrain q l s).nvm = s.nvm ∧ (qDrain q l
    s).edits = s.edits ∧ (qDrain q l s).ftu = s.ftu ∧ (qDrain q l s).flt = s.flt ∧ (qDrain q l s).sec = s.sec ∧
    (qDrain q l s).pwr = s.pwr ∧ (qDrain q l s).crings = s.crings ∧ (qDrain q l s).qids = s.qids ∧ (qDrain q l
    s).cores = s.cores ∧ (qDrain q l s).pups = s.pups ∧ (qDrain q l s).jobs = s.jobs ∧ (qDrain q l s).slots = s.slots
    ∧ (qDrain q l s).slotQ = s.slotQ ∧ (qDrain q l s).net = s.net ∧ (qDrain q l s).coll = s.coll ∧ (qDrain q l s).mem
    = s.mem ∧ (qDrain q l s).bad = s.bad ∧ (qDrain q l s).errTimes = s.errTimes ∧ (qDrain q l s).lostWin = s.lostWin ∧
    (qDrain q l s).aclk = s.aclk ∧ (qDrain q l s).free = s.free := by
  induction l generalizing s with
  | nil => simp [qDrain]
  | cons c l ih => unfold qDrain; (repeat' split) <;> simp [ih]
@[simp] theorem complete_keeps (s : State) (q : Nat) (c : Cpl) :
    (complete s q c).pending = s.pending ∧ (complete s q c).boot = s.boot ∧ (complete s q c).nvm = s.nvm ∧ (complete s
    q c).edits = s.edits ∧ (complete s q c).ftu = s.ftu ∧ (complete s q c).flt = s.flt ∧ (complete s q c).sec = s.sec
    ∧ (complete s q c).pwr = s.pwr ∧ (complete s q c).crings = s.crings ∧ (complete s q c).qids = s.qids ∧ (complete s
    q c).cores = s.cores ∧ (complete s q c).pups = s.pups ∧ (complete s q c).jobs = s.jobs ∧ (complete s q c).slots =
    s.slots ∧ (complete s q c).slotQ = s.slotQ ∧ (complete s q c).net = s.net ∧ (complete s q c).coll = s.coll ∧
    (complete s q c).mem = s.mem ∧ (complete s q c).bad = s.bad ∧ (complete s q c).errTimes = s.errTimes ∧ (complete s
    q c).lostWin = s.lostWin ∧ (complete s q c).aclk = s.aclk ∧ (complete s q c).free = s.free := by
  simp [complete]
@[simp] theorem advanceTo_keeps (s : State) (t : Word) :
    (advanceTo s t).pending = s.pending ∧ (advanceTo s t).boot = s.boot ∧ (advanceTo s t).nvm = s.nvm ∧ (advanceTo s
    t).csr = s.csr ∧ (advanceTo s t).edits = s.edits ∧ (advanceTo s t).flt = s.flt ∧ (advanceTo s t).sec = s.sec ∧
    (advanceTo s t).pwr = s.pwr ∧ (advanceTo s t).crings = s.crings ∧ (advanceTo s t).qrings = s.qrings ∧ (advanceTo
    s t).qids = s.qids ∧ (advanceTo s t).cores = s.cores ∧ (advanceTo s t).pups = s.pups ∧ (advanceTo s t).objs =
    s.objs ∧ (advanceTo s t).jobs = s.jobs ∧ (advanceTo s t).slots = s.slots ∧ (advanceTo s t).slotQ = s.slotQ ∧
    (advanceTo s t).net = s.net ∧ (advanceTo s t).coll = s.coll ∧ (advanceTo s t).mem = s.mem ∧ (advanceTo s t).bad
    = s.bad ∧ (advanceTo s t).errTimes = s.errTimes ∧ (advanceTo s t).lostWin = s.lostWin ∧ (advanceTo s t).aclk =
    s.aclk ∧ (advanceTo s t).out = s.out ∧ (advanceTo s t).free = s.free := by
  simp [advanceTo]
/-! ### Operations of Machine/Gates -/

@[simp] theorem sendLpi_keeps (s : State) (b st : Nat) :
    (sendLpi s b st).pending = s.pending ∧ (sendLpi s b st).boot = s.boot ∧ (sendLpi s b st).nvm = s.nvm ∧ (sendLpi s
    b st).csr = s.csr ∧ (sendLpi s b st).edits = s.edits ∧ (sendLpi s b st).ftu = s.ftu ∧ (sendLpi s b st).flt = s.flt
    ∧ (sendLpi s b st).sec = s.sec ∧ (sendLpi s b st).pwr = s.pwr ∧ (sendLpi s b st).crings = s.crings ∧ (sendLpi s b
    st).qrings = s.qrings ∧ (sendLpi s b st).qids = s.qids ∧ (sendLpi s b st).cores = s.cores ∧ (sendLpi s b st).pups
    = s.pups ∧ (sendLpi s b st).objs = s.objs ∧ (sendLpi s b st).jobs = s.jobs ∧ (sendLpi s b st).slots = s.slots ∧
    (sendLpi s b st).slotQ = s.slotQ ∧ (sendLpi s b st).coll = s.coll ∧ (sendLpi s b st).mem = s.mem ∧ (sendLpi s b
    st).bad = s.bad ∧ (sendLpi s b st).errTimes = s.errTimes ∧ (sendLpi s b st).lostWin = s.lostWin ∧ (sendLpi s b
    st).aclk = s.aclk ∧ (sendLpi s b st).free = s.free := by
  simp [sendLpi]

/-! ### Operations of Machine/Power -/

@[simp] theorem setAlarm_keeps (s : State) (n action index target period : Nat) :
    (setAlarm s n action index target period).pending = s.pending ∧ (setAlarm s n action index target period).boot =
    s.boot ∧ (setAlarm s n action index target period).nvm = s.nvm ∧ (setAlarm s n action index target period).edits =
    s.edits ∧ (setAlarm s n action index target period).ftu = s.ftu ∧ (setAlarm s n action index target period).flt =
    s.flt ∧ (setAlarm s n action index target period).sec = s.sec ∧ (setAlarm s n action index target period).pwr =
    s.pwr ∧ (setAlarm s n action index target period).crings = s.crings ∧ (setAlarm s n action index target
    period).qrings = s.qrings ∧ (setAlarm s n action index target period).qids = s.qids ∧ (setAlarm s n action index
    target period).cores = s.cores ∧ (setAlarm s n action index target period).pups = s.pups ∧ (setAlarm s n action
    index target period).objs = s.objs ∧ (setAlarm s n action index target period).jobs = s.jobs ∧ (setAlarm s n
    action index target period).slots = s.slots ∧ (setAlarm s n action index target period).slotQ = s.slotQ ∧
    (setAlarm s n action index target period).net = s.net ∧ (setAlarm s n action index target period).coll = s.coll ∧
    (setAlarm s n action index target period).mem = s.mem ∧ (setAlarm s n action index target period).bad = s.bad ∧
    (setAlarm s n action index target period).errTimes = s.errTimes ∧ (setAlarm s n action index target
    period).lostWin = s.lostWin ∧ (setAlarm s n action index target period).aclk = s.aclk ∧ (setAlarm s n action index
    target period).out = s.out ∧ (setAlarm s n action index target period).free = s.free := by
  simp [setAlarm]
@[simp] theorem stopAlarm_keeps (s : State) (n : Nat) :
    (stopAlarm s n).pending = s.pending ∧ (stopAlarm s n).boot = s.boot ∧ (stopAlarm s n).nvm = s.nvm ∧ (stopAlarm s
    n).edits = s.edits ∧ (stopAlarm s n).ftu = s.ftu ∧ (stopAlarm s n).flt = s.flt ∧ (stopAlarm s n).sec = s.sec ∧
    (stopAlarm s n).pwr = s.pwr ∧ (stopAlarm s n).crings = s.crings ∧ (stopAlarm s n).qrings = s.qrings ∧ (stopAlarm s
    n).qids = s.qids ∧ (stopAlarm s n).cores = s.cores ∧ (stopAlarm s n).pups = s.pups ∧ (stopAlarm s n).objs = s.objs
    ∧ (stopAlarm s n).jobs = s.jobs ∧ (stopAlarm s n).slots = s.slots ∧ (stopAlarm s n).slotQ = s.slotQ ∧ (stopAlarm s
    n).net = s.net ∧ (stopAlarm s n).coll = s.coll ∧ (stopAlarm s n).mem = s.mem ∧ (stopAlarm s n).bad = s.bad ∧
    (stopAlarm s n).errTimes = s.errTimes ∧ (stopAlarm s n).lostWin = s.lostWin ∧ (stopAlarm s n).aclk = s.aclk ∧
    (stopAlarm s n).out = s.out ∧ (stopAlarm s n).free = s.free := by
  simp [stopAlarm]
@[simp] theorem freeAlarm_keeps (s : State) (n : Nat) :
    (freeAlarm s n).pending = s.pending ∧ (freeAlarm s n).boot = s.boot ∧ (freeAlarm s n).nvm = s.nvm ∧ (freeAlarm s
    n).edits = s.edits ∧ (freeAlarm s n).flt = s.flt ∧ (freeAlarm s n).sec = s.sec ∧ (freeAlarm s n).pwr = s.pwr ∧
    (freeAlarm s n).crings = s.crings ∧ (freeAlarm s n).qrings = s.qrings ∧ (freeAlarm s n).qids = s.qids ∧ (freeAlarm
    s n).cores = s.cores ∧ (freeAlarm s n).pups = s.pups ∧ (freeAlarm s n).objs = s.objs ∧ (freeAlarm s n).jobs =
    s.jobs ∧ (freeAlarm s n).slots = s.slots ∧ (freeAlarm s n).slotQ = s.slotQ ∧ (freeAlarm s n).net = s.net ∧
    (freeAlarm s n).coll = s.coll ∧ (freeAlarm s n).mem = s.mem ∧ (freeAlarm s n).bad = s.bad ∧ (freeAlarm s
    n).errTimes = s.errTimes ∧ (freeAlarm s n).lostWin = s.lostWin ∧ (freeAlarm s n).aclk = s.aclk ∧ (freeAlarm s
    n).out = s.out ∧ (freeAlarm s n).free = s.free := by
  simp [freeAlarm]
@[simp] theorem latchPlan_keeps (s : State) :
    (latchPlan s).pending = s.pending ∧ (latchPlan s).boot = s.boot ∧ (latchPlan s).nvm = s.nvm ∧ (latchPlan s).csr =
    s.csr ∧ (latchPlan s).edits = s.edits ∧ (latchPlan s).ftu = s.ftu ∧ (latchPlan s).flt = s.flt ∧ (latchPlan s).sec
    = s.sec ∧ (latchPlan s).crings = s.crings ∧ (latchPlan s).qrings = s.qrings ∧ (latchPlan s).qids = s.qids ∧
    (latchPlan s).cores = s.cores ∧ (latchPlan s).pups = s.pups ∧ (latchPlan s).objs = s.objs ∧ (latchPlan s).jobs =
    s.jobs ∧ (latchPlan s).slots = s.slots ∧ (latchPlan s).slotQ = s.slotQ ∧ (latchPlan s).net = s.net ∧ (latchPlan
    s).coll = s.coll ∧ (latchPlan s).mem = s.mem ∧ (latchPlan s).bad = s.bad ∧ (latchPlan s).errTimes = s.errTimes ∧
    (latchPlan s).lostWin = s.lostWin ∧ (latchPlan s).aclk = s.aclk ∧ (latchPlan s).out = s.out ∧ (latchPlan s).free =
    s.free := by
  simp [latchPlan]
@[simp] theorem setDomain_keeps (s : State) (u st : Nat) :
    (setDomain s u st).pending = s.pending ∧ (setDomain s u st).boot = s.boot ∧ (setDomain s u st).nvm = s.nvm ∧
    (setDomain s u st).edits = s.edits ∧ (setDomain s u st).ftu = s.ftu ∧ (setDomain s u st).flt = s.flt ∧ (setDomain
    s u st).sec = s.sec ∧ (setDomain s u st).pwr = s.pwr ∧ (setDomain s u st).crings = s.crings ∧ (setDomain s u
    st).qrings = s.qrings ∧ (setDomain s u st).qids = s.qids ∧ (setDomain s u st).cores = s.cores ∧ (setDomain s u
    st).pups = s.pups ∧ (setDomain s u st).objs = s.objs ∧ (setDomain s u st).jobs = s.jobs ∧ (setDomain s u st).slots
    = s.slots ∧ (setDomain s u st).slotQ = s.slotQ ∧ (setDomain s u st).net = s.net ∧ (setDomain s u st).coll = s.coll
    ∧ (setDomain s u st).mem = s.mem ∧ (setDomain s u st).bad = s.bad ∧ (setDomain s u st).errTimes = s.errTimes ∧
    (setDomain s u st).lostWin = s.lostWin ∧ (setDomain s u st).aclk = s.aclk ∧ (setDomain s u st).out = s.out ∧
    (setDomain s u st).free = s.free := by
  unfold setDomain; dsimp only; split
  · simp
  · split
    · split
      · refine ⟨(foldl_pending _ (by intros; rfl) _ _).trans (by simp), (foldl_boot _ (by intros; rfl) _ _).trans
        (by simp), (foldl_nvm _ (by intros; rfl) _ _).trans (by simp), (foldl_edits _ (by intros; rfl) _ _).trans
        (by simp), (foldl_ftu _ (by intros; rfl) _ _).trans (by simp), (foldl_flt _ (by intros; rfl) _ _).trans (by
        simp), (foldl_sec _ (by intros; rfl) _ _).trans (by simp), (foldl_pwr _ (by intros; rfl) _ _).trans (by
        simp), (foldl_crings _ (by intros; rfl) _ _).trans (by simp), (foldl_qrings _ (by intros; rfl) _ _).trans
        (by simp), (foldl_qids _ (by intros; rfl) _ _).trans (by simp), (foldl_cores _ (by intros; rfl) _ _).trans
        (by simp), (foldl_pups _ (by intros; rfl) _ _).trans (by simp), (foldl_objs _ (by intros; rfl) _ _).trans
        (by simp), (foldl_jobs _ (by intros; rfl) _ _).trans (by simp), (foldl_slots _ (by intros; rfl) _ _).trans
        (by simp), (foldl_slotQ _ (by intros; rfl) _ _).trans (by simp), (foldl_net _ (by intros; rfl) _ _).trans
        (by simp), (foldl_coll _ (by intros; rfl) _ _).trans (by simp), (foldl_mem _ (by intros; rfl) _ _).trans (by
        simp), (foldl_bad _ (by intros; rfl) _ _).trans (by simp), (foldl_errTimes _ (by intros; rfl) _ _).trans (by
        simp), (foldl_lostWin _ (by intros; rfl) _ _).trans (by simp), (foldl_aclk _ (by intros; rfl) _ _).trans (by
        simp), (foldl_out _ (by intros; rfl) _ _).trans (by simp), (foldl_free _ (by intros; rfl) _ _).trans (by
        simp)⟩
      · refine ⟨(foldl_pending _ (by intros; rfl) _ _).trans (by simp), (foldl_boot _ (by intros; rfl) _ _).trans
        (by simp), (foldl_nvm _ (by intros; rfl) _ _).trans (by simp), (foldl_edits _ (by intros; rfl) _ _).trans
        (by simp), (foldl_ftu _ (by intros; rfl) _ _).trans (by simp), (foldl_flt _ (by intros; rfl) _ _).trans (by
        simp), (foldl_sec _ (by intros; rfl) _ _).trans (by simp), (foldl_pwr _ (by intros; rfl) _ _).trans (by
        simp), (foldl_crings _ (by intros; rfl) _ _).trans (by simp), (foldl_qrings _ (by intros; rfl) _ _).trans
        (by simp), (foldl_qids _ (by intros; rfl) _ _).trans (by simp), (foldl_cores _ (by intros; rfl) _ _).trans
        (by simp), (foldl_pups _ (by intros; rfl) _ _).trans (by simp), (foldl_objs _ (by intros; rfl) _ _).trans
        (by simp), (foldl_jobs _ (by intros; rfl) _ _).trans (by simp), (foldl_slots _ (by intros; rfl) _ _).trans
        (by simp), (foldl_slotQ _ (by intros; rfl) _ _).trans (by simp), (foldl_net _ (by intros; rfl) _ _).trans
        (by simp), (foldl_coll _ (by intros; rfl) _ _).trans (by simp), (foldl_mem _ (by intros; rfl) _ _).trans (by
        simp), (foldl_bad _ (by intros; rfl) _ _).trans (by simp), (foldl_errTimes _ (by intros; rfl) _ _).trans (by
        simp), (foldl_lostWin _ (by intros; rfl) _ _).trans (by simp), (foldl_aclk _ (by intros; rfl) _ _).trans (by
        simp), (foldl_out _ (by intros; rfl) _ _).trans (by simp), (foldl_free _ (by intros; rfl) _ _).trans (by
        simp)⟩
    · simp
@[simp] theorem enterState_keeps (s : State) (u st : Nat) :
    (enterState s u st).pending = s.pending ∧ (enterState s u st).boot = s.boot ∧ (enterState s u st).nvm = s.nvm ∧
    (enterState s u st).edits = s.edits ∧ (enterState s u st).ftu = s.ftu ∧ (enterState s u st).flt = s.flt ∧
    (enterState s u st).sec = s.sec ∧ (enterState s u st).crings = s.crings ∧ (enterState s u st).qrings = s.qrings ∧
    (enterState s u st).qids = s.qids ∧ (enterState s u st).cores = s.cores ∧ (enterState s u st).pups = s.pups ∧
    (enterState s u st).objs = s.objs ∧ (enterState s u st).jobs = s.jobs ∧ (enterState s u st).slots = s.slots ∧
    (enterState s u st).slotQ = s.slotQ ∧ (enterState s u st).coll = s.coll ∧ (enterState s u st).mem = s.mem ∧
    (enterState s u st).bad = s.bad ∧ (enterState s u st).errTimes = s.errTimes ∧ (enterState s u st).lostWin =
    s.lostWin ∧ (enterState s u st).aclk = s.aclk ∧ (enterState s u st).free = s.free := by
  simp [enterState]
@[simp] theorem enterDeep_keeps (s : State) (u st : Nat) :
    (enterDeep s u st).pending = s.pending ∧ (enterDeep s u st).boot = s.boot ∧ (enterDeep s u st).nvm = s.nvm ∧
    (enterDeep s u st).edits = s.edits ∧ (enterDeep s u st).ftu = s.ftu ∧ (enterDeep s u st).flt = s.flt ∧ (enterDeep
    s u st).sec = s.sec ∧ (enterDeep s u st).crings = s.crings ∧ (enterDeep s u st).qrings = s.qrings ∧ (enterDeep s u
    st).qids = s.qids ∧ (enterDeep s u st).cores = s.cores ∧ (enterDeep s u st).pups = s.pups ∧ (enterDeep s u
    st).objs = s.objs ∧ (enterDeep s u st).jobs = s.jobs ∧ (enterDeep s u st).slots = s.slots ∧ (enterDeep s u
    st).slotQ = s.slotQ ∧ (enterDeep s u st).coll = s.coll ∧ (enterDeep s u st).mem = s.mem ∧ (enterDeep s u st).bad =
    s.bad ∧ (enterDeep s u st).errTimes = s.errTimes ∧ (enterDeep s u st).lostWin = s.lostWin ∧ (enterDeep s u
    st).aclk = s.aclk ∧ (enterDeep s u st).free = s.free := by
  unfold enterDeep; dsimp only; (repeat' split) <;> simp
@[simp] theorem retarget_keeps (s : State) (u : Nat) :
    (retarget s u).pending = s.pending ∧ (retarget s u).boot = s.boot ∧ (retarget s u).nvm = s.nvm ∧ (retarget s
    u).edits = s.edits ∧ (retarget s u).ftu = s.ftu ∧ (retarget s u).flt = s.flt ∧ (retarget s u).sec = s.sec ∧
    (retarget s u).crings = s.crings ∧ (retarget s u).qrings = s.qrings ∧ (retarget s u).qids = s.qids ∧ (retarget s
    u).cores = s.cores ∧ (retarget s u).pups = s.pups ∧ (retarget s u).objs = s.objs ∧ (retarget s u).jobs = s.jobs ∧
    (retarget s u).slots = s.slots ∧ (retarget s u).slotQ = s.slotQ ∧ (retarget s u).net = s.net ∧ (retarget s u).coll
    = s.coll ∧ (retarget s u).mem = s.mem ∧ (retarget s u).bad = s.bad ∧ (retarget s u).errTimes = s.errTimes ∧
    (retarget s u).lostWin = s.lostWin ∧ (retarget s u).aclk = s.aclk ∧ (retarget s u).out = s.out ∧ (retarget s
    u).free = s.free := by
  unfold retarget; dsimp only; (repeat' split) <;> simp
@[simp] theorem evalOne_keeps (s : State) (u : Nat) :
    (evalOne s u).pending = s.pending ∧ (evalOne s u).boot = s.boot ∧ (evalOne s u).nvm = s.nvm ∧ (evalOne s u).edits
    = s.edits ∧ (evalOne s u).ftu = s.ftu ∧ (evalOne s u).flt = s.flt ∧ (evalOne s u).sec = s.sec ∧ (evalOne s
    u).crings = s.crings ∧ (evalOne s u).qrings = s.qrings ∧ (evalOne s u).qids = s.qids ∧ (evalOne s u).cores =
    s.cores ∧ (evalOne s u).pups = s.pups ∧ (evalOne s u).objs = s.objs ∧ (evalOne s u).jobs = s.jobs ∧ (evalOne s
    u).slots = s.slots ∧ (evalOne s u).slotQ = s.slotQ ∧ (evalOne s u).coll = s.coll ∧ (evalOne s u).mem = s.mem ∧
    (evalOne s u).bad = s.bad ∧ (evalOne s u).errTimes = s.errTimes ∧ (evalOne s u).lostWin = s.lostWin ∧ (evalOne s
    u).aclk = s.aclk ∧ (evalOne s u).free = s.free := by
  unfold evalOne; dsimp only; (repeat' split) <;> simp
@[simp] theorem evalStarved_keeps (s : State) :
    (evalStarved s).pending = s.pending ∧ (evalStarved s).boot = s.boot ∧ (evalStarved s).nvm = s.nvm ∧ (evalStarved
    s).edits = s.edits ∧ (evalStarved s).ftu = s.ftu ∧ (evalStarved s).flt = s.flt ∧ (evalStarved s).sec = s.sec ∧
    (evalStarved s).crings = s.crings ∧ (evalStarved s).qrings = s.qrings ∧ (evalStarved s).qids = s.qids ∧
    (evalStarved s).cores = s.cores ∧ (evalStarved s).pups = s.pups ∧ (evalStarved s).objs = s.objs ∧ (evalStarved
    s).jobs = s.jobs ∧ (evalStarved s).slots = s.slots ∧ (evalStarved s).slotQ = s.slotQ ∧ (evalStarved s).coll =
    s.coll ∧ (evalStarved s).mem = s.mem ∧ (evalStarved s).bad = s.bad ∧ (evalStarved s).errTimes = s.errTimes ∧
    (evalStarved s).lostWin = s.lostWin ∧ (evalStarved s).aclk = s.aclk ∧ (evalStarved s).free = s.free := by
  simp [evalStarved]
@[simp] theorem evalDomain_keeps (s : State) (u : Nat) :
    (evalDomain s u).pending = s.pending ∧ (evalDomain s u).boot = s.boot ∧ (evalDomain s u).nvm = s.nvm ∧ (evalDomain
    s u).edits = s.edits ∧ (evalDomain s u).ftu = s.ftu ∧ (evalDomain s u).flt = s.flt ∧ (evalDomain s u).sec = s.sec
    ∧ (evalDomain s u).crings = s.crings ∧ (evalDomain s u).qrings = s.qrings ∧ (evalDomain s u).qids = s.qids ∧
    (evalDomain s u).cores = s.cores ∧ (evalDomain s u).pups = s.pups ∧ (evalDomain s u).objs = s.objs ∧ (evalDomain s
    u).jobs = s.jobs ∧ (evalDomain s u).slots = s.slots ∧ (evalDomain s u).slotQ = s.slotQ ∧ (evalDomain s u).coll =
    s.coll ∧ (evalDomain s u).mem = s.mem ∧ (evalDomain s u).bad = s.bad ∧ (evalDomain s u).errTimes = s.errTimes ∧
    (evalDomain s u).lostWin = s.lostWin ∧ (evalDomain s u).aclk = s.aclk ∧ (evalDomain s u).free = s.free := by
  simp [evalDomain]
@[simp] theorem evalCore_keeps (s : State) (n : Nat) :
    (evalCore s n).pending = s.pending ∧ (evalCore s n).boot = s.boot ∧ (evalCore s n).nvm = s.nvm ∧ (evalCore s
    n).edits = s.edits ∧ (evalCore s n).ftu = s.ftu ∧ (evalCore s n).flt = s.flt ∧ (evalCore s n).sec = s.sec ∧
    (evalCore s n).crings = s.crings ∧ (evalCore s n).qrings = s.qrings ∧ (evalCore s n).qids = s.qids ∧ (evalCore s
    n).cores = s.cores ∧ (evalCore s n).pups = s.pups ∧ (evalCore s n).objs = s.objs ∧ (evalCore s n).jobs = s.jobs ∧
    (evalCore s n).slots = s.slots ∧ (evalCore s n).slotQ = s.slotQ ∧ (evalCore s n).coll = s.coll ∧ (evalCore s
    n).mem = s.mem ∧ (evalCore s n).bad = s.bad ∧ (evalCore s n).errTimes = s.errTimes ∧ (evalCore s n).lostWin =
    s.lostWin ∧ (evalCore s n).aclk = s.aclk ∧ (evalCore s n).free = s.free := by
  simp [evalCore]
@[simp] theorem evalAll_keeps (s : State) :
    (evalAll s).pending = s.pending ∧ (evalAll s).boot = s.boot ∧ (evalAll s).nvm = s.nvm ∧ (evalAll s).edits =
    s.edits ∧ (evalAll s).ftu = s.ftu ∧ (evalAll s).flt = s.flt ∧ (evalAll s).sec = s.sec ∧ (evalAll s).crings =
    s.crings ∧ (evalAll s).qrings = s.qrings ∧ (evalAll s).qids = s.qids ∧ (evalAll s).cores = s.cores ∧ (evalAll
    s).pups = s.pups ∧ (evalAll s).objs = s.objs ∧ (evalAll s).jobs = s.jobs ∧ (evalAll s).slots = s.slots ∧ (evalAll
    s).slotQ = s.slotQ ∧ (evalAll s).coll = s.coll ∧ (evalAll s).mem = s.mem ∧ (evalAll s).bad = s.bad ∧ (evalAll
    s).errTimes = s.errTimes ∧ (evalAll s).lostWin = s.lostWin ∧ (evalAll s).aclk = s.aclk ∧ (evalAll s).free = s.free := by
  simp [evalAll]
@[simp] theorem evalBundle_keeps (s : State) (b : Nat) :
    (evalBundle s b).pending = s.pending ∧ (evalBundle s b).boot = s.boot ∧ (evalBundle s b).nvm = s.nvm ∧ (evalBundle
    s b).edits = s.edits ∧ (evalBundle s b).ftu = s.ftu ∧ (evalBundle s b).flt = s.flt ∧ (evalBundle s b).sec = s.sec
    ∧ (evalBundle s b).crings = s.crings ∧ (evalBundle s b).qrings = s.qrings ∧ (evalBundle s b).qids = s.qids ∧
    (evalBundle s b).cores = s.cores ∧ (evalBundle s b).pups = s.pups ∧ (evalBundle s b).objs = s.objs ∧ (evalBundle s
    b).jobs = s.jobs ∧ (evalBundle s b).slots = s.slots ∧ (evalBundle s b).slotQ = s.slotQ ∧ (evalBundle s b).coll =
    s.coll ∧ (evalBundle s b).mem = s.mem ∧ (evalBundle s b).bad = s.bad ∧ (evalBundle s b).errTimes = s.errTimes ∧
    (evalBundle s b).lostWin = s.lostWin ∧ (evalBundle s b).aclk = s.aclk ∧ (evalBundle s b).free = s.free := by
  simp [evalBundle]
@[simp] theorem releaseAlarm_keeps (s : State) (u : Nat) :
    (releaseAlarm s u).pending = s.pending ∧ (releaseAlarm s u).boot = s.boot ∧ (releaseAlarm s u).nvm = s.nvm ∧
    (releaseAlarm s u).edits = s.edits ∧ (releaseAlarm s u).ftu = s.ftu ∧ (releaseAlarm s u).flt = s.flt ∧
    (releaseAlarm s u).sec = s.sec ∧ (releaseAlarm s u).crings = s.crings ∧ (releaseAlarm s u).qrings = s.qrings ∧
    (releaseAlarm s u).qids = s.qids ∧ (releaseAlarm s u).cores = s.cores ∧ (releaseAlarm s u).pups = s.pups ∧
    (releaseAlarm s u).objs = s.objs ∧ (releaseAlarm s u).jobs = s.jobs ∧ (releaseAlarm s u).slots = s.slots ∧
    (releaseAlarm s u).slotQ = s.slotQ ∧ (releaseAlarm s u).coll = s.coll ∧ (releaseAlarm s u).mem = s.mem ∧
    (releaseAlarm s u).bad = s.bad ∧ (releaseAlarm s u).errTimes = s.errTimes ∧ (releaseAlarm s u).lostWin = s.lostWin
    ∧ (releaseAlarm s u).aclk = s.aclk ∧ (releaseAlarm s u).free = s.free := by
  unfold releaseAlarm; split <;> simp
@[simp] theorem evalAlarm_keeps (s : State) (k : Nat) :
    (evalAlarm s k).pending = s.pending ∧ (evalAlarm s k).boot = s.boot ∧ (evalAlarm s k).nvm = s.nvm ∧ (evalAlarm s
    k).edits = s.edits ∧ (evalAlarm s k).ftu = s.ftu ∧ (evalAlarm s k).flt = s.flt ∧ (evalAlarm s k).sec = s.sec ∧
    (evalAlarm s k).crings = s.crings ∧ (evalAlarm s k).qrings = s.qrings ∧ (evalAlarm s k).qids = s.qids ∧
    (evalAlarm s k).cores = s.cores ∧ (evalAlarm s k).pups = s.pups ∧ (evalAlarm s k).objs = s.objs ∧ (evalAlarm s
    k).jobs = s.jobs ∧ (evalAlarm s k).slots = s.slots ∧ (evalAlarm s k).slotQ = s.slotQ ∧ (evalAlarm s k).coll =
    s.coll ∧ (evalAlarm s k).mem = s.mem ∧ (evalAlarm s k).bad = s.bad ∧ (evalAlarm s k).errTimes = s.errTimes ∧
    (evalAlarm s k).lostWin = s.lostWin ∧ (evalAlarm s k).aclk = s.aclk ∧ (evalAlarm s k).free = s.free := by
  unfold evalAlarm; dsimp only; (repeat' split) <;> simp
@[simp] theorem startWake_keeps (s : State) (u : Nat) :
    (startWake s u).pending = s.pending ∧ (startWake s u).boot = s.boot ∧ (startWake s u).nvm = s.nvm ∧ (startWake s
    u).edits = s.edits ∧ (startWake s u).ftu = s.ftu ∧ (startWake s u).flt = s.flt ∧ (startWake s u).sec = s.sec ∧
    (startWake s u).crings = s.crings ∧ (startWake s u).qrings = s.qrings ∧ (startWake s u).qids = s.qids ∧ (startWake
    s u).cores = s.cores ∧ (startWake s u).pups = s.pups ∧ (startWake s u).objs = s.objs ∧ (startWake s u).jobs =
    s.jobs ∧ (startWake s u).slots = s.slots ∧ (startWake s u).slotQ = s.slotQ ∧ (startWake s u).coll = s.coll ∧
    (startWake s u).mem = s.mem ∧ (startWake s u).bad = s.bad ∧ (startWake s u).errTimes = s.errTimes ∧ (startWake s
    u).lostWin = s.lostWin ∧ (startWake s u).aclk = s.aclk ∧ (startWake s u).free = s.free := by
  simp [startWake]
@[simp] theorem demandWake_keeps (s : State) (u : Nat) :
    (demandWake s u).pending = s.pending ∧ (demandWake s u).boot = s.boot ∧ (demandWake s u).nvm = s.nvm ∧ (demandWake
    s u).edits = s.edits ∧ (demandWake s u).ftu = s.ftu ∧ (demandWake s u).flt = s.flt ∧ (demandWake s u).sec = s.sec
    ∧ (demandWake s u).crings = s.crings ∧ (demandWake s u).qrings = s.qrings ∧ (demandWake s u).qids = s.qids ∧
    (demandWake s u).cores = s.cores ∧ (demandWake s u).pups = s.pups ∧ (demandWake s u).objs = s.objs ∧ (demandWake s
    u).jobs = s.jobs ∧ (demandWake s u).slots = s.slots ∧ (demandWake s u).slotQ = s.slotQ ∧ (demandWake s u).coll =
    s.coll ∧ (demandWake s u).mem = s.mem ∧ (demandWake s u).bad = s.bad ∧ (demandWake s u).errTimes = s.errTimes ∧
    (demandWake s u).lostWin = s.lostWin ∧ (demandWake s u).aclk = s.aclk ∧ (demandWake s u).free = s.free := by
  simp [demandWake]

/-! ### Operations of Machine/Net -/

@[simp] theorem setBit_keeps (s : State) (d pool : Nat) :
    (setBit s d pool).pending = s.pending ∧ (setBit s d pool).boot = s.boot ∧ (setBit s d pool).nvm = s.nvm ∧
    (setBit s d pool).csr = s.csr ∧ (setBit s d pool).edits = s.edits ∧ (setBit s d pool).ftu = s.ftu ∧ (setBit s d
    pool).flt = s.flt ∧ (setBit s d pool).sec = s.sec ∧ (setBit s d pool).pwr = s.pwr ∧ (setBit s d pool).crings =
    s.crings ∧ (setBit s d pool).qrings = s.qrings ∧ (setBit s d pool).qids = s.qids ∧ (setBit s d pool).cores =
    s.cores ∧ (setBit s d pool).pups = s.pups ∧ (setBit s d pool).objs = s.objs ∧ (setBit s d pool).jobs = s.jobs ∧
    (setBit s d pool).slots = s.slots ∧ (setBit s d pool).slotQ = s.slotQ ∧ (setBit s d pool).coll = s.coll ∧
    (setBit s d pool).mem = s.mem ∧ (setBit s d pool).bad = s.bad ∧ (setBit s d pool).errTimes = s.errTimes ∧
    (setBit s d pool).lostWin = s.lostWin ∧ (setBit s d pool).aclk = s.aclk ∧ (setBit s d pool).out = s.out ∧
    (setBit s d pool).free = s.free := by
  simp [setBit]
@[simp] theorem clearBit_keeps (s : State) (k : Nat) :
    (clearBit s k).pending = s.pending ∧ (clearBit s k).boot = s.boot ∧ (clearBit s k).nvm = s.nvm ∧ (clearBit s
    k).csr = s.csr ∧ (clearBit s k).edits = s.edits ∧ (clearBit s k).ftu = s.ftu ∧ (clearBit s k).flt = s.flt ∧
    (clearBit s k).sec = s.sec ∧ (clearBit s k).pwr = s.pwr ∧ (clearBit s k).crings = s.crings ∧ (clearBit s
    k).qrings = s.qrings ∧ (clearBit s k).qids = s.qids ∧ (clearBit s k).cores = s.cores ∧ (clearBit s k).pups =
    s.pups ∧ (clearBit s k).objs = s.objs ∧ (clearBit s k).jobs = s.jobs ∧ (clearBit s k).slots = s.slots ∧
    (clearBit s k).slotQ = s.slotQ ∧ (clearBit s k).coll = s.coll ∧ (clearBit s k).mem = s.mem ∧ (clearBit s k).bad
    = s.bad ∧ (clearBit s k).errTimes = s.errTimes ∧ (clearBit s k).lostWin = s.lostWin ∧ (clearBit s k).aclk =
    s.aclk ∧ (clearBit s k).out = s.out ∧ (clearBit s k).free = s.free := by
  simp [clearBit]
@[simp] theorem takeBuf_keeps (s : State) (d r pool : Nat) :
    (takeBuf s d r pool).pending = s.pending ∧ (takeBuf s d r pool).boot = s.boot ∧ (takeBuf s d r pool).nvm = s.nvm
    ∧ (takeBuf s d r pool).edits = s.edits ∧ (takeBuf s d r pool).ftu = s.ftu ∧ (takeBuf s d r pool).flt = s.flt ∧
    (takeBuf s d r pool).sec = s.sec ∧ (takeBuf s d r pool).pwr = s.pwr ∧ (takeBuf s d r pool).crings = s.crings ∧
    (takeBuf s d r pool).qrings = s.qrings ∧ (takeBuf s d r pool).qids = s.qids ∧ (takeBuf s d r pool).cores =
    s.cores ∧ (takeBuf s d r pool).pups = s.pups ∧ (takeBuf s d r pool).objs = s.objs ∧ (takeBuf s d r pool).jobs =
    s.jobs ∧ (takeBuf s d r pool).slots = s.slots ∧ (takeBuf s d r pool).slotQ = s.slotQ ∧ (takeBuf s d r pool).coll
    = s.coll ∧ (takeBuf s d r pool).mem = s.mem ∧ (takeBuf s d r pool).bad = s.bad ∧ (takeBuf s d r pool).errTimes =
    s.errTimes ∧ (takeBuf s d r pool).lostWin = s.lostWin ∧ (takeBuf s d r pool).aclk = s.aclk ∧ (takeBuf s d r
    pool).out = s.out ∧ (takeBuf s d r pool).free = s.free := by
  simp [takeBuf]
@[simp] theorem giveBuf_keeps (s : State) (d r pool k : Nat) :
    (giveBuf s d r pool k).pending = s.pending ∧ (giveBuf s d r pool k).boot = s.boot ∧ (giveBuf s d r pool k).nvm =
    s.nvm ∧ (giveBuf s d r pool k).edits = s.edits ∧ (giveBuf s d r pool k).ftu = s.ftu ∧ (giveBuf s d r pool k).flt
    = s.flt ∧ (giveBuf s d r pool k).sec = s.sec ∧ (giveBuf s d r pool k).pwr = s.pwr ∧ (giveBuf s d r pool
    k).crings = s.crings ∧ (giveBuf s d r pool k).qrings = s.qrings ∧ (giveBuf s d r pool k).qids = s.qids ∧
    (giveBuf s d r pool k).cores = s.cores ∧ (giveBuf s d r pool k).pups = s.pups ∧ (giveBuf s d r pool k).objs =
    s.objs ∧ (giveBuf s d r pool k).jobs = s.jobs ∧ (giveBuf s d r pool k).slots = s.slots ∧ (giveBuf s d r pool
    k).slotQ = s.slotQ ∧ (giveBuf s d r pool k).coll = s.coll ∧ (giveBuf s d r pool k).mem = s.mem ∧ (giveBuf s d r
    pool k).bad = s.bad ∧ (giveBuf s d r pool k).errTimes = s.errTimes ∧ (giveBuf s d r pool k).lostWin = s.lostWin
    ∧ (giveBuf s d r pool k).aclk = s.aclk ∧ (giveBuf s d r pool k).out = s.out ∧ (giveBuf s d r pool k).free =
    s.free := by
  simp [giveBuf]
@[simp] theorem allocate_keeps (s : State) (d r pool : Nat) (credit : Option (Nat × Nat)) :
    ((allocate s d r pool credit).1).pending = s.pending ∧ ((allocate s d r pool credit).1).boot = s.boot ∧ ((allocate
    s d r pool credit).1).nvm = s.nvm ∧ ((allocate s d r pool credit).1).edits = s.edits ∧ ((allocate s d r pool
    credit).1).ftu = s.ftu ∧ ((allocate s d r pool credit).1).flt = s.flt ∧ ((allocate s d r pool credit).1).sec =
    s.sec ∧ ((allocate s d r pool credit).1).pwr = s.pwr ∧ ((allocate s d r pool credit).1).crings = s.crings ∧
    ((allocate s d r pool credit).1).qrings = s.qrings ∧ ((allocate s d r pool credit).1).qids = s.qids ∧ ((allocate s
    d r pool credit).1).cores = s.cores ∧ ((allocate s d r pool credit).1).pups = s.pups ∧ ((allocate s d r pool
    credit).1).objs = s.objs ∧ ((allocate s d r pool credit).1).jobs = s.jobs ∧ ((allocate s d r pool credit).1).slots
    = s.slots ∧ ((allocate s d r pool credit).1).slotQ = s.slotQ ∧ ((allocate s d r pool credit).1).coll = s.coll ∧
    ((allocate s d r pool credit).1).mem = s.mem ∧ ((allocate s d r pool credit).1).bad = s.bad ∧ ((allocate s d r
    pool credit).1).errTimes = s.errTimes ∧ ((allocate s d r pool credit).1).lostWin = s.lostWin ∧ ((allocate s d r
    pool credit).1).aclk = s.aclk ∧ ((allocate s d r pool credit).1).out = s.out ∧ ((allocate s d r pool
    credit).1).free = s.free := by
  unfold allocate; (repeat' split) <;> simp
@[simp] theorem creditOn_keeps (s : State) (p v pool : Nat) :
    (creditOn s p v pool).pending = s.pending ∧ (creditOn s p v pool).boot = s.boot ∧ (creditOn s p v pool).nvm =
    s.nvm ∧ (creditOn s p v pool).edits = s.edits ∧ (creditOn s p v pool).ftu = s.ftu ∧ (creditOn s p v pool).flt =
    s.flt ∧ (creditOn s p v pool).sec = s.sec ∧ (creditOn s p v pool).pwr = s.pwr ∧ (creditOn s p v pool).crings =
    s.crings ∧ (creditOn s p v pool).qrings = s.qrings ∧ (creditOn s p v pool).qids = s.qids ∧ (creditOn s p v
    pool).cores = s.cores ∧ (creditOn s p v pool).pups = s.pups ∧ (creditOn s p v pool).objs = s.objs ∧ (creditOn s
    p v pool).jobs = s.jobs ∧ (creditOn s p v pool).slots = s.slots ∧ (creditOn s p v pool).slotQ = s.slotQ ∧
    (creditOn s p v pool).coll = s.coll ∧ (creditOn s p v pool).mem = s.mem ∧ (creditOn s p v pool).bad = s.bad ∧
    (creditOn s p v pool).errTimes = s.errTimes ∧ (creditOn s p v pool).lostWin = s.lostWin ∧ (creditOn s p v
    pool).aclk = s.aclk ∧ (creditOn s p v pool).out = s.out ∧ (creditOn s p v pool).free = s.free := by
  unfold creditOn; split <;> simp
@[simp] theorem grantCredit_keeps (s : State) (p v pool : Nat) :
    (grantCredit s p v pool).pending = s.pending ∧ (grantCredit s p v pool).boot = s.boot ∧ (grantCredit s p v
    pool).nvm = s.nvm ∧ (grantCredit s p v pool).edits = s.edits ∧ (grantCredit s p v pool).ftu = s.ftu ∧
    (grantCredit s p v pool).flt = s.flt ∧ (grantCredit s p v pool).sec = s.sec ∧ (grantCredit s p v pool).pwr =
    s.pwr ∧ (grantCredit s p v pool).crings = s.crings ∧ (grantCredit s p v pool).qrings = s.qrings ∧ (grantCredit s
    p v pool).qids = s.qids ∧ (grantCredit s p v pool).cores = s.cores ∧ (grantCredit s p v pool).pups = s.pups ∧
    (grantCredit s p v pool).objs = s.objs ∧ (grantCredit s p v pool).jobs = s.jobs ∧ (grantCredit s p v pool).slots
    = s.slots ∧ (grantCredit s p v pool).slotQ = s.slotQ ∧ (grantCredit s p v pool).coll = s.coll ∧ (grantCredit s p
    v pool).mem = s.mem ∧ (grantCredit s p v pool).bad = s.bad ∧ (grantCredit s p v pool).errTimes = s.errTimes ∧
    (grantCredit s p v pool).lostWin = s.lostWin ∧ (grantCredit s p v pool).aclk = s.aclk ∧ (grantCredit s p v
    pool).out = s.out ∧ (grantCredit s p v pool).free = s.free := by
  unfold grantCredit; dsimp only
  split
  · simp
  · have h := allocate_keeps s (creditor p).1 (creditor p).2 pool (some (p, v))
    split <;> simp_all
@[simp] theorem returnDed_keeps (s : State) (p v twin : Nat) :
    (returnDed s p v twin).pending = s.pending ∧ (returnDed s p v twin).boot = s.boot ∧ (returnDed s p v twin).nvm =
    s.nvm ∧ (returnDed s p v twin).csr = s.csr ∧ (returnDed s p v twin).edits = s.edits ∧ (returnDed s p v twin).ftu
    = s.ftu ∧ (returnDed s p v twin).flt = s.flt ∧ (returnDed s p v twin).sec = s.sec ∧ (returnDed s p v twin).pwr =
    s.pwr ∧ (returnDed s p v twin).crings = s.crings ∧ (returnDed s p v twin).qrings = s.qrings ∧ (returnDed s p v
    twin).qids = s.qids ∧ (returnDed s p v twin).cores = s.cores ∧ (returnDed s p v twin).pups = s.pups ∧ (returnDed
    s p v twin).objs = s.objs ∧ (returnDed s p v twin).jobs = s.jobs ∧ (returnDed s p v twin).slots = s.slots ∧
    (returnDed s p v twin).slotQ = s.slotQ ∧ (returnDed s p v twin).coll = s.coll ∧ (returnDed s p v twin).mem =
    s.mem ∧ (returnDed s p v twin).bad = s.bad ∧ (returnDed s p v twin).errTimes = s.errTimes ∧ (returnDed s p v
    twin).lostWin = s.lostWin ∧ (returnDed s p v twin).aclk = s.aclk ∧ (returnDed s p v twin).out = s.out ∧
    (returnDed s p v twin).free = s.free := by
  simp [returnDed]
@[simp] theorem returnCredit_keeps (s : State) (p v twin code : Nat) :
    (returnCredit s p v twin code).pending = s.pending ∧ (returnCredit s p v twin code).boot = s.boot ∧
    (returnCredit s p v twin code).nvm = s.nvm ∧ (returnCredit s p v twin code).edits = s.edits ∧ (returnCredit s p
    v twin code).ftu = s.ftu ∧ (returnCredit s p v twin code).flt = s.flt ∧ (returnCredit s p v twin code).sec =
    s.sec ∧ (returnCredit s p v twin code).pwr = s.pwr ∧ (returnCredit s p v twin code).crings = s.crings ∧
    (returnCredit s p v twin code).qrings = s.qrings ∧ (returnCredit s p v twin code).qids = s.qids ∧ (returnCredit
    s p v twin code).cores = s.cores ∧ (returnCredit s p v twin code).pups = s.pups ∧ (returnCredit s p v twin
    code).objs = s.objs ∧ (returnCredit s p v twin code).jobs = s.jobs ∧ (returnCredit s p v twin code).slots =
    s.slots ∧ (returnCredit s p v twin code).slotQ = s.slotQ ∧ (returnCredit s p v twin code).coll = s.coll ∧
    (returnCredit s p v twin code).mem = s.mem ∧ (returnCredit s p v twin code).bad = s.bad ∧ (returnCredit s p v
    twin code).errTimes = s.errTimes ∧ (returnCredit s p v twin code).lostWin = s.lostWin ∧ (returnCredit s p v twin
    code).aclk = s.aclk ∧ (returnCredit s p v twin code).out = s.out ∧ (returnCredit s p v twin code).free = s.free
    := by
  unfold returnCredit; (repeat' split) <;> simp
@[simp] theorem withhold_keeps (s : State) (p v cause : Nat) :
    (withhold s p v cause).pending = s.pending ∧ (withhold s p v cause).boot = s.boot ∧ (withhold s p v cause).nvm =
    s.nvm ∧ (withhold s p v cause).edits = s.edits ∧ (withhold s p v cause).ftu = s.ftu ∧ (withhold s p v cause).flt =
    s.flt ∧ (withhold s p v cause).sec = s.sec ∧ (withhold s p v cause).pwr = s.pwr ∧ (withhold s p v cause).crings =
    s.crings ∧ (withhold s p v cause).qrings = s.qrings ∧ (withhold s p v cause).qids = s.qids ∧ (withhold s p v
    cause).cores = s.cores ∧ (withhold s p v cause).pups = s.pups ∧ (withhold s p v cause).objs = s.objs ∧ (withhold s
    p v cause).jobs = s.jobs ∧ (withhold s p v cause).slots = s.slots ∧ (withhold s p v cause).slotQ = s.slotQ ∧
    (withhold s p v cause).coll = s.coll ∧ (withhold s p v cause).mem = s.mem ∧ (withhold s p v cause).bad = s.bad ∧
    (withhold s p v cause).errTimes = s.errTimes ∧ (withhold s p v cause).lostWin = s.lostWin ∧ (withhold s p v
    cause).aclk = s.aclk ∧ (withhold s p v cause).out = s.out ∧ (withhold s p v cause).free = s.free := by
  simp [withhold]
@[simp] theorem releaseHold_keeps (s : State) (p v cause : Nat) :
    (releaseHold s p v cause).pending = s.pending ∧ (releaseHold s p v cause).boot = s.boot ∧ (releaseHold s p v
    cause).nvm = s.nvm ∧ (releaseHold s p v cause).csr = s.csr ∧ (releaseHold s p v cause).edits = s.edits ∧
    (releaseHold s p v cause).ftu = s.ftu ∧ (releaseHold s p v cause).flt = s.flt ∧ (releaseHold s p v cause).sec =
    s.sec ∧ (releaseHold s p v cause).pwr = s.pwr ∧ (releaseHold s p v cause).crings = s.crings ∧ (releaseHold s p v
    cause).qrings = s.qrings ∧ (releaseHold s p v cause).qids = s.qids ∧ (releaseHold s p v cause).cores = s.cores ∧
    (releaseHold s p v cause).pups = s.pups ∧ (releaseHold s p v cause).objs = s.objs ∧ (releaseHold s p v cause).jobs
    = s.jobs ∧ (releaseHold s p v cause).slots = s.slots ∧ (releaseHold s p v cause).slotQ = s.slotQ ∧ (releaseHold s
    p v cause).coll = s.coll ∧ (releaseHold s p v cause).mem = s.mem ∧ (releaseHold s p v cause).bad = s.bad ∧
    (releaseHold s p v cause).errTimes = s.errTimes ∧ (releaseHold s p v cause).lostWin = s.lostWin ∧ (releaseHold s p
    v cause).aclk = s.aclk ∧ (releaseHold s p v cause).out = s.out ∧ (releaseHold s p v cause).free = s.free := by
  simp [releaseHold]
@[simp] theorem settleHolds_keeps (s : State) (cause hold : Nat) :
    (settleHolds s cause hold).pending = s.pending ∧ (settleHolds s cause hold).boot = s.boot ∧ (settleHolds s cause
    hold).nvm = s.nvm ∧ (settleHolds s cause hold).csr = s.csr ∧ (settleHolds s cause hold).edits = s.edits ∧
    (settleHolds s cause hold).ftu = s.ftu ∧ (settleHolds s cause hold).flt = s.flt ∧ (settleHolds s cause hold).sec =
    s.sec ∧ (settleHolds s cause hold).pwr = s.pwr ∧ (settleHolds s cause hold).crings = s.crings ∧ (settleHolds s
    cause hold).qrings = s.qrings ∧ (settleHolds s cause hold).qids = s.qids ∧ (settleHolds s cause hold).cores =
    s.cores ∧ (settleHolds s cause hold).pups = s.pups ∧ (settleHolds s cause hold).objs = s.objs ∧ (settleHolds s
    cause hold).jobs = s.jobs ∧ (settleHolds s cause hold).slots = s.slots ∧ (settleHolds s cause hold).slotQ =
    s.slotQ ∧ (settleHolds s cause hold).coll = s.coll ∧ (settleHolds s cause hold).mem = s.mem ∧ (settleHolds s cause
    hold).bad = s.bad ∧ (settleHolds s cause hold).errTimes = s.errTimes ∧ (settleHolds s cause hold).lostWin =
    s.lostWin ∧ (settleHolds s cause hold).aclk = s.aclk ∧ (settleHolds s cause hold).out = s.out ∧ (settleHolds s
    cause hold).free = s.free := by
  simp [settleHolds]
@[simp] theorem countPkt_keeps (s : State) (p v dir bytes : Nat) :
    (countPkt s p v dir bytes).pending = s.pending ∧ (countPkt s p v dir bytes).boot = s.boot ∧ (countPkt s p v dir
    bytes).nvm = s.nvm ∧ (countPkt s p v dir bytes).edits = s.edits ∧ (countPkt s p v dir bytes).ftu = s.ftu ∧
    (countPkt s p v dir bytes).flt = s.flt ∧ (countPkt s p v dir bytes).sec = s.sec ∧ (countPkt s p v dir bytes).pwr =
    s.pwr ∧ (countPkt s p v dir bytes).crings = s.crings ∧ (countPkt s p v dir bytes).qrings = s.qrings ∧ (countPkt s
    p v dir bytes).qids = s.qids ∧ (countPkt s p v dir bytes).cores = s.cores ∧ (countPkt s p v dir bytes).pups =
    s.pups ∧ (countPkt s p v dir bytes).objs = s.objs ∧ (countPkt s p v dir bytes).jobs = s.jobs ∧ (countPkt s p v dir
    bytes).slots = s.slots ∧ (countPkt s p v dir bytes).slotQ = s.slotQ ∧ (countPkt s p v dir bytes).net = s.net ∧
    (countPkt s p v dir bytes).coll = s.coll ∧ (countPkt s p v dir bytes).mem = s.mem ∧ (countPkt s p v dir bytes).bad
    = s.bad ∧ (countPkt s p v dir bytes).errTimes = s.errTimes ∧ (countPkt s p v dir bytes).lostWin = s.lostWin ∧
    (countPkt s p v dir bytes).aclk = s.aclk ∧ (countPkt s p v dir bytes).out = s.out ∧ (countPkt s p v dir
    bytes).free = s.free := by
  simp [countPkt]
@[simp] theorem sendOut_keeps (s : State) (d input : Nat) (p : Packet) (owner : Option Nat) (dest : Dest) (injected : Bool) :
    (sendOut s d input p owner dest injected).pending = s.pending ∧ (sendOut s d input p owner dest injected).boot =
    s.boot ∧ (sendOut s d input p owner dest injected).nvm = s.nvm ∧ (sendOut s d input p owner dest injected).csr =
    s.csr ∧ (sendOut s d input p owner dest injected).edits = s.edits ∧ (sendOut s d input p owner dest injected).ftu
    = s.ftu ∧ (sendOut s d input p owner dest injected).flt = s.flt ∧ (sendOut s d input p owner dest injected).sec =
    s.sec ∧ (sendOut s d input p owner dest injected).pwr = s.pwr ∧ (sendOut s d input p owner dest injected).crings =
    s.crings ∧ (sendOut s d input p owner dest injected).qrings = s.qrings ∧ (sendOut s d input p owner dest
    injected).qids = s.qids ∧ (sendOut s d input p owner dest injected).cores = s.cores ∧ (sendOut s d input p owner
    dest injected).pups = s.pups ∧ (sendOut s d input p owner dest injected).objs = s.objs ∧ (sendOut s d input p
    owner dest injected).jobs = s.jobs ∧ (sendOut s d input p owner dest injected).slots = s.slots ∧ (sendOut s d
    input p owner dest injected).slotQ = s.slotQ ∧ (sendOut s d input p owner dest injected).coll = s.coll ∧ (sendOut
    s d input p owner dest injected).mem = s.mem ∧ (sendOut s d input p owner dest injected).bad = s.bad ∧ (sendOut s
    d input p owner dest injected).errTimes = s.errTimes ∧ (sendOut s d input p owner dest injected).lostWin =
    s.lostWin ∧ (sendOut s d input p owner dest injected).aclk = s.aclk ∧ (sendOut s d input p owner dest
    injected).out = s.out ∧ (sendOut s d input p owner dest injected).free = s.free := by
  simp [sendOut]
@[simp] theorem hubSend_keeps (s : State) (h : Hdr) (payload : List Byte) :
    (hubSend s h payload).pending = s.pending ∧ (hubSend s h payload).boot = s.boot ∧ (hubSend s h payload).nvm =
    s.nvm ∧ (hubSend s h payload).csr = s.csr ∧ (hubSend s h payload).edits = s.edits ∧ (hubSend s h payload).ftu =
    s.ftu ∧ (hubSend s h payload).flt = s.flt ∧ (hubSend s h payload).sec = s.sec ∧ (hubSend s h payload).pwr = s.pwr
    ∧ (hubSend s h payload).crings = s.crings ∧ (hubSend s h payload).qrings = s.qrings ∧ (hubSend s h payload).qids =
    s.qids ∧ (hubSend s h payload).cores = s.cores ∧ (hubSend s h payload).pups = s.pups ∧ (hubSend s h payload).objs
    = s.objs ∧ (hubSend s h payload).jobs = s.jobs ∧ (hubSend s h payload).slots = s.slots ∧ (hubSend s h
    payload).slotQ = s.slotQ ∧ (hubSend s h payload).coll = s.coll ∧ (hubSend s h payload).mem = s.mem ∧ (hubSend s h
    payload).bad = s.bad ∧ (hubSend s h payload).errTimes = s.errTimes ∧ (hubSend s h payload).lostWin = s.lostWin ∧
    (hubSend s h payload).aclk = s.aclk ∧ (hubSend s h payload).out = s.out ∧ (hubSend s h payload).free = s.free := by
  simp [hubSend]
@[simp] theorem linkLoss_keeps (s : State) (k : Nat) :
    (linkLoss s k).pending = s.pending ∧ (linkLoss s k).boot = s.boot ∧ (linkLoss s k).nvm = s.nvm ∧ (linkLoss s
    k).edits = s.edits ∧ (linkLoss s k).ftu = s.ftu ∧ (linkLoss s k).flt = s.flt ∧ (linkLoss s k).sec = s.sec ∧
    (linkLoss s k).pwr = s.pwr ∧ (linkLoss s k).crings = s.crings ∧ (linkLoss s k).qrings = s.qrings ∧ (linkLoss s
    k).qids = s.qids ∧ (linkLoss s k).cores = s.cores ∧ (linkLoss s k).pups = s.pups ∧ (linkLoss s k).objs = s.objs ∧
    (linkLoss s k).jobs = s.jobs ∧ (linkLoss s k).slots = s.slots ∧ (linkLoss s k).slotQ = s.slotQ ∧ (linkLoss s
    k).net = s.net ∧ (linkLoss s k).coll = s.coll ∧ (linkLoss s k).mem = s.mem ∧ (linkLoss s k).bad = s.bad ∧
    (linkLoss s k).errTimes = s.errTimes ∧ (linkLoss s k).lostWin = s.lostWin ∧ (linkLoss s k).aclk = s.aclk ∧
    (linkLoss s k).out = s.out ∧ (linkLoss s k).free = s.free := by
  simp [linkLoss]
@[simp] theorem streamPut_keeps (s : State) (d : Nat) (st : Stream) (c : Nat) :
    (streamPut s d st c).pending = s.pending ∧ (streamPut s d st c).boot = s.boot ∧ (streamPut s d st c).nvm = s.nvm ∧
    (streamPut s d st c).csr = s.csr ∧ (streamPut s d st c).edits = s.edits ∧ (streamPut s d st c).ftu = s.ftu ∧
    (streamPut s d st c).flt = s.flt ∧ (streamPut s d st c).sec = s.sec ∧ (streamPut s d st c).pwr = s.pwr ∧
    (streamPut s d st c).crings = s.crings ∧ (streamPut s d st c).qrings = s.qrings ∧ (streamPut s d st c).qids =
    s.qids ∧ (streamPut s d st c).cores = s.cores ∧ (streamPut s d st c).pups = s.pups ∧ (streamPut s d st c).objs =
    s.objs ∧ (streamPut s d st c).jobs = s.jobs ∧ (streamPut s d st c).slots = s.slots ∧ (streamPut s d st c).slotQ =
    s.slotQ ∧ (streamPut s d st c).coll = s.coll ∧ (streamPut s d st c).mem = s.mem ∧ (streamPut s d st c).bad = s.bad
    ∧ (streamPut s d st c).errTimes = s.errTimes ∧ (streamPut s d st c).lostWin = s.lostWin ∧ (streamPut s d st
    c).aclk = s.aclk ∧ (streamPut s d st c).out = s.out ∧ (streamPut s d st c).free = s.free := by
  simp [streamPut]
@[simp] theorem settleStream_keeps (s : State) (d : Nat) (st : Stream) :
    (settleStream s d st).pending = s.pending ∧ (settleStream s d st).boot = s.boot ∧ (settleStream s d st).nvm =
    s.nvm ∧ (settleStream s d st).csr = s.csr ∧ (settleStream s d st).edits = s.edits ∧ (settleStream s d st).ftu =
    s.ftu ∧ (settleStream s d st).flt = s.flt ∧ (settleStream s d st).sec = s.sec ∧ (settleStream s d st).pwr = s.pwr
    ∧ (settleStream s d st).crings = s.crings ∧ (settleStream s d st).qrings = s.qrings ∧ (settleStream s d st).qids =
    s.qids ∧ (settleStream s d st).cores = s.cores ∧ (settleStream s d st).pups = s.pups ∧ (settleStream s d st).objs
    = s.objs ∧ (settleStream s d st).jobs = s.jobs ∧ (settleStream s d st).slots = s.slots ∧ (settleStream s d
    st).slotQ = s.slotQ ∧ (settleStream s d st).coll = s.coll ∧ (settleStream s d st).mem = s.mem ∧ (settleStream s d
    st).bad = s.bad ∧ (settleStream s d st).errTimes = s.errTimes ∧ (settleStream s d st).lostWin = s.lostWin ∧
    (settleStream s d st).aclk = s.aclk ∧ (settleStream s d st).out = s.out ∧ (settleStream s d st).free = s.free := by
  unfold settleStream; split <;> simp
@[simp] theorem setSender_keeps (s : State) (x : SendStream) :
    (setSender s x).pending = s.pending ∧ (setSender s x).boot = s.boot ∧ (setSender s x).nvm = s.nvm ∧ (setSender s
    x).csr = s.csr ∧ (setSender s x).edits = s.edits ∧ (setSender s x).ftu = s.ftu ∧ (setSender s x).flt = s.flt ∧
    (setSender s x).sec = s.sec ∧ (setSender s x).pwr = s.pwr ∧ (setSender s x).crings = s.crings ∧ (setSender s
    x).qrings = s.qrings ∧ (setSender s x).qids = s.qids ∧ (setSender s x).cores = s.cores ∧ (setSender s x).pups =
    s.pups ∧ (setSender s x).objs = s.objs ∧ (setSender s x).jobs = s.jobs ∧ (setSender s x).slots = s.slots ∧
    (setSender s x).slotQ = s.slotQ ∧ (setSender s x).coll = s.coll ∧ (setSender s x).mem = s.mem ∧ (setSender s
    x).bad = s.bad ∧ (setSender s x).errTimes = s.errTimes ∧ (setSender s x).lostWin = s.lostWin ∧ (setSender s
    x).aclk = s.aclk ∧ (setSender s x).out = s.out ∧ (setSender s x).free = s.free := by
  simp [setSender]

/-! ### Operations of Machine/Jobs -/

@[simp] theorem jobComplete_keeps (s : State) (j : Nat) (c : Cpl) :
    (jobComplete s j c).pending = s.pending ∧ (jobComplete s j c).boot = s.boot ∧ (jobComplete s j c).nvm = s.nvm ∧
    (jobComplete s j c).edits = s.edits ∧ (jobComplete s j c).ftu = s.ftu ∧ (jobComplete s j c).flt = s.flt ∧
    (jobComplete s j c).sec = s.sec ∧ (jobComplete s j c).pwr = s.pwr ∧ (jobComplete s j c).crings = s.crings ∧
    (jobComplete s j c).qids = s.qids ∧ (jobComplete s j c).cores = s.cores ∧ (jobComplete s j c).pups = s.pups ∧
    (jobComplete s j c).jobs = s.jobs ∧ (jobComplete s j c).slots = s.slots ∧ (jobComplete s j c).slotQ = s.slotQ ∧
    (jobComplete s j c).net = s.net ∧ (jobComplete s j c).coll = s.coll ∧ (jobComplete s j c).mem = s.mem ∧
    (jobComplete s j c).bad = s.bad ∧ (jobComplete s j c).errTimes = s.errTimes ∧ (jobComplete s j c).lostWin =
    s.lostWin ∧ (jobComplete s j c).aclk = s.aclk ∧ (jobComplete s j c).free = s.free := by
  unfold jobComplete; split <;> simp
@[simp] theorem setQid_keeps (s : State) (k : Nat) (st kind id : Nat) (q : Qid) :
    (setQid s k st kind id q).pending = s.pending ∧ (setQid s k st kind id q).boot = s.boot ∧ (setQid s k st kind id
    q).nvm = s.nvm ∧ (setQid s k st kind id q).edits = s.edits ∧ (setQid s k st kind id q).ftu = s.ftu ∧ (setQid s k
    st kind id q).flt = s.flt ∧ (setQid s k st kind id q).sec = s.sec ∧ (setQid s k st kind id q).pwr = s.pwr ∧
    (setQid s k st kind id q).crings = s.crings ∧ (setQid s k st kind id q).qrings = s.qrings ∧ (setQid s k st kind id
    q).cores = s.cores ∧ (setQid s k st kind id q).pups = s.pups ∧ (setQid s k st kind id q).objs = s.objs ∧ (setQid s
    k st kind id q).jobs = s.jobs ∧ (setQid s k st kind id q).slots = s.slots ∧ (setQid s k st kind id q).slotQ =
    s.slotQ ∧ (setQid s k st kind id q).net = s.net ∧ (setQid s k st kind id q).coll = s.coll ∧ (setQid s k st kind id
    q).mem = s.mem ∧ (setQid s k st kind id q).bad = s.bad ∧ (setQid s k st kind id q).errTimes = s.errTimes ∧ (setQid
    s k st kind id q).lostWin = s.lostWin ∧ (setQid s k st kind id q).aclk = s.aclk ∧ (setQid s k st kind id q).out =
    s.out ∧ (setQid s k st kind id q).free = s.free := by
  simp [setQid]
@[simp] theorem clearQid_keeps (s : State) (k : Nat) :
    (clearQid s k).pending = s.pending ∧ (clearQid s k).boot = s.boot ∧ (clearQid s k).nvm = s.nvm ∧ (clearQid s
    k).edits = s.edits ∧ (clearQid s k).ftu = s.ftu ∧ (clearQid s k).flt = s.flt ∧ (clearQid s k).sec = s.sec ∧
    (clearQid s k).pwr = s.pwr ∧ (clearQid s k).crings = s.crings ∧ (clearQid s k).qrings = s.qrings ∧ (clearQid s
    k).cores = s.cores ∧ (clearQid s k).pups = s.pups ∧ (clearQid s k).objs = s.objs ∧ (clearQid s k).jobs = s.jobs ∧
    (clearQid s k).slots = s.slots ∧ (clearQid s k).slotQ = s.slotQ ∧ (clearQid s k).net = s.net ∧ (clearQid s k).coll
    = s.coll ∧ (clearQid s k).mem = s.mem ∧ (clearQid s k).bad = s.bad ∧ (clearQid s k).errTimes = s.errTimes ∧
    (clearQid s k).lostWin = s.lostWin ∧ (clearQid s k).aclk = s.aclk ∧ (clearQid s k).out = s.out ∧ (clearQid s
    k).free = s.free := by
  simp [clearQid]
@[simp] theorem stopAlarms_keeps (s : State) (l : List Nat) :
    (stopAlarms s l).pending = s.pending ∧ (stopAlarms s l).boot = s.boot ∧ (stopAlarms s l).nvm = s.nvm ∧
    (stopAlarms s l).edits = s.edits ∧ (stopAlarms s l).ftu = s.ftu ∧ (stopAlarms s l).flt = s.flt ∧ (stopAlarms s
    l).sec = s.sec ∧ (stopAlarms s l).crings = s.crings ∧ (stopAlarms s l).qrings = s.qrings ∧ (stopAlarms s l).qids
    = s.qids ∧ (stopAlarms s l).cores = s.cores ∧ (stopAlarms s l).pups = s.pups ∧ (stopAlarms s l).objs = s.objs ∧
    (stopAlarms s l).jobs = s.jobs ∧ (stopAlarms s l).slots = s.slots ∧ (stopAlarms s l).slotQ = s.slotQ ∧
    (stopAlarms s l).coll = s.coll ∧ (stopAlarms s l).mem = s.mem ∧ (stopAlarms s l).bad = s.bad ∧ (stopAlarms s
    l).errTimes = s.errTimes ∧ (stopAlarms s l).lostWin = s.lostWin ∧ (stopAlarms s l).aclk = s.aclk ∧ (stopAlarms s
    l).free = s.free := by
  simp [stopAlarms]
@[simp] theorem stopJobAlarms_keeps (s : State) (j : Nat) :
    (stopJobAlarms s j).pending = s.pending ∧ (stopJobAlarms s j).boot = s.boot ∧ (stopJobAlarms s j).nvm = s.nvm ∧
    (stopJobAlarms s j).edits = s.edits ∧ (stopJobAlarms s j).ftu = s.ftu ∧ (stopJobAlarms s j).flt = s.flt ∧
    (stopJobAlarms s j).sec = s.sec ∧ (stopJobAlarms s j).crings = s.crings ∧ (stopJobAlarms s j).qrings = s.qrings
    ∧ (stopJobAlarms s j).qids = s.qids ∧ (stopJobAlarms s j).cores = s.cores ∧ (stopJobAlarms s j).pups = s.pups ∧
    (stopJobAlarms s j).objs = s.objs ∧ (stopJobAlarms s j).jobs = s.jobs ∧ (stopJobAlarms s j).slots = s.slots ∧
    (stopJobAlarms s j).slotQ = s.slotQ ∧ (stopJobAlarms s j).coll = s.coll ∧ (stopJobAlarms s j).mem = s.mem ∧
    (stopJobAlarms s j).bad = s.bad ∧ (stopJobAlarms s j).errTimes = s.errTimes ∧ (stopJobAlarms s j).lostWin =
    s.lostWin ∧ (stopJobAlarms s j).aclk = s.aclk ∧ (stopJobAlarms s j).free = s.free := by
  simp [stopJobAlarms]
@[simp] theorem slotRoom_keeps (s : State) (k : Nat) :
    (slotRoom s k).pending = s.pending ∧ (slotRoom s k).boot = s.boot ∧ (slotRoom s k).nvm = s.nvm ∧ (slotRoom s
    k).csr = s.csr ∧ (slotRoom s k).edits = s.edits ∧ (slotRoom s k).ftu = s.ftu ∧ (slotRoom s k).flt = s.flt ∧
    (slotRoom s k).sec = s.sec ∧ (slotRoom s k).pwr = s.pwr ∧ (slotRoom s k).crings = s.crings ∧ (slotRoom s k).qrings
    = s.qrings ∧ (slotRoom s k).qids = s.qids ∧ (slotRoom s k).cores = s.cores ∧ (slotRoom s k).pups = s.pups ∧
    (slotRoom s k).objs = s.objs ∧ (slotRoom s k).jobs = s.jobs ∧ (slotRoom s k).slots = s.slots ∧ (slotRoom s
    k).slotQ = s.slotQ ∧ (slotRoom s k).coll = s.coll ∧ (slotRoom s k).mem = s.mem ∧ (slotRoom s k).bad = s.bad ∧
    (slotRoom s k).errTimes = s.errTimes ∧ (slotRoom s k).lostWin = s.lostWin ∧ (slotRoom s k).aclk = s.aclk ∧
    (slotRoom s k).out = s.out ∧ (slotRoom s k).free = s.free := by
  unfold slotRoom; simp
@[simp] theorem slotCredit_keeps (s : State) (k : Nat) :
    (slotCredit s k).pending = s.pending ∧ (slotCredit s k).boot = s.boot ∧ (slotCredit s k).nvm = s.nvm ∧
    (slotCredit s k).csr = s.csr ∧ (slotCredit s k).edits = s.edits ∧ (slotCredit s k).ftu = s.ftu ∧ (slotCredit s
    k).flt = s.flt ∧ (slotCredit s k).pwr = s.pwr ∧ (slotCredit s k).crings = s.crings ∧ (slotCredit s k).qrings =
    s.qrings ∧ (slotCredit s k).qids = s.qids ∧ (slotCredit s k).pups = s.pups ∧ (slotCredit s k).jobs = s.jobs ∧
    (slotCredit s k).slots = s.slots ∧ (slotCredit s k).slotQ = s.slotQ ∧ (slotCredit s k).mem = s.mem ∧ (slotCredit
    s k).bad = s.bad ∧ (slotCredit s k).errTimes = s.errTimes ∧ (slotCredit s k).lostWin = s.lostWin ∧ (slotCredit s
    k).aclk = s.aclk ∧ (slotCredit s k).out = s.out ∧ (slotCredit s k).free = s.free := by
  unfold slotCredit; dsimp only; (repeat' split) <;> simp
@[simp] theorem slotPop_keeps (s : State) (k : Nat) :
    (slotPop s k).pending = s.pending ∧ (slotPop s k).boot = s.boot ∧ (slotPop s k).nvm = s.nvm ∧ (slotPop s k).csr
    = s.csr ∧ (slotPop s k).edits = s.edits ∧ (slotPop s k).ftu = s.ftu ∧ (slotPop s k).flt = s.flt ∧ (slotPop s
    k).pwr = s.pwr ∧ (slotPop s k).crings = s.crings ∧ (slotPop s k).qrings = s.qrings ∧ (slotPop s k).qids = s.qids
    ∧ (slotPop s k).pups = s.pups ∧ (slotPop s k).jobs = s.jobs ∧ (slotPop s k).slots = s.slots ∧ (slotPop s k).mem
    = s.mem ∧ (slotPop s k).bad = s.bad ∧ (slotPop s k).errTimes = s.errTimes ∧ (slotPop s k).lostWin = s.lostWin ∧
    (slotPop s k).aclk = s.aclk ∧ (slotPop s k).out = s.out ∧ (slotPop s k).free = s.free := by
  simp [slotPop]
@[simp] theorem slotStepEnd_keeps (s : State) (k l : Nat) :
    (slotStepEnd s k l).pending = s.pending ∧ (slotStepEnd s k l).boot = s.boot ∧ (slotStepEnd s k l).nvm = s.nvm ∧
    (slotStepEnd s k l).csr = s.csr ∧ (slotStepEnd s k l).edits = s.edits ∧ (slotStepEnd s k l).ftu = s.ftu ∧
    (slotStepEnd s k l).flt = s.flt ∧ (slotStepEnd s k l).pwr = s.pwr ∧ (slotStepEnd s k l).crings = s.crings ∧
    (slotStepEnd s k l).qrings = s.qrings ∧ (slotStepEnd s k l).qids = s.qids ∧ (slotStepEnd s k l).pups = s.pups ∧
    (slotStepEnd s k l).jobs = s.jobs ∧ (slotStepEnd s k l).slots = s.slots ∧ (slotStepEnd s k l).mem = s.mem ∧
    (slotStepEnd s k l).bad = s.bad ∧ (slotStepEnd s k l).errTimes = s.errTimes ∧ (slotStepEnd s k l).lostWin =
    s.lostWin ∧ (slotStepEnd s k l).aclk = s.aclk ∧ (slotStepEnd s k l).out = s.out ∧ (slotStepEnd s k l).free =
    s.free := by
  unfold slotStepEnd; dsimp only; split <;> simp
@[simp] theorem voidQueues_keeps (s : State) (j : Nat) :
    (voidQueues s j).pending = s.pending ∧ (voidQueues s j).boot = s.boot ∧ (voidQueues s j).nvm = s.nvm ∧ (voidQueues
    s j).csr = s.csr ∧ (voidQueues s j).edits = s.edits ∧ (voidQueues s j).ftu = s.ftu ∧ (voidQueues s j).flt = s.flt
    ∧ (voidQueues s j).sec = s.sec ∧ (voidQueues s j).pwr = s.pwr ∧ (voidQueues s j).crings = s.crings ∧ (voidQueues s
    j).qrings = s.qrings ∧ (voidQueues s j).qids = s.qids ∧ (voidQueues s j).pups = s.pups ∧ (voidQueues s j).jobs =
    s.jobs ∧ (voidQueues s j).slots = s.slots ∧ (voidQueues s j).coll = s.coll ∧ (voidQueues s j).mem = s.mem ∧
    (voidQueues s j).bad = s.bad ∧ (voidQueues s j).errTimes = s.errTimes ∧ (voidQueues s j).lostWin = s.lostWin ∧
    (voidQueues s j).aclk = s.aclk ∧ (voidQueues s j).out = s.out ∧ (voidQueues s j).free = s.free := by
  unfold voidQueues; dsimp only; split
  · refine ⟨foldl_pending _ (by intros; simp) _ _,
      foldl_boot _ (by intros; simp) _ _,
      foldl_nvm _ (by intros; simp) _ _,
      foldl_csr _ (by intros; simp) _ _,
      foldl_edits _ (by intros; simp) _ _,
      foldl_ftu _ (by intros; simp) _ _,
      foldl_flt _ (by intros; simp) _ _,
      foldl_sec _ (by intros; simp) _ _,
      foldl_pwr _ (by intros; simp) _ _,
      foldl_crings _ (by intros; simp) _ _,
      foldl_qrings _ (by intros; simp) _ _,
      foldl_qids _ (by intros; simp) _ _,
      foldl_pups _ (by intros; simp) _ _,
      foldl_jobs _ (by intros; simp) _ _,
      foldl_slots _ (by intros; simp) _ _,
      foldl_coll _ (by intros; simp) _ _,
      foldl_mem _ (by intros; simp) _ _,
      foldl_bad _ (by intros; simp) _ _,
      foldl_errTimes _ (by intros; simp) _ _,
      foldl_lostWin _ (by intros; simp) _ _,
      foldl_aclk _ (by intros; simp) _ _,
      foldl_out _ (by intros; simp) _ _,
      foldl_free _ (by intros; simp) _ _⟩
  · refine ⟨(foldl_pending _ (by intros; simp) _ _).trans (foldl_pending _ (by intros; simp) _ _),
      (foldl_boot _ (by intros; simp) _ _).trans (foldl_boot _ (by intros; simp) _ _),
      (foldl_nvm _ (by intros; simp) _ _).trans (foldl_nvm _ (by intros; simp) _ _),
      (foldl_csr _ (by intros; simp) _ _).trans (foldl_csr _ (by intros; simp) _ _),
      (foldl_edits _ (by intros; simp) _ _).trans (foldl_edits _ (by intros; simp) _ _),
      (foldl_ftu _ (by intros; simp) _ _).trans (foldl_ftu _ (by intros; simp) _ _),
      (foldl_flt _ (by intros; simp) _ _).trans (foldl_flt _ (by intros; simp) _ _),
      (foldl_sec _ (by intros; simp) _ _).trans (foldl_sec _ (by intros; simp) _ _),
      (foldl_pwr _ (by intros; simp) _ _).trans (foldl_pwr _ (by intros; simp) _ _),
      (foldl_crings _ (by intros; simp) _ _).trans (foldl_crings _ (by intros; simp) _ _),
      (foldl_qrings _ (by intros; simp) _ _).trans (foldl_qrings _ (by intros; simp) _ _),
      (foldl_qids _ (by intros; simp) _ _).trans (foldl_qids _ (by intros; simp) _ _),
      (foldl_pups _ (by intros; simp) _ _).trans (foldl_pups _ (by intros; simp) _ _),
      (foldl_jobs _ (by intros; simp) _ _).trans (foldl_jobs _ (by intros; simp) _ _),
      (foldl_slots _ (by intros; simp) _ _).trans (foldl_slots _ (by intros; simp) _ _),
      (foldl_coll _ (by intros; simp) _ _).trans (foldl_coll _ (by intros; simp) _ _),
      (foldl_mem _ (by intros; simp) _ _).trans (foldl_mem _ (by intros; simp) _ _),
      (foldl_bad _ (by intros; simp) _ _).trans (foldl_bad _ (by intros; simp) _ _),
      (foldl_errTimes _ (by intros; simp) _ _).trans (foldl_errTimes _ (by intros; simp) _ _),
      (foldl_lostWin _ (by intros; simp) _ _).trans (foldl_lostWin _ (by intros; simp) _ _),
      (foldl_aclk _ (by intros; simp) _ _).trans (foldl_aclk _ (by intros; simp) _ _),
      (foldl_out _ (by intros; simp) _ _).trans (foldl_out _ (by intros; simp) _ _),
      (foldl_free _ (by intros; simp) _ _).trans (foldl_free _ (by intros; simp) _ _)⟩
@[simp] theorem coreState_keeps (s : State) (n v : Nat) :
    (coreState s n v).pending = s.pending ∧ (coreState s n v).boot = s.boot ∧ (coreState s n v).nvm = s.nvm ∧
    (coreState s n v).edits = s.edits ∧ (coreState s n v).ftu = s.ftu ∧ (coreState s n v).flt = s.flt ∧ (coreState s n
    v).sec = s.sec ∧ (coreState s n v).pwr = s.pwr ∧ (coreState s n v).crings = s.crings ∧ (coreState s n v).qrings =
    s.qrings ∧ (coreState s n v).qids = s.qids ∧ (coreState s n v).cores = s.cores ∧ (coreState s n v).pups = s.pups ∧
    (coreState s n v).objs = s.objs ∧ (coreState s n v).jobs = s.jobs ∧ (coreState s n v).slots = s.slots ∧ (coreState
    s n v).slotQ = s.slotQ ∧ (coreState s n v).net = s.net ∧ (coreState s n v).coll = s.coll ∧ (coreState s n v).mem =
    s.mem ∧ (coreState s n v).bad = s.bad ∧ (coreState s n v).errTimes = s.errTimes ∧ (coreState s n v).lostWin =
    s.lostWin ∧ (coreState s n v).aclk = s.aclk ∧ (coreState s n v).out = s.out ∧ (coreState s n v).free = s.free := by
  simp [coreState]
@[simp] theorem beginStep_keeps (s : State) (n e : Nat) (planned : Word) (slot : Nat) (token : Word) :
    (beginStep s n e planned slot token).pending = s.pending ∧ (beginStep s n e planned slot token).boot = s.boot ∧
    (beginStep s n e planned slot token).nvm = s.nvm ∧ (beginStep s n e planned slot token).edits = s.edits ∧
    (beginStep s n e planned slot token).ftu = s.ftu ∧ (beginStep s n e planned slot token).flt = s.flt ∧ (beginStep s
    n e planned slot token).sec = s.sec ∧ (beginStep s n e planned slot token).crings = s.crings ∧ (beginStep s n e
    planned slot token).qrings = s.qrings ∧ (beginStep s n e planned slot token).qids = s.qids ∧ (beginStep s n e
    planned slot token).pups = s.pups ∧ (beginStep s n e planned slot token).objs = s.objs ∧ (beginStep s n e planned
    slot token).jobs = s.jobs ∧ (beginStep s n e planned slot token).slots = s.slots ∧ (beginStep s n e planned slot
    token).slotQ = s.slotQ ∧ (beginStep s n e planned slot token).coll = s.coll ∧ (beginStep s n e planned slot
    token).mem = s.mem ∧ (beginStep s n e planned slot token).bad = s.bad ∧ (beginStep s n e planned slot
    token).errTimes = s.errTimes ∧ (beginStep s n e planned slot token).lostWin = s.lostWin ∧ (beginStep s n e planned
    slot token).aclk = s.aclk ∧ (beginStep s n e planned slot token).free = s.free := by
  unfold beginStep; split <;> simp
@[simp] theorem entryDue_keeps (s : State) (n e : Nat) (planned : Word) :
    (entryDue s n e planned).pending = s.pending ∧ (entryDue s n e planned).boot = s.boot ∧ (entryDue s n e
    planned).nvm = s.nvm ∧ (entryDue s n e planned).edits = s.edits ∧ (entryDue s n e planned).ftu = s.ftu ∧ (entryDue
    s n e planned).flt = s.flt ∧ (entryDue s n e planned).sec = s.sec ∧ (entryDue s n e planned).crings = s.crings ∧
    (entryDue s n e planned).qrings = s.qrings ∧ (entryDue s n e planned).qids = s.qids ∧ (entryDue s n e
    planned).pups = s.pups ∧ (entryDue s n e planned).objs = s.objs ∧ (entryDue s n e planned).jobs = s.jobs ∧
    (entryDue s n e planned).slots = s.slots ∧ (entryDue s n e planned).slotQ = s.slotQ ∧ (entryDue s n e
    planned).coll = s.coll ∧ (entryDue s n e planned).mem = s.mem ∧ (entryDue s n e planned).bad = s.bad ∧ (entryDue s
    n e planned).errTimes = s.errTimes ∧ (entryDue s n e planned).lostWin = s.lostWin ∧ (entryDue s n e planned).aclk
    = s.aclk ∧ (entryDue s n e planned).free = s.free := by
  simp [entryDue]
@[simp] theorem nextDue_keeps (s : State) (n : Nat) :
    (nextDue s n).pending = s.pending ∧ (nextDue s n).boot = s.boot ∧ (nextDue s n).nvm = s.nvm ∧ (nextDue s n).edits
    = s.edits ∧ (nextDue s n).ftu = s.ftu ∧ (nextDue s n).flt = s.flt ∧ (nextDue s n).sec = s.sec ∧ (nextDue s
    n).crings = s.crings ∧ (nextDue s n).qrings = s.qrings ∧ (nextDue s n).qids = s.qids ∧ (nextDue s n).pups = s.pups
    ∧ (nextDue s n).objs = s.objs ∧ (nextDue s n).jobs = s.jobs ∧ (nextDue s n).slots = s.slots ∧ (nextDue s n).slotQ
    = s.slotQ ∧ (nextDue s n).coll = s.coll ∧ (nextDue s n).mem = s.mem ∧ (nextDue s n).bad = s.bad ∧ (nextDue s
    n).errTimes = s.errTimes ∧ (nextDue s n).lostWin = s.lostWin ∧ (nextDue s n).aclk = s.aclk ∧ (nextDue s n).free =
    s.free := by
  unfold nextDue; split <;> simp
@[simp] theorem holdStart_keeps (s : State) (n : Nat) :
    (holdStart s n).pending = s.pending ∧ (holdStart s n).boot = s.boot ∧ (holdStart s n).nvm = s.nvm ∧ (holdStart s
    n).csr = s.csr ∧ (holdStart s n).edits = s.edits ∧ (holdStart s n).ftu = s.ftu ∧ (holdStart s n).flt = s.flt ∧
    (holdStart s n).sec = s.sec ∧ (holdStart s n).pwr = s.pwr ∧ (holdStart s n).crings = s.crings ∧ (holdStart s
    n).qrings = s.qrings ∧ (holdStart s n).qids = s.qids ∧ (holdStart s n).pups = s.pups ∧ (holdStart s n).objs =
    s.objs ∧ (holdStart s n).jobs = s.jobs ∧ (holdStart s n).slots = s.slots ∧ (holdStart s n).slotQ = s.slotQ ∧
    (holdStart s n).net = s.net ∧ (holdStart s n).coll = s.coll ∧ (holdStart s n).mem = s.mem ∧ (holdStart s n).bad
    = s.bad ∧ (holdStart s n).errTimes = s.errTimes ∧ (holdStart s n).lostWin = s.lostWin ∧ (holdStart s n).aclk =
    s.aclk ∧ (holdStart s n).out = s.out ∧ (holdStart s n).free = s.free := by
  unfold holdStart; dsimp only; split <;> simp
@[simp] theorem endStep_keeps (s : State) (n status cause : Nat) :
    (endStep s n status cause).pending = s.pending ∧ (endStep s n status cause).boot = s.boot ∧ (endStep s n status
    cause).nvm = s.nvm ∧ (endStep s n status cause).edits = s.edits ∧ (endStep s n status cause).ftu = s.ftu ∧
    (endStep s n status cause).flt = s.flt ∧ (endStep s n status cause).crings = s.crings ∧ (endStep s n status
    cause).qids = s.qids ∧ (endStep s n status cause).pups = s.pups ∧ (endStep s n status cause).jobs = s.jobs ∧
    (endStep s n status cause).slots = s.slots ∧ (endStep s n status cause).mem = s.mem ∧ (endStep s n status
    cause).bad = s.bad ∧ (endStep s n status cause).errTimes = s.errTimes ∧ (endStep s n status cause).lostWin =
    s.lostWin ∧ (endStep s n status cause).aclk = s.aclk ∧ (endStep s n status cause).free = s.free := by
  unfold endStep; dsimp only; (repeat' split) <;> simp
@[simp] theorem releaseStaging_keeps (s : State) (x : Launch) :
    (releaseStaging s x).pending = s.pending ∧ (releaseStaging s x).boot = s.boot ∧ (releaseStaging s x).nvm = s.nvm
    ∧ (releaseStaging s x).edits = s.edits ∧ (releaseStaging s x).ftu = s.ftu ∧ (releaseStaging s x).flt = s.flt ∧
    (releaseStaging s x).sec = s.sec ∧ (releaseStaging s x).pwr = s.pwr ∧ (releaseStaging s x).crings = s.crings ∧
    (releaseStaging s x).qrings = s.qrings ∧ (releaseStaging s x).qids = s.qids ∧ (releaseStaging s x).cores =
    s.cores ∧ (releaseStaging s x).pups = s.pups ∧ (releaseStaging s x).objs = s.objs ∧ (releaseStaging s x).jobs =
    s.jobs ∧ (releaseStaging s x).slots = s.slots ∧ (releaseStaging s x).slotQ = s.slotQ ∧ (releaseStaging s x).coll
    = s.coll ∧ (releaseStaging s x).mem = s.mem ∧ (releaseStaging s x).bad = s.bad ∧ (releaseStaging s x).errTimes =
    s.errTimes ∧ (releaseStaging s x).lostWin = s.lostWin ∧ (releaseStaging s x).aclk = s.aclk ∧ (releaseStaging s
    x).out = s.out ∧ (releaseStaging s x).free = s.free := by
  simp [releaseStaging]
@[simp] theorem lowerActive_keeps (s : State) (x : Launch) :
    (lowerActive s x).pending = s.pending ∧ (lowerActive s x).boot = s.boot ∧ (lowerActive s x).nvm = s.nvm ∧
    (lowerActive s x).edits = s.edits ∧ (lowerActive s x).ftu = s.ftu ∧ (lowerActive s x).flt = s.flt ∧ (lowerActive s
    x).sec = s.sec ∧ (lowerActive s x).pwr = s.pwr ∧ (lowerActive s x).crings = s.crings ∧ (lowerActive s x).qrings =
    s.qrings ∧ (lowerActive s x).qids = s.qids ∧ (lowerActive s x).cores = s.cores ∧ (lowerActive s x).pups = s.pups ∧
    (lowerActive s x).objs = s.objs ∧ (lowerActive s x).jobs = s.jobs ∧ (lowerActive s x).slots = s.slots ∧
    (lowerActive s x).slotQ = s.slotQ ∧ (lowerActive s x).net = s.net ∧ (lowerActive s x).coll = s.coll ∧ (lowerActive
    s x).mem = s.mem ∧ (lowerActive s x).bad = s.bad ∧ (lowerActive s x).errTimes = s.errTimes ∧ (lowerActive s
    x).lostWin = s.lostWin ∧ (lowerActive s x).aclk = s.aclk ∧ (lowerActive s x).out = s.out ∧ (lowerActive s x).free
    = s.free := by
  unfold lowerActive
  refine ⟨foldl_pending _ (by intros; simp) _ _,
    foldl_boot _ (by intros; simp) _ _,
    foldl_nvm _ (by intros; simp) _ _,
    foldl_edits _ (by intros; simp) _ _,
    foldl_ftu _ (by intros; simp) _ _,
    foldl_flt _ (by intros; simp) _ _,
    foldl_sec _ (by intros; simp) _ _,
    foldl_pwr _ (by intros; simp) _ _,
    foldl_crings _ (by intros; simp) _ _,
    foldl_qrings _ (by intros; simp) _ _,
    foldl_qids _ (by intros; simp) _ _,
    foldl_cores _ (by intros; simp) _ _,
    foldl_pups _ (by intros; simp) _ _,
    foldl_objs _ (by intros; simp) _ _,
    foldl_jobs _ (by intros; simp) _ _,
    foldl_slots _ (by intros; simp) _ _,
    foldl_slotQ _ (by intros; simp) _ _,
    foldl_net _ (by intros; simp) _ _,
    foldl_coll _ (by intros; simp) _ _,
    foldl_mem _ (by intros; simp) _ _,
    foldl_bad _ (by intros; simp) _ _,
    foldl_errTimes _ (by intros; simp) _ _,
    foldl_lostWin _ (by intros; simp) _ _,
    foldl_aclk _ (by intros; simp) _ _,
    foldl_out _ (by intros; simp) _ _,
    foldl_free _ (by intros; simp) _ _⟩
@[simp] theorem raiseActive_keeps (s : State) (x : Launch) :
    (raiseActive s x).pending = s.pending ∧ (raiseActive s x).boot = s.boot ∧ (raiseActive s x).nvm = s.nvm ∧
    (raiseActive s x).edits = s.edits ∧ (raiseActive s x).ftu = s.ftu ∧ (raiseActive s x).flt = s.flt ∧ (raiseActive s
    x).sec = s.sec ∧ (raiseActive s x).pwr = s.pwr ∧ (raiseActive s x).crings = s.crings ∧ (raiseActive s x).qrings =
    s.qrings ∧ (raiseActive s x).qids = s.qids ∧ (raiseActive s x).cores = s.cores ∧ (raiseActive s x).pups = s.pups ∧
    (raiseActive s x).objs = s.objs ∧ (raiseActive s x).jobs = s.jobs ∧ (raiseActive s x).slots = s.slots ∧
    (raiseActive s x).slotQ = s.slotQ ∧ (raiseActive s x).net = s.net ∧ (raiseActive s x).coll = s.coll ∧ (raiseActive
    s x).mem = s.mem ∧ (raiseActive s x).bad = s.bad ∧ (raiseActive s x).errTimes = s.errTimes ∧ (raiseActive s
    x).lostWin = s.lostWin ∧ (raiseActive s x).aclk = s.aclk ∧ (raiseActive s x).out = s.out ∧ (raiseActive s x).free
    = s.free := by
  unfold raiseActive
  refine ⟨foldl_pending _ (by intros; simp) _ _,
    foldl_boot _ (by intros; simp) _ _,
    foldl_nvm _ (by intros; simp) _ _,
    foldl_edits _ (by intros; simp) _ _,
    foldl_ftu _ (by intros; simp) _ _,
    foldl_flt _ (by intros; simp) _ _,
    foldl_sec _ (by intros; simp) _ _,
    foldl_pwr _ (by intros; simp) _ _,
    foldl_crings _ (by intros; simp) _ _,
    foldl_qrings _ (by intros; simp) _ _,
    foldl_qids _ (by intros; simp) _ _,
    foldl_cores _ (by intros; simp) _ _,
    foldl_pups _ (by intros; simp) _ _,
    foldl_objs _ (by intros; simp) _ _,
    foldl_jobs _ (by intros; simp) _ _,
    foldl_slots _ (by intros; simp) _ _,
    foldl_slotQ _ (by intros; simp) _ _,
    foldl_net _ (by intros; simp) _ _,
    foldl_coll _ (by intros; simp) _ _,
    foldl_mem _ (by intros; simp) _ _,
    foldl_bad _ (by intros; simp) _ _,
    foldl_errTimes _ (by intros; simp) _ _,
    foldl_lostWin _ (by intros; simp) _ _,
    foldl_aclk _ (by intros; simp) _ _,
    foldl_out _ (by intros; simp) _ _,
    foldl_free _ (by intros; simp) _ _⟩
@[simp] theorem countLaunches_keeps (s : State) (l : List Nat) :
    (l.foldl (fun s e => bump s (RED_CNT_LAUNCH e) RED_CNT_LAUNCH_COUNT 1) s).pending = s.pending ∧ (l.foldl (fun s e
    => bump s (RED_CNT_LAUNCH e) RED_CNT_LAUNCH_COUNT 1) s).boot = s.boot ∧ (l.foldl (fun s e => bump s
    (RED_CNT_LAUNCH e) RED_CNT_LAUNCH_COUNT 1) s).nvm = s.nvm ∧ (l.foldl (fun s e => bump s (RED_CNT_LAUNCH e)
    RED_CNT_LAUNCH_COUNT 1) s).edits = s.edits ∧ (l.foldl (fun s e => bump s (RED_CNT_LAUNCH e) RED_CNT_LAUNCH_COUNT
    1) s).ftu = s.ftu ∧ (l.foldl (fun s e => bump s (RED_CNT_LAUNCH e) RED_CNT_LAUNCH_COUNT 1) s).flt = s.flt ∧
    (l.foldl (fun s e => bump s (RED_CNT_LAUNCH e) RED_CNT_LAUNCH_COUNT 1) s).sec = s.sec ∧ (l.foldl (fun s e => bump
    s (RED_CNT_LAUNCH e) RED_CNT_LAUNCH_COUNT 1) s).pwr = s.pwr ∧ (l.foldl (fun s e => bump s (RED_CNT_LAUNCH e)
    RED_CNT_LAUNCH_COUNT 1) s).crings = s.crings ∧ (l.foldl (fun s e => bump s (RED_CNT_LAUNCH e) RED_CNT_LAUNCH_COUNT
    1) s).qrings = s.qrings ∧ (l.foldl (fun s e => bump s (RED_CNT_LAUNCH e) RED_CNT_LAUNCH_COUNT 1) s).qids = s.qids
    ∧ (l.foldl (fun s e => bump s (RED_CNT_LAUNCH e) RED_CNT_LAUNCH_COUNT 1) s).cores = s.cores ∧ (l.foldl (fun s e =>
    bump s (RED_CNT_LAUNCH e) RED_CNT_LAUNCH_COUNT 1) s).pups = s.pups ∧ (l.foldl (fun s e => bump s (RED_CNT_LAUNCH
    e) RED_CNT_LAUNCH_COUNT 1) s).objs = s.objs ∧ (l.foldl (fun s e => bump s (RED_CNT_LAUNCH e) RED_CNT_LAUNCH_COUNT
    1) s).jobs = s.jobs ∧ (l.foldl (fun s e => bump s (RED_CNT_LAUNCH e) RED_CNT_LAUNCH_COUNT 1) s).slots = s.slots ∧
    (l.foldl (fun s e => bump s (RED_CNT_LAUNCH e) RED_CNT_LAUNCH_COUNT 1) s).slotQ = s.slotQ ∧ (l.foldl (fun s e =>
    bump s (RED_CNT_LAUNCH e) RED_CNT_LAUNCH_COUNT 1) s).net = s.net ∧ (l.foldl (fun s e => bump s (RED_CNT_LAUNCH e)
    RED_CNT_LAUNCH_COUNT 1) s).coll = s.coll ∧ (l.foldl (fun s e => bump s (RED_CNT_LAUNCH e) RED_CNT_LAUNCH_COUNT 1)
    s).mem = s.mem ∧ (l.foldl (fun s e => bump s (RED_CNT_LAUNCH e) RED_CNT_LAUNCH_COUNT 1) s).bad = s.bad ∧ (l.foldl
    (fun s e => bump s (RED_CNT_LAUNCH e) RED_CNT_LAUNCH_COUNT 1) s).errTimes = s.errTimes ∧ (l.foldl (fun s e => bump
    s (RED_CNT_LAUNCH e) RED_CNT_LAUNCH_COUNT 1) s).lostWin = s.lostWin ∧ (l.foldl (fun s e => bump s (RED_CNT_LAUNCH
    e) RED_CNT_LAUNCH_COUNT 1) s).aclk = s.aclk ∧ (l.foldl (fun s e => bump s (RED_CNT_LAUNCH e) RED_CNT_LAUNCH_COUNT
    1) s).out = s.out ∧ (l.foldl (fun s e => bump s (RED_CNT_LAUNCH e) RED_CNT_LAUNCH_COUNT 1) s).free = s.free :=
  ⟨foldl_pending _ (by intros; rfl) _ _, foldl_boot _ (by intros; rfl) _ _, foldl_nvm _ (by intros; rfl) _ _, foldl_edits _ (by intros; rfl) _ _, foldl_ftu _ (by intros; rfl) _ _, foldl_flt _ (by intros; rfl) _ _, foldl_sec _ (by intros; rfl) _ _, foldl_pwr _ (by intros; rfl) _ _, foldl_crings _ (by intros; rfl) _ _, foldl_qrings _ (by intros; rfl) _ _, foldl_qids _ (by intros; rfl) _ _, foldl_cores _ (by intros; rfl) _ _, foldl_pups _ (by intros; rfl) _ _, foldl_objs _ (by intros; rfl) _ _, foldl_jobs _ (by intros; rfl) _ _, foldl_slots _ (by intros; rfl) _ _, foldl_slotQ _ (by intros; rfl) _ _, foldl_net _ (by intros; rfl) _ _, foldl_coll _ (by intros; rfl) _ _, foldl_mem _ (by intros; rfl) _ _, foldl_bad _ (by intros; rfl) _ _, foldl_errTimes _ (by intros; rfl) _ _, foldl_lostWin _ (by intros; rfl) _ _, foldl_aclk _ (by intros; rfl) _ _, foldl_out _ (by intros; rfl) _ _, foldl_free _ (by intros; rfl) _ _⟩
@[simp] theorem endLaunch_keeps (s : State) (l status : Nat) (quietErr : Bool) :
    (endLaunch s l status quietErr).pending = s.pending ∧ (endLaunch s l status quietErr).boot = s.boot ∧ (endLaunch
    s l status quietErr).nvm = s.nvm ∧ (endLaunch s l status quietErr).edits = s.edits ∧ (endLaunch s l status
    quietErr).ftu = s.ftu ∧ (endLaunch s l status quietErr).sec = s.sec ∧ (endLaunch s l status quietErr).pwr =
    s.pwr ∧ (endLaunch s l status quietErr).crings = s.crings ∧ (endLaunch s l status quietErr).qids = s.qids ∧
    (endLaunch s l status quietErr).cores = s.cores ∧ (endLaunch s l status quietErr).pups = s.pups ∧ (endLaunch s l
    status quietErr).jobs = s.jobs ∧ (endLaunch s l status quietErr).slots = s.slots ∧ (endLaunch s l status
    quietErr).slotQ = s.slotQ ∧ (endLaunch s l status quietErr).mem = s.mem ∧ (endLaunch s l status quietErr).bad =
    s.bad ∧ (endLaunch s l status quietErr).errTimes = s.errTimes ∧ (endLaunch s l status quietErr).lostWin =
    s.lostWin ∧ (endLaunch s l status quietErr).aclk = s.aclk ∧ (endLaunch s l status quietErr).free = s.free := by
  unfold endLaunch; dsimp only; (repeat' split) <;> simp
@[simp] theorem packetLeft_keeps (s : State) (owner : Option Nat) :
    (packetLeft s owner).pending = s.pending ∧ (packetLeft s owner).boot = s.boot ∧ (packetLeft s owner).nvm = s.nvm ∧
    (packetLeft s owner).csr = s.csr ∧ (packetLeft s owner).edits = s.edits ∧ (packetLeft s owner).ftu = s.ftu ∧
    (packetLeft s owner).flt = s.flt ∧ (packetLeft s owner).sec = s.sec ∧ (packetLeft s owner).pwr = s.pwr ∧
    (packetLeft s owner).crings = s.crings ∧ (packetLeft s owner).qrings = s.qrings ∧ (packetLeft s owner).qids =
    s.qids ∧ (packetLeft s owner).pups = s.pups ∧ (packetLeft s owner).objs = s.objs ∧ (packetLeft s owner).jobs =
    s.jobs ∧ (packetLeft s owner).slots = s.slots ∧ (packetLeft s owner).slotQ = s.slotQ ∧ (packetLeft s owner).mem =
    s.mem ∧ (packetLeft s owner).bad = s.bad ∧ (packetLeft s owner).errTimes = s.errTimes ∧ (packetLeft s
    owner).lostWin = s.lostWin ∧ (packetLeft s owner).aclk = s.aclk ∧ (packetLeft s owner).out = s.out ∧ (packetLeft s
    owner).free = s.free := by
  unfold packetLeft; dsimp only; (repeat' split) <;> simp
@[simp] theorem dropDue_keeps (s : State) (j : Nat) :
    (dropDue s j).pending = s.pending ∧ (dropDue s j).boot = s.boot ∧ (dropDue s j).nvm = s.nvm ∧ (dropDue s j).csr =
    s.csr ∧ (dropDue s j).edits = s.edits ∧ (dropDue s j).ftu = s.ftu ∧ (dropDue s j).flt = s.flt ∧ (dropDue s j).sec
    = s.sec ∧ (dropDue s j).pwr = s.pwr ∧ (dropDue s j).crings = s.crings ∧ (dropDue s j).qrings = s.qrings ∧ (dropDue
    s j).qids = s.qids ∧ (dropDue s j).pups = s.pups ∧ (dropDue s j).objs = s.objs ∧ (dropDue s j).jobs = s.jobs ∧
    (dropDue s j).slots = s.slots ∧ (dropDue s j).slotQ = s.slotQ ∧ (dropDue s j).net = s.net ∧ (dropDue s j).coll =
    s.coll ∧ (dropDue s j).mem = s.mem ∧ (dropDue s j).bad = s.bad ∧ (dropDue s j).errTimes = s.errTimes ∧ (dropDue s
    j).lostWin = s.lostWin ∧ (dropDue s j).aclk = s.aclk ∧ (dropDue s j).out = s.out ∧ (dropDue s j).free = s.free := by
  unfold dropDue
  dsimp only
  refine ⟨(foldl_pending _ (by intros; rfl) _ _), (foldl_boot _ (by intros; rfl) _ _), (foldl_nvm _ (by intros; rfl)
    _ _), (foldl_csr _ (by intros; rfl) _ _), (foldl_edits _ (by intros; rfl) _ _), (foldl_ftu _ (by intros; rfl) _
    _), (foldl_flt _ (by intros; rfl) _ _), (foldl_sec _ (by intros; rfl) _ _), (foldl_pwr _ (by intros; rfl) _ _),
    (foldl_crings _ (by intros; rfl) _ _), (foldl_qrings _ (by intros; rfl) _ _), (foldl_qids _ (by intros; rfl) _
    _), (foldl_pups _ (by intros; rfl) _ _), (foldl_objs _ (by intros; rfl) _ _), (foldl_jobs _ (by intros; rfl) _
    _), (foldl_slots _ (by intros; rfl) _ _), (foldl_slotQ _ (by intros; rfl) _ _), (foldl_net _ (by intros; rfl) _
    _), (foldl_coll _ (by intros; rfl) _ _), (foldl_mem _ (by intros; rfl) _ _), (foldl_bad _ (by intros; rfl) _ _),
    (foldl_errTimes _ (by intros; rfl) _ _), (foldl_lostWin _ (by intros; rfl) _ _), (foldl_aclk _ (by intros; rfl)
    _ _), (foldl_out _ (by intros; rfl) _ _), (foldl_free _ (by intros; rfl) _ _)⟩
@[simp] theorem endLaunches_keeps (s : State) (j status : Nat) :
    (endLaunches s j status).pending = s.pending ∧ (endLaunches s j status).boot = s.boot ∧ (endLaunches s j
    status).nvm = s.nvm ∧ (endLaunches s j status).edits = s.edits ∧ (endLaunches s j status).ftu = s.ftu ∧
    (endLaunches s j status).sec = s.sec ∧ (endLaunches s j status).pwr = s.pwr ∧ (endLaunches s j status).crings =
    s.crings ∧ (endLaunches s j status).qids = s.qids ∧ (endLaunches s j status).cores = s.cores ∧ (endLaunches s j
    status).pups = s.pups ∧ (endLaunches s j status).jobs = s.jobs ∧ (endLaunches s j status).slots = s.slots ∧
    (endLaunches s j status).slotQ = s.slotQ ∧ (endLaunches s j status).mem = s.mem ∧ (endLaunches s j status).bad =
    s.bad ∧ (endLaunches s j status).errTimes = s.errTimes ∧ (endLaunches s j status).lostWin = s.lostWin ∧
    (endLaunches s j status).aclk = s.aclk ∧ (endLaunches s j status).free = s.free := by
  simp [endLaunches]
@[simp] theorem stopSteps_keeps (s : State) (j cause : Nat) :
    (stopSteps s j cause).pending = s.pending ∧ (stopSteps s j cause).boot = s.boot ∧ (stopSteps s j cause).nvm =
    s.nvm ∧ (stopSteps s j cause).edits = s.edits ∧ (stopSteps s j cause).ftu = s.ftu ∧ (stopSteps s j cause).flt =
    s.flt ∧ (stopSteps s j cause).crings = s.crings ∧ (stopSteps s j cause).qids = s.qids ∧ (stopSteps s j
    cause).pups = s.pups ∧ (stopSteps s j cause).jobs = s.jobs ∧ (stopSteps s j cause).slots = s.slots ∧ (stopSteps
    s j cause).mem = s.mem ∧ (stopSteps s j cause).bad = s.bad ∧ (stopSteps s j cause).errTimes = s.errTimes ∧
    (stopSteps s j cause).lostWin = s.lostWin ∧ (stopSteps s j cause).aclk = s.aclk ∧ (stopSteps s j cause).free =
    s.free := by
  unfold stopSteps; dsimp only
  split <;> simp
@[simp] theorem stopJob_keeps (s : State) (j cause : Nat) :
    (stopJob s j cause).pending = s.pending ∧ (stopJob s j cause).boot = s.boot ∧ (stopJob s j cause).nvm = s.nvm ∧
    (stopJob s j cause).edits = s.edits ∧ (stopJob s j cause).ftu = s.ftu ∧ (stopJob s j cause).crings = s.crings ∧
    (stopJob s j cause).pups = s.pups ∧ (stopJob s j cause).jobs = s.jobs ∧ (stopJob s j cause).slots = s.slots ∧
    (stopJob s j cause).mem = s.mem ∧ (stopJob s j cause).bad = s.bad ∧ (stopJob s j cause).errTimes = s.errTimes ∧
    (stopJob s j cause).lostWin = s.lostWin ∧ (stopJob s j cause).aclk = s.aclk ∧ (stopJob s j cause).free = s.free
    := by
  have key : ∀ (t : State) (k b q : Nat) (c : Nat → Cpl),
      (complete (endLaunches (stopSteps (stopJobAlarms (dropDue t j) j) j cause) j b) q (c k)).pending = t.pending ∧
      (complete (endLaunches (stopSteps (stopJobAlarms (dropDue t j) j) j cause) j b) q (c k)).boot = t.boot ∧
      (complete (endLaunches (stopSteps (stopJobAlarms (dropDue t j) j) j cause) j b) q (c k)).nvm = t.nvm ∧
      (complete (endLaunches (stopSteps (stopJobAlarms (dropDue t j) j) j cause) j b) q (c k)).edits = t.edits ∧
      (complete (endLaunches (stopSteps (stopJobAlarms (dropDue t j) j) j cause) j b) q (c k)).ftu = t.ftu ∧
      (complete (endLaunches (stopSteps (stopJobAlarms (dropDue t j) j) j cause) j b) q (c k)).crings = t.crings ∧
      (complete (endLaunches (stopSteps (stopJobAlarms (dropDue t j) j) j cause) j b) q (c k)).pups = t.pups ∧
      (complete (endLaunches (stopSteps (stopJobAlarms (dropDue t j) j) j cause) j b) q (c k)).jobs = t.jobs ∧
      (complete (endLaunches (stopSteps (stopJobAlarms (dropDue t j) j) j cause) j b) q (c k)).slots = t.slots ∧
      (complete (endLaunches (stopSteps (stopJobAlarms (dropDue t j) j) j cause) j b) q (c k)).mem = t.mem ∧
      (complete (endLaunches (stopSteps (stopJobAlarms (dropDue t j) j) j cause) j b) q (c k)).bad = t.bad ∧
      (complete (endLaunches (stopSteps (stopJobAlarms (dropDue t j) j) j cause) j b) q (c k)).errTimes = t.errTimes
      ∧ (complete (endLaunches (stopSteps (stopJobAlarms (dropDue t j) j) j cause) j b) q (c k)).lostWin = t.lostWin
      ∧ (complete (endLaunches (stopSteps (stopJobAlarms (dropDue t j) j) j cause) j b) q (c k)).aclk = t.aclk ∧
      (complete (endLaunches (stopSteps (stopJobAlarms (dropDue t j) j) j cause) j b) q (c k)).free = t.free := by
    intros; simp
  unfold stopJob
  split
  · simp
  · dsimp only
    split
    · exact key s _ _ _ (fun k => cmdCpl 0xFF 0 (cause + k * 256) (BitVec.ofNat 16 j) 0x0E _)
    · split
      · rename_i k _
        have h := key (setQid s k 2 1 j ⟨0, 0, 0, [BitVec.ofNat 16 j], 0, true, 0, [], now s, []⟩)
        simp only [setQid_keeps] at h
        exact h _ _ _ (fun k => cmdCpl 0xFF 0 (cause + k * 256) (BitVec.ofNat 16 j) 0x0E _)
      · exact key s _ _ _ (fun k => cmdCpl 0xFF 0 (cause + k * 256) (BitVec.ofNat 16 j) 0x0E _)
@[simp] theorem jobFault_keeps (s : State) (src cause j : Nat) (detail : BitVec 32) :
    (jobFault s src cause j detail).pending = s.pending ∧ (jobFault s src cause j detail).boot = s.boot ∧ (jobFault
    s src cause j detail).nvm = s.nvm ∧ (jobFault s src cause j detail).edits = s.edits ∧ (jobFault s src cause j
    detail).ftu = s.ftu ∧ (jobFault s src cause j detail).crings = s.crings ∧ (jobFault s src cause j detail).pups =
    s.pups ∧ (jobFault s src cause j detail).jobs = s.jobs ∧ (jobFault s src cause j detail).slots = s.slots ∧
    (jobFault s src cause j detail).mem = s.mem ∧ (jobFault s src cause j detail).bad = s.bad ∧ (jobFault s src
    cause j detail).errTimes = s.errTimes ∧ (jobFault s src cause j detail).lostWin = s.lostWin ∧ (jobFault s src
    cause j detail).aclk = s.aclk ∧ (jobFault s src cause j detail).free = s.free := by
  simp [jobFault]
@[simp] theorem jobFaults_keeps (s : State) (src cause : Nat) (detail : BitVec 32) (l : List Nat) :
    (jobFaults s src cause detail l).pending = s.pending ∧ (jobFaults s src cause detail l).boot = s.boot ∧
    (jobFaults s src cause detail l).nvm = s.nvm ∧ (jobFaults s src cause detail l).edits = s.edits ∧ (jobFaults s
    src cause detail l).ftu = s.ftu ∧ (jobFaults s src cause detail l).crings = s.crings ∧ (jobFaults s src cause
    detail l).pups = s.pups ∧ (jobFaults s src cause detail l).jobs = s.jobs ∧ (jobFaults s src cause detail
    l).slots = s.slots ∧ (jobFaults s src cause detail l).mem = s.mem ∧ (jobFaults s src cause detail l).bad = s.bad
    ∧ (jobFaults s src cause detail l).errTimes = s.errTimes ∧ (jobFaults s src cause detail l).lostWin = s.lostWin
    ∧ (jobFaults s src cause detail l).aclk = s.aclk ∧ (jobFaults s src cause detail l).free = s.free := by
  simp [jobFaults]
/-! ### Operations of Machine/Alarms -/

@[simp] theorem rearm_keeps (s : State) (n : Nat) :
    (rearm s n).pending = s.pending ∧ (rearm s n).boot = s.boot ∧ (rearm s n).nvm = s.nvm ∧ (rearm s n).edits =
    s.edits ∧ (rearm s n).ftu = s.ftu ∧ (rearm s n).flt = s.flt ∧ (rearm s n).sec = s.sec ∧ (rearm s n).pwr = s.pwr ∧
    (rearm s n).crings = s.crings ∧ (rearm s n).qrings = s.qrings ∧ (rearm s n).qids = s.qids ∧ (rearm s n).cores =
    s.cores ∧ (rearm s n).pups = s.pups ∧ (rearm s n).objs = s.objs ∧ (rearm s n).jobs = s.jobs ∧ (rearm s n).slots =
    s.slots ∧ (rearm s n).slotQ = s.slotQ ∧ (rearm s n).net = s.net ∧ (rearm s n).coll = s.coll ∧ (rearm s n).mem =
    s.mem ∧ (rearm s n).bad = s.bad ∧ (rearm s n).errTimes = s.errTimes ∧ (rearm s n).lostWin = s.lostWin ∧ (rearm s
    n).aclk = s.aclk ∧ (rearm s n).out = s.out ∧ (rearm s n).free = s.free := by
  simp [rearm]
@[simp] theorem fireAlarm_keeps (s : State) (n : AlarmId) :
    (fireAlarm s n).pending = s.pending ∧ (fireAlarm s n).boot = s.boot ∧ (fireAlarm s n).nvm = s.nvm ∧ (fireAlarm s
    n).edits = s.edits ∧ (fireAlarm s n).flt = s.flt ∧ (fireAlarm s n).sec = s.sec ∧ (fireAlarm s n).crings =
    s.crings ∧ (fireAlarm s n).qrings = s.qrings ∧ (fireAlarm s n).qids = s.qids ∧ (fireAlarm s n).cores = s.cores ∧
    (fireAlarm s n).pups = s.pups ∧ (fireAlarm s n).objs = s.objs ∧ (fireAlarm s n).jobs = s.jobs ∧ (fireAlarm s
    n).slots = s.slots ∧ (fireAlarm s n).slotQ = s.slotQ ∧ (fireAlarm s n).coll = s.coll ∧ (fireAlarm s n).mem =
    s.mem ∧ (fireAlarm s n).bad = s.bad ∧ (fireAlarm s n).errTimes = s.errTimes ∧ (fireAlarm s n).lostWin =
    s.lostWin ∧ (fireAlarm s n).aclk = s.aclk ∧ (fireAlarm s n).free = s.free := by
  simp [fireAlarm]
@[simp] theorem restartList_keeps (t : Word) (s : State) (p : Nat) :
    (restartList t s p).pending = s.pending ∧ (restartList t s p).boot = s.boot ∧ (restartList t s p).nvm = s.nvm ∧
    (restartList t s p).edits = s.edits ∧ (restartList t s p).ftu = s.ftu ∧ (restartList t s p).flt = s.flt ∧
    (restartList t s p).sec = s.sec ∧ (restartList t s p).pwr = s.pwr ∧ (restartList t s p).crings = s.crings ∧
    (restartList t s p).qrings = s.qrings ∧ (restartList t s p).qids = s.qids ∧ (restartList t s p).cores = s.cores ∧
    (restartList t s p).pups = s.pups ∧ (restartList t s p).objs = s.objs ∧ (restartList t s p).jobs = s.jobs ∧
    (restartList t s p).slots = s.slots ∧ (restartList t s p).slotQ = s.slotQ ∧ (restartList t s p).coll = s.coll ∧
    (restartList t s p).mem = s.mem ∧ (restartList t s p).bad = s.bad ∧ (restartList t s p).errTimes = s.errTimes ∧
    (restartList t s p).lostWin = s.lostWin ∧ (restartList t s p).aclk = s.aclk ∧ (restartList t s p).out = s.out ∧
    (restartList t s p).free = s.free := by
  simp [restartList]
@[simp] theorem pupInterrupt_keeps (s : State) (p : PupId) :
    (pupInterrupt s p).pending = s.pending ∧ (pupInterrupt s p).boot = s.boot ∧ (pupInterrupt s p).nvm = s.nvm ∧
    (pupInterrupt s p).edits = s.edits ∧ (pupInterrupt s p).ftu = s.ftu ∧ (pupInterrupt s p).flt = s.flt ∧
    (pupInterrupt s p).sec = s.sec ∧ (pupInterrupt s p).pwr = s.pwr ∧ (pupInterrupt s p).crings = s.crings ∧
    (pupInterrupt s p).qrings = s.qrings ∧ (pupInterrupt s p).qids = s.qids ∧ (pupInterrupt s p).cores = s.cores ∧
    (pupInterrupt s p).objs = s.objs ∧ (pupInterrupt s p).jobs = s.jobs ∧ (pupInterrupt s p).slots = s.slots ∧
    (pupInterrupt s p).slotQ = s.slotQ ∧ (pupInterrupt s p).net = s.net ∧ (pupInterrupt s p).coll = s.coll ∧
    (pupInterrupt s p).mem = s.mem ∧ (pupInterrupt s p).bad = s.bad ∧ (pupInterrupt s p).errTimes = s.errTimes ∧
    (pupInterrupt s p).lostWin = s.lostWin ∧ (pupInterrupt s p).aclk = s.aclk ∧ (pupInterrupt s p).out = s.out := by
  unfold pupInterrupt; dsimp only; split <;> simp

/-! ### Operations of Machine/Rings -/

@[simp] theorem crError_keeps (s : State) (r : Nat) :
    (crError s r).pending = s.pending ∧ (crError s r).boot = s.boot ∧ (crError s r).nvm = s.nvm ∧ (crError s r).edits
    = s.edits ∧ (crError s r).ftu = s.ftu ∧ (crError s r).sec = s.sec ∧ (crError s r).pwr = s.pwr ∧ (crError s
    r).crings = s.crings ∧ (crError s r).qrings = s.qrings ∧ (crError s r).qids = s.qids ∧ (crError s r).cores =
    s.cores ∧ (crError s r).pups = s.pups ∧ (crError s r).objs = s.objs ∧ (crError s r).jobs = s.jobs ∧ (crError s
    r).slots = s.slots ∧ (crError s r).slotQ = s.slotQ ∧ (crError s r).net = s.net ∧ (crError s r).coll = s.coll ∧
    (crError s r).mem = s.mem ∧ (crError s r).bad = s.bad ∧ (crError s r).errTimes = s.errTimes ∧ (crError s
    r).lostWin = s.lostWin ∧ (crError s r).aclk = s.aclk ∧ (crError s r).free = s.free := by
  simp [crError]
@[simp] theorem qrError_keeps (s : State) (q : Nat) :
    (qrError s q).pending = s.pending ∧ (qrError s q).boot = s.boot ∧ (qrError s q).nvm = s.nvm ∧ (qrError s q).edits
    = s.edits ∧ (qrError s q).ftu = s.ftu ∧ (qrError s q).sec = s.sec ∧ (qrError s q).pwr = s.pwr ∧ (qrError s
    q).crings = s.crings ∧ (qrError s q).qrings = s.qrings ∧ (qrError s q).qids = s.qids ∧ (qrError s q).cores =
    s.cores ∧ (qrError s q).pups = s.pups ∧ (qrError s q).objs = s.objs ∧ (qrError s q).jobs = s.jobs ∧ (qrError s
    q).slots = s.slots ∧ (qrError s q).slotQ = s.slotQ ∧ (qrError s q).net = s.net ∧ (qrError s q).coll = s.coll ∧
    (qrError s q).mem = s.mem ∧ (qrError s q).bad = s.bad ∧ (qrError s q).errTimes = s.errTimes ∧ (qrError s
    q).lostWin = s.lostWin ∧ (qrError s q).aclk = s.aclk ∧ (qrError s q).free = s.free := by
  simp [qrError]
@[simp] theorem fetchPoint_keeps (s : State) (r : Nat) (t : Word) :
    (fetchPoint s r t).pending = s.pending ∧ (fetchPoint s r t).boot = s.boot ∧ (fetchPoint s r t).nvm = s.nvm ∧
    (fetchPoint s r t).csr = s.csr ∧ (fetchPoint s r t).edits = s.edits ∧ (fetchPoint s r t).ftu = s.ftu ∧ (fetchPoint
    s r t).flt = s.flt ∧ (fetchPoint s r t).sec = s.sec ∧ (fetchPoint s r t).pwr = s.pwr ∧ (fetchPoint s r t).qrings =
    s.qrings ∧ (fetchPoint s r t).qids = s.qids ∧ (fetchPoint s r t).cores = s.cores ∧ (fetchPoint s r t).pups =
    s.pups ∧ (fetchPoint s r t).objs = s.objs ∧ (fetchPoint s r t).jobs = s.jobs ∧ (fetchPoint s r t).slots = s.slots
    ∧ (fetchPoint s r t).slotQ = s.slotQ ∧ (fetchPoint s r t).net = s.net ∧ (fetchPoint s r t).coll = s.coll ∧
    (fetchPoint s r t).mem = s.mem ∧ (fetchPoint s r t).bad = s.bad ∧ (fetchPoint s r t).errTimes = s.errTimes ∧
    (fetchPoint s r t).lostWin = s.lostWin ∧ (fetchPoint s r t).aclk = s.aclk ∧ (fetchPoint s r t).out = s.out ∧
    (fetchPoint s r t).free = s.free := by
  unfold fetchPoint; dsimp only; (repeat' split) <;> simp
@[simp] theorem dropFetchAt_keeps (s : State) (r : Nat) :
    (dropFetchAt s r).pending = s.pending ∧ (dropFetchAt s r).boot = s.boot ∧ (dropFetchAt s r).nvm = s.nvm ∧
    (dropFetchAt s r).edits = s.edits ∧ (dropFetchAt s r).ftu = s.ftu ∧ (dropFetchAt s r).flt = s.flt ∧ (dropFetchAt s
    r).sec = s.sec ∧ (dropFetchAt s r).pwr = s.pwr ∧ (dropFetchAt s r).qrings = s.qrings ∧ (dropFetchAt s r).qids =
    s.qids ∧ (dropFetchAt s r).cores = s.cores ∧ (dropFetchAt s r).pups = s.pups ∧ (dropFetchAt s r).objs = s.objs ∧
    (dropFetchAt s r).jobs = s.jobs ∧ (dropFetchAt s r).slots = s.slots ∧ (dropFetchAt s r).slotQ = s.slotQ ∧
    (dropFetchAt s r).net = s.net ∧ (dropFetchAt s r).coll = s.coll ∧ (dropFetchAt s r).mem = s.mem ∧ (dropFetchAt s
    r).bad = s.bad ∧ (dropFetchAt s r).errTimes = s.errTimes ∧ (dropFetchAt s r).lostWin = s.lostWin ∧ (dropFetchAt s
    r).aclk = s.aclk ∧ (dropFetchAt s r).out = s.out ∧ (dropFetchAt s r).free = s.free := by
  unfold dropFetchAt; simp
@[simp] theorem fetchEnds_keeps (s : State) (r : Nat) :
    (fetchEnds s r).pending = s.pending ∧ (fetchEnds s r).boot = s.boot ∧ (fetchEnds s r).nvm = s.nvm ∧ (fetchEnds s
    r).csr = s.csr ∧ (fetchEnds s r).edits = s.edits ∧ (fetchEnds s r).ftu = s.ftu ∧ (fetchEnds s r).flt = s.flt ∧
    (fetchEnds s r).sec = s.sec ∧ (fetchEnds s r).pwr = s.pwr ∧ (fetchEnds s r).qrings = s.qrings ∧ (fetchEnds s
    r).qids = s.qids ∧ (fetchEnds s r).cores = s.cores ∧ (fetchEnds s r).pups = s.pups ∧ (fetchEnds s r).objs = s.objs
    ∧ (fetchEnds s r).jobs = s.jobs ∧ (fetchEnds s r).slots = s.slots ∧ (fetchEnds s r).slotQ = s.slotQ ∧ (fetchEnds s
    r).net = s.net ∧ (fetchEnds s r).coll = s.coll ∧ (fetchEnds s r).mem = s.mem ∧ (fetchEnds s r).bad = s.bad ∧
    (fetchEnds s r).errTimes = s.errTimes ∧ (fetchEnds s r).lostWin = s.lostWin ∧ (fetchEnds s r).aclk = s.aclk ∧
    (fetchEnds s r).out = s.out ∧ (fetchEnds s r).free = s.free := by
  unfold fetchEnds; simp
@[simp] theorem takeEntries_keeps (s : State) (r : Nat) (planned : Word) (avail : Nat) (entries : List (List Word)) :
    (takeEntries s r planned avail entries).pending = s.pending ∧ (takeEntries s r planned avail entries).boot =
    s.boot ∧ (takeEntries s r planned avail entries).nvm = s.nvm ∧ (takeEntries s r planned avail entries).edits =
    s.edits ∧ (takeEntries s r planned avail entries).ftu = s.ftu ∧ (takeEntries s r planned avail entries).flt =
    s.flt ∧ (takeEntries s r planned avail entries).sec = s.sec ∧ (takeEntries s r planned avail entries).pwr = s.pwr
    ∧ (takeEntries s r planned avail entries).qrings = s.qrings ∧ (takeEntries s r planned avail entries).qids =
    s.qids ∧ (takeEntries s r planned avail entries).cores = s.cores ∧ (takeEntries s r planned avail entries).pups =
    s.pups ∧ (takeEntries s r planned avail entries).objs = s.objs ∧ (takeEntries s r planned avail entries).jobs =
    s.jobs ∧ (takeEntries s r planned avail entries).slots = s.slots ∧ (takeEntries s r planned avail entries).slotQ =
    s.slotQ ∧ (takeEntries s r planned avail entries).net = s.net ∧ (takeEntries s r planned avail entries).coll =
    s.coll ∧ (takeEntries s r planned avail entries).mem = s.mem ∧ (takeEntries s r planned avail entries).bad = s.bad
    ∧ (takeEntries s r planned avail entries).errTimes = s.errTimes ∧ (takeEntries s r planned avail entries).lostWin
    = s.lostWin ∧ (takeEntries s r planned avail entries).aclk = s.aclk ∧ (takeEntries s r planned avail entries).free
    = s.free := by
  simp [takeEntries]
@[simp] theorem popEntry_keeps (s : State) (r : Nat) :
    (popEntry s r).pending = s.pending ∧ (popEntry s r).boot = s.boot ∧ (popEntry s r).nvm = s.nvm ∧ (popEntry s
    r).csr = s.csr ∧ (popEntry s r).edits = s.edits ∧ (popEntry s r).ftu = s.ftu ∧ (popEntry s r).flt = s.flt ∧
    (popEntry s r).sec = s.sec ∧ (popEntry s r).pwr = s.pwr ∧ (popEntry s r).qrings = s.qrings ∧ (popEntry s r).qids =
    s.qids ∧ (popEntry s r).cores = s.cores ∧ (popEntry s r).pups = s.pups ∧ (popEntry s r).objs = s.objs ∧ (popEntry
    s r).jobs = s.jobs ∧ (popEntry s r).slots = s.slots ∧ (popEntry s r).slotQ = s.slotQ ∧ (popEntry s r).net = s.net
    ∧ (popEntry s r).coll = s.coll ∧ (popEntry s r).mem = s.mem ∧ (popEntry s r).bad = s.bad ∧ (popEntry s r).errTimes
    = s.errTimes ∧ (popEntry s r).lostWin = s.lostWin ∧ (popEntry s r).aclk = s.aclk ∧ (popEntry s r).out = s.out ∧
    (popEntry s r).free = s.free := by
  simp [popEntry]
@[simp] theorem unpopEntry_keeps (s : State) (r : Nat) (e : CmdEntry) :
    (unpopEntry s r e).pending = s.pending ∧ (unpopEntry s r e).boot = s.boot ∧ (unpopEntry s r e).nvm = s.nvm ∧
    (unpopEntry s r e).csr = s.csr ∧ (unpopEntry s r e).edits = s.edits ∧ (unpopEntry s r e).ftu = s.ftu ∧ (unpopEntry
    s r e).flt = s.flt ∧ (unpopEntry s r e).sec = s.sec ∧ (unpopEntry s r e).pwr = s.pwr ∧ (unpopEntry s r e).qrings =
    s.qrings ∧ (unpopEntry s r e).qids = s.qids ∧ (unpopEntry s r e).cores = s.cores ∧ (unpopEntry s r e).pups =
    s.pups ∧ (unpopEntry s r e).objs = s.objs ∧ (unpopEntry s r e).jobs = s.jobs ∧ (unpopEntry s r e).slots = s.slots
    ∧ (unpopEntry s r e).slotQ = s.slotQ ∧ (unpopEntry s r e).net = s.net ∧ (unpopEntry s r e).coll = s.coll ∧
    (unpopEntry s r e).mem = s.mem ∧ (unpopEntry s r e).bad = s.bad ∧ (unpopEntry s r e).errTimes = s.errTimes ∧
    (unpopEntry s r e).lostWin = s.lostWin ∧ (unpopEntry s r e).aclk = s.aclk ∧ (unpopEntry s r e).out = s.out ∧
    (unpopEntry s r e).free = s.free := by
  simp [unpopEntry]
@[simp] theorem cmdDone_keeps (s : State) (r : Nat) (e : CmdEntry) (status detail : Nat) (serial : Bool) :
    (cmdDone s r e status detail serial).pending = s.pending ∧ (cmdDone s r e status detail serial).boot = s.boot ∧
    (cmdDone s r e status detail serial).nvm = s.nvm ∧ (cmdDone s r e status detail serial).edits = s.edits ∧ (cmdDone
    s r e status detail serial).ftu = s.ftu ∧ (cmdDone s r e status detail serial).flt = s.flt ∧ (cmdDone s r e status
    detail serial).sec = s.sec ∧ (cmdDone s r e status detail serial).pwr = s.pwr ∧ (cmdDone s r e status detail
    serial).crings = s.crings ∧ (cmdDone s r e status detail serial).qids = s.qids ∧ (cmdDone s r e status detail
    serial).cores = s.cores ∧ (cmdDone s r e status detail serial).pups = s.pups ∧ (cmdDone s r e status detail
    serial).jobs = s.jobs ∧ (cmdDone s r e status detail serial).slots = s.slots ∧ (cmdDone s r e status detail
    serial).slotQ = s.slotQ ∧ (cmdDone s r e status detail serial).net = s.net ∧ (cmdDone s r e status detail
    serial).coll = s.coll ∧ (cmdDone s r e status detail serial).mem = s.mem ∧ (cmdDone s r e status detail
    serial).bad = s.bad ∧ (cmdDone s r e status detail serial).errTimes = s.errTimes ∧ (cmdDone s r e status detail
    serial).lostWin = s.lostWin ∧ (cmdDone s r e status detail serial).aclk = s.aclk ∧ (cmdDone s r e status detail
    serial).free = s.free := by
  simp [cmdDone]
@[simp] theorem pollRing_keeps (s : State) (q : Nat) (head : BitVec 32) :
    (pollRing s q head).pending = s.pending ∧ (pollRing s q head).boot = s.boot ∧ (pollRing s q head).nvm = s.nvm ∧
    (pollRing s q head).edits = s.edits ∧ (pollRing s q head).ftu = s.ftu ∧ (pollRing s q head).sec = s.sec ∧
    (pollRing s q head).pwr = s.pwr ∧ (pollRing s q head).crings = s.crings ∧ (pollRing s q head).qids = s.qids ∧
    (pollRing s q head).cores = s.cores ∧ (pollRing s q head).pups = s.pups ∧ (pollRing s q head).jobs = s.jobs ∧
    (pollRing s q head).slots = s.slots ∧ (pollRing s q head).slotQ = s.slotQ ∧ (pollRing s q head).net = s.net ∧
    (pollRing s q head).coll = s.coll ∧ (pollRing s q head).mem = s.mem ∧ (pollRing s q head).bad = s.bad ∧ (pollRing
    s q head).errTimes = s.errTimes ∧ (pollRing s q head).lostWin = s.lostWin ∧ (pollRing s q head).aclk = s.aclk ∧
    (pollRing s q head).free = s.free := by
  simp [pollRing]

/-! ### Operations of Machine/Steps -/

@[simp] theorem completeStep_keeps (s : State) (n : Nat) :
    (completeStep s n).pending = s.pending ∧ (completeStep s n).boot = s.boot ∧ (completeStep s n).nvm = s.nvm ∧
    (completeStep s n).edits = s.edits ∧ (completeStep s n).ftu = s.ftu ∧ (completeStep s n).flt = s.flt ∧
    (completeStep s n).crings = s.crings ∧ (completeStep s n).qids = s.qids ∧ (completeStep s n).pups = s.pups ∧
    (completeStep s n).jobs = s.jobs ∧ (completeStep s n).slots = s.slots ∧ (completeStep s n).mem = s.mem ∧
    (completeStep s n).bad = s.bad ∧ (completeStep s n).errTimes = s.errTimes ∧ (completeStep s n).lostWin =
    s.lostWin ∧ (completeStep s n).aclk = s.aclk ∧ (completeStep s n).free = s.free := by
  unfold completeStep; dsimp only; (repeat' split) <;> simp
@[simp] theorem retryStep_keeps (s : State) (n : Nat) :
    (retryStep s n).pending = s.pending ∧ (retryStep s n).boot = s.boot ∧ (retryStep s n).nvm = s.nvm ∧ (retryStep s
    n).csr = s.csr ∧ (retryStep s n).edits = s.edits ∧ (retryStep s n).ftu = s.ftu ∧ (retryStep s n).flt = s.flt ∧
    (retryStep s n).pwr = s.pwr ∧ (retryStep s n).crings = s.crings ∧ (retryStep s n).qrings = s.qrings ∧ (retryStep s
    n).qids = s.qids ∧ (retryStep s n).pups = s.pups ∧ (retryStep s n).objs = s.objs ∧ (retryStep s n).jobs = s.jobs ∧
    (retryStep s n).slots = s.slots ∧ (retryStep s n).slotQ = s.slotQ ∧ (retryStep s n).net = s.net ∧ (retryStep s
    n).coll = s.coll ∧ (retryStep s n).mem = s.mem ∧ (retryStep s n).bad = s.bad ∧ (retryStep s n).errTimes =
    s.errTimes ∧ (retryStep s n).lostWin = s.lostWin ∧ (retryStep s n).aclk = s.aclk ∧ (retryStep s n).out = s.out ∧
    (retryStep s n).free = s.free := by
  unfold retryStep; split <;> simp
@[simp] theorem startSwap_keeps (s : State) (l : Nat) :
    (startSwap s l).pending = s.pending ∧ (startSwap s l).boot = s.boot ∧ (startSwap s l).nvm = s.nvm ∧ (startSwap s
    l).edits = s.edits ∧ (startSwap s l).ftu = s.ftu ∧ (startSwap s l).flt = s.flt ∧ (startSwap s l).sec = s.sec ∧
    (startSwap s l).crings = s.crings ∧ (startSwap s l).qrings = s.qrings ∧ (startSwap s l).qids = s.qids ∧
    (startSwap s l).pups = s.pups ∧ (startSwap s l).objs = s.objs ∧ (startSwap s l).jobs = s.jobs ∧ (startSwap s
    l).slots = s.slots ∧ (startSwap s l).slotQ = s.slotQ ∧ (startSwap s l).coll = s.coll ∧ (startSwap s l).mem =
    s.mem ∧ (startSwap s l).bad = s.bad ∧ (startSwap s l).errTimes = s.errTimes ∧ (startSwap s l).lostWin =
    s.lostWin ∧ (startSwap s l).aclk = s.aclk ∧ (startSwap s l).free = s.free := by
  unfold startSwap; dsimp only; (repeat' split) <;> simp
@[simp] theorem copyCore_keeps (s : State) (p q : Nat) :
    (copyCore s p q).pending = s.pending ∧ (copyCore s p q).boot = s.boot ∧ (copyCore s p q).nvm = s.nvm ∧ (copyCore s
    p q).csr = s.csr ∧ (copyCore s p q).edits = s.edits ∧ (copyCore s p q).ftu = s.ftu ∧ (copyCore s p q).flt = s.flt
    ∧ (copyCore s p q).sec = s.sec ∧ (copyCore s p q).pwr = s.pwr ∧ (copyCore s p q).crings = s.crings ∧ (copyCore s p
    q).qrings = s.qrings ∧ (copyCore s p q).qids = s.qids ∧ (copyCore s p q).pups = s.pups ∧ (copyCore s p q).objs =
    s.objs ∧ (copyCore s p q).jobs = s.jobs ∧ (copyCore s p q).slots = s.slots ∧ (copyCore s p q).slotQ = s.slotQ ∧
    (copyCore s p q).net = s.net ∧ (copyCore s p q).coll = s.coll ∧ (copyCore s p q).errTimes = s.errTimes ∧ (copyCore
    s p q).lostWin = s.lostWin ∧ (copyCore s p q).aclk = s.aclk ∧ (copyCore s p q).out = s.out ∧ (copyCore s p q).free
    = s.free := by
  simp [copyCore]
@[simp] theorem moveOps_keeps (s : State) (p q : Nat) :
    (moveOps s p q).pending = s.pending ∧ (moveOps s p q).boot = s.boot ∧ (moveOps s p q).nvm = s.nvm ∧ (moveOps s p
    q).csr = s.csr ∧ (moveOps s p q).edits = s.edits ∧ (moveOps s p q).ftu = s.ftu ∧ (moveOps s p q).flt = s.flt ∧
    (moveOps s p q).sec = s.sec ∧ (moveOps s p q).pwr = s.pwr ∧ (moveOps s p q).crings = s.crings ∧ (moveOps s p
    q).qrings = s.qrings ∧ (moveOps s p q).qids = s.qids ∧ (moveOps s p q).pups = s.pups ∧ (moveOps s p q).objs =
    s.objs ∧ (moveOps s p q).jobs = s.jobs ∧ (moveOps s p q).slots = s.slots ∧ (moveOps s p q).slotQ = s.slotQ ∧
    (moveOps s p q).net = s.net ∧ (moveOps s p q).coll = s.coll ∧ (moveOps s p q).mem = s.mem ∧ (moveOps s p q).bad =
    s.bad ∧ (moveOps s p q).errTimes = s.errTimes ∧ (moveOps s p q).lostWin = s.lostWin ∧ (moveOps s p q).aclk =
    s.aclk ∧ (moveOps s p q).out = s.out ∧ (moveOps s p q).free = s.free := by
  simp [moveOps]
@[simp] theorem dropTest_keeps (s : State) (u : Nat) :
    (dropTest s u).pending = s.pending ∧ (dropTest s u).boot = s.boot ∧ (dropTest s u).nvm = s.nvm ∧ (dropTest s
    u).csr = s.csr ∧ (dropTest s u).edits = s.edits ∧ (dropTest s u).ftu = s.ftu ∧ (dropTest s u).sec = s.sec ∧
    (dropTest s u).pwr = s.pwr ∧ (dropTest s u).crings = s.crings ∧ (dropTest s u).qrings = s.qrings ∧ (dropTest s
    u).qids = s.qids ∧ (dropTest s u).cores = s.cores ∧ (dropTest s u).pups = s.pups ∧ (dropTest s u).objs = s.objs ∧
    (dropTest s u).jobs = s.jobs ∧ (dropTest s u).slots = s.slots ∧ (dropTest s u).slotQ = s.slotQ ∧ (dropTest s
    u).net = s.net ∧ (dropTest s u).coll = s.coll ∧ (dropTest s u).mem = s.mem ∧ (dropTest s u).bad = s.bad ∧
    (dropTest s u).errTimes = s.errTimes ∧ (dropTest s u).lostWin = s.lostWin ∧ (dropTest s u).aclk = s.aclk ∧
    (dropTest s u).out = s.out ∧ (dropTest s u).free = s.free := by
  simp [dropTest]
@[simp] theorem setSpare_keeps (s : State) (c : Nat) (q : Option Nat) :
    (setSpare s c q).pending = s.pending ∧ (setSpare s c q).boot = s.boot ∧ (setSpare s c q).nvm = s.nvm ∧ (setSpare s
    c q).edits = s.edits ∧ (setSpare s c q).ftu = s.ftu ∧ (setSpare s c q).flt = s.flt ∧ (setSpare s c q).sec = s.sec
    ∧ (setSpare s c q).pwr = s.pwr ∧ (setSpare s c q).crings = s.crings ∧ (setSpare s c q).qrings = s.qrings ∧
    (setSpare s c q).qids = s.qids ∧ (setSpare s c q).cores = s.cores ∧ (setSpare s c q).pups = s.pups ∧ (setSpare s c
    q).objs = s.objs ∧ (setSpare s c q).jobs = s.jobs ∧ (setSpare s c q).slots = s.slots ∧ (setSpare s c q).slotQ =
    s.slotQ ∧ (setSpare s c q).net = s.net ∧ (setSpare s c q).coll = s.coll ∧ (setSpare s c q).mem = s.mem ∧ (setSpare
    s c q).bad = s.bad ∧ (setSpare s c q).errTimes = s.errTimes ∧ (setSpare s c q).lostWin = s.lostWin ∧ (setSpare s c
    q).aclk = s.aclk ∧ (setSpare s c q).out = s.out ∧ (setSpare s c q).free = s.free := by
  simp [setSpare]
@[simp] theorem becomeSpare_keeps (s : State) (n : Nat) :
    (becomeSpare s n).pending = s.pending ∧ (becomeSpare s n).boot = s.boot ∧ (becomeSpare s n).nvm = s.nvm ∧
    (becomeSpare s n).edits = s.edits ∧ (becomeSpare s n).ftu = s.ftu ∧ (becomeSpare s n).flt = s.flt ∧ (becomeSpare s
    n).sec = s.sec ∧ (becomeSpare s n).pwr = s.pwr ∧ (becomeSpare s n).crings = s.crings ∧ (becomeSpare s n).qrings =
    s.qrings ∧ (becomeSpare s n).qids = s.qids ∧ (becomeSpare s n).cores = s.cores ∧ (becomeSpare s n).pups = s.pups ∧
    (becomeSpare s n).objs = s.objs ∧ (becomeSpare s n).jobs = s.jobs ∧ (becomeSpare s n).slots = s.slots ∧
    (becomeSpare s n).slotQ = s.slotQ ∧ (becomeSpare s n).net = s.net ∧ (becomeSpare s n).coll = s.coll ∧ (becomeSpare
    s n).mem = s.mem ∧ (becomeSpare s n).bad = s.bad ∧ (becomeSpare s n).errTimes = s.errTimes ∧ (becomeSpare s
    n).lostWin = s.lostWin ∧ (becomeSpare s n).aclk = s.aclk ∧ (becomeSpare s n).out = s.out ∧ (becomeSpare s n).free
    = s.free := by
  simp [becomeSpare]
@[simp] theorem wakeTest_keeps (s : State) (n : Nat) :
    (wakeTest s n).pending = s.pending ∧ (wakeTest s n).boot = s.boot ∧ (wakeTest s n).nvm = s.nvm ∧ (wakeTest s
    n).edits = s.edits ∧ (wakeTest s n).ftu = s.ftu ∧ (wakeTest s n).sec = s.sec ∧ (wakeTest s n).pwr = s.pwr ∧
    (wakeTest s n).crings = s.crings ∧ (wakeTest s n).qrings = s.qrings ∧ (wakeTest s n).qids = s.qids ∧ (wakeTest s
    n).cores = s.cores ∧ (wakeTest s n).pups = s.pups ∧ (wakeTest s n).objs = s.objs ∧ (wakeTest s n).jobs = s.jobs ∧
    (wakeTest s n).slots = s.slots ∧ (wakeTest s n).slotQ = s.slotQ ∧ (wakeTest s n).net = s.net ∧ (wakeTest s n).coll
    = s.coll ∧ (wakeTest s n).mem = s.mem ∧ (wakeTest s n).bad = s.bad ∧ (wakeTest s n).errTimes = s.errTimes ∧
    (wakeTest s n).lostWin = s.lostWin ∧ (wakeTest s n).aclk = s.aclk ∧ (wakeTest s n).out = s.out ∧ (wakeTest s
    n).free = s.free := by
  simp [wakeTest]
/-! ### Operations of Machine/Kat -/

@[simp] theorem computeFp_keeps (s : State) :
    (computeFp s).pending = s.pending ∧ (computeFp s).boot = s.boot ∧ (computeFp s).nvm = s.nvm ∧ (computeFp s).edits
    = s.edits ∧ (computeFp s).ftu = s.ftu ∧ (computeFp s).flt = s.flt ∧ (computeFp s).pwr = s.pwr ∧ (computeFp
    s).crings = s.crings ∧ (computeFp s).qrings = s.qrings ∧ (computeFp s).qids = s.qids ∧ (computeFp s).cores =
    s.cores ∧ (computeFp s).pups = s.pups ∧ (computeFp s).objs = s.objs ∧ (computeFp s).jobs = s.jobs ∧ (computeFp
    s).slots = s.slots ∧ (computeFp s).slotQ = s.slotQ ∧ (computeFp s).net = s.net ∧ (computeFp s).coll = s.coll ∧
    (computeFp s).mem = s.mem ∧ (computeFp s).bad = s.bad ∧ (computeFp s).errTimes = s.errTimes ∧ (computeFp
    s).lostWin = s.lostWin ∧ (computeFp s).aclk = s.aclk ∧ (computeFp s).out = s.out ∧ (computeFp s).free = s.free := by
  simp [computeFp]
@[simp] theorem fpChanged_keeps (s : State) :
    (fpChanged s).pending = s.pending ∧ (fpChanged s).boot = s.boot ∧ (fpChanged s).nvm = s.nvm ∧ (fpChanged s).edits
    = s.edits ∧ (fpChanged s).ftu = s.ftu ∧ (fpChanged s).crings = s.crings ∧ (fpChanged s).pups = s.pups ∧ (fpChanged
    s).jobs = s.jobs ∧ (fpChanged s).slots = s.slots ∧ (fpChanged s).mem = s.mem ∧ (fpChanged s).bad = s.bad ∧
    (fpChanged s).errTimes = s.errTimes ∧ (fpChanged s).lostWin = s.lostWin ∧ (fpChanged s).aclk = s.aclk ∧ (fpChanged
    s).free = s.free := by
  simp [fpChanged]
@[simp] theorem loseCore_keeps (s : State) (n : Nat) :
    (loseCore s n).pending = s.pending ∧ (loseCore s n).boot = s.boot ∧ (loseCore s n).nvm = s.nvm ∧ (loseCore s
    n).edits = s.edits ∧ (loseCore s n).ftu = s.ftu ∧ (loseCore s n).crings = s.crings ∧ (loseCore s n).pups = s.pups
    ∧ (loseCore s n).jobs = s.jobs ∧ (loseCore s n).slots = s.slots ∧ (loseCore s n).mem = s.mem ∧ (loseCore s n).bad
    = s.bad ∧ (loseCore s n).errTimes = s.errTimes ∧ (loseCore s n).lostWin = s.lostWin ∧ (loseCore s n).aclk = s.aclk
    ∧ (loseCore s n).free = s.free := by
  unfold loseCore; dsimp only; (repeat' split) <;> simp
@[simp] theorem zeroCore_keeps (s : State) (n : Nat) :
    (zeroCore s n).pending = s.pending ∧ (zeroCore s n).boot = s.boot ∧ (zeroCore s n).nvm = s.nvm ∧ (zeroCore s
    n).csr = s.csr ∧ (zeroCore s n).edits = s.edits ∧ (zeroCore s n).ftu = s.ftu ∧ (zeroCore s n).flt = s.flt ∧
    (zeroCore s n).sec = s.sec ∧ (zeroCore s n).pwr = s.pwr ∧ (zeroCore s n).crings = s.crings ∧ (zeroCore s n).qrings
    = s.qrings ∧ (zeroCore s n).qids = s.qids ∧ (zeroCore s n).pups = s.pups ∧ (zeroCore s n).objs = s.objs ∧
    (zeroCore s n).jobs = s.jobs ∧ (zeroCore s n).slots = s.slots ∧ (zeroCore s n).slotQ = s.slotQ ∧ (zeroCore s
    n).net = s.net ∧ (zeroCore s n).coll = s.coll ∧ (zeroCore s n).errTimes = s.errTimes ∧ (zeroCore s n).lostWin =
    s.lostWin ∧ (zeroCore s n).aclk = s.aclk ∧ (zeroCore s n).out = s.out ∧ (zeroCore s n).free = s.free := by
  simp [zeroCore]
@[simp] theorem setPassed_keeps (s : State) (n : Nat) :
    (setPassed s n).pending = s.pending ∧ (setPassed s n).boot = s.boot ∧ (setPassed s n).nvm = s.nvm ∧ (setPassed s
    n).csr = s.csr ∧ (setPassed s n).edits = s.edits ∧ (setPassed s n).ftu = s.ftu ∧ (setPassed s n).sec = s.sec ∧
    (setPassed s n).pwr = s.pwr ∧ (setPassed s n).crings = s.crings ∧ (setPassed s n).qrings = s.qrings ∧ (setPassed
    s n).qids = s.qids ∧ (setPassed s n).cores = s.cores ∧ (setPassed s n).pups = s.pups ∧ (setPassed s n).objs =
    s.objs ∧ (setPassed s n).jobs = s.jobs ∧ (setPassed s n).slots = s.slots ∧ (setPassed s n).slotQ = s.slotQ ∧
    (setPassed s n).net = s.net ∧ (setPassed s n).coll = s.coll ∧ (setPassed s n).mem = s.mem ∧ (setPassed s n).bad
    = s.bad ∧ (setPassed s n).errTimes = s.errTimes ∧ (setPassed s n).lostWin = s.lostWin ∧ (setPassed s n).aclk =
    s.aclk ∧ (setPassed s n).out = s.out ∧ (setPassed s n).free = s.free := by
  simp [setPassed]
@[simp] theorem observe_keeps (s : State) (u : Nat) :
    (observe s u).pending = s.pending ∧ (observe s u).boot = s.boot ∧ (observe s u).nvm = s.nvm ∧ (observe s u).csr =
    s.csr ∧ (observe s u).edits = s.edits ∧ (observe s u).ftu = s.ftu ∧ (observe s u).sec = s.sec ∧ (observe s u).pwr
    = s.pwr ∧ (observe s u).crings = s.crings ∧ (observe s u).qrings = s.qrings ∧ (observe s u).qids = s.qids ∧
    (observe s u).cores = s.cores ∧ (observe s u).pups = s.pups ∧ (observe s u).objs = s.objs ∧ (observe s u).jobs =
    s.jobs ∧ (observe s u).slots = s.slots ∧ (observe s u).slotQ = s.slotQ ∧ (observe s u).net = s.net ∧ (observe s
    u).coll = s.coll ∧ (observe s u).mem = s.mem ∧ (observe s u).bad = s.bad ∧ (observe s u).errTimes = s.errTimes ∧
    (observe s u).lostWin = s.lostWin ∧ (observe s u).aclk = s.aclk ∧ (observe s u).out = s.out ∧ (observe s u).free =
    s.free := by
  simp [observe]
@[simp] theorem lastFence_keeps (s : State) (u : Nat) :
    (lastFence s u).pending = s.pending ∧ (lastFence s u).boot = s.boot ∧ (lastFence s u).nvm = s.nvm ∧ (lastFence s
    u).csr = s.csr ∧ (lastFence s u).edits = s.edits ∧ (lastFence s u).ftu = s.ftu ∧ (lastFence s u).sec = s.sec ∧
    (lastFence s u).pwr = s.pwr ∧ (lastFence s u).crings = s.crings ∧ (lastFence s u).qrings = s.qrings ∧ (lastFence s
    u).qids = s.qids ∧ (lastFence s u).cores = s.cores ∧ (lastFence s u).pups = s.pups ∧ (lastFence s u).objs = s.objs
    ∧ (lastFence s u).jobs = s.jobs ∧ (lastFence s u).slots = s.slots ∧ (lastFence s u).slotQ = s.slotQ ∧ (lastFence s
    u).net = s.net ∧ (lastFence s u).coll = s.coll ∧ (lastFence s u).mem = s.mem ∧ (lastFence s u).bad = s.bad ∧
    (lastFence s u).errTimes = s.errTimes ∧ (lastFence s u).lostWin = s.lostWin ∧ (lastFence s u).aclk = s.aclk ∧
    (lastFence s u).out = s.out ∧ (lastFence s u).free = s.free := by
  simp [lastFence]
@[simp] theorem noSwap_keeps (s : State) (n : Nat) :
    (noSwap s n).pending = s.pending ∧ (noSwap s n).boot = s.boot ∧ (noSwap s n).nvm = s.nvm ∧ (noSwap s n).edits =
    s.edits ∧ (noSwap s n).ftu = s.ftu ∧ (noSwap s n).crings = s.crings ∧ (noSwap s n).pups = s.pups ∧ (noSwap s
    n).jobs = s.jobs ∧ (noSwap s n).slots = s.slots ∧ (noSwap s n).errTimes = s.errTimes ∧ (noSwap s n).lostWin =
    s.lostWin ∧ (noSwap s n).aclk = s.aclk ∧ (noSwap s n).free = s.free := by
  unfold noSwap; dsimp only; (repeat' split) <;> simp
@[simp] theorem spareGone_keeps (s : State) (c : Nat) :
    (spareGone s c).pending = s.pending ∧ (spareGone s c).boot = s.boot ∧ (spareGone s c).nvm = s.nvm ∧ (spareGone s
    c).edits = s.edits ∧ (spareGone s c).ftu = s.ftu ∧ (spareGone s c).crings = s.crings ∧ (spareGone s c).pups =
    s.pups ∧ (spareGone s c).jobs = s.jobs ∧ (spareGone s c).slots = s.slots ∧ (spareGone s c).errTimes = s.errTimes
    ∧ (spareGone s c).lostWin = s.lostWin ∧ (spareGone s c).aclk = s.aclk ∧ (spareGone s c).free = s.free := by
  simp [spareGone]
@[simp] theorem leaveSpare_keeps (s : State) (n : Nat) :
    (leaveSpare s n).pending = s.pending ∧ (leaveSpare s n).boot = s.boot ∧ (leaveSpare s n).nvm = s.nvm ∧
    (leaveSpare s n).edits = s.edits ∧ (leaveSpare s n).ftu = s.ftu ∧ (leaveSpare s n).crings = s.crings ∧
    (leaveSpare s n).pups = s.pups ∧ (leaveSpare s n).jobs = s.jobs ∧ (leaveSpare s n).slots = s.slots ∧ (leaveSpare
    s n).errTimes = s.errTimes ∧ (leaveSpare s n).lostWin = s.lostWin ∧ (leaveSpare s n).aclk = s.aclk ∧ (leaveSpare
    s n).free = s.free := by
  unfold leaveSpare; split <;> simp
@[simp] theorem firstFailure_keeps (s : State) (n : Nat) :
    (firstFailure s n).pending = s.pending ∧ (firstFailure s n).boot = s.boot ∧ (firstFailure s n).nvm = s.nvm ∧
    (firstFailure s n).edits = s.edits ∧ (firstFailure s n).ftu = s.ftu ∧ (firstFailure s n).crings = s.crings ∧
    (firstFailure s n).pups = s.pups ∧ (firstFailure s n).jobs = s.jobs ∧ (firstFailure s n).slots = s.slots ∧
    (firstFailure s n).errTimes = s.errTimes ∧ (firstFailure s n).lostWin = s.lostWin ∧ (firstFailure s n).aclk =
    s.aclk ∧ (firstFailure s n).free = s.free := by
  unfold firstFailure; dsimp only; (repeat' split) <;> simp
@[simp] theorem secondFailure_keeps (s : State) (n : Nat) :
    (secondFailure s n).pending = s.pending ∧ (secondFailure s n).boot = s.boot ∧ (secondFailure s n).nvm = s.nvm ∧
    (secondFailure s n).edits = s.edits ∧ (secondFailure s n).ftu = s.ftu ∧ (secondFailure s n).crings = s.crings ∧
    (secondFailure s n).pups = s.pups ∧ (secondFailure s n).jobs = s.jobs ∧ (secondFailure s n).slots = s.slots ∧
    (secondFailure s n).errTimes = s.errTimes ∧ (secondFailure s n).lostWin = s.lostWin ∧ (secondFailure s n).aclk =
    s.aclk ∧ (secondFailure s n).free = s.free := by
  simp [secondFailure]
@[simp] theorem checkFails_keeps (s : State) (n : Nat) :
    (checkFails s n).pending = s.pending ∧ (checkFails s n).boot = s.boot ∧ (checkFails s n).nvm = s.nvm ∧ (checkFails
    s n).edits = s.edits ∧ (checkFails s n).ftu = s.ftu ∧ (checkFails s n).crings = s.crings ∧ (checkFails s n).pups =
    s.pups ∧ (checkFails s n).jobs = s.jobs ∧ (checkFails s n).slots = s.slots ∧ (checkFails s n).errTimes =
    s.errTimes ∧ (checkFails s n).lostWin = s.lostWin ∧ (checkFails s n).aclk = s.aclk ∧ (checkFails s n).free =
    s.free := by
  simp [checkFails]
@[simp] theorem persist_keeps (s : State) (st : Store) (k cls : Nat) (job : BitVec 16) :
    (persist s st k cls job).pending = s.pending ∧ (persist s st k cls job).boot = s.boot ∧ (persist s st k cls
    job).nvm = s.nvm ∧ (persist s st k cls job).edits = s.edits ∧ (persist s st k cls job).ftu = s.ftu ∧ (persist s st
    k cls job).crings = s.crings ∧ (persist s st k cls job).pups = s.pups ∧ (persist s st k cls job).jobs = s.jobs ∧
    (persist s st k cls job).slots = s.slots ∧ (persist s st k cls job).lostWin = s.lostWin ∧ (persist s st k cls
    job).aclk = s.aclk ∧ (persist s st k cls job).free = s.free := by
  unfold persist; split <;> simp
@[simp] theorem addTest_keeps (s : State) (u r : Nat) :
    (addTest s u r).pending = s.pending ∧ (addTest s u r).boot = s.boot ∧ (addTest s u r).nvm = s.nvm ∧ (addTest s u
    r).csr = s.csr ∧ (addTest s u r).edits = s.edits ∧ (addTest s u r).ftu = s.ftu ∧ (addTest s u r).sec = s.sec ∧
    (addTest s u r).pwr = s.pwr ∧ (addTest s u r).crings = s.crings ∧ (addTest s u r).qrings = s.qrings ∧ (addTest s u
    r).qids = s.qids ∧ (addTest s u r).cores = s.cores ∧ (addTest s u r).pups = s.pups ∧ (addTest s u r).objs = s.objs
    ∧ (addTest s u r).jobs = s.jobs ∧ (addTest s u r).slots = s.slots ∧ (addTest s u r).slotQ = s.slotQ ∧ (addTest s u
    r).net = s.net ∧ (addTest s u r).coll = s.coll ∧ (addTest s u r).mem = s.mem ∧ (addTest s u r).bad = s.bad ∧
    (addTest s u r).errTimes = s.errTimes ∧ (addTest s u r).lostWin = s.lostWin ∧ (addTest s u r).aclk = s.aclk ∧
    (addTest s u r).out = s.out ∧ (addTest s u r).free = s.free := by
  simp [addTest]
@[simp] theorem runTest_keeps (s : State) (n : Nat) :
    (runTest s n).pending = s.pending ∧ (runTest s n).boot = s.boot ∧ (runTest s n).nvm = s.nvm ∧ (runTest s n).edits
    = s.edits ∧ (runTest s n).ftu = s.ftu ∧ (runTest s n).sec = s.sec ∧ (runTest s n).pwr = s.pwr ∧ (runTest s
    n).crings = s.crings ∧ (runTest s n).qrings = s.qrings ∧ (runTest s n).qids = s.qids ∧ (runTest s n).cores =
    s.cores ∧ (runTest s n).pups = s.pups ∧ (runTest s n).objs = s.objs ∧ (runTest s n).jobs = s.jobs ∧ (runTest s
    n).slots = s.slots ∧ (runTest s n).slotQ = s.slotQ ∧ (runTest s n).net = s.net ∧ (runTest s n).coll = s.coll ∧
    (runTest s n).mem = s.mem ∧ (runTest s n).bad = s.bad ∧ (runTest s n).errTimes = s.errTimes ∧ (runTest s
    n).lostWin = s.lostWin ∧ (runTest s n).aclk = s.aclk ∧ (runTest s n).out = s.out ∧ (runTest s n).free = s.free := by
  simp [runTest]
@[simp] theorem askTest_keeps (s : State) (n : Nat) :
    (askTest s n).pending = s.pending ∧ (askTest s n).boot = s.boot ∧ (askTest s n).nvm = s.nvm ∧ (askTest s n).edits
    = s.edits ∧ (askTest s n).ftu = s.ftu ∧ (askTest s n).sec = s.sec ∧ (askTest s n).crings = s.crings ∧ (askTest s
    n).qrings = s.qrings ∧ (askTest s n).qids = s.qids ∧ (askTest s n).cores = s.cores ∧ (askTest s n).pups = s.pups ∧
    (askTest s n).objs = s.objs ∧ (askTest s n).jobs = s.jobs ∧ (askTest s n).slots = s.slots ∧ (askTest s n).slotQ =
    s.slotQ ∧ (askTest s n).coll = s.coll ∧ (askTest s n).mem = s.mem ∧ (askTest s n).bad = s.bad ∧ (askTest s
    n).errTimes = s.errTimes ∧ (askTest s n).lostWin = s.lostWin ∧ (askTest s n).aclk = s.aclk ∧ (askTest s n).free =
    s.free := by
  unfold askTest; dsimp only; (repeat' split) <;> simp
@[simp] theorem releaseTestAlarm_keeps (s : State) (k : Nat) :
    (releaseTestAlarm s k).pending = s.pending ∧ (releaseTestAlarm s k).boot = s.boot ∧ (releaseTestAlarm s k).nvm =
    s.nvm ∧ (releaseTestAlarm s k).edits = s.edits ∧ (releaseTestAlarm s k).sec = s.sec ∧ (releaseTestAlarm s
    k).crings = s.crings ∧ (releaseTestAlarm s k).qrings = s.qrings ∧ (releaseTestAlarm s k).qids = s.qids ∧
    (releaseTestAlarm s k).cores = s.cores ∧ (releaseTestAlarm s k).pups = s.pups ∧ (releaseTestAlarm s k).objs =
    s.objs ∧ (releaseTestAlarm s k).jobs = s.jobs ∧ (releaseTestAlarm s k).slots = s.slots ∧ (releaseTestAlarm s
    k).slotQ = s.slotQ ∧ (releaseTestAlarm s k).coll = s.coll ∧ (releaseTestAlarm s k).mem = s.mem ∧
    (releaseTestAlarm s k).bad = s.bad ∧ (releaseTestAlarm s k).errTimes = s.errTimes ∧ (releaseTestAlarm s
    k).lostWin = s.lostWin ∧ (releaseTestAlarm s k).aclk = s.aclk ∧ (releaseTestAlarm s k).free = s.free := by
  unfold releaseTestAlarm; dsimp only; (repeat' split) <;> simp
@[simp] theorem dueWindows_keeps (s : State) :
    (dueWindows s).pending = s.pending ∧ (dueWindows s).boot = s.boot ∧ (dueWindows s).nvm = s.nvm ∧ (dueWindows
    s).edits = s.edits ∧ (dueWindows s).ftu = s.ftu ∧ (dueWindows s).sec = s.sec ∧ (dueWindows s).crings = s.crings ∧
    (dueWindows s).qrings = s.qrings ∧ (dueWindows s).qids = s.qids ∧ (dueWindows s).cores = s.cores ∧ (dueWindows
    s).pups = s.pups ∧ (dueWindows s).objs = s.objs ∧ (dueWindows s).jobs = s.jobs ∧ (dueWindows s).slots = s.slots ∧
    (dueWindows s).slotQ = s.slotQ ∧ (dueWindows s).coll = s.coll ∧ (dueWindows s).mem = s.mem ∧ (dueWindows s).bad =
    s.bad ∧ (dueWindows s).errTimes = s.errTimes ∧ (dueWindows s).lostWin = s.lostWin ∧ (dueWindows s).aclk = s.aclk ∧
    (dueWindows s).free = s.free := by
  simp [dueWindows]
@[simp] theorem dueTest_keeps (s : State) (n : Nat) :
    (dueTest s n).pending = s.pending ∧ (dueTest s n).boot = s.boot ∧ (dueTest s n).nvm = s.nvm ∧ (dueTest s
    n).edits = s.edits ∧ (dueTest s n).sec = s.sec ∧ (dueTest s n).crings = s.crings ∧ (dueTest s n).qrings =
    s.qrings ∧ (dueTest s n).qids = s.qids ∧ (dueTest s n).cores = s.cores ∧ (dueTest s n).pups = s.pups ∧ (dueTest
    s n).objs = s.objs ∧ (dueTest s n).jobs = s.jobs ∧ (dueTest s n).slots = s.slots ∧ (dueTest s n).slotQ = s.slotQ
    ∧ (dueTest s n).coll = s.coll ∧ (dueTest s n).mem = s.mem ∧ (dueTest s n).bad = s.bad ∧ (dueTest s n).errTimes =
    s.errTimes ∧ (dueTest s n).lostWin = s.lostWin ∧ (dueTest s n).aclk = s.aclk ∧ (dueTest s n).free = s.free := by
  unfold dueTest; dsimp only; (repeat' split) <;> simp
@[simp] theorem afterTest_keeps (s : State) (n : Nat) :
    (afterTest s n).pending = s.pending ∧ (afterTest s n).boot = s.boot ∧ (afterTest s n).nvm = s.nvm ∧ (afterTest s
    n).edits = s.edits ∧ (afterTest s n).ftu = s.ftu ∧ (afterTest s n).sec = s.sec ∧ (afterTest s n).crings =
    s.crings ∧ (afterTest s n).qrings = s.qrings ∧ (afterTest s n).qids = s.qids ∧ (afterTest s n).pups = s.pups ∧
    (afterTest s n).objs = s.objs ∧ (afterTest s n).jobs = s.jobs ∧ (afterTest s n).slots = s.slots ∧ (afterTest s
    n).slotQ = s.slotQ ∧ (afterTest s n).coll = s.coll ∧ (afterTest s n).errTimes = s.errTimes ∧ (afterTest s
    n).lostWin = s.lostWin ∧ (afterTest s n).aclk = s.aclk ∧ (afterTest s n).free = s.free := by
  unfold afterTest; dsimp only; (repeat' split) <;> simp
@[simp] theorem returnEnds_keeps (s : State) (passed : Bool) :
    (returnEnds s passed).pending = s.pending ∧ (returnEnds s passed).boot = s.boot ∧ (returnEnds s passed).nvm =
    s.nvm ∧ (returnEnds s passed).edits = s.edits ∧ (returnEnds s passed).ftu = s.ftu ∧ (returnEnds s passed).flt =
    s.flt ∧ (returnEnds s passed).sec = s.sec ∧ (returnEnds s passed).pwr = s.pwr ∧ (returnEnds s passed).crings =
    s.crings ∧ (returnEnds s passed).qrings = s.qrings ∧ (returnEnds s passed).qids = s.qids ∧ (returnEnds s
    passed).cores = s.cores ∧ (returnEnds s passed).pups = s.pups ∧ (returnEnds s passed).objs = s.objs ∧ (returnEnds
    s passed).jobs = s.jobs ∧ (returnEnds s passed).slots = s.slots ∧ (returnEnds s passed).slotQ = s.slotQ ∧
    (returnEnds s passed).net = s.net ∧ (returnEnds s passed).coll = s.coll ∧ (returnEnds s passed).mem = s.mem ∧
    (returnEnds s passed).bad = s.bad ∧ (returnEnds s passed).errTimes = s.errTimes ∧ (returnEnds s passed).lostWin =
    s.lostWin ∧ (returnEnds s passed).aclk = s.aclk ∧ (returnEnds s passed).out = s.out ∧ (returnEnds s passed).free =
    s.free := by
  simp [returnEnds]
@[simp] theorem returned_keeps (s : State) (u src : Nat) :
    (returned s u src).pending = s.pending ∧ (returned s u src).boot = s.boot ∧ (returned s u src).nvm = s.nvm ∧
    (returned s u src).edits = s.edits ∧ (returned s u src).ftu = s.ftu ∧ (returned s u src).sec = s.sec ∧ (returned s
    u src).pwr = s.pwr ∧ (returned s u src).crings = s.crings ∧ (returned s u src).qrings = s.qrings ∧ (returned s u
    src).qids = s.qids ∧ (returned s u src).cores = s.cores ∧ (returned s u src).pups = s.pups ∧ (returned s u
    src).objs = s.objs ∧ (returned s u src).jobs = s.jobs ∧ (returned s u src).slots = s.slots ∧ (returned s u
    src).slotQ = s.slotQ ∧ (returned s u src).net = s.net ∧ (returned s u src).coll = s.coll ∧ (returned s u src).mem
    = s.mem ∧ (returned s u src).bad = s.bad ∧ (returned s u src).errTimes = s.errTimes ∧ (returned s u src).lostWin =
    s.lostWin ∧ (returned s u src).aclk = s.aclk ∧ (returned s u src).free = s.free := by
  simp [returned]
@[simp] theorem dropRun_keeps (s : State) (u : Nat) :
    (dropRun s u).pending = s.pending ∧ (dropRun s u).boot = s.boot ∧ (dropRun s u).nvm = s.nvm ∧ (dropRun s u).csr =
    s.csr ∧ (dropRun s u).edits = s.edits ∧ (dropRun s u).ftu = s.ftu ∧ (dropRun s u).sec = s.sec ∧ (dropRun s u).pwr
    = s.pwr ∧ (dropRun s u).crings = s.crings ∧ (dropRun s u).qrings = s.qrings ∧ (dropRun s u).qids = s.qids ∧
    (dropRun s u).cores = s.cores ∧ (dropRun s u).pups = s.pups ∧ (dropRun s u).objs = s.objs ∧ (dropRun s u).jobs =
    s.jobs ∧ (dropRun s u).slots = s.slots ∧ (dropRun s u).slotQ = s.slotQ ∧ (dropRun s u).net = s.net ∧ (dropRun s
    u).coll = s.coll ∧ (dropRun s u).mem = s.mem ∧ (dropRun s u).bad = s.bad ∧ (dropRun s u).errTimes = s.errTimes ∧
    (dropRun s u).lostWin = s.lostWin ∧ (dropRun s u).aclk = s.aclk ∧ (dropRun s u).out = s.out ∧ (dropRun s u).free =
    s.free := by
  simp [dropRun]
@[simp] theorem fullResult_keeps (s : State) (n r : Nat) (passed : Bool) :
    (fullResult s n r passed).pending = s.pending ∧ (fullResult s n r passed).boot = s.boot ∧ (fullResult s n r
    passed).nvm = s.nvm ∧ (fullResult s n r passed).edits = s.edits ∧ (fullResult s n r passed).ftu = s.ftu ∧
    (fullResult s n r passed).crings = s.crings ∧ (fullResult s n r passed).pups = s.pups ∧ (fullResult s n r
    passed).jobs = s.jobs ∧ (fullResult s n r passed).slots = s.slots ∧ (fullResult s n r passed).errTimes =
    s.errTimes ∧ (fullResult s n r passed).lostWin = s.lostWin ∧ (fullResult s n r passed).aclk = s.aclk ∧ (fullResult
    s n r passed).free = s.free := by
  simp [fullResult]
@[simp] theorem engineResult_keeps (s : State) (e : Nat) (passed : Bool) :
    (engineResult s e passed).pending = s.pending ∧ (engineResult s e passed).boot = s.boot ∧ (engineResult s e
    passed).nvm = s.nvm ∧ (engineResult s e passed).edits = s.edits ∧ (engineResult s e passed).ftu = s.ftu ∧
    (engineResult s e passed).sec = s.sec ∧ (engineResult s e passed).pwr = s.pwr ∧ (engineResult s e passed).crings =
    s.crings ∧ (engineResult s e passed).qrings = s.qrings ∧ (engineResult s e passed).qids = s.qids ∧ (engineResult s
    e passed).cores = s.cores ∧ (engineResult s e passed).pups = s.pups ∧ (engineResult s e passed).objs = s.objs ∧
    (engineResult s e passed).jobs = s.jobs ∧ (engineResult s e passed).slots = s.slots ∧ (engineResult s e
    passed).slotQ = s.slotQ ∧ (engineResult s e passed).net = s.net ∧ (engineResult s e passed).coll = s.coll ∧
    (engineResult s e passed).mem = s.mem ∧ (engineResult s e passed).bad = s.bad ∧ (engineResult s e passed).errTimes
    = s.errTimes ∧ (engineResult s e passed).lostWin = s.lostWin ∧ (engineResult s e passed).aclk = s.aclk ∧
    (engineResult s e passed).free = s.free := by
  simp [engineResult]
@[simp] theorem resetUnit_keeps (s : State) (n : Nat) :
    (resetUnit s n).pending = s.pending ∧ (resetUnit s n).boot = s.boot ∧ (resetUnit s n).nvm = s.nvm ∧ (resetUnit s
    n).edits = s.edits ∧ (resetUnit s n).ftu = s.ftu ∧ (resetUnit s n).flt = s.flt ∧ (resetUnit s n).sec = s.sec ∧
    (resetUnit s n).pwr = s.pwr ∧ (resetUnit s n).crings = s.crings ∧ (resetUnit s n).qrings = s.qrings ∧ (resetUnit
    s n).qids = s.qids ∧ (resetUnit s n).cores = s.cores ∧ (resetUnit s n).pups = s.pups ∧ (resetUnit s n).objs =
    s.objs ∧ (resetUnit s n).jobs = s.jobs ∧ (resetUnit s n).slots = s.slots ∧ (resetUnit s n).slotQ = s.slotQ ∧
    (resetUnit s n).net = s.net ∧ (resetUnit s n).coll = s.coll ∧ (resetUnit s n).mem = s.mem ∧ (resetUnit s n).bad
    = s.bad ∧ (resetUnit s n).errTimes = s.errTimes ∧ (resetUnit s n).lostWin = s.lostWin ∧ (resetUnit s n).aclk =
    s.aclk ∧ (resetUnit s n).out = s.out ∧ (resetUnit s n).free = s.free := by
  exact ⟨foldl_pending _ (by intros; rfl) _ _, foldl_boot _ (by intros; rfl) _ _, foldl_nvm _ (by intros; rfl) _ _,
    foldl_edits _ (by intros; rfl) _ _, foldl_ftu _ (by intros; rfl) _ _, foldl_flt _ (by intros; rfl) _ _,
    foldl_sec _ (by intros; rfl) _ _, foldl_pwr _ (by intros; rfl) _ _, foldl_crings _ (by intros; rfl) _ _,
    foldl_qrings _ (by intros; rfl) _ _, foldl_qids _ (by intros; rfl) _ _, foldl_cores _ (by intros; rfl) _ _,
    foldl_pups _ (by intros; rfl) _ _, foldl_objs _ (by intros; rfl) _ _, foldl_jobs _ (by intros; rfl) _ _,
    foldl_slots _ (by intros; rfl) _ _, foldl_slotQ _ (by intros; rfl) _ _, foldl_net _ (by intros; rfl) _ _,
    foldl_coll _ (by intros; rfl) _ _, foldl_mem _ (by intros; rfl) _ _, foldl_bad _ (by intros; rfl) _ _,
    foldl_errTimes _ (by intros; rfl) _ _, foldl_lostWin _ (by intros; rfl) _ _, foldl_aclk _ (by intros; rfl) _ _,
    foldl_out _ (by intros; rfl) _ _, foldl_free _ (by intros; rfl) _ _⟩
@[simp] theorem writeReturn_keeps (s : State) (v : Word) :
    (writeReturn s v).pending = s.pending ∧ (writeReturn s v).boot = s.boot ∧ (writeReturn s v).nvm = s.nvm ∧
    (writeReturn s v).edits = s.edits ∧ (writeReturn s v).ftu = s.ftu ∧ (writeReturn s v).sec = s.sec ∧ (writeReturn s
    v).pwr = s.pwr ∧ (writeReturn s v).crings = s.crings ∧ (writeReturn s v).qrings = s.qrings ∧ (writeReturn s
    v).qids = s.qids ∧ (writeReturn s v).pups = s.pups ∧ (writeReturn s v).objs = s.objs ∧ (writeReturn s v).jobs =
    s.jobs ∧ (writeReturn s v).slots = s.slots ∧ (writeReturn s v).slotQ = s.slotQ ∧ (writeReturn s v).net = s.net ∧
    (writeReturn s v).coll = s.coll ∧ (writeReturn s v).errTimes = s.errTimes ∧ (writeReturn s v).lostWin = s.lostWin
    ∧ (writeReturn s v).aclk = s.aclk ∧ (writeReturn s v).out = s.out ∧ (writeReturn s v).free = s.free := by
  simp [writeReturn]

/-! ### Operations of Machine/Spare -/
@[simp] theorem afterSwap_keeps (s : State) (p reason : Nat) :
    (afterSwap s p reason).pending = s.pending ∧ (afterSwap s p reason).boot = s.boot ∧ (afterSwap s p reason).nvm =
    s.nvm ∧ (afterSwap s p reason).edits = s.edits ∧ (afterSwap s p reason).ftu = s.ftu ∧ (afterSwap s p reason).sec
    = s.sec ∧ (afterSwap s p reason).pwr = s.pwr ∧ (afterSwap s p reason).crings = s.crings ∧ (afterSwap s p
    reason).qrings = s.qrings ∧ (afterSwap s p reason).qids = s.qids ∧ (afterSwap s p reason).cores = s.cores ∧
    (afterSwap s p reason).pups = s.pups ∧ (afterSwap s p reason).objs = s.objs ∧ (afterSwap s p reason).jobs =
    s.jobs ∧ (afterSwap s p reason).slots = s.slots ∧ (afterSwap s p reason).slotQ = s.slotQ ∧ (afterSwap s p
    reason).net = s.net ∧ (afterSwap s p reason).coll = s.coll ∧ (afterSwap s p reason).mem = s.mem ∧ (afterSwap s p
    reason).bad = s.bad ∧ (afterSwap s p reason).errTimes = s.errTimes ∧ (afterSwap s p reason).lostWin = s.lostWin
    ∧ (afterSwap s p reason).aclk = s.aclk ∧ (afterSwap s p reason).out = s.out ∧ (afterSwap s p reason).free =
    s.free := by
  unfold afterSwap; (repeat' split) <;> simp
@[simp] theorem finishSwap_keeps (s : State) (c j p q : Nat) :
    (finishSwap s c j p q).pending = s.pending ∧ (finishSwap s c j p q).boot = s.boot ∧ (finishSwap s c j p q).nvm =
    s.nvm ∧ (finishSwap s c j p q).edits = s.edits ∧ (finishSwap s c j p q).ftu = s.ftu ∧ (finishSwap s c j p
    q).crings = s.crings ∧ (finishSwap s c j p q).pups = s.pups ∧ (finishSwap s c j p q).jobs = s.jobs ∧ (finishSwap
    s c j p q).slots = s.slots ∧ (finishSwap s c j p q).errTimes = s.errTimes ∧ (finishSwap s c j p q).lostWin =
    s.lostWin ∧ (finishSwap s c j p q).aclk = s.aclk ∧ (finishSwap s c j p q).free = s.free := by
  simp [finishSwap]
@[simp] theorem abandonSwap_keeps (s : State) (c p q : Nat) :
    (abandonSwap s c p q).pending = s.pending ∧ (abandonSwap s c p q).boot = s.boot ∧ (abandonSwap s c p q).nvm =
    s.nvm ∧ (abandonSwap s c p q).edits = s.edits ∧ (abandonSwap s c p q).ftu = s.ftu ∧ (abandonSwap s c p q).crings
    = s.crings ∧ (abandonSwap s c p q).pups = s.pups ∧ (abandonSwap s c p q).jobs = s.jobs ∧ (abandonSwap s c p
    q).slots = s.slots ∧ (abandonSwap s c p q).errTimes = s.errTimes ∧ (abandonSwap s c p q).lostWin = s.lostWin ∧
    (abandonSwap s c p q).aclk = s.aclk ∧ (abandonSwap s c p q).free = s.free := by
  simp [abandonSwap]
end Sys2Proof.Laws
end

