-- ==== Sys2Proof/Tests/Slice0.lean ====
section
/-! SUPPORT. The package's own tests: ill-formed terms that WellFormed refuses, small steps whose results come from the spec's
tables, and, for each statement with hypotheses, a state and operands that meet them. -/

namespace Sys2Proof.Tests
open Sys2Proof.Machine Sys2Proof.Machine.Claims
set_option Elab.async false

/-! ### Small states -/

/-- A device that runs, with its PCIe link up and all else as after reset. -/
def upS : State := { State.reset with boot := { State.reset.boot with porst := false, perst := false, up := true, opened := true, pcieUp := true } }
/-- Core 0 runs a step of job 1 over code of eight END instructions. -/
def run0 : State := setCore upS 0 { Machine.core upS 0 with running := true, job := 1, code := List.replicate 8 0x34#32 }
/-- A state in which each Puppeteer core runs an image of eight words. -/
def pupS : State := (List.range 8).foldl (fun s p => setPup s p { pup s p with code := List.replicate 8 0x34#32 }) upS
/-- A job that holds table entry 0 and completion ring 0. -/
def job1 : Job :=
  { cq := 0, vcEn := 1, index := 0, rank := 0, rttBase := 0, rttCount := 0, circuits := [], regions := [], image := none, next := none, flowNext := [],
    cores := [], restartFt := 0, timing := [] }
/-- A running device with job 1. -/
def jobS : State := { upS with jobs := [(1, job1)] }
/-- Job 1 under a QID of a KIND and state. -/
def quietS (state kind ident : Nat) (jobs : List (BitVec 16)) : State :=
  setQid jobS 0 state kind ident ⟨0, 0, 0, jobs, 0, false, 0, [0], 0, []⟩
/-- A command ring entry of a TYPE for a job, with words 2 to 31. -/
def entry (type job : Nat) (body : List Word) : CmdEntry := ⟨0, [BitVec.ofNat 64 (type + job * 2 ^ 16), 0] ++ body⟩
/-- A state with one entry at the front of ring 0. -/
def cmdS (s : State) (e : CmdEntry) : State := setCring s 0 { cring s 0 with queue := [e] }
/-- A signed object whose four signatures verify. -/
def okSig : SigCheck := ⟨true, true, true, true⟩
/-- One that does not. -/
def badSig : SigCheck := ⟨true, true, true, false⟩
/-- The boot inputs of a part in which all checks. -/
def soundB : BootInputs :=
  { romOk := true, pufOk := true, cfgA := okSig, cfgB := okSig, slot0 := okSig, slot1 := okSig,
    planSlot := okSig, pllOk := true, bufferSramOk := true, badCores := [], tierSize := [], failedWindows := [], mixedTier1 := [],
    alignArrival := 5 }
/-- A bundle signed by a Fjarestan root. -/
def img0 : BundleImage := ⟨Signed.shipped 2 2, 1, [], [], [], [], []⟩
/-- Core 4 is the spare of cluster 0, core 0 logical core 0, as a map of five good cores has them. -/
def placedS : State :=
  let s := setReg upS (CLU_MAP 0) 0x4688
  let s := (List.range 5).foldl (fun s n => setF (setF s (CORE_STATUS n) CORE_STATUS_LOGICAL (if n = 4 then 0xFF else n)) (CORE_STATUS n) CORE_STATUS_STATE
    (if n = 4 then 1 else 2)) s
  setF s FLT_CTRL FLT_CTRL_TEST_EN 1
/-- A core's state. -/
def stateOf (s : State) (n v : Nat) : State := setF s (CORE_STATUS n) CORE_STATUS_STATE v

/-! ### Scalar instructions and registers -/

/-- Core 0 with a value in g1. -/
def regS (v : Word) : State := setG run0 (.core 0) 1 v
/-- A state of core 0 with g1 at an address of code-word `k` that fails its code. -/
def badS : State := { regS 0 with bad := [coreKey 0] }
/-- Core 0 at the end of its code. -/
def pastS : State := setPc run0 (.core 0) 8

/-- AluFunctionsFollowTheTable: units that issue, listed and unlisted functions. -/
theorem test_hyps_alu :
    canIssue run0 (.core 0) = true ∧ canIssue pupS (.pup 7) = true ∧ (∃ f, ((0x017 : BitVec 9).toNat, f) ∈ aluTable)
      ∧ (0x013 : BitVec 9).toNat ∉ aluTable.map Prod.fst ∧ (∃ f, ((0x010 : BitVec 14).toNat, f) ∈ aluTable)
      ∧ (0x010 : BitVec 14).toNat ∈ alulCodes ∧ (0x001 : BitVec 14).toNat ∉ alulCodes := by
  refine ⟨by decide +kernel, by decide +kernel, ⟨_, by unfold aluTable; repeat' constructor⟩, by decide +kernel,
    ⟨_, by unfold aluTable; repeat' constructor⟩, by decide +kernel, by decide +kernel⟩

/-- ImmediateArithmeticWritesItsResult: each list, shift counts of 63 and of 64. -/
theorem test_hyps_immediate :
    canIssue (regS 7) (.core 0) = true
      ∧ (Instr.addi (.core 0) 2 1 5, (12 : Word)) ∈ immediateForms (.core 0) 2 1 5 (getG (regS 7) (.core 0) 1)
      ∧ (63 : BitVec 14).toNat < 64 ∧ (Instr.shri (.core 0) 2 1 63, (0 : Word)) ∈ shiftForms (.core 0) 2 1 63 (getG (regS 7) (.core 0) 1)
      ∧ 64 ≤ (64 : BitVec 14).toNat ∧ (Instr.shri (.core 0) 2 1 64, (0 : Word)) ∈ shiftForms (.core 0) 2 1 64 (getG (regS 7) (.core 0) 1) := by
  (repeat' apply And.intro) <;> decide +kernel

/-- LoadsReadLittleEndianBytes, StoresWriteLittleEndianBytes: the last word of a core's SRAM, a Puppeteer's address, a
store over a failing word. -/
theorem test_hyps_memory :
    (Instr.ld64 (.core 0) 2 1 0, 8, false) ∈ loadForms (.core 0) 2 1 0 ∧ (Instr.st64 (.core 0) 2 1 0, 8) ∈ storeForms (.core 0) 2 1 0
      ∧ canIssue (regS 0x7FFFF8) (.core 0) = true
      ∧ accessKey (regS 0x7FFFF8) (.core 0) (getG (regS 0x7FFFF8) (.core 0) 1 + (0 : BitVec 14).signExtend 64) 8 = some (coreKey 0 + 0x7FFFF8)
      ∧ rangeFree (regS 0x7FFFF8) (.core 0) (coreKey 0 + 0x7FFFF8) 8 false = true
      ∧ rangeFree (regS 0x7FFFF8) (.core 0) (coreKey 0 + 0x7FFFF8) 8 true = true
      ∧ (∀ n : CoreId, (ZsUnit.core 0) = .core n → badIn (regS 0x7FFFF8) (coreKey 0 + 0x7FFFF8) 8 = none)
      ∧ (accessKey pupS (.pup 0) 5 1).isSome = true ∧ rangeFree pupS (.pup 0) 5 1 true = true
      ∧ canIssue badS (.core 0) = true ∧ (∀ w ∈ badS.bad, overlaps w (coreKey 0) 8 = true → covers w (coreKey 0) 8 = true)
      ∧ accessKey badS (.core 0) (getG badS (.core 0) 1 + (0 : BitVec 14).signExtend 64) 8 = some (coreKey 0) := by
  (repeat' apply And.intro) <;> decide +kernel

/-- Puppeteer core 7 past the end of its code. -/
def pupEnd : State := setPc pupS (.pup 7) 8

/-- ControlTransfersAndTheirChecks: a branch taken and one not, JALR targets inside and outside the code, and a Puppeteer core past
its own. -/
theorem test_hyps_control :
    (∃ p, (Instr.beq (.core 0) 0 0 5, p) ∈ branchForms (.core 0) 0 0 5 (getG (regS 0) (.core 0) 0) (getG (regS 0) (.core 0) 0) ∧ p)
      ∧ (∃ p, (Instr.bne (.core 0) 0 0 5, p) ∈ branchForms (.core 0) 0 0 5 (getG (regS 0) (.core 0) 0) (getG (regS 0) (.core 0) 0) ∧ ¬ p)
      ∧ canIssue (regS 7) (.core 0) = true ∧ isStart (Machine.core (regS 7) 0).code (getG (regS 7) (.core 0) 1).toNat = true
      ∧ canIssue (regS 8) (.core 0) = true ∧ isStart (Machine.core (regS 8) 0).code (getG (regS 8) (.core 0) 1).toNat = false
      ∧ isStart (pup pupS 7).code 7 = true ∧ isStart (pup pupS 7).code 8 = false
      ∧ pupReady pupEnd 7 = true ∧ (pup pupEnd 7).code.length ≤ (pup pupEnd 7).pc.toNat := by
  refine ⟨⟨_, by unfold branchForms; exact .head _, rfl⟩, ⟨_, by unfold branchForms; exact .tail _ (.head _), by simp⟩, ?_, ?_, ?_, ?_, ?_, ?_,
    ?_, ?_⟩ <;>
    decide +kernel

/-- StateRegistersAndTimeAreRead, IrqWaitHaltsUntilACause: the state registers by number, TIME.READ's register pairs, a pending cause and none. -/
theorem test_hyps_state :
    canIssue run0 (.core 0) = true ∧ (7 : BitVec 9).toNat < 8 ∧ 8 ≤ (8 : BitVec 9).toNat
      ∧ ((2 : GReg) ≠ 3 ∨ (2 : GReg) = 0) ∧ ((0 : GReg) ≠ 0 ∨ (0 : GReg) = 0) ∧ ((2 : GReg) = 2 ∧ (2 : GReg) ≠ 0)
      ∧ canIssue pupS (.pup 3) = true ∧ (pup pupS 3).irq = none
      ∧ canIssue (setPup pupS 3 { pup pupS 3 with irq := some 5 }) (.pup 3) = true
      ∧ (pup (setPup pupS 3 { pup pupS 3 with irq := some 5 }) 3).irq = some 5 := by
  (repeat' apply And.intro) <;> decide +kernel

/-- TrapsStopTheCore: addresses that reach no store, a misaligned one, an index past the code. -/
theorem test_hyps_traps :
    (Instr.st32 (.core 0) 2 1 0, 4) ∈ storeForms (.core 0) 2 1 0 ++ (loadForms (.core 0) 2 1 0).map (fun x => (x.1, x.2.1))
      ∧ canIssue (regS 0x800000) (.core 0) = true
      ∧ scalarAddr (regS 0x800000) 0 (getG (regS 0x800000) (.core 0) 1 + (0 : BitVec 14).signExtend 64) 4 = .error 1
      ∧ canIssue (regS 0x7FFFFE) (.core 0) = true
      ∧ scalarAddr (regS 0x7FFFFE) 0 (getG (regS 0x7FFFFE) (.core 0) 1 + (0 : BitVec 14).signExtend 64) 4 = .error 2
      ∧ coreReady pastS 0 = true ∧ inCode pastS 0 = false := by
  (repeat' apply And.intro) <;> decide +kernel

/-! ### Registers -/

/-- A register has no bit of an access code when none of its fields has it. -/
theorem hasCode_false (off : Nat) (a : Acc)
    (h : (match findReg off with | some (r, _) => r.fields.all (fun f => !decide (f.acc = a)) | none => true) = true) :
    ∀ i, hasCode off i a = false := by
  intro i
  unfold hasCode
  revert h
  cases findReg off with
  | none => intro _; rfl
  | some p =>
    intro h
    simp only [List.all_eq_true] at h
    simp only [List.any_eq_false]
    intro f hf
    have := h f hf
    simp_all

/-- RegisterWritesFollowTheAccessCodes: an RW register (FTU_LIMITS), one with W1C bits (FTU_STATUS), from each source. -/
theorem test_hyps_register_write :
    accessOff upS (0 : Fin 3) (0x100038 : Word).toNat = some 0x100038 ∧ Reaches upS (0 : Fin 3) 0x100038
      ∧ PlainRegister upS 0x100038 7 ∧ NoRwq 0x100038 ∧ hasCode 0x100038 0 .rw = true
      ∧ accessOff upS (1 : Fin 3) (0x100010 : Word).toNat = some 0x100010 ∧ Reaches upS (1 : Fin 3) 0x100010
      ∧ PlainRegister upS 0x100010 8 ∧ NoRwq 0x100010
      ∧ hasCode 0x100010 3 .rw = false ∧ hasCode 0x100010 3 .w1c = true ∧ hasCode 0x100010 0 .w1c = false
      ∧ accessOff upS (2 : Fin 3) (0x100038 : Word).toNat = some 0x100038 ∧ Reaches upS (2 : Fin 3) 0x100038 := by
  unfold Reaches
  refine ⟨?_, ⟨?_, ?_, ?_⟩, ⟨?_, ?_, ?_, ?_, fun w => by unfold takenRw; repeat rw [if_neg (by decide +kernel)], ?_⟩, ?_, ?_, ?_, ⟨?_, ?_, ?_⟩, ⟨?_, ?_, ?_, ?_, fun w => by unfold takenRw; repeat rw [if_neg (by decide +kernel)], ?_⟩, ?_, ?_, ?_, ?_, ?_,
    ⟨?_, ?_, ?_⟩⟩
  all_goals first | (exact hasCode_false _ _ (by decide +kernel)) | decide +kernel

/-- RegisterWritesFollowTheAccessCodes: a register without W1C bits, and the bits above 55 of one with some. -/
theorem test_hyps_register_codes :
    (∀ i, hasCode 0x100038 i .w1c = false) ∧ (∃ i, hasCode 0x100010 i .w1c = true)
      ∧ hasCode 0x100010 56 .rw = false ∧ hasCode 0x100010 56 .w1c = false :=
  ⟨hasCode_false _ _ (by decide +kernel), ⟨3, by decide +kernel⟩, by decide +kernel, by decide +kernel⟩

/-- Cluster 0 is quiesced. -/
def coreS : State := setQid placedS 0 2 3 0 ⟨0, 0, 0, [], 0, false, 0, [0], 0, []⟩

/-- RwqWritesNeedAQuiescedDomain: CORE_CTRL of core 0 with its cluster quiesced, and not. -/
theorem test_hyps_rwq :
    accessOff coreS (2 : Fin 3) (BitVec.ofNat 64 (CORE_CTRL 0)).toNat = some (CORE_CTRL 0)
      ∧ Reaches coreS (2 : Fin 3) (CORE_CTRL 0) ∧ canon (CORE_CTRL 0) = CORE_CTRL 0
      ∧ (∀ src', writeAction coreS src' (CORE_CTRL 0) 1 = none)
      ∧ (∀ i, hasCode (CORE_CTRL 0) i .rw = false ∧ hasCode (CORE_CTRL 0) i .w1c = false)
      ∧ rwqMask (CORE_CTRL 0) ≠ 0 ∧ isAlarm (CORE_CTRL 0) = false ∧ firmwareOnly (CORE_CTRL 0) = false
      ∧ editable coreS (CORE_CTRL 0) = true ∧ (∀ old w, takenRwq coreS (CORE_CTRL 0) old w = w)
      ∧ editable placedS (CORE_CTRL 0) = false ∧ Reaches placedS (2 : Fin 3) (CORE_CTRL 0) := by
  unfold Reaches
  refine ⟨?_, ⟨?_, ?_, ?_⟩, ?_, fun _ => rfl, fun i => ⟨hasCode_false _ _ (by decide +kernel) i, hasCode_false _ _ (by decide +kernel) i⟩, ?_, ?_,
    ?_, ?_, fun _ _ => rfl, ?_, ⟨?_, ?_, ?_⟩⟩ <;> decide +kernel

/-- RegistersAreReachedFromEverySide, RevisionRegistersAreFixed, ReadsWithAnEffect: the row of a revision register, BAR0 offsets, reads with an effect. -/
theorem test_hyps_sides :
    (0x5000000, 0x10000, 80, 0x0014) ∈ revisionTable ∧ accessOff upS (1 : Fin 3) (BitVec.ofNat 64 (0x5000000 + 0x10000 * 79)).toNat = some 0x54F0000
      ∧ mctpIn upS ⟨false, 0⟩ = true ∧ mctpIn upS ⟨true, 9⟩ = true ∧ readable upS 0 0x300038 = true ∧ reach upS ≠ .none
      ∧ getF upS (HIF_APERTURE 3) HIF_APERTURE_BASE * 0x800000 + 0x7FFFFF < 0x8000000
      ∧ 0x8000000 ≤ getF (setF upS (HIF_APERTURE 3) HIF_APERTURE_BASE 16) (HIF_APERTURE 3) HIF_APERTURE_BASE * 0x800000
      ∧ canIssue pupS (.pup 0) = true ∧ (getG (setG pupS (.pup 0) 1 0x100038) (.pup 0) 1).toNat = 0x100038 := by
  (repeat' apply And.intro) <;> decide +kernel

/-! ### Alarms, steps, synchronisation -/

/-- Alarm 0 is enabled with an action, index 5, target 100 ns and a period, at an FT in ns. -/
def alarmS (action period ft : Nat) : State :=
  let s := setReg placedS (FTU_ALARM_TARGET 0) 100
  let s := setF (setF s (FTU_ALARM_CTRL 0) FTU_ALARM_CTRL_ACTION action) (FTU_ALARM_CTRL 0) FTU_ALARM_CTRL_PERIOD period
  let s := setF (setF s (FTU_ALARM_CTRL 0) FTU_ALARM_CTRL_TARGET_INDEX 5) (FTU_ALARM_CTRL 0) FTU_ALARM_CTRL_EN 1
  { s with ftu := { s.ftu with ft := ft * 65536 } }
/-- An action that has fired. -/
def fired (action : BitVec 4) (index : BitVec 24) : Fired := ⟨0, action, index, 5, false, 5, false⟩
/-- A state in which an action has fired. -/
def firedS (s : State) (action : BitVec 4) (index : BitVec 24) : State := { s with ftu := { s.ftu with fired := [fired action index] } }
/-- A SPIN core's image: entry 0 tied to event 0 (alarm 0), entry 1 the SLOT entry of logical core 0. -/
def image1 : Image :=
  { code := List.replicate 8 0x34#32, seed := 0, stepLimit := 0, hasV := false, fpReq := false,
    entries := [⟨0, 1, true, true, 0, 0, 0⟩, ⟨0, 2, false, false, 3, 4, 0⟩], events := [⟨6, 0, 0, 0, 0⟩], gates := [], leaves := [], raw := [],
    job := 1, objs := [], slots := [], cores := [0], alarms := [0] }
/-- Core 0 holds job 1, whose image is `image1`. -/
def stepS : State := setCore { placedS with jobs := [(1, { job1 with image := some image1 })] } 0 { Machine.core placedS 0 with job := 1 }
/-- Core 0 runs entry 0, with `f` done to the core. -/
def runS (f : Core → Core) : State := setCore (stateOf stepS 0 3) 0 (f { Machine.core stepS 0 with running := true })

/-- AlarmsFireAndWake: one-shot and periodic alarms, early, at the last moment in time, late; disabled and reserved ones. -/
theorem test_hyps_alarm :
    running (alarmS 1 0 0) = true ∧ isSet (alarmS 1 0 0) (FTU_ALARM_CTRL 0) FTU_ALARM_CTRL_EN = true
      ∧ getF (alarmS 7 0 0) (FTU_ALARM_CTRL 0) FTU_ALARM_CTRL_ACTION ∈ [1, 2, 3, 4, 5, 6, 7]
      ∧ getF (alarmS 1 0 0) (FTU_ALARM_CTRL 0) FTU_ALARM_CTRL_PERIOD = 0
      ∧ getF (alarmS 1 2 0) (FTU_ALARM_CTRL 0) FTU_ALARM_CTRL_PERIOD = 2
      ∧ fireAt (alarmS 1 2 62) 0 * 65536 + 81920 ≤ (alarmS 1 2 62).ftu.ft ∧ (alarmS 1 2 61).ftu.ft < fireAt (alarmS 1 2 61) 0 * 65536 + 81920
      ∧ isSet placedS (FTU_ALARM_CTRL 0) FTU_ALARM_CTRL_EN = false
      ∧ getF (alarmS 8 0 0) (FTU_ALARM_CTRL 0) FTU_ALARM_CTRL_ACTION ∉ [1, 2, 3, 4, 5, 6, 7] := by
  (repeat' apply And.intro) <;> decide +kernel

/-- Port 3 has a gate list of one entry whose leader is port 3. -/
def gatedS : State := setF (setF placedS (TSC_GATE_CTRL 3) TSC_GATE_CTRL_LEN 1) (TSC_GATE_CTRL 3) TSC_GATE_CTRL_LEADER 3
/-- Puppeteer core 2 halts in IRQ.WAIT. -/
def waitS : State := setPup placedS 2 { pup placedS 2 with wait := some 4 }

/-- AlarmActionsTakeEffect, AlarmsFireAndWake: each action fired, at the last index of its range and at the first past it. -/
theorem test_hyps_actions :
    firedNext (firedS gatedS 1 3) 0 1 = some (fired 1 3) ∧ gateLen (firedS gatedS 1 3) 3 ≠ 0
      ∧ getF (firedS gatedS 1 3) (TSC_GATE_CTRL 3) TSC_GATE_CTRL_LEADER = (fired 1 3).index.toNat ∧ gateLen (firedS gatedS 1 3) 4 = 0
      ∧ firedNext (firedS placedS 3 65535) 0 3 = some (fired 3 65535) ∧ awake (firedS placedS 3 65535) (80 + 65535 / 4096) = true
      ∧ firedNext (firedS waitS 7 2) 0 7 = some (fired 7 2) ∧ (fired 7 2).index.toNat = (2 : PupId).val
      ∧ (pup (firedS waitS 7 2) 2).wait = some 4 ∧ (pup (firedS placedS 7 2) 2).wait = none
      ∧ running (firedS placedS 1 1024) = true ∧ firedNext (firedS placedS 1 1024) 0 1 = some (fired 1 1024)
      ∧ firedNext (firedS placedS 3 65536) 0 3 = some (fired 3 65536) ∧ firedNext (firedS placedS 4 128) 0 4 = some (fired 4 128)
      ∧ firedNext (firedS placedS 6 64) 0 6 = some (fired 6 64) ∧ firedNext (firedS placedS 7 8) 0 7 = some (fired 7 8)
      ∧ firedNext (firedS placedS 4 95) 0 4 = some (fired 4 95) ∧ domState (firedS placedS 4 95) 95 = 0
      ∧ domState (firedS (setDomain placedS 95 1) 4 95) 95 = 1 ∧ 95 ∉ (firedS (setDomain placedS 95 1) 4 95).pwr.waking
      ∧ 2 ≤ domState (firedS (setDomain placedS 95 2) 4 95) 95 ∧ 95 ∉ (firedS (setDomain placedS 95 2) 4 95).pwr.waking
      ∧ (firedS (setDomain placedS 95 2) 4 95).pwr.starved = []
      ∧ mapFind (firedS { setDomain placedS 95 2 with pwr := { (setDomain placedS 95 2).pwr with alarms := [(95, 1023)] } } 4 95).pwr.alarms 95 = some 1023
      ∧ mapFind (firedS (setDomain placedS 95 2) 4 95).pwr.alarms 95 = none := by
  (repeat' apply And.intro) <;> decide +kernel

/-- StepsBeginAtTheirEntries: a core that may begin a step, and one that runs one. -/
theorem test_hyps_begin :
    running (firedS stepS 6 0) = true ∧ firedNext (firedS stepS 6 0) 0 6 = some (fired 6 0) ∧ coreOf (firedS stepS 6 0) (fired 6 0).index.toNat = some 0
      ∧ tiedEntry (firedS stepS 6 0) (Machine.core (firedS stepS 6 0) 0).job.toNat 0 = some 0
      ∧ (imageOf (firedS stepS 6 0) (Machine.core (firedS stepS 6 0) 0).job.toNat).bind (fun i => i.entries[0]?) = image1.entries[0]?
      ∧ coreAwake (firedS stepS 6 0) 0 = true ∧ mayBegin (firedS stepS 6 0) 0 = true ∧ (Machine.core (firedS stepS 6 0) 0).dueEntries = []
      ∧ mayBegin (firedS (runS id) 6 0) 0 = false ∧ tiedEntry (firedS (runS id) 6 0) (Machine.core (firedS (runS id) 6 0) 0).job.toNat 0 = some 0
      ∧ coreOf stepS 0 = some 0 ∧ mayBegin stepS 0 = true ∧ coreAwake stepS 0 = true
      ∧ slotEntryOf stepS (Machine.core stepS 0).job.toNat 0 = some (1, ⟨0, 2, false, false, 3, 4, 0⟩)
      ∧ (imageOf stepS (Machine.core stepS 0).job.toNat).bind (fun i => i.entries[1]?) = some ⟨0, 2, false, false, 3, 4, 0⟩ := by
  (repeat' apply And.intro) <;> decide +kernel

/-- StepsEndOrAreRetried: an ended step, a trapped one with no retry (entry 1), a trapped one with one (entry 0), and one
that runs on. -/
theorem test_hyps_ends :
    running (runS (fun c => { c with ended := true })) = true ∧ (Machine.core (runS (fun c => { c with ended := true })) 0).running = true
      ∧ quietCore (Machine.core (runS (fun c => { c with ended := true })) 0) = true
      ∧ (Machine.core (runS (fun c => { c with ended := true })) 0).dueEntries = [] ∧ WakeAlarms (runS (fun c => { c with ended := true }))
      ∧ (Machine.core (runS (fun c => { c with ended := true })) 0).trap = none
      ∧ entryOf (runS (fun c => { c with ended := true })) 0 = some ⟨0, 1, true, true, 0, 0, 0⟩
      ∧ job (runS (fun c => { c with ended := true })) (Machine.core (runS (fun c => { c with ended := true })) 0).job.toNat
          = some { job1 with image := some image1 }
      ∧ entryOf (runS (fun c => { c with ended := true, entry := 1 })) 0 = some ⟨0, 2, false, false, 3, 4, 0⟩
      ∧ (Machine.core (runS (fun c => { c with trap := some 8, entry := 1 })) 0).trap = some 8
      ∧ mayRetry (runS (fun c => { c with trap := some 8, entry := 1 })) 0 = false
      ∧ (Machine.core (runS (fun c => { c with trap := some 1 })) 0).trap.isSome = true
      ∧ quietCore (Machine.core (runS (fun c => { c with trap := some 1 })) 0) = true
      ∧ mayRetry (runS (fun c => { c with trap := some 1 })) 0 = true ∧ (Machine.core (runS id) 0).trap = none
      ∧ ¬ ((Machine.core (runS id) 0).ended = true ∧ quietCore (Machine.core (runS id) 0) = true) := by
  unfold WakeAlarms; (repeat' apply And.intro) <;> decide +kernel

/-- A SYNC: SOP, object 5 or the last of all, immediate value where it may have one. -/
def syncD (sop obj v : Nat) : BitVec 128 := BitVec.ofNat 128 (0x1A + sop * 2 ^ 8 + obj * 2 ^ 17 + if sop = 0 ∨ sop = 2 then 0 else 2 ^ 38 + v * 2 ^ 39)
/-- Core 0 of job 1 can issue, and object 65,535 is bound to it. -/
def objS : State := setObj run0 65535 ⟨0, 1⟩

/-- Eight releases wait in the port's queue. -/
def fullS : State := setCore objS 0 { Machine.core objS 0 with held := List.replicate 8 ⟨0, 0, 65535, 1⟩ }

/-- SyncInstructionsReleaseAndWait, TrapsStopTheCore: every SOP on a bound object, an unbound one, the greatest ADD, and one past it. -/
theorem test_hyps_sync :
    canIssue objS (.core 0) = true ∧ (Machine.core objS 0).held.length < 8 ∧ canIssue fullS (.core 0) = true
      ∧ 8 ≤ (Machine.core fullS 0).held.length ∧ descOk 0x1A (syncD 0 65535 0) = true ∧ syncSop (syncD 0 65535 0) = 0
      ∧ descOk 0x1A (syncD 1 65535 (2 ^ 32 - 1)) = true ∧ syncSop (syncD 1 65535 (2 ^ 32 - 1)) = 1
      ∧ (valOf objS 0 (syncD 1 65535 (2 ^ 32 - 1))).toNat ≤ 2 ^ 32 - 1 ∧ descOk 0x1A (syncD 2 65535 0) = true ∧ syncSop (syncD 2 65535 0) = 2
      ∧ descOk 0x1A (syncD 3 65535 9) = true ∧ syncSop (syncD 3 65535 9) = 3
      ∧ objOf objS 0 (syncD 3 65535 9) = 65535
      ∧ 65535 + 0 ≤ 65535 ∧ (Machine.core objS 0).job ≠ 0 ∧ (obj objS 65535).ctrl.extractLsb' 0 16 = (Machine.core objS 0).job
      ∧ (obj run0 65535).ctrl.extractLsb' 0 16 ≠ (Machine.core run0 0).job ∧ objOf run0 0 (syncD 0 65535 0) = 65535
      ∧ canIssue run0 (.core 0) = true := by
  (repeat' apply And.intro) <;> decide +kernel

/-- SyncInstructionsReleaseAndWait: the bindings of these SYNCs, and of a FIRST over one object. -/
theorem test_hyps_bound :
    Bound objS 0 65535 0 ∧ ¬ Bound run0 0 65535 0 ∧ syncSop (syncD 4 65535 0) = 4
      ∧ Bound objS 0 (objOf objS 0 (syncD 4 65535 0)) ((syncD 4 65535 0).extractLsb' 71 5).toNat := by
  refine ⟨⟨by decide, by decide +kernel, fun i hi => ?_⟩, fun h => ?_, by decide +kernel, ⟨by decide +kernel, by decide +kernel, fun i hi => ?_⟩⟩
  · obtain rfl : i = 0 := by omega
    decide +kernel
  · exact absurd (h.2.2 0 (Nat.le_refl 0)) (by decide +kernel)
  · obtain rfl : i = 0 := by have : ((syncD 4 65535 0).extractLsb' 71 5).toNat = 0 := by decide +kernel
                             omega
    decide +kernel

/-- Core 0 waits on object 65,535, or, with FIRST, on 65,534 and 65,535. -/
def heldS (w : CoreWait) : State := setCore objS 0 { Machine.core objS 0 with wait := some w }

/-- ReleasesAndWaitsMeet: a waiter that is satisfied at its second object, one that is not, and a SET among releases. -/
theorem test_hyps_waits :
    running objS = true ∧ ([0, 1] : List CoreId).Nodup
      ∧ (Machine.core (heldS ⟨65534, 1, 0, some 2, none⟩) 0).wait = some ⟨65534, 1, 0, some 2, none⟩
      ∧ (0 : Word).toNat ≤ (obj (heldS ⟨65534, 1, 0, some 2, none⟩) (65534 + 0)).count.toNat
      ∧ (∀ i, i ≤ 0 → (obj (heldS ⟨65535, 0, 1, none, none⟩) (65535 + i)).count.toNat < (1 : Word).toNat)
      ∧ (∀ k, k < 128 → slotValid objS k = false) ∧ coreAwake (heldS ⟨65534, 1, 0, some 2, none⟩) 0 = true
      ∧ coreAwake (setDomain (heldS ⟨65534, 1, 0, some 2, none⟩) 0 2) 0 = false
      ∧ (⟨65534, 1, 0, some 2, some 1⟩ : CoreWait).hit = some 1 ∧ nextWork objS ≠ some .prov
      ∧ nextWork { objS with sec := { objS.sec with work := [.prov] } } = some .prov
      ∧ readyRelease (setCore objS 0 { Machine.core objS 0 with held := [⟨0, 2, 65535, 7⟩] }) 0 = some ⟨0, 2, 65535, 7⟩ := by
  (repeat' apply And.intro) <;> decide +kernel

/-! ### Tensor descriptors -/

/-- The value of a check that passes. -/
theorem ok_of {α : Type} {x : Except Nat α} {v : α} (h : x.toOption = some v) : x = .ok v := by
  cases x with
  | error _ => cases h
  | ok _ => simp only [Except.toOption, Option.some.injEq] at h; rw [h]

/-- A FILL of one row of 8 bytes at g1; a COPY of one row from g0 to g1; a SKEW of one row of 8-bit elements; a push to the target in g1. -/
def fillD : BitVec 128 := BitVec.ofNat 128 (0x02 + 2 * 2 ^ 8 + 1 * 2 ^ 17 + 1 * 2 ^ 27 + 8 * 2 ^ 43)
/-- COPY. -/
def copyD : BitVec 128 := BitVec.ofNat 128 (0x02 + 1 * 2 ^ 17 + 1 * 2 ^ 27 + 8 * 2 ^ 43)
/-- SKEW. -/
def skewD : BitVec 128 := BitVec.ofNat 128 (0x02 + 1 * 2 ^ 8 + 1 * 2 ^ 17 + 1 * 2 ^ 27 + 2 * 2 ^ 125)
/-- A remote push. -/
def pushD : BitVec 128 := BitVec.ofNat 128 (0x02 + 1 * 2 ^ 22 + 1 * 2 ^ 27 + 8 * 2 ^ 43)
/-- An INT8 MMA of one row and one column, feed at g0, destination at g1. -/
def mmaD : BitVec 128 := BitVec.ofNat 128 (0x06 + 9 * 2 ^ 8 + 9 * 2 ^ 12 + 1 * 2 ^ 21 + 256 * 2 ^ 48)
/-- A WLD of one INT8 row at g1. -/
def wldD : BitVec 128 := BitVec.ofNat 128 (0x0A + 9 * 2 ^ 8 + 1 * 2 ^ 12 + 64 * 2 ^ 28)
/-- An INT32 vector addition of one element of g0 to one of g0, at g1, with a STRIDE. -/
def vecD (stride : Nat) : BitVec 128 := BitVec.ofNat 128 (0x12 + 8 * 2 ^ 13 + 1 * 2 ^ 19 + 1 * 2 ^ 43 + 1 * 2 ^ 59 + stride * 2 ^ 75)
/-- A conversion of one INT8 to FP32, from g0 to g1. -/
def cvtD : BitVec 128 := BitVec.ofNat 128 (0x16 + 9 * 2 ^ 8 + 1 * 2 ^ 25 + 1 * 2 ^ 35 + 1 * 2 ^ 51 + 64 * 2 ^ 67 + 64 * 2 ^ 87)
/-- Core 0 with g1 at an address and INT8 weights in bank 0. -/
def ztS (v : Word) : State := setCore (regS v) 0 { Machine.core (regS v) 0 with bank0 := ⟨some 9, false, 1, List.replicate 64 3, []⟩ }

/-- DescriptorsJoinTheirQueues: each unit's descriptor passes its checks at issue. -/
theorem test_hyps_issue :
    canIssue (ztS 0x10000) (.core 0) = true
      ∧ descOk 0x02 fillD = true ∧ dmaRankG fillD = 0 ∧ (Machine.core (ztS 0x10000) 0).dma.length < 9
      ∧ (∀ o ∈ (Machine.core (ztS 0x10000) 0).dma, dmaRankG o.d = 0)
      ∧ dmaPrep (ztS 0x10000) 0 fillD = .ok ([0, 0x10000, 0], [], [⟨coreKey 0 + 0x10000, 8⟩], false)
      ∧ descOk 0x06 mmaD = true ∧ (Machine.core (ztS 0x10000) 0).mx.length < 9
      ∧ mmaPrep (ztS 0x10000) 0 mmaD = .ok ([], [⟨coreKey 0, 32768⟩], [⟨coreKey 0 + 0x10000, 4⟩], false)
      ∧ descOk 0x0A wldD = true ∧ wldPrep (ztS 0x10000) 0 wldD = .ok ([], [⟨coreKey 0 + 0x10000, 64⟩], [], false)
      ∧ descOk 0x12 (vecD 64) = true ∧ (Machine.core (ztS 0x10000) 0).vec.length < 9
      ∧ vecPrep (ztS 0x10000) 0 (vecD 64) = .ok ([0], [⟨coreKey 0, 4⟩, ⟨coreKey 0, 4⟩], [⟨coreKey 0 + 0x10000, 4⟩], false)
      ∧ descOk 0x16 cvtD = true ∧ cvtPrep (ztS 0x10000) 0 cvtD = .ok ([], [⟨coreKey 0, 1⟩], [⟨coreKey 0 + 0x10000, 4⟩], false)
      ∧ (∀ o ∈ (Machine.core (ztS 0x10000) 0).mx, o.d.toNat % 256 ≠ 0x0A ∧ o.d.toNat % 256 ≠ 0x0E) ∧ descOk 0x02 mmaD = false := by
  (repeat' apply And.intro) <;> decide +kernel

/-- TrapsStopTheCore: descriptors that run-time checks refuse. -/
theorem test_hyps_bad_descriptors :
    canIssue run0 (.core 0) = true ∧ descOk 0x06 mmaD = true
      ∧ ((Machine.core run0 0).bankView (Machine.core run0 0).sel).1 ≠ some (mmaD.extractLsb' 12 4)
      ∧ canIssue (ztS 0x20) (.core 0) = true ∧ (getG (ztS 0x20) (.core 0) (mmaDstG mmaD)).toNat % 64 ≠ 0
      ∧ descOk 0x0A wldD = true ∧ (getG (ztS 0x20) (.core 0) (wldSrcG wldD)).toNat % 64 ≠ 0
      ∧ descOk 0x12 (vecD 0) = true ∧ vecStride (vecD 0) < vecCols (vecD 0) * (fmtWidth (vecFmt (vecD 0)) / 8)
      ∧ descOk 0x02 pushD = true ∧ dmaRankG pushD ≠ 0 ∧ 2 ^ 37 ≤ (getG (ztS 0x2000000000) (.core 0) (dmaRankG pushD)).toNat
      ∧ (Machine.core (ztS 0x2000000000) 0).dma = [] := by
  (repeat' apply And.intro) <;> decide +kernel

/-- An operation in a queue. -/
def zop (d : BitVec 128) (r : List Word) (rd wr : List Span) : ZtOp := ⟨0, 0, d, r, 0, false, rd, wr, false, false⟩
/-- Core 0 with its one DMA, its one matrix operation, or its one vector operation. -/
def dmaS (o : ZtOp) : State := setCore run0 0 { Machine.core run0 0 with dma := [o] }
/-- One matrix operation. -/
def mxS (o : ZtOp) : State := setCore (ztS 0) 0 { Machine.core (ztS 0) 0 with mx := [o] }
/-- One vector operation. -/
def vecS (o : ZtOp) : State := setCore run0 0 { Machine.core run0 0 with vec := [o] }
/-- The operations of the descriptors above. -/
def fillO : ZtOp := zop fillD [5] [] [⟨coreKey 0 + 0x10000, 8⟩]
/-- A FILL that signals object 65,535. -/
def fillSyncO : ZtOp := zop (fillD ||| BitVec.ofNat 128 (65535 * 2 ^ 103 + 2 ^ 119)) [5] [] [⟨coreKey 0 + 0x10000, 8⟩]
/-- COPY. -/
def copyO : ZtOp := zop copyD [] [⟨coreKey 0, 8⟩] [⟨coreKey 0 + 0x10000, 8⟩]
/-- SKEW. -/
def skewO : ZtOp := zop skewD [] [⟨coreKey 0, 64⟩] [⟨coreKey 0 + 0x10000, 8192⟩]
/-- MMA. -/
def mmaO : ZtOp := zop mmaD [] [⟨coreKey 0, 32768⟩] [⟨coreKey 0 + 0x10000, 4⟩]
/-- MMA whose feed and destination lie in cluster SRAM. -/
def cluO : ZtOp := zop mmaD [] [⟨cluKey 0, 32768⟩] [⟨cluKey 0 + 0x10000, 4⟩]
/-- WLD. -/
def wldO : ZtOp := zop wldD [] [⟨coreKey 0 + 0x10000, 64⟩] []
/-- VEC. -/
def vecO : ZtOp := zop (vecD 64) [0] [⟨coreKey 0, 4⟩, ⟨coreKey 0, 4⟩] [⟨coreKey 0 + 0x10000, 4⟩]
/-- CVT. -/
def cvtO : ZtOp := zop cvtD [] [⟨coreKey 0, 1⟩] [⟨coreKey 0 + 0x10000, 4⟩]

/-- DmaMovesDataHereAndAway: a FILL, a COPY, a SKEW that complete, and a push that its engine takes. -/
theorem test_hyps_dma :
    running (dmaS fillO) = true ∧ (Machine.core (dmaS fillO) 0).dma = [fillO] ∧ dmaRankG fillO.d = 0
      ∧ (fillO.reads ++ fillO.writes).all (stillThere (dmaS fillO)) = true ∧ asleepAt (dmaS fillO) fillO = none
      ∧ Clean (dmaS fillO) (fillO.reads ++ fillO.writes) ∧ dmaSyncEn fillO.d = false ∧ dmaMode fillO.d = 2
      ∧ fillO.finished = false ∧ fillO.formed = false ∧ fillO.writes.Pairwise Apart ∧ copyO.writes.Pairwise Apart
      ∧ dmaSyncEn fillSyncO.d = true ∧ slotOfArrive (dmaS fillSyncO) (dmaDoneSync fillSyncO.d) = none
      ∧ (copyO.reads ++ copyO.writes).all (stillThere (dmaS copyO)) = true ∧ asleepAt (dmaS copyO) copyO = none
      ∧ dmaMode copyO.d = 0 ∧ copyO.reads.length = copyO.writes.length
      ∧ (∀ x ∈ copyO.reads, ∀ y ∈ copyO.writes, Apart x y)
      ∧ dmaMode skewO.d = 1 ∧ dmaEw skewO.d = 2 ∧ (skewO.reads ++ skewO.writes).all (stillThere (dmaS skewO)) = true
      ∧ asleepAt (dmaS skewO) skewO = none ∧ Apart ⟨coreKey 0, 64⟩ ⟨coreKey 0 + 0x10000, 8192⟩
      ∧ canIssue run0 (.core 0) = true ∧ descOk 0x02 pushD = true ∧ dmaRankG pushD ≠ 0 ∧ dmaSpray pushD = false
      ∧ dmaPrep run0 0 pushD = .ok ([0, 0, 0], [⟨coreKey 0, 8⟩], [], false)
      ∧ asleepAt run0 (opOf run0 0 pushD [0, 0, 0] [⟨coreKey 0, 8⟩] []) = none ∧ Clean run0 [⟨coreKey 0, 8⟩]
      ∧ (∀ x ∈ [(⟨coreKey 0, 8⟩ : Span)], 0 < x.len) := by
  unfold Clean Apart; (repeat' apply And.intro) <;> decide +kernel

/-- TheMatrixUnitMultiplies: the oldest MMA, over a bank of one K row, and the oldest WLD. -/
theorem test_hyps_matrix :
    running (mxS mmaO) = true ∧ mxNext (Machine.core (mxS mmaO) 0) 0x06 = some mmaO
      ∧ mmaO.writes.length = mmaRows mmaO.d ∧ (∀ x ∈ mmaO.writes, x.len = 4 * mmaCols mmaO.d) ∧ (mxS mmaO).bad = []
      ∧ mmaAFmt mmaO.d = 9 ∧ mmaWFmt mmaO.d = 9 ∧ mmaIscale mmaO.d = false ∧ mmaRows mmaO.d = 1
      ∧ (if mmaO.bank then (Machine.core (mxS mmaO) 0).bank1 else (Machine.core (mxS mmaO) 0).bank0).kRows ≤ 64
      ∧ mxNext (Machine.core (mxS wldO) 0) 0x0A = some wldO ∧ Clean (mxS wldO) wldO.reads
      ∧ (∀ x ∈ (Machine.core (mxS wldO) 0).mx, x.d.toNat % 256 ≠ 0x0E)
      ∧ (∀ x ∈ mmaO.reads.take 1, x.lo < cluKey 0) ∧ (∀ x ∈ mmaO.writes, x.lo < cluKey 0)
      ∧ mxNext (Machine.core (mxS cluO) 0) 0x06 = some cluO ∧ (∃ x ∈ cluO.reads.take 1, cluKey 0 ≤ x.lo) ∧ (∃ x ∈ cluO.writes, cluKey 0 ≤ x.lo)
      ∧ canIssue (mxS wldO) (.core 0) = true ∧ (Machine.core (mxS wldO) 0).mx = [] ++ wldO :: [] ∧ wldO.d.toNat % 256 = 0x0A := by
  unfold Clean; (repeat' apply And.intro) <;> decide +kernel

/-- VectorOperationsWriteTheirRows: an INT32 addition and a conversion. -/
theorem test_hyps_vector :
    running (vecS vecO) = true ∧ (Machine.core (vecS vecO) 0).vec = vecO :: [] ∧ Clean (vecS vecO) (vecO.reads ++ vecO.writes)
      ∧ vecO.d.toNat % 256 = 0x12 ∧ vecO.writes.length = vecRows vecO.d
      ∧ (∀ x ∈ vecO.writes, x.len = if 22 ≤ vecOp vecO.d then fmtWidth (vecFmt vecO.d) / 8 else vecCols vecO.d * (fmtWidth (vecFmt vecO.d) / 8))
      ∧ vecOp vecO.d = 0 ∧ vecFmt vecO.d = 8 ∧ vecRows vecO.d = 1 ∧ (∀ x ∈ vecO.reads, ∀ y ∈ vecO.writes, Apart x y)
      ∧ (∀ x ∈ vecO.reads, x.len = 4 * vecCols vecO.d) ∧ vecO.reads.length = (if vecBScalar vecO.d then 1 else 2)
      ∧ cvtO.d.toNat % 256 = 0x16 ∧ cvtO.writes.length = cvtRows cvtO.d * (if cvtMx cvtO.d then 2 else 1)
      ∧ (∀ i, i < cvtRows cvtO.d → (cvtO.writes.getD i ⟨0, 0⟩).len = rowBytes (fmtWidth (cvtDstFmt cvtO.d)) (cvtCols cvtO.d))
      ∧ cvtMx cvtO.d = false ∧ cvtRows cvtO.d = 1 ∧ fmtWidth (cvtSrcFmt cvtO.d) = 8 ∧ fmtWidth (cvtDstFmt cvtO.d) = 32
      ∧ cvtRm cvtO.d = 0 := by
  unfold Clean Apart; (repeat' apply And.intro) <;> decide +kernel

/-! ### Flow programs, rings, collectives -/

/-- Group 1 of job 1: this device alone, one shard on engine 0, one member of rank 0. -/
def group1 : Group :=
  { gid := 1, cset := 0xFFFF, job := 1, herdK := 1, vc := 0, replicas := 1, devices := [0], members := [(0, 0, 0)],
    shards := [⟨0, 0, [(0xFFFF, 0)]⟩], me := 0, digest := 0, expelled := 0, stats := [], lost := false, moved := [], fwd := [] }
/-- The words of a launch: OP, WINDOW 1, 512 FP32 elements, group 1, its conflict set and SEQ, DEST_ADDR. -/
def lwords (op cset seq dest : Nat) : List Word :=
  [BitVec.ofNat 64 (op + 2 ^ 24 + 2 ^ 32 + cset * 2 ^ 48), BitVec.ofNat 64 (seq + 2 ^ 32), 512, BitVec.ofNat 64 dest] ++ List.replicate 20 0
/-- An admitted launch of group 1 whose flow runs on engine 0. -/
def launch1 (op : Nat) : Launch := { Launch.fresh 0 1 (lwords op 0xFFFF 0 0) 1 0 with stage := 2, flows := [Flow.start 0] }
/-- The running device with job 1, group 1 and a launch. -/
def launchS (x : Launch) : State := { jobS with coll := { jobS.coll with groups := [group1], launches := [x] } }
/-- The launch with its chunk 0 open. -/
def openL (op : Nat) : Launch := { launch1 op with chunks := ((getChunk group1 (launch1 op) 0 0).map (fun c => { c with opened := true })).toList }
/-- The same with its flow at FEND. -/
def fendedL (op : Nat) : Launch := { launch1 op with flows := [{ Flow.start 0 with fend := true }] }
/-- A gather at a DEST_ADDR in tier 0, of FP32 elements and of MX-scaled ones. -/
def destL : Launch := { Launch.fresh 0 1 (lwords 2 0xFFFF 0 0x100000000) 1 0 with stage := 2, flows := [Flow.start 0] }
/-- MX. -/
def mxL : Launch := { destL with words := lwords (2 + 4 * 2 ^ 8) 0xFFFF 0 0x100000000 }
/-- A launch with statistics on its last engine, and on the first of two. -/
def statL : Launch := launch1 (2 ^ 16)
/-- Two engines. -/
def stat2L : Launch := { statL with flows := [Flow.start 0, Flow.start 1] }
/-- A read that gives its bytes. -/
def okRead (r : Read) : Bool := match r with | .ok _ => true | _ => false
/-- A launch that holds a release to be made. -/
def sigL : Launch := { launch1 0 with sigs := [⟨0, 5, 3, []⟩] }

/-- FlowProgramsRun: a flow that issues, listed and reserved functions, shifts by 63 and 64, taken and untaken branches. -/
theorem test_hyps_flow :
    OnFlow (launchS (launch1 0)) 0 0 group1 (launch1 0) (Flow.start 0)
      ∧ (∃ v, ((7 : BitVec 14).toNat, v) ∈ faluTable 3 5) ∧ ((4 : BitVec 14).toNat = 4 ∧ (0 + (63 : BitVec 32).signExtend 64 : Word).toNat < 64)
      ∧ ((5 : BitVec 14).toNat = 4 ∨ (5 : BitVec 14).toNat = 5) ∧ 64 ≤ (0 + (64 : BitVec 32).signExtend 64 : Word).toNat
      ∧ (23 : BitVec 32).toNat < 24 ∧ (∃ p, ((1 : BitVec 14).toNat, p) ∈ fbrTable 0 0 ∧ p) ∧ (∃ p, ((2 : BitVec 14).toNat, p) ∈ fbrTable 0 0 ∧ ¬ p)
      ∧ 7 < (8 : BitVec 14).toNat ∧ 4 < (5 : BitVec 14).toNat := by
  refine ⟨?_, ⟨_, by unfold faluTable; repeat' constructor⟩, by decide, by decide, by decide, by decide,
    ⟨_, by unfold fbrTable; exact .tail _ (.head _), rfl⟩, ⟨_, by unfold fbrTable; exact .tail _ (.tail _ (.head _)), by simp⟩, by decide, by decide⟩
  unfold OnFlow; (repeat' apply And.intro) <;> decide +kernel

/-- FlowProgramsRun: a chunk not yet open, with room for it and without; an open one; HERD's shard; a launch of no statistics. -/
theorem test_hyps_chunks :
    (∃ c, getChunk group1 (launch1 0) 0 0 = some c ∧ c.opened = false) ∧ openChunks (launch1 0) 0 < (launch1 0).window
      ∧ (∃ c, getChunk group1 (openL 0) 0 0 = some c ∧ c.opened = true ∧ (∃ i c', (i, c') ∈ chunkForms 0 0 0 c))
      ∧ (launch1 0).window ≤ openChunks (openL 0) 0 ∧ (launch1 0).dest = 0 ∧ (launch1 0).stats = false
      ∧ OnFlow (launchS destL) 0 0 group1 destL (Flow.start 0) ∧ destL.dest ≠ 0 ∧ destL.mx = false
      ∧ (match getChunk group1 destL 0 0 with | some c => okRead (readAt (launchS destL) (destAddr destL destL.inFmt c.first) (chunkLen destL c)) | none => false) = true
      ∧ OnFlow (launchS mxL) 0 0 group1 mxL (Flow.start 0) ∧ mxL.dest ≠ 0 ∧ mxL.mx = true
      ∧ (match getChunk group1 mxL 0 0 with
          | some c => okRead (readAt (launchS mxL) (destAddr mxL mxL.inFmt c.first) (chunkLen mxL c)) && okRead (readAt (launchS mxL) (scaleAddr mxL c.first) (c.len / 32))
          | none => false) = true
      ∧ OnFlow (launchS statL) 0 0 group1 statL (Flow.start 0) ∧ statL.stats = true ∧ (Flow.start 0).statDone = false
      ∧ (∀ y ∈ statL.flows, y.engine ≠ (0 : Engine).val → y.statDone = true)
      ∧ OnFlow (launchS stat2L) 0 0 group1 stat2L (Flow.start 0) ∧ stat2L.stats = true
      ∧ (∃ y ∈ stat2L.flows, y.engine ≠ (0 : Engine).val ∧ y.statDone = false)
      ∧ currentShard group1 (launch1 5) 0 0 = some 0 ∧ (0 : Word).toNat < leafCount (shardBytes group1 (launch1 5) 0)
      ∧ OnFlow (launchS (launch1 5)) 0 0 group1 (launch1 5) (Flow.start 0) ∧ OnFlow (launchS (openL 0)) 0 0 group1 (openL 0) (Flow.start 0) := by
  refine ⟨⟨_, rfl, rfl⟩, by decide +kernel, ⟨_, rfl, rfl, _, _, .head _⟩, ?_⟩
  unfold OnFlow; (repeat' apply And.intro) <;> decide +kernel

/-- LaunchesProceed: a launch for which nothing is due, one with a release, one that completes with and without staging. -/
theorem test_hyps_launch :
    launch (launchS (launch1 0)) 0 = some (launch1 0) ∧ launchGroup (launchS (launch1 0)) (launch1 0) = some group1
      ∧ NothingDue group1 (launch1 0) ∧ NothingDue group1 { sigL with sigs := [] } ∧ sigL.sigs = [⟨0, 5, 3, []⟩]
      ∧ launch (launchS (fendedL 0)) 0 = some (fendedL 0) ∧ (fendedL 0).op ≠ 5 ∧ (fendedL 0).stats = false ∧ (fendedL 0).chunks = []
      ∧ csetOf (launchS (fendedL 0)) (fendedL 0).job (fendedL 0).cset = none ∧ (fendedL 0).syncEn = false
      ∧ (fendedL 0).stage = 2 ∧ (∀ f ∈ (fendedL 0).flows, f.fend = true) ∧ (fendedL 0).unsent = 0 ∧ (∀ e ∈ servers (launchS (fendedL 0)) (fendedL 0), e < 16)
      ∧ (∀ r ∈ { fendedL 0 with staging := [(15, 3)] }.staging, r.1 < 16)
      ∧ job (launchS (fendedL 0)) (fendedL 0).job = some job1 ∧ job1.index < 4096 := by
  unfold NothingDue; (repeat' apply And.intro) <;> decide +kernel

/-- A COLL packet of one FP32 element of rank 0, in the locals of a state. -/
def collP (lseq : Nat) : Pkt :=
  { no := 0, p := mkPacket { type := 1, vc := 0, job := 1, group := 1, lseq := lseq } [1, 2, 3, 4], die := 0, port := none, input := 0, key := 0,
    arrived := 0, vc := 0, twin := 0, injected := false, buf := none, dest := .here, hold := 0, since := 0, deferred := false, whole := true, owner := none }
/-- The packet has arrived. -/
def pktS (x : Launch) (lseq : Nat) : State := { launchS x with net := { (launchS x).net with locals := [collP lseq] } }

/-- LaunchesProceed: a packet of an admitted launch, and one of a launch that is not known. -/
theorem test_hyps_coll_packet :
    running (pktS (openL 0) 0) = true ∧ localPkt (pktS (openL 0) 0) 0 = some (collP 0) ∧ (collP 0).p.type = 1 ∧ (collP 0).p.fence = false ∧ (collP 0).hold ≤ 1 ∧ (collP 0).owner = none ∧ (collP 0).buf = none
      ∧ (pktS (openL 0) 0).coll.launches.find? (fun x => x.job == (collP 0).p.job && x.gid == (collP 0).p.group && x.seq == (collP 0).p.lseq)
          = some (openL 0)
      ∧ (openL 0).stage = 2 ∧ launchGroup (pktS (openL 0) 0) (openL 0) = some group1 ∧ (collP 0).p.stomp = false
      ∧ (collP 0).p.ckind = 0 ∧ (openL 0).op ≤ 1 ∧ group1.expels (collP 0).p.input = false
      ∧ (contributors group1 (openL 0)).any (fun m => m.1 == (collP 0).p.input && m.2.2 == group1.me) = true
      ∧ touchesOpen group1 (openL 0) (collP 0).p.offset (pktTerms false (collP 0).p).length = true ∧ (pktTerms false (collP 0).p).length = 1
      ∧ launchElem group1 (openL 0) (collP 0).p.offset = some (0, 0, 0) ∧ (findChunk (openL 0) 0 0).isSome = true ∧ group1.server 0 < 16
      ∧ (pktS (openL 0) 9).coll.launches.find? (fun x => x.job == (collP 9).p.job && x.gid == (collP 9).p.group && x.seq == (collP 9).p.lseq) = none
      ∧ endedLaunch (pktS (openL 0) 9) (collP 9).p = none
      ∧ earlyBytes (pktS (openL 0) 9) 0 + 64 + (collP 9).p.payload.length ≤ 524288
      ∧ groupOf { pktS (openL 0) 9 with coll := { (pktS (openL 0) 9).coll with groups := [], launches := [] } } 1 1 = none := by
  (repeat' apply And.intro) <;> decide +kernel

/-- Ring 0 is enabled, with 16 entries, a PERIOD and FETCH_AT at 9. -/
def ringS (period : Nat) (fetching : Option Word) : State :=
  let s := setF (setF (setF upS (HIF_CR_CTRL 0) HIF_CR_CTRL_EN 1) (HIF_CR_CTRL 0) HIF_CR_CTRL_LOG2SIZE 4) (HIF_CR_CTRL 0) HIF_CR_CTRL_PERIOD period
  setCring s 0 { cring s 0 with fetchAt := some 9, fetching := fetching }

/-- RingsFetchTheirEntries: a period with its next point, none, FETCH_AT, RING_FETCH alarms in range and not; a fetch of one
entry, and a TAIL beyond the ring. -/
theorem test_hyps_fetch :
    mayFetch (ringS 1 none) 0 = true ∧ getF (ringS 1 none) (HIF_CR_CTRL 0) HIF_CR_CTRL_PERIOD ≠ 0 ∧ (ringS 1 none).ftu.ft < 2 ^ 79
      ∧ (ringS 1 none).ftu.ft ≤ 0 * 65536 ∧ 0 % 1000 = getF (ringS 1 none) (HIF_CR_CTRL 0) HIF_CR_CTRL_PHASE * 1000 % 1000
      ∧ getF (ringS 0 none) (HIF_CR_CTRL 0) HIF_CR_CTRL_PERIOD = 0 ∧ mayFetch upS 0 = false ∧ (cring (ringS 1 none) 0).fetchAt = some 9
      ∧ firedNext (firedS (ringS 1 none) 2 0) 0 2 = some (fired 2 0) ∧ firedNext (firedS (ringS 1 none) 2 256) 0 2 = some (fired 2 256)
      ∧ running (ringS 1 (some 5)) = true ∧ (cring (ringS 1 (some 5)) 0).fetching = some 5 ∧ mayFetch (ringS 1 (some 5)) 0 = true
      ∧ getF (ringS 1 (some 5)) (HIF_CR_STATUS 0) HIF_CR_STATUS_HEAD = 0
      ∧ (16 + 2 ^ 32 - 0) % 2 ^ 32 ≤ 2 ^ getF (ringS 1 (some 5)) (HIF_CR_CTRL 0) HIF_CR_CTRL_LOG2SIZE
      ∧ 2 ^ getF (ringS 1 (some 5)) (HIF_CR_CTRL 0) HIF_CR_CTRL_LOG2SIZE < (17 + 2 ^ 32 - 0) % 2 ^ 32 := by
  (repeat' apply And.intro) <;> decide +kernel

/-- RingCommandsRunInOrder: entries of each kind at the front, FETCH_AT to come and passed, a ring held back. -/
theorem test_hyps_commands :
    AtFront (cmdS upS (entry 0 0 [])) 0 (entry 0 0 []) ∧ AtFront (cmdS upS (entry 1 0 [9])) 0 (entry 1 0 [9])
      ∧ (now (cmdS upS (entry 1 0 [9]))).toNat < (wordAt (entry 1 0 [9]).words 2).toNat
      ∧ (wordAt (entry 1 0 [0]).words 2).toNat ≤ (now (cmdS upS (entry 1 0 [0]))).toNat
      ∧ AtFront (cmdS upS (entry 12 0 [])) 0 (entry 12 0 []) ∧ 12 ≤ (wordAt (entry 12 0 []).words 0).toNat % 2 ^ 8
      ∧ (Instr.fetchAt 0, 1) ∈ ringCommands 0 ∧ (wordAt (entry 0 0 []).words 0).toNat % 2 ^ 8 ≠ 1
      ∧ serialHeld (setCring upS 0 { cring upS 0 with serial := true }) 0 = true := by
  unfold AtFront; (repeat' apply And.intro) <;> decide +kernel

/-- Completion ring 0 of 16 entries polls, with TAIL at 16 and an entry that waits. -/
def cplS : State :=
  let s := setF (setF (setF upS (HIF_QR_CTRL 0) HIF_QR_CTRL_EN 1) (HIF_QR_CTRL 0) HIF_QR_CTRL_LOG2SIZE 4) (HIF_QR_STATUS 0) HIF_QR_STATUS_TAIL 16
  setQring s 0 { qring s 0 with polling := true, waiting := [⟨0, 0, 0, 1, [], none, false⟩], holdFirst := some 5 }

/-- CompletionRingsPollAndSignal: HEADs that leave room, fill the ring, and lie out of range; masked and unmasked vectors. -/
theorem test_hyps_poll :
    running cplS = true ∧ (16 : Nat) = 2 ^ getF cplS (HIF_QR_CTRL 0) HIF_QR_CTRL_LOG2SIZE ∧ (qring cplS 0).polling = true
      ∧ isSet cplS (HIF_QR_CTRL 0) HIF_QR_CTRL_EN = true ∧ hostUp cplS = true ∧ (qring cplS 0).waiting = [⟨0, 0, 0, 1, [], none, false⟩]
      ∧ (getF cplS (HIF_QR_STATUS 0) HIF_QR_STATUS_TAIL + 2 ^ 32 - (1 : BitVec 32).toNat) % 2 ^ 32 < 16
      ∧ (getF cplS (HIF_QR_STATUS 0) HIF_QR_STATUS_TAIL + 2 ^ 32 - (0 : BitVec 32).toNat) % 2 ^ 32 = 16
      ∧ 16 < (getF cplS (HIF_QR_STATUS 0) HIF_QR_STATUS_TAIL + 2 ^ 32 - (17 : BitVec 32).toNat) % 2 ^ 32
      ∧ (qring cplS 0).full = false ∧ (qring cplS 0).holdFirst = some 5 ∧ (qring upS 0).holdFirst = none
      ∧ isSet cplS (HIF_MSIX_DATA 0) HIF_MSIX_DATA_MASK = true ∧ cplS.boot.msixEn = false
      ∧ { cplS.boot with msixEn := true }.msixMask = false
      ∧ isSet (setF cplS (HIF_MSIX_DATA 0) HIF_MSIX_DATA_MASK 0) (HIF_MSIX_DATA 0) HIF_MSIX_DATA_MASK = false := by
  (repeat' apply And.intro) <;> decide +kernel

/-- Job 1 with rank 0 translated to this device, and VC 0 enabled. -/
def mapS : State :=
  let s := setF (setF jobS (SWC_JOB 0 0) SWC_JOB_VALID 1) (SWC_JOB 0 0) SWC_JOB_JOB_ID 1
  let s := setF (setF s (SWC_JOB 0 0) SWC_JOB_RTT_COUNT 1) (SWC_JOB 0 0) SWC_JOB_VC_EN 1
  setF (setF s (SWC_RTT 0 0) SWC_RTT_VALID 1) (SWC_RTT_W1 0 0) SWC_RTT_W1_JOB_ID 1
/-- Conflict set 7 of job 1, at E = 20, in slot 1,023. -/
def set7 (broken : Bool) (gap : Option Word) (retries : Nat) : Cset := ⟨1023, 7, 1, 20, broken, gap, retries, none⟩
/-- Group 1 registered with conflict set 7, its set, and launches. -/
def collS (c : Cset) (l : List Launch) : State :=
  { jobS with coll := { jobS.coll with groups := [{ group1 with cset := 7 }], csets := [c], launches := l, nextLaunch := 9 } }
/-- A COLL entry of job 1. -/
def collE (cset seq : Nat) : CmdEntry := entry 8 1 (lwords 0 cset seq 0)
/-- Job 1 has a P3 quota of 1,024 buffers on each die. -/
def withQuota (s : State) : State := (List.range 4).foldl (fun s d => setF s (SWC_JOBQ d 0) SWC_JOBQ_P3_QUOTA 1024) s
/-- A COLL entry at the front, in a state of set 7. -/
def turnS (broken : Bool) (seq : Nat) : State := cmdS (withQuota (collS (set7 broken none 0) [])) (collE 7 seq)

/-- CollFollowsTheSequence: an unadmitted job; a set-less launch; SEQs at E, E + 1, E + 16, E + 17, E − 1; a broken set; a failed check. -/
theorem test_hyps_coll :
    AtFront (cmdS upS (collE 7 20)) 0 (collE 7 20) ∧ (wordAt (collE 7 20).words 0).toNat % 2 ^ 8 = 8 ∧ job (cmdS upS (collE 7 20)) 1 = none
      ∧ AtFront (turnS false 20) 0 (collE 7 20) ∧ job (turnS false 20) (collOf (turnS false 20) (collE 7 20)).job = some job1
      ∧ CollFormed (collE 7 20) (collOf (turnS false 20) (collE 7 20)) ∧ ¬ CollFormed (entry 8 2 (lwords 0 7 20 0)) (collOf (turnS false 20) (entry 8 2 (lwords 0 7 20 0)))
      ∧ refuseLaunch (turnS false 20) (collOf (turnS false 20) (collE 7 20)) = none
      ∧ (∀ k ∈ servers (turnS false 20) (collOf (turnS false 20) (collE 7 20)), k < 16)
      ∧ csetOf (turnS false 20) 1 (collOf (turnS false 20) (collE 7 20)).cset = some (set7 false none 0)
      ∧ turnOf (turnS false 20) 1 7 = none ∧ (turnS false 20).coll.launches = []
      ∧ ((collOf (turnS false 20) (collE 7 20)).seq + 2 ^ 32 - 20) % 2 ^ 32 = 0 ∧ ((collOf (turnS false 21) (collE 7 21)).seq + 2 ^ 32 - 20) % 2 ^ 32 = 1
      ∧ ((collOf (turnS false 36) (collE 7 36)).seq + 2 ^ 32 - 20) % 2 ^ 32 = 16 ∧ ((collOf (turnS false 37) (collE 7 37)).seq + 2 ^ 32 - 20) % 2 ^ 32 = 17
      ∧ 2 ^ 31 ≤ ((collOf (turnS false 19) (collE 7 19)).seq + 2 ^ 32 - 20) % 2 ^ 32 ∧ (set7 true none 0).broken = true
      ∧ csetOf (turnS true 20) 1 7 = some (set7 true none 0) ∧ refuseLaunch (turnS true 20) (collOf (turnS true 20) (collE 7 20)) = none
      ∧ refuseLaunch (turnS false 20) (collOf (turnS false 20) (collE 8 20)) = some 1
      ∧ (collOf (cmdS (withQuota (launchS (launch1 0))) (collE 0xFFFF 3)) (collE 0xFFFF 3)).cset = 0xFFFF
      ∧ refuseLaunch (cmdS (withQuota (launchS (launch1 0))) (collE 0xFFFF 3)) (collOf (cmdS (withQuota (launchS (launch1 0))) (collE 0xFFFF 3)) (collE 0xFFFF 3)) = none := by
  unfold AtFront CollFormed; (repeat' apply And.intro) <;> decide +kernel

/-- A launch at its turn, and the state with a P3 quota and use of job 1. -/
def turnL : Launch := { launch1 0 with stage := 1, flows := [] }
/-- P3 quota and use of job 1 on die 0. -/
def quotaS (quota use : Nat) : State := setF (setF (launchS turnL) (SWC_JOBQ 0 0) SWC_JOBQ_P3_QUOTA quota) (SWC_JOBQ 0 0) SWC_JOBQ_P3_USE use

/-- LaunchesAreAdmittedAndTimed: room, no room now, never room; gap timers early and late; no progress; a second mismatch. -/
theorem test_hyps_admit :
    running (quotaS 1024 0) = true ∧ launch (quotaS 1024 0) 0 = some turnL ∧ turnL.stage = 1 ∧ groupOf (quotaS 1024 0) 1 1 = some group1 ∧ group1.seen (quotaS 1024 0) = group1
      ∧ job (quotaS 1024 0) 1 = some job1 ∧ csetOf (quotaS 1024 0) 1 turnL.cset = none ∧ jobQuiet (quotaS 1024 0) 1 = false
      ∧ engineQuiet (quotaS 1024 0) turnL = false ∧ groupLost (quotaS 1024 0) group1 = false
      ∧ (∀ d, d < 4 → p3Use (quotaS 1024 0) 1 d + dieNeed (launchNeed group1 turnL) d ≤ p3Quota (quotaS 1024 0) 1 d)
      ∧ (∀ d, d < 4 → dieNeed (launchNeed group1 turnL) d ≤ p3Quota (quotaS 1024 1024) 1 d)
      ∧ p3Quota (quotaS 1024 1024) 1 0 < p3Use (quotaS 1024 1024) 1 0 + dieNeed (launchNeed group1 turnL) 0
      ∧ p3Quota (quotaS 0 0) 1 0 < dieNeed (launchNeed group1 turnL) 0 ∧ turnL.syncEn = false
      ∧ (∀ e ∈ servers (quotaS 0 0) turnL, e < 16) ∧ (∀ r ∈ turnL.staging, r.1 < 16) ∧ job1.index < 4096
      ∧ (collS (set7 false (some 5) 1) []).coll.csets.find? (fun c => c.slot == (1023 : Fin 1024).val) = some (set7 false (some 5) 1)
      ∧ (set7 false (some 5) 1).gap = some 5 ∧ (set7 false (some 5) 1).retries < 2 ∧ 2 ≤ (set7 false (some 5) 2).retries
      ∧ (match heldOf (collS (set7 false (some 5) 1) []) 1 7 20 with | y :: _ => (servers (collS (set7 false (some 5) 1) []) y).headD 0 | [] => 0) < 16
      ∧ running (launchS (launch1 0)) = true ∧ launch (launchS (launch1 0)) 0 = some (launch1 0) ∧ (launch1 0).stage = 2
      ∧ csetOf (launchS (launch1 0)) 1 (launch1 0).cset = none ∧ (launch1 0).syncEn = false
      ∧ isSet upS (RED_STATUS 0) RED_STATUS_FENCED = false ∧ secondMismatch upS 0 = false
      ∧ secondMismatch { upS with coll := { upS.coll with residueAt := [(0, 9), (0, 5)] } } 0 = true
      ∧ ((List.range 4).map (4 * ((0 : Engine).val / 4) + ·)).find? (fun k => k != (0 : Engine).val && engineUp upS k) = some 1 := by
  (repeat' apply And.intro) <;> decide +kernel

/-- A launch of set 7 that is held, whose gap timer has run three times. -/
def heldL : Launch := { Launch.fresh 3 1 (lwords 0 7 22 0) 1 0 with stage := 0 }

/-- LaunchesAreAdmittedAndTimed: the launches of a set that breaks are known by their numbers. -/
theorem test_hyps_break :
    ∀ y ∈ (collS (set7 false (some 5) 2) [heldL]).coll.launches, launch (collS (set7 false (some 5) 2) [heldL]) y.no = some y := by
  decide +kernel

/-- The map of a group of job 1, its conflict set given: two members on this device, one shard. -/
def groupMap (cset : Nat) : List (BitVec 32) :=
  [BitVec.ofNat 32 (1 + cset * 2 ^ 16), 0x10001, 2, 1, 0x10001, 0, 0, 0, 0, 0, 0, 0, 0, 0, 0, 0, 0, 0, 0, 1, 0, 0, 0, 0xFFFF]
/-- A GROUP_REG entry, and a GROUP_DEREG entry of group 1. -/
def regE : CmdEntry := entry 6 1 [0x1000, 96]
/-- GROUP_DEREG. -/
def deregE : CmdEntry := entry 7 1 [1]

/-- GroupsAreRegisteredAndRemoved: maps that are read, malformed and well formed, with and without a set. -/
theorem test_hyps_groups :
    AtFront (cmdS mapS regE) 0 regE ∧ ((wordAt regE.words 0).extractLsb' 16 16).toNat = 1 ∧ (wordAt regE.words 0).toNat % 2 ^ 8 = 6
      ∧ regE.headOk = true ∧ (∀ i, i < 32 → i ≠ 2 → i ≠ 3 → 2 ≤ i → wordAt regE.words i = 0) ∧ job (cmdS mapS regE) 1 = some job1
      ∧ parseGroup (cmdS mapS regE) [] = none
      ∧ (match parseGroup (cmdS mapS regE) ((groupMap 7).take ((wordAt regE.words 3).toNat / 4)) with
          | some g => g.job == 1 && vcEnabled (cmdS mapS regE) 1 g.vc && g.cset == 7 && (csetOf (cmdS mapS regE) 1 g.cset).isNone | none => false) = true
      ∧ (match parseGroup (cmdS mapS regE) ((groupMap 0xFFFF).take ((wordAt regE.words 3).toNat / 4)) with
          | some g => g.job == 1 && g.cset == 0xFFFF | none => false) = true
      ∧ (cmdS mapS regE).coll.groups = [] ∧ (cmdS mapS regE).coll.csets = []
      ∧ AtFront (cmdS mapS deregE) 0 deregE ∧ (wordAt deregE.words 0).toNat % 2 ^ 8 = 7 ∧ deregE.headOk = true
      ∧ ((wordAt deregE.words 2).extractLsb' 0 16).toNat = 1 ∧ (∀ i, i < 32 → 2 < i → wordAt deregE.words i = 0)
      ∧ groupOf (cmdS mapS deregE) 1 1 = none ∧ groupOf (cmdS (launchS (launch1 0)) deregE) 1 1 = some group1
      ∧ (∃ x ∈ (cmdS (launchS (launch1 0)) deregE).coll.launches, x.job = 1 ∧ x.gid = 1)
      ∧ (∀ x ∈ (cmdS (collS (set7 false none 0) []) deregE).coll.launches, ¬ (x.job = 1 ∧ x.gid = 1))
      ∧ groupOf (cmdS (collS (set7 false none 0) []) deregE) 1 1 = some { group1 with cset := 7 }
      ∧ (∀ c ∈ (cmdS (collS (set7 false none 0) []) deregE).coll.csets, c.slot < 1024) := by
  unfold AtFront; (repeat' apply And.intro) <;> decide +kernel

/-! ### The switch core -/

/-- Port 0 in a state, at version 0x52, with credits both ways; job 1 as in `mapS`. -/
def linkS (st : Nat) : State :=
  let s := setF (setF mapS (pStat 0) LNK_PORT_STATUS_STATE st) (pStat 0) LNK_PORT_STATUS_VERSION 0x52
  setPort s 0 { port s 0 with dedOut := List.replicate 16 1, granted := List.replicate 24 1, shared := List.replicate 24 1 }
/-- A packet of a header, at offset 0x2_0000_0000 and with payload 1, 2, 3, 4. -/
def pktP (h : Hdr) : Packet := mkPacket { h with offset := 0x200000000 } [1, 2, 3, 4]
/-- A packet inside the device. -/
def inside (p : Packet) (input : Nat) : Pkt := { collP 0 with p := p, input := input }
/-- Such a packet has arrived. -/
def hereS (s : State) (x : Pkt) : State := { s with net := { s.net with locals := [x] } }
/-- A packet of a core's DMA waits to enter its slice. -/
def outS : State := { mapS with net := { mapS.net with outbox := [inside (pktP { type := 0, vc := 0, job := 1 }) 263] } }
/-- Core 0's DMA (requester 12) waits for a P0 buffer. -/
def waitingS : State := { upS with net := { upS.net with waits := [⟨0, 12, 0, 0, none⟩] } }

/-- Port 0 (requester 0) waits for a P0 credit of VC 3. -/
def creditS : State := { upS with net := { upS.net with waits := [⟨0, 0, 0, 0, some (0, 3)⟩] } }
/-- The first pair link of die 0 (requester 32) waits for a P0 credit of VC 3. -/
def meshS : State := { upS with net := { upS.net with waits := [⟨0, 32, 0, 0, some (1028, 3)⟩] } }
/-- Port 0 as a management port. -/
def mgmtS : State := linkS 5

/-- No mirror session is on. -/
theorem test_hyps_no_mirror : NoMirror (linkS 4) := by
  intro d k hd hk
  have : d = 0 ∨ d = 1 ∨ d = 2 ∨ d = 3 := by omega
  have : k = 0 ∨ k = 1 := by omega
  rcases ‹d = 0 ∨ _› with rfl | rfl | rfl | rfl <;> rcases ‹k = 0 ∨ _› with rfl | rfl <;> decide +kernel

/-- PacketsEnterTheirSlice: a port without link; a wrong sequence number; packets that translate here and that are refused; one from
a DMA engine; a grant. -/
theorem test_hyps_forward :
    running (linkS 4) = true ∧ portUp upS 0 = false ∧ portUp (linkS 4) 0 = true
      ∧ 1 ≤ ((port (linkS 4) 0).rxSeq - { pktP { type := 0, vc := 0, job := 1 } with seq := 4095 }.seq).toNat
      ∧ ((port (linkS 4) 0).rxSeq - { pktP { type := 0, vc := 0, job := 1 } with seq := 2049 }.seq).toNat ≤ 2047
      ∧ 2047 < ((port (linkS 4) 0).rxSeq - { pktP { type := 0, vc := 0, job := 1 } with seq := 2048 }.seq).toNat
      ∧ pktOk (linkVersion (linkS 4) 0) { pktP { type := 0, vc := 0, job := 1 } with hdr := 0 } = false
      ∧ creditOut (port upS 0) (pktP { type := 0, vc := 0, job := 1 }) = false
      ∧ wayOf (linkS 4) (pktP { type := 6, vc := 7, job := 9 }) (some 0) = .endpoint ∧ (pktP { type := 6, vc := 7, job := 9 }).type ≠ 7
      ∧ portMgmtOnly mgmtS 0 = true ∧ portUp mgmtS 0 = true ∧ (pktP { type := 0, vc := 0, job := 1 }).bvc ≠ 7
      ∧ (pktP { type := 0, vc := 0, job := 1 }).seq = (port (linkS 4) 0).rxSeq ∧ pktOk (linkVersion (linkS 4) 0) (pktP { type := 0, vc := 0, job := 1 }) = true
      ∧ creditOut (port (linkS 4) 0) (pktP { type := 0, vc := 0, job := 1 }) = true ∧ (pktP { type := 0, vc := 0, job := 1 }).stomp = false
      ∧ 0x52 ≤ getF (linkS 4) (pStat 0) LNK_PORT_STATUS_VERSION ∧ portMgmtOnly (linkS 4) 0 = false
      ∧ isSet (linkS 4) (TSC_POLICER 0 (pktP { type := 0, vc := 0, job := 1 }).bvc) TSC_POLICER_EN = false
      ∧ wayOf (linkS 4) (pktP { type := 0, vc := 0, job := 1 }) (some 0) = .here
      ∧ (port (linkS 4) 0).midway = false ∧ (port (setPort (linkS 4) 0 { port (linkS 4) 0 with midway := true }) 0).midway = true
      ∧ consumerDie (linkS 4) (arrived (linkS 4) 0 (pktP { type := 0, vc := 0, job := 1 }) ⟨0, 0, 0, 0, none⟩) = portDie 0
      ∧ portState (linkS 3) 0 = 3 ∧ portUp (linkS 3) 0 = true ∧ (pktP { type := 5, vc := 7 }).bvc = 7 ∧ (pktP { type := 5, vc := 7 }).twin = false
      ∧ wayOf (linkS 4) (pktP { type := 0, vc := 0, job := 9 }) (some 0) = .refuse 1 ∧ (linkS 4).net.locals = []
      ∧ running outS = true ∧ unitInput (.dma 0 0) = some (0, 263, 0)
      ∧ (inputHeads (atIngress outS 0 0) []).find? (fun y => y.input == 263) = some (inside (pktP { type := 0, vc := 0, job := 1 }) 263)
      ∧ firstOfClass (rotNow outS) ((inputHeads (atIngress outS 0 0) []).filter (fun y => canEnter outS y 0 (requesterOf y.input)))
          = some (inside (pktP { type := 0, vc := 0, job := 1 }) 263)
      ∧ outS.net.hand = [] ∧ grantableNow outS 0 (requesterOf 263) 0 = true ∧ (inside (pktP { type := 0, vc := 0, job := 1 }) 263).dest = .here ∧ wayOf outS (pktP { type := 0, vc := 0, job := 1 }) none = .here
      ∧ running waitingS = true ∧ grantOrder waitingS 0 0 = ⟨0, 12, 0, 0, none⟩ :: [] ∧ (⟨0, 12, 0, 0, none⟩ : BufWait).req ≠ (8 : Fin 37).val
      ∧ (⟨0, 12, 0, 0, none⟩ : BufWait).req = (12 : Fin 37).val
      ∧ grantOrder creditS 0 0 = ⟨0, 0, 0, 0, some (0, 3)⟩ :: []
      ∧ grantOrder meshS 0 0 = ⟨0, 32, 0, 0, some (1028, 3)⟩ :: [] ∧ (32 : Fin 37).val = 32 ∧ 1024 ≤ 1028 := by
  (repeat' apply And.intro) <;> decide +kernel

/-- A packet without a buffer holds none that is not there. -/
theorem holds_none (s : State) (x : Pkt) (h : x.buf = none) : HoldsBuf s x := by intro b hb; rw [h] at hb; cases hb
/-- A packet that holds a buffer without a credit, whose state bit is set. -/
theorem holds_some (s : State) (x : Pkt) (b : Buf) (h : x.buf = some b) (hn : b.back = none)
    (h4 : b.die < 4 ∧ b.req < 38 ∧ b.pool < 4 ∧ runsHas s.net.bits (bitOf b.die b.pool b.idx) = true) : HoldsBuf s x := by
  intro c hc
  rw [h] at hc
  cases hc
  exact ⟨h4.1, h4.2.1, h4.2.2.1, h4.2.2.2, fun y hy => by rw [hn] at hy; cases hy⟩
/-- A packet of a local unit came by no port. -/
theorem no_port (x : Pkt) (h : x.port = none) : ∀ a, x.port = some a → a < 1024 := by intro a ha; rw [h] at ha; cases ha

/-- Job 1 has a region of 4,096 bytes at cluster 0's SRAM that takes remote writes, and slot 0 there with two entries of 64 bytes. -/
def regionS : State :=
  let s := setF (setF (setF mapS (MEM_REGION 0) MEM_REGION_VALID 1) (MEM_REGION 0) MEM_REGION_BASE 0x200000000) (MEM_REGION 0) MEM_REGION_REMOTE_W 1
  let s := setF (setF s (MEM_REGION_W1 0) MEM_REGION_W1_LENGTH 0x1000) (MEM_REGION_W1 0) MEM_REGION_W1_JOB_ID 1
  { s with slots := [(0, [0x10040, 0, 0, BitVec.ofNat 64 (0x200000000 + 2 * 2 ^ 48), BitVec.ofNat 64 (99 + 64 * 2 ^ 32), 0])] }
/-- The same with the slot's queue full. -/
def fullSlotS : State := { regionS with slotQ := [(0, { SlotQ.empty with arrived := 2 })] }
/-- Object 5 takes remote adds of job 1. -/
def raddS : State := setObj regionS 5 ⟨7, 0x80001⟩
/-- DATA with an add to object 5; DATA outside the region; SLOT of slot 0 at an offset; RADD to an object. -/
def dataX : Pkt := inside (pktP { type := 0, vc := 0, job := 1, sync := some 5 }) 0
/-- Outside the region. -/
def farX : Pkt := inside (mkPacket { type := 0, vc := 0, job := 1, offset := 0x200001000 } [1]) 0
/-- SLOT. -/
def slotX (en off : Nat) : Pkt :=
  let p := mkPacket { type := 2, vc := 0, job := 1, offset := off } [1, 2, 3, 4]
  inside { p with hdr := p.hdr ||| BitVec.ofNat 512 (en * 2 ^ 238) } 0
/-- RADD. -/
def raddX : Pkt := inside (mkPacket { type := 3, vc := 6, job := 1, sync := some 5 } [1, 0, 0, 0, 0, 0, 0, 0]) 0

/-- DeliveredPacketsTakeEffect: packets of each TYPE have arrived. -/
theorem test_hyps_arrived :
    Arrived (hereS raddS dataX) 0 dataX 0 ∧ Arrived (hereS regionS farX) 0 farX 0 ∧ Arrived (hereS regionS (slotX 1 60)) 0 (slotX 1 60) 2
      ∧ Arrived (hereS fullSlotS (slotX 1 60)) 0 (slotX 1 60) 2 ∧ Arrived (hereS regionS (slotX 1 61)) 0 (slotX 1 61) 2
      ∧ Arrived (hereS raddS raddX) 0 raddX 3 ∧ Arrived (hereS regionS raddX) 0 raddX 3 := by
  unfold Arrived NoneHeld
  (repeat' apply And.intro) <;> first | exact holds_none _ _ rfl | exact no_port _ rfl | decide +kernel

/-- DeliveredPacketsTakeEffect: the region, the slot and the object of those packets. -/
theorem test_hyps_delivered :
    dataX.p.fence = false ∧ inRegion (hereS raddS dataX) 1 dataX.p.offset dataX.p.payload.length true = true
      ∧ locateSpan (hereS raddS dataX) none dataX.p.offset dataX.p.payload.length = some (.cluster 0, 0x200000000)
      ∧ sleeper (hereS raddS dataX) (.cluster 0) = none ∧ WritesWhole (hereS raddS dataX) 0x200000000 4 ∧ dataX.p.syncEn = true
      ∧ TakesAdds (hereS raddS dataX) dataX.p.syncObj dataX.p.job ∧ slotOfArrive (hereS raddS dataX) dataX.p.syncObj = none
      ∧ ¬ TakesAdds (hereS regionS dataX) dataX.p.syncObj dataX.p.job
      ∧ inRegion (hereS regionS farX) 1 farX.p.offset farX.p.payload.length true = false
      ∧ (slotX 1 60).p.slotEn = true ∧ slotValid (hereS regionS (slotX 1 60)) (slotX 1 60).p.slot = true
      ∧ slotJob (hereS regionS (slotX 1 60)) (slotX 1 60).p.slot = (slotX 1 60).p.job
      ∧ (slotX 1 60).p.offset + 4 ≤ slotWord (hereS regionS (slotX 1 60)) 0 4 / 2 ^ 32 % 2 ^ 24
      ∧ locate (hereS regionS (slotX 1 60)) none (slotWord (hereS regionS (slotX 1 60)) 0 3 % 2 ^ 48) = some (.cluster 0, 0x200000000)
      ∧ sleeper (hereS regionS (slotX 1 60)) (.cluster 0) = none
      ∧ (slotQueue (hereS regionS (slotX 1 60)) 0).arrived - (slotQueue (hereS regionS (slotX 1 60)) 0).freed
          < slotWord (hereS regionS (slotX 1 60)) 0 3 / 2 ^ 48 % 2 ^ 8
      ∧ WritesWhole (hereS regionS (slotX 1 60)) (queueKey (hereS regionS (slotX 1 60)) 0 0 60) 4
      ∧ slotWord (hereS fullSlotS (slotX 1 60)) 0 3 / 2 ^ 48 % 2 ^ 8
          ≤ (slotQueue (hereS fullSlotS (slotX 1 60)) 0).arrived - (slotQueue (hereS fullSlotS (slotX 1 60)) 0).freed
      ∧ slotWord (hereS regionS (slotX 1 61)) 0 4 / 2 ^ 32 % 2 ^ 24 < (slotX 1 61).p.offset + 4 ∧ (slotX 0 60).p.slotEn = false
      ∧ (slotX 1 60).p.slot = 0 ∧ slotValid upS 0 = false ∧ slotJob upS 0 ≠ (slotX 1 60).p.job
      ∧ raddX.p.syncEn = true ∧ raddX.p.syncObj = 5 ∧ TakesAdds (hereS raddS raddX) 5 1 ∧ slotOfArrive (hereS raddS raddX) 5 = none
      ∧ ¬ TakesAdds (hereS regionS raddX) 5 1 := by
  unfold WritesWhole TakesAdds
  (repeat' apply And.intro) <;> decide +kernel

/-- A fenced DATA packet with FCOUNT 2, and its stream. -/
def fencedX : Pkt := inside (pktP { type := 0, vc := 0, job := 1, fence := true, fcount := 2 }) 0
/-- It has arrived, `l` being the streams. -/
def fenceS (l : List StreamEnt) : State := { hereS regionS fencedX with net := { (hereS regionS fencedX).net with streams := l } }

/-- Fenced DATA whose predecessors are one: FCOUNT 1, on VC4 of logical core 0. -/
def fencedY : Pkt := inside (pktP { type := 0, vc := 4, job := 1, fence := true, fcount := 1 }) 0
/-- It has arrived, and its stream has counted `c`. -/
def afterS (c : Nat) : State :=
  { hereS regionS fencedY with net := { (hereS regionS fencedY).net with streams := [⟨0, streamOf fencedY.p, c, 0⟩] } }
/-- `fencedX` is held in a buffer of pool P0 of die 0 whose state bit is set. -/
def heldX : Pkt := { fencedX with hold := 3, buf := some ⟨0, 0, 0, 3, none⟩ }
/-- Such a state. -/
def fencedHeldS : State := { hereS regionS heldX with net := { (hereS regionS heldX).net with bits := [(3, 1)] } }
/-- A table of streams without room. -/
def fullStreams : List StreamEnt := List.replicate 16384 ⟨0, streamOf fencedY.p, 0, 0⟩

/-- FencesHoldAndExpire: a fenced packet before its predecessors, with an entry, with room for one and without; one whose
predecessors have been delivered, all or more. -/
theorem test_hyps_fence :
    (Instr.dataPacket 0, 0) ∈ fencedForms 0 .exchange ∧ Arrived (fenceS [⟨0, streamOf fencedX.p, 1, 0⟩]) 0 fencedX 0 ∧ fencedX.p.fence = true
      ∧ deliverDie (fenceS [⟨0, streamOf fencedX.p, 1, 0⟩]) fencedX = 0
      ∧ streamFind (fenceS [⟨0, streamOf fencedX.p, 1, 0⟩]) 0 (streamOf fencedX.p) = some ⟨0, streamOf fencedX.p, 1, 0⟩ ∧ 1 < fencedX.p.fcount
      ∧ Arrived (fenceS []) 0 fencedX 0 ∧ streamFind (fenceS []) 0 (streamOf fencedX.p) = none ∧ fencedX.p.fcount ≠ 0
      ∧ streamRoom (fenceS []) 0 = true
      ∧ Arrived (afterS 1) 0 fencedY 0 ∧ fencedY.p.fence = true ∧ inRegion (afterS 1) 1 fencedY.p.offset fencedY.p.payload.length true = true
      ∧ locateSpan (afterS 1) none fencedY.p.offset fencedY.p.payload.length = some (.cluster 0, 0x200000000)
      ∧ sleeper (afterS 1) (.cluster 0) = none ∧ WritesWhole (afterS 1) 0x200000000 4 ∧ fencedY.p.syncEn = false ∧ deliverDie (afterS 1) fencedY = 0
      ∧ streamFind (afterS 1) 0 (streamOf fencedY.p) = some ⟨0, streamOf fencedY.p, 1, 0⟩ ∧ fencedY.p.fcount = 1
      ∧ fenceHeld (afterS 1) 0 (streamOf fencedY.p) = false
      ∧ Arrived (afterS 2) 0 fencedY 0 ∧ streamFind (afterS 2) 0 (streamOf fencedY.p) = some ⟨0, streamOf fencedY.p, 2, 0⟩ ∧ fencedY.p.fcount < 2
      ∧ fencedY.p.vc = 4 ∧ fencedY.p.origin < 64 ∧ job (afterS 1) fencedY.p.job = some job1 := by
  unfold Arrived NoneHeld WritesWhole
  (repeat' apply And.intro) <;> first | exact holds_none _ _ rfl | exact no_port _ rfl | decide +kernel

/-- A table full of one stream has no room and shows no other. -/
theorem room_full (s : State) (n : Nat) (e : StreamEnt) (d : Nat) (hs : s.net.streams = List.replicate n e) (hd : e.die = d) (hn : 16384 ≤ n) :
    streamRoom s d = false := by
  subst hd; simp [streamRoom, hs, hn]

/-- It shows no other stream. -/
theorem find_full (s : State) (n : Nat) (e : StreamEnt) (d : Nat) (st : Stream) (hs : s.net.streams = List.replicate n e)
    (he : (e.st == st) = false) : streamFind s d st = none := by
  have : e.st ≠ st := by intro h; rw [h] at he; simp at he
  simp [streamFind, hs, this]

/-- The streams of `fenceS`. -/
theorem fence_streams (l : List StreamEnt) : (fenceS l).net.streams = l := rfl

/-- FencesHoldAndExpire: a table of streams without room. -/
theorem test_hyps_fence_full :
    Arrived (fenceS fullStreams) 0 fencedX 0 ∧ streamFind (fenceS fullStreams) 0 (streamOf fencedX.p) = none
      ∧ streamRoom (fenceS fullStreams) 0 = false ∧ deliverDie (fenceS fullStreams) fencedX = 0 := by
  refine ⟨?_, ?_, ?_, ?_⟩
  · unfold Arrived NoneHeld
    (repeat' apply And.intro) <;> first | exact holds_none _ _ rfl | exact no_port _ rfl | decide +kernel
  · have h : (streamOf fencedY.p == streamOf fencedX.p) = false := by decide +kernel
    exact find_full (fenceS fullStreams) 16384 ⟨0, streamOf fencedY.p, 0, 0⟩ 0 _ (fence_streams _) h
  · exact room_full (fenceS fullStreams) 16384 ⟨0, streamOf fencedY.p, 0, 0⟩ 0 (fence_streams _) rfl (Nat.le_refl _)
  · decide +kernel

/-- FencesHoldAndExpire: a packet that is held in a buffer, and its stream's entry. -/
theorem test_hyps_fence_expiry :
    running fencedHeldS = true ∧ heldPkt fencedHeldS 0 = some heldX ∧ heldX.owner = none ∧ heldX.die < 4 ∧ HoldsBuf fencedHeldS heldX
      ∧ (∀ y ∈ fencedHeldS.net.locals ++ fencedHeldS.net.ports.flatMap (fun e => e.2.q),
          y.no = 0 ∨ (y.hold ≠ 4 ∧ (y.hold = 3 → streamOf y.p ≠ streamOf heldX.p)))
      ∧ running (fenceS [⟨0, streamOf fencedX.p, 1, 0⟩]) = true := by
  (repeat' apply And.intro) <;> first | exact holds_some _ _ ⟨0, 0, 0, 3, none⟩ rfl rfl (by decide +kernel) | decide +kernel

/-- CTRL, MGMT and REFUSE packets; the REFUSE answers a packet of logical core 0 of job 1. -/
def ctrlX (type vc : Nat) : Pkt := inside (mkPacket { type := type, vc := vc, job := 1 } []) 0
/-- REFUSE. -/
def refuseX : Pkt :=
  inside (mkPacket { type := 7, vc := 6, job := 1 } (toBytes 56 (mkPacket { type := 0, vc := 0, job := 1 } []).hdr.toNat ++ toBytes 8 6)) 0
/-- Core 0 (logical 0) runs job 1. -/
def sentS : State := setCore placedS 0 { Machine.core placedS 0 with running := true, job := 1 }

/-- Cluster 0 has no core. -/
def emptyS : State := setReg (launchS (launch1 0)) (CLU_MAP 0) (BitVec.allOnes 64)
/-- A REFUSE that answers launch 0's own packet (group 1, sequence number 0), and one that answers a DMA of no core. -/
def refuseOf (origin : Nat) : Pkt :=
  inside (mkPacket { type := 7, vc := 6, job := 1 }
    (toBytes 56 (mkPacket { type := 1, vc := 0, job := 1, origin := origin, group := (launch1 0).gid, lseq := (launch1 0).seq } []).hdr.toNat ++ toBytes 8 6)) 0

/-- ManagementPacketsAreConsumed: CTRL, MGMT and REFUSE packets have arrived. -/
theorem test_hyps_consumed :
    Arrived (hereS emptyS (ctrlX 4 6)) 0 (ctrlX 4 6) 4 ∧ coreOf (hereS emptyS (ctrlX 4 6)) 3 = none
      ∧ launch (hereS emptyS (ctrlX 4 6)) 0 = some (launch1 0) ∧ (launch1 0).job = (ctrlX 4 6).p.job
      ∧ (∀ e ∈ (launch1 0).digests, (e.1, e.2.1) ≠ (0, 0))
      ∧ Arrived (hereS upS (ctrlX 6 7)) 0 (ctrlX 6 7) 6 ∧ Arrived (hereS sentS refuseX) 0 refuseX 7 ∧ refuseX.p.fence = false
      ∧ refusedOrigin refuseX.p < 64 ∧ coreOf (hereS sentS refuseX) (refusedOrigin refuseX.p) = some (0 : CoreId).val
      ∧ (Machine.core (hereS sentS refuseX) 0).running = true ∧ (Machine.core (hereS sentS refuseX) 0).trap = none
      ∧ (Machine.core (hereS sentS refuseX) 0).job.toNat = refusedJob refuseX.p := by
  unfold Arrived NoneHeld
  (repeat' apply And.intro) <;> first | exact holds_none _ _ rfl | exact no_port _ rfl | decide +kernel

/-- ManagementPacketsAreConsumed: a REFUSE of a reduction engine's packet, and ones of other ORIGINs. -/
theorem test_hyps_refused_origins :
    Arrived (hereS emptyS (refuseOf 0x100)) 0 (refuseOf 0x100) 7 ∧ refusedOrigin (refuseOf 0x100).p = 0x100
      ∧ (hereS emptyS (refuseOf 0x100)).coll.launches.find? (fun y => y.stage == 2 && y.job == refusedJob (refuseOf 0x100).p
          && y.gid == refusedHdr (refuseOf 0x100).p 271 256 && y.seq == refusedHdr (refuseOf 0x100).p 303 272) = some (launch1 0)
      ∧ Arrived (hereS upS (refuseOf 64)) 0 (refuseOf 64) 7 ∧ refusedOrigin (refuseOf 64).p = 64
      ∧ Arrived (hereS upS (refuseOf 0x110)) 0 (refuseOf 0x110) 7 ∧ refusedOrigin (refuseOf 0x110).p = 0x110 := by
  unfold Arrived NoneHeld
  (repeat' apply And.intro) <;> first | exact holds_none _ _ rfl | exact no_port _ rfl | decide +kernel

/-- A packet queued at port 0. -/
def queuedX : Pkt := { inside (pktP { type := 0, vc := 0, job := 1 }) 263 with dest := .port 0 false }
/-- Port 0 with that packet, with shared credits or with none. -/
def portS (credit : Nat) : State :=
  setPort (setF (linkS 4) (TSC_THROTTLE 0) TSC_THROTTLE_EN 0) 0 { port (linkS 4) 0 with q := [queuedX], shared := List.replicate 24 credit, ded := List.replicate 16 0 }

/-- Port 0 in Ethernet mode with a mirror copy. -/
def copyX : Pkt := { inside (pktP { type := 8, vc := 7 }) 283 with dest := .port 0 false }
/-- Such a state. -/
def copyS : State := setPort (setF (setF (portS 1) (LNK_BUNDLE_CTRL 0) LNK_BUNDLE_CTRL_ETH 1) (LNK_BUNDLE_CTRL 0) LNK_BUNDLE_CTRL_CLASS 2) 0 { port (portS 1) 0 with q := [copyX] }

/-- TheOldestEligiblePacketLeaves: an eligible packet, with a credit and without, whole and not; a mirror copy. -/
theorem test_hyps_transmit :
    running (portS 1) = true ∧ portUp (portS 1) 0 = true ∧ awake (portS 1) (96 + portBundle 0) = true ∧ (port (portS 1) 0).q = [queuedX]
      ∧ (port (portS 1) 0).cut = none ∧ queuedX.hold = 0 ∧ queuedX.deferred = false ∧ queuedX.vc < 8 ∧ queuedX.twin < 2
      ∧ (port (portS 1) 0).busyUntil.toNat ≤ (now (portS 1)).toNat ∧ gateLen (portS 1) 0 = 0
      ∧ isSet (portS 1) (TSC_SHAPER 0 queuedX.vc) TSC_SHAPER_EN = false ∧ isSet (portS 1) (TSC_THROTTLE 0) TSC_THROTTLE_EN = false
      ∧ portMgmtOnly (portS 1) 0 = false ∧ (port (portS 1) 0).replay = [] ∧ queuedX.p.payload.length ≤ 2048
      ∧ queuedX.owner = none ∧ queuedX.dest = .port (0 : Port).val false ∧ pktTime (portS 1) 0 queuedX.p ≤ 2 ^ 56
      ∧ HoldsBuf (portS 1) queuedX ∧ copyFrame (portS 1) 0 queuedX.p = false ∧ creditFor (port (portS 1) 0) queuedX = some 0
      ∧ creditFor (port (portS 0) 0) queuedX = none ∧ queuedX.whole = true ∧ { queuedX with whole := false }.whole = false
      ∧ portUp copyS 0 = true ∧ (port copyS 0).q = [copyX] ∧ copyFrame copyS 0 copyX.p = true ∧ pktTime copyS 0 copyX.p ≤ 2 ^ 56
      ∧ awake copyS (96 + portBundle 0) = true ∧ gateLen copyS 0 = 0 ∧ portMgmtOnly copyS 0 = false := by
  (repeat' apply And.intro) <;> first | exact holds_none _ _ rfl | exact no_port _ rfl | decide +kernel

/-- No mirror session is on there. -/
theorem test_hyps_no_mirror_transmit : NoMirror (portS 1) := by
  intro d k hd hk
  have : d = 0 ∨ d = 1 ∨ d = 2 ∨ d = 3 := by omega
  have : k = 0 ∨ k = 1 := by omega
  rcases ‹d = 0 ∨ _› with rfl | rfl | rfl | rfl <;> rcases ‹k = 0 ∨ _› with rfl | rfl <;> decide +kernel

/-! ### Links and discovery -/

/-- Port 0 with a change to its link layer. -/
def portWith (st : Nat) (f : PortSt → PortSt) : State := setPort (linkS st) 0 (f (port (linkS st) 0))
/-- Port 0 of a class H bundle that runs Ethernet. -/
def ethS : State :=
  let s := setF (setF (portWith 4 (fun x => { x with ackDue := true })) (LNK_BUNDLE_CTRL 0) LNK_BUNDLE_CTRL_CLASS 2) (LNK_BUNDLE_CTRL 0) LNK_BUNDLE_CTRL_ETH 1
  setF s (LNK_ETH_CTRL 0 0) LNK_ETH_CTRL_PTP_EN 0
/-- A packet in the replay buffer. -/
def replayX : BitVec 12 × Packet := (0, pktP { type := 0, vc := 0, job := 1 })
/-- A plan in which port 0 leads in direction +X and expects something. -/
def planS (s : State) (e : Expect) : State :=
  { s with sec := { s.sec with plan := some { obj := Signed.shipped 3 4, pos := 0, classes := [], ports := [⟨0, 0, some 0, e⟩], ftuCtrl := 0 } } }
/-- A KV9 or an endpoint says who it is. -/
def saidBy (kind : BitVec 3) : Statement :=
  { obj := Signed.shipped 6 5, mfr := Certificate.shipped 1 ⟨0, 0⟩, kind := kind, deviceId := 9, plane := 0, x := 1, y := 0, z := 0, port := 3, nonce := 7, keyDigest := 0 }
/-- The plan expects the KV9 that says so. -/
def kv9E : Expect := .kv9 9 3 0 1 0 0

/-- LinkWordsAndReplay: good and bad words of each kind; a DUIKER bundle; an Ethernet port; replays early, late and at the end. -/
theorem test_hyps_words :
    running (linkS 4) = true ∧ portUp (linkS 4) 0 = true ∧ wcrcOk (wcrcWord 3) = true ∧ ((wcrcWord 3).extractLsb' 0 4).toNat = 3
      ∧ (wcrcWord 3).getLsbD 5 = false ∧ ((0 : Word).extractLsb' 0 4).toNat ≠ 3 ∧ wcrcOk (wcrcWord 3 ^^^ 64) = false
      ∧ wcrcOk (wcrcWord 0x15) = true ∧ ((wcrcWord 0x15).extractLsb' 0 4).toNat = 5
      ∧ 0x50 ≤ getF (linkS 4) (pStat 0) LNK_PORT_STATUS_VERSION ∧ (port (linkS 4) 0).replay = []
      ∧ ((2 : Word).extractLsb' 0 5).toNat = 2 ∧ (2 : Word).getLsbD 5 = false ∧ findReceived (linkS 4) 0 0 = none
      ∧ domState (setDomain (linkS 4) 96 2) (96 + portBundle 0) = 2 ∧ 96 + portBundle 0 ∉ (setDomain (linkS 4) 96 2).pwr.waking
      ∧ portUp (setDomain (linkS 4) 96 2) 0 = true ∧ getF upS (pStat 0) LNK_PORT_STATUS_VERSION < 0x50 ∧ portEth ethS 0 = true ∧ wordDue (port ethS 0) = true ∧ portUp ethS 0 = true
      ∧ (port (portWith 4 (fun x => { x with replay := [replayX], retries := 6 })) 0).replay = [replayX]
      ∧ (port (portWith 4 (fun x => { x with replay := [replayX], retries := 6 })) 0).lpi = 0
      ∧ 7 ≤ (port (portWith 4 (fun x => { x with replay := [replayX], retries := 7 })) 0).retries
      ∧ jobsOnPort (portWith 4 (fun x => { x with replay := [replayX], retries := 7 })) 0 = []
      ∧ (port (portWith 4 (fun x => { x with replay := [replayX], retries := 7 })) 0).q = [] := by
  (repeat' apply And.intro) <;> decide +kernel

/-- Packet 5 is half received at port 0 (its end word is due), in a P0 buffer behind a credit of VC 0. -/
def halfX : Pkt := { inside (pktP { type := 0, vc := 0, job := 1 }) 0 with no := 5, port := some 0, whole := false, buf := some ⟨0, 0, 0, 3, some (0, 0, 0, 0)⟩ }
/-- Such a state. -/
def halfS : State := { linkS 4 with net := { (linkS 4).net with locals := [halfX], bits := [(3, 1)], occ := [3] } }
/-- Port 1 is in the middle of sending the same packet on. -/
def cutS : State := setPort halfS 1 { port halfS 1 with cut := some (halfX, halfX.p) }
/-- Port 0 after seven replays, with two packets queued. -/
def tiredS : State :=
  let s := portWith 4 (fun x => { x with
    replay := [replayX], retries := 7,
    q := [{ queuedX with no := 1, buf := some ⟨0, 0, 0, 3, none⟩ }, { queuedX with no := 2, vc := 4, buf := some ⟨0, 0, 1, 4, none⟩ }] })
  { s with net := { s.net with bits := [(3, 1), (131076, 1)], occ := [3, 131076] } }

/-- No transmission waits where no port is in one. -/
theorem none_cut (s : State) (y : Pkt) (h : s.net.ports.all (fun e => e.2.cut.isNone) = true) : NoneCut s y := by
  intro e he c hc
  have := List.all_eq_true.mp h e he
  rw [hc] at this
  cases this

/-- LinkWordsAndReplay: a packet half received, not sent on yet and being sent on; its bad end; a link that goes down. -/
theorem test_hyps_end_words :
    running halfS = true ∧ portUp halfS 0 = true ∧ findReceived halfS 0 0 = some halfX ∧ halfX.die < 4 ∧ NoneCut halfS halfX
      ∧ ((0x12 : Word).extractLsb' 0 4).toNat = 2 ∧ (0x12 : Word).getLsbD 5 = false ∧ GoesOn halfX
      ∧ portUp cutS 0 = true ∧ findReceived cutS 0 0 = some halfX
      ∧ cutS.net.ports.find? (fun e => match e.2.cut with | some (k, _) => k.no == halfX.no | none => false) = some ((1 : Port).val, port cutS 1)
      ∧ (port cutS 1).cut = some (halfX, halfX.p) ∧ halfX.buf = some ⟨0, 0, 0, 3, some (0, 0, 0, 0)⟩ := by
  (repeat' apply And.intro) <;> first | exact none_cut _ _ (by decide +kernel) | (intro c h; cases h; done) | (intro c; decide +revert) | decide +kernel

/-- Packet 5 is to be refused at its end. -/
def turnedX : Pkt := { halfX with dest := .refuse 4 }
/-- Such a state. -/
def turnedS : State := { halfS with net := { halfS.net with locals := [turnedX] } }

/-- LinkWordsAndReplay: a packet half received that is to be refused, in its buffer. -/
theorem test_hyps_refused_end :
    findReceived turnedS 0 0 = some turnedX ∧ portUp turnedS 0 = true ∧ NoneCut turnedS turnedX ∧ turnedX.dest = .refuse 4
      ∧ turnedX.ingress = none ∧ turnedX.owner = none ∧ HoldsBuf turnedS turnedX ∧ (2 : Word).getLsbD 4 = false
      ∧ turnedS.net.locals.find? (fun x => x.no == turnedX.no) = some turnedX ∧ (∀ x ∈ turnedS.net.outbox, x.no ≠ turnedX.no)
      ∧ (∀ a, turnedX.port = some a → a < 1024) := by
  refine ⟨by decide +kernel, by decide +kernel, none_cut _ _ (by decide +kernel), rfl, rfl, rfl, ?_, by decide +kernel, by decide +kernel,
    by decide +kernel, fun a ha => by cases ha; decide⟩
  intro b hb
  cases hb
  exact ⟨by decide, by decide, by decide, by decide +kernel, fun y hy => by cases hy; decide⟩

/-- LinkWordsAndReplay: a link that goes down with packets queued. -/
theorem test_hyps_down : LosesQuietly tiredS 0 ∧ portUp tiredS 0 = true ∧ (port tiredS 0).replay ≠ [] ∧ (port tiredS 0).lpi = 0
    ∧ 7 ≤ (port tiredS 0).retries := by
  refine ⟨⟨by decide +kernel, by decide +kernel, by decide +kernel, ?_, by decide +kernel⟩, by decide +kernel, by decide +kernel,
    by decide +kernel, by decide +kernel⟩
  intro y hy
  have : y = { queuedX with no := 1, buf := some ⟨0, 0, 0, 3, none⟩ } ∨ y = { queuedX with no := 2, vc := 4, buf := some ⟨0, 0, 1, 4, none⟩ } := by
    have h : (port tiredS 0).q = [{ queuedX with no := 1, buf := some ⟨0, 0, 0, 3, none⟩ }, { queuedX with no := 2, vc := 4, buf := some ⟨0, 0, 1, 4, none⟩ }] := by
      decide +kernel
    have hy' : y ∈ (port tiredS 0).q := hy
    rw [h] at hy'
    simpa using hy'
  rcases this with rfl | rfl
  · exact ⟨rfl, holds_some _ _ ⟨0, 0, 0, 3, none⟩ rfl rfl (by decide +kernel), fun b hb => by cases hb; decide +kernel⟩
  · exact ⟨rfl, holds_some _ _ ⟨0, 0, 1, 4, none⟩ rfl rfl (by decide +kernel), fun b hb => by cases hb; decide +kernel⟩

/-- LinksComeUpAndFail: training, INIT words of steps 1 to 3 with and without a common version, a failed port, a lost direction. -/
theorem test_hyps_training :
    portState (linkS 1) 0 = 1 ∧ 16 ≤ (port (portWith 1 (fun x => { x with fails := 16 })) 0).fails ∧ WakeAlarms (linkS 1) ∧ (linkS 1).pwr.starved = []
      ∧ portState (linkS 2) 0 = 2 ∧ ((BitVec.ofNat 64 (0x14 + 0x30 * 2 ^ 6 + 0x52 * 2 ^ 14)).extractLsb' 0 4).toNat = 4
      ∧ ((BitVec.ofNat 64 (0x14 + 0x30 * 2 ^ 6 + 0x52 * 2 ^ 14)).extractLsb' 4 2).toNat = 1
      ∧ ((BitVec.ofNat 64 (0x14 + 0x30 * 2 ^ 6 + 0x52 * 2 ^ 14)).extractLsb' 6 8).toNat = 0x30
      ∧ 0x30 ≤ min (getF (linkS 2) (pCtrl 0) LNK_PORT_CTRL_VER_MAX) 0x52 ∧ min (getF (linkS 2) (pCtrl 0) LNK_PORT_CTRL_VER_MAX) 0x2F < 0x30
      ∧ ((0x24 : Word).extractLsb' 4 2).toNat = 2 ∧ (port (portWith 2 (fun x => { x with initStep := 1 })) 0).initStep ≠ 0
      ∧ ((0x34 : Word).extractLsb' 4 2).toNat = 3 ∧ (port (portWith 2 (fun x => { x with initStep := 2 })) 0).initStep = 2
      ∧ jobsOnPort (portWith 2 (fun x => { x with initStep := 2 })) 0 = [] ∧ (port (portWith 2 (fun x => { x with initStep := 2 })) 0).q = []
      ∧ expressible (min (getF (portS 1) (pCtrl 0) LNK_PORT_CTRL_VER_MAX) (port (portS 1) 0).peerMax.toNat) queuedX.p = true
      ∧ (port (planS (portWith 0 (fun x => { x with downAt := some 5 })) kv9E) 0).downAt = some 5
      ∧ portUp (planS (portWith 0 (fun x => { x with downAt := some 5 })) kv9E) 0 = false
      ∧ (port (planS (portWith 0 (fun x => { x with downAt := some 5 })) kv9E) 0).q = []
      ∧ crossingTo (planS (portWith 0 (fun x => { x with downAt := some 5 })) kv9E) 0 = []
      ∧ planDir (planS (portWith 0 (fun x => { x with downAt := some 5 })) kv9E) 0 = some 0
      ∧ 8 ≤ ({ upS.net with losses := List.replicate 8 0 } : Net).losses.length := by
  unfold WakeAlarms; (repeat' apply And.intro) <;> decide +kernel

/-- Bundle 8 with an optical engine; bundle 0 in DIKDIK. -/
def opticS : State := setF upS (LNK_BUNDLE_STATUS 8) LNK_BUNDLE_STATUS_OPT_PRESENT 1
/-- An Ethernet frame. -/
def frame (fcs toPort : Bool) (et : BitVec 16) : EthFrame := ⟨fcs, toPort, et, false, 64, 0⟩

/-- LinksComeUpAndFail: an optical engine without links, bundles asleep and awake, frames of each fate. -/
theorem test_hyps_optics :
    isSet opticS (LNK_BUNDLE_STATUS 8) LNK_BUNDLE_STATUS_OPT_PRESENT = true ∧ (∀ p ∈ portsOf opticS 8, portUp opticS p = false)
      ∧ (8 : Nat) = 8 + (0 : Fin 16).val ∧ domState (setDomain upS 96 3) 96 = 3 ∧ 96 ∉ (setDomain upS 96 3).pwr.waking
      ∧ WakeAlarms (setDomain upS 96 3) ∧ (setDomain upS 96 3).pwr.starved = [] ∧ domState upS 96 ≠ 3 ∧ running ethS = true
      ∧ (frame false true 0).fcsOk = false ∧ (frame true true 0x800).fcsOk = true
      ∧ ¬ ((frame true true 0x800).etherType = 0x88B6 ∧ (frame true true 0x800).toPort = true)
      ∧ isSet ethS (LNK_ETH_CTRL 0 0) LNK_ETH_CTRL_PTP_EN = false ∧ (frame true true 0x88B6).etherType = 0x88B6
      ∧ isSet (setF ethS (LNK_ETH_CTRL 0 0) LNK_ETH_CTRL_PTP_EN 1) (LNK_ETH_CTRL 0 0) LNK_ETH_CTRL_PTP_EN = true
      ∧ portEth (setF ethS (LNK_ETH_CTRL 0 0) LNK_ETH_CTRL_PTP_EN 1) 0 = true
      ∧ (frame true true 0x88F7).etherType = 0x88F7 ∧ (frame true true 0x88F7).toPort = true
      ∧ isSet ethS (TSC_POLICER 0 (frame true true 0x88B6).vc) TSC_POLICER_EN = false := by
  unfold WakeAlarms; (repeat' apply And.intro) <;> decide +kernel

/-- Port 0 discovers, its partner having said who it is; the SEC unit has work. -/
def asksS (ok : Bool) (w : List SecWork) (e : Expect) (st : Statement := saidBy 1) : State :=
  let s := planS (portWith 3 (fun x => { x with statement := some st, stmtOk := ok })) e
  { s with sec := { s.sec with work := w } }

/-- DiscoveryDecidesEachPort: an endpoint under ANY, a KV9, a partner that is not planned; statements and proofs checked; no match in time. -/
theorem test_hyps_discovery :
    portState (planS (linkS 3) .endpointAny) 0 = 3 ∧ (saidBy 3).kind = 3 ∧ expectAt (planS (linkS 3) .endpointAny) 0 = .endpointAny
      ∧ quiesced (planS (linkS 3) .endpointAny) 0 (portBundle 0) = false ∧ (saidBy 1).kind = 1
      ∧ (linkS 3).sec.known.any (fun k => k.deviceId == (saidBy 1).deviceId && k.nonce == (saidBy 1).nonce) = false ∧ expectAt (linkS 3) 0 = .none
      ∧ portState (asksS false [] kv9E) 0 = 3 ∧ (port (asksS false [] kv9E) 0).statement.isSome = true
      ∧ .signProof 0 ∈ (asksS false [.signProof 0] kv9E).sec.work ∧ portUp (asksS false [.signProof 0] kv9E) 0 = true
      ∧ (asksS false [.statement 0 (saidBy 1)] kv9E).sec.work.find? SecWork.verifies = some (.statement 0 (saidBy 1))
      ∧ statementOk (asksS false [.statement 0 (saidBy 1)] kv9E) (saidBy 1) badSig = false
      ∧ (∀ e ∈ (port (asksS true [.proof 0] kv9E) 0).bound, e.2 = (saidBy 1).deviceId)
      ∧ [saidBy 1].find? (fun k => k.deviceId == (saidBy 1).deviceId && k.nonce == (saidBy 1).nonce) = some (saidBy 1) ∧ wantsNeighbour (expectAt (asksS false [.statement 0 (saidBy 1)] .none) 0) = false
      ∧ (asksS true [.proof 0] kv9E).sec.work.find? SecWork.verifies = some (.proof 0)
      ∧ (port (asksS true [.proof 0] kv9E) 0).statement = some (saidBy 1) ∧ portState (asksS true [.proof 0] kv9E) 0 = 3 ∧ (port (asksS true [.proof 0] kv9E) 0).stmtOk = true
      ∧ meetsPlan (expectAt (asksS true [.proof 0] kv9E) 0) (saidBy 1) = true ∧ quiesced (asksS true [.proof 0] kv9E) 0 (portBundle 0) = false
      ∧ (port (planS { upS with net := (portWith 1 (fun x => { x with trainAt := some 5 })).net } kv9E) 0).trainAt = some 5
      ∧ wantsNeighbour (expectAt (planS { upS with net := (portWith 1 (fun x => { x with trainAt := some 5 })).net } kv9E) 0) = true
      ∧ portState (planS { upS with net := (portWith 1 (fun x => { x with trainAt := some 5 })).net } kv9E) 0 ≤ 3
      ∧ missingJobs (placePos (setDisc (planS { upS with net := (portWith 1 (fun x => { x with trainAt := some 5 })).net } kv9E) 0 4)) 0 = [] := by
  (repeat' apply And.intro) <;> decide +kernel

/-- What the device with the keys 0 and 0 says, under a certificate of the root 0. -/
def trueSt : Statement :=
  { saidBy 1 with obj := { Signed.shipped 6 5 with cert := { Certificate.shipped 5 ⟨0, 0⟩ with issuer := keysDigest ⟨0, 0⟩ } },
                  deviceId := idOfKeys ⟨0, 0⟩ }
/-- A list of one holds it. -/
theorem one_contains (a : BitVec 256) : [a].contains a = true := by simp

/-- DiscoveryDecidesEachPort: a statement that is accepted, and the SEC unit's work on it. -/
theorem test_hyps_statement :
    statementOk (asksS false [.statement 0 trueSt] kv9E trueSt) trueSt okSig = true
      ∧ (asksS false [.statement 0 trueSt] kv9E trueSt).sec.work.find? SecWork.verifies = some (.statement 0 trueSt) := by
  refine ⟨?_, rfl⟩
  simp only [statementOk, objOk, Bool.and_eq_true]
  exact ⟨⟨⟨⟨by decide +kernel, by decide +kernel⟩, by decide +kernel⟩,
    ⟨⟨by decide +kernel, by decide +kernel⟩, by decide +kernel⟩, one_contains (keysDigest ⟨0, 0⟩)⟩, beq_self_eq_true (idOfKeys ⟨0, 0⟩)⟩

/-- R342, Table 12.8: a frame of VC3 carries PCP_MAP[11:9] and VID; a control frame has no VC. -/
theorem test_frame_tag :
    frameTag (setReg ethS (LNK_ETH_CTRL 0 0) (BitVec.ofNat 64 (5 * 2 ^ 9 + 2 ^ 24 + 0x123 * 2 ^ 25))) 0 (some 3) = some (some 5, 0x123)
      ∧ frameTag (setReg ethS (LNK_ETH_CTRL 0 0) (BitVec.ofNat 64 (2 ^ 24 + 0x123 * 2 ^ 25))) 0 none = some (none, 0x123)
      ∧ frameTag (setF ethS (LNK_ETH_CTRL 0 0) LNK_ETH_CTRL_TAG_EN 0) 0 (some 3) = none := by
  (repeat' apply And.intro) <;> decide +kernel

/-- R403, R478: the SMBus address before ENTDAA; the control outputs after power-on. -/
theorem test_pins_after_reset :
    mgmtAddress State.reset = 0x4C ∧ outPins State.reset = ⟨true, false, false, true⟩ ∧ laneIdle State.reset 0 = true := by
  (repeat' apply And.intro) <;> decide +kernel

/-! ### Time, traffic, memory -/

/-- Port 3 with a list of one entry of 1,000 ns. -/
def listS : State := setReg (setF gatedS (TSC_GATE_TIME 3) TSC_GATE_TIME_CYCLE 1000) (TSC_GMEM (portDie 3) 0) (BitVec.ofNat 64 (0xFF + 1000 * 2 ^ 8))
/-- Telemetry of port 0 into 64 entries at cluster 0's SRAM, with HEAD at a place. -/
def telS (head : Word) : State :=
  let s := setF (setF (setF upS TSC_TEL_CTRL TSC_TEL_CTRL_EN 1) TSC_TEL_SIZE TSC_TEL_SIZE_LOG2 6) (TSC_TEL_PORTMASK 0) ⟨0, 64⟩ 1
  setReg (setReg s TSC_TEL_BASE 0x200000000) TSC_TEL_HEAD head
/-- Port 0 withholds VC0 for its policer. -/
def policedS : State := portWith 4 (fun x => { x with withheld := [(0, 0)], policer := List.replicate 8 1 })

/-- TrafficTimersAct, ControlWritesTakeEffect: a list and none; evaluations on and off; telemetry off, with room, and full; a policer. -/
theorem test_hyps_timers :
    running listS = true ∧ nextBoundary listS 3 = some 1000 ∧ WakeAlarms listS ∧ listS.pwr.starved = [] ∧ gateLen upS 0 = 0
      ∧ isSet upS (TSC_THROTTLE 0) TSC_THROTTLE_EN = true ∧ isSet (setF upS (TSC_THROTTLE 0) TSC_THROTTLE_EN 0) (TSC_THROTTLE 0) TSC_THROTTLE_EN = false
      ∧ ((now upS).toNat / 1000 + 1) * 1000 < 2 ^ 64 ∧ isSet upS TSC_TEL_CTRL TSC_TEL_CTRL_EN = false
      ∧ isSet (telS 0) TSC_TEL_CTRL TSC_TEL_CTRL_EN = true ∧ telPorts (telS 0) = [(0 : Port).val] ∧ 2 ^ getF (telS 0) TSC_TEL_SIZE TSC_TEL_SIZE_LOG2 = 64
      ∧ ((reg (telS 0) TSC_TEL_HEAD).toNat + 2 ^ 64 - (reg (telS 0) TSC_TEL_TAIL).toNat) % 2 ^ 64 ≠ 64
      ∧ locateSpan (telS 0) none ((reg (telS 0) TSC_TEL_BASE).toNat + (reg (telS 0) TSC_TEL_HEAD).toNat % 64 * 128) 128 = some (.cluster 0, 0x200000000)
      ∧ ((reg (telS 64) TSC_TEL_HEAD).toNat + 2 ^ 64 - (reg (telS 64) TSC_TEL_TAIL).toNat) % 2 ^ 64 = 64
      ∧ locateSpan (telS 0) none ((reg (telS 0) TSC_TEL_BASE).toNat + 0 % 64 * 128) 128 = some (.cluster 0, 0x200000000)
      ∧ WritesWhole (telS 0) 0x200000000 128 ∧ ((0 : Vc).val, 0) ∈ (port policedS 0).withheld ∧ 0 < (port policedS 0).policer.getD 0 0
      ∧ ((1 : Vc).val, 0) ∉ (port policedS 0).withheld ∧ running policedS = true
      ∧ writable upS 2 TSC_TEL_CTRL = true ∧ (1 : Word).getLsbD 0 = true ∧ writable upS 0 FTU_CTRL = true ∧ writable State.reset 0 FTU_CTRL = false
      ∧ fget FTU_CTRL_SRC 1 ≤ 2 ∧ fget FTU_CTRL_SRC 1 ≠ getF upS FTU_CTRL FTU_CTRL_SRC ∧ 3 ≤ fget FTU_CTRL_SRC 3
      ∧ writable upS 0 PWR_CTRL = true ∧ (∀ u, u < 128 → domState upS u = 0) ∧ 2 ≤ domState (setDomain upS 96 3) 96
      ∧ writable State.reset 0 TSC_TEL_CTRL = false ∧ writable State.reset 0 PWR_CTRL = false := by
  unfold WakeAlarms WritesWhole; (repeat' apply And.intro) <;> decide +kernel

/-- Time follows source 2 (PFP), VALID as given, with a change to the FTU. -/
def timeS (valid : Nat) (f : Ftu → Ftu) : State :=
  let s := setF (setF upS FTU_CTRL FTU_CTRL_SRC 2) FTU_STATUS FTU_STATUS_VALID valid
  { s with ftu := f s.ftu }

/-- Time follows source 1 (PTP). -/
def ptpTimeS (valid : Nat) : State := setF (timeS valid id) FTU_CTRL FTU_CTRL_SRC 1
/-- Time follows its neighbour in direction 0, a class T port's, whose offset is 5. -/
def peerS : State :=
  let s := planS (setF (setF (setF (linkS 4) (LNK_BUNDLE_CTRL 0) LNK_BUNDLE_CTRL_CLASS 1) FTU_CTRL FTU_CTRL_SRC 2) FTU_STATUS FTU_STATUS_VALID 1) kv9E
  setReg { s with ftu := { s.ftu with peers := [0] } } (FTU_PEER_OFFSET 0) 5

/-- FabricTimeFollowsItsSource: edges close to the last, far from a second, on it, and the first of all; holdover; SYNC lost and won. -/
theorem test_hyps_edges :
    standby upS = true ∧ (timeS 1 (fun f => { f with lastEdge := some 0 })).ftu.lastEdge = some 0 ∧ 1 * 8192 < 0 + 100 * 65536
      ∧ (∀ e ∈ (timeS 1 id).ftu.lastEdge, e + 100 * 65536 ≤ 8192) ∧ getF (timeS 1 id) FTU_CTRL FTU_CTRL_SRC ≠ 0
      ∧ isSet (timeS 1 id) FTU_STATUS FTU_STATUS_VALID = true ∧ isSet (timeS 0 id) FTU_STATUS FTU_STATUS_VALID = false
      ∧ getF (timeS 1 id) FTU_LIMITS FTU_LIMITS_SYNC_LIMIT * 65536 < (phaseError ((1000000 * 8192 : Nat) - ppsComp (timeS 1 id))).natAbs
      ∧ (phaseError ((1 * 8192 : Nat) - ppsComp (timeS 1 id))).natAbs ≤ getF (timeS 1 id) FTU_LIMITS FTU_LIMITS_SYNC_LIMIT * 65536
      ∧ (timeS 0 (fun f => { f with seconds := some 5 })).ftu.seconds = some 5 ∧ isSet (timeS 1 id) FTU_STATUS FTU_STATUS_HOLDOVER = false
      ∧ isSet (setF (timeS 1 (fun f => { f with glitches := [9, 9, 9] })) FTU_STATUS FTU_STATUS_SYNC 1) FTU_STATUS FTU_STATUS_SYNC = true
      ∧ getF (ptpTimeS 1) FTU_CTRL FTU_CTRL_SRC = 1 ∧ isSet (ptpTimeS 1) FTU_STATUS FTU_STATUS_VALID = true
      ∧ 2 ≤ getF (timeS 1 id) FTU_CTRL FTU_CTRL_SRC ∧ peerOffsets (timeS 1 id) = [] ∧ peerOffsets peerS = [5] ∧ 2 ≤ getF peerS FTU_CTRL FTU_CTRL_SRC
      ∧ isSet peerS FTU_STATUS FTU_STATUS_VALID = true ∧ standby peerS = true ∧ (∀ e ∈ peerS.ftu.lastEdge, e + 100 * 65536 ≤ 8192)
      ∧ (phaseError ((1 * 8192 : Nat) - ppsComp peerS)).natAbs ≤ getF peerS FTU_LIMITS FTU_LIMITS_SYNC_LIMIT * 65536
      ∧ scheduledJobs (timeS 1 id) = [] ∧ phaseJump [9, 9, 9] = true
      ∧ getF upS FTU_LIMITS FTU_LIMITS_SYNC_LIMIT * 65536 < (reg (setReg upS FTU_SRC_OFFSET 0x7FFFFFFFFFFF) FTU_SRC_OFFSET).toInt.natAbs
      ∧ 16 ≤ (timeS 1 (fun f => { f with inRange := 16 })).ftu.inRange ∧ (timeS 1 id).ftu.inRange < 16 := by
  (repeat' apply And.intro) <;> decide +kernel

/-- Ports 0 and 2 carry PTP on a class H bundle in Ethernet mode, port 0 as the time source; port 1 has PTP_EN 0. -/
def ptpS : State :=
  let s := setF (setF (setF upS FTU_CTRL FTU_CTRL_SRC 1) FTU_STATUS FTU_STATUS_VALID 0) (LNK_BUNDLE_CTRL 0) LNK_BUNDLE_CTRL_CLASS 2
  setF (setF (setF s (LNK_BUNDLE_CTRL 0) LNK_BUNDLE_CTRL_ETH 1) (LNK_ETH_CTRL 0 0) LNK_ETH_CTRL_PTP_EN 1) (LNK_ETH_CTRL 0 1) LNK_ETH_CTRL_PTP_EN 0
/-- PFP. -/
def pfpS : State :=
  setF (setF (setF (linkS 4) FTU_CTRL FTU_CTRL_PFP_TX_EN 1) (LNK_BUNDLE_CTRL 0) LNK_BUNDLE_CTRL_CLASS 1) FTU_CTRL FTU_CTRL_SRC 0
/-- A time packet from port 0. -/
def timeX : Pkt := { inside (mkPacket { type := 5, vc := 7 } []) 0 with port := some 0 }

/-- STEP stands at `k` since 0, at 20 ms. -/
def bootAt (k : Nat) : State :=
  let s := setF upS HUB_BOOT HUB_BOOT_STEP k
  { s with ftu := { s.ftu with ft := 20000000 * 65536 } }

/-- TimeMessagesAndStartUpOfTime: a PTP port, a class T port that sends time, a time packet, alignment, READY to be set or to wait, a clock to lose. -/
theorem test_hyps_time :
    running ptpS = true ∧ ptpPort ptpS 0 = true ∧ isSet ptpS FTU_STATUS FTU_STATUS_VALID = false
      ∧ portEth ptpS 0 = true ∧ portEth ptpS 1 = true ∧ portEth ptpS 2 = true ∧ ptpPort ptpS 2 = false
      ∧ isSet ptpS (LNK_ETH_CTRL (portBundle 0) (portLane 0)) LNK_ETH_CTRL_PTP_EN = true
      ∧ isSet ptpS (LNK_ETH_CTRL (portBundle 1) (portLane 1)) LNK_ETH_CTRL_PTP_EN = false
      ∧ isSet ptpS (LNK_ETH_CTRL (portBundle 2) (portLane 2)) LNK_ETH_CTRL_PTP_EN = true
      ∧ ((now pfpS).toNat / 1000000 + 1) * 1000000 < 2 ^ 64 ∧ isSet pfpS FTU_CTRL FTU_CTRL_PFP_TX_EN = true ∧ timePorts pfpS = [0]
      ∧ isSet (setF upS FTU_CTRL FTU_CTRL_PFP_TX_EN 0) FTU_CTRL FTU_CTRL_PFP_TX_EN = false ∧ Arrived (hereS (planS upS kv9E) timeX) 0 timeX 5 ∧ timeX.p.fence = false
      ∧ timeX.port.bind (planDir (hereS (planS upS kv9E) timeX)) = some (0 : Fin 6).val
      ∧ getF (hereS (planS upS kv9E) timeX) FTU_CTRL FTU_CTRL_SRC ≠ 2
      ∧ ({ upS.boot with aligning := some 5 } : Boot).aligning = some 5 ∧ standby { upS with boot := { upS.boot with aligning := some 5 } } = true
      ∧ getF (bootAt 14) HUB_BOOT HUB_BOOT_STEP = 14 ∧ discovered (bootAt 14) = true ∧ running (bootAt 14) = true
      ∧ getF (bootAt 13) HUB_BOOT HUB_BOOT_STEP = 13 ∧ (bootAt 13).sec.plan = none ∧ (bootAt 13).boot.stepAt.toNat + 20000000 ≤ (now (bootAt 13)).toNat
      ∧ getF (bootAt 13) FTU_CTRL FTU_CTRL_SRC = 0 ∧ getF (bootAt 11) HUB_BOOT HUB_BOOT_STEP ∉ [12, 13, 14] ∧ discovered (planS (bootAt 14) kv9E) = false
      ∧ getF (planS (bootAt 14) kv9E) HUB_BOOT HUB_BOOT_STEP = 14 ∧ (bootAt 14).flt.bbBad = [] ∧ (bootAt 13).flt.bbBad = [] ∧ upS.flt.bbBad = [] ∧ getF upS FTU_CTRL FTU_CTRL_SRC = 0
      ∧ isSet (timeS 1 id) FTU_STATUS FTU_STATUS_SYNC = false 
      ∧ standby upS = true ∧ upS.boot.up = true ∧ upS.boot.halt = false := by
  unfold Arrived NoneHeld
  (repeat' apply And.intro) <;>
    first | exact holds_none _ _ rfl | decide +kernel

/-- Die 0's tier 0 window of 1 GiB is present, in the first GiB of its addresses. -/
def tierS : State := setF (setF upS MEM_STATUS MEM_STATUS_T0_OK 1) (MEM_TIER_SIZE 0) MEM_TIER_SIZE_T0 1

/-- MemoryErrorsAreTaken, Bar2ReachesTierZero: re-reads by the host and a core, scrubbing on and off, a window with and without errors, BAR2 open and closed. -/
theorem test_hyps_errors :
    running tierS = true ∧ locate tierS (readerCore .host) (0x010000000000 : BitVec 48).toNat = some (.tier 0 0, 0x010000000000)
      ∧ locate (setCore tierS 0 (Machine.core run0 0)) (some (0 : CoreId).val) (0x200000000 : BitVec 48).toNat = some (.cluster 0, 0x200000000)
      ∧ (Machine.core (setCore tierS 0 (Machine.core run0 0)) 0).running = true ∧ (Machine.core (setCore tierS 0 (Machine.core run0 0)) 0).trap = none
      ∧ isSet (setF tierS MEM_SCRUB MEM_SCRUB_EN 0) MEM_SCRUB MEM_SCRUB_EN = false ∧ isSet (setF tierS MEM_SCRUB MEM_SCRUB_EN 1) MEM_SCRUB MEM_SCRUB_EN = true
      ∧ slicePkt (hereS tierS dataX) 0 = some dataX ∧ dataX.die < 4 ∧ launch (launchS (openL 0)) 0 = some (openL 0) ∧ (openL 0).stage = 2
      ∧ running (launchS (openL 0)) = true
      ∧ (badIn { tierS with bad := [0x010000000000] } 0x010000000000 1).isSome = true
      ∧ bit (getF tierS MEM_STATUS (tierOk (0 : Fin 3))) (0 : Die) = true ∧ windowJobs tierS 0 0 = []
      ∧ 16 ≤ recentErrors { tierS with errTimes := [(0, List.replicate 16 0)] } 0 ∧ recentErrors tierS 0 < 16
      ∧ bit (getF (setF upS MEM_STATUS MEM_STATUS_T2_OK 1) MEM_STATUS (tierOk (2 : Fin 3))) (0 : Die) = true
      ∧ bar2Open tierS = true ∧ bar2Open State.reset = false ∧ locateSpan tierS none 0x010000000000 8 = some (.tier 0 0, 0x010000000000)
      ∧ badIn tierS 0x010000000000 8 = none ∧ WritesWhole tierS 0x010000000000 8 ∧ locateSpan upS none 0x010000000000 8 = none
      ∧ 0x010000000000 + getF tierS HIF_BAR2_BASE HIF_BAR2_BASE_WIN * 0x2000000000 + (0 : BitVec 38).toNat = 0x010000000000 := by
  unfold WritesWhole; (repeat' apply And.intro) <;> decide +kernel

/-! ### Jobs, images, domains -/

/-- An owner record, with an owner root of zeros. -/
def ownerO : Signed := Signed.shipped 4 3
/-- A plan of one port with a neighbour, signed under that root. -/
def planP : Plan :=
  { obj := { Signed.shipped 3 4 with cert := { Certificate.shipped 4 ⟨0, 0⟩ with issuer := keysDigest (ownerRoot ownerO) } },
    pos := 5, classes := [], ports := [⟨0, 0, some 0, kv9E⟩], ftuCtrl := 0 }
/-- An owned device with a PLAN at the front. -/
def ownedS : State := cmdS { upS with nvm := { upS.nvm with owner := some ownerO } } (entry 2 0 [])
/-- The SEC unit has a record to sign. -/
def busyS (s : State) : State := { s with sec := { s.sec with work := [.prov] } }

/-- PlansComeIntoForce: a malformed PLAN, a well-formed one, an unowned and an owned device. -/
theorem test_hyps_plans :
    AtFront (cmdS upS (entry 2 0 [])) 0 (entry 2 0 []) ∧ (wordAt (entry 2 0 []).words 0).toNat % 2 ^ 8 = 2
      ∧ FormOk (entry 2 0 []) [2, 3] ∧ ¬ FormOk (entry 2 0 [0, 0, 1]) [2, 3]
      ∧ AtFront (cmdS upS (entry 2 0 [0, 0, 1])) 0 (entry 2 0 [0, 0, 1]) ∧ upS.nvm.owner = none ∧ planOk ownedS planP badSig = false
      ∧ (cmdS upS (entry 2 0 [])).sec.work = [] ∧ nextWork (busyS upS) = some .prov ∧ SecWork.prov ≠ .ring (0 : RingId)
      ∧ AtFront (cmdS (busyS upS) (entry 2 0 [])) 0 (entry 2 0 []) := by
  unfold AtFront FormOk; (repeat' apply And.intro) <;> decide +kernel

/-- PlansComeIntoForce: that plan is accepted. -/
theorem test_hyps_plan_ok : planOk ownedS planP okSig = true := by
  have h : ownedS.nvm.owner = some ownerO := rfl
  simp only [planOk, h, objOk, planP, Signed.shipped, Certificate.shipped, List.contains_cons, beq_self_eq_true]
  decide

/-- PlansComeIntoForce: a first plan before and after discovery has reported its neighbour. -/
theorem test_hyps_first_plan :
    AtFront ownedS 0 (entry 2 0 []) ∧ FormOk (entry 2 0 []) [2, 3] ∧ ownedS.nvm.owner = some ownerO ∧ ownedS.sec.work = [] ∧ ownedS.sec.plan = none
      ∧ (∀ x ∈ planP.ports, wantsNeighbour x.expect = true)
      ∧ (∀ x ∈ planP.ports, getF ownedS (pStat x.port) LNK_PORT_STATUS_DISC = 0)
      ∧ (∀ x ∈ planP.ports, getF (setF ownedS (pStat 0) LNK_PORT_STATUS_DISC 1) (pStat x.port) LNK_PORT_STATUS_DISC ≠ 0)
      ∧ AtFront (setF ownedS (pStat 0) LNK_PORT_STATUS_DISC 1) 0 (entry 2 0 []) := by
  unfold AtFront FormOk; (repeat' apply And.intro) <;> decide +kernel

/-- The smallest admission block of job 1, and blocks with a quota above 1,024 and with a region in the CSR range. -/
def block (w4 : Word) (region : List Word) : List Word :=
  [1, 0, BitVec.ofNat 64 (region.length / 2 * 2 ^ 16 + if region.length = 0 then 0 else 64 * 2 ^ 32), 0, w4, 0, 0, 0] ++ region
/-- A JOB_ADMIT of job 1 for a block of 80 bytes. -/
def admitE : CmdEntry := entry 3 1 [0x1000, 80]
/-- A state whose QIDs are all in use. -/
def fullQ : State := (List.range 64).foldl (fun s k => setF s (PUP_QER k) PUP_QER_STATE 1) upS
/-- A JOB_END of job 1. -/
def endE : CmdEntry := entry 4 1 []

/-- JobsAreAdmittedAndEnd: every outcome's condition. -/
theorem test_hyps_admission :
    AtFront (cmdS upS admitE) 0 admitE ∧ jobOfEntry admitE = 1 ∧ FormOk admitE [2, 3] ∧ (wordAt admitE.words 0).toNat % 2 ^ 8 = 3
      ∧ blockOk [] (wordAt admitE.words 3).toNat 1 = false
      ∧ blockOk (block 0 []) (wordAt admitE.words 3).toNat 1 = true ∧ job (cmdS jobS admitE) 1 ≠ none
      ∧ blockOk (block 1025 []) 80 1 = true ∧ admitReject (cmdS upS admitE) 1 (block 1025 []) = some 0
      ∧ blockOk (block 0 [0x1000400000000, 0x1000000001000]) 80 1 = true
      ∧ admitReject (cmdS upS admitE) 1 (block 0 [0x1000400000000, 0x1000000001000]) = none
      ∧ (0x1000400000000, 0x1000000001000) ∈ aRegions (block 0 [0x1000400000000, 0x1000000001000])
      ∧ bits 0x1000400000000 48 48 = 1
      ∧ regionClash (cmdS upS admitE) 1 (bits 0x1000400000000 47 0) (bits 0x1000000001000 47 0) = true
      ∧ admitReject (cmdS upS admitE) 1 (block 0 [0x1010000000000, 0x1000000001000]) = none
      ∧ windowAbsent (cmdS upS admitE) (bits 0x1010000000000 47 0) (bits 0x1000000001000 47 0) = true
      ∧ (∀ k, k < 64 → getF (cmdS fullQ admitE) (PUP_QER k) PUP_QER_STATE ≠ 0) ∧ aRegions (block 0 []) = []
      ∧ admitReject (cmdS fullQ admitE) 1 (block 0 []) = none
      ∧ admitReject (cmdS upS admitE) 1 (block 0 []) = none ∧ aCircuits (block 0 []) = []
      ∧ getF (cmdS upS admitE) (PUP_QER 0) PUP_QER_STATE = 0 ∧ freeRtt (cmdS upS admitE) (aF (block 0 []) 0 49 32) = some 0 := by
  unfold AtFront FormOk; (repeat' apply And.intro) <;> decide +kernel

/-- JobsAreAdmittedAndEnd: JOB_END of an unknown job, of one that runs, and of a quiesced one. -/
theorem test_hyps_job_end :
    AtFront (cmdS upS endE) 0 endE ∧ jobOfEntry endE = 1 ∧ FormOk endE [] ∧ (wordAt endE.words 0).toNat % 2 ^ 8 = 4 ∧ job (cmdS upS endE) 1 = none
      ∧ job (cmdS jobS endE) 1 = some job1 ∧ jobQuiesced (cmdS jobS endE) 1 = false
      ∧ AtFront (cmdS (quietS 2 1 1 [1]) endE) 0 endE ∧ job (cmdS (quietS 2 1 1 [1]) endE) 1 = some job1
      ∧ jobQuiesced (cmdS (quietS 2 1 1 [1]) endE) 1 = true ∧ JobInTables job1 ∧ WakeAlarms (cmdS (quietS 2 1 1 [1]) endE)
      ∧ (cmdS (quietS 2 1 1 [1]) endE).coll.launches = [] ∧ (cmdS (quietS 2 1 1 [1]) endE).ftu.owner = []
      ∧ (∀ q ∈ (cmdS (quietS 2 1 1 [1]) endE).qids, q.1 < 64) ∧ (cmdS (quietS 2 1 1 [1]) endE).coll.csets = [] := by
  unfold AtFront FormOk JobInTables WakeAlarms; (repeat' apply And.intro) <;> decide +kernel

/-- A LOAD of job 1, 2,048 bytes from host memory. -/
def loadE : CmdEntry := entry 5 1 [0x1000, 0x80000000000]
/-- An image: header words 0 (magic, version, profile in [41:40]) and 10 (code), then one END at byte 256. -/
def image (prof code sig : Nat) (body : List Word) : List Word :=
  [BitVec.ofNat 64 (0x5445485A + 1 * 2 ^ 32 + prof * 2 ^ 40 + 2 ^ 48), 0, 0, 0, 0, 0, 0, 0, 0, 0,
   BitVec.ofNat 64 (256 + code * 2 ^ 32), 0, 0, 0, 0, 0, BitVec.ofNat 64 (1024 + sig * 2 ^ 32), 0] ++ List.replicate 14 0 ++ body
/-- The state of a LOAD: job 1 quiesced, under a bundle with one LIBRARY key. -/
def loadS : State :=
  let s := quietS 2 1 1 [1]
  cmdS { s with sec := { s.sec with bundle := some { img0 with libraryKeys := [0] } } } loadE
/-- A LOAD of an image at the start of die 0's tier 0, one of whose words fails. -/
def tierE : CmdEntry := entry 5 1 [0x010000000000, 0x80000000001]
/-- Its state. -/
def tierLoadS : State := cmdS { setF (setF (quietS 2 1 1 [1]) MEM_STATUS MEM_STATUS_T0_OK 1) (MEM_TIER_SIZE 0) MEM_TIER_SIZE_T0 1 with bad := [0x010000000008] } tierE

/-- LoadsBindTheirImages: the steps up to the one that each clause fails, and the images that pass. -/
theorem test_hyps_load :
    AtFront loadS 0 loadE ∧ jobOfEntry loadE = 1 ∧ (wordAt loadE.words 0).toNat % 2 ^ 8 = 5 ∧ FormOk loadE [2, 3]
      ∧ bits (wordAt loadE.words 3).toNat 31 1 = 0 ∧ job loadS 1 = some job1 ∧ jobQuiesced loadS 1 = true
      ∧ bit (wordAt loadE.words 3).toNat 0 = false ∧ bits (wordAt loadE.words 3).toNat 63 32 = 2048
      ∧ headerOk (0 :: (image 0 0 0 []).tail) = false ∧ headerOk (image 0 262145 0 []) = true ∧ sizesOk (image 0 262145 0 []) = false
      ∧ step1 (image 2 0 0 []) 2048 = 0 ∧ profile (image 2 0 0 []) = 2
      ∧ step1 (image 1 0 0 []) 2048 = 0 ∧ profile (image 1 0 0 []) = 1 ∧ hdF (image 1 0 0 []) 16 63 32 = 0
      ∧ step1 (image 1 0 64 []) 2048 = 0 ∧ hdF (image 1 0 64 []) 16 63 32 = 64 ∧ flowSigOk loadS badSig = false
      ∧ AtFront tierLoadS 0 tierE ∧ FormOk tierE [2, 3] ∧ job tierLoadS 1 = some job1 ∧ jobQuiesced tierLoadS 1 = true
      ∧ badImage tierLoadS tierE = some (.tier 0 0, 0x010000000008) ∧ loadS.sec.work = [] ∧ nextWork (busyS loadS) = some .prov := by
  unfold AtFront FormOk; (repeat' apply And.intro) <;> decide +kernel

/-- LoadsBindTheirImages: a fingerprint, a digest and an instruction that fail, and images that pass. -/
theorem test_hyps_load_steps :
    step1 (image 16 0 0 []) 2048 = 0 ∧ step2 loadS (image 16 0 0 []) okSig = 0 ∧ hdF (image 16 0 0 []) 0 44 44 = 1
      ∧ wordAt ((image 16 0 0 []).set 2 9) 2 ≠ digestWord loadS.sec.fp 0
      ∧ step3 loadS (image 0 0 0 []) = 0 ∧ step4 ((image 0 0 0 []).set 6 1) = (5, 0) ∧ step1 ((image 0 0 0 []).set 6 1) 2048 = 0
      ∧ (step4 (image 0 4 0 [0x3])).1 = 0 ∧ step5 (image 0 4 0 [0x3]) = (7, 0) ∧ step1 (image 0 4 0 [0x3]) 2048 = 0
      ∧ (step4 (image 0 4 0 [0xC8])).1 = 0 ∧ (step5 (image 0 4 0 [0xC8])).1 = 0 ∧ step2 loadS (image 0 4 0 [0xC8]) okSig = 0
      ∧ (bindImage (popEntry loadS 0) 1 job1 (image 0 4 0 [0xC8]) 2048 []).1 = 0
      ∧ step1 (image 1 8 64 [0x3800000]) 2048 = 0 ∧ step2 loadS (image 1 8 64 [0xE]) okSig = 0
      ∧ (step5 (image 1 8 64 [0xE])).1 = 0 ∧ (step4 (image 1 8 64 [0xE])).1 = 0
      ∧ hdF (image 0 4 0 [0xC8]) 15 63 32 = 0 ∧ loadS.ftu.owner = []
      ∧ heldImages loadS 1 = [] := by
  (repeat' apply And.intro) <;> decide +kernel

/-- The worked program of chapter 8: from index 0, LI; SYNC WAIT; CVT; ALU, three ADDIs and BNE; SYNC SIGNAL; STEP.END. -/
def workedCode : List (BitVec 32) :=
  [0x0000077D, 0x00004000, 0xC030031A, 0x000000C0, 0, 0, 0x0A483016, 0x8000000A, 0x00020000, 0x00000008,
   0x001C8404, 0x4000A508, 0x02010808, 0xFFFCC608, 0xFFE0065C, 0xC032001A, 0, 0, 0, 0x000000C8]

/-- Its words spell the instructions that the chapter names. -/
theorem test_worked_code_spelled :
    (instrStarts workedCode 0 0).map (spelledAt (.core 3) workedCode)
      = [some (.li (.core 3) 7 0x4000), some (.syncOpWait 3 (descAt workedCode 2)), some (.cvt 3 (descAt workedCode 6)),
         some (.alu (.core 3) 4 4 7 0), some (.addi (.core 3) 5 5 4096), some (.addi (.core 3) 8 8 128), some (.addi (.core 3) 6 6 (-1)),
         some (.bne (.core 3) 6 0 (-8)), some (.syncOpSignal 3 (descAt workedCode 15)), some (.stepEnd 3)] := by
  decide +kernel

/-- Its descriptors name the operands that the chapter gives. -/
theorem test_worked_code_operands :
    syncObj (descAt workedCode 2) = 24600 ∧ syncImm (descAt workedCode 2) = 1 ∧ syncObj (descAt workedCode 15) = 24601
      ∧ cvtRows (descAt workedCode 6) = 1 ∧ cvtCols (descAt workedCode 6) = 4096 ∧ cvtSrcStride (descAt workedCode 6) = 16384
      ∧ cvtDstStride (descAt workedCode 6) = 4096 ∧ cvtSrcG (descAt workedCode 6) = 4 ∧ cvtDstG (descAt workedCode 6) = 5
      ∧ cvtMx (descAt workedCode 6) = true := by
  decide +kernel

/-- Long forms, a Puppeteer core's instructions, reserved codes and flow instructions, from Tables 7.4, 8.1, 8.12 and 8.13. -/
theorem test_spelled_codes :
    spelledLong (.core 0) 0x00000171 0xFFFFFFFE = some (.jal (.core 0) 1 (-2)) ∧ spelledShort (.pup 2) 0x000000FC = none
      ∧ spelledShort (.pup 2) 0x000082F0 = some (.csrR 2 2 4) ∧ spelledShort (.core 0) 0x000082F0 = none
      ∧ spelledShort (.core 0) 0 = none ∧ spelledDesc 0 0x1E = none
      ∧ spelledFlow 1 0 true 0x000544C1 5 = some (.falu 1 0 3 1 5 1 5) ∧ spelledFlow 1 0 true 0x0F 0 = none := by
  decide +kernel

/-- LoadsCheckAndBindTheirImages: a word, a long form, a descriptor and a flow instruction that the loader accepts. -/
theorem test_hyps_spelled :
    shortStatus workedCode 10 0x001C8404 = 0 ∧ longStatus workedCode 0 0x0000077D 0x4000 = 0 ∧ descStatus (descAt workedCode 6) = 0
      ∧ flowStatus [0xE, 0] 0 = 0 := by
  decide +kernel

/-- A FLOW image of one FEND (two words: a program header and the instruction). -/
def flowImage : List Word := image 1 8 64 [0xE]

/-- An image that binds object 5, which another job holds. -/
def heldImage (prof sig : Nat) : List Word :=
  (image prof (if prof = 1 then 8 else 4) sig ([if prof = 1 then 0xE else 0xC8] ++ List.replicate 7 0 ++ [5, 0])).set 14 (BitVec.ofNat 64 (320 + 2 ^ 32))
/-- The state of that LOAD. -/
def objHeldS : State := setObj loadS 5 ⟨0, 2⟩

/-- LoadsBindTheirImages: a FLOW image that binds, one whose entries do not, and a short length. -/
theorem test_hyps_load_flow :
    step1 flowImage 2048 = 0 ∧ step2 loadS flowImage okSig = 0 ∧ step3 loadS flowImage = 0 ∧ (step4 flowImage).1 = 0 ∧ (step5 flowImage).1 = 0
      ∧ profile flowImage = 1 ∧ (bindFlow (countVerify (endWork (popEntry loadS 0) (.ring 0)) true) 1 job1 flowImage 2048 1 []).1 = 0
      ∧ loadSleepers (bindFlow (countVerify (endWork (popEntry loadS 0) (.ring 0)) true) 1 job1 flowImage 2048 1 []).2.2 1 = []
      ∧ step1 (heldImage 1 64) 2048 = 0 ∧ (step4 (heldImage 1 64)).1 = 0 ∧ (step5 (heldImage 1 64)).1 = 0
      ∧ (bindFlow (countVerify (endWork (popEntry objHeldS 0) (.ring 0)) true) 1 job1 (heldImage 1 64) 2048 1 []).1 = 0xA
      ∧ loadSleepers (bindImage (popEntry loadS 0) 1 job1 (image 0 4 0 [0xC8]) 2048 []).2.2 1 = []
      ∧ step1 (heldImage 0 0) 2048 = 0 ∧ (step4 (heldImage 0 0)).1 = 0 ∧ (step5 (heldImage 0 0)).1 = 0
      ∧ (bindImage (popEntry objHeldS 0) 1 job1 (heldImage 0 0) 2048 []).1 = 0xA ∧ loadS.pwr.starved = [] := by
  (repeat' apply And.intro) <;> decide +kernel

/-- Words 2 of QUIESCE entries: a KIND and an ID. -/
def quiesceE (kind ident : Nat) : CmdEntry := entry 10 0 [BitVec.ofNat 64 (kind + ident * 2 ^ 16)]

/-- DomainsQuiesceOrTimeOut: each outcome of QUIESCE, a drain that ends, and one that does not. -/
theorem test_hyps_quiesce :
    AtFront (cmdS jobS (quiesceE 5 0)) 0 (quiesceE 5 0) ∧ (wordAt (quiesceE 5 0).words 0).toNat % 2 ^ 8 = 10
      ∧ quiesceOk (quiesceE 1 7) = true ∧ job (cmdS jobS (quiesceE 1 7)) 7 = none
      ∧ quiesceOk (quiesceE 2 3) = true ∧ getF (quietS 1 2 3 []) (PUP_QER 0) PUP_QER_STATE = 1
      ∧ getF (quietS 1 2 3 []) (PUP_QER 0) PUP_QER_KIND = 2 ∧ getF (quietS 1 2 3 []) (PUP_QER 0) PUP_QER_ID = 3
      ∧ quiesceOk (quiesceE 0 3) = true ∧ quiesceBusy (cmdS jobS (quiesceE 0 3)) (quiesceE 0 3) = false
      ∧ quiesceBusy (cmdS jobS (quiesceE 2 3)) (quiesceE 2 3) = false ∧ quiesceOk (quiesceE 3 3) = true
      ∧ quiesceBusy (cmdS jobS (quiesceE 3 3)) (quiesceE 3 3) = false
      ∧ quiesceOk (quiesceE 1 1) = true ∧ job (cmdS jobS (quiesceE 1 1)) 1 ≠ none ∧ quiesceBusy (cmdS jobS (quiesceE 1 1)) (quiesceE 1 1) = false
      ∧ getF (cmdS jobS (quiesceE 1 1)) (PUP_QER 0) PUP_QER_STATE = 0
      ∧ running (quietS 1 2 3 []) = true ∧ mapFind (quietS 1 2 3 []).qids 0 = some ⟨0, 0, 0, [], 0, false, 0, [0], 0, []⟩
      ∧ drained (quietS 1 2 3 []) 0 ⟨0, 0, 0, [], 0, false, 0, [0], 0, []⟩ = true
      ∧ drained (setCore (quietS 1 3 0 []) 2 (Machine.core run0 0)) 0 ⟨0, 0, 0, [], 0, false, 0, [0], 0, []⟩ = false := by
  unfold AtFront; (repeat' apply And.intro) <;> decide +kernel

/-- A launch of job 1 that runs on engine 3. -/
def busyLaunch : Launch := { Launch.fresh 0 1 [] 0 0 with stage := 2, flows := [Flow.start 3] }

/-- RESTART of QID 0 at an FT. -/
def restartE (ft : Word) : CmdEntry := entry 11 0 [ft, 1, 0]

/-- RestartsTakeTheirEdits: each outcome of RESTART, and an engine's QID at its FT with one edit. -/
theorem test_hyps_restart :
    restartOk (entry 11 0 [0, 0, 0]) = false ∧ AtFront (cmdS jobS (restartE 0)) 0 (restartE 0) ∧ restartOk (restartE 0) = true
      ∧ (restartE 0).qids = [0] ∧ getF (cmdS jobS (restartE 0)) (PUP_QER 0) PUP_QER_STATE ≠ 2
      ∧ getF (cmdS (quietS 2 2 3 []) (restartE 0)) (PUP_QER 0) PUP_QER_STATE = 2
      ∧ (0 : Word).toNat < (now (cmdS (quietS 2 2 3 []) (restartE 0))).toNat + 20000
      ∧ (now (cmdS (quietS 2 2 3 []) (restartE 20000))).toNat + 20000 ≤ (20000 : Word).toNat
      ∧ gateRejects (popEntry (cmdS (quietS 2 2 3 []) (restartE 20000)) 0) [0] 0 = false
      ∧ regionRejects (popEntry (cmdS (quietS 2 2 3 []) (restartE 20000)) 0) [0] = false
      ∧ gateRejects (popEntry (cmdS { quietS 2 0 0 [] with edits := [(TSC_SHAPER 0 0, some (BitVec.ofNat 64 (2 ^ 40 - 1)))] } (restartE 20000)) 0) [0] 0 = false
      ∧ qidId (quietS 3 2 3 []) 0 = 3 ∧ isSet (setF (quietS 3 2 3 []) (RED_CTRL 3) RED_CTRL_EN 0) (RED_CTRL 3) RED_CTRL_EN = false := by
  unfold AtFront; (repeat' apply And.intro) <;> decide +kernel

/-! ### Provenance, attestation, owners -/

/-- A provenance request of job 1 with spans, 32 words at most. -/
def reqWords (n : Nat) (wait : Nat) (spans : List Word) : List Word :=
  [BitVec.ofNat 64 (1 + n * 2 ^ 16 + wait * 2 ^ 23), 7, 1, 0x4000, 99, 0, 0, 0] ++ spans
/-- A state with one request in line. -/
def provS (s : State) (w : List Word) : State :=
  { s with sec := { s.sec with work := [.prov], prov := [⟨0, 0, 0, 1, w, 0, false, false⟩] } }
/-- A job whose object 7 is bound. -/
def boundS : State := setObj jobS 7 ⟨0, 1⟩

/-- A request whose span list did not come. -/
def lostS : State := { jobS with sec := { jobS.sec with work := [.prov], prov := [⟨0, 0, 0, 1, reqWords 1 0 [], 0, false, true⟩] } }

/-- ProvenanceRecordsAreWritten: PROV of an unknown job and of job 1; requests that are malformed, that fail on a span, that succeed, and
that wait. -/
theorem test_hyps_prov :
    AtFront (cmdS upS (entry 9 1 [0])) 0 (entry 9 1 [0]) ∧ (wordAt (entry 9 1 [0]).words 0).toNat % 2 ^ 8 = 9
      ∧ job (cmdS upS (entry 9 1 [0])) (jobOfEntry (entry 9 1 [0])) = none
      ∧ job (cmdS jobS (entry 9 1 [0])) (jobOfEntry (entry 9 1 [0])) = some job1 ∧ FormOk (entry 9 1 [0]) [2]
      ∧ nextWork (provS jobS []) = some .prov ∧ provReady (provS jobS []) ⟨0, 0, 0, 1, [], 0, false, false⟩ = true ∧ reqOk (provS jobS []) 1 [] = false
      ∧ reqOk (provS jobS (reqWords 1 0 [0xA, 64])) 1 (reqWords 1 0 [0xA, 64]) = true
      ∧ (allSpans (provS jobS []) 1 (Sys2Proof.Machine.spans (reqWords 1 0 [0xA, 64])) []).1 = 2
      ∧ reqOk jobS 1 (reqWords 1 0 [0x14, 64]) = true
      ∧ (allSpans jobS 1 (Sys2Proof.Machine.spans (reqWords 1 0 [0x14, 64])) [some 5]).1 = 0
      ∧ reqOk boundS 1 (reqWords 1 1 [0x14, 64]) = true
      ∧ provReady (provS boundS (reqWords 1 1 [0x14, 64])) ⟨0, 0, 0, 1, reqWords 1 1 [0x14, 64], 0, false, false⟩ = false
      ∧ ¬ FormOk (entry 9 1 [0, 1]) [2] ∧ AtFront (cmdS jobS (entry 9 1 [0, 1])) 0 (entry 9 1 [0, 1])
      ∧ nextWork lostS = some .prov ∧ provReady lostS ⟨0, 0, 0, 1, reqWords 1 0 [], 0, false, true⟩ = true := by
  unfold AtFront FormOk; (repeat' apply And.intro) <;> decide +kernel

/-- A device whose keys are ready, and one whose report waits for its signature. -/
def keysS : State := setF upS SEC_STATUS SEC_STATUS_KEYS_READY 1
/-- A report waits for its signature. -/
def attS : State := { keysS with sec := { keysS.sec with work := [.attest], keys := some ([0], [0]) } }

/-- AttestationReportsAreSigned: a report in progress, keys not ready, keys ready, and one to sign. -/
theorem test_hyps_attestation :
    secRuns upS = true ∧ getF (setF upS SEC_ATT_CTRL SEC_ATT_CTRL_REQ 1) SEC_ATT_CTRL SEC_ATT_CTRL_REQ = 1
      ∧ getF upS SEC_ATT_CTRL SEC_ATT_CTRL_REQ = 0 ∧ getF upS SEC_STATUS SEC_STATUS_KEYS_READY = 0
      ∧ getF keysS SEC_ATT_CTRL SEC_ATT_CTRL_REQ = 0 ∧ getF keysS SEC_STATUS SEC_STATUS_KEYS_READY = 1
      ∧ secRuns attS = true ∧ nextWork attS = some .attest ∧ attS.sec.keys = some ([0], [0])
      ∧ 128 + attS.sec.body.length + (865 + attS.sec.cfg.deviceCert.sigSlh.length) + 384 + 29792 < 65536 := by
  (repeat' apply And.intro) <;> decide +kernel

/-- An OWNER object under its own root. -/
def ownO : Signed := { Signed.shipped 4 4 with cert := { Certificate.shipped 4 ⟨0, 0⟩ with issuer := keysDigest (ownerRoot ownerO) } }
/-- It is next in the SEC unit. -/
def ownS (s : State) : State := { s with sec := { s.sec with work := [.owner ownO] } }

/-- TheManagementPortServes: that object certifies itself, and a device with the same root may take it too. -/
theorem test_hyps_owner : okSig.rsaOk = true ∧ okSig.slhOk = true ∧ ownerRoot ownO = ownerRoot ownerO ∧ objOk ownO 4 4 [keysDigest (ownerRoot ownO)] = true := by
  have e : ∀ d : BitVec 256, objOk { Signed.shipped 4 4 with cert := { Certificate.shipped 4 ⟨0, 0⟩ with issuer := d } } 4 4 [d] = true := by
    intro d; simp [objOk, Signed.shipped, Certificate.shipped]
  exact ⟨rfl, rfl, rfl, e _⟩

/-- TheManagementPortServes: an empty owner slot after READY, flash slot 0 and slot 1 booted, the power manager and VSTBY up. -/
theorem test_hyps_management :
    running (setF upS HUB_BOOT HUB_BOOT_READY 1) = true ∧ getF (setF upS HUB_BOOT HUB_BOOT_READY 1) HUB_BOOT HUB_BOOT_READY = 1
      ∧ (setF upS HUB_BOOT HUB_BOOT_READY 1).flt.bbBad = [] ∧ nextWork upS = none ∧ bundleOk upS img0 okSig = true ∧ badSig.slhOk = false
      ∧ nextWork (ownS State.reset) = some (.owner ownO) ∧ running (ownS upS) = true ∧ (ownedS.nvm.owner = some ownerO ∧ ownedS.sec.work = [])
      ∧ getF upS HUB_BOOT HUB_BOOT_SOURCE = 0
      ∧ getF (setF upS HUB_BOOT HUB_BOOT_SOURCE 1) HUB_BOOT HUB_BOOT_SOURCE = 1 ∧ pmRuns upS = true ∧ standby upS = true := by
  (repeat' apply And.intro) <;> decide +kernel

/-! ### Faults, HALT, the black box, tests -/

/-- A record that core 3 opened. -/
def rec0 : EventRec := openRec upS 3 1 1 1 0 false
/-- A state whose open record is `rec0`. -/
def openS : State := { upS with flt := { upS.flt with cur := some rec0, nextSeq := 1 } }
/-- Forced HALTs allowed. -/
def haltEnS : State := setF upS FLT_CTRL FLT_CTRL_HALT_FORCE_EN 1
/-- A value of FLT_FORCE. -/
def forceV (cause cls act : Nat) : Word := BitVec.ofNat 64 (cause + cls * 2 ^ 8 + act * 2 ^ 10)

/-- FaultsAreAcknowledgedAndForced: a matching and a stale acknowledgement; each kind of forced fault. -/
theorem test_hyps_force :
    writable openS 0 FLT_ACK = true ∧ openS.flt.cur = some rec0 ∧ fget FLT_ACK_SEQ 0 = rec0.seq.toNat ∧ fget FLT_ACK_MERGE_CNT 0 = rec0.mergeCnt.toNat
      ∧ fget FLT_ACK_SEQ 7 ≠ rec0.seq.toNat ∧ fltOpen upS = true ∧ fget FLT_FORCE_CLASS (forceV 1 2 0) = 2 ∧ fget FLT_FORCE_ACT (forceV 1 2 0) = 0
      ∧ fget FLT_FORCE_CLASS (forceV 0x20 3 0) = 3 ∧ fltOpen haltEnS = true ∧ fget FLT_FORCE_CLASS (forceV 0x20 3 1) = 3
      ∧ fget FLT_FORCE_ACT (forceV 0x20 3 1) = 1 ∧ isSet haltEnS FLT_CTRL FLT_CTRL_HALT_FORCE_EN = true
      ∧ fget FLT_FORCE_CLASS (forceV 7 1 1) = 1 ∧ (Machine.core run0 0).running = true ∧ (Machine.core run0 0).trap = none := by
  (repeat' apply And.intro) <;> decide +kernel

/-- A HALT with its record to be sealed. -/
def haltS : State := { openS with boot := { openS.boot with halt := true }, flt := { openS.flt with haltRec := some (0, rec0) } }
/-- A sealed segment. -/
def sealedS : State := setF haltS FLT_STATUS FLT_STATUS_SEALED 1

/-- HaltsStopAndAreSealed: a device that runs, one with a snapshot to write, a HALT to seal, and a seal. -/
theorem test_hyps_halt :
    pmRuns upS = true ∧ upS.boot.halt = false ∧ running upS = true
      ∧ standby { upS with flt := { upS.flt with snap := some (0, 0) } } = true
      ∧ standby haltS = true ∧ isSet haltS FLT_STATUS FLT_STATUS_SEALED = false ∧ haltS.flt.snap = none ∧ haltS.flt.bbBad = []
      ∧ isSet sealedS FLT_STATUS FLT_STATUS_SEALED = true ∧ running (setF upS FLT_STATUS FLT_STATUS_SEALED 1) = true
      ∧ isSet (setF upS FLT_STATUS FLT_STATUS_SEALED 1) FLT_STATUS FLT_STATUS_SEALED = true
      ∧ isSet upS FLT_STATUS FLT_STATUS_SEALED = false ∧ upS.flt.bbBad = []
      ∧ mapWf (fun _ => (0 : Word)) upS.flt.bb = true ∧ openS.flt.cur = some rec0 ∧ haltS.flt.cur = some rec0
      ∧ (∀ q, haltS.flt.cur = some q → q.seq.toNat % 32768 ≠ haltS.flt.nextSeq.toNat % 32768)
      ∧ (0x0F00000 ∉ haltS.flt.bbBad ∧ 0x0F00000 / 8 ∉ ([] : List Nat) ∧ 0x0F00000 / 8 ∈ [0x0F00000 / 8]) := by
  (repeat' apply And.intro) <;> decide +kernel

/-- A page of the history with one record. -/
def pageS : State := { upS with flt := { upS.flt with hist := [7, 9], histCount := 1 } }

/-- TheBlackBoxIsKeptAndRead: the next second is 10^9 ns; the test access port stands at IDCODE, and may stand at BYPASS and SAMPLE. -/
theorem test_hyps_black_box :
    standby upS = true ∧ upS.flt.bbBad = [] ∧ (now upS).toNat < 1000000000 ∧ 1000000000 < 2 ^ 64 ∧ 1000000000 % 1000000000 = 0
      ∧ (BitVec.ofNat 32 0).toNat = 0 ∧ upS.flt.histCount < 1022 ∧ upS.flt.histPage < 640
      ∧ upS.flt.histCount = 0 ∧ (0 < pageS.flt.histCount ∧ pageS.flt.hist.length = pageS.flt.histCount + 1)
      ∧ mctpIn upS ⟨true, 9⟩ = true ∧ mctpIn upS ⟨false, 0⟩ = true
      ∧ upS.boot.tapIr = .idcode ∧ upS.boot.vstby = true ∧ upS.boot.rails = true
      ∧ ({ upS.boot with tapIr := .bypass } : Boot).tapIr = .bypass ∧ ({ upS.boot with tapIr := .sample } : Boot).tapIr = .sample := by
  (repeat' apply And.intro) <;> decide +kernel

/-- The TEST_START alarm 960 has fired for core 0. -/
def testFired : State := { placedS with ftu := { placedS.ftu with fired := [⟨960, 5, 0, 0, false, 0, false⟩] } }
/-- The spare runs a periodic test. -/
def testingS : State := stateOf { placedS with flt := { placedS.flt with tests := [(4, 0)] } } 4 4

/-- An observation of core 4, in service or fenced, whose 168 hours have passed. -/
def overS (st : Nat) : State := stateOf { placedS with flt := { placedS.flt with obs := [(4, 0)] } } 4 st

/-- Core 0's test is due, in a cluster without a spare. -/
def lateS : State :=
  let s := setReg upS (CLU_MAP 0) 0x7688
  { s with flt := { s.flt with due := [0] } }

/-- TestsRunAndDecide: due tests that run, wait, are off; late ones; TEST_START; results on the spare. -/
theorem test_hyps_tests :
    running placedS = true ∧ getF placedS (CORE_STATUS 4) CORE_STATUS_STATE = 1 ∧ isSet placedS FLT_CTRL FLT_CTRL_TEST_EN = true
      ∧ placedS.flt.tests = [] ∧ placedS.flt.due = []
      ∧ getF (setCore (stateOf placedS 0 3) 0 (Machine.core run0 0)) (CORE_STATUS 0) CORE_STATUS_STATE = 3
      ∧ (Machine.core (setCore (stateOf placedS 0 3) 0 (Machine.core run0 0)) 0).running = true
      ∧ isSet (setF upS FLT_CTRL FLT_CTRL_TEST_EN 0) FLT_CTRL FLT_CTRL_TEST_EN = false ∧ observed upS 4 = false
      ∧ 0 ∈ ({ run0 with flt := { run0.flt with due := [0] } } : State).flt.due
      ∧ (firedNext testFired 960 5).isSome = true ∧ (⟨960, 5, 0, 0, false, 0, false⟩ : Fired).unit ≠ none ∧ coreAwake testFired 0 = true
      ∧ testFired.flt.wantAlarm = [] ∧ (Machine.core testFired 0).running = false ∧ getF testFired (CORE_STATUS 0) CORE_STATUS_STATE = 2
      ∧ WakeAlarms testFired ∧ testFired.pwr.starved = []
      ∧ getF (stateOf run0 0 2) (CORE_STATUS 0) CORE_STATUS_STATE = 2 ∧ (Machine.core (stateOf run0 0 2) 0).job ≠ 0
      ∧ heldTestAlarm run0 0 = none ∧ (Machine.core run0 0).running = true ∧ WakeAlarms run0
      ∧ 0 ∈ lateS.flt.due ∧ (Machine.core lateS 0).running = false ∧ hasSpare lateS 0 = false ∧ testAsked lateS 0 = false ∧ running lateS = true := by
  unfold WakeAlarms; (repeat' apply And.intro) <;> decide +kernel

/-- Decided on the cluster's cores. -/
theorem others_serve (s : State) (c p q : Nat)
    (h : ∀ i, i < 5 → 5 * c + i ≠ p → 5 * c + i ≠ q → isSet s (CORE_CTRL (5 * c + i)) CORE_CTRL_EN = true ∧ (Machine.core s (5 * c + i)).dueEntries = []) :
    OthersServe s c p q := by
  intro m hm hp hq
  have hx : m = 5 * c + m % 5 := by omega
  rw [hx]
  exact h _ (by omega) (by omega) (by omega)

/-- TestsRunAndDecide: results on the spare, observed or not; the end of an observation; FLT_RETURN of a core and of an engine. -/
theorem test_hyps_test_results :
    running testingS = true ∧ getF testingS (CORE_STATUS 4) CORE_STATUS_STATE = 4 ∧ testingS.flt.tests = [(4, 0)] ∧ testingS.flt.due = []
      ∧ testingS.flt.bbBad = [] ∧ logicalOf testingS 4 = 0xFF ∧ isSpare testingS 4 = true ∧ observed testingS 4 = false
      ∧ observed (observe testingS 4) 4 = true ∧ (overS 1).flt.obs = [(4, 0)] ∧ getF (overS 1) (CORE_STATUS 4) CORE_STATUS_STATE ≠ 6
      ∧ getF (overS 6) (CORE_STATUS 4) CORE_STATUS_STATE = 6 ∧ running (overS 6) = true ∧ mapFind (observe placedS 4).flt.obs 4 ≠ some 0
      ∧ (wakeTest (setF placedS (CLU_MAP 0) CLU_MAP_SPARE 7) 4).flt.tests = [(4, 4)]
      ∧ getF (wakeTest (setF placedS (CLU_MAP 0) CLU_MAP_SPARE 7) 4) (CORE_STATUS 4) CORE_STATUS_STATE = 4
      ∧ getF (wakeTest (setF placedS (CLU_MAP 0) CLU_MAP_SPARE 7) 4) (CLU_MAP 0) CLU_MAP_SPARE = 7
      ∧ OthersServe testingS 0 4 4 ∧ testWaits (overS 1) 4 = false ∧ (now (overS 1)).toNat < testDue (overS 1) 4
      ∧ testWaits (overS 6) 4 = false ∧ (now (overS 6)).toNat < testDue (overS 6) 4 ∧ testWaits testingS 4 = true
      ∧ testDue (setF (overS 1) FLT_CTRL FLT_CTRL_TEST_HOURS 0) 0 ≤ (now (overS 1)).toNat ∧ mapWf coldValue placedS.csr = true
      ∧ getF placedS FLT_RETURN FLT_RETURN_REQ = 0 ∧ getF (setF placedS FLT_RETURN FLT_RETURN_REQ 1) FLT_RETURN FLT_RETURN_REQ = 1 ∧ fget FLT_RETURN_REQ 0x104 = 1 ∧ fget FLT_RETURN_INDEX 0x104 = 4 ∧ fget FLT_RETURN_ENGINE 0x104 = 0
      ∧ getF (stateOf placedS 4 6) (CORE_STATUS 4) CORE_STATUS_STATE = 6
      ∧ fget FLT_RETURN_REQ 0x183 = 1 ∧ fget FLT_RETURN_ENGINE 0x183 = 1 ∧ fget FLT_RETURN_INDEX 0x183 = 3
      ∧ isSet (setF placedS (RED_STATUS 3) RED_STATUS_FENCED 1) (RED_STATUS 3) RED_STATUS_FENCED = true := by
  (repeat' apply And.intro) <;> first | exact others_serve _ _ _ _ (by decide +kernel) | decide +kernel

/-- Core 0 waits for its swap; the swap of cluster 0 is under way. -/
def swapS : State := { placedS with flt := { placedS.flt with tests := [(0, 5)] } }
/-- The swap under way. -/
def swapping0 : State := stateOf (stateOf swapS 0 5) 4 5

/-- TheSpareTakesAnIdentity: a swap that begins, one that does not, and one that ends. -/
theorem test_hyps_swap :
    running swapS = true ∧ coreOf swapS 0 = some 0 ∧ spareOf swapS 0 = some 4 ∧ (Machine.core swapS 0).running = false
      ∧ isSet swapS (CLU_STATUS 0) CLU_STATUS_SWAP_BUSY = false ∧ quietCore (Machine.core swapS 0) = true ∧ swapWanted swapS 0 = true
      ∧ swapWanted (setF placedS (CORE_CTRL 0) CORE_CTRL_EN 1) 0 = false
      ∧ swapping swapping0 0 = some (0, 0, 4) ∧ Memory.wf swapping0.mem = true ∧ (Machine.core swapping0 0).dueEntries = [] ∧ (Machine.core swapping0 0).dma = []
      ∧ swapping0.flt.bbBad = [] ∧ coreAwake swapS 0 = true ∧ coreAwake swapS 4 = true ∧ coreAwake (setDomain swapS 4 2) 4 = false
      ∧ 2 ≤ domState (setDomain swapS 4 2) 4 ∧ WakeAlarms (setDomain swapS 4 2) ∧ swapS.pwr.starved = []
      ∧ OthersServe swapping0 0 0 4 ∧ isSet swapping0 (CORE_CTRL 4) CORE_CTRL_EN = true ∧ isSet swapping0 (CORE_CTRL 0) CORE_CTRL_EN = true
      ∧ (∀ e ∈ swapping0.flt.tests, e.1 = 0) ∧ (∀ e ∈ swapping0.flt.tests, e.2 = 5)
      ∧ swapReason ({ swapping0 with flt := { swapping0.flt with tests := [(0, 0)] } }) 0 = 0
      ∧ 1 < swapReason { swapping0 with flt := { swapping0.flt with tests := [] } } 0 := by
  (repeat' apply And.intro) <;> first | exact others_serve _ _ _ _ (by decide +kernel) | (unfold WakeAlarms; decide +kernel) | decide +kernel

/-! ### Resets, links, start-up -/

/-- The device in PCIe boot, with GO set. -/
def pcieS : State := setF { State.reset with boot := { State.reset.boot with porst := false, pcieBoot := true } } HUB_BOOT_LEN HUB_BOOT_LEN_GO 1
/-- Held in cold reset, with a bundle in flash slot 0. -/
def flashS : State := { State.reset with nvm := { State.reset.nvm with slot0 := some (1, img0) } }
/-- In a warm reset, the bundle kept. -/
def warmS : State := { upS with boot := { upS.boot with warm := true, up := false }, sec := { upS.sec with bundle := some img0 } }

/-- Step 13: the link is up, and the function not yet open. -/
def steppingS : State := setF { upS with boot := { upS.boot with opened := false } } HUB_BOOT HUB_BOOT_STEP 13
/-- A black box that holds a sealed segment. -/
def keptS : State := putCopy flashS 0x0F00000 (withHead 5 9 true [])

/-- ResetsHoldTheDevice, TheFunctionFollowsItsLink: a running and a halted device, one in reset, PCIe boot. -/
theorem test_hyps_resets :
    standby upS = true ∧ upS.boot.rails = true ∧ upS.boot.halt = false ∧ haltS.boot.halt = true ∧ standby haltS = true
      ∧ upS.boot.porst = false ∧ upS.boot.up = true ∧ upS.flt.bbBad = [] ∧ mapWf coldValue upS.csr = true
      ∧ pcieS.boot.up = false ∧ pcieS.boot.warm = false ∧ pcieS.boot.porst = false
      ∧ hostUp upS = true ∧ upS.boot.pcieUp = true ∧ State.reset.boot.pcieUp = false ∧ upS.boot.perst = false ∧ upS.qrings = []
      ∧ warmS.boot.warm = true ∧ (upS.boot.opened = true ∧ State.reset.boot.opened = false ∧ State.reset.boot.pcieBoot = false ∧ hostUp steppingS = true ∧ steppingS.boot.opened = false)
      ∧ isSet (setF upS (HIF_MSIX_DATA 3) HIF_MSIX_DATA_MASK 0) (HIF_MSIX_DATA 3) HIF_MSIX_DATA_MASK = false ∧ 13 ≤ getF steppingS HUB_BOOT HUB_BOOT_STEP ∧ getF upS HUB_BOOT HUB_BOOT_STEP < 13
      ∧ bundleOk pcieS img0 badSig = false ∧ warmS.boot.up = false ∧ warmS.boot.pcieBoot = false
      ∧ reach pcieS = .boot ∧ isSet pcieS HUB_BOOT_LEN HUB_BOOT_LEN_GO = true := by
  (repeat' apply And.intro) <;> decide +kernel

/-- StartUpRunsItsSteps: a device held in reset, with a bundle; inputs that fail at each step, and sound ones; PCIe boot; a warm exit. -/
theorem test_hyps_start_up :
    standby flashS = true ∧ flashS.boot.rails = true ∧ flashS.boot.porst = true ∧ flashS.boot.halt = false ∧ flashS.boot.up = false
      ∧ ({ flashS.boot with clockLost := true } : Boot).clockLost = true ∧ flashS.boot.clockLost = false
      ∧ configOk flashS flashS.nvm.cfgA okSig = true ∧ configOk flashS flashS.nvm.cfgA badSig = false ∧ configOk flashS flashS.nvm.cfgB badSig = false
      ∧ MramReads flashS ∧ ¬ MramReads { flashS with nvm := { flashS.nvm with helperA := ⟨[], 1⟩, helperB := ⟨[], 1⟩ } } ∧ sealedSegment keptS = some 9
      ∧ bundleOk flashS img0 okSig = true ∧ bundleOk pcieS img0 badSig = false ∧ bundleOk pcieS img0 okSig = true
      ∧ flashS.boot.pcieBoot = false ∧ flashS.boot.opened = false ∧ flashS.sec.plan = none
      ∧ (goodCopy flashS.nvm.helperA flashS.nvm.helperB).isSome = true ∧ State.reset.nvm.slot0 = none
      ∧ flashS.nvm.slot1 = none ∧ soundB.flashOk = true ∧ flashS.nvm.planSlot = none ∧ Sound soundB ∧ flashS.boot.fromWarm = false
      ∧ WakeAlarms flashS ∧ flashS.pwr.starved = []
      ∧ reach pcieS = .boot ∧ pcieS.sec.plan = none ∧ pcieS.boot.fromWarm = false ∧ pcieS.pwr = Pwr.cold
      ∧ warmS.boot.warm = true ∧ bundleHeld warmS soundB = true ∧ bundleHeld { warmS with sec := Sec.cold } soundB = false ∧ warmS.nvm.slot0 = none ∧ warmS.nvm.slot1 = none
      ∧ warmS.boot.clockLost = false ∧ ({ warmS.boot with clockLost := true } : Boot).clockLost = true ∧ warmS.sec.plan = none ∧ warmS.pwr.alarms = [] := by
  unfold Sound WakeAlarms MramReads; (repeat' apply And.intro) <;> decide +kernel

/-! ### Power -/

/-- The rail 0 has not answered three times; a limit of 100 W and 100 A; die 0 at 100 °C with T_THROTTLE at 95 °C. -/
def silentS : State := { upS with pwr := { upS.pwr with silent := [(0, 3)] } }
/-- Limits. -/
def limitS : State := setF (setF upS PWR_LIMIT PWR_LIMIT_PL 100) PWR_LIMIT PWR_LIMIT_TDC_LIMIT 100
/-- The package draws `w` watts and VCORE `a` amps. -/
def drawS (w a : Nat) : State := { limitS with pwr := { limitS.pwr with watts := [1000 * w], amps := [a] } }
/-- A hot die, at level 2. -/
def hotS : State := setF (setF (setF upS PWR_THERM PWR_THERM_T_THROTTLE 95) (PWR_TEMP 0) PWR_TEMP_TEMP 400) PWR_LEVEL (thermalF 0) 2
/-- A cool die, at level 2. -/
def coolS : State := setF (setF upS PWR_THERM PWR_THERM_T_THROTTLE 95) PWR_LEVEL (thermalF 0) 2

/-- SuppliesAreWatched, LevelsFollowPowerAndHeat: a silent rail; loads over, far below and just below the limits; hot and cool dies. -/
theorem test_hyps_levels :
    pmRuns silentS = true ∧ 3 ≤ mapGet (fun _ => 0) silentS.pwr.silent 0 ∧ mapGet (fun _ => 0) upS.pwr.silent 0 < 3
      ∧ mapGet (fun _ => 0) upS.pwr.silent 11 < 3 ∧ (3 : Fin 11).val = 3 ∧ 3 ≤ mapGet (fun _ => 0) ({ upS with pwr := { upS.pwr with silent := [(11, 3)] } } : State).pwr.silent 11
      ∧ upS.boot.halt = false
      ∧ pmRuns limitS = true ∧ getF limitS PWR_LEVEL PWR_LEVEL_POWER < 8 ∧ limitS.ftu.ft < 2 ^ 78
      ∧ (mapGet (fun _ => (0 : Word)) limitS.pwr.lastStep 0).toNat < 2 ^ 62 ∧ limitS.pwr.edcUntil.toNat < 2 ^ 62
      ∧ getF (drawS 200 0) PWR_LIMIT PWR_LIMIT_PL * 1000 < windowMw (drawS 200 0) ∧ getF (drawS 0 200) PWR_LIMIT PWR_LIMIT_TDC_LIMIT < meanAmps (drawS 0 200)
      ∧ windowMw (drawS 50 50) * 100 < getF (drawS 50 50) PWR_LIMIT PWR_LIMIT_PL * 1000 * 95
      ∧ meanAmps (drawS 50 50) * 100 < getF (drawS 50 50) PWR_LIMIT PWR_LIMIT_TDC_LIMIT * 95
      ∧ 0 < getF (setF limitS PWR_LEVEL PWR_LEVEL_POWER 3) PWR_LEVEL PWR_LEVEL_POWER
      ∧ windowMw (drawS 97 97) ≤ getF limitS PWR_LIMIT PWR_LIMIT_PL * 1000 ∧ meanAmps (drawS 97 97) ≤ getF limitS PWR_LIMIT PWR_LIMIT_TDC_LIMIT
      ∧ getF limitS PWR_LIMIT PWR_LIMIT_PL * 1000 * 95 ≤ windowMw (drawS 97 97) * 100 ∧ getF limitS PWR_LIMIT PWR_LIMIT_TDC_LIMIT * 95 ≤ meanAmps (drawS 97 97) * 100
      ∧ tThrottle hotS ≤ tempAt hotS 0 ∧ thermalLevel hotS 0 = 2
      ∧ (∀ i, i < 12 → tempAt coolS (12 * 0 + i) < tThrottle coolS - 12) ∧ 0 < thermalLevel coolS 0 := by
  (repeat' apply And.intro) <;> decide +kernel

/-- Core 0 wakes from DUIKER; cluster 1 wakes from DIKDIK with its cores idle. -/
def wakingS : State := setDomain { placedS with pwr := { placedS.pwr with waking := [0] } } 0 2
/-- Cluster 1 wakes. -/
def clusterS : State :=
  (List.range 5).foldl (fun s j => stateOf s (5 + j) 2) (setF { upS with pwr := { upS.pwr with waking := [81] } } (PWR_DOMAIN 81) PWR_DOMAIN_STATE 3)

/-- TemperaturesAreWatched, DomainsWakeAndSettle: cool and hot samples, a long heat, domains that wake. -/
theorem test_hyps_heat :
    (400 : BitVec 16).toInt ≤ 420 ∧ 440 ≤ (440 : BitVec 16).toInt
      ∧ mapGet (fun _ => 0) ({ upS with pwr := { upS.pwr with hot110 := [(0, 1)] } } : State).pwr.hot110 0 = 1
      ∧ (List.replicate 60 (0 : BitVec 16)).length = 60
      ∧ 1000 ≤ mapGet (fun _ => 0) ({ upS with pwr := { upS.pwr with hot105 := [(0, 1000)] } } : State).pwr.hot105 0
      ∧ mapGet (fun _ => 0) upS.pwr.hot105 0 < 1000 ∧ signed 16 (getF upS (PWR_HBM_TEMP 0) PWR_HBM_TEMP_TEMP) < 380 ∧ 380 ≤ (380 : BitVec 16).toInt
      ∧ running wakingS = true ∧ 0 ∉ upS.pwr.waking ∧ 0 ∈ wakingS.pwr.waking ∧ WakeAlarms wakingS ∧ wakingS.pwr.starved = []
      ∧ (Machine.core wakingS 0).dueEntries = [] ∧ wakingS.coll.launches = []
      ∧ running clusterS = true ∧ 81 ∈ clusterS.pwr.waking ∧ domState clusterS 81 = 3 ∧ clusterS.flt.bbBad = []
      ∧ (∀ j, j < 5 → getF clusterS (CORE_STATUS (5 * (81 - 80) + j)) CORE_STATUS_STATE = 2 ∧ (Machine.core clusterS (5 * (81 - 80) + j)).dueEntries = []) := by
  unfold WakeAlarms; (repeat' apply And.intro) <;> decide +kernel

/-- TemperaturesAreWatched: sixty samples of 0 are cool ones. -/
theorem test_hyps_cool : ∀ v ∈ List.replicate 60 (0 : BitVec 16), v.toInt < tThrottle hotS ∧ v.toInt ≤ 420 := by
  intro v h; rw [List.eq_of_mem_replicate h]; decide +kernel

/-! ### The whole machine -/

/-- EveryStepKeepsTheInvariant, OnlyLosingVstbyEndsAHalt, AnEmptyQueueLetsOneCyclePass: states that meet their hypotheses. -/
theorem test_hyps_machine :
    Memory.wf upS.mem = true ∧ mapWf coldValue placedS.csr = true ∧ WakeAlarms placedS ∧ step placedS = .next (tick placedS)
      ∧ haltS.boot.halt = true ∧ haltS.pending.head? ≠ some .vstbyRemoved ∧ upS.pending = [] ∧ standby upS = true ∧ upS.boot.porst = false
      ∧ upS.ftu.acc < 2 ^ 32 ∧ upS.net.ports = [] ∧ running haltS = false
      ∧ getF upS HUB_BOOT HUB_BOOT_STEP ≠ 12 ∧ getF upS HUB_BOOT HUB_BOOT_STEP ≠ 13 ∧ getF (bootAt 13) HUB_BOOT HUB_BOOT_STEP = 13 ∧ (bootAt 13).boot.pcieBoot = false
      ∧ (bootAt 13).net.ports = [] ∧ running (bootAt 13) = true ∧ (bootAt 13).boot.stepAt.toNat + 20000000 ≤ (now (bootAt 13)).toNat ∧ State.reset.boot.porst = true := by
  unfold WakeAlarms; (repeat' apply And.intro) <;> first | rfl | decide +kernel

/-! ### Ill-formed commands -/

/-- A FUNC outside Table 8.2. -/
theorem test_wf_alu : (Instr.alu (.core 0) 1 2 3 0x013).wf = false := by decide
/-- A shift by 64. -/
theorem test_wf_shift : (Instr.shli (.core 0) 1 2 64).wf = false ∧ (Instr.shri (.core 0) 1 2 64).wf = false ∧ (Instr.shrai (.core 0) 1 2 64).wf = false := by
  decide
/-- SUB is no function of ALUL. -/
theorem test_wf_alul : (Instr.alul (.core 0) 1 2 0x001 0).wf = false := by decide
/-- Table 8.3 ends at 7. -/
theorem test_wf_mfs : (Instr.mfs 0 1 8).wf = false := by decide
/-- TIME.READ with one destination twice. -/
theorem test_wf_time_read : (Instr.timeRead (.core 0) 5 5).wf = false ∧ (Instr.timeRead (.core 0) 0 0).wf = true := by decide
/-- A DMA of MODE 3, an MMA whose formats differ, a WLD with a reserved bit, a VEC of an FP-only operation on INT32, a CVT of no rows. -/
theorem test_wf_descriptors :
    (Instr.dma 0 (fillD ||| 0x100#128)).wf = false ∧ (Instr.mma 0 (mmaD ^^^ 0x8000#128)).wf = false ∧ (Instr.wld 0 (wldD ||| 1#128 <<< 48)).wf = false
      ∧ (Instr.vec 0 (vecD 64 ||| 5#128 <<< 8)).wf = false ∧ (Instr.cvt 0 (cvtD ^^^ 1#128 <<< 35)).wf = false := by
  (repeat' apply And.intro) <;> decide +kernel
/-- Each SYNC command with another's SOP. -/
theorem test_wf_sync :
    (Instr.syncOpSignal 0 (syncD 2 5 0)).wf = false ∧ (Instr.syncOpAdd 0 (syncD 0 5 0)).wf = false ∧ (Instr.syncOpSet 0 (syncD 0 5 0)).wf = false
      ∧ (Instr.syncOpWait 0 (syncD 0 5 0)).wf = false ∧ (Instr.syncFirst 0 (syncD 0 5 0)).wf = false := by
  (repeat' apply And.intro) <;> decide +kernel
/-- Functions and conditions past Table 8.13. -/
theorem test_wf_flow : (Instr.falu 0 0 1 2 3 8 0).wf = false ∧ (Instr.fbr 0 0 1 2 5 0).wf = false := by decide

/-! ### Values from the spec's tables and worked examples -/

/-- The state that a command leaves. -/
def after (c : Instr) (s : State) : State := match exec c s with | .next t => t | _ => s

/-- R212: x / 0 = 0, the most negative number over −1 is itself with remainder 0, x mod 0 = x. -/
theorem test_division_corners :
    getG (after (.alu (.core 0) 2 1 0 0x014) (regS 7)) (.core 0) 2 = 0
      ∧ getG (after (.alul (.core 0) 2 1 0x010 0xFFFFFFFF) (regS 0x8000000000000000)) (.core 0) 2 = 0x8000000000000000
      ∧ getG (after (.alu (.core 0) 2 1 0 0x017) (regS 7)) (.core 0) 2 = 7 := by
  (repeat' apply And.intro) <;> decide +kernel

/-- Conversions at the boundaries (chapter 3, worked example): to BF16, FP16 and E4M3. -/
theorem test_convert_large :
    (convert 0 1 .rne false 0 0x3F808000).1 = 0x3F80 ∧ (convert 0 1 .rne false 0 0x3F818000).1 = 0x3F82
      ∧ convert 0 2 .rne false 0 0x477FEFFF = (0x7BFF, { inexact := true })
      ∧ convert 0 2 .rne false 0 0x477FF000 = (0x7C00, { overflow := true, inexact := true })
      ∧ convert 0 2 .rne true 0 0x477FF000 = (0x7BFF, { overflow := true, inexact := true })
      ∧ convert 0 3 .rne false 0 0x43E78000 = (0x7E, { inexact := true })
      ∧ convert 0 3 .rne false 0 0x43E80000 = (0x7F, { overflow := true, inexact := true })
      ∧ convert 0 3 .rne true 0 0x43E80000 = (0x7E, { overflow := true, inexact := true }) := by
  (repeat' apply And.intro) <;> decide +kernel

/-- The same table: E3M2, infinities and NaN, a flushed source, INT8. -/
theorem test_convert_small :
    convert 0 5 .rne false 0 0xC1E80000 = (0x3F, { inexact := true })
      ∧ convert 0 5 .rne false 0 0xC1F00000 = (0x3F, { overflow := true, inexact := true })
      ∧ convert 0 3 .rne false 0 0x7F800000 = (0x7F, { invalid := true }) ∧ convert 0 7 .rne false 0 0x7FC00000 = (0, { invalid := true })
      ∧ convert 0 1 .rne false 0 0x80400000 = (0x8000, { denorm := true }) ∧ convert 0 9 .rne false 0 0x40490FDB = (3, { inexact := true }) := by
  (repeat' apply And.intro) <;> decide +kernel

/-- A partial in TXP (chapter 3, worked example): 3.0 and 2^-20 give POS 129 and W 0x30_0001, and round to BF16 3.0, FP32 0x4040_0004. -/
theorem test_txp_partial :
    (sumTerms [.code 0 0x40400000, .code 0 0x35800000]).txp = [0x81, 0x00, 0x01, 0x00, 0x30, 0, 0, 0, 0, 0, 0, 0]
      ∧ Xacc.out 1 (sumTerms [.code 0 0x40400000, .code 0 0x35800000]) = (0x4040, { inexact := true })
      ∧ Xacc.out 0 (sumTerms [.code 0 0x40400000, .code 0 0x35800000]) = (0x40400004, {}) := by
  (repeat' apply And.intro) <;> decide +kernel

/-- The same inputs under two trees (chapter 4, worked example): 257 narrows to 0x4380, 258 and 257 leave as FP32. -/
theorem test_narrow_trees :
    (Xacc.out 1 (sumTerms [.code 0 0x43800000, .code 0 0x3F800000])).1 = 0x4380
      ∧ (Xacc.out 0 (sumTerms [.code 0 0x43800000, .code 0 0x3F800000, .code 0 0x3F800000])).1 = 0x43810000
      ∧ (Xacc.out 0 (sumTerms [.code 1 0x4380, .code 0 0x3F800000, .code 0 0])).1 = 0x43808000 := by
  (repeat' apply And.intro) <;> decide +kernel

/-- Feed indices of R136's example: A[70][5] in single class, A[3][2] in FP4. -/
theorem test_feed_index : feedIndex 0 6 5 = 709 ∧ feedIndex 1 3 2 = 389 := by decide

/-- Encoding the end of an update part (chapter 8, worked example): its WAIT, CVT and SIGNAL are descriptors the loader takes, with the fields named. -/
theorem test_worked_descriptors :
    descOk 0x1A 0xC0C030031A = true ∧ syncSop 0xC0C030031A = 3 ∧ objOf upS 0 0xC0C030031A = 24600 ∧ valOf upS 0 0xC0C030031A = 1
      ∧ descOk 0x1A 0xC032001A = true ∧ syncSop 0xC032001A = 0 ∧ objOf upS 0 0xC032001A = 24601
      ∧ descOk 0x16 0x00000008000200008000000A0A483016 = true ∧ cvtMx 0x00000008000200008000000A0A483016 = true
      ∧ cvtRows 0x00000008000200008000000A0A483016 = 1 ∧ cvtCols 0x00000008000200008000000A0A483016 = 4096
      ∧ cvtSrcStride 0x00000008000200008000000A0A483016 = 16384 ∧ cvtDstStride 0x00000008000200008000000A0A483016 = 4096
      ∧ cvtSrcG 0x00000008000200008000000A0A483016 = 4 ∧ cvtDstG 0x00000008000200008000000A0A483016 = 5
      ∧ cvtScaleG 0x00000008000200008000000A0A483016 = 8 := by
  (repeat' apply And.intro) <;> decide +kernel

/-- Lengths of the instructions of that fragment: LI 2 indices, SYNC and CVT 4, ALU, ADDI, BNE and STEP.END 1. -/
theorem test_worked_lengths :
    instrLen 0x0000077D = 2 ∧ instrLen 0xC030031A = 4 ∧ instrLen 0x0A483016 = 4 ∧ instrLen 0x001C8404 = 1 ∧ instrLen 0x4000A508 = 1
      ∧ instrLen 0xFFE0065C = 1 ∧ instrLen 0x000000C8 = 1 := by decide

/-- A 10 µs list (chapter 11, worked example), at words 256 and 257 of the gate memory, BASE 512, PHASE 2,500. -/
def tenS : State :=
  let s := setReg (setReg upS (TSC_GMEM 0 256) 0x0007D020000FA001) (TSC_GMEM 0 257) 0x0000C800000ED8D0
  let s := setF (setF s (TSC_GATE_CTRL 0) TSC_GATE_CTRL_LEN 4) (TSC_GATE_CTRL 0) TSC_GATE_CTRL_BASE 512
  setF (setF s (TSC_GATE_TIME 0) TSC_GATE_TIME_CYCLE 10000) (TSC_GATE_TIME 0) TSC_GATE_TIME_PHASE 2500

/-- That list: its entries, the entry in force at each FT of the table, and R303 accepts it. -/
theorem test_worked_list :
    gateEntries tenS 0 = [(0x01, 4000), (0x20, 2000), (0xD0, 3800), (0x00, 200)] ∧ gateAt tenS 0 50002500 = (0, 0x01)
      ∧ gateAt tenS 0 50006500 = (1, 0x20) ∧ gateAt tenS 0 50008500 = (2, 0xD0) ∧ gateAt tenS 0 50012300 = (3, 0x00)
      ∧ gateAt tenS 0 50012500 = (0, 0x01) ∧ listOk tenS 0 2 10000 2500 512 (gateEntries tenS 0) = true := by
  (repeat' apply And.intro) <;> decide +kernel

/-- R301 leads of Table 2.2: the GATE_CYCLE alarm of that list, for FT 50,002,500, fires at 50,002,460. -/
theorem test_alarm_lead :
    fireAt (setReg (setF upS (FTU_ALARM_CTRL 0) FTU_ALARM_CTRL_ACTION 1) (FTU_ALARM_TARGET 0) 50002500) 0 = 50002460 := by decide +kernel

/-- Warm reset exit (chapter 2, worked example): the two arrivals and their T_align. -/
theorem test_t_align : tAlign 7200000099450 = 7200000110000 ∧ tAlign 7200000109450 = 7200000120000 := by decide

/-- R328's example: a 1-lane port with a round trip of 760 ns takes 9 credits in advance. -/
theorem test_adv : advOf upS 0 760 = 9 := by decide +kernel

/-- A grade L logical map (chapter 14, worked example): clusters 2, 5, 9 and 14 present logical cores 0 and 1 only. -/
theorem test_logical_map :
    logicalMap ([2, 5, 9, 14].foldl (fun s c => setF (setF s (CLU_MAP c) CLU_MAP_PHYS2 7) (CLU_MAP c) CLU_MAP_PHYS3 7) upS) = 0xF3FFFF3FFF3FF3FF := by
  decide +kernel

/-- R152: an object saturates and says so; the sum of one cycle does not wrap. -/
theorem test_object_saturates : (addTo ⟨0xFFFFFFFFFFFFFFFE, 1⟩ 2) = ⟨0xFFFFFFFFFFFFFFFF, 0x100001⟩ := by decide +kernel

/-- SHA3-256 of no bytes, as the standard gives it (a value from outside the spec). -/
theorem test_sha3 : sha3 [] = 0x4A43F8804B0AD882FA493BE44DFF80F562D661A05647C15166D71EBFF8C6FFA7 := by decide +kernel
/-- CRC-32C of "123456789", as the standard gives it (a value from outside the spec). -/
theorem test_crc32c : crc32c [0x31, 0x32, 0x33, 0x34, 0x35, 0x36, 0x37, 0x38, 0x39] = 0xE3069283 := by decide +kernel

end Sys2Proof.Tests
end

section
/-! SUPPORT. The register table: which fields a register has, and what the access codes' masks say bit by bit (R13, R15). -/
namespace Sys2Proof.Proofs
open Sys2Proof.Machine Sys2Proof.Machine.Claims Sys2Proof.Laws

/-! ### Every row of the table -/

/-- A field whose Warm column names a value names its cold value. -/
def warmIsCold (f : FieldDef) : Bool :=
  match f.warm with
  | .keep => true
  | .live => true
  | .v n => f.cold == .v n
  | .seq a b => f.cold == .seq a b

/-- The fields of a row lie in the word and share no bit. -/
def fieldsApart : List FieldDef → Bool
  | [] => true
  | f :: fs =>
    decide (f.fld.lo + f.fld.w ≤ 64)
      && fs.all (fun g => decide (g.fld.lo + g.fld.w ≤ f.fld.lo) || decide (f.fld.lo + f.fld.w ≤ g.fld.lo))
      && fieldsApart fs

theorem regTable_warmIsCold : regTable.all (fun r => r.fields.all warmIsCold) = true := by decide

theorem regTable_fieldsApart : regTable.all (fun r => fieldsApart r.fields) = true := by decide

/-- A register found in a list is a row of it. -/
theorem mem_of_findIn {rs : List RegDef} {off : Nat} {r : RegDef} {ix : List Nat} (h : findIn rs off = some (r, ix)) :
    r ∈ rs := by
  induction rs with
  | nil => exact absurd h (by simp [findIn])
  | cons q rs ih =>
    unfold findIn at h
    split at h
    · exact List.mem_cons_of_mem _ (ih h)
    · split at h
      · cases h; exact List.mem_cons_self
      · exact List.mem_cons_of_mem _ (ih h)

theorem ite_subset {α : Type} {c : Prop} [Decidable c] {a b l : List α} (ha : a ⊆ l) (hb : b ⊆ l) :
    (if c then a else b) ⊆ l := by
  split <;> assumption

/-- The blocks of the register map make up the table. -/
theorem blockOf_subset (off : Nat) : blockOf off ⊆ regTable := by
  unfold blockOf
  repeat' refine ite_subset ?_ ?_
  any_goals exact List.nil_subset _
  all_goals
    intro r hr
    simp only [regTable, List.mem_append, hr, true_or, or_true]

theorem mem_regTable_of_findReg {off : Nat} {r : RegDef} {ix : List Nat} (h : findReg off = some (r, ix)) : r ∈ regTable :=
  blockOf_subset off (mem_of_findIn h)

/-! ### Masks, bit by bit -/

theorem accMask_getLsbD (p : Acc → Bool) (fs : List FieldDef) {i : Nat} (hi : i < 64) :
    (accMask p fs).getLsbD i = fs.any (fun f => p f.acc && decide (f.fld.lo ≤ i) && decide (i < f.fld.lo + f.fld.w)) := by
  induction fs with
  | nil => simp [accMask]
  | cons f fs ih =>
    unfold accMask
    rw [List.any_cons, ← ih]
    cases hp : p f.acc
    · simp
    · rw [if_pos rfl, fset_getLsbD _ _ _ _ hi, Nat.testBit_two_pow_sub_one]
      by_cases hin : f.fld.lo ≤ i ∧ i < f.fld.lo + f.fld.w
      · have : i - f.fld.lo < f.fld.w := by omega
        simp [hin, this]
      · have : (decide (f.fld.lo ≤ i) && decide (i < f.fld.lo + f.fld.w)) = false := by simpa using hin
        simp [hin, this]

/-- A register's mask of an access code holds the bits of that code. -/
theorem codeMask_getLsbD (off : Nat) (a : Acc) {i : Nat} (hi : i < 64) :
    (codeMask off (· == a)).getLsbD i = hasCode off i a := by
  unfold codeMask hasCode
  cases findReg off with
  | none => exact BitVec.getLsbD_zero
  | some e => exact accMask_getLsbD _ _ hi

theorem codeMask_eq_zero {off : Nat} {a : Acc} (h : ∀ i, hasCode off i a = false) : codeMask off (· == a) = 0 := by
  apply BitVec.eq_of_getLsbD_eq
  intro i hi
  rw [codeMask_getLsbD off a hi, h i]; simp

theorem codeMask_ne_zero {off i : Nat} {a : Acc} (hi : i < 64) (h : hasCode off i a = true) : codeMask off (· == a) ≠ 0 := by
  intro h0
  have := codeMask_getLsbD off a hi
  rw [h0, h] at this
  simp at this

theorem hasCode_of_codeMask_zero {off i : Nat} {a : Acc} (hi : i < 64) (h : codeMask off (· == a) = 0) :
    hasCode off i a = false := by
  rw [← codeMask_getLsbD off a hi, h]; simp

theorem rwqMask_eq_zero {off : Nat} (h : NoRwq off) : rwqMask off = 0 :=
  codeMask_eq_zero (a := .rwq) h

/-! ### Reset -/

/-- With no register written, every register reads its cold value. -/
theorem reg_of_csr_nil {s : State} (h : s.csr = []) (o : Nat) : reg s o = coldValue o := by
  unfold reg; rw [h]; rfl

/-- Settles O59: reset writes no register and no byte, so each reads as its default. -/
theorem resetLeavesColdValues : Obligations.ResetLeavesColdValues := by
  refine ⟨⟨reset_mem_wf, reset_csr_wf, ?_⟩, reg_of_csr_nil rfl, ?_, rfl, rfl, rfl, rfl, ?_, ?_⟩
  · intro e he; cases he
  · intro k hk; exact if_neg hk
  · decide
  · decide

end Sys2Proof.Proofs
end

section
/-! SUPPORT. A write to a plain register: what its W1C bits, then its RW bits, become (R13, R14, R402). -/
namespace Sys2Proof.Proofs
open Sys2Proof.Machine Sys2Proof.Machine.Claims Sys2Proof.Laws

variable (s : State) (off : Nat) (v hw : Word)

/-! ### The W1C bits -/

theorem reg_eventMsg_other {i k : Nat} (hi : i < 64) (h : k ≠ HIF_MSIX_PEND 4) : reg (eventMsg s i) k = reg s k := by
  unfold eventMsg
  split
  · exact msix_reg_other s _ _ (by rwa [show (256 + i) / 64 = 4 by omega])
  · rfl

/-- The registers with a device event are none of the pending bits, and their vectors are the first five. -/
theorem eventVector_bounds {i : Nat} (h : eventVector off = some i) : i < 64 ∧ off ≠ HIF_MSIX_PEND 4 := by
  unfold eventVector at h
  split_ifs at h <;> cases h <;>
    simp only [FTU_STATUS, PWR_STATUS, FLT_STATUS, SEC_STATUS, SEC_PROV_STATUS, HIF_MSIX_PEND] at * <;> omega

/-- A register's word after its W1C bits have taken a write. -/
def w1cWord (old m v hw : Word) : Word :=
  fset resetCnt ((old &&& ~~~(v &&& m)) ||| (hw &&& m)) (satAdd 8 (fget resetCnt old) (ones (v &&& hw &&& m) 64))

theorem writeW1c_of_no_bits (h : codeMask off (· == .w1c) = 0) : writeW1c s off v hw = s := if_pos h

/-- What the W1C bits of a write do: the word, and the message of a set. -/
theorem writeW1c_eq (h : codeMask off (· == .w1c) ≠ 0) :
    writeW1c s off v hw = setReg s off (w1cWord (reg s off) (codeMask off (· == .w1c)) v hw)
    ∨ (hw &&& codeMask off (· == .w1c) ≠ 0 ∧ ∃ i, eventVector off = some i ∧
        writeW1c s off v hw = eventMsg (setReg s off (w1cWord (reg s off) (codeMask off (· == .w1c)) v hw)) i) := by
  unfold writeW1c
  rw [if_neg h]
  by_cases h0 : hw &&& codeMask off (· == .w1c) = 0
  · exact .inl (if_pos h0)
  · cases he : eventVector off with
    | none => exact .inl (if_neg h0)
    | some i => exact .inr ⟨h0, i, rfl, if_neg h0⟩

theorem reg_writeW1c_same (h : codeMask off (· == .w1c) ≠ 0) :
    reg (writeW1c s off v hw) off = w1cWord (reg s off) (codeMask off (· == .w1c)) v hw := by
  rcases writeW1c_eq s off v hw h with e | ⟨_, i, hi, e⟩
  · rw [e, reg_setReg_same]
  · obtain ⟨hlt, hne⟩ := eventVector_bounds off hi
    rw [e, reg_eventMsg_other _ hlt hne, reg_setReg_same]

theorem reg_writeW1c_other {k : Nat} (hk : k ≠ off) (hp : k ≠ HIF_MSIX_PEND 4) : reg (writeW1c s off v hw) k = reg s k := by
  by_cases h : codeMask off (· == .w1c) = 0
  · rw [writeW1c_of_no_bits s off v hw h]
  · rcases writeW1c_eq s off v hw h with e | ⟨_, i, hi, e⟩
    · rw [e, reg_setReg_other _ _ _ _ hk]
    · rw [e, reg_eventMsg_other _ (eventVector_bounds off hi).1 hp, reg_setReg_other _ _ _ _ hk]

theorem writeW1c_frame : { writeW1c s off v hw with csr := s.csr, out := s.out } = s := by
  by_cases h : codeMask off (· == .w1c) = 0
  · rw [writeW1c_of_no_bits s off v hw h]
  · rcases writeW1c_eq s off v hw h with e | ⟨_, i, _, e⟩ <;> rw [e]
    · rfl
    · exact congrArg (fun t => { t with csr := s.csr, out := s.out })
        (eventMsg_frame (setReg s off (w1cWord (reg s off) (codeMask off (· == .w1c)) v hw)) i)

/-- A write in whose cycle hardware sets nothing sends no message. -/
theorem writeW1c_without_set :
    { writeW1c s off v 0 with csr := s.csr } = s ∧ CsrKept s (writeW1c s off v 0) [off] := by
  by_cases h : codeMask off (· == .w1c) = 0
  · rw [writeW1c_of_no_bits s off v 0 h]
    exact ⟨rfl, fun _ _ => rfl⟩
  · rcases writeW1c_eq s off v 0 h with e | ⟨h0, _⟩
    · rw [e]
      exact ⟨rfl, fun o ho => reg_setReg_other _ _ _ _ (by simpa using ho)⟩
    · exact absurd (BitVec.zero_and) h0

/-! ### The RW bits -/

/-- What an RW write is taken as rests on the grade and on whether telemetry runs, rings apart. -/
theorem takenRw_congr {s t : State} {off : Nat} (w : Word) (hsec : t.sec = s.sec) (htel : reg t TSC_TEL_CTRL = reg s TSC_TEL_CTRL)
    (hring : ¬ (0x510000 ≤ off ∧ off < 0x530000)) : takenRw t off w = takenRw s off w := by
  have htdp : tdp t = tdp s := by unfold tdp; rw [hsec]
  have hen : isSet t TSC_TEL_CTRL TSC_TEL_CTRL_EN = isSet s TSC_TEL_CTRL TSC_TEL_CTRL_EN := by unfold isSet getF; rw [htel]
  simp only [takenRw, htdp, hen, if_neg hring]

/-- No action follows the write of a register outside the host interface's rings and vectors. -/
theorem afterRw_plain (old : Word) (h : ¬ (0x510000 ≤ off ∧ off < 0x541200)) : afterRw s off old = s := by
  unfold afterRw
  rw [if_neg (by omega), if_neg (by omega), if_neg (by omega)]

/-- A register's word after its RW bits have taken a write. -/
def rwWord (old m v : Word) : Word := (old &&& ~~~m) ||| (v &&& m)

theorem rwWord_getLsbD (old m v : Word) {i : Nat} (hi : i < 64) :
    (rwWord old m v).getLsbD i = if m.getLsbD i then v.getLsbD i else old.getLsbD i := by
  simp only [rwWord, BitVec.getLsbD_or, BitVec.getLsbD_and, BitVec.getLsbD_not, hi, decide_true, Bool.true_and]
  cases m.getLsbD i <;> simp

theorem rwWord_zero (old v : Word) : rwWord old 0 v = old := by
  apply BitVec.eq_of_getLsbD_eq
  intro i hi
  rw [rwWord_getLsbD _ _ _ hi]; simp

/-- An RW write to a register that takes it as it is. -/
theorem writeRw_plain (htaken : ∀ w, takenRw s off w = some w) (h : ¬ (0x510000 ≤ off ∧ off < 0x541200)) :
    writeRw s off v = s ∧ codeMask off (· == .rw) = 0
    ∨ writeRw s off v = setReg s off (rwWord (reg s off) (codeMask off (· == .rw)) v) := by
  unfold writeRw
  by_cases h0 : codeMask off (· == .rw) = 0
  · exact .inl ⟨if_pos h0, h0⟩
  · right
    simp only [if_neg h0, htaken, afterRw_plain _ _ _ h, rwWord]

theorem reg_writeRw_plain (htaken : ∀ w, takenRw s off w = some w) (h : ¬ (0x510000 ≤ off ∧ off < 0x541200)) :
    reg (writeRw s off v) off = rwWord (reg s off) (codeMask off (· == .rw)) v := by
  rcases writeRw_plain s off v htaken h with ⟨e, h0⟩ | e
  · rw [e, h0, rwWord_zero]
  · rw [e, reg_setReg_same]

theorem writeRw_plain_frame (htaken : ∀ w, takenRw s off w = some w) (h : ¬ (0x510000 ≤ off ∧ off < 0x541200)) :
    { writeRw s off v with csr := s.csr } = s ∧ CsrKept s (writeRw s off v) [off] := by
  rcases writeRw_plain s off v htaken h with ⟨e, _⟩ | e <;> rw [e]
  · exact ⟨rfl, fun _ _ => rfl⟩
  · exact ⟨rfl, fun o ho => reg_setReg_other _ _ _ _ (by simpa using ho)⟩

/-! ### RESET_CNT -/

theorem ones_eq_length (w : Word) (n : Nat) : ones w n = ((List.range n).filter (fun i => w.getLsbD i)).length := by
  induction n with
  | zero => rfl
  | succ n ih =>
    rw [List.range_succ, List.filter_append, List.length_append, ← ih, ones, Nat.add_comm]
    cases h : w.getLsbD n <;> simp [h, b2n]

/-- The bits in which a set met a clear. -/
theorem ones_met :
    ones (v &&& hw &&& codeMask off (· == .w1c)) 64
      = ((List.range 64).filter (fun i => v.getLsbD i && hw.getLsbD i && hasCode off i .w1c)).length := by
  rw [ones_eq_length]
  congr 1
  apply List.filter_congr
  intro i hi
  rw [BitVec.getLsbD_and, BitVec.getLsbD_and, codeMask_getLsbD off .w1c (List.mem_range.mp hi)]

theorem w1cWord_getLsbD (old m v hw : Word) {i : Nat} (hi : i < 56) :
    (w1cWord old m v hw).getLsbD i = if m.getLsbD i then (old.getLsbD i && !v.getLsbD i) || hw.getLsbD i else old.getLsbD i := by
  have h64 : i < 64 := by omega
  rw [w1cWord, fset_getLsbD _ _ _ _ h64, if_neg (by simp only [resetCnt]; omega)]
  simp only [BitVec.getLsbD_or, BitVec.getLsbD_and, BitVec.getLsbD_not, h64, decide_true, Bool.true_and]
  cases m.getLsbD i <;> simp

theorem fget_resetCnt_w1cWord (old m v hw : Word) :
    fget resetCnt (w1cWord old m v hw) = min (fget resetCnt old + ones (v &&& hw &&& m) 64) 255 := by
  rw [w1cWord, fget_fset_same _ _ _ (by decide)]
  exact Nat.mod_eq_of_lt (by simp only [satAdd, resetCnt]; omega)

/-- Words that agree in a field's bits agree in the field. -/
theorem fget_congr {f : Fld} {x y : Word} (h : ∀ i, i < f.w → x.getLsbD (f.lo + i) = y.getLsbD (f.lo + i)) : fget f x = fget f y := by
  apply Nat.eq_of_testBit_eq
  intro i
  rw [fget_testBit, fget_testBit]
  by_cases hi : i < f.w
  · rw [h i hi]
  · simp [hi]

end Sys2Proof.Proofs
end

section
/-! SETTLES O9. -/
namespace Sys2Proof.Proofs
open Sys2Proof.Machine Sys2Proof.Machine.Claims Sys2Proof.Laws

/-- A write that reaches a plain register without RWQ bits: its W1C bits first, then its RW bits. -/
theorem exec_registerWrite_plain {src : Fin 3} {addr v hw : Word} {s : State} {off : Nat}
    (hoff : accessOff s src addr.toNat = some off) (hreach : Reaches s src off) (hplain : PlainRegister s off v) (hq : NoRwq off) :
    exec (.registerWrite src addr v hw) s = .next (writeRw (writeW1c s off v hw) off v) := by
  obtain ⟨hwritable, hcore, hport⟩ := hreach
  obtain ⟨hcanon, h0, h1, h2, _, _⟩ := hplain
  have haction : writeAction s src off v = none := by
    match src with
    | 0 => exact h0
    | 1 => exact h1
    | 2 => exact h2
  show execRegisterWrite src addr v hw s = _
  simp only [execRegisterWrite, hoff, csrWrite, hwritable, hcore, hport, hcanon, writeReg, haction, writeRwq, rwqMask_eq_zero hq,
    Bool.not_true, Bool.or_false, Bool.false_eq_true, if_false, if_true]

/-- After the W1C bits an RW write is still taken as it is. -/
theorem takenRw_after_w1c {s : State} {off : Nat} {v : Word} (hplain : PlainRegister s off v) (hw w : Word) :
    takenRw (writeW1c s off v hw) off w = some w := by
  obtain ⟨_, h0, _, _, htaken, hring⟩ := hplain
  have hsec : (writeW1c s off v hw).sec = s.sec := (congrArg State.sec (writeW1c_frame s off v hw) :)
  have htel : TSC_TEL_CTRL ≠ off := by
    rintro rfl
    exact absurd h0 (by simp [writeAction, TSC_TEL_CTRL, FTU_CTRL])
  rw [takenRw_congr w hsec (reg_writeW1c_other s off v hw htel (by decide)) (by omega), htaken]

/-- Settles O9: the write is its W1C part and then its RW part, and each is known bit by bit. -/
theorem registerWritesFollowTheAccessCodes : Obligations.RegisterWritesFollowTheAccessCodes := by
  intro src addr v hw s off hoff hreach hplain hq
  have htaken := takenRw_after_w1c hplain hw
  obtain ⟨_, _, _, _, _, hring⟩ := id hplain
  have hword := reg_writeRw_plain (writeW1c s off v hw) off v htaken hring
  obtain ⟨hframe, hcsr⟩ := writeRw_plain_frame (writeW1c s off v hw) off v htaken hring
  have hbit : ∀ i, i < 64 → (reg (writeRw (writeW1c s off v hw) off v) off).getLsbD i
      = if hasCode off i .rw then v.getLsbD i else (reg (writeW1c s off v hw) off).getLsbD i := by
    intro i hi
    rw [hword, rwWord_getLsbD _ _ _ hi, codeMask_getLsbD off .rw hi]
  have hw1c : ∀ i, i < 56 → (reg (writeW1c s off v hw) off).getLsbD i
      = if hasCode off i .w1c then ((reg s off).getLsbD i && !v.getLsbD i) || hw.getLsbD i else (reg s off).getLsbD i := by
    intro i hi
    by_cases h0 : codeMask off (· == .w1c) = 0
    · rw [writeW1c_of_no_bits s off v hw h0, hasCode_of_codeMask_zero (by omega) h0]; simp
    · rw [reg_writeW1c_same s off v hw h0, w1cWord_getLsbD _ _ _ _ hi, codeMask_getLsbD off .w1c (by omega)]
  refine ⟨_, exec_registerWrite_plain hoff hreach hplain hq, ?_, ?_, ?_, ?_, ?_, ?_, ?_, ?_⟩
  · intro i hi hrw
    rw [hbit i hi, hrw, if_pos rfl]
  · intro i hi hrw hc
    rw [hbit i (by omega), hrw, hw1c i hi, hc]; simp
  · intro i hi hrw hc
    rw [hbit i (by omega), hrw, hw1c i hi, hc]; simp
  · intro hno i hi hrw
    rw [hbit i hi, hrw, writeW1c_of_no_bits s off v hw (codeMask_eq_zero hno)]; simp
  · rintro ⟨j, hj⟩ hhigh
    have hj64 : j < 64 := by
      by_contra hge
      exact absurd (hhigh j (by omega)).2 (by simp [hj])
    have hcnt : fget resetCnt (reg (writeRw (writeW1c s off v hw) off v) off) = fget resetCnt (reg (writeW1c s off v hw) off) := by
      apply fget_congr
      intro i hi
      have hi8 : i < 8 := hi
      rw [hbit _ (by simp only [resetCnt]; omega), (hhigh _ (by simp only [resetCnt]; omega)).1]; simp
    show fget resetCnt _ = min 255 (fget resetCnt _ + _)
    rw [hcnt, reg_writeW1c_same s off v hw (codeMask_ne_zero hj64 hj), fget_resetCnt_w1cWord, ones_met, Nat.min_comm]
  · intro o ho
    simp only [List.mem_cons, List.not_mem_nil, or_false, not_or] at ho
    rw [hcsr o (by simpa using ho.1), reg_writeW1c_other s off v hw ho.1 ho.2]
  · exact (congrArg (fun t => { t with csr := s.csr, out := s.out }) hframe).trans (writeW1c_frame s off v hw)
  · rintro rfl
    obtain ⟨hkept, hregs⟩ := writeW1c_without_set s off v
    exact ⟨(congrArg (fun t => { t with csr := s.csr }) hframe).trans hkept, fun o ho => (hcsr o ho).trans (hregs o ho)⟩

end Sys2Proof.Proofs
end

section
/-! SUPPORT. The record ring of the black box: where a record lands, and what stands beside it (R436, R437, Table 17.5). -/
namespace Sys2Proof.Proofs
open Sys2Proof.Machine Sys2Proof.Machine.Claims Sys2Proof.Laws

variable (s : State)

/-! ### Words of the black box -/

theorem mapGet_bbPut (bb : List (Nat × Word)) (i k : Nat) (ws : List Word) :
    mapGet (fun _ => (0 : Word)) (bbPut bb i ws) k
      = if i ≤ k ∧ k < i + ws.length then ws.getD (k - i) 0 else mapGet (fun _ => (0 : Word)) bb k := by
  induction ws generalizing bb i with
  | nil => rw [bbPut, if_neg (by simp only [List.length_nil]; omega)]
  | cons w ws ih =>
    rw [bbPut, ih, mapGet_set]
    simp only [List.length_cons]
    by_cases hk : k = i
    · subst hk; rw [if_neg (by omega), if_pos rfl, if_pos (by omega)]; simp
    · by_cases hin : i + 1 ≤ k ∧ k < i + 1 + ws.length
      · rw [if_pos hin, if_pos (by omega), show k - i = k - (i + 1) + 1 by omega, List.getD_cons_succ]
      · rw [if_neg hin, if_neg hk, if_neg (by omega)]

@[simp] theorem toWords_length (r : EventRec) : r.toWords.length = 8 := rfl

/-- A record's first word begins with its SEQ. -/
theorem toWords_seq (r : EventRec) : (r.toWords.getD 0 0).extractLsb' 0 32 = r.seq := by
  apply BitVec.eq_of_getLsbD_eq
  intro i hi
  simp only [EventRec.toWords, EventRec.body, List.cons_append, List.getD_cons_zero, zext, BitVec.getLsbD_extractLsb',
    BitVec.getLsbD_or, BitVec.getLsbD_shiftLeft, BitVec.getLsbD_setWidth]
  have h64 : i < 64 := by omega
  have h32 : i < 32 := by omega
  have h34 : i < 34 := by omega
  have h35 : i < 35 := by omega
  have h36 : i < 36 := by omega
  have h48 : i < 48 := by omega
  simp [h32, h34, h35, h36, h48, h64]

/-- Bit 35 of a record's first word says whether it is closed. -/
theorem toWords_closed (r : EventRec) : (r.toWords.getD 0 0).getLsbD 35 = r.closed := by
  simp only [EventRec.toWords, EventRec.body, List.cons_append, List.getD_cons_zero, zext,
    BitVec.getLsbD_or, BitVec.getLsbD_shiftLeft, BitVec.getLsbD_setWidth]
  cases hc : r.closed <;> cases hf : r.forced <;> simp [b2w]

/-- The copies of the ring, by their MRAM offsets (Table 17.5). -/
def ringBase (base : Nat) : Prop := base = 0x0200000 ∨ base = 0x0400000

/-- A slot's byte offset, counted in words, is a ring's first word and the slot's distance. -/
theorem slot_word {base : Nat} (hb : ringBase base) (q : BitVec 32) :
    (base + 64 * (q.toNat % 32768)) / 8 = ringA + slotOff q ∨ (base + 64 * (q.toNat % 32768)) / 8 = ringB + slotOff q := by
  rcases hb with rfl | rfl
  · left; simp only [ringA, slotOff]; omega
  · right; simp only [ringB, slotOff]; omega

/-- Black-box words after a record is written to a box whose cells hold. -/
theorem bbWrite_word (r : EventRec) (h : s.flt.bbBad = []) (k : Nat) :
    mapGet (fun _ => (0 : Word)) (bbWrite s r).flt.bb k
      = if ringB + slotOff r.seq ≤ k ∧ k < ringB + slotOff r.seq + 8 then r.toWords.getD (k - (ringB + slotOff r.seq)) 0
        else if ringA + slotOff r.seq ≤ k ∧ k < ringA + slotOff r.seq + 8 then r.toWords.getD (k - (ringA + slotOff r.seq)) 0
        else mapGet (fun _ => (0 : Word)) s.flt.bb k := by
  have hbb : (bbWrite s r).flt.bb
      = bbPut (bbPut s.flt.bb (ringA + slotOff r.seq) r.toWords) (ringB + slotOff r.seq) r.toWords := by
    simp [bbWrite, bbFails, h]
  rw [hbb, mapGet_bbPut, mapGet_bbPut, toWords_length]

theorem slotOff_lt (q : BitVec 32) : slotOff q + 8 ≤ 262144 := by simp only [slotOff]; omega

/-- Both copies of a record's slot hold its words. -/
theorem bbAt_bbWrite_slot (r : EventRec) (h : s.flt.bbBad = []) {base : Nat} (hb : ringBase base) :
    bbAt (bbWrite s r) (base + 64 * (r.seq.toNat % 32768)) = r.toWords.getD 0 0 := by
  have hlt := slotOff_lt r.seq
  unfold bbAt
  rw [bbWrite_word s r h]
  rcases slot_word hb r.seq with e | e <;> rw [e]
  · rw [if_neg (by simp only [ringA, ringB]; omega), if_pos (by omega), Nat.sub_self]
  · rw [if_pos (by omega), Nat.sub_self]

/-- Another slot's first words stay as they are. -/
theorem bbAt_bbWrite_other (r : EventRec) (h : s.flt.bbBad = []) {base : Nat} (hb : ringBase base) {q : BitVec 32}
    (hq : q.toNat % 32768 ≠ r.seq.toNat % 32768) :
    bbAt (bbWrite s r) (base + 64 * (q.toNat % 32768)) = bbAt s (base + 64 * (q.toNat % 32768)) := by
  have hne : slotOff q + 8 ≤ slotOff r.seq ∨ slotOff r.seq + 8 ≤ slotOff q := by simp only [slotOff]; omega
  have hlt := slotOff_lt r.seq
  have hlt' := slotOff_lt q
  unfold bbAt
  rw [bbWrite_word s r h]
  rcases slot_word hb q with e | e <;> rw [e] <;>
    rw [if_neg (by simp only [ringA, ringB]; omega), if_neg (by simp only [ringA, ringB]; omega)]

/-! ### Beside the ring -/

/-- What the collector keeps beside the record ring: the other words of the black box, the units under observation and the
lasting fences. -/
def besideRing (s : State) : (Nat → Word) × List (Nat × Nat) × List Nat :=
  (fun k => if ringA ≤ k ∧ k < ringB + 262144 then 0 else mapGet (fun _ => (0 : Word)) s.flt.bb k, s.flt.obs, s.flt.lasting)

/-- Records written in the ring leave the rest of the black box. -/
theorem bbPut_besideRing (bb : List (Nat × Word)) (i k : Nat) (r : EventRec) (hi : ringA ≤ i ∧ i + 8 ≤ ringB + 262144)
    (hk : ¬ (ringA ≤ k ∧ k < ringB + 262144)) :
    mapGet (fun _ => (0 : Word)) (bbPut bb i r.toWords) k = mapGet (fun _ => (0 : Word)) bb k := by
  rw [mapGet_bbPut, toWords_length, if_neg (by omega)]

theorem besideRing_bbWrite (r : EventRec) : besideRing (bbWrite s r) = besideRing s := by
  have hlt := slotOff_lt r.seq
  have hA : ringA ≤ ringA + slotOff r.seq ∧ ringA + slotOff r.seq + 8 ≤ ringB + 262144 := by simp only [ringA, ringB]; omega
  have hB : ringA ≤ ringB + slotOff r.seq ∧ ringB + slotOff r.seq + 8 ≤ ringB + 262144 := by simp only [ringA, ringB]; omega
  unfold besideRing
  refine Prod.ext ?_ rfl
  funext k
  by_cases hk : ringA ≤ k ∧ k < ringB + 262144
  · simp only [if_pos hk]
  · simp only [if_neg hk, bbWrite]
    split
    · split
      · rfl
      · exact bbPut_besideRing _ _ _ r hA hk
    · rw [bbPut_besideRing _ _ _ r hB hk]
      split
      · rfl
      · exact bbPut_besideRing _ _ _ r hA hk

/-- An operation that leaves these three leaves what stands beside the ring. -/
theorem besideRing_of_flt {s t : State} (hbb : t.flt.bb = s.flt.bb) (hobs : t.flt.obs = s.flt.obs) (hlast : t.flt.lasting = s.flt.lasting) :
    besideRing t = besideRing s := by
  unfold besideRing; rw [hbb, hobs, hlast]

theorem besideRing_bbRaise : besideRing (bbRaise s) = besideRing s :=
  besideRing_of_flt (by simp [bbRaise]) (by simp [bbRaise]) (by simp [bbRaise])

theorem besideRing_bbMerge (w : Nat) : besideRing (bbMerge s w) = besideRing s :=
  (besideRing_of_flt rfl rfl rfl).trans (besideRing_bbRaise s)

theorem besideRing_bbReport (q : BitVec 32) (raise : State → Nat → State)
    (h : ∀ s w, besideRing (raise s w) = besideRing s) : besideRing (bbReport s q raise) = besideRing s := by
  unfold bbReport
  dsimp only
  (repeat' split) <;> simp only [h]

theorem besideRing_bbError (w : Nat) : besideRing (bbError s w) = besideRing s := by
  unfold bbError
  split
  · exact besideRing_bbMerge s w
  · dsimp only
    rw [besideRing_bbReport _ _ _ besideRing_bbMerge, besideRing_bbWrite]
    refine Eq.trans ?_ (besideRing_bbRaise s)
    exact besideRing_of_flt (by simp) (by simp) (by simp)

theorem besideRing_putRecord (r : EventRec) : besideRing (putRecord s r) = besideRing s := by
  unfold putRecord
  rw [besideRing_bbReport _ _ _ besideRing_bbError, besideRing_bbWrite]

theorem besideRing_closeRecord : besideRing (closeRecord s) = besideRing s := by
  unfold closeRecord
  split
  · rfl
  · rw [besideRing_putRecord]
    exact besideRing_of_flt rfl rfl rfl

/-- A word of the black box that stands beside the ring. -/
theorem bbAt_of_besideRing {s t : State} (h : besideRing t = besideRing s) {k : Nat} (hk : k < 0x0200000 ∨ 0x0600000 ≤ k) :
    bbAt t k = bbAt s k := by
  have hw := congrFun (congrArg Prod.fst h) (k / 8)
  have hout : ¬ (ringA ≤ k / 8 ∧ k / 8 < ringB + 262144) := by simp only [ringA, ringB]; omega
  simp only [besideRing, if_neg hout] at hw
  exact hw

/-! ### Records on cells that hold -/

theorem putRecord_of_sound (r : EventRec) (h : s.flt.bbBad = []) : putRecord s r = bbWrite s r := by
  have hb : (bbWrite s r).flt.bbBad = [] := h
  simp [putRecord, bbReport, bbFails, hb]

theorem closeRecord_of_none (h : s.flt.cur = none) : closeRecord s = s := by
  unfold closeRecord; rw [h]

/-- The record that a reset closes, written to both copies. -/
theorem closeRecord_of_sound {r : EventRec} (hr : s.flt.cur = some r) (h : s.flt.bbBad = []) :
    closeRecord s = bbWrite (setF { s with flt := { s.flt with cur := none } } FLT_STATUS FLT_STATUS_OPEN 0) { r with closed := true } := by
  unfold closeRecord
  simp only [hr]
  exact putRecord_of_sound _ _ h

/-- The collector after its record has been closed: none is open, and the number of the next record stands. -/
theorem closeRecord_flt (h : s.flt.bbBad = []) :
    (closeRecord s).flt.cur = none ∧ (closeRecord s).flt.nextSeq = s.flt.nextSeq ∧ (closeRecord s).flt.bbBad = [] := by
  cases hr : s.flt.cur with
  | none => rw [closeRecord_of_none s hr]; exact ⟨hr, rfl, h⟩
  | some r => rw [closeRecord_of_sound s hr h]; exact ⟨rfl, rfl, h⟩

theorem closeRecord_out (h : s.flt.cur = none ∨ s.flt.bbBad = []) : (closeRecord s).out = s.out := by
  cases hr : s.flt.cur with
  | none => rw [closeRecord_of_none s hr]
  | some r =>
    have hb : s.flt.bbBad = [] := h.resolve_left (by simp [hr])
    rw [closeRecord_of_sound s hr hb]; rfl

/-- Closing a record writes no register but FLT_STATUS. -/
theorem closeRecord_reg_other (h : s.flt.bbBad = []) {k : Nat} (hk : k ≠ FLT_STATUS) : reg (closeRecord s) k = reg s k := by
  cases hr : s.flt.cur with
  | none => rw [closeRecord_of_none s hr]
  | some r =>
    rw [closeRecord_of_sound s hr h]
    exact reg_setF_other { s with flt := { s.flt with cur := none } } FLT_STATUS k FLT_STATUS_OPEN 0 hk

/-- The record closed stands in both copies of its slot, with its SEQ and marked closed. -/
theorem closeRecord_slot {r : EventRec} (hr : s.flt.cur = some r) (h : s.flt.bbBad = []) {base : Nat} (hb : ringBase base) :
    (bbAt (closeRecord s) (base + 64 * (r.seq.toNat % 32768))).extractLsb' 0 32 = r.seq
      ∧ (bbAt (closeRecord s) (base + 64 * (r.seq.toNat % 32768))).getLsbD 35 = true := by
  rw [closeRecord_of_sound s hr h]
  have e := bbAt_bbWrite_slot (setF { s with flt := { s.flt with cur := none } } FLT_STATUS FLT_STATUS_OPEN 0)
    { r with closed := true } h hb
  rw [e]
  exact ⟨toWords_seq { r with closed := true }, toWords_closed { r with closed := true }⟩

/-- The number of the next record is used up. -/
def seqTaken (s : State) : State := { s with flt := { s.flt with nextSeq := s.flt.nextSeq + 1 } }

/-- A logged event on cells that hold: one record, of the next number. -/
theorem logEvent_of_sound (kind code source : Nat) (d : BitVec 32) (h : s.flt.bbBad = []) :
    ∃ r, r.seq = s.flt.nextSeq ∧ logEvent s kind code source d = bbWrite (seqTaken s) r :=
  ⟨_, rfl, putRecord_of_sound (seqTaken s) _ h⟩

end Sys2Proof.Proofs
end

section
/-! SUPPORT. What a warm reset makes of the registers and leaves of the rest (R15, R361, R432, Table 13.9). -/
namespace Sys2Proof.Proofs
open Sys2Proof.Machine Sys2Proof.Machine.Claims Sys2Proof.Laws

/-! ### Maps filtered by key -/

variable {α : Type}

theorem mapGet_filter_key (d : Nat → α) (p : Nat → Bool) (m : List (Nat × α)) (k : Nat) :
    mapGet d (m.filter (fun e => p e.1)) k = if p k then mapGet d m k else d k := by
  induction m with
  | nil => simp [mapGet]
  | cons e m ih =>
    obtain ⟨j, v⟩ := e
    by_cases hk : j = k
    · subst hk
      cases hp : p j <;> simp_all [mapGet]
    · cases hp : p j <;> simp [hp, mapGet, hk, ih]

/-- A key below every key of a canonical map reads its default. -/
theorem mapGet_of_lt [DecidableEq α] {d : Nat → α} {m : List (Nat × α)} {b k : Nat} (h : mapWfFrom d b m = true) (hk : k < b) :
    mapGet d m k = d k := by
  induction m generalizing b with
  | nil => rfl
  | cons e m ih =>
    obtain ⟨j, v⟩ := e
    simp only [mapWfFrom, Bool.and_eq_true, decide_eq_true_eq] at h
    obtain ⟨⟨hb, _⟩, hm⟩ := h
    rw [mapGet, if_neg (by omega), ih hm (by omega)]

/-- A table's entry that a filter keeps reads as before. -/
theorem mapGet_filter_of_find {d : Nat → α} {p : Nat × α → Bool} {m : List (Nat × α)} {k : Nat} {v : α}
    (h : mapFind m k = some v) (hp : p (k, v) = true) : mapGet d (m.filter p) k = v := by
  induction m with
  | nil => exact absurd h (by simp [mapFind])
  | cons e m ih =>
    obtain ⟨j, w⟩ := e
    unfold mapFind at h
    split at h
    · rename_i hj
      cases h; subst hj
      rw [List.filter_cons, if_pos hp, mapGet, if_pos rfl]
    · rename_i hj
      rw [List.filter_cons]
      split
      · rw [mapGet, if_neg hj, ih h]
      · exact ih h

/-! ### The Warm column and the cold values -/

theorem fset_mod (f : Fld) (x : Word) (v : Nat) : fset f x (v % 2 ^ f.w) = fset f x v := by
  simp only [fset, Nat.mod_mod]

/-- A field of a row lies in the word. -/
theorem fieldsApart_bound {fs : List FieldDef} (h : fieldsApart fs = true) {f : FieldDef} (hf : f ∈ fs) :
    f.fld.lo + f.fld.w ≤ 64 := by
  induction fs with
  | nil => cases hf
  | cons g gs ih =>
    simp only [fieldsApart, Bool.and_eq_true, decide_eq_true_eq] at h
    obtain ⟨⟨hg, _⟩, hgs⟩ := h
    rcases List.mem_cons.mp hf with rfl | hmem
    · exact hg
    · exact ih hgs hmem

/-- Each field of a register's cold value reads its own cold value. -/
theorem fget_coldFields {fs : List FieldDef} (i : Nat) (h : fieldsApart fs = true) {f : FieldDef} (hf : f ∈ fs) :
    fget f.fld (coldFields fs i) = f.cold.at i % 2 ^ f.fld.w := by
  induction fs with
  | nil => cases hf
  | cons g gs ih =>
    simp only [fieldsApart, Bool.and_eq_true, decide_eq_true_eq, List.all_eq_true, Bool.or_eq_true] at h
    obtain ⟨⟨hg, hapart⟩, hgs⟩ := h
    rw [coldFields]
    rcases List.mem_cons.mp hf with rfl | hmem
    · exact fget_fset_same _ _ _ hg
    · rw [fget_fset_other _ _ _ _ (fieldsApart_bound hgs hmem) (hapart f hmem), ih hgs hmem]

/-- Writing a field's cold value into the cold word changes nothing. -/
theorem fset_coldFields {fs : List FieldDef} (i : Nat) (h : fieldsApart fs = true) {f : FieldDef} (hf : f ∈ fs) :
    fset f.fld (coldFields fs i) (f.cold.at i) = coldFields fs i := by
  rw [← fset_mod, ← fget_coldFields i h hf, fset_fget]

theorem warmFields_coldFields {fs : List FieldDef} (i : Nat) (h : fieldsApart fs = true) (gs : List FieldDef) (hsub : gs ⊆ fs)
    (hw : gs.all warmIsCold = true) : warmFields gs i (coldFields fs i) = coldFields fs i := by
  induction gs with
  | nil => rfl
  | cons g gs ih =>
    rw [List.all_cons, Bool.and_eq_true] at hw
    obtain ⟨hg, hgs⟩ := hw
    have hin := fset_coldFields i h (hsub List.mem_cons_self)
    rw [warmFields, ih (fun x hx => hsub (List.mem_cons_of_mem _ hx)) hgs]
    cases hwarm : g.warm with
    | keep => rfl
    | live => rfl
    | v n =>
      have hcold : g.cold = .v n := by simpa [warmIsCold, hwarm] using hg
      rwa [hcold] at hin
    | seq a b =>
      have hcold : g.cold = .seq a b := by simpa [warmIsCold, hwarm] using hg
      rwa [hcold] at hin

theorem liveCold_coldFields {fs : List FieldDef} (i : Nat) (h : fieldsApart fs = true) (gs : List FieldDef) (hsub : gs ⊆ fs) :
    liveCold gs i (coldFields fs i) = coldFields fs i := by
  induction gs with
  | nil => rfl
  | cons g gs ih =>
    rw [liveCold, ih (fun x hx => hsub (List.mem_cons_of_mem _ hx))]
    split
    · exact fset_coldFields i h (hsub List.mem_cons_self)
    · rfl

/-- A warm reset leaves a register at its cold value, if it stands there. -/
theorem warmReg_coldValue (off : Nat) : warmReg off (coldValue off) = coldValue off := by
  unfold warmReg warmValue coldValue
  cases hf : findReg off with
  | none => simp
  | some e =>
    obtain ⟨r, ix⟩ := e
    have hr := mem_regTable_of_findReg hf
    have hapart := List.all_eq_true.mp regTable_fieldsApart r hr
    have hwarm := List.all_eq_true.mp regTable_warmIsCold r hr
    simp only [warmFields_coldFields _ hapart r.fields (fun _ hx => hx) hwarm,
      liveCold_coldFields _ hapart r.fields (fun _ hx => hx), ite_self]

theorem warmReg_of_liveStays {off : Nat} (h : liveStays off = true) (v : Word) : warmReg off v = warmValue off v := if_pos h

theorem liveCold_of_no_live {gs : List FieldDef} (h : gs.all (fun f => f.warm != .live) = true) (i : Nat) (v : Word) :
    liveCold gs i v = v := by
  induction gs with
  | nil => rfl
  | cons g gs ih =>
    rw [List.all_cons, Bool.and_eq_true, bne_iff_ne] at h
    obtain ⟨hg, hgs⟩ := h
    rw [liveCold, if_neg hg, ih hgs]

/-- The host interface has no live field, so its registers follow the Warm column alone. -/
theorem warmReg_of_hif {off : Nat} (h : 0x500000 ≤ off ∧ off < 0x600000) (v : Word) : warmReg off v = warmValue off v := by
  have hnolive : regsHIF.all (fun r => r.fields.all (fun f => f.warm != .live)) = true := by decide
  have hblock : blockOf off = regsHIF := by
    unfold blockOf
    rw [if_neg (by omega), if_neg (by omega), if_neg (by omega), if_neg (by omega), if_neg (by omega), if_pos (by omega)]
  unfold warmReg
  split
  · rfl
  · cases hf : findReg off with
    | none => rfl
    | some e =>
      have hr : e.1 ∈ regsHIF := hblock ▸ mem_of_findIn hf
      exact liveCold_of_no_live (List.all_eq_true.mp hnolive e.1 hr) _ _

/-! ### The register file -/

theorem mapGet_warmRegs {m : List (Nat × Word)} {b : Nat} (h : mapWfFrom coldValue b m = true) (k : Nat) :
    mapGet coldValue (warmRegs m) k = warmReg k (mapGet coldValue m k) := by
  induction m generalizing b with
  | nil => exact (warmReg_coldValue k).symm
  | cons e m ih =>
    obtain ⟨j, v⟩ := e
    simp only [mapWfFrom, Bool.and_eq_true, decide_eq_true_eq] at h
    obtain ⟨_, hm⟩ := h
    rw [warmRegs, mapGet]
    by_cases hk : j = k
    · subst hk
      rw [if_pos rfl]
      split
      · rename_i hcold
        rw [ih hm, mapGet_of_lt hm (Nat.lt_succ_self j), warmReg_coldValue, hcold]
      · rw [mapGet, if_pos rfl]
    · rw [if_neg hk]
      split
      · exact ih hm
      · rw [mapGet, if_neg hk, ih hm]

variable (s : State)

/-- A register after a warm reset: what the Warm column makes of it, or its cold value in a region entry of a job. -/
theorem mapGet_warmCsr (h : mapWf coldValue s.csr = true) (k : Nat) :
    mapGet coldValue (warmCsr s) k = if jobRegion s k then coldValue k else warmReg k (reg s k) := by
  unfold warmCsr
  rw [mapGet_warmRegs (filter_wf coldValue (fun e => !jobRegion s e.1) s.csr h),
    mapGet_filter_key coldValue (fun k => !jobRegion s k)]
  cases jobRegion s k
  · rfl
  · exact warmReg_coldValue k

/-- A register outside the region entries is none of a job's. -/
theorem jobRegion_outside {k : Nat} (h : k < MEM_REGION 0 ∨ MEM_REGION 1024 ≤ k) : jobRegion s k = false := by
  have : (decide (MEM_REGION 0 ≤ k) && decide (k < MEM_REGION 1024)) = false := by
    rw [Bool.and_eq_false_iff, decide_eq_false_iff_not, decide_eq_false_iff_not]; omega
  simp only [jobRegion, this, Bool.false_and]

/-- Both registers of a region entry that a job owns are the job's. -/
theorem jobRegion_entry {i : Nat} (hi : i < 1024) (h : getF s (MEM_REGION_W1 i) MEM_REGION_W1_JOB_ID ≠ 0xFFFF) {k : Nat}
    (hk : k = MEM_REGION i ∨ k = MEM_REGION_W1 i) : jobRegion s k = true := by
  have hidx : (k - MEM_REGION 0) / 16 = i := by
    simp only [MEM_REGION, MEM_REGION_W1] at hk ⊢; omega
  have hlo : MEM_REGION 0 ≤ k := by simp only [MEM_REGION, MEM_REGION_W1] at hk ⊢; omega
  have hhi : k < MEM_REGION 1024 := by simp only [MEM_REGION, MEM_REGION_W1] at hk ⊢; omega
  simp only [jobRegion, hidx, hlo, hhi, decide_true, Bool.true_and, bne_iff_ne]
  exact h

/-! ### The rest of a warm reset -/

/-- A register that no step of a fold writes. -/
theorem reg_foldl_other {β : Type} (f : State → β → State) (k : Nat) (l : List β) (s : State)
    (h : ∀ t x, x ∈ l → reg (f t x) k = reg t k) : reg (l.foldl f s) k = reg s k := by
  induction l generalizing s with
  | nil => rfl
  | cons a l ih =>
    rw [List.foldl_cons, ih _ (fun t x hx => h t x (List.mem_cons_of_mem _ hx)), h s a List.mem_cons_self]

theorem outsideRegs_foldl {β : Type} (f : State → β → State) (h : ∀ t x, outsideRegs (f t x) = outsideRegs t) (l : List β) (s : State) :
    outsideRegs (l.foldl f s) = outsideRegs s := by
  induction l generalizing s with
  | nil => rfl
  | cons a l ih => rw [List.foldl_cons, ih, h]

theorem outsideRegs_warmCore (n : Nat) : outsideRegs (warmCore s n) = outsideRegs s := by
  unfold warmCore
  dsimp only
  rw [outsideRegs_setF]
  split
  · exact outsideRegs_setF ..
  · rfl

theorem reg_warmCore_other {n k : Nat} (h : k ≠ CORE_STATUS n) : reg (warmCore s n) k = reg s k := by
  unfold warmCore
  dsimp only
  rw [reg_setF_other _ _ _ _ _ h]
  split
  · exact reg_setF_other _ _ _ _ _ h
  · rfl

/-- Outside the registers a warm reset ends the work and keeps the rest (log entry 23). -/
theorem outsideRegs_warmState : outsideRegs (warmState s) = { outsideRegs s with
    edits := [], ftu := { s.ftu with fired := [], owner := [] }, flt := warmFlt s.flt, sec := warmSec s.sec,
    pwr := warmPwr s.pwr, crings := [], qrings := warmQrings s.qrings, qids := [], cores := [], pups := [],
    objs := warmObjs s.objs, jobs := [], slots := [], slotQ := [], net := { Net.cold with dark := s.net.dark },
    coll := Coll.cold, mem := s.mem.filter (fun c => tierKey c.1), bad := s.bad.filter tierKey,
    boot := { s.boot with warm := true, up := false, opened := false, pcieBoot := false, aligning := none } } := by
  unfold warmState
  dsimp only
  rw [outsideRegs_setF, outsideRegs_setF, outsideRegs_foldl _ (fun t n => outsideRegs_warmCore t n),
    outsideRegs_foldl _ (fun t c => outsideRegs_setF ..), outsideRegs_foldl _ (fun t i => outsideRegs_setF ..), outsideRegs_setF]
  rfl

/-- The registers that follow the units a warm reset has ended. -/
def warmShown (k : Nat) : Prop :=
  k = SEC_PROV_STATUS ∨ k = HUB_BOOT ∨ (∃ i, i < 16 ∧ k = LNK_BUNDLE_STATUS (8 + i)) ∨ (∃ c, c < 16 ∧ k = CLU_STATUS c)
    ∨ ∃ n, n < 80 ∧ k = CORE_STATUS n

/-- Every other register after a warm reset. -/
theorem reg_warmState (h : mapWf coldValue s.csr = true) {k : Nat} (hk : ¬ warmShown k) :
    reg (warmState s) k = if jobRegion s k then coldValue k else warmReg k (reg s k) := by
  simp only [warmShown, not_or, not_exists, not_and] at hk
  obtain ⟨hsec, hhub, hlnk, hclu, hcore⟩ := hk
  rw [← mapGet_warmCsr s h k]
  unfold warmState
  dsimp only
  rw [reg_setF_other _ _ _ _ _ hhub, reg_setF_other _ _ _ _ _ hhub,
    reg_foldl_other _ _ _ _ (fun t n hn => reg_warmCore_other t (hcore n (List.mem_range.mp hn))),
    reg_foldl_other _ _ _ _ (fun t c hc => reg_setF_other _ _ _ _ _ (hclu c (List.mem_range.mp hc))),
    reg_foldl_other _ _ _ _ (fun t i hi => reg_setF_other _ _ _ _ _ (hlnk i (List.mem_range.mp hi))),
    reg_setF_other _ _ _ _ _ hsec]
  rfl

/-- HUB_BOOT shows step 8, not ready. -/
theorem warmState_hubBoot :
    getF (warmState s) HUB_BOOT HUB_BOOT_STEP = 8 ∧ getF (warmState s) HUB_BOOT HUB_BOOT_READY = 0 := by
  unfold warmState
  dsimp only
  constructor
  · rw [getF_setF_field _ _ _ _ _ (by decide) (by decide), getF_setF_same _ _ _ _ (by decide)]; rfl
  · rw [getF_setF_same _ _ _ _ (by decide)]; rfl

end Sys2Proof.Proofs
end

section
/-! SETTLES O51. Cold reset, the loss of VSTBY, and warm reset (R15, R43, R45, R361, R430, R432, R435, R483). -/
namespace Sys2Proof.Proofs
open Sys2Proof.Machine Sys2Proof.Machine.Claims Sys2Proof.Laws

variable (s : State)

/-! ### Cold reset -/

theorem memDefault_outside_tier2 {k : Nat} (h : tier2Key k = false) : memDefault k = 0 := by
  apply if_neg
  simpa [tier2Key] using h

/-- Storage of which the keys of a kind survive, tier 2 among them. -/
theorem rdByte_of_kept {s t : State} {p : Nat → Bool} (hmem : t.mem = s.mem.filter (fun c => p c.1))
    (hp : ∀ k, p k = false → tier2Key k = false) (k : Nat) : rdByte t k = if p k then rdByte s k else 0 := by
  unfold rdByte
  rw [hmem, mapGet_filter_key]
  cases h : p k
  · exact memDefault_outside_tier2 (hp k h)
  · rfl

/-- The control outputs while PORST_N holds a device that is not halted (R478). -/
theorem outPins_of_porst {t : State} (hporst : t.boot.porst = true) (hhalt : t.boot.halt = false) :
    outPins t = ⟨true, false, false, true⟩ := by
  simp [outPins, hporst, hhalt]

/-- The device in cold reset, its open record closed before: what the standby domain, MRAM and tier 2 hold is kept. -/
theorem heldCold_coldHeld : HeldCold s (coldHeld (closeRecord s)) := by
  have hout := outside_of_closeRecord s
  have hmem : (closeRecord s).mem = s.mem := (congrArg State.mem hout :)
  have hbeside := besideRing_closeRecord s
  have hrest : (closeRecord s).flt.obs = s.flt.obs ∧ (closeRecord s).flt.lasting = s.flt.lasting :=
    Prod.ext_iff.mp (Prod.ext_iff.mp hbeside).2
  refine ⟨rfl, (congrArg State.nvm hout :), ?_, (congrArg State.pending hout :), (congrArg State.free hout :), closeRecord_out s,
    outPins_of_porst rfl rfl, rfl, rfl, rfl, (congrArg (fun t => t.boot.perst) hout :), reg_of_csr_nil rfl, ?_, ?_, ?_, ?_, hrest.1, hrest.2, rfl⟩
  · exact (congrArg (fun t : State => { Sec.cold with fp := t.sec.fp }) hout :)
  · intro k
    have h := rdByte_of_kept (s := s) (t := coldHeld (closeRecord s)) (p := tier2Key) (by rw [← hmem]; rfl) (fun _ hk => hk) k
    simpa [tier2Key] using h
  · intro k hk
    exact bbAt_of_besideRing hbeside hk
  · intro hcur
    exact congrArg (fun t => t.flt.bb) (closeRecord_of_none s hcur)
  · intro r hr hb base hbase
    exact closeRecord_slot s hr hb hbase

/-- PORST_N on a powered device that is not halted, low for long enough. -/
theorem exec_powerOnReset_held {low : Nat} (hstandby : standby s = true) (hrails : s.boot.rails = true) (hhalt : s.boot.halt = false)
    (hlow : 100 ≤ low) : exec (.powerOnReset low) s = .next (coldHeld (closeRecord s)) := by
  show execPowerOnReset s low = _
  simp [execPowerOnReset, passes, hstandby, hrails, hhalt, hlow]

/-- A HALT, and the input's filter, keep PORST_N away. -/
theorem exec_powerOnReset_kept {low : Nat} (h : s.boot.halt = true ∨ low < 100) : exec (.powerOnReset low) s = .next s := by
  show execPowerOnReset s low = _
  unfold execPowerOnReset
  rw [if_neg]
  rcases h with h | h
  · simp [h]
  · simp [passes]; omega

/-! ### Before a warm reset -/

/-- The state in which a warm reset begins: the open record closed, a BOOT record written (R432). -/
def recorded (s : State) : State := logEvent (closeRecord s) 3 0x02 183 0

theorem outside_of_recorded : outsideCollector (recorded s) = outsideCollector s := by
  unfold recorded
  rw [outside_of_logEvent, outside_of_closeRecord]

/-- What an operation leaves of the state but for the registers tells each other field. -/
theorem field_of_outsideRegs {β : Type} (field : State → β) (hfield : ∀ t, field (outsideRegs t) = field t) {t u : State}
    (h : outsideRegs t = u) : field t = field u := by
  rw [← hfield t, h]

/-- Each field that the collector does not write is as before the closing of the record. -/
theorem field_of_recorded {β : Type} (field : State → β) (hfield : ∀ t, field (outsideCollector t) = field t) :
    field (recorded s) = field s := by
  rw [← hfield, outside_of_recorded, hfield]

theorem exec_warmReset_starts {pin : Option Nat} (hstandby : standby s = true) (hrails : s.boot.rails = true)
    (hporst : s.boot.porst = false) (hhalt : s.boot.halt = false) (hup : s.boot.up = true ∨ s.boot.warm = true)
    (hpin : ∀ low, pin = some low → 100 ≤ low) : exec (.warmReset pin) s = .next (warmState (recorded s)) := by
  have hpass : pin.all passes = true := by
    cases pin with
    | none => rfl
    | some low => simpa [passes] using hpin low rfl
  have hrun : (s.boot.up || s.boot.warm) = true := by simpa using hup
  show execWarmReset pin s = _
  simp [execWarmReset, recorded, hpass, hstandby, hrails, hporst, hhalt, hrun]

/-- Before step 8, and for a short pulse, a warm reset has no effect. -/
theorem exec_warmReset_kept {pin : Option Nat} (h : (s.boot.up = false ∧ s.boot.warm = false) ∨ ∃ low, pin = some low ∧ low < 100) :
    exec (.warmReset pin) s = .next s := by
  show execWarmReset pin s = _
  unfold execWarmReset
  rw [if_neg]
  rcases h with ⟨hup, hwarm⟩ | ⟨low, rfl, hlow⟩
  · simp [hup, hwarm]
  · simp [passes]; omega

/-- On cells that hold, the BOOT record opens no other. -/
theorem recorded_flt (h : s.flt.bbBad = []) : (recorded s).flt.cur = none ∧ (recorded s).flt.nextSeq = s.flt.nextSeq + 1 := by
  obtain ⟨hcur, hseq, hbad⟩ := closeRecord_flt s h
  obtain ⟨r, _, e⟩ := logEvent_of_sound (closeRecord s) 3 0x02 183 0 hbad
  unfold recorded
  rw [e, ← hseq]
  exact ⟨hcur, rfl⟩

/-- The record that was open stands closed, unless the BOOT record has taken its slot. -/
theorem recorded_slot {r : EventRec} (hr : s.flt.cur = some r) (h : s.flt.bbBad = []) {base : Nat} (hb : ringBase base)
    (hslot : r.seq.toNat % 32768 ≠ s.flt.nextSeq.toNat % 32768) :
    (bbAt (recorded s) (base + 64 * (r.seq.toNat % 32768))).getLsbD 35 = true := by
  obtain ⟨_, hseq, hbad⟩ := closeRecord_flt s h
  obtain ⟨q, hq, e⟩ := logEvent_of_sound (closeRecord s) 3 0x02 183 0 hbad
  unfold recorded
  rw [e, bbAt_bbWrite_other (seqTaken (closeRecord s)) q hbad hb (by rwa [hq, hseq])]
  exact (closeRecord_slot s hr h hb).2

theorem recorded_csr (h : s.flt.bbBad = []) : (recorded s).csr = (closeRecord s).csr := by
  obtain ⟨_, _, hbad⟩ := closeRecord_flt s h
  obtain ⟨_, _, e⟩ := logEvent_of_sound (closeRecord s) 3 0x02 183 0 hbad
  unfold recorded
  rw [e]; rfl

theorem recorded_reg_other (h : s.flt.bbBad = []) {k : Nat} (hk : k ≠ FLT_STATUS) : reg (recorded s) k = reg s k := by
  rw [← closeRecord_reg_other s h hk]
  unfold reg
  rw [recorded_csr s h]

theorem recorded_csr_wf (h : s.flt.bbBad = []) (hwf : mapWf coldValue s.csr = true) : mapWf coldValue (recorded s).csr = true := by
  rw [recorded_csr s h]
  cases hr : s.flt.cur with
  | none => rwa [closeRecord_of_none s hr]
  | some r =>
    rw [closeRecord_of_sound s hr h]
    exact setF_wf { s with flt := { s.flt with cur := none } } FLT_STATUS FLT_STATUS_OPEN 0 hwf

/-! ### After a warm reset -/

theorem not_warmShown {k : Nat} (h : (0x100000 ≤ k ∧ k < 0x1000000 ∧ k ≠ SEC_PROV_STATUS) ∨ 0x7000000 ≤ k) : ¬ warmShown k := by
  simp only [SEC_PROV_STATUS] at h
  rintro (rfl | rfl | ⟨i, hi, rfl⟩ | ⟨i, hi, rfl⟩ | ⟨i, hi, rfl⟩) <;>
    simp only [SEC_PROV_STATUS, HUB_BOOT, LNK_BUNDLE_STATUS, CLU_STATUS, CORE_STATUS] at h <;> omega

/-- A register of the blocks FTU to HIF whose live fields stay, or that has none, follows its Warm column. -/
theorem reg_after_warm (hbad : s.flt.bbBad = []) (hwf : mapWf coldValue s.csr = true) {k : Nat}
    (hk : liveStays k = true ∨ 0x500000 ≤ k) (hrange : 0x100000 ≤ k ∧ k < 0x600000) (hprov : k ≠ SEC_PROV_STATUS)
    (hflt : k ≠ FLT_STATUS) : reg (warmState (recorded s)) k = warmValue k (reg s k) := by
  have hout : k < MEM_REGION 0 := by simp only [MEM_REGION]; omega
  rw [reg_warmState _ (recorded_csr_wf s hbad hwf) (not_warmShown (.inl ⟨hrange.1, by omega, hprov⟩)),
    jobRegion_outside _ (.inl hout), if_neg (by decide), recorded_reg_other s hbad hflt]
  rcases hk with hlive | hhif
  · exact warmReg_of_liveStays hlive _
  · exact warmReg_of_hif ⟨hhif, hrange.2⟩ _

/-- The fault collector, the fabric time unit and the security unit keep their live fields. -/
theorem liveStays_of_range {k : Nat} (h : 0x100000 ≤ k ∧ k < 0x500000) (hdom : k < PWR_DOMAIN 0 ∨ PWR_DOMAIN 128 ≤ k) :
    liveStays k = true := by
  have : ¬ (PWR_DOMAIN 0 ≤ k ∧ k < PWR_DOMAIN 128) := by omega
  simp only [liveStays, h.1, h.2, decide_true, Bool.true_and, Bool.or_eq_true, Bool.not_eq_true', Bool.and_eq_false_iff,
    decide_eq_false_iff_not]
  left; omega

/-- A region entry that a job owns is cold again. -/
theorem reg_region_after_warm (hbad : s.flt.bbBad = []) (hwf : mapWf coldValue s.csr = true) {i : Nat} (hi : i < 1024)
    (hjob : getF s (MEM_REGION_W1 i) MEM_REGION_W1_JOB_ID ≠ 0xFFFF) {k : Nat} (hk : k = MEM_REGION i ∨ k = MEM_REGION_W1 i) :
    reg (warmState (recorded s)) k = coldValue k := by
  have hhigh : 0x7000000 ≤ k := by simp only [MEM_REGION, MEM_REGION_W1] at hk; omega
  have hjob' : getF (recorded s) (MEM_REGION_W1 i) MEM_REGION_W1_JOB_ID ≠ 0xFFFF := by
    unfold getF at hjob ⊢
    rwa [recorded_reg_other s hbad (by simp only [MEM_REGION_W1, FLT_STATUS]; omega)]
  rw [reg_warmState _ (recorded_csr_wf s hbad hwf) (not_warmShown (.inr hhigh)), jobRegion_entry _ hi hjob' hk, if_pos rfl]

theorem tier2Key_of_not_tierKey (k : Nat) (h : tierKey k = false) : tier2Key k = false := by
  simp only [tierKey, tier2Key, Bool.and_eq_false_iff, decide_eq_false_iff_not] at h ⊢
  omega

/-- R43, R45, R442: what is left when VSTBY goes. -/
theorem vstbyRemoved_effect : ∃ t, exec .vstbyRemoved s = .next t ∧ t.boot.vstby = false ∧ t.boot.rails = false
    ∧ t.boot.halt = false ∧ t.mem = [] ∧ t.ftu = Ftu.cold ∧ t.nvm = s.nvm ∧ t.flt.bb = s.flt.bb ∧ t.sec = Sec.cold
    ∧ (∀ o, reg t o = coldValue o) :=
  ⟨_, rfl, rfl, rfl, rfl, rfl, rfl, rfl, rfl, rfl, reg_of_csr_nil rfl⟩

/-! ### Outside the registers, from the state before the closing of the record -/

theorem warm_boot : (warmState (recorded s)).boot
    = { s.boot with warm := true, up := false, opened := false, pcieBoot := false, aligning := none } := by
  rw [field_of_outsideRegs State.boot (fun _ => rfl) (outsideRegs_warmState (recorded s)),
    field_of_recorded s State.boot (fun _ => rfl)]

theorem warm_sec : (warmState (recorded s)).sec = warmSec s.sec := by
  rw [field_of_outsideRegs State.sec (fun _ => rfl) (outsideRegs_warmState (recorded s)),
    field_of_recorded s State.sec (fun _ => rfl)]

/-- The provenance records are dropped; keys, configuration record, bundle and plan stay (R377). -/
theorem warm_sec_kept : (warmState (recorded s)).sec.records = [] ∧ (warmState (recorded s)).sec.keys = s.sec.keys
    ∧ (warmState (recorded s)).sec.cfg = s.sec.cfg ∧ (warmState (recorded s)).sec.bundle = s.sec.bundle
    ∧ (warmState (recorded s)).sec.plan = s.sec.plan := by
  rw [warm_sec]
  exact ⟨rfl, rfl, rfl, rfl, rfl⟩

theorem warm_objs : (warmState (recorded s)).objs = warmObjs s.objs := by
  rw [field_of_outsideRegs State.objs (fun _ => rfl) (outsideRegs_warmState (recorded s)),
    field_of_recorded s State.objs (fun _ => rfl)]

theorem warm_mem : (warmState (recorded s)).mem = s.mem.filter (fun c => tierKey c.1) := by
  rw [field_of_outsideRegs State.mem (fun _ => rfl) (outsideRegs_warmState (recorded s)),
    field_of_recorded s State.mem (fun _ => rfl)]

theorem warm_ftu : (warmState (recorded s)).ftu = { s.ftu with fired := [], owner := [] } := by
  rw [field_of_outsideRegs State.ftu (fun _ => rfl) (outsideRegs_warmState (recorded s)),
    field_of_recorded s State.ftu (fun _ => rfl)]

theorem warm_nvm : (warmState (recorded s)).nvm = s.nvm := by
  rw [field_of_outsideRegs State.nvm (fun _ => rfl) (outsideRegs_warmState (recorded s))]
  exact field_of_recorded s State.nvm (fun _ => rfl)

theorem warm_flt : (warmState (recorded s)).flt = warmFlt (recorded s).flt :=
  field_of_outsideRegs State.flt (fun _ => rfl) (outsideRegs_warmState (recorded s))

/-- Jobs, cores, command rings' queues and quiesced domains have ended. -/
theorem warmState_ended : (warmState s).jobs = [] ∧ (warmState s).cores = [] ∧ (warmState s).crings = [] ∧ (warmState s).qids = [] :=
  field_of_outsideRegs (fun t => t.jobs = [] ∧ t.cores = [] ∧ t.crings = [] ∧ t.qids = []) (fun _ => rfl) (outsideRegs_warmState s)
    |>.mpr ⟨rfl, rfl, rfl, rfl⟩


/-- Settles O51: the open record is closed first, and then each reset is read off field by field. -/
theorem resetsHoldTheDevice : Obligations.ResetsHoldTheDevice := by
  refine ⟨fun low s hstandby hrails => ⟨fun hhalt hlow => ?_, exec_powerOnReset_kept s⟩, vstbyRemoved_effect, fun _ => rfl,
    fun pin s hstandby hrails hporst hhalt => ⟨fun hup hpin hbad hwf => ?_, exec_warmReset_kept s⟩⟩
  · exact ⟨_, exec_powerOnReset_held s hstandby hrails hhalt hlow, heldCold_coldHeld s, rfl, rfl⟩
  obtain ⟨hcur, hseq⟩ := recorded_flt s hbad
  obtain ⟨hrecords, hkeys, hcfg, hbundle, hplan⟩ := warm_sec_kept s
  obtain ⟨hjobs, hcores, hcrings, hqids⟩ := warmState_ended (recorded s)
  obtain ⟨hstep, hready⟩ := warmState_hubBoot (recorded s)
  have hkept := fun {k : Nat} => reg_after_warm s hbad hwf (k := k)
  have hexec := exec_warmReset_starts s hstandby hrails hporst hhalt hup hpin
  refine ⟨warmState (recorded s), hexec, warm_boot s, hrecords, hkeys, hcfg, hbundle, hplan, ?_, warm_ftu s, warm_nvm s,
    hjobs, hcores, hcrings, hqids, ?_, ?_, ?_, ?_, ?_, ?_, ?_, ?_, ?_, ?_, hstep, hready, ?_⟩
  · intro i hi hjob
    exact ⟨reg_region_after_warm s hbad hwf hi hjob (.inl rfl), reg_region_after_warm s hbad hwf hi hjob (.inr rfl)⟩
  · rw [warm_flt]; exact hcur
  · intro r hr base hbase hslot
    have hslotClosed := recorded_slot s hr hbad hbase hslot
    unfold bbAt at hslotClosed ⊢
    rw [warm_flt]; exact hslotClosed
  · rw [warm_flt]; exact hseq
  · intro k
    have h := rdByte_of_kept (warm_mem s) tier2Key_of_not_tierKey k
    simpa [tierKey] using h
  · exact hkept (.inl (by decide)) (by decide) (by decide) (by decide)
  · exact hkept (.inl (by decide)) (by decide) (by decide) (by decide)
  · intro c hc
    refine hkept (.inl (liveStays_of_range ?_ ?_)) ?_ ?_ ?_ <;>
      simp only [FLT_CNT, PWR_DOMAIN, SEC_PROV_STATUS, FLT_STATUS] <;> omega
  · intro r hr
    refine hkept (.inr ?_) ?_ ?_ ?_ <;> simp only [HIF_CR_CTRL, SEC_PROV_STATUS, FLT_STATUS] <;> omega
  · intro i hi
    refine hkept (.inl (liveStays_of_range ?_ ?_)) ?_ ?_ ?_ <;>
      simp only [FTU_ALARM_CTRL, PWR_DOMAIN, SEC_PROV_STATUS, FLT_STATUS] <;> omega
  · intro o _ hjob hfind
    unfold obj
    rw [warm_objs]
    exact mapGet_filter_of_find hfind (by simpa using hjob)
  · simp [outPins, isSet, hready]

end Sys2Proof.Proofs
end

section
/-! SUPPORT. The registers that a chain of writes keeps, step by step. -/
namespace Sys2Proof.Machine
open Sys2Proof.Machine.Claims Sys2Proof.Laws

variable {s t u : State} {l : List Nat}

theorem CsrKept.refl (s : State) (l : List Nat) : CsrKept s s l := fun _ _ => rfl

/-- An operation that writes no register keeps what was kept. -/
theorem CsrKept.of_csr_eq (h : CsrKept s t l) (hcsr : u.csr = t.csr) : CsrKept s u l := by
  intro o ho
  rw [← h o ho]
  exact congrArg (fun m => mapGet coldValue m o) hcsr

theorem CsrKept.trans (h : CsrKept s t l) (h' : CsrKept t u l) : CsrKept s u l :=
  fun o ho => (h' o ho).trans (h o ho)

theorem CsrKept.mono {l' : List Nat} (h : CsrKept s t l) (hl : l ⊆ l') : CsrKept s t l' :=
  fun o ho => h o (fun hin => ho (hl hin))

/-- A write to a listed register keeps the others. -/
theorem CsrKept.after_setReg (h : CsrKept s t l) {off : Nat} (hoff : off ∈ l) (v : Word) : CsrKept s (setReg t off v) l :=
  fun o ho => (reg_setReg_other t off o v (fun e => ho (e ▸ hoff))).trans (h o ho)

theorem CsrKept.after_setF (h : CsrKept s t l) {off : Nat} (hoff : off ∈ l) (f : Fld) (v : Nat) : CsrKept s (setF t off f v) l :=
  h.after_setReg hoff _

theorem CsrKept.after_bump (h : CsrKept s t l) {off : Nat} (hoff : off ∈ l) (f : Fld) (v : Nat) : CsrKept s (bump t off f v) l :=
  h.after_setReg hoff _

/-- A field of a kept register. -/
theorem CsrKept.getF_eq (h : CsrKept s t l) {off : Nat} (hoff : off ∉ l) (f : Fld) : getF t off f = getF s off f :=
  congrArg (fget f) (h off hoff)

theorem CsrKept.isSet_eq (h : CsrKept s t l) {off : Nat} (hoff : off ∉ l) (f : Fld) : isSet t off f = isSet s off f :=
  congrArg (· == 1) (h.getF_eq hoff f)

/-- A field that reads 1 is set. -/
theorem isSet_iff (s : State) (off : Nat) (f : Fld) : isSet s off f = true ↔ getF s off f = 1 := beq_iff_eq

theorem isSet_false_iff (s : State) (off : Nat) (f : Fld) : isSet s off f = false ↔ getF s off f ≠ 1 := beq_eq_false_iff_ne

end Sys2Proof.Machine
end

section
/-! SETTLES O13. -/
namespace Sys2Proof.Proofs
open Sys2Proof.Machine Sys2Proof.Machine.Claims Sys2Proof.Laws

variable (s : State)

/-- A read that answers a value and leaves a number in a field of one register. -/
theorem read_and_setF_effect (off : Nat) (f : Fld) (n : Nat) (o : Out) (hf : f.lo + f.w ≤ 64) (hn : n < 2 ^ f.w) :
    (emit (setF s off f n) o).out = o :: s.out ∧ getF (emit (setF s off f n) o) off f = n
      ∧ CsrKept s (emit (setF s off f n) o) [off] ∧ { emit (setF s off f n) o with csr := s.csr, out := s.out } = s :=
  ⟨rfl, (getF_setF_same s off f n hf).trans (Nat.mod_eq_of_lt hn),
    ((CsrKept.refl s [off]).after_setF List.mem_cons_self f n).of_csr_eq rfl, rfl⟩

theorem exec_ftuTimeRead (h : s.boot.vstby = true) :
    exec .ftuTimeRead s = .next (emit (setF s FTU_TIME_FRAC FTU_TIME_FRAC_FRAC (s.ftu.ft % 65536)) (.read (now s))) := by
  show execFtuTimeRead s = _
  rw [execFtuTimeRead, if_pos (show standby s = true from h)]
  rfl

theorem exec_fltBbDataRead (h : readable s 0 0x300038 = true) :
    exec .fltBbDataRead s = .next (emit
      (setF s FLT_BB_ADDR FLT_BB_ADDR_OFFSET (bbNext (getF s FLT_BB_ADDR FLT_BB_ADDR_OFFSET)))
      (.read (bbAt s (getF s FLT_BB_ADDR FLT_BB_ADDR_OFFSET)))) := by
  show execFltBbDataRead s = _
  rw [execFltBbDataRead, if_pos h]
  rfl

theorem exec_secAttDataRead (h : reach s ≠ .none) :
    exec .secAttDataRead s = .next (emit
      (setF s SEC_ATT_ADDR SEC_ATT_ADDR_ADDR ((getF s SEC_ATT_ADDR SEC_ATT_ADDR_ADDR + 8) % 65536)) (.read (attWord s))) := by
  show execSecAttDataRead s = _
  rw [execSecAttDataRead, if_neg (by simpa using h)]
  rfl

/-- FLT_BB_ADDR moves on by a word, and from the last word to the first of the ring (R440). -/
theorem bbNext_eq (a : Nat) : bbNext a = if a + 8 < 0x1000000 then a + 8 else 0x200000 := by
  unfold bbNext
  split <;> split <;> omega

/-- Settles O13: each read answers its value and writes one field, and the three values are read off. -/
theorem readsWithAnEffect : Obligations.ReadsWithAnEffect := by
  refine fun s => ⟨fun h => ?_, fun h => ?_, fun h => ?_⟩
  · exact ⟨_, exec_ftuTimeRead s h, read_and_setF_effect s _ _ _ _ (by decide) (Nat.mod_lt _ (by decide))⟩
  · refine ⟨_, exec_fltBbDataRead s h, ?_⟩
    have hnext : bbNext (getF s FLT_BB_ADDR FLT_BB_ADDR_OFFSET) < 2 ^ FLT_BB_ADDR_OFFSET.w := by
      rw [bbNext_eq, show 2 ^ FLT_BB_ADDR_OFFSET.w = 0x1000000 from rfl]
      split <;> omega
    rw [← bbNext_eq]
    exact read_and_setF_effect s _ _ _ _ (by decide) hnext
  · exact ⟨_, exec_secAttDataRead s h, read_and_setF_effect s _ _ _ _ (by decide) (Nat.mod_lt _ (by decide))⟩

end Sys2Proof.Proofs
end

section
/-! SETTLES O60. One HCLK cycle without a command (R34, R37, R159, R465). -/
namespace Sys2Proof.Proofs
open Sys2Proof.Machine Sys2Proof.Machine.Claims Sys2Proof.Laws

variable (s : State)

/-! ### FT (R34) -/

/-- The increment of a cycle is never negative: FTU_RATE_ADJ takes at most half of it away. -/
theorem tickTotal_eq : (tickTotal s : Int) = 81920 * (2 ^ 32 + rateAdj s) + s.ftu.acc := by
  have hlow : -(2 ^ 31) ≤ rateAdj s := by
    have := BitVec.le_two_mul_toInt (x := BitVec.ofNat 32 (getF s FTU_RATE_ADJ FTU_RATE_ADJ_ADJ))
    unfold rateAdj; omega
  unfold tickTotal
  omega

/-- FT with its fraction gains the increment, and the fraction is carried on. -/
theorem tickTime_gain : (((tickTime s).ftu.ft : Nat) : Int) * 2 ^ 32 + (tickTime s).ftu.acc
    = s.ftu.ft * 2 ^ 32 + s.ftu.acc + 81920 * (2 ^ 32 + rateAdj s) := by
  have hsplit : (tickTotal s : Int) = (tickTotal s / 2 ^ 32 : Nat) * 2 ^ 32 + (tickTotal s % 2 ^ 32 : Nat) := by omega
  have htotal := tickTotal_eq s
  show ((s.ftu.ft + tickTotal s / 2 ^ 32 : Nat) : Int) * 2 ^ 32 + (tickTotal s % 2 ^ 32 : Nat) = _
  push_cast at hsplit ⊢
  linarith

/-! ### Steps 12 and 13 of start-up (R465) -/

/-- Start-up writes HUB_BOOT and the state of the start-up, and nothing else. -/
theorem bootAdvance_frame : { bootAdvance s with csr := s.csr, boot := s.boot } = s ∧ CsrKept s (bootAdvance s) [HUB_BOOT] := by
  have h12 : { endStep12 s with csr := s.csr, boot := s.boot } = s ∧ CsrKept s (endStep12 s) [HUB_BOOT] := by
    unfold endStep12
    split
    · exact ⟨rfl, ((CsrKept.refl s _).of_csr_eq rfl).after_setF List.mem_cons_self _ _⟩
    · exact ⟨rfl, CsrKept.refl s _⟩
  unfold bootAdvance endStep13
  split
  · exact ⟨h12.1, (h12.2.of_csr_eq rfl).after_setF List.mem_cons_self _ _⟩
  · exact h12

theorem bootAdvance_of_other_step (h12 : getF s HUB_BOOT HUB_BOOT_STEP ≠ 12) (h13 : getF s HUB_BOOT HUB_BOOT_STEP ≠ 13) :
    bootAdvance s = s := by
  have h : endStep12 s = s := if_neg (fun h => h12 h.1)
  rw [bootAdvance, h]
  exact if_neg (fun h => h13 h.1)

/-- Step 13 without PCIe boot ends after its 20 ms. -/
theorem bootAdvance_ends_step13 (h13 : getF s HUB_BOOT HUB_BOOT_STEP = 13)
    (hover : s.boot.stepAt.toNat + 20000000 ≤ (now s).toNat) :
    bootAdvance s = enterStep { s with boot := { s.boot with opened := true, pcieBoot := false } } 14 := by
  have h : endStep12 s = s := if_neg (fun h => by omega)
  rw [bootAdvance, h]
  exact if_pos ⟨h13, .inr (decide_eq_true hover)⟩

theorem bootAdvance_in_step13 (h13 : getF s HUB_BOOT HUB_BOOT_STEP = 13) (hpcie : s.boot.pcieBoot = false)
    (hshort : (now s).toNat < s.boot.stepAt.toNat + 20000000) : bootAdvance s = s := by
  have h : endStep12 s = s := if_neg (fun h => by omega)
  rw [bootAdvance, h]
  refine if_neg (fun ⟨_, h⟩ => ?_)
  rcases h with h | h
  · simp [hpcie] at h
  · exact absurd (of_decide_eq_true h) (Nat.not_le.mpr hshort)

/-! ### Idle and busy periods (R159) -/

/-- The causes of Table 5.11 are less than 16. -/
theorem idleCause_lt {n p c : Nat} (h : idleCause s n p = some c) : c < 16 := by
  have hheld : ∀ d, heldCause s n = some d → d < 16 := by
    intro d hd
    unfold heldCause at hd
    split at hd
    · cases hd
      split
      · omega
      · unfold waitCause; split <;> omega
    · split at hd
      · cases hd; omega
      · obtain ⟨x, _, rfl⟩ := Option.map_eq_some_iff.mp hd
        omega
  unfold idleCause at h
  dsimp only at h
  split_ifs at h with hrem hlevel hst hrun
  · cases h; omega
  · cases h; omega
  · cases h; omega
  · exact hheld c h
  · cases h; omega

/-- The registers of the cores' idle and busy counts. -/
def idleReg (o : Nat) : Prop := ∃ n c, n < 80 ∧ c < 16 ∧ (o = CORE_IDLE n c ∨ o = CORE_CNT_BUSY n)

theorem outsideRegs_chargeIdle (p n : Nat) : outsideRegs (chargeIdle s p n) = outsideRegs s := by
  unfold chargeIdle
  split
  · split <;> exact outsideRegs_bump ..
  · rfl

theorem reg_chargeIdle_other {p n o : Nat} (hn : n < 80) (ho : ¬ idleReg o) : reg (chargeIdle s p n) o = reg s o := by
  unfold chargeIdle
  split
  · split
    · rename_i c hc
      exact reg_bump_other _ _ _ _ _ (fun e => ho ⟨n, c, hn, idleCause_lt s hc, .inl e⟩)
    · exact reg_bump_other _ _ _ _ _ (fun e => ho ⟨n, 0, hn, by omega, .inr e⟩)
  · rfl

theorem outsideRegs_idlePeriod (k : Nat) : outsideRegs (idlePeriod s k) = outsideRegs s :=
  outsideRegs_foldl _ (fun t n => outsideRegs_chargeIdle t _ n) _ s

theorem reg_idlePeriod_other (k : Nat) {o : Nat} (ho : ¬ idleReg o) : reg (idlePeriod s k) o = reg s o :=
  reg_foldl_other _ _ _ s (fun t _ hn => reg_chargeIdle_other t (List.mem_range.mp hn) ho)

/-- The ACLK periods of a cycle: idle and busy counts, and the ACLK position. -/
theorem tickCores_frame :
    { tickCores s with csr := s.csr, aclk := s.aclk } = s ∧ (tickCores s).aclk = s.aclk + 11
      ∧ ∀ o, ¬ idleReg o → reg (tickCores s) o = reg s o := by
  have hout := outsideRegs_foldl (fun t i => idlePeriod t (s.aclk / 8 + i)) (fun t i => outsideRegs_idlePeriod t _)
    (List.range ((s.aclk + 11) / 8 - s.aclk / 8)) s
  exact ⟨(congrArg (fun t => { t with aclk := s.aclk }) (keptRegs s _ hout) :), (congrArg (fun t => t.aclk + 11) hout :),
    fun o ho => reg_foldl_other _ _ _ s (fun t i _ => reg_idlePeriod_other t _ ho)⟩

theorem hubBoot_not_idleReg : ¬ idleReg HUB_BOOT := by
  rintro ⟨n, c, _, _, h | h⟩ <;> simp only [HUB_BOOT, CORE_IDLE, CORE_CNT_BUSY] at h <;> omega

/-! ### Idle words (R255) -/

/-- What ports send of themselves leaves fabric time alone. -/
theorem tickPorts_ftu : (tickPorts s).ftu = s.ftu := by
  refine foldl_ftu _ (fun t e => ?_) _ s
  have hframe : ∀ (t : State) q vc, (openFrame t q vc).ftu = t.ftu := by intro t q vc; unfold openFrame; split <;> rfl
  have hinit : ∀ (t : State) q, (repeatInit t q).ftu = t.ftu := by intro t q; unfold repeatInit; split <;> rfl
  have hidle : ∀ (t : State) q, (tickIdle t q).ftu = t.ftu := by
    intro t q
    unfold tickIdle
    split
    · exact hframe ..
    · rfl
  exact (hinit ..).trans (hidle ..)

theorem tickPorts_of_no_port (h : s.net.ports = []) : tickPorts s = s := by
  unfold tickPorts; rw [h]; rfl

/-! ### The cycle -/

theorem steps_tick (h : s.pending = []) : Steps s (tick s) := by
  unfold Steps step; rw [h]

theorem tick_held (h : standby s = false ∨ s.boot.porst = true) : tick s = s := by
  unfold tick
  rcases h with h | h <;> simp [h]

/-- A cycle of a device that does not run, and of one that does. -/
theorem tick_eq (hstandby : standby s = true) (hporst : s.boot.porst = false) :
    tick s = if running s then tickPorts (tickCores (bootAdvance (tickTime s))) else tickTime s := by
  unfold tick
  simp only [hstandby, hporst, Bool.not_false, Bool.and_self, if_true]
  rfl

theorem tick_ftu (hstandby : standby s = true) (hporst : s.boot.porst = false) : (tick s).ftu = (tickTime s).ftu := by
  rw [tick_eq s hstandby hporst]
  split
  · have hboot : (bootAdvance (tickTime s)).ftu = (tickTime s).ftu := (congrArg State.ftu (bootAdvance_frame (tickTime s)).1 :)
    have hcores : (tickCores (bootAdvance (tickTime s))).ftu = (bootAdvance (tickTime s)).ftu :=
      (congrArg State.ftu (tickCores_frame (bootAdvance (tickTime s))).1 :)
    rw [tickPorts_ftu, hcores, hboot]
  · rfl

/-- Without ports a cycle of a running device is its time, its start-up and its cores. -/
theorem tick_of_no_port (hstandby : standby s = true) (hporst : s.boot.porst = false) (hrun : running s = true)
    (hports : s.net.ports = []) : tick s = tickCores (bootAdvance (tickTime s)) := by
  have hboot : (bootAdvance (tickTime s)).net = s.net := (congrArg State.net (bootAdvance_frame (tickTime s)).1 :)
  have hcores : (tickCores (bootAdvance (tickTime s))).net = (bootAdvance (tickTime s)).net :=
    (congrArg State.net (tickCores_frame (bootAdvance (tickTime s))).1 :)
  rw [tick_eq s hstandby hporst, if_pos hrun, tickPorts_of_no_port _ (by rw [hcores, hboot, hports])]

/-- The cycle of a running device without ports: counts, HUB_BOOT and the start-up beside the time. -/
theorem tick_of_no_port_frame (hstandby : standby s = true) (hporst : s.boot.porst = false) (hrun : running s = true)
    (hports : s.net.ports = []) :
    { tick s with ftu := s.ftu, csr := s.csr, aclk := s.aclk, boot := s.boot } = s ∧ (tick s).aclk = s.aclk + 11
      ∧ (∀ o, ¬ idleReg o → reg (tick s) o = reg (bootAdvance (tickTime s)) o)
      ∧ (tick s).boot = (bootAdvance (tickTime s)).boot := by
  rw [tick_of_no_port s hstandby hporst hrun hports]
  obtain ⟨hcores, haclk, hregs⟩ := tickCores_frame (bootAdvance (tickTime s))
  have hboot := (bootAdvance_frame (tickTime s)).1
  have hframe := (congrArg (fun t : State => { t with ftu := s.ftu, csr := s.csr, aclk := s.aclk, boot := s.boot }) hcores).trans
    (congrArg (fun t : State => { t with ftu := s.ftu, csr := s.csr, aclk := s.aclk, boot := s.boot }) hboot)
  exact ⟨hframe, haclk.trans (congrArg (fun t : State => t.aclk + 11) hboot :), hregs, (congrArg State.boot hcores :)⟩

/-- Settles O60: the cycle's time is that of `tickTime`; without ports the rest of the cycle is start-up's and the cores'. -/
theorem anEmptyQueueLetsOneCyclePass : Obligations.AnEmptyQueueLetsOneCyclePass := by
  refine fun s hpending => ⟨fun hstandby hporst _ => ?_, fun h => ?_⟩
  · have hftu := tick_ftu s hstandby hporst
    have hnow : now (tick s) = now (tickTime s) := congrArg (fun f : Ftu => BitVec.ofNat 64 (f.ft / 65536)) hftu
    refine ⟨tick s, steps_tick s hpending, ?_, ?_, ?_, fun hrun => ?_, fun hrun hports => ?_⟩
    · rw [hftu]; exact tickTime_gain s
    · rw [hftu]; exact Nat.mod_lt _ (by decide)
    · rw [hftu]; rfl
    · rw [tick_eq s hstandby hporst, hrun]; rfl
    · obtain ⟨hframe, haclk, hregs, hboot⟩ := tick_of_no_port_frame s hstandby hporst hrun hports
      have hhub := hregs HUB_BOOT hubBoot_not_idleReg
      rw [hnow]
      refine ⟨hframe, haclk, fun o ho hidle => ?_, fun h12 h13 => ?_, fun h13 hpcie => ⟨fun hover => ?_, fun hshort => ?_⟩⟩
      · have hnot : ¬ idleReg o := by
          rintro ⟨n, c, hn, hc, e | e⟩
          · exact (hidle n c hn hc).1 e
          · exact (hidle n c hn hc).2 e
        exact (hregs o hnot).trans ((bootAdvance_frame (tickTime s)).2 o (by simpa using ho))
      · rw [hhub, hboot, bootAdvance_of_other_step (tickTime s) h12 h13]
        exact ⟨rfl, rfl⟩
      · have hstep := bootAdvance_ends_step13 (tickTime s) h13 hover
        constructor
        · rw [getF, hhub, hstep]
          exact getF_setF_same _ _ _ _ (by decide)
        · rw [hboot, hstep, ← hpcie]
          rfl
      · rw [hhub, hboot, bootAdvance_in_step13 (tickTime s) h13 hpcie hshort]
        exact ⟨rfl, rfl⟩
  · have hstep := steps_tick s hpending
    rwa [tick_held s h] at hstep

end Sys2Proof.Proofs
end

section
/-! REFUTES O15. The wake of a bundle in DUIKER sends EXIT words (R412), which the frame of PWR_WAKE leaves out. -/
namespace Sys2Proof.Proofs
open Sys2Proof.Machine Sys2Proof.Machine.Claims Sys2Proof.Laws

/-- Alarm 0's wake of domain 96, which is bundle 0, has fired and is due at FT 0. -/
def wakeOfBundle0 : Fired :=
  { alarm := 0, action := 4, index := 96, target := 0, late := false, due := 0, met := false }

/-- A running device whose bundle 0 stands in DUIKER, the link of its port 0 ACTIVE at PFP 5.0, and whose wake is due. -/
def duikerS : State :=
  { State.reset with
    boot := { State.reset.boot with porst := false, perst := false, up := true, opened := true, pcieUp := true }
    ftu := { State.reset.ftu with fired := [wakeOfBundle0] }
    csr := [(PWR_DOMAIN 96, 2), (LNK_PORT_STATUS 0 0, 4 + 0x50 * 2 ^ 6)] }

/-- The wake of `duikerS` sends an EXIT word on port 0. -/
theorem duikerS_wake_sends_exit :
    (match exec (.pwrWake 0) duikerS with
      | .next t => decide (Out.word 0 (lpiWord (port duikerS 0) 3) ∈ t.out)
      | _ => false) = true := by decide +kernel

/-- Refutes O15: PWR_WAKE of a bundle in DUIKER sends EXIT words on its ports of PFP 5.0 or later, as R412 says, so what
the device sends out changes; the clause of a wake with no domain starved keeps `out` and `net`. -/
theorem not_alarmsFireAndWake : ¬ Obligations.AlarmsFireAndWake := by
  rintro ⟨_, hwake⟩
  obtain ⟨_, _, _, hquiet⟩ := hwake 0 duikerS wakeOfBundle0 96 (by decide) (by decide) rfl (by decide)
  obtain ⟨t, hexec, _, _, _, hframe⟩ := hquiet (by decide) (by decide) rfl
  have hout : t.out = [] := (congrArg State.out hframe :)
  have hsent := duikerS_wake_sends_exit
  rw [hexec] at hsent
  simp [hout] at hsent

end Sys2Proof.Proofs
end

section
/-! SUPPORT. What the collector writes when it takes a fault, logs an event or halts the device: registers, the open record,
the record's number (R430, R433, R436, R441). -/
namespace Sys2Proof.Machine
open Sys2Proof.Machine.Claims Sys2Proof.Laws Sys2Proof.Proofs

variable {s t : State} {l : List Nat}

/-! ### Registers, operation by operation -/

theorem CsrKept.after_eventMsg (h : CsrKept s t l) (hl : HIF_MSIX_PEND 4 ∈ l) {i : Nat} (hi : i < 64) :
    CsrKept s (eventMsg t i) l :=
  fun o ho => (reg_eventMsg_other t hi (fun e : o = HIF_MSIX_PEND 4 => ho (e ▸ hl))).trans (h o ho)

theorem CsrKept.after_event (h : CsrKept s t l) {off : Nat} (hoff : off ∈ l) (hl : HIF_MSIX_PEND 4 ∈ l) (f : Fld) {i : Nat}
    (hi : i < 64) : CsrKept s (event t off f i) l :=
  (h.after_setF hoff f 1).after_eventMsg hl hi

theorem CsrKept.after_countFault (h : CsrKept s t l) {src cls : Nat} (hcnt : FLT_CNT cls ∈ l) (hsrc : FLT_SRC src ∈ l) :
    CsrKept s (countFault t src cls) l :=
  (((h.after_bump hcnt _ _).after_bump hsrc _ _).after_setF hsrc _ _).after_setF hsrc _ _

/-- A list names the registers that a record can write, its copies' BB_WRITE included (R436). -/
def ListsRecordRegs (l : List Nat) : Prop := FLT_STATUS ∈ l ∧ FLT_CNT 0 ∈ l ∧ FLT_SRC 183 ∈ l ∧ HIF_MSIX_PEND 4 ∈ l

theorem CsrKept.after_bbRaise (h : CsrKept s t l) (hl : ListsRecordRegs l) : CsrKept s (bbRaise t) l := by
  obtain ⟨hstatus, hcnt, hsrc, hpend⟩ := hl
  exact ((h.after_countFault hcnt hsrc).after_event hstatus hpend _ (by decide)).of_csr_eq rfl

theorem CsrKept.after_bbMerge (h : CsrKept s t l) (hl : ListsRecordRegs l) (w : Nat) : CsrKept s (bbMerge t w) l :=
  (h.after_bbRaise hl).of_csr_eq rfl

theorem CsrKept.after_bbReport (h : CsrKept s t l) (q : BitVec 32) {raise : State → Nat → State}
    (hraise : ∀ u w, CsrKept s u l → CsrKept s (raise u w) l) : CsrKept s (bbReport t q raise) l := by
  unfold bbReport
  dsimp only
  repeat' split
  · exact hraise _ _ (hraise _ _ h)
  · exact hraise _ _ h
  · exact hraise _ _ h
  · exact h

theorem CsrKept.after_bbWrite (h : CsrKept s t l) (r : EventRec) : CsrKept s (bbWrite t r) l := h.of_csr_eq rfl

/-- The collector's own state is no register. -/
theorem CsrKept.with_flt (h : CsrKept s t l) (f : Flt) : CsrKept s { t with flt := f } l := h.of_csr_eq rfl

theorem CsrKept.after_bbError (h : CsrKept s t l) (hl : ListsRecordRegs l) (w : Nat) : CsrKept s (bbError t w) l := by
  unfold bbError
  split
  · exact h.after_bbMerge hl w
  · refine CsrKept.after_bbReport (CsrKept.after_bbWrite ?_ _) _ (fun u w hu => hu.after_bbMerge hl w)
    exact (((h.after_bbRaise hl).with_flt _).after_setF hl.1 FLT_STATUS_OPEN 1).after_event hl.1 hl.2.2.2
      FLT_STATUS_OPEN_EVENT (by decide)

theorem CsrKept.after_putRecord (h : CsrKept s t l) (hl : ListsRecordRegs l) (r : EventRec) : CsrKept s (putRecord t r) l :=
  (h.after_bbWrite r).after_bbReport _ (fun _ w hu => hu.after_bbError hl w)

theorem snapTrigger_csr (s : State) (q : BitVec 32) (halt : Bool) : (snapTrigger s q halt).csr = s.csr := by
  unfold snapTrigger
  (repeat' split) <;> rfl

end Sys2Proof.Machine

namespace Sys2Proof.Proofs
open Sys2Proof.Machine Sys2Proof.Machine.Claims Sys2Proof.Laws

/-! ### A fault, branch by branch -/

/-- What a fault does once its record stands: event bit, message, the record's copies, a snapshot (R430, R438). -/
def showRecord (s : State) (r : EventRec) (cls : Nat) : State :=
  let s := setF s FLT_STATUS FLT_STATUS_OPEN_EVENT 1
  let s := if cls = 3 then s else eventMsg s 0
  let s := putRecord s r
  if cls = 2 then snapTrigger s r.seq false else s

variable (s : State) (src cause cls : Nat) (j : BitVec 16) (d : BitVec 32) (forced : Bool)

/-- The collector with a fault counted and its record open. -/
def faultOpened (s : State) (src cls : Nat) (r : EventRec) : State :=
  { countFault s src cls with flt := { s.flt with secFault := true, cur := some r, nextSeq := s.flt.nextSeq + 1 } }

/-- The collector with a fault counted and merged into the open record. -/
def faultMerged (s : State) (src cls : Nat) (r : EventRec) : State :=
  { countFault s src cls with flt := { s.flt with secFault := true, cur := some r, haltRec := haltView s r } }

theorem fault_of_none (h : s.flt.cur = none) : fault s src cause cls j d forced =
    showRecord (setF (faultOpened s src cls (openRec s src cause cls j d forced)) FLT_STATUS FLT_STATUS_OPEN 1)
      (openRec s src cause cls j d forced) cls := by
  have hc : (countFault s src cls).flt.cur = none := h
  unfold fault
  simp only [hc]
  rfl

theorem fault_of_some {r : EventRec} (h : s.flt.cur = some r) : fault s src cause cls j d forced =
    if r.cls.toNat < cls then
      showRecord (faultMerged s src cls (mergeFault r src cause cls d forced)) (mergeFault r src cause cls d forced) cls
    else faultMerged s src cls (mergeFault r src cause cls d forced) := by
  have hc : (countFault s src cls).flt.cur = some r := h
  unfold fault
  simp only [hc]
  rfl

/-- The registers that a fault writes, whatever the black box's cells do. -/
theorem fault_csrKept : CsrKept s (fault s src cause cls j d forced) (faultRegs src cls) := by
  have hl : ListsRecordRegs (faultRegs src cls) := by simp [ListsRecordRegs, faultRegs]
  have hcount : CsrKept s (countFault s src cls) (faultRegs src cls) :=
    (CsrKept.refl s _).after_countFault (by simp [faultRegs]) (by simp [faultRegs])
  have hshow : ∀ t r, CsrKept s t (faultRegs src cls) → CsrKept s (showRecord t r cls) (faultRegs src cls) := by
    intro t r h
    have hevent := h.after_setF hl.1 FLT_STATUS_OPEN_EVENT 1
    unfold showRecord
    dsimp only
    have hmsg : CsrKept s (if cls = 3 then setF t FLT_STATUS FLT_STATUS_OPEN_EVENT 1
        else eventMsg (setF t FLT_STATUS FLT_STATUS_OPEN_EVENT 1) 0) (faultRegs src cls) := by
      split
      · exact hevent
      · exact hevent.after_eventMsg hl.2.2.2 (by decide)
    split
    · exact (hmsg.after_putRecord hl r).of_csr_eq (snapTrigger_csr ..)
    · exact hmsg.after_putRecord hl r
  cases hcur : s.flt.cur with
  | none =>
    rw [fault_of_none s src cause cls j d forced hcur]
    exact hshow _ _ ((hcount.of_csr_eq rfl).after_setF hl.1 _ _)
  | some r =>
    rw [fault_of_some s src cause cls j d forced hcur]
    split
    · exact hshow _ _ (hcount.of_csr_eq rfl)
    · exact hcount.of_csr_eq rfl

/-! ### On cells that hold -/

theorem snapTrigger_flt (q : BitVec 32) (halt : Bool) :
    { (snapTrigger s q halt).flt with snap := s.flt.snap } = s.flt := by
  unfold snapTrigger
  (repeat' split) <;> rfl

/-- Showing a record leaves the counts, and the collector but for the black box's words and the snapshot. -/
theorem showRecord_of_sound (r : EventRec) (h : s.flt.bbBad = []) :
    CsrKept s (showRecord s r cls) [FLT_STATUS, HIF_MSIX_PEND 4]
      ∧ { (showRecord s r cls).flt with bb := s.flt.bb, snap := s.flt.snap } = s.flt := by
  have hevent := (CsrKept.refl s [FLT_STATUS, HIF_MSIX_PEND 4]).after_setF (off := FLT_STATUS) (by simp) FLT_STATUS_OPEN_EVENT 1
  have hsnap : ∀ t : State, CsrKept s t [FLT_STATUS, HIF_MSIX_PEND 4] → t.flt = s.flt →
      CsrKept s (if cls = 2 then snapTrigger (putRecord t r) r.seq false else putRecord t r) [FLT_STATUS, HIF_MSIX_PEND 4]
        ∧ { (if cls = 2 then snapTrigger (putRecord t r) r.seq false else putRecord t r).flt with
            bb := s.flt.bb, snap := s.flt.snap } = s.flt := by
    intro t hkept hflt
    rw [putRecord_of_sound t r (by rw [hflt, h])]
    have hwrite : CsrKept s (bbWrite t r) [FLT_STATUS, HIF_MSIX_PEND 4] := hkept.of_csr_eq rfl
    have hsame : { (bbWrite t r).flt with bb := s.flt.bb, snap := s.flt.snap } = s.flt :=
      congrArg (fun f : Flt => { f with bb := s.flt.bb, snap := s.flt.snap }) hflt
    split
    · refine ⟨hwrite.of_csr_eq (snapTrigger_csr ..), Eq.trans ?_ hsame⟩
      exact congrArg (fun f : Flt => { f with bb := s.flt.bb, snap := s.flt.snap }) (snapTrigger_flt (bbWrite t r) r.seq false)
    · exact ⟨hwrite, hsame⟩
  unfold showRecord
  dsimp only
  by_cases h3 : cls = 3
  · simp only [if_pos h3]
    exact hsnap _ hevent rfl
  · simp only [if_neg h3]
    exact hsnap _ (hevent.after_eventMsg (by simp) (by decide)) (by simp)

/-- A fault counted (R433). -/
theorem countFault_counts (hcls : cls < 4) :
    getF (countFault s src cls) (FLT_CNT cls) FLT_CNT_COUNT = min (getF s (FLT_CNT cls) FLT_CNT_COUNT + 1) (2 ^ FLT_CNT_COUNT.w - 1)
    ∧ getF (countFault s src cls) (FLT_SRC src) FLT_SRC_COUNT = min (getF s (FLT_SRC src) FLT_SRC_COUNT + 1) (2 ^ FLT_SRC_COUNT.w - 1)
    ∧ getF (countFault s src cls) (FLT_SRC src) FLT_SRC_LAST_CLASS = cls
    ∧ getF (countFault s src cls) (FLT_SRC src) FLT_SRC_LAST_FT = (now s).toNat % 2 ^ FLT_SRC_LAST_FT.w := by
  have hne : FLT_CNT cls ≠ FLT_SRC src := by simp only [FLT_CNT, FLT_SRC]; omega
  unfold countFault
  dsimp only
  refine ⟨?_, ?_, ?_, ?_⟩
  · rw [getF_setF_other _ _ _ _ _ _ hne, getF_setF_other _ _ _ _ _ _ hne, getF, reg_bump_other _ _ _ _ _ hne]
    exact getF_bump_same _ _ _ _ (by decide)
  · rw [getF_setF_field _ _ _ _ _ (by decide) (by decide), getF_setF_field _ _ _ _ _ (by decide) (by decide),
      getF_bump_same _ _ _ _ (by decide), getF, reg_bump_other _ _ _ _ _ hne.symm]
    rfl
  · rw [getF_setF_field _ _ _ _ _ (by decide) (by decide), getF_setF_same _ _ _ _ (by decide)]
    exact Nat.mod_eq_of_lt hcls
  · rw [getF_setF_same _ _ _ _ (by decide)]
    rfl

/-- A fault on cells that hold: beside FLT_STATUS and a pending bit the registers are those of its counts; the record is open. -/
theorem fault_of_sound (h : s.flt.bbBad = []) :
    CsrKept (countFault s src cls) (fault s src cause cls j d forced) [FLT_STATUS, HIF_MSIX_PEND 4]
      ∧ (fault s src cause cls j d forced).flt.cur = some (match s.flt.cur with
          | none => openRec s src cause cls j d forced
          | some r => mergeFault r src cause cls d forced)
      ∧ (fault s src cause cls j d forced).flt.secFault = true := by
  cases hcur : s.flt.cur with
  | none =>
    rw [fault_of_none s src cause cls j d forced hcur]
    obtain ⟨hkept, hflt⟩ := showRecord_of_sound
      (setF (faultOpened s src cls (openRec s src cause cls j d forced)) FLT_STATUS FLT_STATUS_OPEN 1) cls
      (openRec s src cause cls j d forced) h
    have hopen : CsrKept (countFault s src cls)
        (setF (faultOpened s src cls (openRec s src cause cls j d forced)) FLT_STATUS FLT_STATUS_OPEN 1)
        [FLT_STATUS, HIF_MSIX_PEND 4] :=
      ((CsrKept.refl _ _).of_csr_eq rfl).after_setF (by simp) _ _
    exact ⟨hopen.trans hkept, (congrArg Flt.cur hflt :), (congrArg Flt.secFault hflt :)⟩
  | some r =>
    rw [fault_of_some s src cause cls j d forced hcur]
    have hmerged : CsrKept (countFault s src cls) (faultMerged s src cls (mergeFault r src cause cls d forced))
        [FLT_STATUS, HIF_MSIX_PEND 4] := (CsrKept.refl _ _).of_csr_eq rfl
    split
    · obtain ⟨hkept, hflt⟩ := showRecord_of_sound (faultMerged s src cls (mergeFault r src cause cls d forced)) cls
        (mergeFault r src cause cls d forced) h
      exact ⟨hmerged.trans hkept, (congrArg Flt.cur hflt :), (congrArg Flt.secFault hflt :)⟩
    · exact ⟨hmerged, rfl, rfl⟩

/-- Taking a fault raises it (R430, R433). -/
theorem raised_fault (hcls : cls < 4) (hsrc : src < 192) :
    Raised s (fault s src cause cls j d forced) src cause cls j d forced := by
  intro hbad
  obtain ⟨hkept, hcur, hsec⟩ := fault_of_sound s src cause cls j d forced hbad
  obtain ⟨hcnt, hcount, hclass, hft⟩ := countFault_counts s src cls hcls
  have h1 : FLT_CNT cls ∉ [FLT_STATUS, HIF_MSIX_PEND 4] := by simp [FLT_CNT, FLT_STATUS, HIF_MSIX_PEND]; omega
  have h2 : FLT_SRC src ∉ [FLT_STATUS, HIF_MSIX_PEND 4] := by simp [FLT_SRC, FLT_STATUS, HIF_MSIX_PEND]; omega
  refine ⟨?_, ?_, ?_, ?_, hcur, hsec⟩
  · rw [hkept.getF_eq h1, hcnt]
  · rw [hkept.getF_eq h2, hcount]
  · rw [hkept.getF_eq h2, hclass]
  · rw [hkept.getF_eq h2, hft]

/-- A fault raised between two states is raised between states around them that agree in its counts, in the collector and in
the time. -/
theorem raised_of_kept {s s' t t' : State} {l : List Nat} (h : Raised s t src cause cls j d forced)
    (hcnt : FLT_CNT cls ∉ l) (hsrc : FLT_SRC src ∉ l) (hs : CsrKept s' s l) (hflt : s.flt = s'.flt) (hnow : now s = now s')
    (ht : CsrKept t t' l) (hcur : t'.flt.cur = t.flt.cur) (hsec : t'.flt.secFault = t.flt.secFault) :
    Raised s' t' src cause cls j d forced := by
  intro hbad
  obtain ⟨hc, hn, hclass, hft, hrec, hs1⟩ := h (hflt ▸ hbad)
  have hopen : openRec s src cause cls j d forced = openRec s' src cause cls j d forced := by
    unfold openRec; rw [hflt, hnow]
  rw [ht.getF_eq hcnt, ht.getF_eq hsrc, ht.getF_eq hsrc, ht.getF_eq hsrc, hcur, hsec, ← hs.getF_eq hcnt, ← hs.getF_eq hsrc,
    ← hnow, ← hflt, ← hopen]
  exact ⟨hc, hn, hclass, hft, hrec, hs1⟩

/-! ### HALT (R441) -/

theorem disableRings_csrKept {s t : State} {l : List Nat} (h : CsrKept s t l) (rs : List Nat)
    (hl : ∀ r ∈ rs, HIF_CR_CTRL r ∈ l ∧ HIF_QR_CTRL r ∈ l) : CsrKept s (disableRings t rs) l := by
  induction rs generalizing t with
  | nil => exact h
  | cons r rs ih =>
    obtain ⟨hcr, hqr⟩ := hl r List.mem_cons_self
    exact ih ((h.after_setF hcr _ _).after_setF hqr _ _) (fun x hx => hl x (List.mem_cons_of_mem _ hx))

/-- A field that reads 0 does so after a 0 has gone to that field of any register. -/
theorem getF_setF_zero {k off : Nat} {f : Fld} (hf : f.lo + f.w ≤ 64) (h : getF s k f = 0) : getF (setF s off f 0) k f = 0 := by
  by_cases hk : k = off
  · rw [hk, getF_setF_same _ _ _ _ hf, Nat.zero_mod]
  · rw [getF_setF_other _ _ _ _ _ _ hk, h]

/-- A ring that is off stays off. -/
theorem disableRings_off (rs : List Nat) (k : Nat) (h : getF s k ⟨0, 1⟩ = 0) : getF (disableRings s rs) k ⟨0, 1⟩ = 0 := by
  induction rs generalizing s with
  | nil => exact h
  | cons r rs ih => exact ih _ (getF_setF_zero _ (by decide) (getF_setF_zero s (by decide) h))

/-- Every listed ring is off. -/
theorem disableRings_en {rs : List Nat} {r : Nat} (hr : r ∈ rs) :
    getF (disableRings s rs) (HIF_CR_CTRL r) HIF_CR_CTRL_EN = 0 ∧ getF (disableRings s rs) (HIF_QR_CTRL r) HIF_QR_CTRL_EN = 0 := by
  induction rs generalizing s with
  | nil => cases hr
  | cons x rs ih =>
    rcases List.mem_cons.mp hr with rfl | hmem
    · exact ⟨disableRings_off _ rs _ (getF_setF_zero _ (by decide) (getF_setF_same _ _ _ _ (by decide))),
        disableRings_off _ rs _ (getF_setF_same _ _ _ _ (by decide))⟩
    · exact ih _ hmem

/-- What a HALT shows after its fault, with the rings that it disables: HALTED, the rings off, a message. -/
def showHalt (s : State) (rs : List Nat) : State := eventMsg (disableRings (setF s FLT_STATUS FLT_STATUS_HALTED 1) rs) 0

/-- A HALT after its fault: it is shown, and a snapshot named after a record begins, with the open record to be held. -/
def haltTail (s : State) (forced : Bool) (rs : List Nat) (q : BitVec 32) : State :=
  let u := snapTrigger (showHalt s rs) q true
  { u with flt := { u.flt with haltRec := u.flt.cur.map (fun r => (now u, r)), haltForced := forced } }

/-- The state with the HALT latch set. -/
def latched (s : State) : State := { s with boot := { s.boot with halt := true } }

theorem haltNow_of_not_halted (h : s.boot.halt = false) :
    ∃ q, haltNow s src cause d forced j = haltTail (fault (latched s) src cause 3 j d forced) forced allRings q := by
  rw [haltNow, if_neg (by simp [h])]
  exact ⟨_, rfl⟩

theorem showHalt_flt (rs : List Nat) : (showHalt s rs).flt = s.flt := by simp [showHalt]

theorem snapTrigger_cur (q : BitVec 32) (halt : Bool) :
    (snapTrigger s q halt).flt.cur = s.flt.cur ∧ (snapTrigger s q halt).flt.secFault = s.flt.secFault :=
  ⟨(congrArg Flt.cur (snapTrigger_flt s q halt) :), (congrArg Flt.secFault (snapTrigger_flt s q halt) :)⟩

theorem haltTail_flt (rs : List Nat) (q : BitVec 32) :
    (haltTail s forced rs q).flt.cur = s.flt.cur ∧ (haltTail s forced rs q).flt.secFault = s.flt.secFault :=
  ⟨(snapTrigger_cur _ _ _).1.trans (congrArg Flt.cur (showHalt_flt s rs)),
    (snapTrigger_cur _ _ _).2.trans (congrArg Flt.secFault (showHalt_flt s rs))⟩

theorem haltTail_csr (rs : List Nat) (q : BitVec 32) : (haltTail s forced rs q).csr = (showHalt s rs).csr := snapTrigger_csr ..

theorem haltTail_boot (rs : List Nat) (q : BitVec 32) : (haltTail s forced rs q).boot = s.boot := by simp [haltTail, showHalt]

/-- The registers that a HALT's showing writes. -/
def haltRegs (rs : List Nat) : List Nat := FLT_STATUS :: HIF_MSIX_PEND 4 :: (rs.map HIF_CR_CTRL ++ rs.map HIF_QR_CTRL)

theorem haltTail_csrKept (rs : List Nat) (q : BitVec 32) : CsrKept s (haltTail s forced rs q) (haltRegs rs) := by
  refine CsrKept.of_csr_eq (t := showHalt s rs) ?_ (haltTail_csr ..)
  refine (disableRings_csrKept ((CsrKept.refl s _).after_setF (by simp [haltRegs]) _ _) _ (fun r hr => ?_)).after_eventMsg
    (by simp [haltRegs]) (by decide)
  simp only [haltRegs, List.mem_cons, List.mem_append, List.mem_map]
  exact ⟨.inr (.inr (.inl ⟨r, hr, rfl⟩)), .inr (.inr (.inr ⟨r, hr, rfl⟩))⟩

/-- The rings' control registers are none of the collector's. -/
theorem ring_ne_collector {r k : Nat} (_hr : r < 256) (hk : k = FLT_STATUS ∨ k = HIF_MSIX_PEND 4) :
    HIF_CR_CTRL r ≠ k ∧ HIF_QR_CTRL r ≠ k := by
  simp only [FLT_STATUS, HIF_MSIX_PEND, HIF_CR_CTRL, HIF_QR_CTRL] at *
  omega

theorem reg_disableRings_other {rs : List Nat} {k : Nat} (h : ∀ r ∈ rs, HIF_CR_CTRL r ≠ k ∧ HIF_QR_CTRL r ≠ k) :
    reg (disableRings s rs) k = reg s k := by
  induction rs generalizing s with
  | nil => rfl
  | cons r rs ih =>
    obtain ⟨hcr, hqr⟩ := h r List.mem_cons_self
    rw [disableRings, ih _ (fun x hx => h x (List.mem_cons_of_mem _ hx)), reg_setF_other _ _ _ _ _ hqr.symm,
      reg_setF_other _ _ _ _ _ hcr.symm]

theorem isSet_of_csr_eq {s t : State} (h : t.csr = s.csr) (off : Nat) (f : Fld) : isSet t off f = isSet s off f :=
  congrArg (fun m => fget f (mapGet coldValue m off) == 1) h

theorem haltTail_halted {rs : List Nat} (q : BitVec 32) (hrs : ∀ r ∈ rs, r < 256) :
    isSet (haltTail s forced rs q) FLT_STATUS FLT_STATUS_HALTED = true := by
  rw [isSet_of_csr_eq (haltTail_csr s forced rs q), isSet_iff, getF, showHalt, reg_eventMsg_other _ (by decide) (by decide),
    reg_disableRings_other _ (fun r hr => ring_ne_collector (hrs r hr) (.inl rfl))]
  exact getF_setF_same _ _ _ _ (by decide)

theorem haltTail_ring_off {rs : List Nat} {r : Nat} (q : BitVec 32) (hr : r ∈ rs) (hlt : r < 256) :
    isSet (haltTail s forced rs q) (HIF_CR_CTRL r) HIF_CR_CTRL_EN = false
      ∧ isSet (haltTail s forced rs q) (HIF_QR_CTRL r) HIF_QR_CTRL_EN = false := by
  obtain ⟨hcrne, hqrne⟩ := ring_ne_collector hlt (.inr rfl)
  obtain ⟨hcr, hqr⟩ := disableRings_en (setF s FLT_STATUS FLT_STATUS_HALTED 1) hr
  have hcsr := haltTail_csr s forced rs q
  rw [isSet_of_csr_eq hcsr, isSet_of_csr_eq hcsr, isSet_false_iff, isSet_false_iff, getF, getF, showHalt,
    reg_eventMsg_other _ (by decide) hcrne, reg_eventMsg_other _ (by decide) hqrne, ← getF, ← getF, hcr, hqr]
  exact ⟨Nat.zero_ne_one, Nat.zero_ne_one⟩

theorem mem_allRings {r : Nat} : r ∈ allRings ↔ r < 256 := List.mem_range

/-- A register that neither a HALT nor a ring's switching writes. -/
theorem not_mem_haltRegs {k : Nat} (hstatus : k ≠ FLT_STATUS) (hlow : k < HIF_CR_CTRL 0) : k ∉ haltRegs allRings := by
  simp only [haltRegs, List.mem_cons, List.mem_append, List.mem_map, mem_allRings, HIF_CR_CTRL, HIF_QR_CTRL, HIF_MSIX_PEND] at *
  omega

/-- From the state outside a HALT being kept: every other field is. -/
theorem kept_outside_halt {t : State} (h : outsideHalt t = outsideHalt s) :
    { t with csr := s.csr, out := s.out, flt := s.flt, boot := s.boot } = s :=
  congrArg (fun u : State => { u with csr := s.csr, out := s.out, flt := s.flt, boot := s.boot }) h

/-- A HALT cause of a device that is not halted (R441). -/
theorem haltNow_effect (h : s.boot.halt = false) (hsrc : src < 192) :
    (haltNow s src cause d forced).boot = { s.boot with halt := true }
      ∧ isSet (haltNow s src cause d forced) FLT_STATUS FLT_STATUS_HALTED = true
      ∧ (∀ r : RingId, isSet (haltNow s src cause d forced) (HIF_CR_CTRL r) HIF_CR_CTRL_EN = false
          ∧ isSet (haltNow s src cause d forced) (HIF_QR_CTRL r) HIF_QR_CTRL_EN = false)
      ∧ Raised s (haltNow s src cause d forced) src cause 3 0xFFFF#16 d forced
      ∧ CsrKept s (haltNow s src cause d forced) (faultRegs src 3 ++ haltRegs allRings)
      ∧ { haltNow s src cause d forced with csr := s.csr, out := s.out, flt := s.flt, boot := s.boot } = s := by
  have hframe := kept_outside_halt s (outside_of_haltNow s src cause d forced)
  obtain ⟨q, heq⟩ := haltNow_of_not_halted s src cause 0xFFFF#16 d forced h
  rw [heq] at hframe ⊢
  have hfault := raised_fault (latched s) src cause 3 0xFFFF#16 d forced (by decide) hsrc
  have hregs := fault_csrKept (latched s) src cause 3 0xFFFF#16 d forced
  have hboot : (fault (latched s) src cause 3 0xFFFF#16 d forced).boot = { s.boot with halt := true } := by simp [latched]
  generalize fault (latched s) src cause 3 0xFFFF#16 d forced = u at hframe hfault hregs hboot ⊢
  have htail := haltTail_csrKept u forced allRings q
  obtain ⟨hcur, hsec⟩ := haltTail_flt u forced allRings q
  refine ⟨(haltTail_boot ..).trans hboot, haltTail_halted u forced q (fun r hr => mem_allRings.mp hr),
    fun r => haltTail_ring_off u forced q (mem_allRings.mpr r.isLt) r.isLt, ?_, ?_, hframe⟩
  · exact raised_of_kept src cause 3 0xFFFF#16 d forced hfault (not_mem_haltRegs (by decide) (by decide))
      (not_mem_haltRegs (by simp only [FLT_SRC, FLT_STATUS]; omega) (by simp only [FLT_SRC, HIF_CR_CTRL]; omega))
      ((CsrKept.refl s _).of_csr_eq rfl) rfl rfl htail hcur hsec
  · exact (hregs.mono (List.subset_append_left _ _)).trans (htail.mono (List.subset_append_right _ _))

end Sys2Proof.Proofs
end

section
/-! SUPPORT. Fabric time and its source: FT_PPS edges, holdover, the loss and the return of SYNC (R40–R43, R481). -/
namespace Sys2Proof.Proofs
open Sys2Proof.Machine Sys2Proof.Machine.Claims Sys2Proof.Laws

variable (s : State)

/-! ### Time messages' ports and the peers' offsets (R40) -/

/-- The state agrees with another in the plan and in the links' registers and those above. -/
def SameLinks (s t : State) : Prop := t.sec = s.sec ∧ ∀ o, 0x1000000 ≤ o → reg t o = reg s o

variable {s} in
theorem SameLinks.getF_eq {t : State} (h : SameLinks s t) {o : Nat} (ho : 0x1000000 ≤ o) (f : Fld) : getF t o f = getF s o f :=
  congrArg (fget f) (h.2 o ho)

variable {s} in
theorem SameLinks.portsOf_eq {t : State} (h : SameLinks s t) (b : Nat) : portsOf t b = portsOf s b := by
  have hlanes : ∀ p, portLanes t p = portLanes s p := fun p =>
    congrArg (2 ^ ·) (h.getF_eq (by simp only [pCtrl, LNK_PORT_CTRL]; omega) _)
  have hlow : ∀ k l, lowLanesFrom t b k l = lowLanesFrom s b k l := by
    intro k
    induction k with
    | zero => intro l; rfl
    | succ k ih => intro l; rw [lowLanesFrom, lowLanesFrom, hlanes, ih]
  exact hlow 32 0

variable {s} in
theorem SameLinks.portClass_eq {t : State} (h : SameLinks s t) (p : Nat) : portClass t p = portClass s p :=
  h.getF_eq (by simp only [LNK_BUNDLE_CTRL]; omega) _

variable {s} in
theorem SameLinks.planDir_eq {t : State} (h : SameLinks s t) (p : Nat) : planDir t p = planDir s p := by
  unfold planDir
  rw [h.1, h.portClass_eq, h.portsOf_eq]

variable {s} in
theorem SameLinks.timePorts_eq {t : State} (h : SameLinks s t) : timePorts t = timePorts s := by
  have hstat : ∀ p f, getF t (pStat p) f = getF s (pStat p) f := fun p f =>
    h.getF_eq (by simp only [pStat, LNK_PORT_STATUS]; omega) f
  unfold timePorts portState
  simp only [h.portClass_eq, hstat]
  rw [show portsOf t = portsOf s from funext h.portsOf_eq]

variable {s} in
theorem SameLinks.peerOffsets_eq {t : State} (h : SameLinks s t) (hpeers : t.ftu.peers = s.ftu.peers)
    (hoff : ∀ d, d < 6 → reg t (FTU_PEER_OFFSET d) = reg s (FTU_PEER_OFFSET d)) : peerOffsets t = peerOffsets s := by
  unfold peerOffsets
  simp only [hpeers, h.timePorts_eq, h.planDir_eq]
  refine List.map_congr_left (fun d hd => ?_)
  rw [hoff d (List.mem_range.mp (List.mem_filter.mp hd).1)]

/-! ### FT_PPS edges (R41, R42, R481) -/

/-- The state after an edge at `u` units has been recorded with phase error `p`. -/
def edgeSeen (s : State) (u : Nat) (p : Int) : State :=
  setReg { s with ftu := { s.ftu with ft := max s.ftu.ft u, lastEdge := some u } } FTU_OFFSET (signedWord p)

/-- An edge at `u` units comes less than 100 ns after the last. -/
def edgeShort (s : State) (u : Nat) : Bool := s.ftu.lastEdge.any (fun e => decide (u < e + 100 * 65536))

theorem ppsEdge_eq (u : Nat) (off : Word) : ppsEdge s u off
    = edgeEffect (edgeSeen s u (phaseError ((u : Int) - ppsComp s))) (phaseError ((u : Int) - ppsComp s)) (edgeShort s u) off := by
  cases hedge : s.ftu.lastEdge with
  | none =>
    rw [edgeShort, hedge, Option.any_none, ppsEdge]
    simp only [advanceUnits, hedge]
    rfl
  | some e =>
    rw [edgeShort, hedge, Option.any_some, ppsEdge]
    simp only [advanceUnits, hedge]
    rfl

theorem exec_ftPpsEdge (stamp : Nat) (off : Word) (h : standby s = true) :
    exec (.ftPpsEdge stamp off) s = .next (ppsEdge s (stamp * 8192) off) := by
  show execFtPpsEdge stamp off s = _
  rw [execFtPpsEdge, if_pos h]

theorem edgeShort_iff (u : Nat) : edgeShort s u = true ↔ ∃ e, s.ftu.lastEdge = some e ∧ u < e + 100 * 65536 := by
  rw [edgeShort, Option.any_eq_true]
  simp only [decide_eq_true_eq]

variable (u : Nat) (p : Int)

theorem edgeSeen_csrKept : CsrKept s (edgeSeen s u p) [FTU_OFFSET] :=
  ((CsrKept.refl s _).of_csr_eq rfl).after_setReg List.mem_cons_self _

theorem edgeSeen_sameLinks : SameLinks s (edgeSeen s u p) :=
  ⟨rfl, fun o ho => edgeSeen_csrKept s u p o (by simp only [FTU_OFFSET, List.mem_singleton]; omega)⟩

theorem timeSource_edgeSeen : timeSource (edgeSeen s u p) = timeSource s := (edgeSeen_csrKept s u p).getF_eq (by decide) _
theorem timeValid_edgeSeen : timeValid (edgeSeen s u p) = timeValid s := (edgeSeen_csrKept s u p).isSet_eq (by decide) _
theorem syncLimit_edgeSeen : syncLimit (edgeSeen s u p) = syncLimit s :=
  congrArg (· * 65536) ((edgeSeen_csrKept s u p).getF_eq (by decide) _)

theorem peerOffsets_edgeSeen : peerOffsets (edgeSeen s u p) = peerOffsets s :=
  (edgeSeen_sameLinks s u p).peerOffsets_eq rfl
    (fun d _ => edgeSeen_csrKept s u p _ (by simp only [FTU_OFFSET, FTU_PEER_OFFSET, List.mem_singleton]; omega))

/-- Under FREE an edge has no further effect. -/
theorem edgeEffect_of_free (short : Bool) (off : Word) (h : timeSource s = 0) : edgeEffect s p short off = s := if_pos h

theorem edgeEffect_of_glitch (short : Bool) (off : Word) (hsrc : timeSource s ≠ 0) (hvalid : timeValid s = true)
    (h : short = true ∨ syncLimit s < p.natAbs) :
    edgeEffect s p short off = glitch { s with ftu := { s.ftu with glitches := p :: s.ftu.glitches } } := by
  rw [edgeEffect, if_neg hsrc, if_neg (by simp [hvalid]), if_pos h]

theorem edgeEffect_of_good (off : Word) (hsrc : timeSource s ≠ 0) (hvalid : timeValid s = true)
    (h : p.natAbs ≤ syncLimit s) : edgeEffect s p false off = acceptEdge s off := by
  rw [edgeEffect, if_neg hsrc, if_neg (by simp [hvalid]), if_neg (by simp; omega)]

theorem edgeEffect_of_first (off sec : Word) (hsrc : timeSource s ≠ 0) (hvalid : timeValid s = false)
    (h : s.ftu.seconds = some sec) : edgeEffect s p false off = acquire s sec := by
  rw [edgeEffect, if_neg hsrc, if_pos hvalid, h]
  rfl

/-- An accepted edge: the servo's sample is put to the others, and the measured offset follows from them. -/
theorem acceptEdge_eq (off o : Word) (smp : Option Word) (l : List Word) (hsmp : servoSample s off = smp)
    (hl : l = smp.toList ++ s.ftu.samples) (ho : o = if smp.isSome then Config.servoFilter l else reg s FTU_SRC_OFFSET) :
    acceptEdge s off = setReg (setF { s with ftu := { s.ftu with
      lastGood := s.ftu.ft, glitches := [], holdStart := none,
      inRange := if o.toInt.natAbs ≤ tenNs then s.ftu.inRange + 1 else 0, samples := l } }
        FTU_STATUS FTU_STATUS_HOLDOVER 0) FTU_SRC_OFFSET o := by
  subst hsmp hl ho
  rfl

theorem median_singleton (x : Int) : median [x] = some x := by
  simp [median, insertAsc]

/-- The servo's sample: the PTP offset, the one peer's offset, or none without a peer (R42). -/
theorem servoSample_cases {off : Word} {x : Int} {smp : Option Word}
    (h : (timeSource s = 1 ∧ smp = some off) ∨ (2 ≤ timeSource s ∧ peerOffsets s = [x] ∧ smp = some (signedWord x))
      ∨ (2 ≤ timeSource s ∧ peerOffsets s = [] ∧ smp = none)) : servoSample s off = smp := by
  unfold servoSample
  rcases h with ⟨hsrc, rfl⟩ | ⟨hsrc, hpeer, rfl⟩ | ⟨hsrc, hpeer, rfl⟩
  · rw [if_pos hsrc]
  · rw [if_neg (by omega), hpeer, median_singleton, Option.map_some]
  · rw [if_neg (by omega), hpeer]; rfl

/-! ### The NOTE fault of the time unit -/

/-- The registers that the time unit writes before its NOTE fault. -/
def timeRegs : List Nat := [FTU_OFFSET, FTU_STATUS, HIF_MSIX_PEND 4]

/-- A NOTE fault of the time unit, from the state before the unit's own writes. -/
theorem raised_time_note {s t : State} (h : CsrKept s t timeRegs) (hflt : t.flt = s.flt) :
    Raised { s with ftu := t.ftu } (note t 170 0x0E 0) 170 0x0E 0 0xFFFF 0 := by
  have hs : CsrKept { s with ftu := t.ftu } t timeRegs := h
  exact raised_of_kept 170 0x0E 0 0xFFFF#16 0 false (raised_fault t 170 0x0E 0 0xFFFF#16 0 false (by decide) (by decide))
    (by decide) (by decide) hs hflt rfl (CsrKept.refl _ _) rfl rfl

/-- Registers outside the fault's stay. -/
theorem reg_time_note (t : State) {o : Nat} (ho : o ∉ faultRegs 170 0) : reg (note t 170 0x0E 0) o = reg t o :=
  fault_csrKept t 170 0x0E 0 0xFFFF#16 0 false o ho

theorem time_note_frame {s t : State} (h : { t with csr := s.csr, ftu := s.ftu, flt := s.flt, out := s.out } = s) :
    { note t 170 0x0E 0 with csr := s.csr, ftu := s.ftu, flt := s.flt, out := s.out } = s :=
  (congrArg (fun v : State => { v with csr := s.csr, ftu := s.ftu, flt := s.flt, out := s.out })
    (fault_frame t 170 0x0E 0 0xFFFF#16 0 false)).trans h

/-! ### The loss of SYNC (R42) -/

theorem filterMap_mapErase {α β : Type} (f : Nat × α → Option β) {k : Nat} (h : ∀ v, f (k, v) = none) (m : List (Nat × α)) :
    (mapErase m k).filterMap f = m.filterMap f := by
  induction m with
  | nil => rfl
  | cons e m ih =>
    obtain ⟨j, v⟩ := e
    by_cases hj : j = k
    · subst hj
      rw [mapErase, if_pos rfl, ih, List.filterMap_cons_none (h v)]
    · rw [mapErase, if_neg hj, List.filterMap_cons, List.filterMap_cons, ih]

theorem filterMap_mapInsert {α β : Type} (f : Nat × α → Option β) {k : Nat} (h : ∀ v, f (k, v) = none) (m : List (Nat × α)) (v : α) :
    (mapInsert m k v).filterMap f = m.filterMap f := by
  induction m with
  | nil => exact List.filterMap_cons_none (h v)
  | cons e m ih =>
    obtain ⟨j, w⟩ := e
    unfold mapInsert
    split
    · exact List.filterMap_cons_none (h v)
    · rw [List.filterMap_cons, List.filterMap_cons, ih]

/-- A list drawn from a map's entries but for those of one key stays when that key is written. -/
theorem filterMap_mapSet {α β : Type} [DecidableEq α] (d : Nat → α) (f : Nat × α → Option β) {k : Nat} (h : ∀ v, f (k, v) = none)
    (m : List (Nat × α)) (v : α) : (mapSet d m k v).filterMap f = m.filterMap f := by
  unfold mapSet
  split
  · exact filterMap_mapErase f h m
  · rw [filterMap_mapInsert f h, filterMap_mapErase f h]

/-- A register outside the circuit table is none of a circuit's: the jobs with a schedule stay when it is written. -/
theorem scheduledJobs_setReg {off : Nat} (hoff : ¬ (0x60000 ≤ off ∧ off < 0x70000)) (v : Word) :
    scheduledJobs (setReg s off v) = scheduledJobs s := by
  have hentry : ∀ e : Nat × Word,
      (if 0x60000 ≤ e.1 ∧ e.1 < 0x70000 ∧ (e.1 - 0x60000) % 16 = 0 ∧ isSet (setReg s off v) e.1 HUB_CIRCUIT_VALID = true
        then some (getF (setReg s off v) e.1 HUB_CIRCUIT_JOB_ID) else none)
      = (if 0x60000 ≤ e.1 ∧ e.1 < 0x70000 ∧ (e.1 - 0x60000) % 16 = 0 ∧ isSet s e.1 HUB_CIRCUIT_VALID = true
        then some (getF s e.1 HUB_CIRCUIT_JOB_ID) else none) := by
    intro e
    by_cases he : 0x60000 ≤ e.1 ∧ e.1 < 0x70000
    · have hreg : reg (setReg s off v) e.1 = reg s e.1 := reg_setReg_other _ _ _ _ (by omega)
      have hget : ∀ f, getF (setReg s off v) e.1 f = getF s e.1 f := fun f => congrArg (fget f) hreg
      have hset : ∀ f, isSet (setReg s off v) e.1 f = isSet s e.1 f := fun f => by rw [isSet, hget, isSet]
      rw [hset, hget]
    · rw [if_neg (fun h => he ⟨h.1, h.2.1⟩), if_neg (fun h => he ⟨h.1, h.2.1⟩)]
  have hcsr : (setReg s off v).csr = mapSet coldValue s.csr off v := rfl
  unfold scheduledJobs
  simp only [hentry, hcsr]
  rw [filterMap_mapSet coldValue _ (fun w => if_neg (fun h => hoff ⟨h.1, h.2.1⟩))]
  rfl

theorem scheduledJobs_event_ftu (f : Fld) (i : Nat) : scheduledJobs (event s FTU_STATUS f i) = scheduledJobs s := by
  have hset : scheduledJobs (setF s FTU_STATUS f 1) = scheduledJobs s := scheduledJobs_setReg s (by decide) _
  have hmsix : ∀ v, scheduledJobs (msix (setF s FTU_STATUS f 1) v) = scheduledJobs (setF s FTU_STATUS f 1) := by
    intro v
    unfold msix
    split
    · rfl
    · exact scheduledJobs_setReg _ (by simp only [HIF_MSIX_PEND]; omega) _
  unfold event eventMsg
  split
  · rw [hmsix, hset]
  · exact hset

/-- The time unit after SYNC has been lost. -/
def syncLost (s : State) : State :=
  let t := event (setF s FTU_STATUS FTU_STATUS_SYNC 0) FTU_STATUS FTU_STATUS_UNSYNC_EVENT 1
  { t with ftu := { t.ftu with inRange := 0, glitches := [] } }

/-- Without jobs that have a schedule, no job is stopped. -/
theorem unsync_of_no_job (h : scheduledJobs s = []) : unsync s = syncLost s := by
  have hjobs : scheduledJobs (syncLost s) = [] :=
    ((scheduledJobs_event_ftu _ _ _).trans (scheduledJobs_setReg s (by decide) _)).trans h
  show (if !running (syncLost s) then syncLost s
    else jobFaults (syncLost s) 170 0x0F 0 ((scheduledJobs (syncLost s)).filter (fun j => (job (syncLost s) j).isSome))) = _
  rw [hjobs]
  split <;> rfl

theorem syncLost_effect : isSet (syncLost s) FTU_STATUS FTU_STATUS_SYNC = false
    ∧ getF (syncLost s) FTU_STATUS FTU_STATUS_UNSYNC_EVENT = 1 ∧ (syncLost s).ftu = { s.ftu with inRange := 0, glitches := [] }
    ∧ { syncLost s with csr := s.csr, ftu := s.ftu, out := s.out } = s := by
  have hreg : reg (syncLost s) FTU_STATUS
      = reg (setF (setF s FTU_STATUS FTU_STATUS_SYNC 0) FTU_STATUS FTU_STATUS_UNSYNC_EVENT 1) FTU_STATUS :=
    reg_eventMsg_other _ (by decide) (by decide)
  refine ⟨?_, ?_, ?_, ?_⟩
  · rw [isSet_false_iff, getF, hreg, ← getF, getF_setF_field _ _ _ _ _ (by decide) (by decide), getF_setF_same _ _ _ _ (by decide)]
    decide
  · rw [getF, hreg, ← getF, getF_setF_same _ _ _ _ (by decide)]
    rfl
  · simp [syncLost]
  · exact (congrArg (fun t : State => { t with csr := s.csr, ftu := s.ftu, out := s.out })
      (eventMsg_frame (setF (setF s FTU_STATUS FTU_STATUS_SYNC 0) FTU_STATUS FTU_STATUS_UNSYNC_EVENT 1) 1) :)

end Sys2Proof.Proofs
end

section
/-! SETTLES O39, first part: fabric time follows its source (R40–R43, R481). -/
namespace Sys2Proof.Proofs
open Sys2Proof.Machine Sys2Proof.Machine.Claims Sys2Proof.Laws

variable {s : State} {stamp u : Nat} {p : Int} (off : Word)

/-! ### Edges -/

theorem exec_edge (h : standby s = true) (hu : u = stamp * 8192) (hp : p = phaseError ((u : Int) - ppsComp s)) :
    exec (.ftPpsEdge stamp off) s = .next (edgeEffect (edgeSeen s u p) p (edgeShort s u) off) := by
  subst hu hp
  rw [exec_ftPpsEdge s stamp off h, ppsEdge_eq]

theorem reg_edgeSeen (s : State) (u : Nat) (p : Int) : reg (edgeSeen s u p) FTU_OFFSET = signedWord p := reg_setReg_same ..

theorem edgeShort_of_far (h : FarEdge s u p) : edgeShort s u = false := by
  rw [← Bool.not_eq_true, edgeShort_iff]
  rintro ⟨e, he, hlt⟩
  exact absurd hlt (Nat.not_lt.mpr (h.1 e he))

/-- Under FREE an edge only records its error. -/
theorem edge_under_free (h : standby s = true) (hu : u = stamp * 8192) (hp : p = phaseError ((u : Int) - ppsComp s))
    (hsrc : timeSource s = 0) : ∃ t, exec (.ftPpsEdge stamp off) s = .next t
      ∧ t.ftu = { s.ftu with ft := max s.ftu.ft u, lastEdge := some u } ∧ reg t FTU_OFFSET = signedWord p
      ∧ CsrKept s t [FTU_OFFSET] ∧ { t with csr := s.csr, ftu := s.ftu } = s := by
  refine ⟨edgeSeen s u p, ?_, rfl, reg_edgeSeen s u p, edgeSeen_csrKept s u p, rfl⟩
  rw [exec_edge off h hu hp, edgeEffect_of_free _ _ _ _ ((timeSource_edgeSeen s u p).trans hsrc)]

/-- What the NOTE of the time unit leaves of the registers, the time and the rest. -/
theorem time_note_effect {t : State} (hcsr : CsrKept s t timeRegs) (hflt : t.flt = s.flt)
    (hframe : { t with csr := s.csr, ftu := s.ftu, flt := s.flt, out := s.out } = s) :
    (note t 170 0x0E 0).ftu = t.ftu ∧ Raised { s with ftu := (note t 170 0x0E 0).ftu } (note t 170 0x0E 0) 170 0x0E 0 0xFFFF 0
      ∧ { note t 170 0x0E 0 with csr := s.csr, ftu := s.ftu, flt := s.flt, out := s.out } = s := by
  have hftu : (note t 170 0x0E 0).ftu = t.ftu := by simp
  exact ⟨hftu, hftu ▸ raised_time_note hcsr hflt, time_note_frame hframe⟩

/-- An edge that the time unit ignores, before its NOTE: its error stands, and it is remembered. -/
def glitchSeen (s : State) (u : Nat) (p : Int) : State :=
  event { edgeSeen s u p with ftu := { (edgeSeen s u p).ftu with glitches := p :: s.ftu.glitches } }
    FTU_STATUS FTU_STATUS_PPS_GLITCH 1

theorem glitchSeen_csrKept (s : State) (u : Nat) (p : Int) : CsrKept s (glitchSeen s u p) timeRegs := by
  have hseen : CsrKept s { edgeSeen s u p with ftu := { (edgeSeen s u p).ftu with glitches := p :: s.ftu.glitches } } timeRegs :=
    ((edgeSeen_csrKept s u p).mono (by simp [timeRegs])).of_csr_eq rfl
  exact hseen.after_event (by simp [timeRegs]) (by simp [timeRegs]) _ (by decide)

theorem reg_glitchSeen (s : State) (u : Nat) (p : Int) : reg (glitchSeen s u p) FTU_OFFSET = signedWord p :=
  ((reg_eventMsg_other _ (by decide) (by decide)).trans (reg_setF_other _ _ _ _ _ (by decide))).trans (reg_edgeSeen s u p)

theorem getF_glitchSeen (s : State) (u : Nat) (p : Int) : getF (glitchSeen s u p) FTU_STATUS FTU_STATUS_PPS_GLITCH = 1 :=
  (congrArg (fget FTU_STATUS_PPS_GLITCH) (reg_eventMsg_other _ (by decide) (by decide))).trans
    (getF_setF_same _ _ _ _ (by decide))

theorem glitchSeen_frame (s : State) (u : Nat) (p : Int) :
    { glitchSeen s u p with csr := s.csr, ftu := s.ftu, flt := s.flt, out := s.out } = s :=
  congrArg (fun t : State => { t with csr := s.csr, ftu := s.ftu, flt := s.flt, out := s.out }) (eventMsg_frame
    (setF { edgeSeen s u p with ftu := { (edgeSeen s u p).ftu with glitches := p :: s.ftu.glitches } }
      FTU_STATUS FTU_STATUS_PPS_GLITCH 1) 1)

/-- An edge too soon after the last or too far from its second is a glitch. -/
theorem edge_of_glitch (h : standby s = true) (hu : u = stamp * 8192) (hp : p = phaseError ((u : Int) - ppsComp s))
    (hsrc : timeSource s ≠ 0) (hvalid : timeValid s = true)
    (hbad : (∃ e, s.ftu.lastEdge = some e ∧ u < e + 100 * 65536) ∨ syncLimit s < p.natAbs) :
    ∃ t, exec (.ftPpsEdge stamp off) s = .next t
      ∧ t.ftu = { s.ftu with ft := max s.ftu.ft u, lastEdge := some u, glitches := p :: s.ftu.glitches }
      ∧ reg t FTU_OFFSET = signedWord p ∧ getF t FTU_STATUS FTU_STATUS_PPS_GLITCH = 1
      ∧ Raised { s with ftu := t.ftu } t 170 0x0E 0 0xFFFF 0
      ∧ { t with csr := s.csr, ftu := s.ftu, flt := s.flt, out := s.out } = s := by
  have hexec : exec (.ftPpsEdge stamp off) s = .next (note (glitchSeen s u p) 170 0x0E 0) := by
    rw [exec_edge off h hu hp, edgeEffect_of_glitch _ _ _ _ (by rwa [timeSource_edgeSeen]) (by rwa [timeValid_edgeSeen])
      (by rwa [syncLimit_edgeSeen, edgeShort_iff])]
    rfl
  obtain ⟨hftu, hraised, hframe⟩ := time_note_effect (glitchSeen_csrKept s u p) (by simp [glitchSeen, edgeSeen])
    (glitchSeen_frame s u p)
  refine ⟨_, hexec, hftu.trans (by simp [glitchSeen, edgeSeen]), ?_, ?_, hraised, hframe⟩
  · exact (reg_time_note _ (by decide)).trans (reg_glitchSeen s u p)
  · exact (congrArg (fget FTU_STATUS_PPS_GLITCH) (reg_time_note _ (by decide))).trans (getF_glitchSeen s u p)

/-- An accepted edge ends holdover and gives the servo its sample. -/
theorem edge_accepted {x : Int} {smp : Option Word} {l : List Word} {o : Word} (h : standby s = true) (hu : u = stamp * 8192)
    (hfar : FarEdge s u p) (hvalid : timeValid s = true) (hnear : p.natAbs ≤ syncLimit s)
    (hsmp : (timeSource s = 1 ∧ smp = some off) ∨ (2 ≤ timeSource s ∧ peerOffsets s = [x] ∧ smp = some (signedWord x))
      ∨ (2 ≤ timeSource s ∧ peerOffsets s = [] ∧ smp = none))
    (hl : l = smp.toList ++ s.ftu.samples) (ho : o = if smp.isSome then Config.servoFilter l else reg s FTU_SRC_OFFSET) :
    ∃ t, exec (.ftPpsEdge stamp off) s = .next t
      ∧ t.ftu = { s.ftu with
          ft := max s.ftu.ft u, lastEdge := some u, lastGood := max s.ftu.ft u, glitches := [], holdStart := none,
          inRange := if o.toInt.natAbs ≤ tenNs then s.ftu.inRange + 1 else 0, samples := l }
      ∧ reg t FTU_OFFSET = signedWord p ∧ reg t FTU_SRC_OFFSET = o ∧ getF t FTU_STATUS FTU_STATUS_HOLDOVER = 0
      ∧ CsrKept s t [FTU_OFFSET, FTU_SRC_OFFSET, FTU_STATUS] ∧ { t with csr := s.csr, ftu := s.ftu } = s := by
  have hsrc : timeSource s ≠ 0 := by omega
  have hsample : servoSample (edgeSeen s u p) off = smp :=
    servoSample_cases _ (by rwa [timeSource_edgeSeen, peerOffsets_edgeSeen])
  have hold : o = if smp.isSome then Config.servoFilter l else reg (edgeSeen s u p) FTU_SRC_OFFSET := by
    rw [ho, edgeSeen_csrKept s u p FTU_SRC_OFFSET (by decide)]
  have hexec := exec_edge off h hu hfar.2
  rw [edgeShort_of_far hfar, edgeEffect_of_good _ _ _ (by rwa [timeSource_edgeSeen])
    (by rwa [timeValid_edgeSeen]) (by rwa [syncLimit_edgeSeen]), acceptEdge_eq _ off o smp l hsample hl hold] at hexec
  refine ⟨_, hexec, rfl, ?_, reg_setReg_same .., ?_, ?_, rfl⟩
  · rw [reg_setReg_other _ _ _ _ (by decide), reg_setF_other _ _ _ _ _ (by decide)]
    exact reg_edgeSeen s u p
  · rw [getF, reg_setReg_other _ _ _ _ (by decide)]
    exact getF_setF_same _ _ _ _ (by decide)
  · exact CsrKept.after_setReg (CsrKept.after_setF (((edgeSeen_csrKept s u p).mono (by simp)).of_csr_eq rfl) (by simp) _ _)
      (by simp) _

/-- The first edge after a seconds value is FT's only step. -/
theorem edge_acquires {sec : Word} (h : standby s = true) (hu : u = stamp * 8192) (hfar : FarEdge s u p)
    (hsrc : timeSource s ≠ 0) (hvalid : timeValid s = false) (hsec : s.ftu.seconds = some sec) :
    ∃ t, exec (.ftPpsEdge stamp off) s = .next t
      ∧ t.ftu.ft = ((sec.toNat * secondU : Nat) + ppsComp s).toNat ∧ isSet t FTU_STATUS FTU_STATUS_VALID = true
      ∧ t.ftu.seconds = none ∧ CsrKept s t [FTU_OFFSET, FTU_STATUS] ∧ { t with csr := s.csr, ftu := s.ftu } = s := by
  have hcomp : ppsComp (edgeSeen s u p) = ppsComp s :=
    congrArg (fun n => signed 16 n * 4096) ((edgeSeen_csrKept s u p).getF_eq (by decide) _)
  refine ⟨acquire (edgeSeen s u p) sec, ?_, ?_, ?_, rfl, ?_, rfl⟩
  · rw [exec_edge off h hu hfar.2, edgeShort_of_far hfar, edgeEffect_of_first (edgeSeen s u p) p off sec
      (by rwa [timeSource_edgeSeen]) (by rwa [timeValid_edgeSeen]) hsec]
  · rw [← hcomp]; rfl
  · exact (isSet_iff _ _ _).mpr (getF_setF_same _ _ _ _ (by decide))
  · exact CsrKept.after_setF (((edgeSeen_csrKept s u p).mono (by simp)).of_csr_eq rfl) (by simp) _ _

/-! ### Holdover, and the loss and the return of SYNC -/

/-- The time unit at the beginning of holdover, before its NOTE. -/
def heldOver (s : State) (ft : Nat) : State :=
  setF { s with ftu := { s.ftu with ft := ft, holdStart := some ft } } FTU_STATUS FTU_STATUS_HOLDOVER 1

theorem exec_holdover (h : standby s = true) (hsrc : timeSource s ≠ 0) (hvalid : timeValid s = true)
    (hhold : isSet s FTU_STATUS FTU_STATUS_HOLDOVER = false) : exec .holdover s
      = .next (note (heldOver s (max s.ftu.ft (s.ftu.lastGood + 1001 * 65536 * 1000000))) 170 0x0E 0) := by
  show execHoldover s = _
  rw [execHoldover, if_pos (by simp [h, hsrc, hvalid, hhold])]
  rfl

/-- Holdover begins 1.001 s after the last good edge. -/
theorem holdover_begins (h : standby s = true) (hsrc : timeSource s ≠ 0) (hvalid : timeValid s = true)
    (hhold : isSet s FTU_STATUS FTU_STATUS_HOLDOVER = false) : ∃ t, exec .holdover s = .next t
      ∧ t.ftu.ft = max s.ftu.ft (s.ftu.lastGood + 1001 * 65536 * 1000000) ∧ t.ftu.holdStart = some t.ftu.ft
      ∧ isSet t FTU_STATUS FTU_STATUS_HOLDOVER = true ∧ Raised { s with ftu := t.ftu } t 170 0x0E 0 0xFFFF 0
      ∧ { t with csr := s.csr, ftu := s.ftu, flt := s.flt, out := s.out } = s := by
  refine ⟨_, exec_holdover h hsrc hvalid hhold, ?_⟩
  generalize max s.ftu.ft (s.ftu.lastGood + 1001 * 65536 * 1000000) = ft
  have hcsr : CsrKept s (heldOver s ft) timeRegs := ((CsrKept.refl s _).of_csr_eq rfl).after_setF (by simp [timeRegs]) _ _
  obtain ⟨hftu, hraised, hframe⟩ := time_note_effect hcsr rfl rfl
  refine ⟨congrArg Ftu.ft hftu, ?_, ?_, hraised, hframe⟩
  · rw [hftu]; rfl
  · rw [isSet_iff, getF, reg_time_note _ (by decide)]
    exact getF_setF_same _ _ _ _ (by decide)

/-- A phase jump or an offset beyond the limit loses SYNC. -/
theorem ftUnsync_effect (h : standby s = true) (hsync : isSet s FTU_STATUS FTU_STATUS_SYNC = true) (hjobs : scheduledJobs s = [])
    (hwhy : phaseJump s.ftu.glitches = true ∨ syncLimit s < (reg s FTU_SRC_OFFSET).toInt.natAbs) :
    exec .ftUnsync s = .next (syncLost s) := by
  show execFtUnsync s = _
  rw [execFtUnsync, if_pos (by simp [h, hsync]), if_pos (by simpa using hwhy), unsync_of_no_job s hjobs]

/-- The last of 16 edges within 10 ns sets SYNC. -/
theorem syncAcquired_effect (h : standby s = true) (hsrc : timeSource s ≠ 0) (hvalid : timeValid s = true)
    (hrun : 16 ≤ s.ftu.inRange) : ∃ t, exec .syncAcquired s = .next t ∧ isSet t FTU_STATUS FTU_STATUS_SYNC = true
      ∧ CsrKept s t [FTU_STATUS] ∧ { t.pwr with planned := s.pwr.planned } = s.pwr ∧ { t with csr := s.csr, pwr := s.pwr } = s := by
  have hcsr : (latchPlan (setF s FTU_STATUS FTU_STATUS_SYNC 1)).csr = (setF s FTU_STATUS FTU_STATUS_SYNC 1).csr := by simp
  have hkept : CsrKept s (latchPlan (setF s FTU_STATUS FTU_STATUS_SYNC 1)) [FTU_STATUS] :=
    ((CsrKept.refl s _).after_setF List.mem_cons_self _ _).of_csr_eq hcsr
  refine ⟨latchPlan (setF s FTU_STATUS FTU_STATUS_SYNC 1), ?_, ?_, hkept, ?_, ?_⟩
  · show execSyncAcquired s = _
    rw [execSyncAcquired, if_pos (by simp [h, hsrc, hvalid, hrun])]
  · rw [isSet_of_csr_eq hcsr, isSet_iff]
    exact getF_setF_same _ _ _ _ (by decide)
  · unfold latchPlan; split <;> rfl
  · unfold latchPlan; split <;> rfl

theorem syncAcquired_early (hrun : s.ftu.inRange < 16) : exec .syncAcquired s = .next s := by
  show execSyncAcquired s = _
  rw [execSyncAcquired, if_neg (by simp; omega)]

theorem fabricTimeFollowsItsSource : FabricTimeFollowsItsSource := by
  intro s stamp off u h hu
  refine ⟨fun p hp hsrc => edge_under_free off h hu hp hsrc, fun p hp hsrc hvalid hbad => edge_of_glitch off h hu hp hsrc hvalid hbad,
    fun p x smp l o hfar hvalid hnear hsmp hl ho => edge_accepted off h hu hfar hvalid hnear hsmp hl ho,
    fun p sec hfar hsrc hvalid hsec => edge_acquires off h hu hfar hsrc hvalid hsec,
    fun hsrc hvalid hhold => holdover_begins h hsrc hvalid hhold,
    fun hsync hjobs hwhy => ?_,
    fun hsrc hvalid => ⟨fun hrun => syncAcquired_effect h hsrc hvalid hrun, fun hrun => syncAcquired_early hrun⟩⟩
  exact ⟨_, ftUnsync_effect h hsync hjobs hwhy, syncLost_effect s⟩

end Sys2Proof.Proofs
end

section
/-! SUPPORT. A delivered packet is consumed: its buffer goes back, it is gone, and its stream is counted (R257, R282, R283). -/
namespace Sys2Proof.Proofs
open Sys2Proof.Machine Sys2Proof.Machine.Claims Sys2Proof.Laws

/-! ### What the pool manager and the credits touch -/

/-- Between two states only buffers and credits have moved: the packets, the streams and the registers below the switch core's
stay. -/
def BuffersMoved (s t : State) : Prop :=
  { t with net := s.net, csr := s.csr } = s ∧ t.net.locals = s.net.locals ∧ t.net.streams = s.net.streams
    ∧ ∀ o, o < 0x2000000 → reg t o = reg s o

variable {s t : State}

theorem BuffersMoved.refl (s : State) : BuffersMoved s s := ⟨rfl, rfl, rfl, fun _ _ => rfl⟩

theorem BuffersMoved.trans {u : State} (h : BuffersMoved s t) (h' : BuffersMoved t u) : BuffersMoved s u :=
  ⟨(congrArg (fun v : State => { v with net := s.net, csr := s.csr }) h'.1).trans h.1, h'.2.1.trans h.2.1,
    h'.2.2.1.trans h.2.2.1, fun o ho => (h'.2.2.2 o ho).trans (h.2.2.2 o ho)⟩

theorem buffersMoved_setReg (s : State) {off : Nat} (hoff : 0x2000000 ≤ off) (v : Word) : BuffersMoved s (setReg s off v) :=
  ⟨rfl, rfl, rfl, fun o ho => reg_setReg_other s off o v (by omega)⟩

theorem BuffersMoved.setF (h : BuffersMoved s t) {off : Nat} (hoff : 0x2000000 ≤ off) (f : Fld) (v : Nat) :
    BuffersMoved s (setF t off f v) := h.trans (buffersMoved_setReg t hoff _)

theorem BuffersMoved.bump (h : BuffersMoved s t) {off : Nat} (hoff : 0x2000000 ≤ off) (f : Fld) (v : Nat) :
    BuffersMoved s (bump t off f v) := h.trans (buffersMoved_setReg t hoff _)

/-- The network moves but for its packets and streams. -/
theorem BuffersMoved.with_net (h : BuffersMoved s t) {n : Net} (hlocals : n.locals = t.net.locals)
    (hstreams : n.streams = t.net.streams) : BuffersMoved s { t with net := n } :=
  h.trans ⟨rfl, hlocals, hstreams, fun _ _ => rfl⟩

theorem swc_quota_le (d r pool : Nat) : 0x2000000 ≤ SWC_QUOTA d r pool := by simp only [SWC_QUOTA]; omega
theorem swc_poolStat_le (d pool : Nat) : 0x2000000 ≤ SWC_POOL_STAT d pool := by simp only [SWC_POOL_STAT]; omega
theorem swc_fallback_le (d : Nat) : 0x2000000 ≤ SWC_CNT_FALLBACK d := by simp only [SWC_CNT_FALLBACK]; omega
theorem swc_allocWait_le (d : Nat) : 0x2000000 ≤ SWC_CNT_ALLOC_WAIT d := by simp only [SWC_CNT_ALLOC_WAIT]; omega
theorem swc_status_le (d : Nat) : 0x2000000 ≤ SWC_STATUS d := by simp only [SWC_STATUS]; omega

theorem buffersMoved_clearBit (s : State) (k : Nat) : BuffersMoved s (clearBit s k) := (BuffersMoved.refl s).with_net rfl rfl

theorem buffersMoved_giveBuf (s : State) (d r pool k : Nat) : BuffersMoved s (giveBuf s d r pool k) := by
  unfold giveBuf
  dsimp only
  split
  · exact ((buffersMoved_clearBit s k).setF (swc_quota_le ..) _ _).setF (swc_poolStat_le ..) _ _
  · exact (buffersMoved_clearBit s k).setF (swc_poolStat_le ..) _ _

theorem buffersMoved_takeBuf (s : State) (d r pool : Nat) : BuffersMoved s (takeBuf s d r pool) := by
  have hbit : BuffersMoved s (setBit s d pool) := (BuffersMoved.refl s).with_net rfl rfl
  unfold takeBuf
  dsimp only
  split
  · exact ((hbit.setF (swc_quota_le ..) _ _).setF (swc_poolStat_le ..) _ _).setF (swc_poolStat_le ..) _ _
  · exact (hbit.setF (swc_poolStat_le ..) _ _).setF (swc_poolStat_le ..) _ _

theorem buffersMoved_allocate (s : State) (d r pool : Nat) (credit : Option (Nat × Nat)) :
    BuffersMoved s (allocate s d r pool credit).1 := by
  have hfall : ∀ fb, BuffersMoved s (bump s (SWC_CNT_FALLBACK d) SWC_CNT_FALLBACK_COUNT fb) :=
    fun fb => (BuffersMoved.refl s).bump (swc_fallback_le d) _ _
  unfold allocate
  split
  · dsimp only
    split
    · exact hfall _
    · exact (hfall _).trans (buffersMoved_takeBuf ..)
  · split
    · exact BuffersMoved.refl s
    · exact (((hfall _).bump (swc_allocWait_le d) _ _).setF (swc_status_le d) _ _).with_net rfl rfl

theorem buffersMoved_creditOn (s : State) (p v pool : Nat) : BuffersMoved s (creditOn s p v pool) := by
  unfold creditOn
  split <;> exact (BuffersMoved.refl s).with_net rfl rfl

theorem buffersMoved_grantCredit (s : State) (p v pool : Nat) : BuffersMoved s (grantCredit s p v pool) := by
  have halloc := buffersMoved_allocate s (creditor p).1 (creditor p).2 pool (some (p, v))
  unfold grantCredit
  dsimp only
  split
  · exact (BuffersMoved.refl s).with_net rfl rfl
  · split
    · rename_i t heq
      rwa [heq] at halloc
    · rename_i t q heq
      rw [heq] at halloc
      exact halloc.trans (buffersMoved_creditOn t p v q)

theorem buffersMoved_returnCredit (s : State) (p v twin code : Nat) : BuffersMoved s (returnCredit s p v twin code) := by
  have hgrant := buffersMoved_grantCredit s p v code
  unfold returnCredit
  (repeat' split)
  · exact hgrant
  · exact BuffersMoved.refl s
  · exact (BuffersMoved.refl s).with_net rfl rfl
  · exact (BuffersMoved.refl s).with_net rfl rfl
  · exact BuffersMoved.refl s
  · exact hgrant

theorem buffersMoved_releaseBuf (s : State) (b : Buf) (owner : Option Nat) : BuffersMoved s (releaseBuf s b owner) := by
  have hocc : BuffersMoved s { s with net := { s.net with occ := s.net.occ.erase (bitOf b.die b.pool b.idx) } } :=
    (BuffersMoved.refl s).with_net rfl rfl
  unfold releaseBuf
  dsimp only
  split
  · (repeat' split)
    · exact hocc.with_net rfl rfl
    · exact hocc.trans (buffersMoved_returnCredit ..)
    · exact hocc.trans (buffersMoved_giveBuf ..)
    · exact (hocc.trans (buffersMoved_giveBuf ..)).trans (buffersMoved_returnCredit ..)
  · (repeat' split)
    · exact hocc
    · exact hocc.trans (buffersMoved_clearBit ..)
    · exact hocc.trans (buffersMoved_giveBuf ..)

/-! ### The packet is taken -/

/-- The state without the local packets of a number. -/
def withoutLocal (s : State) (k : Nat) : State := { s with net := { s.net with locals := s.net.locals.filter (fun y => y.no != k) } }

/-- A packet that no unit waits for, and whose buffer it holds: it goes, and its buffer with it. -/
theorem takeLocal_moves {x : Pkt} (hbuf : HoldsBuf s x) (howner : x.owner = none) :
    BuffersMoved (withoutLocal s x.no) (takeLocal s x) := by
  have hgone : takeLocal s x = freePkt (withoutLocal s x.no) x := by
    show packetGone (freePkt (withoutLocal s x.no) x) x = _
    simp only [packetGone, packetLeft, howner]
  rw [hgone, freePkt]
  cases hb : x.buf with
  | none => exact BuffersMoved.refl _
  | some b =>
    have hset : runsHas (withoutLocal s x.no).net.bits (bitOf b.die b.pool b.idx) = true := (hbuf b hb).2.2.2.1
    show BuffersMoved _ (freeBuf (withoutLocal s x.no) b x.owner)
    rw [freeBuf, if_pos hset]
    exact buffersMoved_releaseBuf _ b x.owner

/-- No local packet of a number, none to take. -/
theorem localPkt_eq_none {k : Nat} (h : ∀ y ∈ s.net.locals, y.no ≠ k) : localPkt s k = none := by
  have hfind : s.net.locals.find? (fun y => y.no == k) = none := by
    rw [List.find?_eq_none]
    exact fun y hy => by simpa using h y hy
  rw [localPkt, hfind]

theorem localPkt_no {k : Nat} {x : Pkt} (h : localPkt s k = some x) : x.no = k := by
  unfold localPkt at h
  split at h
  · cases h
  · rename_i y hy
    split at h
    · cases h
      simpa using List.find?_some hy
    · cases h

/-! ### Its stream is counted -/

/-- A stream's entry after its count is put. -/
theorem streamFind_streamPut (s : State) (d : Nat) (st : Stream) {c : Nat} (hc : c ≠ 0) :
    streamFind (streamPut s d st c) d st = some ⟨d, st, c, now s⟩ := by
  have hrest : (s.net.streams.filter (fun e => !(e.die == d && e.st == st))).find? (fun e => e.die == d && e.st == st) = none := by
    rw [List.find?_eq_none]
    intro e he
    simpa [imp_iff_not_or] using (List.mem_filter.mp he).2
  unfold streamFind streamPut
  simp only [hc, false_and, if_false]
  rw [List.find?_append, hrest]
  simp

theorem streamFind_congr (h : t.net.streams = s.net.streams) (d : Nat) (st : Stream) : streamFind t d st = streamFind s d st :=
  congrArg (List.find? (fun e : StreamEnt => e.die == d && e.st == st)) h

theorem streamRoom_congr (h : t.net.streams = s.net.streams) (d : Nat) : streamRoom t d = streamRoom s d := by
  unfold streamRoom; rw [h]

/-- A packet without a fence raises its stream's count. -/
theorem countDelivered_counts {d : Nat} {p : Packet} (hfence : p.fence = false) :
    (∀ e, streamFind s d (streamOf p) = some e →
        streamFind (countDelivered s d p) d (streamOf p) = some ⟨d, streamOf p, e.c + 1, now s⟩)
      ∧ (streamFind s d (streamOf p) = none → streamRoom s d = true →
          streamFind (countDelivered s d p) d (streamOf p) = some ⟨d, streamOf p, 1, now s⟩) := by
  constructor
  · intro e he
    have hput : countDelivered s d p = streamPut s d (streamOf p) (e.c + 1) := by
      simp only [countDelivered, he, hfence, Bool.false_eq_true, if_false]
    rw [hput, streamFind_streamPut s d _ (Nat.succ_ne_zero _)]
  · intro hnone hroom
    have hput : countDelivered s d p = streamPut s d (streamOf p) 1 := by
      simp only [countDelivered, hnone, hroom, hfence, Bool.false_eq_true, if_false, if_true]
    rw [hput, streamFind_streamPut s d _ Nat.one_ne_zero]

/-- What counting a delivery leaves. -/
theorem countDelivered_frame (s : State) (d : Nat) (p : Packet) :
    { countDelivered s d p with net := s.net, csr := s.csr } = s ∧ (countDelivered s d p).net.locals = s.net.locals
      ∧ CsrKept s (countDelivered s d p) [HUB_CNT_FENCE_UNTRACKED, HUB_RT_STATUS] := by
  have hput : ∀ c, { streamPut s d (streamOf p) c with net := s.net, csr := s.csr } = s
      ∧ (streamPut s d (streamOf p) c).net.locals = s.net.locals
      ∧ CsrKept s (streamPut s d (streamOf p) c) [HUB_CNT_FENCE_UNTRACKED, HUB_RT_STATUS] :=
    fun c => ⟨rfl, rfl, (CsrKept.refl s _).of_csr_eq rfl⟩
  unfold countDelivered
  dsimp only
  split
  · exact hput _
  · split
    · split
      · exact ⟨rfl, rfl, CsrKept.refl s _⟩
      · exact hput _
    · exact ⟨rfl, rfl, ((CsrKept.refl s _).after_bump (by simp) _ _).after_setF (by simp) _ _⟩

/-- Releasing the next held packet changes how packets are held, and no more. -/
theorem releaseHeld_frame (s : State) (d : Nat) (st : Stream) :
    { releaseHeld s d st with net := s.net } = s ∧ (releaseHeld s d st).net.streams = s.net.streams
      ∧ ∀ k, (∀ y ∈ s.net.locals, y.no ≠ k) → ∀ y ∈ (releaseHeld s d st).net.locals, y.no ≠ k := by
  unfold releaseHeld
  split
  · exact ⟨rfl, rfl, fun k h => h⟩
  · refine ⟨rfl, rfl, fun k h y hy => ?_⟩
    obtain ⟨z, hz, rfl⟩ := List.mem_map.mp hy
    split <;> exact h z hz

/-- A delivered packet without a fence: it is consumed, and beside the network only the counts of buffers and streams move. -/
theorem deliverLocal_consumes {k : Nat} {x : Pkt} (hx : localPkt s k = some x) (hbuf : HoldsBuf s x) (howner : x.owner = none)
    (hfence : x.p.fence = false) : Consumed s (deliverLocal s x.die x) k x.die x
      ∧ { deliverLocal s x.die x with net := s.net, csr := s.csr } = s
      ∧ ∀ o, o < 0x2000000 → o ≠ HUB_CNT_FENCE_UNTRACKED → o ≠ HUB_RT_STATUS → reg (deliverLocal s x.die x) o = reg s o := by
  have hno := localPkt_no hx
  obtain ⟨houter, hlocals, hstreams, hregs⟩ := takeLocal_moves hbuf howner
  have hack : deliverLocal s x.die x
      = releaseHeld (countDelivered (takeLocal s x) x.die x.p) x.die (streamOf x.p) := by
    simp only [deliverLocal, fenceAck, hfence, Bool.false_and, Bool.false_eq_true, if_false]
  rw [hack]
  generalize takeLocal s x = u at houter hlocals hstreams hregs ⊢
  have hnow : now u = now s := (congrArg now houter :)
  have hframe : { u with net := s.net, csr := s.csr } = s :=
    (congrArg (fun v : State => { v with net := s.net }) houter :)
  obtain ⟨hcount, hroom⟩ := countDelivered_counts (s := u) (d := x.die) hfence
  obtain ⟨hcframe, hclocals, hcregs⟩ := countDelivered_frame u x.die x.p
  generalize countDelivered u x.die x.p = v at hcount hroom hcframe hclocals hcregs ⊢
  obtain ⟨hrframe, hrstreams, hrlocals⟩ := releaseHeld_frame v x.die (streamOf x.p)
  refine ⟨⟨localPkt_eq_none (hrlocals k ?_), fun e he => ?_, fun hnone hfree => ?_⟩, ?_, fun o ho hcnt hstat => ?_⟩
  · intro y hy
    rw [hclocals, hlocals] at hy
    rw [← hno]
    simpa using (List.mem_filter.mp hy).2
  · rw [streamFind_congr hrstreams, hcount e ((streamFind_congr hstreams _ _).trans he), hnow]
  · rw [streamFind_congr hrstreams, hroom ((streamFind_congr hstreams _ _).trans hnone)
      ((streamRoom_congr hstreams _).trans hfree), hnow]
  · calc { releaseHeld v x.die (streamOf x.p) with net := s.net, csr := s.csr }
        = { v with net := s.net, csr := s.csr } := (congrArg (fun w : State => { w with net := s.net, csr := s.csr }) hrframe :)
      _ = { u with net := s.net, csr := s.csr } := (congrArg (fun w : State => { w with net := s.net, csr := s.csr }) hcframe :)
      _ = s := hframe
  · have hrel : reg (releaseHeld v x.die (streamOf x.p)) o = reg v o :=
      (congrArg (fun w : State => mapGet coldValue w.csr o) hrframe :)
    rw [hrel, hcregs o (by simp [hcnt, hstat]), hregs o ho]
    rfl

end Sys2Proof.Proofs
end

section
/-! SETTLES O39, second part, and O39: time messages, and what start-up does with FT (R39, R40, R44, R46, R343, R466, R480). -/
namespace Sys2Proof.Proofs
open Sys2Proof.Machine Sys2Proof.Machine.Claims Sys2Proof.Laws

variable {s : State}

theorem ifRunning_eq (h : running s = true) (t : State) : ifRunning s t = t := if_pos h

/-! ### PTP messages (R39, R343) -/

section
variable {q : Port} (stamp : Nat) (sec : Option Word) (req : Option DelayMech)

/-- The state after a port has timestamped a message. -/
def ptpStamped (s : State) (q : Port) (stamp : Nat) : State := emit (advanceUnits s (stamp * 8192)) (.ptpStamp q stamp)

/-- What a PTP message does on the PTP port: the seconds value, and a delay request where one is due. -/
def ptpTaken (s : State) (q : Port) (sec : Option Word) (req : Option DelayMech) : State :=
  (req.map (Out.delayRequest q)).toList.foldl emit (takeSeconds s sec)

theorem exec_ptpMessage (hrun : running s = true) (heth : portEth s q = true)
    (hen : isSet s (LNK_ETH_CTRL (portBundle q) (portLane q)) LNK_ETH_CTRL_PTP_EN = true) :
    exec (.ptpMessage q stamp sec req) s = .next (if ptpPort s q then ptpTaken (ptpStamped s q stamp) q sec req
      else ptpStamped s q stamp) := by
  show execPtpMessage q stamp sec s req = _
  rw [execPtpMessage, ifRunning_eq hrun, if_pos (show takesPtp s q = true by rw [takesPtp, heth, hen]; rfl)]
  cases req <;> rfl

/-- An Ethernet port without PTP_EN discards the message and counts it. -/
theorem ptpMessage_discarded (hrun : running s = true) (heth : portEth s q = true)
    (hen : isSet s (LNK_ETH_CTRL (portBundle q) (portLane q)) LNK_ETH_CTRL_PTP_EN = false) :
    exec (.ptpMessage q stamp sec req) s
      = .next (bump s (LNK_ETH_DISCARD (portBundle q) (portLane q)) LNK_ETH_DISCARD_FRAMES 1) := by
  show execPtpMessage q stamp sec s req = _
  rw [execPtpMessage, ifRunning_eq hrun, if_neg (show ¬ takesPtp s q = true by rw [takesPtp, hen]; simp), if_pos heth]

theorem takeSeconds_eq (t : State) : takeSeconds t sec = { t with ftu := { t.ftu with
    seconds := if sec.isSome = true ∧ isSet t FTU_STATUS FTU_STATUS_VALID = false then sec else t.ftu.seconds } } := by
  unfold takeSeconds timeValid
  by_cases hsec : sec.isSome = true <;> by_cases hvalid : isSet t FTU_STATUS FTU_STATUS_VALID = true <;> simp [hsec, hvalid]

/-- On the PTP port a message yields the seconds value and is perhaps followed by a delay request. -/
theorem ptpTaken_effect (t : State) : (ptpTaken t q sec req).out = (req.map (Out.delayRequest q)).toList ++ t.out
    ∧ (ptpTaken t q sec req).ftu = { t.ftu with
        seconds := if sec.isSome = true ∧ isSet t FTU_STATUS FTU_STATUS_VALID = false then sec else t.ftu.seconds }
    ∧ { ptpTaken t q sec req with ftu := t.ftu, out := t.out } = t := by
  rw [ptpTaken, takeSeconds_eq]
  cases req <;> exact ⟨rfl, rfl, rfl⟩

end

/-! ### PFP time messages (R40) -/

/-- FT moves on to an instant that a word holds. -/
theorem timeAt_advanceTo (s : State) {ns : Nat} (h : ns < 2 ^ 64) : TimeAt s (advanceTo s (BitVec.ofNat 64 ns)) ns := by
  rw [TimeAt, advanceTo, BitVec.toNat_ofNat, Nat.mod_eq_of_lt h]

theorem exec_pfpTimeSend {ns : Nat} (hrun : running s = true) (hns : ns = ((now s).toNat / 1000000 + 1) * 1000000) :
    exec .pfpTimeSend s = .next (if isSet s FTU_CTRL FTU_CTRL_PFP_TX_EN
      then (timePorts s).foldl sendTime (advanceTo s (BitVec.ofNat 64 ns)) else advanceTo s (BitVec.ofNat 64 ns)) := by
  have hports : timePorts (advanceTo s (BitVec.ofNat 64 ns)) = timePorts s := SameLinks.timePorts_eq ⟨rfl, fun _ _ => rfl⟩
  have hnext : nextMultiple s 1000000 = ns := hns.symm
  show execPfpTimeSend s = _
  rw [execPfpTimeSend, ifRunning_eq hrun, hnext]
  dsimp only
  rw [hports]
  rfl

/-- A time message waits to enter the slice of its port's die. -/
theorem sendTime_effect (t : State) (q : Nat) : (sendTime t q).ftu = t.ftu
    ∧ (∃ y, (sendTime t q).net.outbox = t.net.outbox ++ [y] ∧ y.dest = .port q false ∧ y.die = portDie q
        ∧ y.p = mkPacket { type := 5, vc := 7, origin := 0x0200, birth := (now t).toNat % 2 ^ 40 }
            (toBytes 8 (Config.freeWord t.free).toNat))
    ∧ { sendTime t q with net := t.net, free := t.free } = t :=
  ⟨rfl, ⟨_, rfl, rfl, rfl, rfl⟩, rfl⟩

/-- A packet without a fence, which nothing holds, is handed on. -/
theorem underFence_of_no_fence (s : State) (d : Nat) {x : Pkt} (k : State → State) (hfence : x.p.fence = false) (hhold : x.hold = 0) :
    underFence s d x k = k s := by
  simp [underFence, Pkt.fenced, hfence, hhold]

/-- A time message that has arrived, from a direction of the plan, is consumed and yields the neighbour's offset. -/
theorem timePacket_effect {k : Nat} {d : Fin 6} {off : Word} {x : Pkt} (harr : Arrived s k x 5) (hfence : x.p.fence = false)
    (hdir : x.port.bind (planDir s) = some d.val) (hsrc : getF s FTU_CTRL FTU_CTRL_SRC ≠ 2) :
    ∃ t, exec (.timePacket k d off) s = .next t ∧ Consumed s t k x.die x ∧ reg t (FTU_PEER_OFFSET d) = off
      ∧ t.ftu = { s.ftu with peers := if s.ftu.peers.contains d.val then s.ftu.peers else s.ftu.peers ++ [d.val] }
      ∧ { t with net := s.net, csr := s.csr, ftu := s.ftu } = s := by
  obtain ⟨hrun, hpkt, htype, hstomp, hhold, howner, _, hbuf, _, _⟩ := harr
  have hexec : exec (.timePacket k d off) s = .next (peerOffset (deliverLocal s x.die x) d.val off) := by
    show execTimePacket k d off s = _
    rw [execTimePacket, ifRunning_eq hrun]
    simp only [hpkt, htype, if_true, underFence_of_no_fence s x.die _ hfence hhold, hstomp, hdir, Bool.not_false,
      beq_self_eq_true, Bool.and_self, Bool.false_eq_true, if_false]
  obtain ⟨⟨hgone, hcount, hroom⟩, hframe, hregs⟩ := deliverLocal_consumes hpkt hbuf howner hfence
  generalize deliverLocal s x.die x = u at hexec hgone hcount hroom hframe hregs
  have hctrl : getF u FTU_CTRL FTU_CTRL_SRC = getF s FTU_CTRL FTU_CTRL_SRC :=
    congrArg (fget FTU_CTRL_SRC) (hregs FTU_CTRL (by decide) (by decide) (by decide))
  have hmoved : timeSource (setReg u (FTU_PEER_OFFSET d) off) = timeSource u :=
    congrArg (fget FTU_CTRL_SRC) (reg_setReg_other u _ _ _ (by simp only [FTU_CTRL, FTU_PEER_OFFSET]; omega))
  have hpeer : peerOffset u d.val off = { setReg u (FTU_PEER_OFFSET d) off with ftu := { u.ftu with
      peers := if u.ftu.peers.contains d.val then u.ftu.peers else u.ftu.peers ++ [d.val] } } := by
    have hother : ¬ (timeSource (setReg u (FTU_PEER_OFFSET d) off) = 2 ∧ timeValid (setReg u (FTU_PEER_OFFSET d) off) = false) :=
      fun h => hsrc (hctrl.symm.trans (hmoved.symm.trans h.1))
    exact if_neg hother
  have hftu : u.ftu = s.ftu := (congrArg State.ftu hframe :)
  rw [hpeer] at hexec
  refine ⟨_, hexec, ⟨hgone, hcount, hroom⟩, reg_setReg_same .., ?_, ?_⟩
  · rw [hftu]
  · exact (congrArg (fun v : State => { v with ftu := s.ftu }) hframe :)

/-! ### Start-up and the clock (R44, R46, R466, R480) -/

/-- The reset-alignment edge releases every crossing's pointers. -/
theorem resetAlignment_effect {edge x : Word} (hx : s.boot.aligning = some x) (h : standby s = true) (hle : x.toNat ≤ edge.toNat) :
    ∃ t, exec (.resetAlignment edge) s = .next t ∧ reg t FTU_ALIGN = x ∧ t.boot = { s.boot with aligning := none } ∧ t.aclk = 0
      ∧ TimeAt s t edge.toNat ∧ CsrKept s t [FTU_ALIGN] ∧ { t with csr := s.csr, boot := s.boot, ftu := s.ftu, aclk := s.aclk } = s := by
  have hexec : exec (.resetAlignment edge) s
      = .next { setReg (advanceTo s edge) FTU_ALIGN x with boot := { s.boot with aligning := none }, aclk := 0 } := by
    show execResetAlignment edge s = _
    simp only [execResetAlignment, hx, h, hle, decide_true, Bool.and_self, if_true]
    rfl
  have hkept : CsrKept s (setReg (advanceTo s edge) FTU_ALIGN x) [FTU_ALIGN] :=
    ((CsrKept.refl s _).of_csr_eq rfl).after_setReg List.mem_cons_self _
  exact ⟨_, hexec, reg_setReg_same .., rfl, rfl, rfl, hkept.of_csr_eq rfl, rfl⟩

/-- A logged event on cells that hold writes a record, and takes its number. -/
theorem logEvent_effect (kind code source : Nat) (d : BitVec 32) (h : s.flt.bbBad = []) :
    (logEvent s kind code source d).csr = s.csr ∧ (logEvent s kind code source d).flt.nextSeq = s.flt.nextSeq + 1
      ∧ (logEvent s kind code source d).flt.cur = s.flt.cur ∧ { logEvent s kind code source d with flt := s.flt } = s := by
  obtain ⟨r, _, hr⟩ := logEvent_of_sound s kind code source d h
  rw [hr]
  exact ⟨rfl, rfl, rfl, rfl⟩

/-- READY stands in HUB_BOOT. -/
def readyShown (s : State) : State := setF (setF s HUB_BOOT HUB_BOOT_STEP 15) HUB_BOOT HUB_BOOT_READY 1

/-- READY is logged, as the exit from a warm reset or as a cold start. -/
theorem reportReady_logs (s : State) : ∃ code d, reportReady s = logEvent (readyShown s) 3 code 183 d := by
  unfold reportReady
  dsimp only
  split
  · exact ⟨_, _, rfl⟩
  · exact ⟨_, _, rfl⟩

theorem readyShown_effect (s : State) : getF (readyShown s) HUB_BOOT HUB_BOOT_READY = 1
    ∧ getF (readyShown s) HUB_BOOT HUB_BOOT_STEP = 15 ∧ CsrKept s (readyShown s) [HUB_BOOT]
    ∧ { readyShown s with csr := s.csr } = s :=
  ⟨getF_setF_same _ _ _ _ (by decide),
    (getF_setF_field _ _ _ _ _ (by decide) (by decide)).trans (getF_setF_same _ _ _ _ (by decide)),
    ((CsrKept.refl s _).after_setF List.mem_cons_self _ _).after_setF List.mem_cons_self _ _, rfl⟩

/-- READY is reported, and no more. -/
theorem reportReady_effect (h : s.flt.bbBad = []) : (reportReady s).boot = s.boot
    ∧ isSet (reportReady s) HUB_BOOT HUB_BOOT_READY = true ∧ getF (reportReady s) HUB_BOOT HUB_BOOT_STEP = 15
    ∧ (reportReady s).flt.nextSeq = s.flt.nextSeq + 1 ∧ (reportReady s).flt.cur = s.flt.cur
    ∧ CsrKept s (reportReady s) [HUB_BOOT] ∧ { reportReady s with csr := s.csr, flt := s.flt } = s := by
  obtain ⟨code, d, hlog⟩ := reportReady_logs s
  obtain ⟨hready, h15, hregs, hshown⟩ := readyShown_effect s
  have hflt : (readyShown s).flt = s.flt := (congrArg State.flt hshown :)
  rw [hlog]
  generalize readyShown s = t at hready h15 hregs hshown hflt ⊢
  obtain ⟨hcsr, hseq, hcur, hframe⟩ := logEvent_effect 3 code 183 d (hflt ▸ h)
  have hkept : CsrKept t (logEvent t 3 code 183 d) [] := (CsrKept.refl t _).of_csr_eq hcsr
  refine ⟨(congrArg State.boot hframe).trans (congrArg State.boot hshown :), ?_, ?_, hseq.trans (by rw [hflt]),
    hcur.trans (by rw [hflt]), hregs.of_csr_eq hcsr, ?_⟩
  · rw [isSet_iff, hkept.getF_eq List.not_mem_nil, hready]
  · rw [hkept.getF_eq List.not_mem_nil, h15]
  · exact (congrArg (fun u : State => { u with csr := s.csr, flt := s.flt }) hframe).trans
      (congrArg (fun u : State => { u with flt := s.flt }) hshown :)

/-- An instant that has passed leaves FT where it is. -/
theorem advanceTo_of_past (s : State) {t : Word} (h : t.toNat ≤ (now s).toNat) : advanceTo s t = s := by
  have hmax : max s.ftu.ft (t.toNat * 65536) = s.ftu.ft := by
    have hnow : (now s).toNat ≤ s.ftu.ft / 65536 := (BitVec.toNat_ofNat ..).trans_le (Nat.mod_le ..)
    omega
  rw [advanceTo, hmax]

theorem lastSteps_of_other_step (h12 : getF s HUB_BOOT HUB_BOOT_STEP ≠ 12) (h13 : getF s HUB_BOOT HUB_BOOT_STEP ≠ 13) :
    lastSteps s = s := by
  unfold lastSteps
  simp only [if_neg h12, if_neg h13]

/-- Step 13, whose time is over, ends. -/
theorem lastSteps_of_step13 (h13 : getF s HUB_BOOT HUB_BOOT_STEP = 13) (hover : s.boot.stepAt.toNat + 20000000 ≤ (now s).toNat) :
    lastSteps s = enterStep { s with boot := { s.boot with opened := true, pcieBoot := false } } 14 := by
  have hpast : advanceTo s (s.boot.stepAt + 20000000) = s := by
    refine advanceTo_of_past s ?_
    rw [BitVec.toNat_add]
    exact (Nat.mod_le ..).trans hover
  have h12 : getF s HUB_BOOT HUB_BOOT_STEP ≠ 12 := by omega
  unfold lastSteps
  simp only [if_neg h12, if_pos h13, hpast]
  exact if_pos ⟨h13, .inr (decide_eq_true hover)⟩

/-- The last steps write HUB_BOOT and no other register. -/
theorem lastSteps_csrKept (s : State) : CsrKept s (lastSteps s) [HUB_BOOT] := by
  have h12 : ∀ t, CsrKept s t [HUB_BOOT] → CsrKept s (endStep12 t) [HUB_BOOT] := by
    intro t h
    unfold endStep12
    split
    · exact (h.of_csr_eq rfl).after_setF List.mem_cons_self _ _
    · exact h
  have h13 : ∀ t, CsrKept s t [HUB_BOOT] → CsrKept s (endStep13 t) [HUB_BOOT] := by
    intro t h
    unfold endStep13
    split
    · exact (h.of_csr_eq rfl).after_setF List.mem_cons_self _ _
    · exact h
  have hfirst : CsrKept s (if getF s HUB_BOOT HUB_BOOT_STEP = 12 then endStep12 (advanceTo s (s.boot.stepAt + 63000000)) else s)
      [HUB_BOOT] := by
    split
    · exact h12 _ ((CsrKept.refl s _).of_csr_eq rfl)
    · exact CsrKept.refl s _
  unfold lastSteps
  dsimp only
  generalize (if getF s HUB_BOOT HUB_BOOT_STEP = 12 then endStep12 (advanceTo s (s.boot.stepAt + 63000000)) else s) = t at hfirst ⊢
  split
  · exact h13 _ (hfirst.of_csr_eq rfl)
  · exact hfirst

/-- READY is reported once the last steps have ended at step 14, discovery has its outcomes, and the time is right. -/
theorem exec_ready (hrun : running s = true) : exec .ready s = .next (
    if getF (lastSteps s) HUB_BOOT HUB_BOOT_STEP = 14 ∧ discovered (lastSteps s) = true
      ∧ (isSet (lastSteps s) FTU_STATUS FTU_STATUS_SYNC = true ∨ timeSource (lastSteps s) = 0)
    then reportReady (lastSteps s) else s) := by
  show execReady s = _
  rw [execReady, ifRunning_eq hrun]

/-- READY does not come before its time. -/
theorem ready_waits (hrun : running s = true)
    (h : (isSet s FTU_STATUS FTU_STATUS_SYNC = false ∧ timeSource s ≠ 0) ∨ getF s HUB_BOOT HUB_BOOT_STEP ∉ [12, 13, 14]
      ∨ (getF s HUB_BOOT HUB_BOOT_STEP = 14 ∧ discovered s = false)) : exec .ready s = .next s := by
  rw [exec_ready hrun, if_neg]
  rintro ⟨hstep, hdisc, htime⟩
  rcases h with ⟨hsync, hsrc⟩ | hother | ⟨h14, hnot⟩
  · rw [(lastSteps_csrKept s).isSet_eq (by decide), timeSource, (lastSteps_csrKept s).getF_eq (by decide)] at htime
    rcases htime with hon | hfree
    · rw [hsync] at hon; cases hon
    · exact hsrc hfree
  · simp only [List.mem_cons, List.not_mem_nil, or_false, not_or] at hother
    obtain ⟨h12, h13, h14⟩ := hother
    exact h14 (lastSteps_of_other_step h12 h13 ▸ hstep)
  · rw [lastSteps_of_other_step (by omega) (by omega), hnot] at hdisc
    cases hdisc

theorem discovered_of_no_plan {t : State} (h : t.sec.plan = none) : discovered t = true := by rw [discovered, h]

/-- READY follows once the steps have ended. -/
theorem ready_follows (hrun : running s = true) (hbad : s.flt.bbBad = [])
    (htime : isSet s FTU_STATUS FTU_STATUS_SYNC = true ∨ timeSource s = 0)
    (hstep : (getF s HUB_BOOT HUB_BOOT_STEP = 14 ∧ discovered s = true)
      ∨ (getF s HUB_BOOT HUB_BOOT_STEP = 13 ∧ s.sec.plan = none ∧ s.boot.stepAt.toNat + 20000000 ≤ (now s).toNat)) :
    ∃ t, exec .ready s = .next t ∧ (getF s HUB_BOOT HUB_BOOT_STEP = 13 → t.boot.opened = true)
      ∧ (getF s HUB_BOOT HUB_BOOT_STEP = 14 → t.boot = s.boot)
      ∧ isSet t HUB_BOOT HUB_BOOT_READY = true ∧ (t.boot.porst = false → t.boot.warm = false → (outPins t).devReady = true)
      ∧ getF t HUB_BOOT HUB_BOOT_STEP = 15 ∧ t.flt.nextSeq = s.flt.nextSeq + 1
      ∧ t.flt.cur = s.flt.cur ∧ CsrKept s t [HUB_BOOT] ∧ { t with csr := s.csr, boot := s.boot, flt := s.flt } = s := by
  have hkept := lastSteps_csrKept s
  have hlater : isSet (lastSteps s) FTU_STATUS FTU_STATUS_SYNC = true ∨ timeSource (lastSteps s) = 0 := by
    rwa [hkept.isSet_eq (by decide), timeSource, hkept.getF_eq (by decide)]
  have hready : ∀ u, lastSteps s = u → getF u HUB_BOOT HUB_BOOT_STEP = 14 → discovered u = true →
      exec .ready s = .next (reportReady u) := by
    rintro u rfl h14 hdisc
    rw [exec_ready hrun, if_pos ⟨h14, hdisc, hlater⟩]
  have hpins : ∀ t : State, isSet t HUB_BOOT HUB_BOOT_READY = true → t.boot.porst = false → t.boot.warm = false →
      (outPins t).devReady = true := by
    intro t hset hporst hwarm
    simp only [outPins, hset, hporst, hwarm, Bool.not_false, Bool.and_self]
  rcases hstep with ⟨h14, hdisc⟩ | ⟨h13, hplan, hover⟩
  · obtain ⟨hboot, hset, h15, hseq, hcur, hregs, hframe⟩ := reportReady_effect hbad
    refine ⟨reportReady s, hready s (lastSteps_of_other_step (by omega) (by omega)) h14 hdisc, fun h13 => by omega,
      fun _ => hboot, hset, hpins _ hset, h15, hseq, hcur, hregs, ?_⟩
    exact (congrArg (fun t : State => { t with boot := s.boot }) hframe :)
  · have hlast := lastSteps_of_step13 h13 hover
    have hentered := hready _ hlast (getF_setF_same _ _ _ _ (by decide)) (discovered_of_no_plan hplan)
    rw [hlast] at hkept
    obtain ⟨hboot, hset, h15, hseq, hcur, hregs, hframe⟩ := reportReady_effect
      (s := enterStep { s with boot := { s.boot with opened := true, pcieBoot := false } } 14) hbad
    refine ⟨_, hentered, fun _ => by rw [hboot]; rfl, fun h14 => by omega, hset, hpins _ hset, h15, hseq, hcur,
      hkept.trans hregs, ?_⟩
    exact (congrArg (fun t : State => { t with csr := s.csr, boot := s.boot }) hframe :)

/-- The time unit without its clock. -/
def clockless (s : State) : State :=
  { setF s FTU_STATUS FTU_STATUS_SYNC 0 with
    boot := { s.boot with clockLost := true }, ftu := { s.ftu with inRange := 0 } }

/-- A lost clock halts a running device. -/
theorem clockLost_effect (h : standby s = true) (hup : s.boot.up = true) (hhalt : s.boot.halt = false) :
    ∃ t, exec .clockLost s = .next t
      ∧ t.boot = { s.boot with clockLost := true, halt := true } ∧ isSet t FTU_STATUS FTU_STATUS_SYNC = false
      ∧ isSet t FLT_STATUS FLT_STATUS_HALTED = true ∧ Raised { s with ftu := t.ftu } t 170 0x23 3 0xFFFF 0
      ∧ (∀ r : RingId, isSet t (HIF_CR_CTRL r) HIF_CR_CTRL_EN = false ∧ isSet t (HIF_QR_CTRL r) HIF_QR_CTRL_EN = false)
      ∧ { t with csr := s.csr, boot := s.boot, ftu := s.ftu, flt := s.flt, out := s.out } = s := by
  have hexec : exec .clockLost s = .next (haltNow (clockless s) 170 0x23 0 false) := by
    have hbranch : ((clockless s).boot.up || (clockless s).boot.warm) = true := by
      show (s.boot.up || s.boot.warm) = true
      rw [hup, Bool.true_or]
    show execClockLost s = _
    rw [execClockLost, if_pos h]
    exact congrArg _ (if_pos hbranch)
  obtain ⟨hboot, hhalted, hrings, hraised, hregs, hframe⟩ :=
    haltNow_effect (clockless s) 170 0x23 0 false (show (clockless s).boot.halt = false from hhalt) (by decide)
  generalize haltNow (clockless s) 170 0x23 0 false = t at hexec hboot hhalted hrings hraised hregs hframe
  have hftu : t.ftu = (clockless s).ftu := (congrArg State.ftu hframe :)
  have hclock : CsrKept { s with ftu := t.ftu } (clockless s) [FTU_STATUS] :=
    (CsrKept.after_setF (t := { s with ftu := t.ftu }) (CsrKept.refl _ _) List.mem_cons_self FTU_STATUS_SYNC 0).of_csr_eq rfl
  have hstatus : FTU_STATUS ∉ faultRegs 170 3 ++ haltRegs allRings := by
    rw [List.mem_append, not_or]
    exact ⟨by decide, not_mem_haltRegs (by decide) (by decide)⟩
  refine ⟨t, hexec, hboot, ?_, hhalted, ?_, hrings, ?_⟩
  · rw [hregs.isSet_eq hstatus, isSet_false_iff]
    have hoff : getF (clockless s) FTU_STATUS FTU_STATUS_SYNC = 0 := getF_setF_same _ _ _ _ (by decide)
    rw [hoff]
    decide
  · exact raised_of_kept 170 0x23 3 0xFFFF#16 0 false hraised (by decide) (by decide) hclock rfl
      (congrArg (fun f : Ftu => BitVec.ofNat 64 (f.ft / 65536)) hftu.symm) (CsrKept.refl t _) rfl rfl
  · exact (congrArg (fun v : State => { v with csr := s.csr, boot := s.boot, ftu := s.ftu, flt := s.flt, out := s.out }) hframe :)

theorem timeMessagesAndStartUpOfTime : TimeMessagesAndStartUpOfTime := by
  refine fun s => ⟨fun q stamp sec req hrun heth => ⟨fun hen => ?_, fun hport hen => ?_, fun hport hen => ?_⟩,
    fun ns hrun hns hlt => ⟨fun hoff => ?_, fun q hon hports => ?_⟩,
    fun k d off x harr hfence hdir hsrc => timePacket_effect harr hfence hdir hsrc,
    fun edge x hx h hle => resetAlignment_effect hx h hle,
    fun hrun hbad => ⟨fun htime hstep => ready_follows hrun hbad htime hstep, fun h => ready_waits hrun h⟩,
    fun h hup hhalt => clockLost_effect h hup hhalt⟩
  · exact ⟨_, _, ptpMessage_discarded stamp sec req hrun heth hen, rfl, getF_bump_same _ _ _ _ (by decide),
      (CsrKept.refl s _).after_bump List.mem_cons_self _ _, rfl⟩
  · refine ⟨ptpStamped s q stamp, ?_, rfl, rfl, rfl⟩
    rw [exec_ptpMessage stamp sec req hrun heth hen, hport]
    rfl
  · obtain ⟨hout, hftu, hframe⟩ := ptpTaken_effect (q := q) sec req (ptpStamped s q stamp)
    refine ⟨ptpTaken (ptpStamped s q stamp) q sec req, ?_, hout, hftu, ?_⟩
    · rw [exec_ptpMessage stamp sec req hrun heth hen, if_pos hport]
    · exact (congrArg (fun t : State => { t with ftu := s.ftu, out := s.out }) hframe :)
  · refine ⟨advanceTo s (BitVec.ofNat 64 ns), ?_, timeAt_advanceTo s hlt, rfl⟩
    rw [exec_pfpTimeSend hrun hns, hoff]
    rfl
  · obtain ⟨hftu, ⟨y, hbox, hdest, hdie, hp⟩, hframe⟩ := sendTime_effect (advanceTo s (BitVec.ofNat 64 ns)) q
    have hnow : now (sendTime (advanceTo s (BitVec.ofNat 64 ns)) q) = now (advanceTo s (BitVec.ofNat 64 ns)) := rfl
    refine ⟨sendTime (advanceTo s (BitVec.ofNat 64 ns)) q, y, ?_, hftu.trans (timeAt_advanceTo s hlt), hbox, hdest, hdie,
      hnow ▸ hp, ?_⟩
    · rw [exec_pfpTimeSend hrun hns, if_pos hon, hports]
      rfl
    · exact (congrArg (fun t : State => { t with ftu := s.ftu }) hframe :)

/-- Settles O39: each command's effect is read off the state that it answers. -/
theorem fabricTimeIsKept : Obligations.FabricTimeIsKept := ⟨fabricTimeFollowsItsSource, timeMessagesAndStartUpOfTime⟩

end Sys2Proof.Proofs
end

section
/-! SUPPORT. A completion entry goes to its ring (R394, R395), and what a command's completion says (R393, Table 15.5). -/
namespace Sys2Proof.Proofs
open Sys2Proof.Machine Sys2Proof.Machine.Claims Sys2Proof.Laws

/-! ### Messages sent since an earlier state -/

/-- Between two states messages have only been added. -/
def OutGrows (s t : State) : Prop := ∃ l, t.out = l ++ s.out

variable {s t u : State}

theorem OutGrows.refl (s : State) : OutGrows s s := ⟨[], rfl⟩

theorem OutGrows.of_eq (h : t.out = s.out) : OutGrows s t := ⟨[], h⟩

theorem OutGrows.trans (h : OutGrows s t) (h' : OutGrows t u) : OutGrows s u := by
  obtain ⟨l, hl⟩ := h
  obtain ⟨l', hl'⟩ := h'
  exact ⟨l' ++ l, by rw [hl', hl, List.append_assoc]⟩

theorem outGrows_emit (s : State) (o : Out) : OutGrows s (emit s o) := ⟨[o], rfl⟩

theorem outGrows_msix (s : State) (v : Nat) : OutGrows s (msix s v) := by
  unfold msix
  split
  · exact outGrows_emit s _
  · exact .refl s

theorem outGrows_eventMsg (s : State) (i : Nat) : OutGrows s (eventMsg s i) := by
  unfold eventMsg
  split
  · exact outGrows_msix s _
  · exact .refl s

theorem outGrows_qMessage (s : State) (q : Nat) : OutGrows s (qMessage s q) :=
  (OutGrows.of_eq rfl : OutGrows s (setQring s q _)).trans (outGrows_msix _ _)

/-! ### One entry written -/

/-- The vector of a ring's messages is one of 512, so its pending bit stands in none of the rings' registers. -/
theorem pendReg_ne_qstatus (s : State) (q : Nat) {k : Nat} (hk : k < 256) :
    HIF_QR_STATUS k ≠ HIF_MSIX_PEND (getF s (HIF_QR_CTRL q) HIF_QR_CTRL_VECTOR / 64) := by
  have h : getF s (HIF_QR_CTRL q) HIF_QR_CTRL_VECTOR < 2 ^ 9 := fget_lt HIF_QR_CTRL_VECTOR _
  simp only [HIF_QR_STATUS, HIF_MSIX_PEND]
  omega

theorem reg_qMessage_qstatus (s : State) (q : Nat) {k : Nat} (hk : k < 256) :
    reg (qMessage s q) (HIF_QR_STATUS k) = reg s (HIF_QR_STATUS k) :=
  msix_reg_other _ _ _ (pendReg_ne_qstatus s q hk)

/-- The state once an entry, its TAIL and the signal behind it are written. -/
def entryWritten (s : State) (q : Nat) (c : Cpl) : State :=
  let tail := getF s (HIF_QR_STATUS q) HIF_QR_STATUS_TAIL
  let t := emit (emit s (.hostWrite (entryAddr s q + 8) (c.toWords (now s)).tail))
    (.hostWrite (entryAddr s q) [(c.toWords (now s)).headD 0 ||| b2w (entryPhase s q)])
  let t := setF t (HIF_QR_STATUS q) HIF_QR_STATUS_TAIL (tail + 1)
  let t := emit t (.hostWrite (reg t (HIF_QR_PTR q) + 8) [BitVec.ofNat 64 ((tail + 1) % 2 ^ 32)])
  let t := match c.signal with
    | some (n, v) => objAdd t n v.toNat
    | none => t
  setQring t q { qring t q with
    uncovered := (qring t q).uncovered + 1, holdFirst := some ((qring t q).holdFirst.getD (now t)) }

theorem entryWritten_csr (s : State) (q : Nat) (c : Cpl) :
    (entryWritten s q c).csr
      = (setF s (HIF_QR_STATUS q) HIF_QR_STATUS_TAIL (getF s (HIF_QR_STATUS q) HIF_QR_STATUS_TAIL + 1)).csr := by
  unfold entryWritten
  cases c.signal <;> rfl

theorem entryWritten_out (s : State) (q : Nat) (c : Cpl) : ∃ o : Out, (entryWritten s q c).out =
    [o, .hostWrite (entryAddr s q) [(c.toWords (now s)).headD 0 ||| b2w (entryPhase s q)],
      .hostWrite (entryAddr s q + 8) (c.toWords (now s)).tail] ++ s.out := by
  unfold entryWritten
  cases c.signal <;> exact ⟨_, rfl⟩

/-- Writing an entry is that, and the ring's message when it is due. -/
theorem qWrite_cases (s : State) (q : Nat) (c : Cpl) :
    qWrite s q c = entryWritten s q c ∨ qWrite s q c = qMessage (entryWritten s q c) q := by
  have hphase : (if getF s (HIF_QR_STATUS q) HIF_QR_STATUS_TAIL / qSize s q % 2 = 0 then (1 : Word) else 0)
      = b2w (entryPhase s q) := by
    unfold b2w entryPhase qSize
    simp only [beq_iff_eq]
  unfold qWrite
  dsimp only
  rw [hphase]
  cases hsig : c.signal with
  | none =>
    dsimp only
    split
    · exact .inr (by unfold entryWritten; rw [hsig]; rfl)
    · exact .inl (by unfold entryWritten; rw [hsig]; rfl)
  | some r =>
    dsimp only
    split
    · exact .inr (by unfold entryWritten; rw [hsig]; rfl)
    · exact .inl (by unfold entryWritten; rw [hsig]; rfl)

theorem qWrite_tail (s : State) {q : Nat} (hq : q < 256) (c : Cpl) :
    getF (qWrite s q c) (HIF_QR_STATUS q) HIF_QR_STATUS_TAIL = (getF s (HIF_QR_STATUS q) HIF_QR_STATUS_TAIL + 1) % 2 ^ 32 := by
  have h : getF (entryWritten s q c) (HIF_QR_STATUS q) HIF_QR_STATUS_TAIL
      = (getF s (HIF_QR_STATUS q) HIF_QR_STATUS_TAIL + 1) % 2 ^ 32 := by
    rw [getF, reg, entryWritten_csr]
    exact getF_setF_same _ _ _ _ (by decide)
  rcases qWrite_cases s q c with he | he <;> rw [he]
  · exact h
  · rw [getF, reg_qMessage_qstatus _ _ hq]
    exact h

theorem qWrite_out (s : State) (q : Nat) (c : Cpl) : ∃ l, (qWrite s q c).out = l ++ s.out
    ∧ Out.hostWrite (entryAddr s q + 8) (c.toWords (now s)).tail ∈ l
    ∧ Out.hostWrite (entryAddr s q) [(c.toWords (now s)).headD 0 ||| b2w (entryPhase s q)] ∈ l := by
  obtain ⟨o, ho⟩ := entryWritten_out s q c
  rcases qWrite_cases s q c with he | he <;> rw [he]
  · exact ⟨_, ho, by simp, by simp⟩
  · obtain ⟨l, hl⟩ := outGrows_qMessage (entryWritten s q c) q
    exact ⟨l ++ _, by rw [hl, ho, List.append_assoc], by simp, by simp⟩

/-! ### An entry in line -/

/-- A ring that takes an entry at once writes it and has none waiting. -/
theorem complete_of_takes {q : Nat} (c : Cpl) (h : ringTakes s q = true) :
    complete s q c = setQring (qWrite s q c) q { qring (qWrite s q c) q with waiting := [], polling := false, full := false } := by
  simp only [ringTakes, Bool.and_eq_true, Bool.not_eq_true', decide_eq_true_eq, List.isEmpty_iff] at h
  obtain ⟨⟨⟨⟨hen, hup⟩, hpoll⟩, hwait⟩, hroom⟩ := h
  unfold complete
  simp only [hpoll, hwait, List.nil_append, Bool.false_eq_true, if_false]
  unfold qDrain
  simp only [hen, hup, hroom, Bool.not_true, Bool.or_self, Bool.false_eq_true, if_false, if_true]
  unfold qDrain
  rfl

/-- An entry put in line has gone to its ring, or lined up behind a poll (R394, R395). -/
theorem entered_complete (s : State) {q : Nat} (hq : q < 256) (c : Cpl) : Entered s (complete s q c) q c := by
  have hnow : now (complete s q c) = now s := by simp [now]
  refine ⟨fun h => ?_, fun h => ?_⟩
  · rw [hnow]
    rw [complete_of_takes c h]
    exact ⟨qWrite_tail s hq c, qWrite_out s q c⟩
  · unfold complete
    simp only [h, if_true]
    exact congrArg CplRing.waiting (qring_setQring_same ..)

/-- The registers that say where a ring's entries go. -/
def entryRegs (q : Nat) : List Nat := [HIF_QR_CTRL q, HIF_QR_STATUS q, HIF_QR_BASE q]

/-- The host interface's registers stand below those of the switch core and of the reduction engines. -/
theorem entryRegs_low {q : Nat} (hq : q < 256) : ∀ o ∈ entryRegs q, o < 0x2000000 := by
  simp only [entryRegs, List.mem_cons, List.not_mem_nil, or_false, HIF_QR_CTRL, HIF_QR_STATUS, HIF_QR_BASE]
  rintro o (rfl | rfl | rfl) <;> omega

/-- An entry gone to a ring since a state has gone to it since one that agrees in the ring. -/
theorem entered_of_agree {q : Nat} {c : Cpl} (h : Entered s t q c) (hreg : ∀ o ∈ entryRegs q, reg s o = reg u o)
    (hboot : s.boot = u.boot) (hq : s.qrings = u.qrings) (hout : s.out = u.out) : Entered u t q c := by
  have hctrl : reg s (HIF_QR_CTRL q) = reg u (HIF_QR_CTRL q) := hreg _ (by simp [entryRegs])
  have hstat : reg s (HIF_QR_STATUS q) = reg u (HIF_QR_STATUS q) := hreg _ (by simp [entryRegs])
  have hbase : reg s (HIF_QR_BASE q) = reg u (HIF_QR_BASE q) := hreg _ (by simp [entryRegs])
  have hring : qring s q = qring u q := by unfold qring; rw [hq]
  have htakes : ringTakes s q = ringTakes u q := by
    unfold ringTakes isSet qUsed qSize hostUp getF; rw [hctrl, hstat, hring, hboot]
  have haddr : entryAddr s q = entryAddr u q := by unfold entryAddr getF; rw [hctrl, hstat, hbase]
  have hphase : entryPhase s q = entryPhase u q := by unfold entryPhase getF; rw [hctrl, hstat]
  have htail : getF s (HIF_QR_STATUS q) HIF_QR_STATUS_TAIL = getF u (HIF_QR_STATUS q) HIF_QR_STATUS_TAIL := by
    unfold getF; rw [hstat]
  unfold Entered at h ⊢
  rwa [htakes, haddr, hphase, htail, hring, hout] at h

/-- An entry has gone to its ring, whatever else follows that leaves the ring. -/
theorem entered_andThen {q : Nat} {c : Cpl} (h : Entered s t q c) (hreg : reg u (HIF_QR_STATUS q) = reg t (HIF_QR_STATUS q))
    (hftu : u.ftu = t.ftu) (hq : u.qrings = t.qrings) (hout : OutGrows t u) : Entered s u q c := by
  have hnow : now u = now t := by unfold now; rw [hftu]
  obtain ⟨l, hl⟩ := hout
  refine ⟨fun hr => ?_, fun hp => ?_⟩
  · obtain ⟨htail, l', hl', hbody, hhead⟩ := h.1 hr
    rw [hnow]
    refine ⟨by rw [getF, hreg]; exact htail, l ++ l', by rw [hl, hl', List.append_assoc], ?_, ?_⟩
    · exact List.mem_append_right _ hbody
    · exact List.mem_append_right _ hhead
  · have hring : qring u q = qring t q := by unfold qring; rw [hq]
    rw [hring]
    exact h.2 hp

/-! ### The completion of a command -/

theorem bits_eq_extract (w : Word) (hi lo : Nat) : bits w.toNat hi lo = (w.extractLsb' lo (hi + 1 - lo)).toNat := by
  simp [bits, BitVec.extractLsb'_toNat]

theorem cmdEntry_type (e : CmdEntry) : e.type = (wordAt e.words 0).toNat % 2 ^ 8 := by simp [CmdEntry.type, bits]

theorem cmdEntry_job (e : CmdEntry) : e.job = ((wordAt e.words 0).extractLsb' 16 16).toNat := bits_eq_extract ..

theorem cmdEntry_tag (e : CmdEntry) : e.tag = (wordAt e.words 0).toNat / 2 ^ 32 := by
  have h : (wordAt e.words 0).toNat < 2 ^ 64 := (wordAt e.words 0).isLt
  simp only [CmdEntry.tag, bits, Nat.shiftRight_eq_div_pow]
  omega

/-- Words 0 and 1 of a command's completion: STATUS and DETAIL, and TAG. -/
theorem cmdCpl_words (ring index : Nat) {tag : Nat} (jb : BitVec 16) {status detail : Nat} (serial : Bool) (htag : tag < 2 ^ 64)
    (hstatus : status < 2 ^ 32) (hdetail : detail < 2 ^ 32) :
    (wordAt (cmdCpl ring index tag jb status detail serial).body 0).toNat = status + detail * 2 ^ 32
      ∧ (wordAt (cmdCpl ring index tag jb status detail serial).body 1).toNat = tag := by
  constructor
  · show (BitVec.ofNat 64 (status + detail % 2 ^ 32 * 2 ^ 32)).toNat = _
    rw [BitVec.toNat_ofNat, Nat.mod_eq_of_lt hdetail]
    omega
  · show (BitVec.ofNat 64 tag).toNat = _
    rw [BitVec.toNat_ofNat]
    omega

/-- A completion put in line for a command ends it, on a state that agrees with an earlier one in the rings. -/
theorem cmdEnds_cmdDone {r : RingId} {e : CmdEntry} {status detail : Nat} (serial : Bool) (hstatus : status < 2 ^ 32)
    (hdetail : detail < 2 ^ 32) (hreg : ∀ o, o < 0x2000000 → reg t o = reg s o) (hboot : t.boot = s.boot)
    (hq : t.qrings = s.qrings) (hout : t.out = s.out) : CmdEnds s (cmdDone t r e status detail serial) r e status detail := by
  have hlow : HIF_CR_CTRL r < 0x2000000 := by
    have := r.isLt
    simp only [HIF_CR_CTRL]
    omega
  have hcq : cqOf t r = getF s (HIF_CR_CTRL r) HIF_CR_CTRL_CQ := by unfold cqOf getF; rw [hreg _ hlow]
  have hcqlt : getF s (HIF_CR_CTRL r) HIF_CR_CTRL_CQ < 256 := fget_lt HIF_CR_CTRL_CQ _
  have htag : e.tag < 2 ^ 64 := by
    have h : (wordAt e.words 0).toNat < 2 ^ 64 := (wordAt e.words 0).isLt
    rw [cmdEntry_tag]
    omega
  obtain ⟨hw0, hw1⟩ := cmdCpl_words r e.index.toNat (BitVec.ofNat 16 e.job) serial htag hstatus hdetail
  refine ⟨cmdCpl r e.index.toNat e.tag (BitVec.ofNat 16 e.job) status detail serial, ?_, rfl, ?_, ?_, ?_, hw0, ?_⟩
  · unfold cmdDone
    rw [hcq]
    exact entered_of_agree (entered_complete t hcqlt _) (fun o ho => hreg o (entryRegs_low hcqlt o ho)) hboot hq hout
  · show (BitVec.ofNat 8 r.val).toNat = r.val
    have := r.isLt
    simp only [BitVec.toNat_ofNat]
    omega
  · show BitVec.ofNat 16 e.index.toNat = e.index
    simp
  · show (if BitVec.ofNat 16 e.job = 0 then 0xFFFF#16 else BitVec.ofNat 16 e.job) = _
    rw [cmdEntry_job, shownJob, BitVec.ofNat_toNat, BitVec.setWidth_eq]
    rfl
  · rw [hw1, cmdEntry_tag]

/-! ### A command at the front of its ring -/

theorem dispatch_of_atFront {r : RingId} {e : CmdEntry} {type : Nat} (k : State → CmdEntry → State) (h : AtFront s r e)
    (htype : (wordAt e.words 0).toNat % 2 ^ 8 = type) : dispatch s r type k = k (popEntry s r) e := by
  obtain ⟨hrun, hfront⟩ := h
  unfold dispatch
  simp only [hrun, hfront, cmdEntry_type, htype, if_true]

/-- An entry has left the front of its ring, in any state that has the rings of the one without it. -/
theorem popped_of_crings {r : RingId} (h : t.crings = (popEntry s r).crings) : Popped s t r := by
  have : cring t r = cring (popEntry s r) r := by unfold cring; rw [h]
  rw [Popped, this, popEntry, cring_setCring_same]

theorem cmdEntry_headOk (e : CmdEntry) : e.headOk = true ↔ (wordAt e.words 0).extractLsb' 8 8 = 0 ∧ wordAt e.words 1 = 0 := by
  rw [CmdEntry.headOk, Bool.and_eq_true, beq_iff_eq, beq_iff_eq, bits_eq_extract]
  exact and_congr_left' ⟨fun h => BitVec.eq_of_toNat_eq h, fun h => congrArg BitVec.toNat h⟩

/-- Every word of a command's body has only bits that the command uses. -/
theorem cmdEntry_bodyOk (e : CmdEntry) (mask : Nat → Word) :
    e.bodyOk mask = true ↔ ∀ i, 2 ≤ i → i < 32 → wordAt e.words i &&& ~~~(mask i) = 0 := by
  simp only [CmdEntry.bodyOk, List.all_eq_true, List.mem_range, beq_iff_eq]
  constructor
  · intro h i hlo hhi
    have := h (i - 2) (by omega)
    rwa [show i - 2 + 2 = i by omega] at this
  · exact fun h i hi => h (i + 2) (by omega) (by omega)

/-- A command of the collectives ends with its completion: it has left its queue, its entry has gone to the ring, and beside
what its own operation has written nothing else has changed. -/
theorem cmdDone_after {r : RingId} (e : CmdEntry) {status detail : Nat} (hstatus : status < 2 ^ 32) (hdetail : detail < 2 ^ 32)
    (hframe : { t with coll := s.coll, csr := s.csr } = popEntry s r) (hreg : ∀ o, o < 0x2000000 → reg t o = reg s o) :
    CmdEnds s (cmdDone t r e status detail false) r e status detail
      ∧ Popped s (cmdDone t r e status detail false) r ∧ (cmdDone t r e status detail false).coll = t.coll
      ∧ { cmdDone t r e status detail false with
          coll := s.coll, crings := s.crings, csr := s.csr, qrings := s.qrings, objs := s.objs, out := s.out } = s := by
  refine ⟨cmdEnds_cmdDone false hstatus hdetail hreg (congrArg State.boot hframe :) (congrArg State.qrings hframe :)
    (congrArg State.out hframe :), popped_of_crings ?_, by simp, ?_⟩
  · have h : t.crings = (popEntry s r).crings := (congrArg State.crings hframe :)
    rw [← h]
    simp
  · have h : { cmdDone t r e status detail false with csr := t.csr, out := t.out, qrings := t.qrings, objs := t.objs } = t :=
      complete_frame ..
    calc { cmdDone t r e status detail false with
          coll := s.coll, crings := s.crings, csr := s.csr, qrings := s.qrings, objs := s.objs, out := s.out }
        = { ({ cmdDone t r e status detail false with csr := t.csr, out := t.out, qrings := t.qrings, objs := t.objs } : State) with
            coll := s.coll, crings := s.crings, csr := s.csr, qrings := s.qrings, objs := s.objs, out := s.out } := rfl
      _ = { ({ t with coll := s.coll, csr := s.csr } : State) with
            crings := s.crings, qrings := s.qrings, objs := s.objs, out := s.out } := by rw [h]
      _ = s := by rw [hframe]; rfl

end Sys2Proof.Proofs
end

section
/-! SETTLES O32. GROUP_REG and GROUP_DEREG (R95, R96, R392). -/
namespace Sys2Proof.Proofs
open Sys2Proof.Machine Sys2Proof.Machine.Claims Sys2Proof.Laws

variable {s : State}

/-! ### Conflict sets -/

theorem csetNext_high (i j : Nat) : 0x2000000 ≤ RED_CSET_NEXT i j := by simp only [RED_CSET_NEXT]; omega

/-- Fewer sets than slots leave a slot free. -/
theorem find_free_slot (l : List Cset) {n : Nat} (h : l.length < n) :
    ∃ k, (List.range n).find? (fun k => !(l.any (fun c => c.slot == k))) = some k ∧ k < n := by
  cases hf : (List.range n).find? (fun k => !(l.any (fun c => c.slot == k))) with
  | some k => exact ⟨k, rfl, List.mem_range.mp (List.mem_of_find?_eq_some hf)⟩
  | none =>
    have hsub : List.range n ⊆ l.map Cset.slot := by
      intro k hk
      have := List.find?_eq_none.mp hf k hk
      simpa using this
    have hlen := (List.nodup_range.subperm hsub).length_le
    rw [List.length_range, List.length_map] at hlen
    omega

theorem freeCset_of_room (h : s.coll.csets.length < 1024) : ∃ k, freeCset s = some k ∧ k < 1024 := by
  unfold freeCset
  exact find_free_slot _ h

theorem reg_setReg_csetNext (s : State) (i j : Nat) (v : Word) {o : Nat} (ho : o < 0x2000000) :
    reg (setReg s (RED_CSET_NEXT i j) v) o = reg s o :=
  reg_setReg_other _ _ _ _ (ne_of_lt (lt_of_lt_of_le ho (csetNext_high i j)))

/-- Writing the collectives and a register leaves the rest. -/
theorem setCollReg_frame (s : State) (c : Coll) (off : Nat) (v : Word) :
    { setReg { s with coll := c } off v with coll := s.coll, csr := s.csr } = s := rfl

theorem setCollReg_groups (s : State) (c : Coll) (off : Nat) (v : Word) :
    (setReg { s with coll := c } off v).coll.groups = c.groups := rfl

theorem setCollReg_launches (s : State) (c : Coll) (off : Nat) (v : Word) :
    (setReg { s with coll := c } off v).coll.launches = c.launches := rfl

theorem setCollReg_csets (s : State) (c : Coll) (off : Nat) (v : Word) : (setReg { s with coll := c } off v).coll.csets = c.csets := rfl

/-- A set that joins the table is found there by its job and number. -/
theorem csetOf_append {t : State} {c : Cset} {l : List Cset} (ht : t.coll.csets = l ++ [c])
    (hnone : l.find? (fun y => y.job == c.job && y.id == c.id) = none) : csetOf t c.job c.id = some c := by
  unfold csetOf
  rw [ht, List.find?_append, hnone]
  simp

/-- The state in which a new group's set has joined the table at E = 0. -/
def withNewCset (s : State) (g : Group) (k : Nat) : State :=
  showCset { s with coll := { s.coll with csets := s.coll.csets ++ [⟨k, g.cset, g.job, 0, false, none, 0, none⟩] } }
    ⟨k, g.cset, g.job, 0, false, none, 0, none⟩

theorem enterCset_of_slot {g : Group} {k : Nat} (hc : g.cset ≠ 0xFFFF) (hnone : csetOf s g.job g.cset = none)
    (hk : freeCset s = some k) : enterCset s g = some (withNewCset s g k) := by
  unfold enterCset
  rw [if_neg hc, hnone, hk]
  rfl

/-- A new group's set exists: the table is as it was, or holds one more set at E = 0. -/
theorem enterCset_of_new {g : Group} (hnew : g.cset = 0xFFFF ∨ csetOf s g.job g.cset = none) (hroom : s.coll.csets.length < 1024) :
    ∃ t, enterCset s g = some t ∧ { t with coll := s.coll, csr := s.csr } = s ∧ t.coll.groups = s.coll.groups
      ∧ t.coll.launches = s.coll.launches ∧ (∀ o, o < 0x2000000 → reg t o = reg s o)
      ∧ (g.cset ≠ 0xFFFF → ∃ c, csetOf t g.job g.cset = some c ∧ c.e = 0 ∧ c.broken = false ∧ c.slot < 1024) := by
  by_cases hc : g.cset = 0xFFFF
  · exact ⟨s, if_pos hc, rfl, rfl, rfl, fun _ _ => rfl, fun h => absurd hc h⟩
  · have hnone : csetOf s g.job g.cset = none := hnew.resolve_left hc
    obtain ⟨k, hk, hlt⟩ := freeCset_of_room hroom
    refine ⟨withNewCset s g k, enterCset_of_slot hc hnone hk, setCollReg_frame .., setCollReg_groups ..,
      setCollReg_launches ..,
      fun o ho => reg_setReg_csetNext _ _ _ _ ho, fun _ => ⟨⟨k, g.cset, g.job, 0, false, none, 0, none⟩, ?_, rfl, rfl, hlt⟩⟩
    exact csetOf_append (c := ⟨k, g.cset, g.job, 0, false, none, 0, none⟩) (setCollReg_csets ..) hnone

/-- Tidying a conflict set leaves groups, launches and the registers of other blocks. -/
theorem tidyCset_effect (s : State) (j id : Nat) :
    { tidyCset s j id with coll := s.coll, csr := s.csr } = s ∧ (tidyCset s j id).coll.groups = s.coll.groups
      ∧ (tidyCset s j id).coll.launches = s.coll.launches ∧ ∀ o, o < 0x2000000 → reg (tidyCset s j id) o = reg s o := by
  unfold tidyCset
  split
  · exact ⟨rfl, rfl, rfl, fun _ _ => rfl⟩
  · split
    · exact ⟨rfl, rfl, rfl, fun _ _ => rfl⟩
    · exact ⟨setCollReg_frame .., setCollReg_groups .., setCollReg_launches ..,
        fun o ho => reg_setReg_csetNext _ _ _ _ ho⟩

/-! ### The table of groups -/

/-- Who serves an engine of a new group's map (R96). -/
def placeEngine (s : State) (g : Group) (e : Nat) : Group :=
  if engineUp s e then g
  else match sibling s (e / 4) with
    | some n => { g with moved := mapSet id g.moved e n }
    | none => { g with lost := true }

theorem placeGroup_eq_foldl (s : State) (g : Group) :
    placeGroup s g = ((g.shards.map (fun sh => sh.engineAt g.me)).eraseDups).foldl (placeEngine s) g := rfl

theorem placeEngine_frame (s : State) (g : Group) (e : Nat) : { placeEngine s g e with moved := g.moved, lost := g.lost } = g := by
  unfold placeEngine
  split
  · rfl
  · split <;> rfl

/-- Engines that take no work change who serves a new group, and nothing else of it. -/
theorem placeGroup_frame (s : State) (g : Group) : { placeGroup s g with moved := g.moved, lost := g.lost } = g := by
  rw [placeGroup_eq_foldl]
  generalize ((g.shards.map (fun sh => sh.engineAt g.me)).eraseDups) = l
  induction l generalizing g with
  | nil => rfl
  | cons e l ih =>
    exact (congrArg (fun x : Group => { x with moved := g.moved, lost := g.lost }) (ih (placeEngine s g e))).trans
      (placeEngine_frame s g e)

theorem placeGroup_key (s : State) (g : Group) :
    (placeGroup s g).gid = g.gid ∧ (placeGroup s g).job = g.job ∧ (placeGroup s g).digest = g.digest := by
  have h := placeGroup_frame s g
  exact ⟨(congrArg Group.gid h :), (congrArg Group.job h :), (congrArg Group.digest h :)⟩

/-- The groups of a table but one. -/
def groupsBut (l : List Group) (j k : Nat) : List Group := l.filter (fun y => !(y.job == j && y.gid == k))

theorem find_groupsBut_same (l : List Group) (j k : Nat) :
    (groupsBut l j k).find? (fun x => x.gid == k && x.job == j) = none := by
  simp only [groupsBut, List.find?_eq_none, List.mem_filter, Bool.and_eq_true, beq_iff_eq, Bool.not_eq_true', Bool.and_eq_false_iff,
    beq_eq_false_iff_ne]
  tauto

theorem find_groupsBut_other (l : List Group) {j k j' k' : Nat} (h : (j', k') ≠ (j, k)) :
    (groupsBut l j k).find? (fun x => x.gid == k' && x.job == j') = l.find? (fun x => x.gid == k' && x.job == j') := by
  unfold groupsBut
  rw [List.find?_filter]
  refine List.find?_congr fun x _ => ?_
  have hne : ¬ (x.job = j ∧ x.gid = k ∧ x.gid = k' ∧ x.job = j') :=
    fun ⟨h1, h2, h3, h4⟩ => h (by rw [← h3, ← h4, h1, h2])
  rw [Bool.eq_iff_iff]
  simp only [Bool.and_eq_true, beq_iff_eq, Bool.not_eq_true', Bool.and_eq_false_iff, beq_eq_false_iff_ne, decide_eq_true_eq]
  tauto

/-- A group table with one group put in place of those of its number. -/
theorem groupOf_replaced {t : State} {l : List Group} {g : Group} (ht : t.coll.groups = groupsBut l g.job g.gid ++ [g]) :
    groupOf t g.job g.gid = some g
      ∧ ∀ j k, (j, k) ≠ (g.job, g.gid) → groupOf t j k = l.find? (fun x => x.gid == k && x.job == j) := by
  unfold groupOf
  rw [ht]
  refine ⟨?_, fun j k h => ?_⟩
  · rw [List.find?_append, find_groupsBut_same]
    simp
  · have hg : ¬ (g.gid = k ∧ g.job = j) := fun hc => h (by rw [hc.1, hc.2])
    rw [List.find?_append, find_groupsBut_other l h]
    cases l.find? (fun x => x.gid == k && x.job == j) with
    | some x => rfl
    | none => simp [hg]

/-- A group as its map describes it carries the digest of the map (R95). -/
theorem parseGroup_digest {m : List (BitVec 32)} {g : Group} (h : parseGroup s m = some g) :
    g.digest = sha3 (m.flatMap (fun w => toBytes 4 w.toNat)) := by
  unfold parseGroup at h
  extract_lets h0 h1 h2 nm nr nd ns j devices members shards okTree at h
  split at h
  · cases h
  · split at h
    · cases h
    · rename_i me _
      split at h
      · have hg := Option.some.inj h
        rw [← hg]
      · cases h

/-! ### What a group's map is checked against -/

variable {t : State}

theorem getF_of_csr_eq (h : t.csr = s.csr) (off : Nat) (f : Fld) : getF t off f = getF s off f :=
  congrArg (fun m => fget f (mapGet coldValue m off)) h

theorem jobEntry_of_csr_eq (h : t.csr = s.csr) (j : Nat) : jobEntry t j = jobEntry s j := by
  simp only [jobEntry, jobEntries, h, isSet_of_csr_eq h, getF_of_csr_eq h]

theorem translate_of_csr_eq (h : t.csr = s.csr) (j r : Nat) : Machine.translate t j r = Machine.translate s j r := by
  simp only [Machine.translate, jobEntry_of_csr_eq h, isSet_of_csr_eq h, getF_of_csr_eq h]

theorem parseGroup_of_csr_eq (h : t.csr = s.csr) (m : List (BitVec 32)) : parseGroup t m = parseGroup s m := by
  simp only [parseGroup, translate_of_csr_eq h]

theorem vcEnabled_of_csr_eq (h : t.csr = s.csr) (j v : Nat) : vcEnabled t j v = vcEnabled s j v := by
  simp only [vcEnabled, jobEntry_of_csr_eq h, getF_of_csr_eq h]

/-! ### GROUP_REG -/

variable {r : RingId} {e : CmdEntry}

/-- A GROUP_REG is dispatched when its entry is well formed and its job is admitted. -/
theorem groupReg_entryOk (hbody : ∀ i, i ≠ 2 → i ≠ 3 → i < 32 → 2 ≤ i → wordAt e.words i = 0) :
    e.bodyOk (fun i => if i = 2 ∨ i = 3 then BitVec.allOnes 64 else 0) = true := by
  rw [cmdEntry_bodyOk]
  intro i hlo hhi
  by_cases hi : i = 2 ∨ i = 3
  · simp [hi]
  · rw [not_or] at hi
    rw [hbody i hi.1 hi.2 hhi hlo]
    exact BitVec.zero_and

theorem exec_groupReg_none {jb : Job} (hat : AtFront s r e) (htype : (wordAt e.words 0).toNat % 2 ^ 8 = 6) (hhead : e.headOk = true)
    (hbody : ∀ i, i ≠ 2 → i ≠ 3 → i < 32 → 2 ≤ i → wordAt e.words i = 0) (hjob : job s e.job = some jb) :
    exec (.groupReg r none) s = .next (cmdDone (popEntry s r) r e 0x02 0 false) := by
  have hjob' : job (popEntry s r) e.job = some jb := hjob
  show execGroupReg r none s = _
  rw [execGroupReg, dispatch_of_atFront _ hat htype]
  simp only [hhead, groupReg_entryOk hbody, hjob', Option.isNone_some, Bool.not_true, Bool.or_self, Bool.false_eq_true, if_false]

/-- Its map registers a group, or gives the status with which the command completes. (`registerGroup` is hidden from the kernel,
which would run it to compare the branches of the match on its result.) -/
theorem exec_groupReg_some {jb : Job} {m : List (BitVec 32)} {st : Nat} {t : State} (hat : AtFront s r e)
    (htype : (wordAt e.words 0).toNat % 2 ^ 8 = 6) (hhead : e.headOk = true)
    (hbody : ∀ i, i ≠ 2 → i ≠ 3 → i < 32 → 2 ≤ i → wordAt e.words i = 0) (hjob : job s e.job = some jb)
    (hregister : registerGroup (popEntry s r) e.job (m.take ((wordAt e.words 3).toNat / 4)) = (st, t)) :
    exec (.groupReg r (some m)) s = .next (cmdDone t r e st 0 false) := by
  have hjob' : job (popEntry s r) e.job = some jb := hjob
  show execGroupReg r (some m) s = _
  rw [execGroupReg, dispatch_of_atFront _ hat htype]
  obtain ⟨f, hf⟩ : ∃ f, f = @registerGroup := ⟨_, rfl⟩
  rw [← hf] at hregister ⊢
  simp only [hhead, groupReg_entryOk hbody, hjob', Option.isNone_some, Bool.not_true, Bool.or_self, Bool.false_eq_true, if_false,
    hregister]

/-- A map that breaks R95 registers nothing. (The equation is taken of the whole function: to compare one application with its
body, the kernel would run `parseGroup`.) -/
theorem registerGroup_of_none {j : Nat} {m : List (BitVec 32)} (h : parseGroup s m = none) : registerGroup s j m = (0x01, s) := by
  have heq : @registerGroup = @registerGroup := rfl
  conv at heq =>
    rhs
    delta registerGroup
  rw [heq]
  beta_reduce
  rw [h]

/-- The state with a group put in place of those of its number, the launches of an earlier one forgotten. -/
def withGroup (s t : State) (g : Group) : State :=
  { t with coll := { t.coll with
      groups := groupsBut s.coll.groups g.job g.gid ++ [placeGroup t g],
      done := t.coll.done.filter (fun d => !(d.job == g.job && d.gid == g.gid)) } }

/-- A map that fits its job registers its group beside its conflict set (R95, R96). -/
theorem registerGroup_of_some {g : Group} {m : List (BitVec 32)} {t : State} (h : parseGroup s m = some g)
    (hvc : vcEnabled s g.job g.vc = true) (halone : g.cset = 0xFFFF → ∀ y ∈ s.coll.groups, y.job = g.job → y.gid = g.gid)
    (hroom : s.coll.groups.length < 4096) (ht : enterCset s g = some t) : registerGroup s g.job m = (0, withGroup s t g) := by
  have halone' : ¬ (g.cset = 0xFFFF ∧ s.coll.groups.any (fun y => y.job == g.job && y.gid != g.gid) = true) := by
    rintro ⟨hc, hany⟩
    obtain ⟨y, hy, hne⟩ := List.any_eq_true.mp hany
    rw [Bool.and_eq_true, beq_iff_eq, bne_iff_ne] at hne
    exact hne.2 (halone hc y hy hne.1)
  have hlen : ¬ 4096 ≤ (s.coll.groups.filter (fun y => !(y.job == g.job && y.gid == g.gid))).length := by
    have := List.length_filter_le (fun y : Group => !(y.job == g.job && y.gid == g.gid)) s.coll.groups
    omega
  have hfits : ¬ (g.job ≠ g.job ∨ vcEnabled s g.job g.vc = false) := by simp [hvc]
  have heq : @registerGroup = @registerGroup := rfl
  conv at heq =>
    rhs
    delta registerGroup
  rw [heq]
  beta_reduce
  rw [h]
  dsimp only
  rw [if_neg hfits, if_neg halone', if_neg hlen, ht]
  rfl

/-- What GROUP_REG does for a group whose set is new: the group stands, its set at E = 0, and the launches are as they were. -/
theorem groupReg_registers {j : Nat} {g : Group} {m : List (BitVec 32)} (h : parseGroup s m = some g) (hj : g.job = j)
    (hvc : vcEnabled s j g.vc = true) (halone : g.cset = 0xFFFF → ∀ y ∈ s.coll.groups, y.job = j → y.gid = g.gid)
    (hroom : s.coll.groups.length < 4096) (hnew : g.cset = 0xFFFF ∨ csetOf s j g.cset = none)
    (hslots : s.coll.csets.length < 1024) :
    ∃ t, registerGroup s j m = (0, t) ∧ { t with coll := s.coll, csr := s.csr } = s ∧ (∀ o, o < 0x2000000 → reg t o = reg s o)
      ∧ t.coll.launches = s.coll.launches
      ∧ (∃ g', groupOf t j g.gid = some g' ∧ { g' with moved := g.moved, lost := g.lost } = g ∧ g'.digest = g.digest)
      ∧ (∀ j' k, (j', k) ≠ (j, g.gid) → groupOf t j' k = groupOf s j' k)
      ∧ (g.cset ≠ 0xFFFF → ∃ c, csetOf t j g.cset = some c ∧ c.e = 0 ∧ c.broken = false ∧ c.slot < 1024) := by
  subst hj
  obtain ⟨t, ht, hframe, _, hlaunches, hreg, hset⟩ := enterCset_of_new hnew hslots
  obtain ⟨hgid, hjob, hdigest⟩ := placeGroup_key t g
  have hgroups : (withGroup s t g).coll.groups
      = groupsBut s.coll.groups (placeGroup t g).job (placeGroup t g).gid ++ [placeGroup t g] := by
    rw [hgid, hjob]
    rfl
  obtain ⟨hsame, hother⟩ := groupOf_replaced hgroups
  rw [hgid, hjob] at hsame hother
  exact ⟨withGroup s t g, registerGroup_of_some h hvc halone hroom ht, hframe, hreg, hlaunches,
    ⟨placeGroup t g, hsame, placeGroup_frame t g, hdigest⟩, hother, hset⟩

/-! ### GROUP_DEREG -/

/-- A word below 2¹⁶ has only the bits of a GROUP_ID. -/
theorem and_not_ffff {w : Word} (h : w.toNat < 2 ^ 16) : w &&& ~~~(0xFFFF : Word) = 0 := by
  apply BitVec.eq_of_getLsbD_eq
  intro i hi
  rw [BitVec.getLsbD_and, BitVec.getLsbD_not]
  by_cases hlow : i < 16
  · have hbit : (0xFFFF : Word).getLsbD i = true := by
      rw [show (0xFFFF : Word) = BitVec.ofNat 64 (2 ^ 16 - 1) from rfl, BitVec.getLsbD_ofNat, Nat.testBit_two_pow_sub_one]
      simp [hi, hlow]
    simp only [hbit, Bool.not_true, Bool.and_false]
    exact BitVec.getLsbD_zero.symm
  · have hzero : w.getLsbD i = false := by
      rw [← BitVec.testBit_toNat]
      exact Nat.testBit_lt_two_pow (lt_of_lt_of_le h (Nat.pow_le_pow_right (by decide) (by omega)))
    simp only [hzero, Bool.false_and]
    exact BitVec.getLsbD_zero.symm

/-- A GROUP_DEREG whose entry is well formed and whose job is admitted looks its group up. -/
theorem exec_groupDereg {jb : Job} (hat : AtFront s r e) (htype : (wordAt e.words 0).toNat % 2 ^ 8 = 7) (hhead : e.headOk = true)
    (hgid : (wordAt e.words 2).toNat < 2 ^ 16) (hbody : ∀ i, 2 < i → i < 32 → wordAt e.words i = 0) (hjob : job s e.job = some jb) :
    exec (.groupDereg r) s = .next (match groupOf s e.job (bits (wordAt e.words 2).toNat 15 0) with
      | none => cmdDone (popEntry s r) r e 0x01 0 false
      | some g =>
        if s.coll.launches.any (fun x => x.job == e.job && x.gid == bits (wordAt e.words 2).toNat 15 0) then
          cmdDone (popEntry s r) r e 0x06 0 false
        else cmdDone (tidyCset { popEntry s r with coll := { s.coll with
          groups := groupsBut s.coll.groups e.job (bits (wordAt e.words 2).toNat 15 0) } } e.job g.cset) r e 0 0 false) := by
  have hok : e.bodyOk (fun i => if i = 2 then 0xFFFF else 0) = true := by
    rw [cmdEntry_bodyOk]
    intro i hlo hhi
    by_cases hi : i = 2
    · subst hi
      exact and_not_ffff hgid
    · rw [hbody i (by omega) hhi]
      exact BitVec.zero_and
  have hjob' : job (popEntry s r) e.job = some jb := hjob
  show execGroupDereg r s = _
  rw [execGroupDereg, dispatch_of_atFront _ hat htype]
  simp only [hhead, hok, hjob', Option.isNone_some, Bool.not_true, Bool.or_self, Bool.false_eq_true, if_false]
  rfl

/-! ### Both commands -/

/-- The state without the front entry, as the commands' completions find it. -/
theorem popEntry_agrees (s : State) (r : RingId) :
    { popEntry s r with coll := s.coll, csr := s.csr } = popEntry s r ∧ ∀ o, o < 0x2000000 → reg (popEntry s r) o = reg s o :=
  ⟨rfl, fun _ _ => rfl⟩

/-- A command of the collectives that only completes. -/
theorem completes_only (s : State) (r : RingId) (e : CmdEntry) {status : Nat} (hstatus : status < 2 ^ 32) :
    CmdEnds s (cmdDone (popEntry s r) r e status 0 false) r e status 0 ∧ Popped s (cmdDone (popEntry s r) r e status 0 false) r
      ∧ (cmdDone (popEntry s r) r e status 0 false).coll = s.coll := by
  obtain ⟨hends, hpopped, hcoll, _⟩ := cmdDone_after e hstatus (detail := 0) (by decide) (popEntry_agrees s r).1 (popEntry_agrees s r).2
  exact ⟨hends, hpopped, hcoll⟩

theorem groupReg_settles (r : RingId) (s : State) (e : CmdEntry) (j : Nat) (hat : AtFront s r e) (hj : e.job = j)
    (m : List (BitVec 32)) (g : Group) (jb : Job) (htype : (wordAt e.words 0).toNat % 2 ^ 8 = 6) (hhead : e.headOk = true)
    (hbody : ∀ i, i ≠ 2 → i ≠ 3 → i < 32 → 2 ≤ i → wordAt e.words i = 0) (hjob : job s j = some jb)
    (hparse : parseGroup s (m.take ((wordAt e.words 3).toNat / 4)) = some g) (hgj : g.job = j) (hvc : vcEnabled s j g.vc = true)
    (halone : g.cset = 0xFFFF → ∀ y ∈ s.coll.groups, y.job = j → y.gid = g.gid) (hroom : s.coll.groups.length < 4096)
    (hnew : g.cset = 0xFFFF ∨ csetOf s j g.cset = none) (hslots : s.coll.csets.length < 1024) :
    ∃ t g', exec (.groupReg r (some m)) s = .next t ∧ CmdEnds s t r e 0 0 ∧ Popped s t r
      ∧ groupOf t j g.gid = some g' ∧ { g' with moved := g.moved, lost := g.lost } = g
      ∧ g'.digest = sha3 ((m.take ((wordAt e.words 3).toNat / 4)).flatMap (fun w => toBytes 4 w.toNat))
      ∧ (∀ j' k, (j', k) ≠ (j, g.gid) → groupOf t j' k = groupOf s j' k)
      ∧ (g.cset ≠ 0xFFFF → ∃ c, csetOf t j g.cset = some c ∧ c.e = 0 ∧ c.broken = false ∧ c.slot < 1024)
      ∧ t.coll.launches = s.coll.launches
      ∧ { t with
          coll := s.coll, crings := s.crings, csr := s.csr, qrings := s.qrings, objs := s.objs, out := s.out } = s := by
  subst hj
  have hcsr : (popEntry s r).csr = s.csr := rfl
  obtain ⟨t1, hregister, hframe, hreg, hlaunches, ⟨g', hg', hkept, hdigest⟩, hothers, hset⟩ :=
    groupReg_registers (s := popEntry s r) (by rwa [parseGroup_of_csr_eq hcsr]) hgj (by rwa [vcEnabled_of_csr_eq hcsr])
      halone hroom hnew hslots
  obtain ⟨hends, hpopped, hcoll, hall⟩ := cmdDone_after (s := s) (t := t1) (r := r) e (status := 0) (detail := 0) (by decide) (by decide)
    hframe hreg
  refine ⟨cmdDone t1 r e 0 0 false, g', ?_, hends, hpopped, ?_, hkept, ?_, ?_, ?_, ?_, hall⟩
  · exact exec_groupReg_some hat htype hhead hbody hjob hregister
  · rw [groupOf, hcoll]
    exact hg'
  · rw [hdigest, parseGroup_digest hparse]
  · intro j' k hne
    rw [groupOf, hcoll]
    exact hothers j' k hne
  · intro hc
    rw [csetOf, hcoll]
    exact hset hc
  · rw [hcoll, hlaunches]
    rfl

theorem groupDereg_removes {j k : Nat} {g : Group} {jb : Job} (hat : AtFront s r e) (hj : e.job = j)
    (htype : (wordAt e.words 0).toNat % 2 ^ 8 = 7) (hhead : e.headOk = true) (hk : bits (wordAt e.words 2).toNat 15 0 = k)
    (hgid : (wordAt e.words 2).toNat < 2 ^ 16) (hbody : ∀ i, 2 < i → i < 32 → wordAt e.words i = 0) (hjob : job s j = some jb)
    (hg : groupOf s j k = some g) (hidle : ∀ x ∈ s.coll.launches, ¬ (x.job = j ∧ x.gid = k)) :
    ∃ t, exec (.groupDereg r) s = .next t ∧ CmdEnds s t r e 0 0 ∧ Popped s t r
      ∧ groupOf t j k = none ∧ (∀ j' k', (j', k') ≠ (j, k) → groupOf t j' k' = groupOf s j' k')
      ∧ t.coll.launches = s.coll.launches
      ∧ { t with
          coll := s.coll, crings := s.crings, csr := s.csr, qrings := s.qrings, objs := s.objs, out := s.out } = s := by
  subst hj hk
  obtain ⟨hframe, hgroups, hlaunches, hreg⟩ := tidyCset_effect
    { popEntry s r with coll := { s.coll with
        groups := groupsBut s.coll.groups e.job (bits (wordAt e.words 2).toNat 15 0) } } e.job g.cset
  have hnobody : s.coll.launches.any (fun x => x.job == e.job && x.gid == bits (wordAt e.words 2).toNat 15 0) = false := by
    rw [List.any_eq_false]
    intro x hx
    rw [Bool.and_eq_true, beq_iff_eq, beq_iff_eq]
    exact hidle x hx
  have hexec := exec_groupDereg hat htype hhead hgid hbody hjob
  rw [hg] at hexec
  dsimp only at hexec
  rw [hnobody, if_neg Bool.false_ne_true] at hexec
  generalize tidyCset _ e.job g.cset = t1 at hframe hgroups hlaunches hreg hexec
  have hframe' : { t1 with coll := s.coll, csr := s.csr } = popEntry s r :=
    (congrArg (fun t : State => { t with coll := s.coll, csr := s.csr }) hframe :)
  obtain ⟨hends, hpopped, hcoll, hall⟩ := cmdDone_after (s := s) (t := t1) (r := r) e (status := 0) (detail := 0) (by decide) (by decide)
    hframe' hreg
  refine ⟨_, hexec, hends, hpopped, ?_, fun j' k' hne => ?_, ?_, hall⟩
  · rw [groupOf, hcoll, hgroups]
    exact find_groupsBut_same ..
  · rw [groupOf, hcoll, hgroups]
    exact find_groupsBut_other _ hne
  · rw [hcoll, hlaunches]

/-- Settles O32: each status of the two commands, and what a registration and a removal leave in the tables. -/
theorem groupsAreRegisteredAndRemoved : Obligations.GroupsAreRegisteredAndRemoved := by
  intro r s e j hat hj
  rw [← cmdEntry_job] at hj
  refine ⟨fun m g jb htype hhead hbody hjob => ⟨?_, fun hnone => ?_, fun hparse hgj hvc halone hroom hnew hslots _ => ?_⟩,
    fun jb k htype hhead hk hgid hbody hjob => ⟨fun hnone => ?_, fun g hg => ⟨fun hbusy => ?_, fun hidle _ => ?_⟩⟩⟩
  · exact ⟨_, exec_groupReg_none hat htype hhead hbody (hj ▸ hjob), completes_only s r e (by decide)⟩
  · refine ⟨_, exec_groupReg_some (t := popEntry s r) hat htype hhead hbody (hj ▸ hjob) (registerGroup_of_none ?_),
      completes_only s r e (by decide)⟩
    rwa [parseGroup_of_csr_eq (s := s) (t := popEntry s r) rfl]
  · exact groupReg_settles r s e j hat hj.symm m g jb htype hhead hbody hjob hparse hgj hvc halone hroom hnew hslots
  all_goals rw [← bits_eq_extract (wordAt e.words 2) 15 0] at hk
  · have hexec := exec_groupDereg hat htype hhead hgid hbody (hj ▸ hjob)
    rw [← hj, ← hk, hnone] at hexec
    exact ⟨_, hexec, completes_only s r e (by decide)⟩
  · have hexec := exec_groupDereg hat htype hhead hgid hbody (hj ▸ hjob)
    have hany : s.coll.launches.any (fun x => x.job == j && x.gid == k) = true := by
      obtain ⟨x, hx, hxj, hxk⟩ := hbusy
      exact List.any_eq_true.mpr ⟨x, hx, by simp [hxj, hxk]⟩
    rw [← hj, ← hk, hg] at hexec
    dsimp only at hexec
    rw [hany, if_pos rfl] at hexec
    exact ⟨_, hexec, completes_only s r e (by decide)⟩
  · exact groupDereg_removes hat hj.symm htype hhead hk.symm hgid hbody hjob hg hidle

end Sys2Proof.Proofs
end

section
/-! SUPPORT. What a collective's commands move (R106, R123): the tables of the collectives with their registers, a launch's
completion record, and a launch that is refused. -/
namespace Sys2Proof.Proofs
open Sys2Proof.Machine Sys2Proof.Machine.Claims Sys2Proof.Laws

variable {s t u : State}

/-! ### The registers that a completion entry writes -/

theorem pendReg_mem (s : State) (q k : Nat) : HIF_MSIX_PEND (getF s (HIF_QR_CTRL q) HIF_QR_CTRL_VECTOR / 64) ∈ ringRegs k := by
  have h : getF s (HIF_QR_CTRL q) HIF_QR_CTRL_VECTOR < 2 ^ 9 := fget_lt HIF_QR_CTRL_VECTOR _
  exact List.mem_cons_of_mem _ (List.mem_map.mpr ⟨_, List.mem_range.mpr (by omega), rfl⟩)

theorem csrKept_qMessage (s : State) (q : Nat) : CsrKept s (qMessage s q) (ringRegs q) := fun o ho =>
  by
  refine msix_reg_other _ _ _ (fun he => ho ?_)
  rw [he]
  exact pendReg_mem s q q

theorem csrKept_qWrite (s : State) (q : Nat) (c : Cpl) : CsrKept s (qWrite s q c) (ringRegs q) := by
  have h : CsrKept s (entryWritten s q c) (ringRegs q) :=
    ((CsrKept.refl s _).after_setF List.mem_cons_self _ _).of_csr_eq (entryWritten_csr s q c)
  rcases qWrite_cases s q c with he | he <;> rw [he]
  · exact h
  · exact h.trans (csrKept_qMessage _ q)

theorem csrKept_qDrain (q : Nat) (l : List Cpl) (s : State) : CsrKept s (qDrain q l s) (ringRegs q) := by
  induction l generalizing s with
  | nil => exact (CsrKept.refl s _).of_csr_eq rfl
  | cons c l ih =>
    unfold qDrain
    split
    · exact (CsrKept.refl s _).of_csr_eq rfl
    · split
      · exact (csrKept_qWrite s q c).trans (ih _)
      · exact (CsrKept.refl s _).of_csr_eq rfl

/-- An entry in line writes its ring's TAIL and the pending bits of vectors. -/
theorem csrKept_complete (s : State) (q : Nat) (c : Cpl) : CsrKept s (complete s q c) (ringRegs q) := by
  unfold complete
  dsimp only
  split
  · exact (CsrKept.refl s _).of_csr_eq rfl
  · exact csrKept_qDrain q _ s

/-- The rings' registers stand between those of the collector and those of the switch core. -/
theorem ringRegs_bounds {q : Nat} (hq : q < 256) : ∀ o ∈ ringRegs q, 0x520000 ≤ o ∧ o < 0x600000 := by
  intro o ho
  rcases List.mem_cons.mp ho with rfl | hmem
  · simp only [HIF_QR_STATUS]
    omega
  · obtain ⟨k, hk, rfl⟩ := List.mem_map.mp hmem
    have := List.mem_range.mp hk
    simp only [HIF_MSIX_PEND]
    omega

/-! ### Messages of a fault -/

theorem outGrows_setReg (s : State) (off : Nat) (v : Word) : OutGrows s (setReg s off v) := .refl s

theorem outGrows_setF (s : State) (off : Nat) (f : Fld) (v : Nat) : OutGrows s (setF s off f v) := .refl s

theorem outGrows_flt (s : State) (f : Flt) : OutGrows s { s with flt := f } := .refl s

theorem outGrows_countFault (s : State) (src cls : Nat) : OutGrows s (countFault s src cls) := .of_eq (by simp [countFault])

theorem outGrows_bbRaise (s : State) : OutGrows s (bbRaise s) :=
  (((outGrows_countFault s 183 0).trans (outGrows_setF _ _ _ _)).trans (outGrows_eventMsg _ _)).trans (outGrows_flt _ _)

theorem outGrows_bbMerge (s : State) (w : Nat) : OutGrows s (bbMerge s w) := (outGrows_bbRaise s).trans (outGrows_flt _ _)

theorem outGrows_bbReport (s : State) (q : BitVec 32) {raise : State → Nat → State} (h : ∀ t w, OutGrows t (raise t w)) :
    OutGrows s (bbReport s q raise) := by
  unfold bbReport
  dsimp only
  (repeat' split)
  · exact (h _ _).trans (h _ _)
  · exact h _ _
  · exact h _ _
  · exact .refl s

theorem outGrows_bbError (s : State) (w : Nat) : OutGrows s (bbError s w) := by
  unfold bbError
  dsimp only
  split
  · exact outGrows_bbMerge s w
  · have hraise : ∀ f r, OutGrows s
        (bbWrite (event (setF { bbRaise s with flt := f } FLT_STATUS FLT_STATUS_OPEN 1) FLT_STATUS FLT_STATUS_OPEN_EVENT 0) r) :=
      fun f r => (((((outGrows_bbRaise s).trans (outGrows_flt _ f)).trans (outGrows_setF _ _ _ _)).trans
        (outGrows_setF _ _ _ _)).trans (outGrows_eventMsg _ _)).trans (outGrows_flt _ _)
    exact (hraise _ _).trans (outGrows_bbReport _ _ outGrows_bbMerge)

theorem outGrows_putRecord (s : State) (r : EventRec) : OutGrows s (putRecord s r) :=
  (outGrows_flt s _).trans (outGrows_bbReport (bbWrite s r) _ outGrows_bbError)

theorem outGrows_showRecord (s : State) (r : EventRec) (cls : Nat) : OutGrows s (showRecord s r cls) := by
  have hmsg : ∀ t : State, OutGrows t (if cls = 3 then t else eventMsg t 0) := by
    intro t
    split
    · exact .refl t
    · exact outGrows_eventMsg t 0
  have hrec := ((outGrows_setF s FLT_STATUS FLT_STATUS_OPEN_EVENT 1).trans (hmsg _)).trans
    (outGrows_putRecord _ r)
  unfold showRecord
  dsimp only
  split
  · refine hrec.trans (.of_eq ?_)
    unfold snapTrigger
    (repeat' split) <;> rfl
  · exact hrec

/-- A fault only adds messages. -/
theorem outGrows_fault (s : State) (src cause cls : Nat) (j : BitVec 16) (d : BitVec 32) (forced : Bool) :
    OutGrows s (fault s src cause cls j d forced) := by
  cases hcur : s.flt.cur with
  | none =>
    rw [fault_of_none s src cause cls j d forced hcur]
    exact (((outGrows_countFault s src cls).trans (outGrows_flt _ _)).trans (outGrows_setF _ _ _ _)).trans (outGrows_showRecord _ _ _)
  | some r =>
    rw [fault_of_some s src cause cls j d forced hcur]
    split
    · exact ((outGrows_countFault s src cls).trans (outGrows_flt _ _)).trans (outGrows_showRecord _ _ _)
    · exact (outGrows_countFault s src cls).trans (outGrows_flt _ _)

/-! ### The collectives' own registers and tables -/

/-- Between two states only the tables of the collectives and registers from the switch core's on have moved. -/
def CollMoved (s t : State) : Prop := { t with coll := s.coll, csr := s.csr } = s ∧ ∀ o, o < 0x2000000 → reg t o = reg s o

theorem CollMoved.refl (s : State) : CollMoved s s := ⟨rfl, fun _ _ => rfl⟩

theorem CollMoved.trans (h : CollMoved s t) (h' : CollMoved t u) : CollMoved s u :=
  ⟨(congrArg (fun v : State => { v with coll := s.coll, csr := s.csr }) h'.1).trans h.1, fun o ho => (h'.2 o ho).trans (h.2 o ho)⟩

theorem collMoved_setReg (s : State) {off : Nat} (hoff : 0x2000000 ≤ off) (v : Word) : CollMoved s (setReg s off v) :=
  ⟨rfl, fun o ho => reg_setReg_other s off o v (by omega)⟩

theorem CollMoved.setF (h : CollMoved s t) {off : Nat} (hoff : 0x2000000 ≤ off) (f : Fld) (v : Nat) :
    CollMoved s (Machine.setF t off f v) := h.trans (collMoved_setReg t hoff _)

theorem CollMoved.with_coll (h : CollMoved s t) (c : Coll) : CollMoved s { t with coll := c } :=
  h.trans ⟨rfl, fun _ _ => rfl⟩

theorem CollMoved.foldl {β : Type} {f : State → β → State} (hf : ∀ t x, CollMoved t (f t x)) (l : List β) (s : State) :
    CollMoved s (l.foldl f s) := by
  induction l generalizing s with
  | nil => exact .refl s
  | cons a l ih => exact (hf s a).trans (ih _)

theorem redActive_high (e : Nat) : 0x2000000 ≤ RED_ACTIVE e := by simp only [RED_ACTIVE]; omega

theorem collMoved_raiseActive (s : State) (x : Launch) : CollMoved s (raiseActive s x) :=
  .foldl (fun t e => (CollMoved.refl t).setF (redActive_high e) _ _) _ s

theorem collMoved_enterLaunch (s : State) (x : Launch) : CollMoved s (enterLaunch s x) :=
  ((CollMoved.refl s).with_coll _).trans (collMoved_raiseActive _ x)

theorem collMoved_setCset (s : State) (c : Cset) : CollMoved s (setCset s c) :=
  ((CollMoved.refl s).with_coll _).trans (collMoved_setReg _ (csetNext_high 0 c.slot) _)

theorem enterLaunch_coll (s : State) (x : Launch) :
    (enterLaunch s x).coll = { s.coll with launches := s.coll.launches ++ [x], nextLaunch := s.coll.nextLaunch + 1 } := by
  unfold enterLaunch
  simp

theorem setCset_coll (s : State) (c : Cset) :
    (setCset s c).coll = { s.coll with csets := s.coll.csets.map (fun y => if y.slot = c.slot then c else y) } :=
  setReg_coll ..

/-! ### Lookups in the tables -/

theorem launch_of_coll_eq (h : t.coll = s.coll) (l : Nat) : launch t l = launch s l := by unfold launch; rw [h]
theorem groupOf_of_coll_eq (h : t.coll = s.coll) (j g : Nat) : groupOf t j g = groupOf s j g := by unfold groupOf; rw [h]
theorem csetOf_of_coll_eq (h : t.coll = s.coll) (j id : Nat) : csetOf t j id = csetOf s j id := by unfold csetOf; rw [h]

/-- The engines of a launch depend on the groups alone. -/
theorem servers_of_groups_eq (h : t.coll.groups = s.coll.groups) (x : Launch) : servers t x = servers s x := by
  unfold servers enginesOf groupOf
  rw [h]

theorem launchSource_of_groups_eq (h : t.coll.groups = s.coll.groups) (x : Launch) : launchSource t x = launchSource s x := by
  unfold launchSource
  rw [servers_of_groups_eq h]

theorem launchSource_lt {x : Launch} (h : ∀ e ∈ servers s x, e < 16) : launchSource s x < 192 := by
  unfold launchSource
  split
  · rename_i e _ he
    have := h e (by rw [he]; exact List.mem_cons_self)
    omega
  · decide

/-- A set put back under its slot is the one that its job and number name. -/
theorem find_map_slot {l : List Cset} {c c' : Cset} {j id : Nat} (h : l.find? (fun y => y.job == j && y.id == id) = some c)
    (hslot : c'.slot = c.slot) (hjob : c'.job = c.job) (hid : c'.id = c.id) :
    (l.map (fun y => if y.slot = c'.slot then c' else y)).find? (fun y => y.job == j && y.id == id) = some c' := by
  have hc := List.find?_some h
  have hc' : (c'.job == j && c'.id == id) = true := by rw [hjob, hid]; exact hc
  induction l with
  | nil => cases h
  | cons y l ih =>
    rw [List.map_cons]
    simp only [List.find?_cons] at h ⊢
    by_cases hy : (y.job == j && y.id == id) = true
    · rw [hy] at h
      cases h
      simp only [if_pos hslot.symm, hc']
    · rw [Bool.not_eq_true] at hy
      rw [hy] at h
      by_cases hs : y.slot = c'.slot
      · simp only [if_pos hs, hc']
      · simp only [if_neg hs, hy]
        exact ih h

theorem csetOf_setCset {c c' : Cset} {j id : Nat} (h : csetOf s j id = some c) (hslot : c'.slot = c.slot) (hjob : c'.job = c.job)
    (hid : c'.id = c.id) : csetOf (setCset s c') j id = some c' := by
  unfold csetOf
  rw [setCset_coll]
  exact find_map_slot h hslot hjob hid

/-- A launch that joins the table under a new number is found there. -/
theorem launch_append {x : Launch} (ht : t.coll.launches = s.coll.launches ++ [x]) (hnew : ∀ y ∈ s.coll.launches, y.no ≠ x.no) :
    launch t x.no = some x := by
  have hnone : s.coll.launches.find? (fun y => y.no == x.no) = none := by
    rw [List.find?_eq_none]
    exact fun y hy => by simpa using hnew y hy
  unfold launch
  rw [ht, List.find?_append, hnone]
  simp

/-! ### A launch's completion record (Table 4.10) -/

/-- The words of a record that name the launch and its status. -/
theorem collRecord_head (s : State) (x : Launch) {status : Nat} (hstatus : status < 256) :
    (collRecord s x status).kind = 1 ∧ (collRecord s x status).job = BitVec.ofNat 16 x.job
      ∧ (collRecord s x status).cmdIndex = x.index ∧ (wordAt (collRecord s x status).body 0).toNat % 2 ^ 8 = status
      ∧ (wordAt (collRecord s x status).body 1).toNat % 2 ^ 32 = x.seq := by
  have hseq : x.seq < 2 ^ 32 := by simp only [Launch.seq, lF, bits]; omega
  unfold collRecord
  dsimp only
  generalize (match launchGroup s x with
    | some g => statWindow (if x.stats = true ∧ status = 0 then withStats g x else g)
    | none => (false, ⟨0, false⟩, ⟨0, false⟩, 0)) = q
  obtain ⟨valid, s1, s2, n⟩ := q
  refine ⟨rfl, rfl, rfl, ?_, ?_⟩
  · simp only [wordAt, List.cons_append, List.getD_cons_zero, BitVec.toNat_ofNat]
    omega
  · simp only [wordAt, List.cons_append, List.getD_cons_zero, List.getD_cons_succ, BitVec.toNat_ofNat]
    omega

end Sys2Proof.Proofs
end

section
/-! SETTLES O30. COLL follows the sequence of its conflict set (R106). -/
namespace Sys2Proof.Proofs
open Sys2Proof.Machine Sys2Proof.Machine.Claims Sys2Proof.Laws

variable {s t : State}

/-! ### A launch that is refused -/

/-- Status of Table 4.11 is of class STEP from 5 to 9. -/
theorem collClass_one (status : Nat) : collClass status = 1 ↔ 5 ≤ status ∧ status ≤ 9 := by
  unfold collClass
  split
  · simp_all
  · split <;> simp_all

/-- The record with which a launch that never starts completes. -/
def refusal (s : State) (x : Launch) (status : Nat) : Cpl :=
  { collRecord s x status with signal := if boundTo s x.job x.doneSync then (collRecord s x status).signal else none }

/-- A refused launch completes with its record, and a STEP status raises a fault. -/
theorem refuse_eq {x : Launch} {j : Job} (hjob : job s x.job = some j) (status : Nat) : refuse s x status =
    if collClass status = 1 then
      fault (complete s j.cq.toNat (refusal s x status)) (launchSource s x) 0x03 1 (BitVec.ofNat 16 x.job) (BitVec.ofNat 32 status)
    else complete s j.cq.toNat (refusal s x status) := by
  have hsource : ∀ c, launchSource (complete s j.cq.toNat c) x = launchSource s x := fun c =>
    launchSource_of_groups_eq (by simp) x
  unfold refuse
  simp only [jobComplete, hjob, hsource]
  rfl

/-- A fault raised after a completion entry is raised since the state before it. -/
theorem raised_after_complete {src cause cls : Nat} {jb : BitVec 16} {d : BitVec 32} (q : Byte) (c : Cpl) (hcls : cls < 4)
    (hsrc : src < 192) (hcsr : t.csr = s.csr) (hflt : t.flt = s.flt) (hftu : t.ftu = s.ftu) :
    Raised s (fault (complete t q.toNat c) src cause cls jb d) src cause cls jb d := by
  have hout : ∀ o, o < 0x520000 → o ∉ ringRegs q.toNat := fun o ho hmem => by
    have := (ringRegs_bounds q.isLt o hmem).1
    omega
  have hkept : CsrKept s (complete t q.toNat c) (ringRegs q.toNat) := fun o ho =>
    (csrKept_complete t _ c o ho).trans (by unfold reg; rw [hcsr])
  refine raised_of_kept (l := ringRegs q.toNat) _ _ _ _ _ _ (raised_fault _ src cause cls jb d false hcls hsrc) (hout _ ?_)
    (hout _ ?_) hkept (by simp [hflt]) (by simp [now, hftu]) (.refl _ _) rfl rfl
  · simp only [FLT_CNT]
    omega
  · simp only [FLT_SRC]
    omega

/-- A refusal: its record, its fault, and nothing of launches or sets. -/
theorem refused_of_refuse {r : RingId} {x : Launch} {j : Job} {status : Nat} (hjob : job s x.job = some j)
    (hservers : ∀ e ∈ servers s x, e < 16) (hstatus : status < 256) : Refused s (refuse (popEntry s r) x status) r x j status := by
  obtain ⟨hkind, hjb, hindex, hword0, hword1⟩ := collRecord_head (popEntry s r) x hstatus
  have hentered : Entered s (complete (popEntry s r) j.cq.toNat (refusal (popEntry s r) x status)) j.cq.toNat
      (refusal (popEntry s r) x status) :=
    entered_of_agree (entered_complete (popEntry s r) j.cq.isLt _) (fun _ _ => rfl) rfl rfl rfl
  have hrecorded : ∀ t, Entered s t j.cq.toNat (refusal (popEntry s r) x status) → CollRecorded s t x j status :=
    fun t h => ⟨_, h, hkind, hjb, hindex, hword0, hword1⟩
  have hframe : { complete (popEntry s r) j.cq.toNat (refusal (popEntry s r) x status) with
      crings := s.crings, csr := s.csr, qrings := s.qrings, objs := s.objs, out := s.out } = s :=
    (congrArg (fun u : State => { u with crings := s.crings }) (complete_frame (popEntry s r) j.cq.toNat _) :)
  rw [refuse_eq (s := popEntry s r) hjob status]
  by_cases hclass : collClass status = 1
  · rw [if_pos hclass, launchSource_of_groups_eq (s := s) (by rfl) x]
    generalize hc : complete (popEntry s r) j.cq.toNat (refusal (popEntry s r) x status) = c at hframe hentered
    have hsteps := (collClass_one status).mp hclass
    have hfault := fault_frame c (launchSource s x) 0x03 1 (BitVec.ofNat 16 x.job) (BitVec.ofNat 32 status) false
    refine ⟨hrecorded _ (entered_andThen hentered ?_ ?_ ?_ (outGrows_fault ..)), popped_of_crings ?_, fun _ => ?_, ?_, fun h => ?_⟩
    · refine fault_csrKept c _ 0x03 1 _ _ false _ (fun hmem => ?_)
      have hq := j.cq.isLt
      have hsrc := launchSource_lt hservers
      simp only [faultRegs, HIF_QR_STATUS, FLT_CNT, FLT_SRC, FLT_STATUS, HIF_MSIX_PEND, List.mem_cons, List.not_mem_nil, or_false] at hmem
      omega
    · simp
    · simp
    · rw [← hc]; simp
    · rw [← hc]
      exact raised_after_complete _ _ (by decide) (launchSource_lt hservers) rfl rfl rfl
    · generalize fault c (launchSource s x) 0x03 1 (BitVec.ofNat 16 x.job) (BitVec.ofNat 32 status) = y at hfault ⊢
      exact (congrArg (fun u : State => { u with
        crings := s.crings, csr := s.csr, qrings := s.qrings, objs := s.objs, out := s.out, flt := s.flt }) hfault).trans
        (congrArg (fun u : State => { u with flt := s.flt }) hframe)
    · omega
  · rw [if_neg hclass]
    have hquiet := mt (collClass_one status).mpr hclass
    exact ⟨hrecorded _ hentered, popped_of_crings (by simp), fun h => absurd h hquiet,
      (congrArg (fun u : State => { u with flt := s.flt }) hframe :), fun _ => by simp⟩

/-! ### The entry -/

/-- The launch of a COLL entry, by the model's own reading of its words. -/
theorem collOf_eq (s : State) (e : CmdEntry) :
    collOf s e = Launch.fresh s.coll.nextLaunch e.job ((List.range 24).map (fun i => wordAt e.words (i + 2)))
      (bits (wordAt ((List.range 24).map (fun i => wordAt e.words (i + 2))) 0).toNat 47 32) e.index := by
  unfold collOf
  dsimp only
  rw [cmdEntry_job, bits_eq_extract]

/-- The test of a COLL entry's reserved bits and JOB_ID. -/
theorem collFormed_iff (s : State) (e : CmdEntry) : CollFormed e (collOf s e) ↔ ¬ (e.headOk = false
    ∨ bits (wordAt ((List.range 24).map (fun i => wordAt e.words (i + 2))) 1).toNat 47 32 ≠ e.job
    ∨ (!((List.range 6).all (fun i => wordAt e.words (26 + i) == 0))) = true) := by
  have hwords : (collOf s e).words = (List.range 24).map (fun i => wordAt e.words (i + 2)) := rfl
  have hjob : (collOf s e).job = e.job := (cmdEntry_job e).symm
  have htail : (List.range 6).all (fun i => wordAt e.words (26 + i) == 0) = true ↔ ∀ i, i < 6 → wordAt e.words (26 + i) = 0 := by
    simp only [List.all_eq_true, List.mem_range, beq_iff_eq]
  unfold CollFormed
  rw [hwords, hjob, bits_eq_extract, ← htail, ← and_assoc, ← cmdEntry_headOk]
  simp only [not_or, ne_eq, not_not, Bool.not_eq_true', Bool.not_eq_false]

variable {r : RingId} {e : CmdEntry}

theorem exec_coll (hat : AtFront s r e) (htype : (wordAt e.words 0).toNat % 2 ^ 8 = 8) :
    exec (.coll r) s = .next (startColl (popEntry s r) r e) := by
  show execColl r s = _
  rw [execColl, dispatch_of_atFront _ hat htype]

theorem startColl_malformed (h : ¬ CollFormed e (collOf s e)) :
    startColl (popEntry s r) r e = cmdDone (popEntry s r) r e 0x01 0 false := by
  rw [collFormed_iff, not_not] at h
  unfold startColl
  dsimp only
  rw [if_pos h]

theorem startColl_unknown (h : CollFormed e (collOf s e)) (hjob : job s (collOf s e).job = none) :
    startColl (popEntry s r) r e = cmdDone (popEntry s r) r e 0x04 0 false := by
  have hjob' : job (popEntry s r) e.job = none := by rw [cmdEntry_job]; exact hjob
  unfold startColl
  dsimp only
  rw [if_neg ((collFormed_iff s e).mp h), if_pos (by rw [hjob']; rfl)]

theorem refuseLaunch_popEntry (s : State) (r : Nat) (x : Launch) : refuseLaunch (popEntry s r) x = refuseLaunch s x := by
  have hcrings : ∀ c, refuseLaunch { s with crings := c } x = refuseLaunch s x := fun _ => rfl
  exact hcrings _

/-- A well-formed COLL of an admitted job is refused by the checks of Table 4.11 or goes on to its sequence. -/
theorem startColl_formed {j : Job} (h : CollFormed e (collOf s e)) (hjob : job s (collOf s e).job = some j) :
    startColl (popEntry s r) r e = match refuseLaunch s (collOf s e) with
      | some st => refuse (popEntry s r) (collOf s e) st
      | none => Machine.sequence (popEntry s r) (collOf s e) := by
  have hjob' : job (popEntry s r) e.job = some j := by rw [cmdEntry_job]; exact hjob
  unfold startColl
  dsimp only
  rw [if_neg ((collFormed_iff s e).mp h), if_neg (by rw [hjob']; simp)]
  rw [← refuseLaunch_popEntry s r, collOf_eq]
  rfl

theorem refuseLaunch_lt {x : Launch} {st : Nat} (h : refuseLaunch s x = some st) : st < 256 := by
  unfold refuseLaunch at h
  (repeat' split at h) <;> cases h <;> decide

/-! ### Its place in the sequence -/

/-- The distance of a SEQ from E, modulo 2³². -/
theorem seqDistance (seq : Nat) (e : BitVec 32) : (BitVec.ofNat 32 seq - e).toNat = (seq + 2 ^ 32 - e.toNat) % 2 ^ 32 := by
  have := e.isLt
  rw [BitVec.toNat_sub, BitVec.toNat_ofNat]
  omega

theorem launch_seq_lt (x : Launch) : x.seq < 2 ^ 32 := by
  simp only [Launch.seq, lF, bits]
  omega

/-- What the collectives and their registers have moved on a state that a command has left. -/
theorem collMoved_frame {r : RingId} (h : CollMoved (popEntry s r) t) :
    Popped s t r ∧ { t with coll := s.coll, crings := s.crings, csr := s.csr } = s :=
  ⟨popped_of_crings (congrArg State.crings h.1 :), (congrArg (fun u : State => { u with crings := s.crings }) h.1 :)⟩

/-- A launch that comes to its turn at once stands at the end of the table. -/
theorem enterLaunch_launch {x : Launch} (hnew : ∀ y ∈ s.coll.launches, y.no ≠ x.no) : launch (enterLaunch s x) x.no = some x :=
  launch_append (s := s) (congrArg Coll.launches (enterLaunch_coll s x)) hnew

theorem enterLaunch_csetOf (s : State) (x : Launch) (j id : Nat) : csetOf (enterLaunch s x) j id = csetOf s j id := by
  unfold csetOf
  rw [enterLaunch_coll]

/-- A launch outside every conflict set comes to its turn. -/
theorem sequence_alone {x : Launch} (hc : x.cset = 0xFFFF) : Machine.sequence s x = enterLaunch s { x with stage := 1 } := by
  unfold Machine.sequence
  rw [if_pos hc]

/-- Handling by distance from E, in a set. -/
theorem sequence_in_set {x : Launch} {c : Cset} (hc : x.cset ≠ 0xFFFF) (hset : csetOf s x.job x.cset = some c) :
    Machine.sequence s x =
      if c.broken then refuse s x 0x07
      else if (x.seq + 2 ^ 32 - c.e.toNat) % 2 ^ 32 = 0 then
        if (turnOf s x.job x.cset).isSome then refuse s x 0x06
        else enterLaunch (setCset s { c with gap := none, retries := 0 }) { x with stage := 1 }
      else if (x.seq + 2 ^ 32 - c.e.toNat) % 2 ^ 32 ≤ 16 then
        if (heldOf s x.job x.cset c.e).any (fun y => y.seq == x.seq) then refuse s x 0x06
        else considerNext (enterLaunch s x) c
      else if (x.seq + 2 ^ 32 - c.e.toNat) % 2 ^ 32 < 2 ^ 31 then refuse s x 0x05 else refuse s x 0x06 := by
  unfold Machine.sequence
  rw [if_neg hc, hset, ← seqDistance]

/-- A set is found under its own job and number. -/
theorem csetOf_key {c : Cset} {j id : Nat} (h : csetOf s j id = some c) : c.job = j ∧ c.id = id := by
  have := List.find?_some h
  rwa [Bool.and_eq_true, beq_iff_eq, beq_iff_eq] at this

/-- Held launches are launches of the set in stage 0. -/
theorem mem_heldOf {j id : Nat} {e : BitVec 32} {y : Launch} :
    y ∈ heldOf s j id e ↔ y ∈ s.coll.launches ∧ y.job = j ∧ y.cset = id ∧ y.stage = 0 := by
  unfold heldOf
  rw [List.mem_mergeSort, List.mem_filter]
  simp only [Bool.and_eq_true, beq_iff_eq, and_assoc]

/-- A launch held behind E starts the gap timer of its set when none runs (R107). -/
theorem considerNext_held {x : Launch} {c : Cset} (hset : csetOf s x.job x.cset = some c) (hx : x.stage = 0) (hne : x.seq ≠ c.e.toNat)
    (hheld : ∀ y ∈ heldOf s x.job x.cset c.e, y.seq ≠ c.e.toNat) (hturn : turnOf s x.job x.cset = none) :
    considerNext (enterLaunch s x) c = if c.gap.isSome then enterLaunch s x
      else setCset (enterLaunch s x) { c with gap := some (now s), retries := 0 } := by
  obtain ⟨hjob, hid⟩ := csetOf_key hset
  have hlaunches : (enterLaunch s x).coll.launches = s.coll.launches ++ [x] := congrArg Coll.launches (enterLaunch_coll s x)
  have hturn' : turnOf (enterLaunch s x) c.job c.id = none := by
    rw [hjob, hid, turnOf, hlaunches, List.find?_append, show List.find? _ s.coll.launches = none from hturn]
    simp [hx]
  have hfirst : ∀ y ∈ heldOf (enterLaunch s x) c.job c.id c.e, BitVec.ofNat 32 y.seq ≠ c.e := by
    intro y hy he
    have hseq : y.seq = c.e.toNat := by
      rw [← he, BitVec.toNat_ofNat, Nat.mod_eq_of_lt (launch_seq_lt y)]
    rw [mem_heldOf, hlaunches, List.mem_append, List.mem_singleton, hjob, hid] at hy
    obtain ⟨hmem | rfl, hyj, hyc, hys⟩ := hy
    · exact hheld y (mem_heldOf.mpr ⟨hmem, hyj, hyc, hys⟩) hseq
    · exact hne hseq
  have hmem : x ∈ heldOf (enterLaunch s x) c.job c.id c.e := by
    rw [mem_heldOf, hlaunches, hjob, hid]
    exact ⟨by simp, rfl, rfl, hx⟩
  have hnow : now (enterLaunch s x) = now s := by simp [now, enterLaunch]
  unfold considerNext
  rw [hturn', if_neg (by simp)]
  cases hl : heldOf (enterLaunch s x) c.job c.id c.e with
  | nil => rw [hl] at hmem; cases hmem
  | cons y l =>
    dsimp only
    rw [if_neg (hfirst y (by rw [hl]; exact List.mem_cons_self)), hnow]

/-! ### The parts of O30 -/

variable {x : Launch} {j : Job}

/-- A launch that fits is handled by its sequence. -/
theorem exec_coll_fits (hat : AtFront s r e) (htype : (wordAt e.words 0).toNat % 2 ^ 8 = 8) (h : CollFits s e x j) :
    exec (.coll r) s = .next (Machine.sequence (popEntry s r) x) := by
  obtain ⟨rfl, hjob, hformed, hfits⟩ := h
  rw [exec_coll hat htype, startColl_formed hformed hjob, hfits]

/-- The launch enters the table and all else is as it was. -/
theorem coll_enters_turn (hnew : ∀ y ∈ s.coll.launches, y.no ≠ x.no) (hframe : CollMoved (popEntry s r) t)
    (hlaunches : t.coll.launches = s.coll.launches) :
    launch (enterLaunch t x) x.no = some x ∧ Popped s (enterLaunch t x) r
      ∧ { enterLaunch t x with coll := s.coll, crings := s.crings, csr := s.csr } = s :=
  ⟨enterLaunch_launch (by rwa [hlaunches]), collMoved_frame (hframe.trans (collMoved_enterLaunch t x))⟩

theorem coll_held {c : Cset} (hset : csetOf s x.job x.cset = some c) (hx : x.stage = 0) (hne : x.seq ≠ c.e.toNat)
    (hheld : ∀ y ∈ heldOf s x.job x.cset c.e, y.seq ≠ c.e.toNat) (hturn : turnOf s x.job x.cset = none)
    (hnew : ∀ y ∈ s.coll.launches, y.no ≠ x.no) :
    ∃ t, considerNext (enterLaunch (popEntry s r) x) c = t ∧ launch t x.no = some x ∧ Popped s t r
      ∧ csetOf t x.job x.cset = some (if c.gap.isSome then c else { c with gap := some (now s), retries := 0 })
      ∧ { t with coll := s.coll, crings := s.crings, csr := s.csr } = s := by
  obtain ⟨hlaunch, hpopped, hframe⟩ := coll_enters_turn (t := popEntry s r) hnew (.refl _) rfl
  have hset' : csetOf (enterLaunch (popEntry s r) x) x.job x.cset = some c := (enterLaunch_csetOf ..).trans hset
  refine ⟨_, considerNext_held (s := popEntry s r) hset hx hne hheld hturn, ?_⟩
  by_cases hgap : c.gap.isSome = true
  · rw [if_pos hgap, if_pos hgap]
    exact ⟨hlaunch, hpopped, hset', hframe⟩
  · rw [if_neg hgap, if_neg hgap]
    obtain ⟨hpopped', hframe'⟩ := collMoved_frame ((collMoved_enterLaunch (popEntry s r) x).trans
      (collMoved_setCset _ { c with gap := some (now s), retries := 0 }))
    refine ⟨?_, hpopped', csetOf_setCset hset' rfl rfl rfl, hframe'⟩
    unfold launch at hlaunch ⊢
    rw [setCset_coll]
    exact hlaunch

/-- Settles O30: the checks of the entry and of Table 4.11, then SEQ against E. -/
theorem collFollowsTheSequence : Obligations.CollFollowsTheSequence := by
  intro r s e x hat htype hx hservers
  refine ⟨fun hbad => ?_, fun hformed hnone => ?_, fun j hfits hc hnew => ?_, fun j c d hfits hc hset hd _ => ?_,
    fun j st hjob hformed hst => ?_⟩
  · subst hx
    refine ⟨_, ?_, completes_only s r e (by decide)⟩
    rw [exec_coll hat htype, startColl_malformed hbad]
  · subst hx
    refine ⟨_, ?_, completes_only s r e (by decide)⟩
    rw [exec_coll hat htype, startColl_unknown hformed hnone]
  · refine ⟨_, exec_coll_fits hat htype hfits, ?_⟩
    rw [sequence_alone hc]
    exact coll_enters_turn (t := popEntry s r) (x := { x with stage := 1 }) hnew (.refl _) rfl
  · have hexec := exec_coll_fits hat htype hfits
    rw [sequence_in_set (s := popEntry s r) hc hset, ← hd] at hexec
    have hrefused : ∀ st, st < 256 → Refused s (refuse (popEntry s r) x st) r x j st :=
      fun st hst => refused_of_refuse hfits.2.1 hservers hst
    refine ⟨fun hbroken => ?_, fun hbroken hzero hturn hnew => ?_, fun hbroken hlo hhi hheld hturn hnew => ?_,
      fun hbroken hlo hhi => ?_, fun hbroken hlo => ?_⟩
    · rw [if_pos hbroken] at hexec
      exact ⟨_, hexec, hrefused _ (by decide)⟩
    all_goals rw [if_neg (by simp [hbroken])] at hexec
    · rw [if_pos hzero, if_neg (by rw [show turnOf (popEntry s r) x.job x.cset = none from hturn]; simp)] at hexec
      obtain ⟨hlaunch, hpopped, hframe⟩ := coll_enters_turn (x := { x with stage := 1 }) hnew
        (collMoved_setCset (popEntry s r) { c with gap := none, retries := 0 }) (by rw [setCset_coll]; rfl)
      refine ⟨_, hexec, hlaunch, hpopped, ?_, hframe⟩
      rw [enterLaunch_csetOf]
      exact csetOf_setCset (s := popEntry s r) hset rfl rfl rfl
    · have hnodup : ¬ (heldOf (popEntry s r) x.job x.cset c.e).any (fun y => y.seq == x.seq) = true := by
        rw [List.any_eq_true]
        rintro ⟨y, hy, heq⟩
        exact (hheld y hy).1 (beq_iff_eq.mp heq)
      rw [if_neg (by omega), if_pos hhi, if_neg hnodup] at hexec
      obtain ⟨t, ht, hrest⟩ := coll_held (r := r) hset (by rw [hx]; rfl) (by omega) (fun y hy => (hheld y hy).2) hturn hnew
      exact ⟨t, ht ▸ hexec, hrest⟩
    · rw [if_neg (by omega), if_neg (by omega), if_pos hhi] at hexec
      exact ⟨_, hexec, hrefused _ (by decide)⟩
    · rw [if_neg (by omega), if_neg (by omega), if_neg (by omega)] at hexec
      exact ⟨_, hexec, hrefused _ (by decide)⟩
  · subst hx
    refine ⟨_, ?_, refused_of_refuse hjob hservers (refuseLaunch_lt hst)⟩
    rw [exec_coll hat htype, startColl_formed hformed hjob, hst]

end Sys2Proof.Proofs
end

section
/-! SUPPORT. A launch ends (R110, R123): what it leaves of the tables, its record, and the fault of a STEP status. -/
namespace Sys2Proof.Proofs
open Sys2Proof.Machine Sys2Proof.Machine.Claims Sys2Proof.Laws

variable {s t u : State}

/-! ### What launches move beside messages and faults -/

/-- Between two states only the tables of the collectives, the network and registers from the switch core's on have moved. -/
def LaunchMoved (s t : State) : Prop :=
  { t with coll := s.coll, csr := s.csr, net := s.net } = s ∧ ∀ o, o < 0x2000000 → reg t o = reg s o

theorem LaunchMoved.refl (s : State) : LaunchMoved s s := ⟨rfl, fun _ _ => rfl⟩

theorem LaunchMoved.trans (h : LaunchMoved s t) (h' : LaunchMoved t u) : LaunchMoved s u :=
  ⟨(congrArg (fun v : State => { v with coll := s.coll, csr := s.csr, net := s.net }) h'.1).trans h.1,
    fun o ho => (h'.2 o ho).trans (h.2 o ho)⟩

theorem LaunchMoved.ftu (h : LaunchMoved s t) : t.ftu = s.ftu := (congrArg State.ftu h.1 :)

theorem CollMoved.ftu (h : CollMoved s t) : t.ftu = s.ftu := (congrArg State.ftu h.1 :)

theorem CollMoved.flt (h : CollMoved s t) : t.flt = s.flt := (congrArg State.flt h.1 :)

theorem CollMoved.launchMoved (h : CollMoved s t) : LaunchMoved s t :=
  ⟨(congrArg (fun v : State => { v with net := s.net }) h.1 :), h.2⟩

theorem LaunchMoved.setF (h : LaunchMoved s t) {off : Nat} (hoff : 0x2000000 ≤ off) (f : Fld) (v : Nat) :
    LaunchMoved s (Machine.setF t off f v) := h.trans (collMoved_setReg t hoff _).launchMoved

theorem LaunchMoved.bump (h : LaunchMoved s t) {off : Nat} (hoff : 0x2000000 ≤ off) (f : Fld) (v : Nat) :
    LaunchMoved s (Machine.bump t off f v) := h.trans (collMoved_setReg t hoff _).launchMoved

theorem LaunchMoved.with_coll (h : LaunchMoved s t) (c : Coll) : LaunchMoved s { t with coll := c } :=
  h.trans ⟨rfl, fun _ _ => rfl⟩

theorem LaunchMoved.with_net (h : LaunchMoved s t) (n : Net) : LaunchMoved s { t with net := n } :=
  h.trans ⟨rfl, fun _ _ => rfl⟩

theorem LaunchMoved.foldl {β : Type} {f : State → β → State} (hf : ∀ t x, LaunchMoved t (f t x)) (l : List β) (s : State) :
    LaunchMoved s (l.foldl f s) := by
  induction l generalizing s with
  | nil => exact .refl s
  | cons a l ih => exact (hf s a).trans (ih _)

theorem redStaging_high (e : Nat) : 0x2000000 ≤ RED_STAGING e := by simp only [RED_STAGING]; omega
theorem redCntLaunch_high (e : Nat) : 0x2000000 ≤ RED_CNT_LAUNCH e := by simp only [RED_CNT_LAUNCH]; omega
theorem redStatus_high (e : Nat) : 0x2000000 ≤ RED_STATUS e := by simp only [RED_STATUS]; omega
theorem swcJobq_high (d k : Nat) : 0x2000000 ≤ SWC_JOBQ d k := by simp only [SWC_JOBQ]; omega

theorem collMoved_lowerActive (s : State) (x : Launch) : CollMoved s (lowerActive s x) :=
  .foldl (fun t e => (CollMoved.refl t).setF (redActive_high e) _ _) _ s

/-- Staging goes back in buffers, counts and quotas alone. -/
theorem launchMoved_releaseStaging (s : State) (x : Launch) : LaunchMoved s (releaseStaging s x) := by
  unfold releaseStaging
  dsimp only
  refine .foldl (fun t r => ?_) _ s
  have hbits : LaunchMoved t ((List.range (min r.2 (idleP3 t (r.1 / 4)))).foldl
      (fun s _ => clearBit s (idleBit s (r.1 / 4) 3)) t) := .foldl (fun u _ => (LaunchMoved.refl u).with_net _) _ t
  exact ((hbits.setF (redStaging_high _) _ _).setF (swcJobq_high _ _) _ _).setF (swc_poolStat_le _ _) _ _

/-! ### The end of a launch -/

/-- The tables once a launch has ended. -/
def withoutLaunch (c : Coll) (x : Launch) : Coll :=
  { c with
    launches := c.launches.filter (fun y => y.no != x.no)
    done := x :: c.done
    csets := c.csets.map (fun k => if k.herd = some x.no then { k with herd := none } else k) }

/-- The state once a launch has ended with a status other than success, before the fault of a STEP status. -/
def endedQuietly (s : State) (x : Launch) (status : Nat) : State :=
  let u := releaseStaging (lowerActive (jobComplete s x.job (collRecord s x status)) x) x
  let u := if x.stage = 2 then (servers u x).foldl (fun s e => bump s (RED_CNT_LAUNCH e) RED_CNT_LAUNCH_COUNT 1) u else u
  { u with coll := withoutLaunch u.coll x }

theorem launch_no {l : Nat} {x : Launch} (h : launch s l = some x) : x.no = l := by
  have := List.find?_some h
  rwa [beq_iff_eq] at this

/-- A launch ends with a status other than success: with a fault for a STEP status that is not quiet. -/
theorem endLaunch_eq {l status : Nat} {x : Launch} (h : launch s l = some x) (hstatus : status ≠ 0) (quietErr : Bool) :
    endLaunch s l status quietErr = if collClass status = 1 ∧ quietErr = false then
      fault (endedQuietly s x status) (launchSource s x) 0x03 1 (BitVec.ofNat 16 x.job) (BitVec.ofNat 32 status)
      else endedQuietly s x status := by
  have hno := launch_no h
  have hsource : launchSource (jobComplete s x.job (collRecord s x status)) x = launchSource s x :=
    launchSource_of_groups_eq (by simp) x
  unfold endLaunch
  rw [h]
  simp only [hstatus, and_false, if_false]
  subst hno
  rcases groupOf (jobComplete s x.job (collRecord s x status)) x.job x.gid with _ | g <;> dsimp only <;> rw [hsource] <;> rfl

theorem endedQuietly_coll (s : State) (x : Launch) (status : Nat) : (endedQuietly s x status).coll = withoutLaunch s.coll x := by
  unfold endedQuietly
  dsimp only
  split <;> simp

/-- After its record a launch's end moves tables, buffers and counts. -/
theorem launchMoved_endedQuietly (s : State) (x : Launch) (status : Nat) :
    LaunchMoved (jobComplete s x.job (collRecord s x status)) (endedQuietly s x status) := by
  have h := (collMoved_lowerActive (jobComplete s x.job (collRecord s x status)) x).launchMoved.trans
    (launchMoved_releaseStaging _ x)
  unfold endedQuietly
  dsimp only
  refine LaunchMoved.with_coll ?_ _
  split
  · exact h.trans (.foldl (fun t e => (LaunchMoved.refl t).bump (redCntLaunch_high e) _ _) _ _)
  · exact h

/-- What a launch's end leaves of the tables, whatever its job. -/
theorem endLaunch_coll {l status : Nat} {x : Launch} (h : launch s l = some x) (hstatus : status ≠ 0) (quietErr : Bool) :
    (endLaunch s l status quietErr).coll = withoutLaunch s.coll x := by
  rw [endLaunch_eq h hstatus]
  split
  · simp [endedQuietly_coll]
  · exact endedQuietly_coll ..

theorem endLaunch_of_none {l : Nat} (h : launch s l = none) (status : Nat) (quietErr : Bool) :
    endLaunch s l status quietErr = s := by
  unfold endLaunch
  rw [h]

/-- A table without a launch has none of its number, and each other launch as it was. -/
theorem find_withoutLaunch (c : Coll) (x : Launch) :
    (withoutLaunch c x).launches.find? (fun y => y.no == x.no) = none
      ∧ ∀ k, k ≠ x.no → (withoutLaunch c x).launches.find? (fun y => y.no == k) = c.launches.find? (fun y => y.no == k) := by
  refine ⟨?_, fun k hk => ?_⟩
  · simp only [withoutLaunch, List.find?_eq_none, List.mem_filter, bne_iff_ne, beq_iff_eq]
    exact fun y hy => hy.2
  · unfold withoutLaunch
    rw [List.find?_filter]
    refine List.find?_congr fun y _ => ?_
    rw [Bool.eq_iff_iff]
    simp only [decide_eq_true_eq, bne_iff_ne, beq_iff_eq]
    exact ⟨fun hy => hy.2, fun hy => ⟨hy ▸ hk, hy⟩⟩

theorem launch_endLaunch {l status : Nat} {x : Launch} (h : launch s l = some x) (hstatus : status ≠ 0) (quietErr : Bool) :
    launch (endLaunch s l status quietErr) l = none
      ∧ ∀ k, k ≠ l → launch (endLaunch s l status quietErr) k = launch s k := by
  have hno := launch_no h
  subst hno
  obtain ⟨hsame, hother⟩ := find_withoutLaunch s.coll x
  unfold launch
  rw [endLaunch_coll h hstatus]
  exact ⟨hsame, hother⟩

/-- A set that is not in the table is not there when a launch has ended. -/
theorem csetOf_endLaunch_none {l status j id : Nat} {x : Launch} (h : launch s l = some x) (hstatus : status ≠ 0) (quietErr : Bool)
    (hnone : csetOf s j id = none) : csetOf (endLaunch s l status quietErr) j id = none := by
  unfold csetOf at hnone ⊢
  rw [endLaunch_coll h hstatus]
  rw [List.find?_eq_none] at hnone ⊢
  intro c hc
  obtain ⟨c', hc', rfl⟩ := List.mem_map.mp hc
  have := hnone c' hc'
  split <;> exact this

/-- The record of a launch that ends has gone to its job's ring. -/
theorem collRecorded_endLaunch {l status : Nat} {x : Launch} {j : Job} (h : launch s l = some x) (hjob : job s x.job = some j)
    (hzero : status ≠ 0) (hstatus : status < 256) (hservers : ∀ e ∈ servers s x, e < 16) (quietErr : Bool) :
    CollRecorded s (endLaunch s l status quietErr) x j status := by
  obtain ⟨hkind, hjb, hindex, hword0, hword1⟩ := collRecord_head s x hstatus
  refine ⟨collRecord s x status, ?_, hkind, hjb, hindex, hword0, hword1⟩
  have hq : HIF_QR_STATUS j.cq.toNat < 0x530000 := by
    have := j.cq.isLt
    simp only [HIF_QR_STATUS]
    omega
  have hcomplete : jobComplete s x.job (collRecord s x status) = complete s j.cq.toNat (collRecord s x status) := by
    unfold jobComplete
    rw [hjob]
  obtain ⟨hframe, hreg⟩ := launchMoved_endedQuietly s x status
  rw [hcomplete] at hframe hreg
  have hended : Entered s (endedQuietly s x status) j.cq.toNat (collRecord s x status) :=
    entered_andThen (entered_complete s j.cq.isLt _) (hreg _ (by omega)) (congrArg State.ftu hframe :)
      (congrArg State.qrings hframe :) (.of_eq (congrArg State.out hframe :))
  rw [endLaunch_eq h hzero]
  split
  · refine entered_andThen hended ?_ (by simp) (by simp) (outGrows_fault ..)
    refine fault_csrKept _ _ 0x03 1 _ _ false _ (fun hmem => ?_)
    have hsrc := launchSource_lt hservers
    simp only [faultRegs, HIF_QR_STATUS, FLT_CNT, FLT_SRC, FLT_STATUS, HIF_MSIX_PEND, List.mem_cons, List.not_mem_nil, or_false] at hmem hq
    omega
  · exact hended

/-- A fault raised since a state is raised since any that agrees with it in the fault's counts, in the open record and in the
time. -/
theorem raised_since {src cause cls : Nat} {jb : BitVec 16} {d : BitVec 32} {forced : Bool} (h : Raised s t src cause cls jb d forced)
    (hbad : s.flt.bbBad = u.flt.bbBad) (hcur : s.flt.cur = u.flt.cur) (hseq : s.flt.nextSeq = u.flt.nextSeq) (hnow : now s = now u)
    (hcnt : reg s (FLT_CNT cls) = reg u (FLT_CNT cls)) (hsrc : reg s (FLT_SRC src) = reg u (FLT_SRC src)) :
    Raised u t src cause cls jb d forced := by
  intro hsound
  have hopen : openRec u src cause cls jb d forced = openRec s src cause cls jb d forced := by
    unfold openRec
    rw [hseq, hnow]
  have hraised := h (hbad.trans hsound)
  rw [hopen, ← hcur, ← hnow]
  unfold getF at hraised ⊢
  rwa [hcnt, hsrc] at hraised

/-- A fault raised stays raised, whatever follows that leaves its counts and the collector. -/
theorem raised_andThen {src cause cls : Nat} {jb : BitVec 16} {d : BitVec 32} {forced : Bool} (h : Raised s t src cause cls jb d forced)
    (hcnt : reg u (FLT_CNT cls) = reg t (FLT_CNT cls)) (hsrc : reg u (FLT_SRC src) = reg t (FLT_SRC src)) (hflt : u.flt = t.flt) :
    Raised s u src cause cls jb d forced := by
  intro hsound
  have hraised := h hsound
  unfold getF at hraised ⊢
  rwa [hcnt, hsrc, hflt]

/-- A STEP status raises its fault as the launch ends (R123). -/
theorem raised_endLaunch {l status : Nat} {x : Launch} (h : launch s l = some x) (hclass : collClass status = 1)
    (hservers : ∀ e ∈ servers s x, e < 16) : Raised s (endLaunch s l status false) (launchSource s x) 0x03 1 (BitVec.ofNat 16 x.job)
      (BitVec.ofNat 32 status) := by
  have hzero : status ≠ 0 := by
    have := (collClass_one status).mp hclass
    omega
  have hsrc := launchSource_lt hservers
  obtain ⟨hframe, hreg⟩ := launchMoved_endedQuietly s x status
  have hlow : ∀ o, o < 0x310000 → reg (endedQuietly s x status) o = reg s o := by
    intro o ho
    rw [hreg o (by omega)]
    unfold jobComplete
    split
    · rename_i j _
      refine csrKept_complete s _ _ o (fun hmem => ?_)
      have := (ringRegs_bounds j.cq.isLt o hmem).1
      omega
    · rfl
  have hflt : (endedQuietly s x status).flt = s.flt := by
    have h1 : (endedQuietly s x status).flt = (jobComplete s x.job (collRecord s x status)).flt := (congrArg State.flt hframe :)
    rw [h1]
    simp
  have hnow : now (endedQuietly s x status) = now s := by
    have h1 : (endedQuietly s x status).ftu = (jobComplete s x.job (collRecord s x status)).ftu := (congrArg State.ftu hframe :)
    unfold now
    rw [h1]
    simp
  rw [endLaunch_eq h hzero, if_pos ⟨hclass, rfl⟩]
  refine raised_since (raised_fault _ _ 0x03 1 _ _ false (by decide) hsrc) (by rw [hflt]) (by rw [hflt]) (by rw [hflt]) hnow
    (hlow _ ?_) (hlow _ ?_)
  · simp only [FLT_CNT]
    omega
  · simp only [FLT_SRC]
    omega

end Sys2Proof.Proofs
end

section
/-! SUPPORT. Admission of a launch at its turn, and its end there (R107, R110). -/
namespace Sys2Proof.Proofs
open Sys2Proof.Machine Sys2Proof.Machine.Claims Sys2Proof.Laws

variable {s t : State}

/-! ### A turn passes; a launch is put back -/

/-- Outside every set no turn passes. -/
theorem passTurn_of_none {x : Launch} (h : csetOf s x.job x.cset = none) : passTurn s x = s := by
  unfold passTurn
  rw [h]

theorem afterEnd_of_none {x : Launch} (h : csetOf s x.job x.cset = none) : afterEnd s x = s := by
  unfold afterEnd
  rw [h]

/-- A launch put back stands in the place of those of its number, and the others stay. -/
theorem launch_setLaunch {x y : Launch} (h : launch s x.no = some x) (hno : y.no = x.no) :
    launch (setLaunch s y) x.no = some y ∧ ∀ k, k ≠ x.no → launch (setLaunch s y) k = launch s k := by
  unfold launch setLaunch at *
  dsimp only
  rw [hno]
  generalize s.coll.launches = l at h ⊢
  constructor
  · induction l with
    | nil => cases h
    | cons z l ih =>
      simp only [List.map_cons, List.find?_cons] at h ⊢
      by_cases hz : z.no = x.no
      · simp [hz, hno]
      · have hb : (z.no == x.no) = false := beq_eq_false_iff_ne.mpr hz
        rw [hb] at h
        simp only [hz, if_false, hb]
        exact ih h
  · intro k hk
    clear h
    induction l with
    | nil => rfl
    | cons z l ih =>
      simp only [List.map_cons, List.find?_cons]
      by_cases hz : z.no = x.no
      · have hb : (x.no == k) = false := beq_eq_false_iff_ne.mpr (Ne.symm hk)
        simp only [hz, if_true, hno, hb]
        exact ih
      · simp only [hz, if_false]
        cases z.no == k with
        | true => rfl
        | false => exact ih

/-! ### The moves of an admission -/

theorem swcCntHold_high (d c : Nat) : 0x2000000 ≤ SWC_CNT_HOLD d c := by simp only [SWC_CNT_HOLD]; omega

theorem launchMoved_reserveOne (j : Nat) (s : State) (r : Nat × Nat) : LaunchMoved s (reserveOne j s r) := by
  have hstaging : ∀ a b, LaunchMoved s (setF (setF s (RED_STAGING r.1) RED_STAGING_NOW a) (RED_STAGING r.1) RED_STAGING_PEAK b) :=
    fun a b => ((LaunchMoved.refl s).setF (redStaging_high _) _ _).setF (redStaging_high _) _ _
  have hbits : ∀ u : State, LaunchMoved u ((List.range r.2).foldl (fun s _ => setBit s (r.1 / 4) 3) u) :=
    fun u => .foldl (fun u _ => (LaunchMoved.refl u).with_net _) _ u
  unfold reserveOne
  dsimp only
  exact ((((hstaging _ _).setF (swcJobq_high _ _) _ _).trans (hbits _)).setF (swc_poolStat_le _ _) _ _).setF (swc_poolStat_le _ _) _ _

theorem reserveOne_coll (j : Nat) (s : State) (r : Nat × Nat) : (reserveOne j s r).coll = s.coll := by
  unfold reserveOne
  dsimp only
  simp [foldl_coll]

theorem launchMoved_settleHolds (s : State) (cause hold : Nat) : LaunchMoved s (settleHolds s cause hold) := by
  unfold settleHolds
  refine .foldl (fun t q => .foldl (fun u w => ?_) _ t) _ s
  split
  · exact .refl u
  · exact (LaunchMoved.refl u).with_net _

theorem launchMoved_settleEarly (s : State) : LaunchMoved s (settleEarly s) := by
  unfold settleEarly
  refine (launchMoved_settleHolds s 1 5).trans (.foldl (fun t e => ?_) _ _)
  split
  · exact .refl t
  · exact (LaunchMoved.refl t).setF (redStatus_high e) _ _

theorem launchMoved_releaseEarly (s : State) (x : Launch) : LaunchMoved s (releaseEarly s x) :=
  ((LaunchMoved.refl s).with_net _).trans (launchMoved_settleEarly _)

theorem releaseEarly_coll (s : State) (x : Launch) : (releaseEarly s x).coll = s.coll := by
  unfold releaseEarly settleEarly
  dsimp only
  rw [foldl_coll _ (fun t e => by split <;> rfl)]
  simp

/-- The staging of an admission, as the engines that serve the group reserve it. -/
def reserved (s : State) (x : Launch) (st : List (Nat × Nat)) : State :=
  raiseActive (lowerActive (st.foldl (reserveOne x.job) s) x) { x with stage := 2 }

theorem launchMoved_reserved (s : State) (x : Launch) (st : List (Nat × Nat)) : LaunchMoved s (reserved s x st) :=
  ((LaunchMoved.foldl (launchMoved_reserveOne x.job) st s).trans (collMoved_lowerActive _ x).launchMoved).trans
    (collMoved_raiseActive _ _).launchMoved

theorem reserved_coll (s : State) (x : Launch) (st : List (Nat × Nat)) : (reserved s x st).coll = s.coll := by
  unfold reserved
  simp [foldl_coll _ (reserveOne_coll x.job)]

/-- The launch as its admission leaves it (R91, R110, R120). -/
def admitted (s : State) (g : Group) (x : Launch) (need : List (Nat × Nat)) : Launch :=
  { x with
    stage := 2, ftAdmit := now s, progress := now s, staging := need.map (fun e => (g.server e.1, e.2)),
    flows := (enginesOf s x).map Flow.start, out := g.expelled, fwd := g.fwd }

theorem admitLaunch_effect {g : Group} {x : Launch} {l : Nat} (need : List (Nat × Nat)) (h : launch s l = some x)
    (hset : csetOf s x.job x.cset = none) :
    LaunchMoved s (admitLaunch s g x need) ∧ launch (admitLaunch s g x need) l = some (admitted s g x need)
      ∧ ∀ k, k ≠ l → launch (admitLaunch s g x need) k = launch s k := by
  have hno := launch_no h
  subst hno
  have hmoved := launchMoved_reserved s x (need.map (fun e => (g.server e.1, e.2)))
  have hcoll := reserved_coll s x (need.map (fun e => (g.server e.1, e.2)))
  have hnow : now (reserved s x (need.map (fun e => (g.server e.1, e.2)))) = now s := by
    unfold now
    rw [show (reserved s x (need.map (fun e => (g.server e.1, e.2)))).ftu = s.ftu from (congrArg State.ftu hmoved.1 :)]
  have hadmit : admitLaunch s g x need = releaseEarly (passTurn (setLaunch (reserved s x (need.map (fun e => (g.server e.1, e.2))))
      (admitted s g x need)) (admitted s g x need)) (admitted s g x need) := by
    have hengines : enginesOf (reserved s x (need.map (fun e => (g.server e.1, e.2)))) x = enginesOf s x := by
      unfold enginesOf
      rw [groupOf_of_coll_eq hcoll]
    unfold admitted
    rw [← hnow, ← hengines]
    rfl
  rw [hadmit]
  generalize reserved s x (need.map (fun e => (g.server e.1, e.2))) = u at hmoved hcoll
  have hu : launch u x.no = some x := (launch_of_coll_eq hcoll _).trans h
  obtain ⟨hsame, hother⟩ := launch_setLaunch (y := admitted s g x need) hu rfl
  rw [passTurn_of_none (by exact (csetOf_of_coll_eq hcoll x.job x.cset).trans hset)]
  have hfinal := releaseEarly_coll (setLaunch u (admitted s g x need)) (admitted s g x need)
  refine ⟨(hmoved.with_coll _).trans (launchMoved_releaseEarly _ _), ?_, fun k hk => ?_⟩
  · rw [launch_of_coll_eq hfinal]
    exact hsame
  · rw [launch_of_coll_eq hfinal, hother k hk, launch_of_coll_eq hcoll]

/-! ### LAUNCH_ADMIT -/

theorem launch_startFt_lt (x : Launch) : x.startFt < 2 ^ 64 := by
  simp only [Launch.startFt, lF, bits]
  omega

/-- FT has moved on to a launch's START_FT. -/
def startedAt (s : State) (x : Launch) : State := advanceTo s (BitVec.ofNat 64 x.startFt)

theorem startedAt_ftu (s : State) (x : Launch) : (startedAt s x).ftu = { s.ftu with ft := max s.ftu.ft (x.startFt * 65536) } := by
  have h : (BitVec.ofNat 64 x.startFt).toNat = x.startFt := by
    rw [BitVec.toNat_ofNat, Nat.mod_eq_of_lt (launch_startFt_lt x)]
  unfold startedAt advanceTo
  rw [h]

/-- What an admission tests of a state does not depend on FT. -/
theorem admission_tests (s : State) (f : Ftu) (g : Group) (j d : Nat) :
    g.seen { s with ftu := f } = g.seen s ∧ groupLost { s with ftu := f } g = groupLost s g
      ∧ p3Quota { s with ftu := f } j d = p3Quota s j d ∧ p3Use { s with ftu := f } j d = p3Use s j d := ⟨rfl, rfl, rfl, rfl⟩

/-- Some die of the four. -/
theorem any_die (p : Nat → Bool) : [0, 1, 2, 3].any p = true ↔ ∃ d, d < 4 ∧ p d = true := by
  rw [show [0, 1, 2, 3] = List.range 4 from rfl, List.any_eq_true]
  simp only [List.mem_range]

theorem overQuota_iff (s : State) (j : Nat) (need : List (Nat × Nat)) :
    overQuota s j need = true ↔ ∃ d, d < 4 ∧ p3Quota s j d < dieNeed need d := by
  simp only [overQuota, any_die, decide_eq_true_eq]

theorem noRoom_iff (s : State) (j : Nat) (need : List (Nat × Nat)) :
    [0, 1, 2, 3].any (fun d => decide (p3Quota s j d < p3Use s j d + dieNeed need d)) = true
      ↔ ∃ d, d < 4 ∧ p3Quota s j d < p3Use s j d + dieNeed need d := by
  simp only [any_die, decide_eq_true_eq]

/-- A launch at its turn, in a group that is whole and in no QID, is admitted by its need. -/
theorem exec_launchAdmit {l : Nat} {x : Launch} {g : Group} (hrun : running s = true) (h : launch s l = some x) (hstage : x.stage = 1)
    (hg : groupOf s x.job x.gid = some g) (hset : csetOf s x.job x.cset = none) (hjq : jobQuiet s x.job = false)
    (heq : engineQuiet s x = false) (hlost : groupLost s (g.seen s) = false) :
    exec (.launchAdmit l) s = .next (
      if overQuota s x.job (launchNeed (g.seen s) x) then endTurn (startedAt s x) x 0x04
      else if [0, 1, 2, 3].any (fun d => decide (p3Quota s x.job d < p3Use s x.job d + dieNeed (launchNeed (g.seen s) x) d)) then
        startedAt s x
      else admitLaunch (startedAt s x) (g.seen s) x (launchNeed (g.seen s) x)) := by
  show execLaunchAdmit l s = _
  rw [execLaunchAdmit, ifRunning_eq hrun, h]
  dsimp only
  rw [if_pos hstage]
  unfold tryAdmit
  rw [hg]
  dsimp only
  rw [hset]
  simp only [hjq, heq, Bool.or_self, Bool.false_eq_true, if_false]
  have hseen : g.seen (advanceTo s (BitVec.ofNat 64 x.startFt)) = g.seen s := rfl
  have hlost' : groupLost (advanceTo s (BitVec.ofNat 64 x.startFt)) (g.seen s) = false := hlost
  rw [hseen, hlost', if_neg Bool.false_ne_true]
  rfl

/-- A launch that ends at its turn, outside every set. -/
theorem endTurn_effect {l : Nat} {x : Launch} {j : Job} {status : Nat} (h : launch s l = some x) (hjob : job s x.job = some j)
    (hset : csetOf s x.job x.cset = none) (hzero : status ≠ 0) (hstatus : status < 256) (hservers : ∀ e ∈ servers s x, e < 16) :
    launch (endTurn s x status) l = none ∧ CollRecorded s (endTurn s x status) x j status
      ∧ (∀ k, k ≠ l → launch (endTurn s x status) k = launch s k) ∧ (endTurn s x status).ftu = s.ftu := by
  have hno := launch_no h
  subst hno
  obtain ⟨hsame, hother⟩ := launch_endLaunch h hzero false
  have hend : endTurn s x status = endLaunch s x.no status false := by
    unfold endTurn
    exact passTurn_of_none (csetOf_endLaunch_none h hzero false hset)
  rw [hend]
  exact ⟨hsame, collRecorded_endLaunch h hjob hzero hstatus hservers false, hother, by simp⟩

end Sys2Proof.Proofs
end

section
/-! SETTLES O31. Admission, the gap timer, DATA_TIMEOUT and the fencing of an engine (R107, R110, R113, R124). -/
namespace Sys2Proof.Proofs
open Sys2Proof.Machine Sys2Proof.Machine.Claims Sys2Proof.Laws

variable {s t : State}

/-! ### LAUNCH_ADMIT -/

/-- What launches have moved once FT has moved on. -/
theorem launchMoved_advanced {w : Word} (h : LaunchMoved (advanceTo s w) t) :
    { t with coll := s.coll, csr := s.csr, ftu := s.ftu, net := s.net } = s :=
  (congrArg (fun u : State => { u with ftu := s.ftu }) h.1 :)

theorem launchAdmit_settles (l : Nat) (s : State) (x : Launch) (g0 g : Group) (j : Job) (hrun : running s = true)
    (h : launch s l = some x) (hstage : x.stage = 1) (hg0 : groupOf s x.job x.gid = some g0) (hg : g = g0.seen s)
    (hjob : job s x.job = some j) (hset : csetOf s x.job x.cset = none) (hjq : jobQuiet s x.job = false)
    (heq : engineQuiet s x = false) (hlost : groupLost s g = false) :
    ((∀ d, d < 4 → p3Use s x.job d + dieNeed (launchNeed g x) d ≤ p3Quota s x.job d) →
      ∃ t, exec (.launchAdmit l) s = .next t
        ∧ launch t l = some { x with
            stage := 2, ftAdmit := now t, progress := now t,
            staging := (launchNeed g x).map (fun e => (g.server e.1, e.2)), flows := (enginesOf s x).map Flow.start,
            out := g.expelled, fwd := kv6Devices s g }
        ∧ t.ftu = { s.ftu with ft := max s.ftu.ft (x.startFt * 65536) }
        ∧ (∀ k, k ≠ l → launch t k = launch s k)
        ∧ { t with coll := s.coll, csr := s.csr, ftu := s.ftu, net := s.net } = s)
    ∧ ((∀ d, d < 4 → dieNeed (launchNeed g x) d ≤ p3Quota s x.job d) →
        (∃ d, d < 4 ∧ p3Quota s x.job d < p3Use s x.job d + dieNeed (launchNeed g x) d) →
      ∃ t, exec (.launchAdmit l) s = .next t ∧ { t with ftu := s.ftu } = s)
    ∧ ((∃ d, d < 4 ∧ p3Quota s x.job d < dieNeed (launchNeed g x) d) → Placed s x j → x.syncEn = false →
      ∃ t, exec (.launchAdmit l) s = .next t ∧ launch t l = none
        ∧ CollRecorded { s with ftu := t.ftu } t x j 0x04 ∧ (∀ k, k ≠ l → launch t k = launch s k)) := by
  subst hg
  have hexec := exec_launchAdmit hrun h hstage hg0 hset hjq heq hlost
  have hquota := overQuota_iff s x.job (launchNeed (g0.seen s) x)
  have hroom := noRoom_iff s x.job (launchNeed (g0.seen s) x)
  refine ⟨fun hfits => ?_, fun hwhole hfull => ?_, fun hover hplaced _ => ?_⟩
  · have hno : ¬ ∃ d, d < 4 ∧ p3Quota s x.job d < p3Use s x.job d + dieNeed (launchNeed (g0.seen s) x) d :=
      fun ⟨d, hd, hlt⟩ => absurd (hfits d hd) (by omega)
    have hnq : ¬ ∃ d, d < 4 ∧ p3Quota s x.job d < dieNeed (launchNeed (g0.seen s) x) d :=
      fun ⟨d, hd, hlt⟩ => absurd (hfits d hd) (by omega)
    rw [if_neg (mt hquota.mp hnq), if_neg (mt hroom.mp hno)] at hexec
    obtain ⟨hmoved, hlaunch, hothers⟩ := admitLaunch_effect (s := startedAt s x) (g := g0.seen s) (launchNeed (g0.seen s) x) h hset
    have hftu := hmoved.ftu
    refine ⟨_, hexec, ?_, hftu.trans (startedAt_ftu s x), hothers, launchMoved_advanced hmoved⟩
    have hnow : now (admitLaunch (startedAt s x) (g0.seen s) x (launchNeed (g0.seen s) x)) = now (startedAt s x) := by
      unfold now
      rw [hftu]
    rw [hlaunch, hnow]
    rfl
  · have hnq : ¬ ∃ d, d < 4 ∧ p3Quota s x.job d < dieNeed (launchNeed (g0.seen s) x) d :=
      fun ⟨d, hd, hlt⟩ => absurd (hwhole d hd) (by omega)
    rw [if_neg (mt hquota.mp hnq), if_pos (hroom.mpr hfull)] at hexec
    exact ⟨_, hexec, rfl⟩
  · rw [if_pos (hquota.mpr hover)] at hexec
    obtain ⟨hnone, hrecord, hothers, hftu⟩ := endTurn_effect (s := startedAt s x) (status := 0x04) h hjob hset (by decide) (by decide)
      hplaced.1
    refine ⟨_, hexec, hnone, ?_, hothers⟩
    rw [hftu]
    exact hrecord

/-! ### DATA_TIMEOUT -/

/-- Totals change the statistics alone (R115). -/
theorem totals_frame (x : Launch) : { x.totals with s1 := x.s1, s2 := x.s2 } = x := by
  unfold Launch.totals
  refine List.foldlRecOn (motive := fun y : Launch => { y with s1 := x.s1, s2 := x.s2 } = x) x.flows _ rfl (fun y hy f _ => ?_)
  split <;> exact hy

/-- A launch that runs outside every set ends with a STEP status: its record, its fault, and it is gone. -/
theorem finishLaunch_effect {l status : Nat} {x : Launch} {j : Job} (h : launch s l = some x) (hstage : x.stage = 2)
    (hjob : job s x.job = some j) (hset : csetOf s x.job x.cset = none) (hclass : collClass status = 1)
    (hservers : ∀ e ∈ servers s x, e < 16) :
    launch (finishLaunch s x status false) l = none ∧ (∀ k, k ≠ l → launch (finishLaunch s x status false) k = launch s k)
      ∧ (finishLaunch s x status false).ftu = s.ftu ∧ CollRecorded s (finishLaunch s x status false) x j status
      ∧ Raised s (finishLaunch s x status false) (launchSource s x) 0x03 1 (BitVec.ofNat 16 x.job) (BitVec.ofNat 32 status) := by
  have hno := launch_no h
  subst hno
  have hbounds := (collClass_one status).mp hclass
  have hframe := totals_frame x
  have hxno : x.totals.no = x.no := (congrArg Launch.no hframe :)
  have hxjob : x.totals.job = x.job := (congrArg Launch.job hframe :)
  have hxgid : x.totals.gid = x.gid := (congrArg Launch.gid hframe :)
  have hxindex : x.totals.index = x.index := (congrArg Launch.index hframe :)
  have hxwords : x.totals.words = x.words := (congrArg Launch.words hframe :)
  have hxseq : x.totals.seq = x.seq := by unfold Launch.seq lF; rw [hxwords]
  obtain ⟨hput, hputOther⟩ := launch_setLaunch (y := x.totals) h hxno
  have hserv : servers (setLaunch s x.totals) x.totals = servers s x := by
    unfold servers enginesOf
    rw [hxjob, hxgid]
    rfl
  have hsource : launchSource (setLaunch s x.totals) x.totals = launchSource s x := by
    unfold launchSource
    rw [hserv]
  have hend : finishLaunch s x status false = endLaunch (setLaunch s x.totals) x.no status false := by
    unfold finishLaunch
    rw [if_neg (by omega)]
    exact afterEnd_of_none (csetOf_endLaunch_none hput (by omega) false hset)
  rw [hend]
  obtain ⟨hgone, hothers⟩ := launch_endLaunch hput (status := status) (by omega) false
  obtain ⟨r, hentered, hkind, hjb, hindex, hword0, hword1⟩ := collRecorded_endLaunch (j := j) hput (by rw [hxjob]; exact hjob)
    (status := status) (by omega) (by omega) (by rw [hserv]; exact hservers) false
  have hraised := raised_endLaunch hput hclass (by rw [hserv]; exact hservers)
  rw [hsource, hxjob] at hraised
  refine ⟨hgone, fun k hk => (hothers k hk).trans (hputOther k hk), by simp, ?_, raised_since hraised rfl rfl rfl rfl rfl rfl⟩
  exact ⟨r, entered_of_agree hentered (fun _ _ => rfl) rfl rfl rfl, hkind, hxjob ▸ hjb, hxindex ▸ hindex, hword0, hxseq ▸ hword1⟩

theorem dataTimeout_settles (l : Nat) (s : State) (x : Launch) (j : Job) (hrun : running s = true) (h : launch s l = some x)
    (hstage : x.stage = 2) (hjob : job s x.job = some j) (hset : csetOf s x.job x.cset = none) (hservers : ∀ e ∈ servers s x, e < 16) :
    ∃ t, exec (.dataTimeout l) s = .next t ∧ launch t l = none ∧ (∀ k, k ≠ l → launch t k = launch s k)
        ∧ t.ftu = { s.ftu with
            ft := max s.ftu.ft
              ((x.progress + BitVec.ofNat 64 (getF s (RED_DATA_TIMEOUT 0) RED_DATA_TIMEOUT_VALUE * 1000)).toNat * 65536) }
        ∧ CollRecorded { s with ftu := t.ftu } t x j 0x08
        ∧ Raised { s with ftu := t.ftu } t (launchSource s x) 0x03 1 (BitVec.ofNat 16 x.job) 8 := by
  generalize hw : x.progress + BitVec.ofNat 64 (getF s (RED_DATA_TIMEOUT 0) RED_DATA_TIMEOUT_VALUE * 1000) = w
  have hexec : exec (.dataTimeout l) s = .next (finishLaunch (advanceTo s w) x 0x08 false) := by
    show execDataTimeout l s = _
    rw [execDataTimeout, ifRunning_eq hrun, h]
    dsimp only
    rw [if_pos hstage, hw]
  obtain ⟨hgone, hothers, hftu, hrecord, hraised⟩ :=
    finishLaunch_effect (s := advanceTo s w) (status := 0x08) h hstage hjob hset (by decide) hservers
  refine ⟨_, hexec, hgone, hothers, hftu, ?_, ?_⟩
  · rw [hftu]
    exact hrecord
  · rw [hftu]
    exact hraised

/-! ### The gap timer -/

/-- A set put back under its slot is the one of that slot. -/
theorem find_slot_map {l : List Cset} {k : Nat} {c : Cset} {f : Cset → Cset} (hf : ∀ y, (f y).slot = y.slot)
    (h : l.find? (fun y => y.slot == k) = some c) : (l.map f).find? (fun y => y.slot == k) = some (f c) := by
  have hcomp : ((fun y : Cset => y.slot == k) ∘ f) = fun y => y.slot == k := by
    funext y
    simp [hf]
  rw [List.find?_map, hcomp, h]
  rfl

/-- The set of a slot after it has been put back. -/
theorem slot_setCset {k : Nat} {c c' : Cset} (h : s.coll.csets.find? (fun y => y.slot == k) = some c) (hslot : c'.slot = c.slot) :
    (setCset s c').coll.csets.find? (fun y => y.slot == k) = some c' := by
  rw [setCset_coll]
  refine (find_slot_map (f := fun y => if y.slot = c'.slot then c' else y) (fun y => ?_) h).trans ?_
  · split
    · exact Eq.symm ‹_›
    · rfl
  · rw [if_pos hslot.symm]

/-- The engine at which a gap shows: the lowest that serves the first held launch. -/
def gapEngine (s : State) (c : Cset) : Nat :=
  match heldOf s c.job c.id c.e with
  | y :: _ => (servers s y).headD 0
  | [] => 0

/-- The state in which a gap has shown at an engine. -/
def gapShown (s : State) (x : Word) (e : Nat) : State :=
  setF (advanceTo s (x + BitVec.ofNat 64 (getF s (RED_TAG_TIMEOUT 0) RED_TAG_TIMEOUT_VALUE * 1000))) (RED_STATUS e)
    RED_STATUS_SEQ_GAP_EVENT 1

theorem expireGap_eq (s : State) (c : Cset) (x : Word) : expireGap s c x =
    if c.retries < 2 then
      fault (setCset (gapShown s x (gapEngine s c))
          { c with gap := some (now (gapShown s x (gapEngine s c))), retries := c.retries + 1 })
        (96 + gapEngine s c) 0x03 1 (BitVec.ofNat 16 c.job) 0x07
    else (heldOf s c.job c.id c.e).foldl (fun s x => endLaunch s x.no 0x07 false)
      (setCset (gapShown s x (gapEngine s c)) { c with gap := none, broken := true }) := by
  have hheld : ∀ w, heldOf (advanceTo s w) c.job c.id c.e = heldOf s c.job c.id c.e := fun _ => rfl
  unfold expireGap gapEngine
  dsimp only
  rw [hheld]
  cases heldOf s c.job c.id c.e <;> rfl

theorem exec_gapTimerExpiry {k : Fin 1024} {c : Cset} {x : Word} (hrun : running s = true)
    (h : s.coll.csets.find? (fun c => c.slot == k.val) = some c) (hgap : c.gap = some x) :
    exec (.gapTimerExpiry k) s = .next (expireGap s c x) := by
  show execGapTimerExpiry k s = _
  rw [execGapTimerExpiry, ifRunning_eq hrun, h]
  dsimp only
  rw [hgap]

/-- A fault after the tables have moved, once FT has moved on. -/
theorem faulted_frame {u : State} {w : Word} {src cause cls : Nat} {jb : BitVec 16} {d : BitVec 32} (h : CollMoved (advanceTo s w) u) :
    { fault u src cause cls jb d with coll := s.coll, csr := s.csr, ftu := s.ftu, flt := s.flt, out := s.out } = s := by
  have hfault := fault_frame u src cause cls jb d false
  generalize fault u src cause cls jb d = t at hfault
  exact (congrArg (fun v : State => { v with coll := s.coll, csr := s.csr, ftu := s.ftu, flt := s.flt, out := s.out }) hfault).trans
    (congrArg (fun v : State => { v with ftu := s.ftu, flt := s.flt, out := s.out }) h.1)

theorem gapTimer_settles (k : Fin 1024) (s : State) (c : Cset) (x : Word) (e : Nat) (hrun : running s = true)
    (h : s.coll.csets.find? (fun c => c.slot == k.val) = some c) (hgap : c.gap = some x) (he : gapEngine s c = e) (hlt : e < 16)
    (hretries : c.retries < 2) :
    ∃ t, exec (.gapTimerExpiry k) s = .next t
      ∧ t.coll.csets.find? (fun c => c.slot == k.val) = some { c with gap := some (now t), retries := c.retries + 1 }
      ∧ t.ftu = { s.ftu with
          ft := max s.ftu.ft ((x + BitVec.ofNat 64 (getF s (RED_TAG_TIMEOUT 0) RED_TAG_TIMEOUT_VALUE * 1000)).toNat * 65536) }
      ∧ Raised { s with ftu := t.ftu } t (96 + e) 0x03 1 (BitVec.ofNat 16 c.job) 7
      ∧ t.coll.launches = s.coll.launches
      ∧ { t with coll := s.coll, csr := s.csr, ftu := s.ftu, flt := s.flt, out := s.out } = s := by
  have hexec := exec_gapTimerExpiry hrun h hgap
  rw [expireGap_eq, if_pos hretries, he] at hexec
  have hslot := slot_setCset (s := gapShown s x e) (c' := { c with gap := some (now (gapShown s x e)), retries := c.retries + 1 }) h rfl
  have hmoved := ((CollMoved.refl (advanceTo s (x + BitVec.ofNat 64 (getF s (RED_TAG_TIMEOUT 0) RED_TAG_TIMEOUT_VALUE * 1000)))).setF
    (redStatus_high e) RED_STATUS_SEQ_GAP_EVENT 1).trans
      (collMoved_setCset (gapShown s x e) { c with gap := some (now (gapShown s x e)), retries := c.retries + 1 })
  have hlaunches : (setCset (gapShown s x e) { c with gap := some (now (gapShown s x e)), retries := c.retries + 1 }).coll.launches
      = s.coll.launches := by rw [setCset_coll]; rfl
  generalize setCset (gapShown s x e) { c with gap := some (now (gapShown s x e)), retries := c.retries + 1 } = u
    at hexec hslot hmoved hlaunches
  have hftu : (fault u (96 + e) 0x03 1 (BitVec.ofNat 16 c.job) 0x07).ftu = u.ftu := by simp
  have hnow : now (fault u (96 + e) 0x03 1 (BitVec.ofNat 16 c.job) 0x07) = now (gapShown s x e) := by
    unfold now
    rw [hftu, hmoved.ftu]
    rfl
  refine ⟨_, hexec, ?_, hftu.trans hmoved.ftu, ?_, ?_, ?_⟩
  · rw [hnow]
    simpa using hslot
  · rw [hftu, hmoved.ftu]
    refine raised_since (raised_fault u (96 + e) 0x03 1 _ _ false (by decide) (by omega)) ?_ ?_ ?_ ?_ (hmoved.2 _ ?_) (hmoved.2 _ ?_)
    · rw [hmoved.flt]; rfl
    · rw [hmoved.flt]; rfl
    · rw [hmoved.flt]; rfl
    · unfold now; rw [hmoved.ftu]
    · simp only [FLT_CNT]; omega
    · simp only [FLT_SRC]; omega
  · simpa using hlaunches
  · exact faulted_frame hmoved

/-! ### A set that breaks -/

/-- A launch that has ended, or has not yet. -/
def EndsOrStays (s : State) (y : Launch) : Prop := launch s y.no = some y ∨ y ∈ s.coll.done

/-- A set of a slot that has broken, its E being `e`. -/
def BrokenAt (s : State) (k : Nat) (e : BitVec 32) : Prop :=
  ∃ c, s.coll.csets.find? (fun c => c.slot == k) = some c ∧ c.broken = true ∧ c.gap = none ∧ c.e = e

theorem endsOrStays_endLaunch {l status : Nat} {y : Launch} (hstatus : status ≠ 0) (quietErr : Bool) (h : EndsOrStays s y) :
    EndsOrStays (endLaunch s l status quietErr) y := by
  cases hx : launch s l with
  | none => rwa [endLaunch_of_none hx]
  | some x =>
    have hdone : (endLaunch s l status quietErr).coll.done = x :: s.coll.done := by rw [endLaunch_coll hx hstatus]; rfl
    unfold EndsOrStays
    rw [hdone]
    rcases h with hlaunch | hmem
    · by_cases hl : y.no = l
      · subst hl
        rw [hx] at hlaunch
        cases hlaunch
        exact .inr List.mem_cons_self
      · exact .inl (((launch_endLaunch hx hstatus quietErr).2 _ hl).trans hlaunch)
    · exact .inr (List.mem_cons_of_mem _ hmem)

theorem brokenAt_endLaunch {l status k : Nat} {e : BitVec 32} (hstatus : status ≠ 0) (quietErr : Bool) (h : BrokenAt s k e) :
    BrokenAt (endLaunch s l status quietErr) k e := by
  cases hx : launch s l with
  | none => rwa [endLaunch_of_none hx]
  | some x =>
    obtain ⟨c, hfind, hbroken, hgap, he⟩ := h
    have hcsets : (endLaunch s l status quietErr).coll.csets
        = s.coll.csets.map (fun c => if c.herd = some x.no then { c with herd := none } else c) := by
      rw [endLaunch_coll hx hstatus]
      rfl
    unfold BrokenAt
    rw [hcsets]
    have hslot : ∀ y : Cset, (if y.herd = some x.no then { y with herd := none } else y).slot = y.slot := by
      intro y
      split <;> rfl
    refine ⟨_, find_slot_map hslot hfind, ?_, ?_, ?_⟩ <;> split <;> assumption

theorem launch_endLaunch_gone (s : State) (l : Nat) {status : Nat} (hstatus : status ≠ 0) (quietErr : Bool) :
    launch (endLaunch s l status quietErr) l = none
      ∧ ∀ k, launch s k = none → launch (endLaunch s l status quietErr) k = none := by
  cases hx : launch s l with
  | none => rw [endLaunch_of_none hx]; exact ⟨hx, fun _ h => h⟩
  | some x =>
    obtain ⟨hsame, hother⟩ := launch_endLaunch hx hstatus quietErr
    refine ⟨hsame, fun k hk => ?_⟩
    by_cases hkl : k = l
    · rw [hkl]; exact hsame
    · rw [hother k hkl, hk]

/-- The launches of a list end one after another. -/
theorem endAll_effect (ls : List Launch) (s : State) {status k : Nat} {e : BitVec 32} (hstatus : status ≠ 0) (hset : BrokenAt s k e) :
    BrokenAt (ls.foldl (fun s x => endLaunch s x.no status false) s) k e
      ∧ (∀ y, EndsOrStays s y → EndsOrStays (ls.foldl (fun s x => endLaunch s x.no status false) s) y)
      ∧ (∀ n, launch s n = none → launch (ls.foldl (fun s x => endLaunch s x.no status false) s) n = none)
      ∧ ∀ y ∈ ls, launch (ls.foldl (fun s x => endLaunch s x.no status false) s) y.no = none := by
  induction ls generalizing s with
  | nil => exact ⟨hset, fun _ h => h, fun _ h => h, fun _ h => by cases h⟩
  | cons x ls ih =>
    obtain ⟨hgone, hstay⟩ := launch_endLaunch_gone s x.no hstatus false
    obtain ⟨hbroken, hends, hnone, hall⟩ := ih (endLaunch s x.no status false) (brokenAt_endLaunch hstatus false hset)
    refine ⟨hbroken, fun y hy => hends y (endsOrStays_endLaunch hstatus false hy), fun n hn => hnone n (hstay n hn), fun y hy => ?_⟩
    rcases List.mem_cons.mp hy with rfl | hmem
    · exact hnone _ hgone
    · exact hall y hmem

theorem gapTimer_breaks (k : Fin 1024) (s : State) (c : Cset) (x : Word) (hrun : running s = true)
    (h : s.coll.csets.find? (fun c => c.slot == k.val) = some c) (hgap : c.gap = some x) (hretries : 2 ≤ c.retries)
    (hfound : ∀ y ∈ s.coll.launches, launch s y.no = some y) :
    ∃ t, exec (.gapTimerExpiry k) s = .next t
      ∧ (∃ c', t.coll.csets.find? (fun c => c.slot == k.val) = some c' ∧ c'.broken = true ∧ c'.gap = none ∧ c'.e = c.e)
      ∧ (∀ y ∈ heldOf s c.job c.id c.e, launch t y.no = none
          ∧ ∃ z ∈ t.coll.done, z.no = y.no ∧ z.job = y.job ∧ z.gid = y.gid ∧ z.seq = y.seq) := by
  have hexec := exec_gapTimerExpiry hrun h hgap
  rw [expireGap_eq, if_neg (by omega)] at hexec
  have hslot := slot_setCset (s := gapShown s x (gapEngine s c)) (c' := { c with gap := none, broken := true }) h rfl
  have hcoll := setCset_coll (gapShown s x (gapEngine s c)) { c with gap := none, broken := true }
  have hlaunch : ∀ l, launch (setCset (gapShown s x (gapEngine s c)) { c with gap := none, broken := true }) l = launch s l := by
    intro l
    unfold launch
    rw [hcoll]
    rfl
  generalize setCset (gapShown s x (gapEngine s c)) { c with gap := none, broken := true } = u at hexec hslot hlaunch
  obtain ⟨hbroken, hends, _, hgone⟩ := endAll_effect (heldOf s c.job c.id c.e) u (status := 0x07) (e := c.e) (by decide)
    ⟨_, hslot, rfl, rfl, rfl⟩
  refine ⟨_, hexec, hbroken, fun y hy => ⟨hgone y hy, ?_⟩⟩
  have hy' : EndsOrStays u y := .inl ((hlaunch _).trans (hfound y (mem_heldOf.mp hy).1))
  rcases hends y hy' with hstill | hdone
  · rw [hgone y hy] at hstill
    cases hstill
  · exact ⟨y, hdone, rfl, rfl, rfl, rfl⟩

/-! ### ENGINE_FENCE -/

/-- A fault leaves the lasting causes that the collector holds. -/
theorem fault_lasting (s : State) (src cause cls : Nat) (jb : BitVec 16) (d : BitVec 32) (forced : Bool) :
    (fault s src cause cls jb d forced).flt.lasting = s.flt.lasting := by
  have hput : ∀ (t : State) (r : EventRec), (putRecord t r).flt.lasting = t.flt.lasting := fun t r =>
    congrArg (fun x => x.2.2) (besideRing_putRecord t r)
  have hsnap : ∀ (t : State) (q : BitVec 32), (snapTrigger t q false).flt.lasting = t.flt.lasting := fun t q =>
    (congrArg Flt.lasting (snapTrigger_flt t q false) :)
  have hshow : ∀ (t : State) (r : EventRec), (showRecord t r cls).flt.lasting = t.flt.lasting := by
    intro t r
    have hmsg : (if cls = 3 then setF t FLT_STATUS FLT_STATUS_OPEN_EVENT 1
        else eventMsg (setF t FLT_STATUS FLT_STATUS_OPEN_EVENT 1) 0).flt = t.flt := by
      split <;> simp
    unfold showRecord
    dsimp only
    split
    · rw [hsnap, hput, hmsg]
    · rw [hput, hmsg]
  cases hcur : s.flt.cur with
  | none =>
    rw [fault_of_none s src cause cls jb d forced hcur, hshow]
    rfl
  | some r =>
    rw [fault_of_some s src cause cls jb d forced hcur]
    split
    · rw [hshow]
      rfl
    · rfl

/-- The registers of a group's move are those of RED_ACTIVE. -/
theorem reg_moveGroups (s : State) (e n : Nat) {o : Nat} (ho : ∀ k, o ≠ RED_ACTIVE k) : reg (moveGroups s e n) o = reg s o := by
  have hone : ∀ (t : State) (k : Nat) (f : Fld) (v : Nat), reg (setF t (RED_ACTIVE k) f v) o = reg t o :=
    fun t k f v => reg_setF_other _ _ _ _ _ (ho k)
  have hlower : ∀ (t : State) (x : Launch), reg (lowerActive t x) o = reg t o := fun t x =>
    reg_foldl_other _ _ _ _ (fun u k _ => hone u k _ _)
  have hraise : ∀ (t : State) (x : Launch), reg (raiseActive t x) o = reg t o := fun t x =>
    reg_foldl_other _ _ _ _ (fun u k _ => hone u k _ _)
  unfold moveGroups
  dsimp only
  rw [reg_foldl_other _ _ _ _ (fun u x _ => hraise u x)]
  exact reg_foldl_other _ _ _ _ (fun u x _ => hlower u x)

theorem collMoved_moveGroups (s : State) (e n : Nat) : CollMoved s (moveGroups s e n) :=
  ((CollMoved.foldl collMoved_lowerActive _ s).with_coll _).trans (.foldl collMoved_raiseActive _ _)

theorem moveGroups_coll (s : State) (e n : Nat) :
    (moveGroups s e n).coll = { s.coll with groups := s.coll.groups.map (Group.moveTo e n) } := by
  unfold moveGroups
  dsimp only
  rw [foldl_coll _ (fun t x => by simp), foldl_coll _ (fun t x => by simp)]

/-- A map of servers after some of its engines have gone to one other. -/
theorem mapGet_moved (es : List Nat) (n : Nat) (m : List (Nat × Nat)) (k : Nat) :
    mapGet id (es.foldl (fun m k => mapSet id m k n) m) k = if k ∈ es then n else mapGet id m k := by
  induction es generalizing m with
  | nil => rfl
  | cons a es ih =>
    rw [List.foldl_cons, ih, mapGet_set]
    by_cases hk : k ∈ es
    · simp [hk]
    · by_cases ha : k = a <;> simp [hk, ha]

/-- Who serves an engine of the group's map after a move (R113). -/
theorem server_moveTo (g : Group) (e n : Nat) {sh : Shard} (h : sh ∈ g.shards) :
    (g.moveTo e n).server (sh.engineAt g.me)
      = if g.server (sh.engineAt g.me) = e then n else g.server (sh.engineAt g.me) := by
  have hmem : sh.engineAt g.me ∈ ((g.shards.map (fun sh => sh.engineAt g.me)).eraseDups).filter (fun m => g.server m == e)
      ↔ g.server (sh.engineAt g.me) = e := by
    rw [List.mem_filter, List.mem_eraseDups, beq_iff_eq]
    exact ⟨fun hm => hm.2, fun hm => ⟨List.mem_map.mpr ⟨sh, h, rfl⟩, hm⟩⟩
  have hserver : (g.moveTo e n).server (sh.engineAt g.me) = if sh.engineAt g.me ∈
      ((g.shards.map (fun sh => sh.engineAt g.me)).eraseDups).filter (fun m => g.server m == e) then n
      else g.server (sh.engineAt g.me) := mapGet_moved _ n g.moved _
  rw [hserver]
  by_cases he : g.server (sh.engineAt g.me) = e
  · rw [if_pos (hmem.mpr he), if_pos he]
  · rw [if_neg (mt hmem.mp he), if_neg he]

/-- The state in which an engine is fenced, before its fault. -/
def fenceMarked (s : State) (e : Nat) : State :=
  { setF s (RED_STATUS e) RED_STATUS_FENCED 1 with
    coll := { s.coll with residueAt := s.coll.residueAt.filter (fun r => r.1 != e) },
    flt := { s.flt with lasting := s.flt.lasting ++ [80 + e] } }

/-- The state in which an engine has been fenced and its fault raised, before its groups go to another. -/
def fenced (s : State) (e : Nat) : State := fault (fenceMarked s e) (96 + e) 0x05 2 0xFFFF 0

theorem exec_engineFence {e : Engine} (hrun : running s = true) (hfenced : isSet s (RED_STATUS e) RED_STATUS_FENCED = false) :
    exec (.engineFence e) s = .next (if secondMismatch s e then leaveEngine (fenced s e) e else s) := by
  show execEngineFence e s = _
  rw [execEngineFence, ifRunning_eq hrun, hfenced]
  simp only [Bool.not_false, Bool.and_true]
  rfl

theorem fenceMarked_csrKept (s : State) (e : Nat) : CsrKept s (fenceMarked s e) [RED_STATUS e] :=
  ((CsrKept.refl s _).after_setF List.mem_cons_self RED_STATUS_FENCED 1).of_csr_eq rfl

theorem fenceMarked_set (s : State) (e : Nat) : isSet (fenceMarked s e) (RED_STATUS e) RED_STATUS_FENCED = true := by
  rw [isSet_iff]
  exact getF_setF_same s (RED_STATUS e) RED_STATUS_FENCED 1 (by decide)

theorem fenceMarked_frame (s : State) (e : Nat) : { fenceMarked s e with coll := s.coll, csr := s.csr, flt := s.flt } = s := by
  have h : ∀ (off : Nat) (v : Word) (c : Coll) (f : Flt),
      { ({ setReg s off v with coll := c, flt := f } : State) with coll := s.coll, csr := s.csr, flt := s.flt } = s := fun _ _ _ _ => rfl
  exact h _ _ _ _

/-- The registers of a fault's counts and of its record stand below those of the reduction engines. -/
theorem faultRegs_low {src cls : Nat} (hsrc : src < 192) (hcls : cls < 4) : ∀ o ∈ faultRegs src cls, o < 0x600000 := by
  intro o ho
  simp only [faultRegs, FLT_CNT, FLT_SRC, FLT_STATUS, HIF_MSIX_PEND, List.mem_cons, List.not_mem_nil, or_false] at ho
  omega

theorem fenced_effect (s : State) (e : Engine) :
    CsrKept s (fenced s e) (RED_STATUS e :: faultRegs (96 + e.val) 2) ∧ isSet (fenced s e) (RED_STATUS e) RED_STATUS_FENCED = true
      ∧ Raised s (fenced s e) (96 + e.val) 0x05 2 0xFFFF 0 ∧ (80 + e.val) ∈ (fenced s e).flt.lasting
      ∧ (fenced s e).coll.launches = s.coll.launches ∧ (fenced s e).coll.groups = s.coll.groups
      ∧ { fenced s e with coll := s.coll, csr := s.csr, flt := s.flt, out := s.out } = s := by
  have he := e.isLt
  have hkept := fenceMarked_csrKept s e
  have hset := fenceMarked_set s e
  have hframe := fenceMarked_frame s e
  have hflt : (fenceMarked s e).flt = { s.flt with lasting := s.flt.lasting ++ [80 + e.val] } := rfl
  have hlaunches : (fenceMarked s e).coll.launches = s.coll.launches := rfl
  have hgroups : (fenceMarked s e).coll.groups = s.coll.groups := rfl
  unfold fenced
  generalize fenceMarked s e = u at hkept hset hframe hflt hlaunches hgroups
  have hfaultKept := fault_csrKept u (96 + e.val) 0x05 2 0xFFFF 0 false
  have hlow := faultRegs_low (src := 96 + e.val) (cls := 2) (by omega) (by decide)
  have hstatus : RED_STATUS e ∉ faultRegs (96 + e.val) 2 := fun hmem => by
    have := hlow _ hmem
    have := redStatus_high e
    omega
  refine ⟨(hkept.mono (by simp)).trans (hfaultKept.mono (by simp)), ?_, ?_, ?_, by simpa using hlaunches, by simpa using hgroups, ?_⟩
  · rw [hfaultKept.isSet_eq hstatus]
    exact hset
  · have hne : ∀ o, o < 0x2000000 → reg u o = reg s o := fun o ho => hkept o (by
      have := redStatus_high e
      simp only [List.mem_singleton]
      omega)
    refine raised_since (raised_fault u (96 + e.val) 0x05 2 _ _ false (by decide) (by omega)) (by rw [hflt]) (by rw [hflt])
      (by rw [hflt]) ?_ (hne _ ?_) (hne _ ?_)
    · unfold now
      rw [show u.ftu = s.ftu from (congrArg State.ftu hframe :)]
    · simp only [FLT_CNT]; omega
    · simp only [FLT_SRC]; omega
  · rw [fault_lasting, hflt]
    simp
  · have hfault := fault_frame u (96 + e.val) 0x05 2 0xFFFF 0 false
    generalize fault u (96 + e.val) 0x05 2 0xFFFF 0 = t at hfault
    exact (congrArg (fun v : State => { v with coll := s.coll, csr := s.csr, flt := s.flt, out := s.out }) hfault).trans
      (congrArg (fun v : State => { v with out := s.out }) hframe)

/-- The engine that takes over is the lowest of the die, beside the fenced one, that takes work. -/
theorem sibling_fenced {s : State} {e : Engine} {n : Nat}
    (h : ((List.range 4).map (4 * (e.val / 4) + ·)).find? (fun k => k != e.val && engineUp s k) = some n) :
    sibling (fenced s e) (e.val / 4) = some n := by
  obtain ⟨hkept, hset, -⟩ := fenced_effect s e
  have he := e.isLt
  have hlow := faultRegs_low (src := 96 + e.val) (cls := 2) (by omega) (by decide)
  unfold sibling
  rw [← h]
  refine List.find?_congr fun k _ => ?_
  by_cases hk : k = e.val
  · subst hk
    simp [engineUp, hset]
  · have hout : ∀ o, o ≠ RED_STATUS e → 0x2000000 ≤ o → o ∉ RED_STATUS e :: faultRegs (96 + e.val) 2 := by
      intro o hne hhigh hmem
      rcases List.mem_cons.mp hmem with rfl | hmem
      · exact hne rfl
      · have := hlow _ hmem
        omega
    have hctrl : RED_CTRL k ∉ RED_STATUS e :: faultRegs (96 + e.val) 2 := by
      refine hout _ ?_ ?_ <;> simp only [RED_CTRL, RED_STATUS] <;> omega
    have hstat : RED_STATUS k ∉ RED_STATUS e :: faultRegs (96 + e.val) 2 := by
      refine hout _ ?_ (redStatus_high k)
      simp only [RED_STATUS]
      omega
    unfold engineUp
    rw [hkept.isSet_eq hctrl, hkept.isSet_eq hstat]
    simp [hk]

theorem engineFence_settles (e : Engine) (s : State) (n : Nat) (hrun : running s = true)
    (hfenced : isSet s (RED_STATUS e) RED_STATUS_FENCED = false) :
    (secondMismatch s e = false → exec (.engineFence e) s = .next s)
    ∧ (secondMismatch s e = true →
        ((List.range 4).map (4 * (e.val / 4) + ·)).find? (fun k => k != e.val && engineUp s k) = some n →
        ∃ t, exec (.engineFence e) s = .next t ∧ isSet t (RED_STATUS e) RED_STATUS_FENCED = true
          ∧ Raised s t (96 + e.val) 0x05 2 0xFFFF 0 ∧ (80 + e.val) ∈ t.flt.lasting
          ∧ t.coll.launches = s.coll.launches ∧ t.coll.groups.length = s.coll.groups.length
          ∧ (∀ (i : Nat) (g : Group), s.coll.groups[i]? = some g → ∃ g' : Group, t.coll.groups[i]? = some g'
              ∧ { g' with moved := g.moved } = g
              ∧ ∀ sh ∈ g.shards, g'.server (sh.engineAt g.me)
                  = if g.server (sh.engineAt g.me) = e.val then n else g.server (sh.engineAt g.me))
          ∧ (∀ o, o ∉ RED_STATUS e :: faultRegs (96 + e.val) 2 → (∀ k, o ≠ RED_ACTIVE k) → reg t o = reg s o)
          ∧ { t with coll := s.coll, csr := s.csr, flt := s.flt, out := s.out } = s) := by
  have hexec := exec_engineFence hrun hfenced
  refine ⟨fun hone => ?_, fun htwo hsibling => ?_⟩
  · rw [hexec, hone]
    rfl
  · have hleave : leaveEngine (fenced s e) e = moveGroups (fenced s e) e n := by
      unfold leaveEngine
      rw [sibling_fenced hsibling]
    rw [htwo, if_pos rfl, hleave] at hexec
    obtain ⟨hkept, hset, hraised, hlasting, hlaunches, hgroups, hframe⟩ := fenced_effect s e
    obtain ⟨hmoved, hmovedReg⟩ := collMoved_moveGroups (fenced s e) e n
    have hcoll := moveGroups_coll (fenced s e) e n
    have hreg := fun o ho => reg_moveGroups (fenced s e) e n (o := o) ho
    generalize moveGroups (fenced s e) e n = t at hexec hmoved hmovedReg hcoll hreg
    generalize fenced s e = u at hkept hset hraised hlasting hlaunches hgroups hframe hmoved hmovedReg hcoll hreg
    have hflt : t.flt = u.flt := (congrArg State.flt hmoved :)
    refine ⟨t, hexec, ?_, ?_, ?_, ?_, ?_, ?_, ?_, ?_⟩
    · rw [isSet, getF, hreg _ (fun k => ?_)]
      · exact hset
      · simp only [RED_STATUS, RED_ACTIVE]
        omega
    · refine raised_andThen hraised (hmovedReg _ ?_) (hmovedReg _ ?_) hflt
      · simp only [FLT_CNT]; omega
      · have := e.isLt
        simp only [FLT_SRC]; omega
    · rw [hflt]
      exact hlasting
    · rw [hcoll]
      exact hlaunches
    · rw [hcoll]
      simp [hgroups]
    · intro i g hg
      refine ⟨Group.moveTo e n g, ?_, rfl, fun sh hsh => server_moveTo g e n hsh⟩
      rw [hcoll]
      simp [hgroups, hg]
    · intro o ho hactive
      rw [hreg o hactive]
      exact hkept o ho
    · exact (congrArg (fun v : State => { v with coll := s.coll, csr := s.csr, flt := s.flt, out := s.out }) hmoved).trans hframe

/-- Settles O31: its five parts. -/
theorem launchesAreAdmittedAndTimed : Obligations.LaunchesAreAdmittedAndTimed := by
  refine ⟨fun l s x g0 g j hrun h hstage hg0 hg hjob hset hjq heq hlost =>
      launchAdmit_settles l s x g0 g j hrun h hstage hg0 hg hjob hset hjq heq hlost,
    fun k s c x e hrun h hgap he hlt hretries => gapTimer_settles k s c x e hrun h hgap he.symm hlt hretries,
    fun k s c x hrun h hgap hretries hfound => gapTimer_breaks k s c x hrun h hgap hretries hfound,
    fun l s x j hrun h hstage hjob hset hplaced _ => dataTimeout_settles l s x j hrun h hstage hjob hset hplaced.1,
    fun e s n hrun hfenced => engineFence_settles e s n hrun hfenced⟩

end Sys2Proof.Proofs
end

section
/-! SUPPORT. A chunk that holds a term keeps a mark of it while its launch goes on (R99, R241): used to refute O26. Everything that
`advanceLaunch` can do is followed on one launch, its number `l` fixed. -/
namespace Sys2Proof.Proofs
open Sys2Proof.Machine Sys2Proof.Machine.Claims Sys2Proof.Laws

/-! ### The mark -/

/-- A chunk holds a term, or has been closed or sent since. -/
def Marked (c : Chunk) : Prop := c.staged ≠ [] ∨ c.closed = true ∨ c.sentUp = true

/-- Chunk 0 of engine 0 carries the mark. -/
def HasMark (cs : List Chunk) : Prop := ∃ c, cs.find? (fun y => y.engine == 0 && y.idx == 0) = some c ∧ Marked c

/-- So does `c`, if it is that chunk. -/
def MarkedIfFirst (c : Chunk) : Prop := c.engine = 0 → c.idx = 0 → Marked c

/-- The launch of number `l`, if there is one, has the mark. -/
def LaunchMarked (l : Nat) (s : State) : Prop := ∀ x, launch s l = some x → HasMark x.chunks

/-- Between two states the launch has ended or has the chunks that it had. -/
def ChunksKept (l : Nat) (s t : State) : Prop :=
  launch t l = none ∨ (launch t l).map Launch.chunks = (launch s l).map Launch.chunks

variable {l : Nat} {s t u : State} {g : Group} {x y : Launch} {c : Chunk}

theorem ChunksKept.refl (l : Nat) (s : State) : ChunksKept l s s := .inr rfl

theorem ChunksKept.trans (h : ChunksKept l s t) (h' : ChunksKept l t u) : ChunksKept l s u := by
  rcases h' with hnone | hsame
  · exact .inl hnone
  · rcases h with hnone | hsame'
    · rw [hnone] at hsame
      exact .inl (Option.map_eq_none_iff.mp hsame)
    · exact .inr (hsame.trans hsame')

theorem ChunksKept.foldl {β : Type} {f : State → β → State} (hf : ∀ t a, ChunksKept l t (f t a)) (as : List β) (s : State) :
    ChunksKept l s (as.foldl f s) := by
  induction as generalizing s with
  | nil => exact .refl l s
  | cons a as ih => exact (hf s a).trans (ih _)

theorem chunksKept_of_launches (h : t.coll.launches = s.coll.launches) : ChunksKept l s t := .inr (by unfold launch; rw [h])

theorem chunksKept_of_coll (h : t.coll = s.coll) : ChunksKept l s t := chunksKept_of_launches (by rw [h])

theorem LaunchMarked.kept (h : LaunchMarked l s) (hk : ChunksKept l s t) : LaunchMarked l t := by
  intro x hx
  rcases hk with hnone | hsame
  · rw [hnone] at hx
    cases hx
  · rw [hx] at hsame
    obtain ⟨y, hy, hchunks⟩ := Option.map_eq_some_iff.mp hsame.symm
    rw [← hchunks]
    exact h y hy

theorem launchMarked_of_none (h : launch s l = none) : LaunchMarked l s := fun x hx => by rw [h] at hx; cases hx

/-! ### The launch put back -/

/-- A launch put back is found, unless none of its number was there. -/
theorem launch_setLaunch_cases (s : State) (y : Launch) :
    launch (setLaunch s y) y.no = some y ∨ (launch (setLaunch s y) y.no = none ∧ launch s y.no = none) := by
  cases hx : launch s y.no with
  | some x => exact .inl (by have hno := launch_no hx; rw [← hno] at hx ⊢; exact (launch_setLaunch hx hno.symm).1)
  | none =>
    refine .inr ⟨?_, rfl⟩
    unfold launch setLaunch at *
    rw [List.find?_eq_none] at hx ⊢
    intro z hz
    obtain ⟨w, hw, rfl⟩ := List.mem_map.mp hz
    have := hx w hw
    split
    · rename_i hwy
      simp [hwy] at this
    · exact this

theorem launchMarked_put (hno : y.no = l) (h : HasMark y.chunks) : LaunchMarked l (setLaunch s y) := by
  subst hno
  intro z hz
  rcases launch_setLaunch_cases s y with hsome | ⟨hnone, _⟩
  · rw [hsome] at hz
    cases hz
    exact h
  · rw [hnone] at hz
    cases hz

theorem chunksKept_put (hx : launch s l = some x) (hno : y.no = l) (hchunks : y.chunks = x.chunks) :
    ChunksKept l s (setLaunch s y) := by
  subst hno
  rcases launch_setLaunch_cases s y with hsome | ⟨hnone, _⟩
  · exact .inr (by rw [hsome, hx]; exact congrArg some hchunks)
  · exact .inl hnone

/-- Two launches of one number with the same chunks. -/
def SameChunks (x y : Launch) : Prop := y.no = x.no ∧ y.chunks = x.chunks

theorem SameChunks.trans {z : Launch} (h : SameChunks x y) (h' : SameChunks y z) : SameChunks x z :=
  ⟨h'.1.trans h.1, h'.2.trans h.2⟩

theorem launchMarked_put_same (h : LaunchMarked l s) (hx : launch s l = some x) (hxy : SameChunks x y) :
    LaunchMarked l (setLaunch s y) := h.kept (chunksKept_put hx (hxy.1.trans (launch_no hx)) hxy.2)

/-- A launch put back appears under no number that was free. -/
theorem launch_none_put (h : launch s l = none) (y : Launch) : launch (setLaunch s y) l = none := by
  unfold launch setLaunch at *
  rw [List.find?_eq_none] at h ⊢
  intro z hz
  obtain ⟨w, hw, rfl⟩ := List.mem_map.mp hz
  have := h w hw
  split
  · rename_i hwy
    rwa [hwy] at this
  · exact this

/-! ### The chunk put back -/

theorem markedIfFirst_of_found {e i : Nat} (h : findChunk x e i = some c) (hx : HasMark x.chunks) : MarkedIfFirst c := by
  intro he hi
  have hkey := List.find?_some h
  rw [Bool.and_eq_true, beq_iff_eq, beq_iff_eq] at hkey
  obtain ⟨k, hk, hmark⟩ := hx
  have hsame : findChunk x e i = some k := by
    unfold findChunk
    rw [← hkey.1, ← hkey.2, he, hi]
    exact hk
  rw [h] at hsame
  cases hsame
  exact hmark

theorem hasMark_putChunk (hx : HasMark x.chunks) (hc : MarkedIfFirst c) : HasMark (putChunk x c).chunks := by
  obtain ⟨k, hk, hmark⟩ := hx
  unfold putChunk
  by_cases hkey : c.engine = 0 ∧ c.idx = 0
  · refine ⟨c, ?_, hc hkey.1 hkey.2⟩
    have hnone : (x.chunks.filter (fun y => !(y.engine == c.engine && y.idx == c.idx))).find?
        (fun y => y.engine == 0 && y.idx == 0) = none := by
      rw [List.find?_eq_none]
      intro z hz
      have := (List.mem_filter.mp hz).2
      rw [hkey.1, hkey.2, Bool.not_eq_true'] at this
      simp [this]
    rw [List.find?_append, hnone]
    simp [hkey]
  · refine ⟨k, ?_, hmark⟩
    have hfilter : (x.chunks.filter (fun y => !(y.engine == c.engine && y.idx == c.idx))).find?
        (fun y => y.engine == 0 && y.idx == 0) = some k := by
      rw [List.find?_filter, ← hk]
      refine List.find?_congr fun z _ => ?_
      rw [Bool.eq_iff_iff]
      simp only [decide_eq_true_eq, Bool.not_eq_true', Bool.and_eq_false_iff, beq_eq_false_iff_ne, Bool.and_eq_true, beq_iff_eq]
      constructor
      · exact fun hz => hz.2
      · rintro ⟨h1, h2⟩
        refine ⟨?_, h1, h2⟩
        by_contra hcon
        push Not at hcon
        exact hkey ⟨hcon.1 ▸ h1, hcon.2 ▸ h2⟩
    rw [List.find?_append, hfilter]
    rfl

/-- Chunks changed in place keep the mark when the change keeps it. -/
theorem hasMark_map {cs : List Chunk} {f : Chunk → Chunk} (hkey : ∀ k, (f k).engine = k.engine ∧ (f k).idx = k.idx)
    (hf : ∀ k, Marked k → Marked (f k)) (h : HasMark cs) : HasMark (cs.map f) := by
  obtain ⟨k, hk, hmark⟩ := h
  refine ⟨f k, ?_, hf k hmark⟩
  have hcomp : ((fun y : Chunk => y.engine == 0 && y.idx == 0) ∘ f) = fun y => y.engine == 0 && y.idx == 0 := by
    funext y
    simp [hkey y]
  rw [List.find?_map, hcomp, hk]
  rfl

/-! ### What leaves the chunks alone -/

/-- Launches changed in place, but for their chunks. -/
theorem chunksKept_map {f : Launch → Launch} (hf : ∀ x, (f x).no = x.no ∧ (f x).chunks = x.chunks)
    (h : t.coll.launches = s.coll.launches.map f) : ChunksKept l s t := by
  refine .inr ?_
  have hcomp : ((fun x : Launch => x.no == l) ∘ f) = fun x => x.no == l := by
    funext x
    simp [hf x]
  unfold launch
  rw [h, List.find?_map, hcomp, Option.map_map]
  congr 1
  funext x
  exact (hf x).2

theorem chunksKept_latchWaits (s : State) : ChunksKept l s (latchWaits s) :=
  chunksKept_map (f := fun x => { x with flows := x.flows.map (Flow.latch (latchProv s)) }) (fun _ => ⟨rfl, rfl⟩) (by simp [latchWaits])

theorem endLaunch_launches (s : State) (n status : Nat) (quietErr : Bool) :
    (endLaunch s n status quietErr).coll.launches = s.coll.launches.filter (fun y => y.no != n) := by
  cases h : launch s n with
  | none =>
    rw [endLaunch_of_none h, eq_comm, List.filter_eq_self]
    unfold launch at h
    rw [List.find?_eq_none] at h
    intro x hx
    simpa using h x hx
  | some x =>
    unfold endLaunch
    simp only [h]
    simp only [ite_coll, fault_keeps, ite_self, releaseStaging_keeps, lowerActive_keeps, countLaunches_keeps]
    refine congrArg _ ?_
    split
    · split
      · simp [setGroup]
      · split <;> simp [setGroup]
    · simp

/-- The end of a launch is the end of its number only. -/
theorem launch_endLaunch_self (s : State) (n status : Nat) (quietErr : Bool) : launch (endLaunch s n status quietErr) n = none := by
  unfold launch
  rw [endLaunch_launches, List.find?_eq_none]
  intro x hx
  simpa using (List.mem_filter.mp hx).2

theorem chunksKept_endLaunch (s : State) (n status : Nat) (quietErr : Bool) : ChunksKept l s (endLaunch s n status quietErr) := by
  by_cases hn : n = l
  · subst hn
    exact .inl (launch_endLaunch_self s n status quietErr)
  · refine .inr ?_
    unfold launch
    rw [endLaunch_launches, List.find?_filter]
    congr 2
    funext x
    by_cases hx : x.no = l
    · simp [hx, Ne.symm hn]
    · simp [hx]

end Sys2Proof.Proofs
end

section
/-! SUPPORT. `advanceLaunch` keeps the mark of a chunk (R99, R241): used to refute O26. -/
namespace Sys2Proof.Proofs
open Sys2Proof.Machine Sys2Proof.Machine.Claims Sys2Proof.Laws

variable {l : Nat} {s t : State} {g : Group} {x : Launch} {c : Chunk}

/-! ### The end of a launch -/

theorem launch_none_setCset (h : launch s l = none) (c : Cset) : launch (setCset s c) l = none := by
  unfold launch at *
  rw [setCset_coll]
  exact h

theorem launch_none_considerNext (h : launch s l = none) (c : Cset) : launch (considerNext s c) l = none := by
  unfold considerNext
  split
  · exact h
  · split
    · exact h
    · split
      · exact launch_none_put (launch_none_setCset h _) _
      · split
        · exact h
        · exact launch_none_setCset h _

theorem launch_none_passTurn (h : launch s l = none) (x : Launch) : launch (passTurn s x) l = none := by
  unfold passTurn
  split
  · exact h
  · exact launch_none_considerNext (launch_none_setCset h _) _

theorem launch_none_afterEnd (h : launch s l = none) (x : Launch) : launch (afterEnd s x) l = none := by
  unfold afterEnd
  split
  · split
    · exact h
    · exact launch_none_considerNext h _
  · exact h

theorem launch_none_finishLaunch (s : State) (hno : x.no = l) (status : Nat) (quietErr : Bool) :
    launch (finishLaunch s x status quietErr) l = none := by
  subst hno
  unfold finishLaunch
  simp only
  split
  · exact launch_none_passTurn (launch_endLaunch_self _ _ _ _) x
  · exact launch_none_afterEnd (launch_endLaunch_self _ _ _ _) x

theorem launchMarked_finishLaunch (s : State) (hno : x.no = l) (status : Nat) (quietErr : Bool) :
    LaunchMarked l (finishLaunch s x status quietErr) := launchMarked_of_none (launch_none_finishLaunch s hno status quietErr)

/-! ### Sending -/

theorem chunksKept_collSend (s : State) (g : Group) (e dst off kind fmt : Nat) (bytes : List Byte) :
    ChunksKept l s (collSend s g l e dst off kind fmt bytes) := by
  unfold collSend
  split
  · exact .refl l s
  · rename_i x hx
    exact (chunksKept_put (y := { x with unsent := x.unsent + 1 }) hx (launch_no (x := x) hx) rfl).trans (chunksKept_of_coll rfl)

theorem chunksKept_collDown (s : State) (g : Group) (e : Nat) (sh : Shard) (off kind fmt : Nat) (bytes : List Byte) :
    ChunksKept l s (collDown s g l e sh off kind fmt bytes) :=
  ChunksKept.foldl (fun t r => chunksKept_collSend t g e r off kind fmt bytes) _ s

theorem chunksKept_sendTxp (g : Group) (e dst : Nat) (ps : List (List (List Byte))) (off : Nat) (s : State) :
    ChunksKept l s (sendTxp g l e dst ps off s) := by
  induction ps generalizing off s with
  | nil => exact .refl l s
  | cons p ps ih => exact (chunksKept_collSend s g e dst off 1 fmtTxp p.flatten).trans (ih _ _)

theorem tellOthers_coll (s : State) (g : Group) : (tellOthers s g).coll = s.coll := by simp [tellOthers, fresh]

/-! ### DEST_ADDR -/

theorem putAt_coll {addr : Nat} {bs : List Byte} (h : putAt s x addr bs = .ok t) : t.coll = s.coll := by
  unfold putAt at h
  split at h
  · cases h
    rfl
  · split at h
    · cases h
    · split at h
      · cases h
      · rename_i k _ _ _
        have hframe := wrBytes_frame s k bs
        split at h
        · rename_i u hu
          cases h
          rw [hu] at hframe
          exact (congrArg State.coll hframe :)
        · cases h

theorem destWrite_coll {fmt off : Nat} {bs : List Byte} (h : destWrite s x fmt off bs = .ok t) : t.coll = s.coll :=
  putAt_coll h

theorem mxWrite_coll (h : mxWrite s x c = .ok t) : t.coll = s.coll := by
  unfold mxWrite at h
  split at h
  · cases h
    rfl
  · split at h
    · rename_i u hu
      exact (putAt_coll h).trans (destWrite_coll hu)
    · rename_i hnot
      exact absurd h (hnot t)

/-- A launch whose write failed ends; one whose write waits for a wake stays as it is. -/
theorem launchMarked_afterDst {d : Dst} {k : State → State} (h : LaunchMarked l s) (hno : x.no = l)
    (hk : ∀ t, d = .ok t → LaunchMarked l (k t)) : LaunchMarked l (afterDst s x d k) := by
  cases d with
  | ok t => exact hk t rfl
  | asleep u => exact h.kept (chunksKept_of_coll (by simp [afterDst]))
  | gone => exact launchMarked_finishLaunch s hno _ _
  | failed st w t => exact launchMarked_finishLaunch _ hno _ _

/-! ### One chunk -/

/-- A chunk put into the launch where it stands. -/
theorem launchMarked_putChunk {y : Launch} (h : LaunchMarked l s) (hy : launch s l = some y) (hc : MarkedIfFirst c) :
    LaunchMarked l (setLaunch s (putChunk y c)) := launchMarked_put (launch_no (x := y) hy) (hasMark_putChunk (h y hy) hc)

theorem launchMarked_deliver (h : LaunchMarked l s) (hno : x.no = l) (hc : MarkedIfFirst c) : LaunchMarked l (deliver s g x c) := by
  subst hno
  unfold deliver
  split
  · exact h
  · have hmark : ∀ t, LaunchMarked x.no t → LaunchMarked x.no
        (match launch t x.no with | some y => setLaunch t (putChunk y { c with sentDown := true }) | none => t) := by
      intro t ht
      split
      · rename_i y hy
        exact launchMarked_putChunk ht hy hc
      · exact ht
    simp only
    generalize (if x.op = 1 then (if (shardAt g c.shard).receiver = 0xFFFFF then g.own else (shardAt g c.shard).receiver)
      else x.root) = dst
    split
    · exact launchMarked_afterDst h rfl fun t ht => hmark t (h.kept (chunksKept_of_coll (destWrite_coll ht)))
    · refine hmark _ ?_
      unfold sendResult
      split
      · exact h
      · exact h.kept (chunksKept_collSend ..)

theorem launchMarked_pushDown {kind fmt : Nat} {codes : List Nat} (h : LaunchMarked l s) (hno : x.no = l) (hc : MarkedIfFirst c) :
    LaunchMarked l (pushDown s g x c kind fmt codes) := by
  subst hno
  refine launchMarked_afterDst h rfl fun t ht => ?_
  have hkept : LaunchMarked x.no t := h.kept (chunksKept_of_coll (destWrite_coll ht))
  refine LaunchMarked.kept ?_ (chunksKept_collDown ..)
  split
  · rename_i y hy
    exact launchMarked_putChunk hkept hy hc
  · exact hkept

/-- Chunks marked as sent, one after the other. -/
theorem hasMark_sentUp (cs : List Chunk) (h : HasMark x.chunks) :
    (cs.foldl (fun x y => putChunk x { y with sentUp := true }) x).no = x.no
      ∧ HasMark (cs.foldl (fun x y => putChunk x { y with sentUp := true }) x).chunks := by
  induction cs generalizing x with
  | nil => exact ⟨rfl, h⟩
  | cons c cs ih => exact ih (x := putChunk x { c with sentUp := true }) (hasMark_putChunk h fun _ _ => .inr (.inr rfl))

theorem launchMarked_sendUp (h : LaunchMarked l s) : LaunchMarked l (sendUp s g l c) := by
  unfold sendUp
  split
  · rename_i x p hx _
    have hmark := h x hx
    simp only
    split
    · exact h
    · split
      · generalize ((c.txps).filter (fun e => e.length == 48)).length = esc
        have hput : LaunchMarked l (setLaunch s (putChunk { x with escapes := x.escapes + esc } { c with sentUp := true, staged := [] })) :=
          launchMarked_put (launch_no (x := x) hx) (hasMark_putChunk (x := { x with escapes := x.escapes + esc }) hmark
            fun _ _ => .inr (.inr rfl))
        exact (hput.kept (chunksKept_of_coll (bump_coll ..))).kept (chunksKept_sendTxp ..)
      · split
        · exact h
        · rename_i off codes cs _
          obtain ⟨hno, hsent⟩ := hasMark_sentUp cs hmark
          exact (launchMarked_put (hno.trans (launch_no (x := x) hx)) hsent).kept (chunksKept_collSend ..)
  · exact h

/-! ### MX-scaled chunks -/

theorem chunksKept_mxSendOne (up : Bool) (s : State) (p : Nat) : ChunksKept l s (mxSendOne g l c up s p) := by
  unfold mxSendOne
  split
  · exact .refl l s
  · rename_i x hx
    split
    · exact .refl l s
    · split
      · exact .refl l s
      · have hput : ChunksKept l s (setLaunch s { x with mxSent := x.mxSent ++ [(c.shard, p, up)] }) :=
          chunksKept_put hx (launch_no (x := x) hx) rfl
        simp only
        split
        · split
          · exact hput.trans (chunksKept_collSend ..)
          · exact hput
        · exact hput.trans (chunksKept_collDown ..)

theorem launchMarked_mxSend {up : Bool} (h : LaunchMarked l s) : LaunchMarked l (mxSend s g l c up) := by
  unfold mxSend
  split
  · exact h
  · rename_i x _
    have hsent : LaunchMarked l ((mxPackets g x c).foldl (mxSendOne g l c up) s) :=
      h.kept (ChunksKept.foldl (fun t p => chunksKept_mxSendOne up t p) _ s)
    simp only
    split
    · exact hsent
    · rename_i y hy
      intro z hz
      obtain ⟨w, _, rfl⟩ := List.mem_map.mp (List.mem_of_find?_eq_some hz)
      have hno := launch_no hz
      split
      · rename_i hw
        rw [if_pos hw] at hno
        simp [hno] at hw
      · refine hasMark_map (fun k => ?_) (fun k hk => ?_) (hsent y hy)
        · split
          · split <;> exact ⟨rfl, rfl⟩
          · exact ⟨rfl, rfl⟩
        · split
          · split
            · exact .inr (.inr rfl)
            · exact hk
          · exact hk

theorem launchMarked_stepMx (h : LaunchMarked l s) (hno : x.no = l) (hc : MarkedIfFirst c) : LaunchMarked l (stepMx s g x c) := by
  subst hno
  unfold stepMx
  simp only
  split
  · exact launchMarked_mxSend h
  · split
    · split
      · exact launchMarked_mxSend h
      · refine launchMarked_afterDst h rfl fun t ht => ?_
        have hkept : LaunchMarked x.no t := h.kept (chunksKept_of_coll (mxWrite_coll ht))
        split
        · rename_i y hy
          exact launchMarked_mxSend (launchMarked_putChunk hkept hy hc)
        · exact hkept
    · exact h

/-! ### The work on a chunk -/

/-- Closing puts a closed chunk into the launch. -/
theorem closeChunk_puts (g : Group) (x : Launch) (c : Chunk) :
    ∃ y k, closeChunk g x c = putChunk y k ∧ y.no = x.no ∧ y.chunks = x.chunks ∧ k.closed = true := by
  unfold closeChunk
  simp only
  generalize (if ((shardAt g c.shard).owner == g.me) = true then (if x.combines = true then x.outFmt else x.inFmt) else x.partFmt) = fmt
  split <;> exact ⟨_, _, rfl, rfl, rfl, rfl⟩

theorem hasMark_closeChunk (h : HasMark x.chunks) : (closeChunk g x c).no = x.no ∧ HasMark (closeChunk g x c).chunks := by
  obtain ⟨y, k, heq, hno, hchunks, hclosed⟩ := closeChunk_puts g x c
  rw [heq]
  exact ⟨hno, hasMark_putChunk (hchunks ▸ h) fun _ _ => .inr (.inl hclosed)⟩

theorem launchMarked_stepChunk (h : LaunchMarked l s) (e i : Nat) : LaunchMarked l (stepChunk s l e i) := by
  unfold stepChunk
  split
  · exact h
  · rename_i x hx
    split
    · rename_i g c _ hc
      simp only
      generalize hready : (c.closeReq && !c.closed && c.full x (expected g x (shardAt g c.shard))) = ready
      have hno : (if ready = true then closeChunk g x c else x).no = l := by
        split
        · exact (hasMark_closeChunk (h x hx)).1.trans (launch_no hx)
        · exact launch_no hx
      have hmark : HasMark (if ready = true then closeChunk g x c else x).chunks := by
        split
        · exact (hasMark_closeChunk (h x hx)).2
        · exact h x hx
      generalize (if ready = true then closeChunk g x c else x) = x1 at hno hmark ⊢
      have hs : LaunchMarked l (if ready = true then setLaunch s { x1 with progress := now s } else s) := by
        split
        · exact launchMarked_put hno hmark
        · exact h
      generalize (if ready = true then setLaunch s { x1 with progress := now s } else s) = s1 at hs ⊢
      split
      · exact hs
      · rename_i k hk
        have hfirst := markedIfFirst_of_found hk hmark
        split
        · exact launchMarked_put hno (hasMark_putChunk hmark fun _ _ => .inr (.inr rfl))
        · split
          · exact launchMarked_stepMx hs hno hfirst
          · split
            · exact launchMarked_sendUp hs
            · split
              · exact launchMarked_deliver hs hno hfirst
              · split
                · split
                  · split
                    · split
                      · exact launchMarked_pushDown hs hno hfirst
                      · exact hs
                    · exact hs
                  · split
                    · exact launchMarked_pushDown hs hno hfirst
                    · exact hs
                · split
                  · exact launchMarked_pushDown hs hno hfirst
                  · exact hs
    · exact h

theorem launchMarked_advanceChunks (cs : List Chunk) (h : LaunchMarked l s) :
    LaunchMarked l (cs.foldl (fun s c => advanceChunk s l c.engine c.idx) s) := by
  induction cs generalizing s with
  | nil => exact h
  | cons c cs ih => exact ih (launchMarked_stepChunk (launchMarked_stepChunk h _ _) _ _)

/-! ### The herd check, the releases, and the end -/

theorem sameChunks_foldl {β : Type} {f : Launch → β → Launch} (hf : ∀ y r, SameChunks y (f y r)) (rs : List β) (x : Launch) :
    SameChunks x (rs.foldl f x) := by
  induction rs generalizing x with
  | nil => exact ⟨rfl, rfl⟩
  | cons r rs ih => exact ⟨(ih _).1.trans (hf x r).1, (ih _).2.trans (hf x r).2⟩

theorem sameChunks_foldl_fst {β γ : Type} {f : Launch × γ → β → Launch × γ} (hf : ∀ y r, SameChunks y.1 (f y r).1) (rs : List β)
    (x : Launch × γ) : SameChunks x.1 (rs.foldl f x).1 := by
  induction rs generalizing x with
  | nil => exact ⟨rfl, rfl⟩
  | cons r rs ih => exact ⟨(ih _).1.trans (hf x r).1, (ih _).2.trans (hf x r).2⟩

theorem herdWork_sameChunks (g : Group) (x : Launch) : SameChunks x (herdWork g x).1 := by
  unfold herdWork
  simp only
  generalize hy : List.foldl _ x x.leafReq = y
  have hleaves : SameChunks x y := by
    rw [← hy]
    refine sameChunks_foldl (fun z r => ?_) _ _
    obtain ⟨e, sh, rep, leaf⟩ := r
    simp only
    split <;> exact ⟨rfl, rfl⟩
  refine hleaves.trans (sameChunks_foldl_fst (fun z r => ?_) y.finalReq (y, []))
  split <;> exact ⟨rfl, rfl⟩

theorem objAdd_coll (s : State) (o v : Nat) : (objAdd s o v).coll = s.coll := by simp

theorem chunksKept_release (s : State) (o v : Nat) : ChunksKept l s (objAdd (latchWaits s) o v) :=
  (chunksKept_latchWaits s).trans (chunksKept_of_coll (objAdd_coll _ o v))

theorem chunksKept_releases (rs : List FlowSig) (s : State) :
    ChunksKept l s (rs.foldl (fun s r => objAdd (latchWaits s) r.obj r.v.toNat) s) :=
  ChunksKept.foldl (f := fun s (r : FlowSig) => objAdd (latchWaits s) r.obj r.v.toNat) (fun t _ => chunksKept_release t _ _) rs s

theorem launchMarked_fireSigs (h : LaunchMarked l s) : LaunchMarked l (fireSigs s l) := by
  unfold fireSigs
  split
  · exact h
  · rename_i x hx
    split
    · exact h
    · rename_i g _
      have hput : LaunchMarked l (setLaunch s { x with sigs := x.sigs.filter (fun r => !sigReady g x r) }) :=
        launchMarked_put_same h hx ⟨rfl, rfl⟩
      exact hput.kept (chunksKept_releases _ _)

theorem chunksKept_slotCredit (s : State) (k : Nat) : ChunksKept l s (slotCredit s k) := by
  unfold slotCredit
  simp only
  split
  · split
    · exact .refl l s
    · split
      · exact chunksKept_release s _ _
      · exact chunksKept_of_coll (by simp)
  · exact .refl l s

theorem chunksKept_slotStepEnd (s : State) (k n : Nat) : ChunksKept l s (slotStepEnd s k n) := by
  unfold slotStepEnd
  simp only
  split
  · exact ChunksKept.trans (chunksKept_of_coll (by simp)) (chunksKept_slotCredit _ _)
  · exact chunksKept_of_coll (by simp)

theorem chunksKept_endStep (s : State) (n status cause : Nat) : ChunksKept l s (endStep s n status cause) := by
  have hend : ∀ u : State, u.coll = s.coll →
      ChunksKept l s (nextDue (evalCore (if (Machine.core s n).slot.toNat < 64 then
        slotStepEnd u (Machine.core s n).slot.toNat (logicalOf u n) else u) n) n) := by
    intro u hu
    generalize hv : (if (Machine.core s n).slot.toNat < 64 then
      slotStepEnd u (Machine.core s n).slot.toNat (logicalOf u n) else u) = v
    have hkept : ChunksKept l s v := by
      rw [← hv]
      split
      · exact (chunksKept_of_coll hu).trans (chunksKept_slotStepEnd ..)
      · exact chunksKept_of_coll hu
    exact hkept.trans (chunksKept_of_coll (by simp))
  exact hend _ (by simp)

theorem chunksKept_stopSteps (s : State) (j cause : Nat) : ChunksKept l s (stopSteps s j cause) := by
  have hsteps : ChunksKept l s ((coresOfJob s j).foldl (fun t n =>
      if (Machine.core t n).running then endStep t n (if cause = 0x0D ∧ usedLostPath s n = true then 4 else 3) 0 else t) s) := by
    refine ChunksKept.foldl (fun t n => ?_) _ s
    split
    · exact chunksKept_endStep ..
    · exact .refl l t
  unfold stopSteps
  simp only
  split
  · exact hsteps.trans (chunksKept_of_coll (by simp))
  · exact hsteps

theorem chunksKept_endLaunches (s : State) (j status : Nat) : ChunksKept l s (endLaunches s j status) :=
  ChunksKept.foldl (f := fun s (x : Launch) => endLaunch s x.no status true) (fun t x => chunksKept_endLaunch t x.no status true) _ s

theorem chunksKept_stopJob (s : State) (j cause : Nat) : ChunksKept l s (stopJob s j cause) := by
  unfold stopJob
  split
  · exact .refl l s
  · rename_i x _
    have hstop : ∀ (u : State) (c : Cpl), u.coll = s.coll →
        ChunksKept l s (complete (endLaunches (stopSteps (stopJobAlarms (dropDue u j) j) j cause) j (launchStatusOf cause)) x.cq.toNat c) :=
      fun u c hu =>
        have hsteps : ChunksKept l s (stopSteps (stopJobAlarms (dropDue u j) j) j cause) :=
          (chunksKept_of_coll (by simp [hu])).trans (chunksKept_stopSteps _ j cause)
        (hsteps.trans (chunksKept_endLaunches _ j (launchStatusOf cause))).trans (chunksKept_of_coll (by simp))
    simp only
    split
    · exact hstop _ _ rfl
    · split
      · exact hstop _ _ (by simp)
      · exact hstop _ _ rfl

theorem chunksKept_jobFault (s : State) (src cause j : Nat) (detail : BitVec 32) : ChunksKept l s (jobFault s src cause j detail) :=
  (chunksKept_of_coll (by simp)).trans (chunksKept_stopJob _ _ _)

theorem launchMarked_judge (h : LaunchMarked l s) : LaunchMarked l (judge s l) := by
  unfold judge
  split
  · exact h
  · rename_i x hx
    split
    · exact h
    · rename_i g _
      split
      · exact h
      · split
        · exact h
        · rename_i t _
          generalize herdVerdict (liveReps _).length t = v
          obtain ⟨v, ex⟩ := v
          have hput : LaunchMarked l (tellOthers (setLaunch s { x with verdict := v, expelled := ex }) g) :=
            (launchMarked_put_same h hx ⟨rfl, rfl⟩ : LaunchMarked l (setLaunch s { x with verdict := v, expelled := ex })).kept
              (chunksKept_of_coll (tellOthers_coll _ _))
          simp only
          split
          · exact hput
          · split
            · exact hput.kept (chunksKept_of_coll (by simp))
            · exact (hput.kept (chunksKept_of_coll (setF_coll ..))).kept (chunksKept_jobFault ..)

theorem launchMarked_checkDone (h : LaunchMarked l s) : LaunchMarked l (checkDone s l) := by
  unfold checkDone
  split
  · exact h
  · rename_i x hx
    split
    · exact h
    · split
      · exact launchMarked_finishLaunch s (launch_no (x := x) hx) _ _
      · exact h

/-- A launch that goes on keeps the mark. -/
theorem launchMarked_advanceLaunch (h : LaunchMarked l s) : LaunchMarked l (advanceLaunch s l) := by
  unfold advanceLaunch
  split
  · exact h
  · rename_i x _
    have hchunks := launchMarked_advanceChunks x.chunks h
    simp only
    generalize x.chunks.foldl (fun s c => advanceChunk s l c.engine c.idx) s = s1 at hchunks ⊢
    refine launchMarked_checkDone (launchMarked_judge (launchMarked_fireSigs ?_))
    split
    · rename_i x hx
      split
      · rename_i g _
        have hput : LaunchMarked l (setLaunch s1 { (herdWork g x).1 with progress := now s1 }) :=
          launchMarked_put_same hchunks hx (herdWork_sameChunks g x)
        split
        · exact hchunks
        · split
          · exact hput
          · exact hput.kept (chunksKept_of_coll (tellOthers_coll _ _))
      · exact hchunks
    · exact hchunks

end Sys2Proof.Proofs
end

section
/-! SETTLES O26. A packet for a device whose members' data the engine above a KV6 takes (R91) enters no chunk. -/
namespace Sys2Proof.Proofs
open Sys2Proof.Machine Sys2Proof.Machine.Claims Sys2Proof.Laws

/-- Group 1 of job 1: this device, index 0 and holder of the member of rank 0, lies below device 1, and that below device 2,
the owner of the shard. -/
def belowGroup : Group :=
  { gid := 1, cset := 0xFFFF, job := 1, herdK := 1, vc := 0, replicas := 1, devices := [0, 1, 2], members := [(0, 0, 0)],
    shards := [⟨2, 0, [(1, 0), (2, 0), (0xFFFF, 0)]⟩], me := 0, digest := 0, expelled := 0, stats := [], lost := false, moved := [], fwd := [] }

/-- Chunk 0 of engine 0, open and empty. -/
def emptyChunk : Chunk :=
  { engine := 0, idx := 0, shard := 0, first := 0, len := 512, opened := true, staged := [], closeReq := false, closed := false,
    result := none, got := [], downReq := false, fwdReq := false, sentDown := false, sentUp := false, scales := [], sourced := false,
    written := false }

/-- A REDUCE of 512 elements, admitted when device 1 was found to be a KV6. -/
def belowLaunch : Launch :=
  { Launch.fresh 0 1 ([BitVec.ofNat 64 (2 ^ 24 + 2 ^ 32 + 0xFFFF * 2 ^ 48), BitVec.ofNat 64 (2 ^ 32), 512] ++ List.replicate 21 0) 1 0 with
    stage := 2, flows := [Flow.start 0], chunks := [emptyChunk], fwd := [1] }

/-- One FP32 element of rank 0 for the launch. -/
def rankPacket : Pkt :=
  { no := 0, p := mkPacket { type := 1, vc := 0, job := 1, group := 1, lseq := 0 } [1, 2, 3, 4], die := 0, port := none, input := 0,
    key := 0, arrived := 0, vc := 0, twin := 0, injected := false, buf := none, dest := .here, hold := 0, since := 0, deferred := false,
    whole := true, owner := none }

/-- A running device with the group, the launch and the packet. -/
def belowState : State :=
  { State.reset with
    boot := { State.reset.boot with porst := false, perst := false, up := true, opened := true, pcieUp := true },
    coll := { State.reset.coll with groups := [belowGroup], launches := [belowLaunch] },
    net := { State.reset.net with locals := [rankPacket] } }

/-- The group as the launch sees it. -/
def belowView : Group := belowLaunch.view belowGroup

/-- After COLL_PACKET the launch stands with its chunk empty: neither staged, nor closed, nor sent. -/
def leavesChunkEmpty (o : Host.Outcome State Fault Refusal) : Bool :=
  match o with
  | .next t => (launch t 0).any (fun x => x.chunks == [emptyChunk])
  | _ => false

theorem belowState_meets :
    running belowState = true ∧ localPkt belowState 0 = some rankPacket
      ∧ belowState.coll.launches.find? (fun x => x.job == rankPacket.p.job && x.gid == rankPacket.p.group && x.seq == rankPacket.p.lseq)
          = some belowLaunch
      ∧ launchGroup belowState belowLaunch = some belowView ∧ belowView.expels rankPacket.p.input = false
      ∧ (contributors belowView belowLaunch).any (fun m => m.1 == rankPacket.p.input && m.2.2 == belowView.me) = true
      ∧ (pktTerms false rankPacket.p).length = 1
      ∧ touchesOpen belowView belowLaunch rankPacket.p.offset (pktTerms false rankPacket.p).length = true
      ∧ rankPacket.p.type = 1 ∧ rankPacket.p.fence = false ∧ rankPacket.hold ≤ 1 ∧ rankPacket.p.stomp = false ∧ rankPacket.p.ckind = 0
      ∧ belowLaunch.op ≤ 1
      ∧ launchElem belowView belowLaunch rankPacket.p.offset = some (0, 0, 0) ∧ findChunk belowLaunch 0 0 = some emptyChunk := by
  (repeat' apply And.intro) <;> decide +kernel

theorem belowState_leavesChunkEmpty : leavesChunkEmpty (exec (.collPacket 0 true) belowState) = true := by decide +kernel

/-- A chunk with a term staged is marked. -/
theorem hasMark_of_findChunk {x : Launch} {c : Chunk} (h : findChunk x 0 0 = some c) (hmark : Marked c) : HasMark x.chunks := ⟨c, h, hmark⟩

theorem not_hasMark_emptyChunk : ¬ HasMark [emptyChunk] := by
  rintro ⟨c, hc, hmark⟩
  cases hc
  rcases hmark with h | h | h
  · exact h rfl
  · cases h
  · cases h

/-- The empty chunk is no state that a launch with a staged term comes to. -/
theorem not_leavesChunkEmpty_of_marked {t : State} (h : LaunchMarked 0 t) : leavesChunkEmpty (.next (advanceLaunch t 0)) = false := by
  rw [Bool.eq_false_iff]
  intro hempty
  simp only [leavesChunkEmpty, Option.any_eq_true, beq_iff_eq] at hempty
  obtain ⟨x, hx, hchunks⟩ := hempty
  have hmark := launchMarked_advanceLaunch h x hx
  rw [hchunks] at hmark
  exact not_hasMark_emptyChunk hmark

/-- Refutes O26: a COLL packet of a member of this device, in a launch that found a KV6 above this device, is taken by neither
a chunk nor a counter here, for the member's data enter at the engine above the KV6 (R91, `expected`); the statement stages it. -/
theorem not_launchesProceed : ¬ Obligations.LaunchesProceed := by
  rintro ⟨_, hpackets⟩
  obtain ⟨hrun, hlocal, hfind, hgroup, hexpels, hmember, hone, hopen, htype, hfence, hhold, hstomp, hkind, hop, helem,
    hchunk⟩ := belowState_meets
  obtain ⟨t0, hexec, _, hstaged⟩ := (hpackets belowState 0 rankPacket hrun hlocal htype hfence hhold).1 belowLaunch belowView hfind rfl
    hgroup hstomp hkind hop hexpels hmember hopen rfl
  obtain ⟨x, hx, hfound, _⟩ := hstaged 0 0 0 emptyChunk helem hchunk hone
  have hmarked : LaunchMarked 0 t0 := by
    intro y hy
    rw [show belowLaunch.no = 0 from rfl, hy] at hx
    cases hx
    refine hasMark_of_findChunk hfound (.inl ?_)
    rw [if_neg (by simp [emptyChunk, Chunk.has])]
    intro hnil
    have hlen := congrArg List.length hnil
    rw [List.length_append, List.length_map, hone] at hlen
    cases hlen
  have hempty := belowState_leavesChunkEmpty
  rw [hexec, show belowLaunch.no = 0 from rfl, not_leavesChunkEmpty_of_marked hmarked] at hempty
  cases hempty

end Sys2Proof.Proofs
end

section
/-! SUPPORT. Packets that this device consumes: what their delivery keeps (R250, R276, R282), used to settle O35. -/
namespace Sys2Proof.Proofs
open Sys2Proof.Machine Sys2Proof.Machine.Claims Sys2Proof.Laws

variable {s t u : State}

/-! ### What a port keeps when buffers and credits move (R254, R255) -/

/-- The part of a port that transmission writes: its queue, what is under way, its replay buffer, its number and its time. -/
def sendPart (x : PortSt) : List Pkt × Option (Pkt × Packet) × List (BitVec 12 × Packet) × BitVec 12 × Word :=
  (x.q, x.cut, x.replay, x.txSeq, x.busyUntil)

/-- Between two states the senders' streams and that part of each port stay. -/
def SendingKept (s t : State) : Prop := t.net.senders = s.net.senders ∧ ∀ q, sendPart (port t q) = sendPart (port s q)

theorem SendingKept.refl (s : State) : SendingKept s s := ⟨rfl, fun _ => rfl⟩

theorem SendingKept.trans (h : SendingKept s t) (h' : SendingKept t u) : SendingKept s u :=
  ⟨h'.1.trans h.1, fun q => (h'.2 q).trans (h.2 q)⟩

theorem sendingKept_of_net (h : t.net = s.net) : SendingKept s t := ⟨by rw [h], fun q => by unfold port; rw [h]⟩

/-- The network moves but for the senders and the ports. -/
theorem sendingKept_with_net {n : Net} (hsenders : n.senders = s.net.senders) (hports : n.ports = s.net.ports) :
    SendingKept s { s with net := n } := ⟨hsenders, fun q => congrArg (fun ps => sendPart (mapGet (fun _ => PortSt.init) ps q)) hports⟩

theorem sendingKept_setPort (s : State) {p : Nat} {x : PortSt} (h : sendPart x = sendPart (port s p)) : SendingKept s (setPort s p x) := by
  refine ⟨rfl, fun q => ?_⟩
  by_cases hq : q = p
  · subst hq
    rw [port_setPort_same, h]
  · rw [port_setPort_other _ _ _ _ hq]

theorem SendingKept.foldl {β : Type} {f : State → β → State} (hf : ∀ t a, SendingKept t (f t a)) (as : List β) (s : State) :
    SendingKept s (as.foldl f s) := by
  induction as generalizing s with
  | nil => exact .refl s
  | cons a as ih => exact (hf s a).trans (ih _)

theorem sendingKept_clearBit (s : State) (k : Nat) : SendingKept s (clearBit s k) := sendingKept_with_net rfl rfl

theorem sendingKept_setBit (s : State) (d pool : Nat) : SendingKept s (setBit s d pool) := sendingKept_with_net rfl rfl

theorem sendingKept_giveBuf (s : State) (d r pool k : Nat) : SendingKept s (giveBuf s d r pool k) := by
  refine (sendingKept_clearBit s k).trans (sendingKept_of_net ?_)
  unfold giveBuf
  dsimp only
  split <;> rfl

theorem sendingKept_takeBuf (s : State) (d r pool : Nat) : SendingKept s (takeBuf s d r pool) := by
  refine (sendingKept_setBit s d pool).trans (sendingKept_of_net ?_)
  unfold takeBuf
  dsimp only
  split <;> rfl

theorem sendingKept_allocate (s : State) (d r pool : Nat) (credit : Option (Nat × Nat)) : SendingKept s (allocate s d r pool credit).1 := by
  have hfall : ∀ fb, SendingKept s (bump s (SWC_CNT_FALLBACK d) SWC_CNT_FALLBACK_COUNT fb) := fun fb => sendingKept_of_net (bump_net ..)
  unfold allocate
  split
  · dsimp only
    split
    · exact hfall _
    · exact (hfall _).trans (sendingKept_takeBuf ..)
  · split
    · exact .refl s
    · exact sendingKept_with_net rfl rfl

theorem sendingKept_creditOn (s : State) (p v pool : Nat) : SendingKept s (creditOn s p v pool) := by
  unfold creditOn
  split
  · exact sendingKept_setPort s rfl
  · exact sendingKept_with_net rfl rfl

theorem sendingKept_grantCredit (s : State) (p v pool : Nat) : SendingKept s (grantCredit s p v pool) := by
  have halloc := sendingKept_allocate s (creditor p).1 (creditor p).2 pool (some (p, v))
  unfold grantCredit
  dsimp only
  split
  · exact sendingKept_with_net rfl rfl
  · split
    · rename_i t heq
      rwa [heq] at halloc
    · rename_i t q heq
      rw [heq] at halloc
      exact halloc.trans (sendingKept_creditOn t p v q)

theorem sendingKept_returnCredit (s : State) (p v twin code : Nat) : SendingKept s (returnCredit s p v twin code) := by
  unfold returnCredit
  split
  · exact sendingKept_grantCredit ..
  · split
    · exact .refl s
    · split
      · split
        · exact sendingKept_with_net rfl rfl
        · exact sendingKept_setPort s rfl
      · split
        · exact .refl s
        · exact sendingKept_grantCredit ..

theorem sendingKept_releaseBuf (s : State) (b : Buf) (owner : Option Nat) : SendingKept s (releaseBuf s b owner) := by
  have hocc : SendingKept s { s with net := { s.net with occ := s.net.occ.erase (bitOf b.die b.pool b.idx) } } :=
    sendingKept_with_net rfl rfl
  unfold releaseBuf
  dsimp only
  split
  · (repeat' split)
    · exact sendingKept_with_net rfl rfl
    · exact hocc.trans (sendingKept_returnCredit ..)
    · exact hocc.trans (sendingKept_giveBuf ..)
    · exact (hocc.trans (sendingKept_giveBuf ..)).trans (sendingKept_returnCredit ..)
  · (repeat' split)
    · exact hocc
    · exact hocc.trans (sendingKept_clearBit ..)
    · exact hocc.trans (sendingKept_giveBuf ..)

/-! ### The registers above the switch core's -/

/-- The registers from the reduction engines' on stay. -/
def HighKept (s t : State) : Prop := ∀ o, 0x4000000 ≤ o → reg t o = reg s o

theorem HighKept.refl (s : State) : HighKept s s := fun _ _ => rfl

theorem HighKept.trans (h : HighKept s t) (h' : HighKept t u) : HighKept s u := fun o ho => (h' o ho).trans (h o ho)

theorem highKept_of_csr (h : t.csr = s.csr) : HighKept s t := fun o _ => by unfold reg; rw [h]

theorem HighKept.setF (h : HighKept s t) {off : Nat} (hoff : off < 0x4000000) (f : Fld) (v : Nat) : HighKept s (setF t off f v) :=
  h.trans fun o ho => reg_setReg_other t off o _ (by omega)

theorem HighKept.bump (h : HighKept s t) {off : Nat} (hoff : off < 0x4000000) (f : Fld) (v : Nat) : HighKept s (bump t off f v) :=
  h.trans fun o ho => reg_setReg_other t off o _ (by omega)

section
variable {d r pool : Nat}

theorem swcQuota_low (hd : d < 4) (hr : r < 37) (hpool : pool < 4) : SWC_QUOTA d r pool < 0x4000000 := by simp only [SWC_QUOTA]; omega
theorem swcPoolStat_low (hd : d < 4) (hpool : pool < 4) : SWC_POOL_STAT d pool < 0x4000000 := by simp only [SWC_POOL_STAT]; omega
theorem swcFallback_low (hd : d < 4) : SWC_CNT_FALLBACK d < 0x4000000 := by simp only [SWC_CNT_FALLBACK]; omega
theorem swcAllocWait_low (hd : d < 4) : SWC_CNT_ALLOC_WAIT d < 0x4000000 := by simp only [SWC_CNT_ALLOC_WAIT]; omega
theorem swcStatus_low (hd : d < 4) : SWC_STATUS d < 0x4000000 := by simp only [SWC_STATUS]; omega

theorem highKept_giveBuf (s : State) (r k : Nat) (hd : d < 4) (hpool : pool < 4) : HighKept s (giveBuf s d r pool k) := by
  have hbit : HighKept s (clearBit s k) := highKept_of_csr rfl
  unfold giveBuf
  dsimp only
  split
  · rename_i hr
    exact (hbit.setF (swcQuota_low hd hr hpool) _ _).setF (swcPoolStat_low hd hpool) _ _
  · exact hbit.setF (swcPoolStat_low hd hpool) _ _

theorem highKept_takeBuf (s : State) (r : Nat) (hd : d < 4) (hpool : pool < 4) : HighKept s (takeBuf s d r pool) := by
  have hbit : HighKept s (setBit s d pool) := highKept_of_csr rfl
  unfold takeBuf
  dsimp only
  split
  · rename_i hr
    exact ((hbit.setF (swcQuota_low hd hr hpool) _ _).setF (swcPoolStat_low hd hpool) _ _).setF (swcPoolStat_low hd hpool) _ _
  · exact (hbit.setF (swcPoolStat_low hd hpool) _ _).setF (swcPoolStat_low hd hpool) _ _

/-- A fallback stays within the four pools. -/
theorem allocFrom_got_lt (k fb : Nat) {q n : Nat} (hpool : pool < 4) (h : allocFrom s d r k pool fb = (.got q, n)) : q < 4 := by
  induction k generalizing pool fb with
  | zero => cases h
  | succ k ih =>
    unfold allocFrom at h
    split at h
    · cases h
      exact hpool
    · split at h
      · cases h
      · split at h
        · exact ih (fb + 1) (by omega) h
        · split at h
          · cases h
            decide
          · cases h

theorem highKept_allocate (s : State) (r : Nat) (credit : Option (Nat × Nat)) (hd : d < 4) (hpool : pool < 4) :
    HighKept s (allocate s d r pool credit).1 := by
  have hfall : ∀ fb, HighKept s (bump s (SWC_CNT_FALLBACK d) SWC_CNT_FALLBACK_COUNT fb) :=
    fun fb => (HighKept.refl s).bump (swcFallback_low hd) _ _
  unfold allocate
  split
  · rename_i q fb heq
    dsimp only
    split
    · exact hfall fb
    · exact (hfall fb).trans (highKept_takeBuf _ r hd (allocFrom_got_lt 3 0 hpool heq))
  · split
    · exact .refl s
    · rename_i fb _ _
      exact ((hfall fb).bump (swcAllocWait_low hd) SWC_CNT_ALLOC_WAIT_COUNT 1).setF (swcStatus_low hd) SWC_STATUS_ALLOC_WAITING 1

end

theorem highKept_creditOn (s : State) (p v pool : Nat) : HighKept s (creditOn s p v pool) := by
  unfold creditOn
  split <;> exact highKept_of_csr rfl

theorem creditor_lt (p : Nat) : (creditor p).1 < 4 := by
  unfold creditor
  split <;> exact Nat.mod_lt _ (by decide)

theorem highKept_grantCredit (s : State) (p v : Nat) {pool : Nat} (hpool : pool < 4) : HighKept s (grantCredit s p v pool) := by
  have halloc := highKept_allocate s (creditor p).2 (some (p, v)) (creditor_lt p) hpool
  unfold grantCredit
  dsimp only
  split
  · exact highKept_of_csr rfl
  · split
    · rename_i t heq
      rwa [heq] at halloc
    · rename_i t q heq
      rw [heq] at halloc
      exact halloc.trans (highKept_creditOn t p v q)

theorem highKept_returnCredit (s : State) (p v twin : Nat) {code : Nat} (hcode : code < 4) : HighKept s (returnCredit s p v twin code) := by
  have hgrant := highKept_grantCredit s p v hcode
  unfold returnCredit
  (repeat' split)
  · exact hgrant
  · exact .refl s
  · exact highKept_of_csr rfl
  · exact highKept_of_csr rfl
  · exact .refl s
  · exact hgrant

theorem highKept_releaseBuf (s : State) {b : Buf} (owner : Option Nat) (hdie : b.die < 4) (hpool : b.pool < 4)
    (hback : ∀ y, b.back = some y → y.2.2.2 < 4) : HighKept s (releaseBuf s b owner) := by
  have hocc : HighKept s { s with net := { s.net with occ := s.net.occ.erase (bitOf b.die b.pool b.idx) } } := highKept_of_csr rfl
  unfold releaseBuf
  dsimp only
  split
  · rename_i p v twin code hb
    have hcode : code < 4 := hback _ hb
    (repeat' split)
    · exact highKept_of_csr rfl
    · exact hocc.trans (highKept_returnCredit _ _ _ _ (by decide))
    · exact hocc.trans (highKept_giveBuf _ _ _ hdie (by decide))
    · exact (hocc.trans (highKept_giveBuf _ _ _ hdie hpool)).trans (highKept_returnCredit _ _ _ _ hcode)
  · (repeat' split)
    · exact hocc
    · exact highKept_of_csr rfl
    · exact hocc.trans (highKept_giveBuf _ _ _ hdie hpool)

/-- A packet that holds its buffer gives it back. -/
theorem freePkt_releases {x : Pkt} (hbuf : HoldsBuf s x) (hbits : t.net.bits = s.net.bits) :
    BuffersMoved t (freePkt t x) ∧ SendingKept t (freePkt t x) ∧ HighKept t (freePkt t x) := by
  unfold freePkt
  split
  · rename_i b hb
    obtain ⟨hdie, _, hpool, hset, hback⟩ := hbuf b hb
    rw [← hbits] at hset
    rw [freeBuf, if_pos hset]
    exact ⟨buffersMoved_releaseBuf t b x.owner, sendingKept_releaseBuf t b x.owner,
      highKept_releaseBuf t x.owner hdie hpool fun y hy => (hback y hy).2.2.2⟩
  · exact ⟨.refl t, .refl t, .refl t⟩

theorem packetGone_of_no_owner (s : State) {x : Pkt} (h : x.owner = none) : packetGone s x = s := by
  simp only [packetGone, packetLeft, h]

/-! ### Delivery -/

/-- Counting a delivery leaves the senders. -/
theorem countDelivered_senders (s : State) (d : Nat) (p : Packet) : (countDelivered s d p).net.senders = s.net.senders := by
  unfold countDelivered
  dsimp only
  split
  · rfl
  · split
    · split <;> rfl
    · rfl

theorem releaseHeld_senders (s : State) (d : Nat) (st : Stream) : (releaseHeld s d st).net.senders = s.net.senders := by
  unfold releaseHeld
  split <;> rfl

/-- A packet's delivery leaves the senders' streams, and the registers above the switch core's. -/
theorem deliverLocal_keeps {x : Pkt} (hbuf : HoldsBuf s x) (howner : x.owner = none) (hfence : x.p.fence = false) :
    (deliverLocal s x.die x).net.senders = s.net.senders ∧ HighKept s (deliverLocal s x.die x) := by
  obtain ⟨_, ⟨hsenders, _⟩, hhigh⟩ := freePkt_releases (t := withoutLocal s x.no) hbuf rfl
  have htaken : takeLocal s x = freePkt (withoutLocal s x.no) x := packetGone_of_no_owner _ howner
  have hdelivered : deliverLocal s x.die x = releaseHeld (countDelivered (takeLocal s x) x.die x.p) x.die (streamOf x.p) := by
    simp only [deliverLocal, fenceAck, hfence, Bool.false_and, Bool.false_eq_true, if_false]
  rw [hdelivered, htaken]
  generalize freePkt (withoutLocal s x.no) x = v at hsenders hhigh ⊢
  refine ⟨by rw [releaseHeld_senders, countDelivered_senders, hsenders]; rfl, fun o ho => ?_⟩
  have hcounted := (countDelivered_frame v x.die x.p).2.2 o (by simp [HUB_CNT_FENCE_UNTRACKED, HUB_RT_STATUS]; omega)
  have hreleased := (releaseHeld_frame (countDelivered v x.die x.p) x.die (streamOf x.p)).1
  generalize countDelivered v x.die x.p = w at hcounted hreleased ⊢
  generalize releaseHeld w x.die (streamOf x.p) = r at hreleased ⊢
  have hreg : reg r o = reg w o := (congrArg (fun z : State => mapGet coldValue z.csr o) hreleased :)
  rw [hreg, hcounted, hhigh o ho]
  rfl

/-- The map of the logical cores stays with the registers that hold it. -/
theorem coreOf_of_highKept (h : HighKept s t) (l : Nat) : coreOf t l = coreOf s l := by
  have hmap : ∀ f, getF t (CLU_MAP ((5 * (l / 4) + l % 4) / 5)) f = getF s (CLU_MAP ((5 * (l / 4) + l % 4) / 5)) f :=
    fun f => congrArg (fget f) (h _ (by simp only [CLU_MAP]; omega))
  unfold coreOf physOf
  simp only [hmap]

end Sys2Proof.Proofs
end

section
/-! SUPPORT. CTRL, MGMT and REFUSE packets are consumed (R120, R149, R250, R281, R289): the first part of O35. -/
namespace Sys2Proof.Proofs
open Sys2Proof.Machine Sys2Proof.Machine.Claims Sys2Proof.Laws

variable {s t u : State} {k type : Nat} {x : Pkt}

/-! ### A delivered packet -/

/-- `u` is `s` after packet `k`, `x`, has been delivered: it is gone and counted, and beside it only buffers, credits and the
switch core's registers have moved. -/
structure Delivered (s u : State) (k : Nat) (x : Pkt) : Prop where
  consumed : Consumed s u k x.die x
  gone : ∀ y ∈ u.net.locals, y.no ≠ k
  frame : { u with net := s.net, csr := s.csr } = s
  low : ∀ o, o < 0x2000000 → o ≠ HUB_CNT_FENCE_UNTRACKED → o ≠ HUB_RT_STATUS → reg u o = reg s o
  senders : u.net.senders = s.net.senders
  high : HighKept s u

theorem deliverLocal_gone (hpkt : localPkt s k = some x) (hbuf : HoldsBuf s x) (howner : x.owner = none) (hfence : x.p.fence = false) :
    ∀ y ∈ (deliverLocal s x.die x).net.locals, y.no ≠ k := by
  have hdelivered : deliverLocal s x.die x = releaseHeld (countDelivered (takeLocal s x) x.die x.p) x.die (streamOf x.p) := by
    simp only [deliverLocal, fenceAck, hfence, Bool.false_and, Bool.false_eq_true, if_false]
  rw [hdelivered]
  refine (releaseHeld_frame _ _ _).2.2 k fun y hy => ?_
  rw [(countDelivered_frame _ _ _).2.1, (takeLocal_moves hbuf howner).2.1] at hy
  rw [← localPkt_no hpkt]
  simpa using (List.mem_filter.mp hy).2

theorem delivered_of_arrived (harr : Arrived s k x type) (hfence : x.p.fence = false) : Delivered s (deliverLocal s x.die x) k x := by
  obtain ⟨_, hpkt, _, _, _, howner, _, hbuf, _, _⟩ := harr
  obtain ⟨hconsumed, hframe, hlow⟩ := deliverLocal_consumes hpkt hbuf howner hfence
  obtain ⟨hsenders, hhigh⟩ := deliverLocal_keeps hbuf howner hfence
  exact ⟨hconsumed, deliverLocal_gone hpkt hbuf howner hfence, hframe, hlow, hsenders, hhigh⟩

/-- What follows a delivery without a change to the packets and streams leaves the packet consumed. -/
theorem Delivered.consumed_after (h : Delivered s u k x) (hlocals : t.net.locals = u.net.locals) (hstreams : t.net.streams = u.net.streams) :
    Consumed s t k x.die x := by
  obtain ⟨_, hcount, hroom⟩ := h.consumed
  refine ⟨localPkt_eq_none (by rw [hlocals]; exact h.gone), fun e he => ?_, fun hnone hfree => ?_⟩
  · rw [streamFind_congr hstreams, hcount e he]
  · rw [streamFind_congr hstreams, hroom hnone hfree]

theorem Delivered.coll (h : Delivered s u k x) : u.coll = s.coll := (congrArg State.coll h.frame :)
theorem Delivered.jobs (h : Delivered s u k x) : u.jobs = s.jobs := (congrArg State.jobs h.frame :)
theorem Delivered.cores (h : Delivered s u k x) : u.cores = s.cores := (congrArg State.cores h.frame :)
theorem Delivered.flt (h : Delivered s u k x) : u.flt = s.flt := (congrArg State.flt h.frame :)
theorem Delivered.out (h : Delivered s u k x) : u.out = s.out := (congrArg State.out h.frame :)
theorem Delivered.free (h : Delivered s u k x) : u.free = s.free := (congrArg State.free h.frame :)
theorem Delivered.now (h : Delivered s u k x) : now u = now s := (congrArg Machine.now h.frame :)

theorem Delivered.core (h : Delivered s u k x) (n : Nat) : Machine.core u n = Machine.core s n := by unfold Machine.core; rw [h.cores]

theorem Delivered.launch (h : Delivered s u k x) (l : Nat) : Machine.launch u l = Machine.launch s l := launch_of_coll_eq h.coll l

/-! ### The commands -/

theorem exec_ctrlPacket (harr : Arrived s k x 4) (hfence : x.p.fence = false) (c : CtrlContent) :
    exec (.ctrlPacket k c) s = .next (takeCtrl (deliverLocal s x.die x) x.p c) := by
  obtain ⟨hrun, hpkt, htype, hstomp, hhold, _⟩ := harr
  show execCtrlPacket k c s = _
  rw [execCtrlPacket, ifRunning_eq hrun]
  simp only [hpkt, htype, if_true, underFence_of_no_fence s x.die _ hfence hhold, hstomp, Bool.false_eq_true, if_false]

theorem exec_mgmtPacket (harr : Arrived s k x 6) (hfence : x.p.fence = false) :
    exec (.mgmtPacket k) s = .next (emit (deliverLocal s x.die x) (.mgmt (portOf x) x.p)) := by
  obtain ⟨hrun, hpkt, htype, hstomp, hhold, _⟩ := harr
  show execMgmtPacket k s = _
  rw [execMgmtPacket, ifRunning_eq hrun]
  simp only [hpkt, htype, if_true, underFence_of_no_fence s x.die _ hfence hhold, hstomp, Bool.false_eq_true, if_false]

theorem exec_refusePacket (harr : Arrived s k x 7) (hfence : x.p.fence = false) :
    exec (.refusePacket k) s = .next (endRefused (deliverLocal s x.die x) x.p) := by
  obtain ⟨hrun, hpkt, htype, hstomp, hhold, _⟩ := harr
  show execRefusePacket k s = _
  rw [execRefusePacket, ifRunning_eq hrun]
  simp only [hpkt, htype, if_true, underFence_of_no_fence s x.die _ hfence hhold, hstomp, Bool.false_eq_true, if_false]

/-! ### Acknowledgements (R281) -/

theorem sender_st (s : State) (st : Stream) : (sender s st).st = st := by
  unfold sender
  cases h : s.net.senders.find? (fun e => e.st == st) with
  | none => rfl
  | some e =>
    have hkey := List.find?_some h
    simpa using hkey

theorem sender_setSender_same (s : State) (y : SendStream) : sender (setSender s y) y.st = y := by
  have hrest : (s.net.senders.filter (fun e => e.st != y.st)).find? (fun e => e.st == y.st) = none := by
    rw [List.find?_eq_none]
    intro e he
    simpa using (List.mem_filter.mp he).2
  unfold sender setSender
  simp only
  split
  · rename_i hempty
    obtain ⟨st, n, unacked⟩ := y
    obtain ⟨rfl, rfl⟩ := hempty
    rw [hrest]
    rfl
  · rw [List.find?_append, hrest]
    simp

theorem sender_setSender_other (s : State) (y : SendStream) {st : Stream} (h : st ≠ y.st) : sender (setSender s y) st = sender s st := by
  have hrest : (s.net.senders.filter (fun e => e.st != y.st)).find? (fun e => e.st == st) = s.net.senders.find? (fun e => e.st == st) := by
    rw [List.find?_filter]
    congr 1
    funext e
    by_cases he : e.st = st
    · simp [he, h]
    · simp [he]
  unfold sender setSender
  simp only
  split
  · rw [hrest]
  · rw [List.find?_append, hrest]
    cases s.net.senders.find? (fun e => e.st == st) with
    | some e => rfl
    | none => simp [Ne.symm h]

/-- An acknowledgement clears the fenced packet that its stream waits for, if it is that one. -/
def acknowledged (s : State) (st : Stream) (birth : BitVec 40) : State :=
  if (sender s st).unacked = some birth then setSender s { sender s st with unacked := none } else s

theorem acknowledged_sender (s : State) (st : Stream) (birth : BitVec 40) :
    sender (acknowledged s st birth) st
        = (if (sender s st).unacked = some birth then { sender s st with unacked := none } else sender s st)
      ∧ (∀ st', st' ≠ st → sender (acknowledged s st birth) st' = sender s st') := by
  unfold acknowledged
  split
  · have hst : ({ sender s st with unacked := none } : SendStream).st = st := sender_st s st
    have hsame := sender_setSender_same s { sender s st with unacked := none }
    rw [hst] at hsame
    exact ⟨hsame, fun st' hne => sender_setSender_other s _ (hst.symm ▸ hne)⟩
  · exact ⟨rfl, fun _ _ => rfl⟩

theorem acknowledged_frame (s : State) (st : Stream) (birth : BitVec 40) :
    { acknowledged s st birth with net := s.net } = s ∧ (acknowledged s st birth).net.locals = s.net.locals := by
  unfold acknowledged
  split <;> exact ⟨rfl, rfl⟩

/-- An acknowledgement for a core whose engine has nothing to take moves its stream only. -/
theorem takeAck_eq {p : Packet} {l : LCore} {dst : BitVec 20} {birth : BitVec 40} {st : Stream}
    (hst : st = ⟨BitVec.ofNat 16 p.job, BitVec.ofNat 20 p.dst, BitVec.ofNat 16 l.val, dst, 4⟩)
    (hidle : ∀ n, coreOf s l = some n → dmaTaken (Machine.core s n) = none) : takeAck s p l dst birth = acknowledged s st birth := by
  subst hst
  obtain ⟨hframe, _⟩ := acknowledged_frame s ⟨BitVec.ofNat 16 p.job, BitVec.ofNat 20 p.dst, BitVec.ofNat 16 l.val, dst, 4⟩ birth
  unfold takeAck
  change (match coreOf (acknowledged s _ birth) l with
    | some n => if h : n < 80 then dmaAdvance (acknowledged s _ birth) ⟨n, h⟩ else acknowledged s _ birth
    | none => acknowledged s _ birth) = _
  generalize acknowledged s _ birth = v at hframe ⊢
  have hcore : coreOf v l = coreOf s l := (congrArg (fun z : State => coreOf z l) hframe :)
  have hcores : ∀ n, Machine.core v n = Machine.core s n := fun n => (congrArg (fun z : State => Machine.core z n) hframe :)
  rw [hcore]
  split
  · rename_i n hn
    split
    · rename_i hlt
      unfold dmaAdvance
      rw [show dmaTaken (Machine.core v (⟨n, hlt⟩ : CoreId)) = none from by rw [hcores]; exact hidle n hn]
    · rfl
  · rfl

/-! ### Launches (R119, R120) -/

/-- A CTRL packet's part enters its launch, which goes on. -/
theorem takeCtrl_onLaunch (h : Delivered s u k x) {l : Nat} {y y' : Launch} (hy : launch s l = some y) (hno : y'.no = y.no) :
    launch (setLaunch u y') l = some y' ∧ Consumed s (setLaunch u y') k x.die x := by
  have hyno := launch_no hy
  subst hyno
  exact ⟨(launch_setLaunch ((h.launch _).trans hy) hno).1, h.consumed_after rfl rfl⟩

/-! ### Refused packets (R149, R250) -/

/-- Core `n` of `u` stopped with REMOTE_REFUSED at the last instruction that it issued in `s` (R149). -/
def remoteRefused (s u : State) (n : CoreId) : State := trapCore u n (Machine.core s n).nextNo 5 (Machine.core s n).lastPc

/-- The core that sent a refused packet stops, and its trap is the only thing beside the delivery. -/
theorem remoteRefused_effect (h : Delivered s u k x) (n : CoreId) :
    Stopped s (remoteRefused s u n) n 5 (Machine.core s n).lastPc ∧ Raised s (remoteRefused s u n) n.val 0x01 1 (Machine.core s n).job 5
      ∧ CoresKept s (remoteRefused s u n) [n.val] ∧ (remoteRefused s u n).net = u.net
      ∧ { remoteRefused s u n with cores := s.cores, net := s.net, csr := s.csr, flt := s.flt, out := s.out } = s := by
  have hcores : ∀ i, Machine.core (remoteRefused s u n) i
      = Machine.core (trapStop u n (Machine.core s n).nextNo 5 (Machine.core s n).lastPc) i := by
    intro i
    unfold remoteRefused trapCore Machine.core
    rw [(show ∀ a b c d e f g, (fault a b c d e f g).cores = a.cores by simp)]
  have hstopped := trapStop_core u n (Machine.core s n).nextNo 5 (Machine.core s n).lastPc
  have hother := fun i => trapStop_core_other u n (Machine.core s n).nextNo 5 i (Machine.core s n).lastPc
  have hframe : { remoteRefused s u n with cores := u.cores, csr := u.csr, out := u.out, flt := u.flt } = u :=
    trapCore_frame u n (Machine.core s n).nextNo 5 (Machine.core s n).lastPc
  have hcnt : reg u (FLT_CNT 1) = reg s (FLT_CNT 1) := h.low _ (by decide) (by decide) (by decide)
  have hsrc : reg u (FLT_SRC n.val) = reg s (FLT_SRC n.val) :=
    h.low _ (by simp only [FLT_SRC]; omega) (by simp only [FLT_SRC, HUB_CNT_FENCE_UNTRACKED]; omega)
      (by simp only [FLT_SRC, HUB_RT_STATUS]; omega)
  have hraised : Raised s (remoteRefused s u n) n.val 0x01 1 (Machine.core s n).job 5 := by
    unfold remoteRefused trapCore
    rw [h.core n]
    exact raised_since (raised_fault _ _ _ _ _ _ _ (by decide) (by omega)) (congrArg Flt.bbBad h.flt) (congrArg Flt.cur h.flt)
      (congrArg Flt.nextSeq h.flt) h.now hcnt hsrc
  generalize remoteRefused s u n = t at hcores hframe hraised ⊢
  rw [h.core n] at hstopped
  rw [← hcores] at hstopped
  refine ⟨?_, hraised, fun i hi => ?_, (congrArg State.net hframe :), ?_⟩
  · unfold Stopped
    rw [hstopped]
    exact ⟨rfl, rfl, rfl, rfl, rfl, rfl, rfl, rfl⟩
  · rw [hcores, hother i (by simpa using hi), h.core]
  · calc { t with cores := s.cores, net := s.net, csr := s.csr, flt := s.flt, out := s.out }
        = { u with cores := s.cores, net := s.net, csr := s.csr, flt := s.flt, out := s.out } :=
          (congrArg (fun z : State => { z with cores := s.cores, net := s.net, csr := s.csr, flt := s.flt, out := s.out }) hframe :)
      _ = s := (congrArg (fun z : State => { z with cores := s.cores, flt := s.flt, out := s.out }) h.frame :)

theorem endRefused_core (h : Delivered s u k x) {n : CoreId} (hlow : refusedOrigin x.p < 64)
    (hcore : coreOf s (refusedOrigin x.p) = some n.val) (hrun : (Machine.core s n).running = true) (htrap : (Machine.core s n).trap = none)
    (hjob : (Machine.core s n).job.toNat = refusedJob x.p) :
    endRefused u x.p = remoteRefused s u n := by
  unfold endRefused remoteRefused
  simp only [hlow, if_true, coreOf_of_highKept h.high, hcore]
  unfold endStepOf
  simp [h.core, hrun, htrap, hjob]

/-- The launch that sent a refused packet is ended with a status of Table 4.11. -/
theorem endRefused_launch (h : Delivered s u k x) {y : Launch} (hge : 0x0100 ≤ refusedOrigin x.p) (hle : refusedOrigin x.p ≤ 0x010F)
    (hfind : s.coll.launches.find? (fun y => y.stage == 2 && y.job == refusedJob x.p && y.gid == refusedHdr x.p 271 256
      && y.seq == refusedHdr x.p 303 272) = some y) :
    endRefused u x.p = finishLaunch { u with free := s.free + 1 } y (0x08 + (Config.freeWord s.free).toNat % 6) false := by
  rw [← h.coll] at hfind
  unfold endRefused endRefusedLaunch
  simp only [show ¬ refusedOrigin x.p < 64 by omega, hge, hle, and_self, if_true, if_false, hfind]
  rw [fresh, h.free]
  rfl

/-- The stream that a CTRL packet acknowledges goes on; nothing else beside the packet's delivery changes. -/
theorem takeAck_effect (h : Delivered s u k x) {l : LCore} {dst : BitVec 20} {birth : BitVec 40} {st : Stream}
    (hst : st = ⟨BitVec.ofNat 16 x.p.job, BitVec.ofNat 20 x.p.dst, BitVec.ofNat 16 l.val, dst, 4⟩)
    (hidle : ∀ n, coreOf s l = some n → dmaTaken (Machine.core s n) = none) :
    takeAck u x.p l dst birth = acknowledged u st birth ∧ localPkt (acknowledged u st birth) k = none
      ∧ sender (acknowledged u st birth) st
          = (if (sender s st).unacked = some birth then { sender s st with unacked := none } else sender s st)
      ∧ (∀ st', st' ≠ st → sender (acknowledged u st birth) st' = sender s st')
      ∧ { acknowledged u st birth with net := s.net, csr := s.csr } = s := by
  have hsender : ∀ st', sender u st' = sender s st' := fun st' => by unfold sender; rw [h.senders]
  obtain ⟨hsame, hother⟩ := acknowledged_sender u st birth
  obtain ⟨hframe, hlocals⟩ := acknowledged_frame u st birth
  refine ⟨takeAck_eq hst fun n hn => ?_, localPkt_eq_none (by rw [hlocals]; exact h.gone), ?_, fun st' hne => ?_, ?_⟩
  · rw [h.core]
    exact hidle n ((coreOf_of_highKept h.high _).symm.trans hn)
  · rw [hsame, hsender]
  · rw [hother st' hne, hsender]
  · exact (congrArg (fun z : State => { z with net := s.net, csr := s.csr }) hframe :).trans h.frame

/-- R120, R149, R250, R281, R289: the first part of O35. -/
theorem managementPacketsAreConsumed : ManagementPacketsAreConsumed := by
  intro k s x hfence
  refine ⟨fun harr => ?_, fun harr => ?_, fun harr => ?_⟩
  · have hdel := delivered_of_arrived harr hfence
    have hexec := exec_ctrlPacket harr hfence
    generalize deliverLocal s x.die x = u at hdel hexec
    refine ⟨⟨u, hexec _, hdel.consumed, hdel.frame⟩, fun l dst birth st hidle hst => ?_, fun l y s1 b1 s2 b2 hy hjob => ?_,
      fun l y sh rep d hy hjob hnew => ?_, fun l y hy hjob => ?_, fun j => ⟨u, ?_, hdel.consumed, hdel.frame⟩⟩
    · obtain ⟨heq, hrest⟩ := takeAck_effect hdel hst hidle (birth := birth)
      exact ⟨_, (hexec _).trans (congrArg _ heq), hrest⟩
    · obtain ⟨hlaunch, hcons⟩ := takeCtrl_onLaunch hdel hy
        (y' := { y with s1 := ⟨y.s1.sum + s1, y.s1.special || b1⟩, s2 := ⟨y.s2.sum + s2, y.s2.special || b2⟩, statIn := y.statIn + 1 }) rfl
      refine ⟨_, ?_, hcons, hlaunch⟩
      rw [hexec, takeCtrl]
      simp only [hdel.launch, hy, hjob, if_true]
    · obtain ⟨hlaunch, hcons⟩ := takeCtrl_onLaunch hdel hy (y' := { y with digests := y.digests ++ [(sh, rep, d)] }) rfl
      refine ⟨_, ?_, hcons, hlaunch⟩
      have hany : y.digests.any (fun e => e.1 == sh && e.2.1 == rep) = false := by
        rw [List.any_eq_false]
        intro e he
        simpa using hnew e he
      rw [hexec, takeCtrl]
      simp only [hdel.launch, hy, hjob, hany, if_true, Bool.false_eq_true, if_false]
    · obtain ⟨hlaunch, hcons⟩ := takeCtrl_onLaunch hdel hy (y' := { y with agreed := true }) rfl
      refine ⟨_, ?_, hcons, hlaunch⟩
      rw [hexec, takeCtrl]
      simp only [hdel.launch, hy, hjob, if_true]
    · rw [hexec, takeCtrl, pathLost, job, job, hdel.jobs]
  · have hdel := delivered_of_arrived harr hfence
    rw [exec_mgmtPacket harr hfence]
    generalize deliverLocal s x.die x = u at hdel ⊢
    refine ⟨_, rfl, hdel.consumed_after rfl rfl, ?_, (congrArg (fun z : State => { z with out := s.out }) hdel.frame :)⟩
    exact congrArg (List.cons _) hdel.out
  · have hdel := delivered_of_arrived harr hfence
    have hexec := exec_refusePacket harr hfence
    generalize deliverLocal s x.die x = u at hdel hexec
    refine ⟨fun n hlow hcore hrun htrap hjob => ?_, fun y hge hle hfind => ?_, fun hother => ⟨u, ?_, hdel.consumed, hdel.frame⟩⟩
    · obtain ⟨hstopped, hraised, hkept, hnet, hframe⟩ := remoteRefused_effect hdel n
      exact ⟨_, hexec.trans (congrArg _ (endRefused_core hdel hlow hcore hrun htrap hjob)),
        hdel.consumed_after (congrArg Net.locals hnet) (congrArg Net.streams hnet), hstopped, hraised, hkept, hframe⟩
    · exact ⟨_, _, hexec.trans (congrArg _ (endRefused_launch hdel hge hle hfind)), hdel.consumed_after rfl rfl, rfl, rfl,
        (congrArg (fun z : State => { z with free := s.free }) hdel.frame :)⟩
    · rw [hexec, endRefused, if_neg (by omega), if_neg (by omega)]

end Sys2Proof.Proofs
end

section
/-! SUPPORT. What the evaluation of a bundle's power state leaves of its ports and of what has been sent (R408–R412): used to settle
O35. -/
namespace Sys2Proof.Proofs
open Sys2Proof.Machine Sys2Proof.Machine.Claims Sys2Proof.Laws

variable {s t u : State}

/-- Between two states more has been sent, and the sending part of each port stays. -/
def SentMore (s t : State) : Prop := SendingKept s t ∧ OutGrows s t

theorem SentMore.refl (s : State) : SentMore s s := ⟨.refl s, .refl s⟩

theorem SentMore.trans (h : SentMore s t) (h' : SentMore t u) : SentMore s u := ⟨h.1.trans h'.1, h.2.trans h'.2⟩

theorem sentMore_of_eq (hnet : t.net = s.net) (hout : t.out = s.out) : SentMore s t := ⟨sendingKept_of_net hnet, .of_eq hout⟩

theorem SentMore.foldl {β : Type} {f : State → β → State} (hf : ∀ t a, SentMore t (f t a)) (as : List β) (s : State) :
    SentMore s (as.foldl f s) := by
  induction as generalizing s with
  | nil => exact .refl s
  | cons a as ih => exact (hf s a).trans (ih _)

theorem sentMore_sendLpi (s : State) (b st : Nat) : SentMore s (sendLpi s b st) := by
  refine SentMore.foldl (fun t p => ?_) _ s
  dsimp only
  split
  · have hput : SendingKept t (setPort t p { port t p with ackDue := false }) := sendingKept_setPort t rfl
    exact ⟨hput, [_], rfl⟩
  · exact .refl t

theorem sentMore_setDomain (s : State) (u st : Nat) : SentMore s (setDomain s u st) := sentMore_of_eq (by simp) (by simp)

theorem sentMore_enterState (s : State) (u st : Nat) : SentMore s (enterState s u st) := by
  have hset : SentMore s (bump (setDomain s u st) (PWR_CNT_ENTRY (st - 1)) PWR_CNT_ENTRY_COUNT 1) :=
    (sentMore_setDomain s u st).trans (sentMore_of_eq (bump_net ..) (bump_out ..))
  unfold enterState
  dsimp only
  split
  · exact (hset.trans (sentMore_sendLpi ..)).trans (sentMore_of_eq rfl rfl)
  · exact hset.trans (sentMore_of_eq rfl rfl)

theorem sentMore_enterDeep (s : State) (u st : Nat) : SentMore s (enterDeep s u st) := by
  unfold enterDeep
  split
  · exact sentMore_enterState ..
  · split
    · rename_i n _
      refine SentMore.trans (t := setAlarm _ n 4 u _ 0) ?_ (sentMore_enterState ..)
      exact sentMore_of_eq (by simp) (by simp)
    · dsimp only
      generalize hv : ({ bump s PWR_CNT_NO_ALARM PWR_CNT_NO_ALARM_COUNT 1 with pwr := _ } : State) = v
      have hmoved : SentMore s v := by
        rw [← hv]
        exact sentMore_of_eq (bump_net s PWR_CNT_NO_ALARM PWR_CNT_NO_ALARM_COUNT 1) (bump_out s PWR_CNT_NO_ALARM PWR_CNT_NO_ALARM_COUNT 1)
      split
      · exact hmoved.trans (sentMore_enterState ..)
      · exact hmoved

theorem sentMore_retarget (s : State) (u : Nat) : SentMore s (retarget s u) := by
  unfold retarget
  dsimp only
  split
  · exact .refl s
  · rename_i n _ _
    exact sentMore_of_eq (setReg_net s (FTU_ALARM_CTRL n) 0) (setReg_out s (FTU_ALARM_CTRL n) 0)
  · exact sentMore_of_eq (by simp) (by simp)
  · split
    · exact sentMore_of_eq (by simp) (by simp)
    · exact sentMore_of_eq (bump_net s PWR_CNT_NO_ALARM PWR_CNT_NO_ALARM_COUNT 1) (bump_out s PWR_CNT_NO_ALARM PWR_CNT_NO_ALARM_COUNT 1)

theorem sentMore_evalOne (s : State) (u : Nat) : SentMore s (evalOne s u) := by
  unfold evalOne
  split
  · exact .refl s
  · dsimp only
    generalize hnext : setF s (PWR_DOMAIN u) PWR_DOMAIN_NEXT _ = v
    have hv : SentMore s v := by
      rw [← hnext]
      exact sentMore_of_eq (setF_net ..) (setF_out ..)
    split
    · refine hv.trans (SentMore.trans ?_ (sentMore_retarget ..))
      split
      · exact sentMore_enterState ..
      · exact .refl v
    · split
      · split
        · exact hv
        · exact hv.trans (sentMore_enterState ..)
      · exact hv.trans (sentMore_enterDeep ..)
      · exact hv

theorem sentMore_evalDomain (s : State) (u : Nat) : SentMore s (evalDomain s u) := by
  unfold evalDomain
  dsimp only
  split
  · refine (sentMore_evalOne s u).trans (SentMore.trans (sentMore_of_eq rfl rfl) (SentMore.foldl sentMore_evalOne _ _))
  · exact sentMore_evalOne s u

/-- A bundle that is evaluated sends words at most. -/
theorem sentMore_evalBundle (s : State) (b : Nat) : SentMore s (evalBundle s b) := by
  unfold evalBundle
  split
  · exact sentMore_evalDomain ..
  · exact .refl s

/-- Between two states at most the network, the registers, the power manager's state and what has been sent have moved. -/
def LinkMoved (s t : State) : Prop := { t with net := s.net, csr := s.csr, pwr := s.pwr, out := s.out } = s

theorem LinkMoved.refl (s : State) : LinkMoved s s := rfl

theorem LinkMoved.trans (h : LinkMoved s t) (h' : LinkMoved t u) : LinkMoved s u :=
  (congrArg (fun v : State => { v with net := s.net, csr := s.csr, pwr := s.pwr, out := s.out }) h' :).trans h

theorem linkMoved_evalBundle (s : State) (b : Nat) : LinkMoved s (evalBundle s b) := by
  have hkeeps := evalBundle_keeps s b
  unfold LinkMoved
  generalize evalBundle s b = t at hkeeps ⊢
  obtain ⟨h1, h2, h3, h4, h5, h6, h7, h8, h9, h10, h11, h12, h13, h14, h15, h16, h17, h18, h19, h20, h21, h22, h23⟩ := hkeeps
  cases t
  cases s
  simp_all

end Sys2Proof.Proofs
end

section
/-! SUPPORT. A port with one packet in its queue transmits it (R254, R291, R293, R298): the second part of O35. -/
namespace Sys2Proof.Proofs
open Sys2Proof.Machine Sys2Proof.Machine.Claims Sys2Proof.Laws

variable {s t u : State} {q : Port} {x : Pkt} {p : Packet} {code : Nat}

/-- The port's queue is one packet that no fence, gate, shaper or throttle holds back; whether its credit lets it leave is left
open. -/
structure MayLeave (s : State) (q : Port) (x : Pkt) : Prop where
  cut : (port s q).cut = none
  queue : (port s q).q = [x]
  hold : x.hold = 0
  deferred : x.deferred = false
  vc : x.vc < 8
  twin : x.twin < 2
  gate : gateLen s q = 0
  shaper : isSet s (TSC_SHAPER q x.vc) TSC_SHAPER_EN = false
  throttle : isSet s (TSC_THROTTLE q) TSC_THROTTLE_EN = false
  up : portUp s q = true
  mgmt : portMgmtOnly s q = false
  replay : (port s q).replay = []
  len : x.p.payload.length ≤ 2048
  noMirror : NoMirror s
  owner : x.owner = none
  dest : x.dest = .port q.val false
  time : pktTime s q x.p ≤ 2 ^ 56
  buf : HoldsBuf s x

/-! ### The head of the queue (R293) -/

theorem classHead_one (h : MayLeave s q x) (v tw : Nat) : classHead s q v tw = if x.vc = v ∧ x.twin = tw then some x else none := by
  have hfenced : x.fenced = false := by simp [Pkt.fenced, h.hold]
  unfold classHead
  rw [h.queue]
  by_cases hclass : x.vc = v ∧ x.twin = tw
  · simp [hclass, hfenced, h.deferred, arbiter, inputHeads, firstOfClass]
  · rw [if_neg hclass]
    have hnot : (x.vc == v && x.twin == tw && !x.fenced) = false := by
      rw [hfenced, Bool.not_false, Bool.and_true, Bool.and_eq_false_iff, beq_eq_false_iff_ne, beq_eq_false_iff_ne]
      exact not_and_or.mp hclass
    simp [hnot, arbiter, inputHeads, firstOfClass]

/-- Each class stands once among the sixteen. -/
theorem allClasses_filter : ∀ v < 8, ∀ tw < 2, allClasses.filter (fun c => v == c.1 && tw == c.2) = [(v, tw)] := by decide

theorem heads_one (h : MayLeave s q x) : heads s q = [x] := by
  have hclass : ∀ c : Nat × Nat, classHead s q c.1 c.2 = if x.vc == c.1 && x.twin == c.2 then some x else none := by
    intro c
    rw [classHead_one h]
    simp
  have hmap : ∀ cs : List (Nat × Nat), cs.filterMap (fun c => classHead s q c.1 c.2)
      = (cs.filter (fun c => x.vc == c.1 && x.twin == c.2)).map (fun _ => x) := by
    intro cs
    induction cs with
    | nil => rfl
    | cons c cs ih =>
      rw [List.filterMap_cons, hclass, List.filter_cons, ih]
      cases x.vc == c.1 && x.twin == c.2 <;> rfl
  unfold heads
  rw [hmap, allClasses_filter _ h.vc _ h.twin]
  rfl

/-! ### Gate, tokens, credit and replay buffer (R254, R298, R327) -/

theorem gateView_fits (h : MayLeave s q x) : gateView s q x = .fits := by
  have hopen : openFor s q x.vc (now s).toNat = some (2 ^ 40) := by
    unfold openFor
    rw [if_pos (.inl h.gate)]
  unfold gateView
  rw [hopen]
  exact if_pos (h.time.trans (by decide))

theorem portState_ne_verifying (h : MayLeave s q x) : portState s q ≠ 3 := by
  intro hstate
  have := h.mgmt
  rw [portMgmtOnly, hstate] at this
  cases this

theorem admits_iff (h : MayLeave s q x) : admits s q x = (copyFrame s q x.p || (creditFor (port s q) x).isSome) := by
  have hstate : (portState s q != 3 || x.p.type == 6) = true := by simp [portState_ne_verifying h]
  have hthrottled : throttled s q x = false := by simp [throttled, h.throttle]
  unfold admits
  simp only [h.shaper, hthrottled, h.mgmt, hstate, Bool.not_false, Bool.true_or, Bool.true_and, Bool.and_true]

theorem replayRoom_of_empty (h : MayLeave s q x) : replayRoom s q x.p.payload.length = true := by
  have hlanes : 1 ≤ portLanes s q := Nat.one_le_two_pow
  have hlen := h.len
  unfold replayRoom
  simp only [h.replay, List.length_nil, List.map_nil, List.sum_nil, Nat.zero_add, Bool.and_eq_true, decide_eq_true_eq]
  refine ⟨by decide, ?_⟩
  split <;> omega

/-! ### Refilled buckets (R310–R312) -/

/-- Refilling the buckets changes them and their time only. -/
theorem refill_setPort (s : State) (q : Nat) : ∃ y, refill s q = setPort s q y ∧ sendPart y = sendPart (port s q)
    ∧ y.shared = (port s q).shared ∧ y.ded = (port s q).ded := ⟨_, rfl, rfl, rfl, rfl⟩

/-- What the choice of a packet goes by stays when the port's buckets change. -/
theorem MayLeave.setPort (h : MayLeave s q x) {y : PortSt} (hy : sendPart y = sendPart (port s q)) : MayLeave (setPort s q y) q x := by
  have hport : port (Machine.setPort s q y) q = y := port_setPort_same ..
  simp only [sendPart, Prod.mk.injEq] at hy
  obtain ⟨hq, hcut, hreplay, _, _⟩ := hy
  exact { cut := by rw [hport, hcut]; exact h.cut, queue := by rw [hport, hq]; exact h.queue, hold := h.hold, deferred := h.deferred,
          vc := h.vc, twin := h.twin, gate := h.gate, shaper := h.shaper, throttle := h.throttle, up := h.up, mgmt := h.mgmt,
          replay := by rw [hport, hreplay]; exact h.replay, len := h.len, noMirror := h.noMirror, owner := h.owner, dest := h.dest,
          time := h.time, buf := h.buf }

/-! ### What transmits -/

/-- The port transmits its packet when that is a mirror copy or has a credit, and nothing otherwise. -/
theorem transmit_one (h : MayLeave s q x) (hbusy : (port s q).busyUntil.toNat ≤ (now s).toNat) :
    (copyFrame (refill s q) q x.p = true → transmit s q = evalBundle (sendCopy (refill s q) q x) (portBundle q))
      ∧ (∀ code, copyFrame (refill s q) q x.p = false → creditFor (port (refill s q) q) x = some code →
          transmit s q = evalBundle (startSend (refill s q) q x code) (portBundle q))
      ∧ (copyFrame (refill s q) q x.p = false → creditFor (port (refill s q) q) x = none → transmit s q = refill s q) := by
  obtain ⟨y, hrefill, hy, _, _⟩ := refill_setPort s q
  have hr : MayLeave (refill s q) q x := by
    rw [hrefill]
    exact h.setPort hy
  have hnow : advanceTo s (port s q).busyUntil = s := advanceTo_of_past s hbusy
  unfold transmit
  simp only [hnow]
  generalize refill s q = r at hr ⊢
  have hadmits := admits_iff hr
  have hshort : ([x].filter (fun k => gateView r q k == .short && admits r q k)) = [] := by simp [gateView_fits hr]
  simp only [heads_one hr, hshort, List.foldl_nil]
  refine ⟨fun hcopy => ?_, fun code hcopy hcredit => ?_, fun hcopy hcredit => ?_⟩
  · have hpick : [x].filter (fun k => gateView r q k == .fits && admits r q k
        && (copyFrame r q k.p || replayRoom r q k.p.payload.length)) = [x] := by
      simp [gateView_fits hr, hadmits, hcopy]
    rw [hpick]
    simp only [bestHead, hcopy, if_true]
  · have hpick : [x].filter (fun k => gateView r q k == .fits && admits r q k
        && (copyFrame r q k.p || replayRoom r q k.p.payload.length)) = [x] := by
      simp [gateView_fits hr, hadmits, hcredit, replayRoom_of_empty hr]
    rw [hpick]
    simp only [bestHead, hcopy, hcredit, Bool.false_eq_true, if_false]
  · have hpick : [x].filter (fun k => gateView r q k == .fits && admits r q k
        && (copyFrame r q k.p || replayRoom r q k.p.payload.length)) = [] := by
      simp [hadmits, hcopy, hcredit]
    rw [hpick]
    rfl

/-! ### The packet leaves (R256, R268, R327, R342) -/

/-- The registers from the links' on stay. -/
def LinkRegsKept (s t : State) : Prop := ∀ o, 0x1000000 ≤ o → reg t o = reg s o

/-- A late start counts a slip, and no more. -/
theorem gateMiss_effect (s : State) (q : Nat) (howner : x.owner = none) :
    (gateMiss s q x).net = s.net ∧ (gateMiss s q x).out = s.out ∧ LinkMoved s (gateMiss s q x) ∧ LinkRegsKept s (gateMiss s q x) := by
  unfold gateMiss
  split
  · exact ⟨rfl, rfl, .refl s, fun _ _ => rfl⟩
  · rename_i w _
    have hslip : ∀ v, slipOf v x.owner = v := fun v => by
      rw [howner]
      rfl
    rw [hslip]
    have hkept : CsrKept s (slip s 3 w ((now s).toNat - w)) [FTU_SLIP 3, FTU_SLIP_LAST] := by
      unfold slip
      exact (((((CsrKept.refl s _).after_bump (by simp) _ _).after_setF (by simp) _ _).after_setF (by simp) _ _).after_setF (by simp) _ _)
    refine ⟨by simp, by simp, rfl, fun o ho => hkept o ?_⟩
    simp only [FTU_SLIP, FTU_SLIP_LAST, List.mem_cons, List.not_mem_nil, or_false]
    omega

/-- Without a mirror session nothing is copied. -/
theorem mirror_of_none (h : NoMirror s) (dir port : Nat) (p : Packet) : mirror s dir port p = s := by
  have hmatch : ∀ d k, d < 4 → k < 2 → mirMatches s d k dir port p = false := fun d k hd hk => by
    simp [mirMatches, h d k hd hk]
  simp [mirror, hmatch]

theorem noMirror_of_regs (h : NoMirror s) (hregs : LinkRegsKept s t) : NoMirror t := fun d k hd hk => by
  rw [← h d k hd hk, isSet, isSet, getF, getF, hregs _ (by simp only [SWC_MIR_CTRL]; omega)]

theorem portEth_of_regs (hregs : LinkRegsKept s t) (q : Nat) : portEth t q = portEth s q := by
  have hfield : ∀ f, getF t (LNK_BUNDLE_CTRL (portBundle q)) f = getF s (LNK_BUNDLE_CTRL (portBundle q)) f :=
    fun f => congrArg (fget f) (hregs _ (by simp only [LNK_BUNDLE_CTRL]; omega))
  unfold portEth portClass isSet
  simp only [hfield]

/-- The tag of a PFP frame, as Table 12.8 lays it out. -/
theorem frameTag_eq (s : State) (q : Port) (vc : Option (Fin 8)) : frameTag s q vc = tagOf s q vc := by
  have hbit : ∀ w : Word, fget LNK_ETH_CTRL_TAG_EN w = 1 ↔ w.getLsbD 24 = true := by
    intro w
    rw [BitVec.getLsbD, Nat.testBit_eq_decide_div_mod_eq, decide_eq_true_eq, fget, Nat.shiftRight_eq_div_pow]
    rfl
  unfold frameTag tagOf
  simp only [hbit]
  rfl

theorem linkMoved_setReg (s : State) (off : Nat) (v : Word) : LinkMoved s (setReg s off v) := rfl

theorem linkMoved_countPkt (s : State) (q v dir n : Nat) : LinkMoved s (countPkt s q v dir n) :=
  (linkMoved_setReg s _ _).trans (linkMoved_setReg _ _ _)

/-- After a packet has left: its counts, its buffer, and no fence rule for a port that is no endpoint. -/
theorem afterLeaving_effect (h : MayLeave s q x) (hbits : t.net.bits = s.net.bits) (p : Packet) :
    SentMore t (afterLeaving t q x p) ∧ LinkMoved t (afterLeaving t q x p) := by
  unfold afterLeaving
  simp only [packetGone_of_no_owner _ h.owner, h.dest]
  generalize hcount : (if p.stomp = true then setF (countPkt t q x.p.vc 1 (64 + x.p.payload.length)) (SWC_STATUS (portDie q))
    SWC_STATUS_STOMP_EVENT 1 else countPkt t q x.p.vc 1 (64 + x.p.payload.length)) = v
  have hv : v.net = t.net ∧ v.out = t.out ∧ LinkMoved t v := by
    have hpkt := linkMoved_countPkt t q x.p.vc 1 (64 + x.p.payload.length)
    rw [← hcount]
    split
    · exact ⟨by simp, by simp, hpkt.trans (linkMoved_setReg ..)⟩
    · exact ⟨by simp, by simp, hpkt⟩
  obtain ⟨hnet, hout, hmoved⟩ := hv
  obtain ⟨⟨hframe, _⟩, hsend, _⟩ := freePkt_releases (t := v) h.buf (by rw [hnet, hbits])
  have hout' : (freePkt v x).out = v.out := (congrArg State.out hframe :)
  refine ⟨(sentMore_of_eq hnet hout).trans ⟨hsend, .of_eq hout'⟩, hmoved.trans ?_⟩
  exact (congrArg (fun z : State => { z with pwr := v.pwr, out := v.out }) hframe :)

end Sys2Proof.Proofs
end

section
/-! SETTLES O35. The oldest eligible packet leaves, and management packets are consumed. -/
namespace Sys2Proof.Proofs
open Sys2Proof.Machine Sys2Proof.Machine.Claims Sys2Proof.Laws

variable {s t u : State} {q : Port} {x : Pkt} {p : Packet} {code : Nat}

/-! ### The port as its packet starts (R254, R298, R327) -/

/-- When the port is free again. -/
def freeAt (s : State) (q : Port) (x : Pkt) : Word := now s + BitVec.ofNat 64 (cdiv (pktTime s q x.p) 65536)

/-- Tokens are all that a packet takes from its buckets. -/
theorem takeTokens_sendPart (s : State) (q : Nat) (k : Pkt) (y : PortSt) : sendPart (takeTokens s q k y) = sendPart y := by
  unfold takeTokens
  dsimp only
  generalize hshaped : (if isSet s (TSC_SHAPER q k.vc) TSC_SHAPER_EN = true then
    { y with shaper := y.shaper.modify k.vc (· - shapedBytes s q k.p * 128000) } else y) = z
  have hz : sendPart z = sendPart y := by
    rw [← hshaped]
    split <;> rfl
  split
  · split <;> exact hz
  · exact hz

theorem startOn_sendPart (h : MayLeave s q x) : sendPart (startOn s q x) = ([], none, [], (port s q).txSeq, freeAt s q x) := by
  have htaken := takeTokens_sendPart s q x (port s q)
  simp only [sendPart, Prod.mk.injEq] at htaken
  obtain ⟨hq, hcut, hreplay, hseq, _⟩ := htaken
  unfold sendPart startOn
  simp only [hq, hcut, hreplay, hseq, h.queue, h.cut, h.replay]
  simp [freeAt]

theorem afterSend_sendPart (h : MayLeave s q x) (p : Packet) :
    sendPart (afterSend s q x p) = ([], none, [((port s q).txSeq, p)], (port s q).txSeq + 1, freeAt s q x) := by
  have hstart := startOn_sendPart h
  simp only [sendPart, Prod.mk.injEq] at hstart
  obtain ⟨hq, hcut, hreplay, hseq, hbusy⟩ := hstart
  unfold sendPart afterSend
  dsimp only
  split <;> simp [hq, hcut, hreplay, hseq, hbusy]

/-! ### End words (Table 12.4) -/

theorem wordLow_mod (y : PortSt) : wordLow y % 16 = 0 := by
  unfold wordLow
  split
  omega

/-- The low bits of an end word say EOP. -/
theorem eopWord_mod (y : PortSt) (p : Packet) : (eopWord y p).toNat % 16 = 2 := by
  have hlow := wordLow_mod y
  unfold eopWord
  rw [BitVec.toNat_ofNat, Nat.mod_mod_of_dvd _ (by decide)]
  omega

/-! ### A packet starts (R256, R342) -/

/-- On an Ethernet port a PFP frame opens first. -/
theorem openFrame_effect (s : State) (q : Port) (vc : Option (Fin 8)) :
    (openFrame s q vc).net = s.net ∧ LinkMoved s (openFrame s q vc) ∧ (portEth s q = true →
      .pfpFrame q (linkAddr s LNK_ETH_PEER q) (linkAddr s LNK_ETH_ADDR q) (tagOf s q vc) ∈ (openFrame s q vc).out) := by
  unfold openFrame
  split
  · refine ⟨rfl, rfl, fun _ => ?_⟩
    rw [← frameTag_eq]
    exact List.mem_cons_self
  · rename_i heth
    exact ⟨rfl, .refl s, fun h => absurd h heth⟩

theorem linkAddr_of_regs (hregs : LinkRegsKept s t) (q : Port) {r : Nat → Nat → Nat} (hr : r = LNK_ETH_PEER ∨ r = LNK_ETH_ADDR) :
    linkAddr t r q = linkAddr s r q := by
  refine congrArg (BitVec.extractLsb' 0 48) (hregs _ ?_)
  rcases hr with rfl | rfl
  · simp only [LNK_ETH_PEER]
    omega
  · simp only [LNK_ETH_ADDR]
    omega

theorem tagOf_of_regs (hregs : LinkRegsKept s t) (q : Port) (vc : Option (Fin 8)) : tagOf t q vc = tagOf s q vc := by
  unfold tagOf
  rw [hregs _ (by simp only [LNK_ETH_CTRL]; omega)]

theorem OutGrows.mem {o : Out} (h : OutGrows s t) (ho : o ∈ s.out) : o ∈ t.out := by
  obtain ⟨l, hl⟩ := h
  rw [hl]
  exact List.mem_append_right l ho

/-- `t` is `s` after the port has begun to send `p` for its packet `x`, which stands as `left` if its end word is to come. -/
structure Leaving (s t : State) (q : Port) (x : Pkt) (p : Packet) : Prop where
  moved : LinkMoved s t
  sent : .packet q p ∈ t.out
  frame : portEth s q = true →
    .pfpFrame q (linkAddr s LNK_ETH_PEER q) (linkAddr s LNK_ETH_ADDR q) (tagOf s q (some p.bvc)) ∈ t.out
  word : x.whole = true → ∃ e : Word, .word q e ∈ t.out ∧ e.toNat % 16 = 2
  port : sendPart (port t q)
    = ([], if x.whole then none else some (x, p), [((Machine.port s q).txSeq, p)], (Machine.port s q).txSeq + 1, freeAt s q x)

theorem Leaving.sentMore (h : Leaving s t q x p) (hmore : SentMore t u) (hmoved : LinkMoved t u) : Leaving s u q x p :=
  { moved := h.moved.trans hmoved, sent := hmore.2.mem h.sent, frame := fun heth => hmore.2.mem (h.frame heth),
    word := fun hwhole => (h.word hwhole).imp fun _ he => ⟨hmore.2.mem he.1, he.2⟩, port := (hmore.1.2 q).trans h.port }

theorem startSend_leaving (h : MayLeave s q x) (hp : p = framed (linkVersion s q) (port s q) x code) :
    Leaving s (startSend s q x code) q x p := by
  have hstarted := afterSend_sendPart h p
  have hport : Machine.port (Machine.setPort s q (afterSend s q x p)) q = afterSend s q x p := port_setPort_same ..
  obtain ⟨hmissNet, _, hmissMoved, hmissRegs⟩ := gateMiss_effect (Machine.setPort s q (afterSend s q x p)) q h.owner
  have hmirror := mirror_of_none (noMirror_of_regs
    (noMirror_of_regs (t := Machine.setPort s q (afterSend s q x p)) h.noMirror fun _ _ => rfl) hmissRegs) 1 q x.p
  unfold startSend
  simp only [← hp, hmirror]
  generalize gateMiss (Machine.setPort s q (afterSend s q x p)) q x = v at hmissNet hmissMoved hmissRegs ⊢
  have hmoved : LinkMoved s v := LinkMoved.trans (t := Machine.setPort s q (afterSend s q x p)) rfl hmissMoved
  have hregs : LinkRegsKept s v := hmissRegs
  have hvport : Machine.port v q = afterSend s q x p := by
    unfold Machine.port at hport ⊢
    rw [hmissNet]
    exact hport
  have hbits : v.net.bits = s.net.bits := by rw [hmissNet]; rfl
  obtain ⟨hopenNet, hopenMoved, hopenFrame⟩ := openFrame_effect v q (some p.bvc)
  rw [portEth_of_regs hregs, linkAddr_of_regs hregs q (.inl rfl), linkAddr_of_regs hregs q (.inr rfl), tagOf_of_regs hregs] at hopenFrame
  generalize openFrame v q (some p.bvc) = w at hopenNet hopenMoved hopenFrame ⊢
  have hwport : Machine.port w q = afterSend s q x p := by
    unfold Machine.port at hvport ⊢
    rw [hopenNet]
    exact hvport
  have hwbits : w.net.bits = s.net.bits := by rw [hopenNet, hbits]
  have hwmoved : LinkMoved s w := hmoved.trans hopenMoved
  generalize hsent : emit w (.packet q p) = y
  have hyport : Machine.port y q = afterSend s q x p := by rw [← hsent]; exact hwport
  have hybits : y.net.bits = s.net.bits := by rw [← hsent]; exact hwbits
  have hymoved : LinkMoved s y := by rw [← hsent]; exact hwmoved.trans rfl
  have hysent : Out.packet q p ∈ y.out := by rw [← hsent]; exact List.mem_cons_self
  have hyframe := fun heth => show _ ∈ y.out from by rw [← hsent]; exact List.mem_cons_of_mem _ (hopenFrame heth)
  split
  · rename_i hwhole
    unfold endPacket
    dsimp only
    rw [hyport]
    generalize hended : emit (Machine.setPort y q (afterWord (afterSend s q x p))) (.word q (eopWord (afterSend s q x p) p)) = z
    have hleaving : Leaving s z q x p := by
      rw [← hended]
      exact { moved := hymoved.trans rfl, sent := List.mem_cons_of_mem _ hysent, frame := fun heth => List.mem_cons_of_mem _ (hyframe heth),
              word := fun _ => ⟨_, List.mem_cons_self, eopWord_mod _ p⟩,
              port := by
                rw [if_pos hwhole, ← hstarted]
                show sendPart (Machine.port (Machine.setPort y q (afterWord (afterSend s q x p))) q) = _
                rw [port_setPort_same]
                rfl }
    obtain ⟨hmore, hlast⟩ := afterLeaving_effect h (t := z) (by rw [← hended]; exact hybits) p
    exact hleaving.sentMore hmore hlast
  · rename_i hpart
    exact { moved := hymoved.trans rfl, sent := hysent, frame := hyframe, word := fun hwhole => absurd hwhole hpart,
            port := by
              rw [if_neg hpart, port_setPort_same, hyport]
              simp only [sendPart, Prod.mk.injEq] at hstarted ⊢
              exact ⟨hstarted.1, trivial, hstarted.2.2⟩ }

/-! ### A mirror copy leaves (R268) -/

/-- Its frame goes out, and the link layer's part of the port stays. -/
theorem sendCopy_effect (h : MayLeave s q x) :
    LinkMoved s (sendCopy s q x) ∧ Out.copyFrame q (linkAddr s LNK_ETH_ADDR q) x.p.payload ∈ (sendCopy s q x).out
      ∧ sendPart (port (sendCopy s q x) q) = ([], none, [], (port s q).txSeq, freeAt s q x) := by
  have hmirror := mirror_of_none (noMirror_of_regs (t := Machine.setPort s q (startOn s q x)) h.noMirror fun _ _ => rfl) 1 q x.p
  have hstarted := startOn_sendPart h
  unfold sendCopy
  dsimp only
  rw [hmirror]
  generalize hcopy : emit (Machine.setPort s q (startOn s q x)) _ = z
  have hz : LinkMoved s z ∧ Out.copyFrame q (linkAddr s LNK_ETH_ADDR q) x.p.payload ∈ z.out
      ∧ Machine.port z q = startOn s q x ∧ z.net.bits = s.net.bits := by
    rw [← hcopy]
    exact ⟨rfl, List.mem_cons_self, port_setPort_same s q (startOn s q x), rfl⟩
  obtain ⟨hmoved, hsent, hport, hbits⟩ := hz
  obtain ⟨⟨hsend, hout⟩, hlast⟩ := afterLeaving_effect h hbits x.p
  exact ⟨hmoved.trans hlast, hout.mem hsent, by rw [hsend.2, hport, hstarted]⟩

/-! ### The statement -/

theorem exec_packetTransmit (h : MayLeave s q x) (hrun : running s = true) (hawake : awake s (96 + portBundle q) = true) :
    exec (.packetTransmit q) s = .next (transmit s q) := by
  show execPacketTransmit q s = _
  rw [execPacketTransmit, ifRunning_eq hrun]
  simp [h.queue, h.cut, hawake, h.up]

theorem keeps_of_linkMoved (h : LinkMoved s t) : { t with net := s.net, csr := s.csr, pwr := s.pwr, flt := s.flt, out := s.out } = s :=
  (congrArg (fun v : State => { v with flt := s.flt }) h :)

/-- R247, R254, R256, R268, R291, R293, R298, R327: the second part of O35. -/
theorem theOldestEligiblePacketLeaves : TheOldestEligiblePacketLeaves := by
  intro q s x code hrun hup hawake hcut hq hhold hdeferred hvc htwin hbusy hgate hshaper hthrottle hmgmt hreplay hlen hnone howner hdest
    htime hbuf
  have h : MayLeave s q x := ⟨hcut, hq, hhold, hdeferred, hvc, htwin, hgate, hshaper, hthrottle, hup, hmgmt, hreplay, hlen, hnone, howner,
    hdest, htime, hbuf⟩
  have hexec := exec_packetTransmit h hrun hawake
  obtain ⟨hcopyCase, hsendCase, hnoneCase⟩ := transmit_one h hbusy
  obtain ⟨y, hrefill, hy, hshared, hded⟩ := refill_setPort s q
  have hr : MayLeave (setPort s q y) q x := h.setPort hy
  have hport : port (setPort s q y) q = y := port_setPort_same ..
  have hseq : y.txSeq = (port s q).txSeq := congrArg (fun z => z.2.2.2.1) hy
  have hcredit : creditFor y x = creditFor (port s q) x := by
    unfold creditFor
    rw [hshared, hded]
  have hcopyEq : copyFrame (setPort s q y) q x.p = copyFrame s q x.p := rfl
  rw [hrefill, hcopyEq] at hcopyCase
  rw [hrefill, hcopyEq, hport, hcredit] at hnoneCase
  simp only [hrefill, hcopyEq, hport, hcredit] at hsendCase
  have hstart : LinkMoved s (setPort s q y) := rfl
  refine ⟨fun hcopy hcode => ?_, fun hcopy => ?_, fun hcopy hcode => ?_⟩
  · rw [hexec, hsendCase code hcopy hcode]
    have hleave := (startSend_leaving hr (code := code) rfl).sentMore (sentMore_evalBundle _ (portBundle q)) (linkMoved_evalBundle _ _)
    have hframed : framed (linkVersion (setPort s q y) q) (port (setPort s q y) q) x code = framed (linkVersion s q) (port s q) x code := by
      rw [framed, framed, hport, hseq]
      rfl
    rw [hframed] at hleave
    generalize evalBundle (startSend (setPort s q y) q x code) (portBundle q) = t at hleave ⊢
    have hmoved := hstart.trans hleave.moved
    have hpart := hleave.port
    rw [hport, hseq] at hpart
    simp only [sendPart, Prod.mk.injEq] at hpart
    obtain ⟨hqueue, hcutEq, hreplayEq, hseqEq, hbusyEq⟩ := hpart
    refine ⟨t, _, rfl, rfl, hleave.sent, hleave.frame, fun hwhole => ⟨?_, hleave.word hwhole⟩, fun hpart => ?_, hqueue, hreplayEq, hseqEq,
      hbusyEq, keeps_of_linkMoved hmoved⟩
    · exact hcutEq.trans (if_pos hwhole)
    · exact hcutEq.trans (if_neg (by simp [hpart]))
  · rw [hexec, hcopyCase hcopy]
    obtain ⟨hmoved, hsent, hpart⟩ := sendCopy_effect hr
    obtain ⟨hsend, hout⟩ := sentMore_evalBundle (sendCopy (setPort s q y) q x) (portBundle q)
    have hlast := hstart.trans (hmoved.trans (linkMoved_evalBundle (sendCopy (setPort s q y) q x) (portBundle q)))
    rw [← hsend.2, hport, hseq] at hpart
    have hsent' := hout.mem hsent
    generalize evalBundle (sendCopy (setPort s q y) q x) (portBundle q) = t at hpart hsent' hlast ⊢
    simp only [sendPart, Prod.mk.injEq] at hpart
    obtain ⟨hqueue, _, hreplayEq, hseqEq, hbusyEq⟩ := hpart
    exact ⟨t, _, rfl, hsent', rfl, hqueue, hreplayEq, hseqEq, hbusyEq, keeps_of_linkMoved hlast⟩
  · rw [hexec, hnoneCase hcopy hcode]
    have hqueue : y.q = (port s q).q := congrArg Prod.fst hy
    exact ⟨_, rfl, by rw [hport, hqueue, hq], rfl, rfl, rfl⟩

/-- Settles O35: a delivered management packet is consumed beside what its command does, and the one packet of a port's queue that
nothing holds back leaves. -/
theorem packetsLeaveOrAreConsumed : Obligations.PacketsLeaveOrAreConsumed :=
  ⟨managementPacketsAreConsumed, theOldestEligiblePacketLeaves⟩

end Sys2Proof.Proofs
end

section
/-! REFUTES O50. A field of CLU_MAP has three bits, and its codes 5 and 6 name a core of the next cluster (`physOf`), which no
premise of the statement speaks of. -/
namespace Sys2Proof.Proofs
open Sys2Proof.Machine Sys2Proof.Machine.Claims Sys2Proof.Laws

/-- Cluster 0 swaps core 0 for core 1, its spare, with code 5 in the map's slot of logical core 1. Core 5, of cluster 1, has no
identity, is idle with EN 0, and stands at program index 4. -/
def strayMapS : State :=
  { State.reset with
    boot := { State.reset.boot with porst := false, perst := false, up := true, opened := true, pcieUp := true }
    cores := [(5, { Core.init with pc := 4 })]
    csr := [(CORE_STATUS 0, 5), (CORE_CTRL 5, 0), (CORE_STATUS 5, 2 + 0xFF * 2 ^ 8), (CLU_MAP 0, 0 + 5 * 2 ^ 3 + 7 * 2 ^ 6 + 7 * 2 ^ 9 + 1 * 2 ^ 12)] }

/-- The completed swap has filled core 5 with zeros: its program index is 0. -/
theorem strayMapS_swap_resets_core5 :
    (match exec (.swapComplete 0 true) strayMapS with
      | .next t => (Machine.core t 5).pc == 0
      | _ => false) = true := by decide +kernel

/-- In `strayMapS` the swap of cores 0 and 1 is under way, no other core of cluster 0 waits, and no test is entered. -/
theorem strayMapS_meets :
    running strayMapS = true ∧ swapping strayMapS 0 = some (0, 0, 1) ∧ isSet strayMapS (CORE_CTRL 1) CORE_CTRL_EN = true
      ∧ Memory.wf strayMapS.mem = true ∧ (Machine.core strayMapS 0).dueEntries = [] ∧ (Machine.core strayMapS 0).dma = []
      ∧ strayMapS.flt.tests = [] := by
  (repeat' apply And.intro) <;> decide +kernel

theorem strayMapS_othersServe : OthersServe strayMapS 0 0 1 := by
  have hserve : ∀ m < 5, m ≠ 0 → m ≠ 1 → isSet strayMapS (CORE_CTRL m) CORE_CTRL_EN = true ∧ (Machine.core strayMapS m).dueEntries = [] := by decide +kernel
  exact fun m hm h0 h1 => hserve m (by omega) h0 h1

/-- Refutes O50: the swap's end evaluates every core that the cluster's map names (`spareGone`), and with code 5 in a slot that is
a core of the next cluster, which is taken out of service there with its EN at 0; the statement leaves every core but P and S as
it was. -/
theorem not_theSpareTakesAnIdentity : ¬ Obligations.TheSpareTakesAnIdentity := by
  rintro ⟨_, hcomplete⟩
  obtain ⟨hrun, hswap, hen, hwf, hdue, hdma, htests⟩ := strayMapS_meets
  obtain ⟨hok, _⟩ := hcomplete 0 strayMapS 0 0 1 hrun hswap (by decide) (by decide) (by decide) strayMapS_othersServe hen
    (by rw [htests]; simp)
  obtain ⟨t, hexec, _, _, _, hothers, _⟩ := hok hwf hdue hdma
  have hkept : (Machine.core t 5).pc = (Machine.core strayMapS 5).pc := by rw [hothers 5 (by decide) (by decide)]
  have hreset := strayMapS_swap_resets_core5
  rw [hexec] at hreset
  simp only [hkept] at hreset
  exact absurd hreset (by decide +kernel)

end Sys2Proof.Proofs
end

section
/-! SUPPORT. What the waits note at the end of a cycle (R153, R374), and what an add to an object changes (R152, R167). -/
namespace Sys2Proof.Proofs
open Sys2Proof.Machine Sys2Proof.Machine.Claims Sys2Proof.Laws

/-! ### Maps under a function of the values -/

theorem mapGet_map {α : Type} {d : Nat → α} {f : α → α} (hf : ∀ k, f (d k) = d k) (m : List (Nat × α)) (k : Nat) :
    mapGet d (m.map (fun e => (e.1, f e.2))) k = f (mapGet d m k) := by
  induction m with
  | nil => exact (hf k).symm
  | cons e m ih =>
    obtain ⟨k', v⟩ := e
    by_cases h : k' = k
    · simp [mapGet, h]
    · simp [mapGet, h, ih]

/-! ### Waits (R153) -/

section
variable {s t : State}

/-- A core's wait, noted in a state. -/
def waitNoted (s : State) (c : Core) : Core := { c with wait := c.wait.map (CoreWait.latch s) }

/-- A launch's waits, noted in a state. -/
def flowsNoted (s : State) (x : Launch) : Launch := { x with flows := x.flows.map (Flow.latch s) }

theorem latchWaits_eq (s : State) : latchWaits s = { s with
    cores := s.cores.map (fun e => (e.1, waitNoted s e.2)),
    coll := { s.coll with launches := s.coll.launches.map (flowsNoted s) }, sec := (latchProv s).sec } := by
  unfold latchWaits latchProv
  split
  · rfl
  · split <;> rfl

theorem obj_congr (h : t.objs = s.objs) : obj t = obj s := by funext n; unfold obj; rw [h]

theorem coreWait_latch_congr (h : t.objs = s.objs) : CoreWait.latch t = CoreWait.latch s := by
  funext w; unfold CoreWait.latch waitHit; rw [obj_congr h]

theorem flow_latch_congr (h : t.objs = s.objs) : Flow.latch t = Flow.latch s := by
  funext f; unfold Flow.latch; rw [obj_congr h]

theorem latchProv_sec_congr (hobjs : t.objs = s.objs) (hsec : t.sec = s.sec) : (latchProv t).sec = (latchProv s).sec := by
  have hnext : nextWork t = nextWork s := by unfold nextWork; rw [hsec]
  have hlatch : ProvReq.latch t = ProvReq.latch s := by funext q; unfold ProvReq.latch; rw [obj_congr hobjs]
  unfold latchProv
  rw [hsec, hnext, hlatch]
  split
  · exact hsec
  · split
    · rfl
    · exact hsec

theorem core_latchWaits (s : State) (m : Nat) : Machine.core (latchWaits s) m = waitNoted s (Machine.core s m) := by
  rw [latchWaits_eq]
  exact mapGet_map (f := waitNoted s) (fun _ => rfl) s.cores m

theorem waitNoted_congr (h : t.objs = s.objs) : waitNoted t = waitNoted s := by
  funext c; unfold waitNoted; rw [coreWait_latch_congr h]

theorem latchWaits_coll_congr (hobjs : t.objs = s.objs) (hcoll : t.coll = s.coll) : (latchWaits t).coll = (latchWaits s).coll := by
  simp only [latchWaits_eq, hcoll]
  unfold flowsNoted
  rw [flow_latch_congr hobjs]

theorem latchWaits_sec_congr (hobjs : t.objs = s.objs) (hsec : t.sec = s.sec) : (latchWaits t).sec = (latchWaits s).sec := by
  simp only [latchWaits_eq, latchProv_sec_congr hobjs hsec]

theorem obj_latchWaits (s : State) : obj (latchWaits s) = obj s := obj_congr (by simp)

end

/-! ### Adds (R152, R167) -/

section
variable (s : State)

/-- Between two states a slot's queue, storage and registers alone may differ: what a token's arrival writes (R166, R169). -/
def TokenMoved (s t : State) : Prop := { t with slotQ := s.slotQ, mem := s.mem, bad := s.bad, csr := s.csr } = s

theorem TokenMoved.trans {s t u : State} (h : TokenMoved s t) (h' : TokenMoved t u) : TokenMoved s u :=
  calc { u with slotQ := s.slotQ, mem := s.mem, bad := s.bad, csr := s.csr }
      = { ({ u with slotQ := t.slotQ, mem := t.mem, bad := t.bad, csr := t.csr } : State) with
          slotQ := s.slotQ, mem := s.mem, bad := s.bad, csr := s.csr } := rfl
    _ = { t with slotQ := s.slotQ, mem := s.mem, bad := s.bad, csr := s.csr } := by rw [h']
    _ = s := by exact h

theorem tokenMoved_putBytes (k : Nat) (bs : List Byte) : TokenMoved s (putBytes s k bs) :=
  calc { putBytes s k bs with slotQ := s.slotQ, mem := s.mem, bad := s.bad, csr := s.csr }
      = { ({ putBytes s k bs with mem := s.mem, bad := s.bad } : State) with slotQ := s.slotQ, csr := s.csr } := rfl
    _ = s := by rw [putBytes_frame]

theorem tokenMoved_slip (k planned delay : Nat) : TokenMoved s (slip s k planned delay) :=
  calc { slip s k planned delay with slotQ := s.slotQ, mem := s.mem, bad := s.bad, csr := s.csr }
      = { ({ slip s k planned delay with csr := s.csr } : State) with slotQ := s.slotQ, mem := s.mem, bad := s.bad } := rfl
    _ = s := by rw [slip_frame]

theorem tokenMoved_setSlotQ (k : Nat) (q : SlotQ) : TokenMoved s (setSlotQ s k q) := rfl

theorem tokenMoved_tokenArrives (k : Nat) : TokenMoved s (tokenArrives s k) := by
  unfold tokenArrives
  dsimp only
  have hentry := tokenMoved_setSlotQ s k { slotQueue s k with arrived := (slotQueue s k).arrived + 1, fill := 0 }
  generalize setSlotQ s k { slotQueue s k with arrived := (slotQueue s k).arrived + 1, fill := 0 } = t at hentry ⊢
  have hhead : TokenMoved s (if bit (slotWord t k 5) 27 = true then t
      else putBytes t (queueKey t k (slotQueue s k).arrived 0) (tokenHeader t (slotQueue s k))) := by
    split
    · exact hentry
    · exact hentry.trans (tokenMoved_putBytes t _ _)
  generalize (if bit (slotWord t k 5) 27 = true then t
      else putBytes t (queueKey t k (slotQueue s k).arrived 0) (tokenHeader t (slotQueue s k))) = u at hhead ⊢
  split
  · exact hhead
  · split
    · exact (hhead.trans (tokenMoved_setSlotQ u k _)).trans (tokenMoved_slip _ _ _ _)
    · exact hhead

/-- An add writes its object and, of an ARRIVE_SYNC, what a token's arrival writes. -/
theorem tokenMoved_addSignal (o v : Nat) : TokenMoved (objAdd s o v) (addSignal s o v) := by
  unfold addSignal
  dsimp only
  split
  · exact tokenMoved_tokenArrives _ _
  · rfl

theorem addSignal_of_no_slot {o : Nat} (h : slotOfArrive s o = none) (v : Nat) : addSignal s o v = objAdd s o v := by
  unfold addSignal
  dsimp only
  rw [show slotOfArrive (objAdd s o v) o = slotOfArrive s o from rfl, h]

theorem objs_addSignal (o v : Nat) : (addSignal s o v).objs = (objAdd s o v).objs :=
  (congrArg State.objs (tokenMoved_addSignal s o v) :)

end

/-- An add changes COUNT and SAT only, and COUNT saturates. -/
theorem add_eq_addTo (o : Obj) (v : Nat) : o.add v = addTo o v := by
  unfold Obj.add addTo
  split
  · rename_i h
    rw [if_pos (by omega)]
    congr 1
    apply BitVec.eq_of_toNat_eq
    simp
  · rename_i h
    rw [if_neg (by omega)]
    rfl

theorem satBit (i : Nat) : ((1 : Word) <<< 20).getLsbD i = decide (i = 20) := by
  rw [show ((1 : Word) <<< 20) = BitVec.twoPow 64 20 from rfl, BitVec.getLsbD_twoPow]
  by_cases h : i = 20 <;> simp [h]; omega

/-- Bits of CTRL that lie beside SAT stay as they are. -/
theorem add_ctrl_beside (o : Obj) (v : Nat) {lo w : Nat} (h : lo + w ≤ 20 ∨ 21 ≤ lo) :
    (o.add v).ctrl.extractLsb' lo w = o.ctrl.extractLsb' lo w := by
  unfold Obj.add
  split
  · rfl
  · ext i hi
    have hne : lo + i ≠ 20 := by omega
    simp only [BitVec.getElem_extractLsb', BitVec.getLsbD_or, satBit, hne, decide_false, Bool.or_false]

end Sys2Proof.Proofs
end

section
/-! SUPPORT. The releases of one cycle (R153, R201): which take effect, on which objects, and what they leave. -/
namespace Sys2Proof.Proofs
open Sys2Proof.Machine Sys2Proof.Machine.Claims Sys2Proof.Laws

/-! ### The releases that leave their queues -/

/-- The releases of a list of cores that take effect, with the logical core of each. -/
def readyOf (s : State) (cores : List CoreId) : List (Nat × Held) :=
  cores.filterMap (fun n => (readyRelease s n).map (fun h => (logicalOf s n, h)))

/-- A core whose oldest release, if it is ready, has left the queue. -/
def released (s : State) (n : CoreId) : Core :=
  { Machine.core s n with
      held := if (readyRelease s n).isSome then (Machine.core s n).held.tail else (Machine.core s n).held }

theorem released_of_none {s : State} {n : CoreId} (h : readyRelease s n = none) : released s n = Machine.core s n := by
  unfold released; rw [h]; rfl

theorem released_of_some {s : State} {n : CoreId} {x : Held} (h : readyRelease s n = some x) :
    released s n = { Machine.core s n with held := (Machine.core s n).held.tail } := by
  unfold released; rw [h]; rfl

section
variable {s t : State}

theorem readyRelease_congr {n : CoreId} (h : Machine.core t n = Machine.core s n) : readyRelease t n = readyRelease s n := by
  unfold readyRelease; rw [h]

theorem readyOf_congr (hcsr : t.csr = s.csr) {cores : List CoreId} (h : ∀ n ∈ cores, Machine.core t n = Machine.core s n) :
    readyOf t cores = readyOf s cores := by
  refine List.filterMap_congr fun n hn => ?_
  rw [readyRelease_congr (h n hn), show logicalOf t n = logicalOf s n by unfold logicalOf getF reg; rw [hcsr]]

end

/-- With each core listed once, the ready releases leave their queues, in the order of the list. -/
theorem takeReleases_eq {cores : List CoreId} (hnodup : cores.Nodup) (s : State) (l : List (Nat × Held)) :
    ∃ t, takeReleases cores s l = (t, l ++ readyOf s cores)
      ∧ (∀ n ∈ cores, Machine.core t n = released s n)
      ∧ (∀ m, m ∉ cores.map (fun n => n.val) → Machine.core t m = Machine.core s m) ∧ { t with cores := s.cores } = s := by
  induction cores generalizing s l with
  | nil => exact ⟨s, by simp [takeReleases, readyOf], by simp, fun _ _ => rfl, rfl⟩
  | cons n ns ih =>
    obtain ⟨hnotin, hrest⟩ := List.nodup_cons.mp hnodup
    have hvals : n.val ∉ ns.map (fun n => n.val) := by
      intro hmem
      obtain ⟨m, hm, hval⟩ := List.mem_map.mp hmem
      exact hnotin (Fin.ext hval ▸ hm)
    unfold takeReleases
    rw [if_neg (by simpa using hnotin)]
    split
    · rename_i x hx
      let u := setCore s n (released s n)
      have hu : ∀ m ∈ ns, Machine.core u m = Machine.core s m := fun m hm =>
        core_setCore_other _ _ _ _ (fun h => hnotin (Fin.ext h ▸ hm))
      obtain ⟨t, hexec, hin, hout, hframe⟩ := ih hrest u (l ++ [(logicalOf s n, x)])
      refine ⟨t, ?_, ?_, ?_, ?_⟩
      · rw [← released_of_some hx, hexec, readyOf_congr (s := s) (t := u) rfl hu]
        simp [readyOf, hx]
      · intro m hm
        rcases List.mem_cons.mp hm with rfl | hm
        · rw [hout _ hvals]; exact core_setCore_same ..
        · rw [hin m hm]; unfold released; rw [hu m hm, readyRelease_congr (hu m hm)]
      · intro m hm
        simp only [List.map_cons, List.mem_cons, not_or] at hm
        rw [hout m hm.2]; exact core_setCore_other _ _ _ _ hm.1
      · calc { t with cores := s.cores } = { ({ t with cores := u.cores } : State) with cores := s.cores } := rfl
          _ = s := by rw [hframe]; rfl
    · rename_i hx
      obtain ⟨t, hexec, hin, hout, hframe⟩ := ih hrest s l
      refine ⟨t, ?_, ?_, ?_, hframe⟩
      · rw [hexec]; simp [readyOf, hx]
      · intro m hm
        rcases List.mem_cons.mp hm with rfl | hm
        · rw [hout _ hvals, released_of_none hx]
        · exact hin m hm
      · intro m hm
        simp only [List.map_cons, List.mem_cons, not_or] at hm
        exact hout m hm.2

/-! ### SETs (R153) -/

/-- A release that sets object `o`. -/
def setsObj (o : Nat) (x : Nat × Held) : Bool := x.2.kind == 2 && x.2.obj == o

theorem setsObj_iff (o : Nat) (x : Nat × Held) : setsObj o x = true ↔ x.2.kind = 2 ∧ x.2.obj = o := by
  simp [setsObj]

theorem winningSet_of_none {l : List (Nat × Held)} {o : Nat} (h : ∀ x ∈ l, ¬ (x.2.kind = 2 ∧ x.2.obj = o)) :
    winningSet l o = none := by
  unfold winningSet
  rw [List.filter_eq_nil_iff.mpr (fun x hx => by simpa using h x hx)]
  rfl

/-- The SET kept so far and the next one: that of the lower logical core. -/
def lowerSet (acc : Option (Nat × Held)) (x : Nat × Held) : Option (Nat × Held) :=
  match acc with
  | none => some x
  | some y => if x.1 < y.1 then some x else some y

theorem winningSet_eq (l : List (Nat × Held)) (o : Nat) : winningSet l o = (l.filter (setsObj o)).foldl lowerSet none := rfl

/-- The strictly lowest of a list stands at the end, wherever it comes. -/
theorem foldl_lowerSet_lowest {f : List (Nat × Held)} {x : Nat × Held} (hlow : ∀ y ∈ f, y = x ∨ x.1 < y.1)
    {acc : Option (Nat × Held)} (hacc : ∀ y, acc = some y → y = x ∨ x.1 < y.1) (hx : acc = some x ∨ x ∈ f) :
    f.foldl lowerSet acc = some x := by
  induction f generalizing acc with
  | nil => simpa using hx
  | cons a f ih =>
    have ha := hlow a List.mem_cons_self
    refine ih (fun y hy => hlow y (List.mem_cons_of_mem _ hy)) ?_ ?_
    · intro y hy
      unfold lowerSet at hy
      split at hy
      · exact Option.some.inj hy ▸ ha
      · split at hy
        · exact Option.some.inj hy ▸ ha
        · exact hacc y (by rw [← hy])
    · by_cases hax : a = x
      · subst hax
        left
        unfold lowerSet
        split
        · rfl
        · rename_i y
          rcases hacc y rfl with rfl | hlt
          · rw [if_neg (by omega)]
          · rw [if_pos hlt]
      · have hlt : x.1 < a.1 := ha.resolve_left hax
        rcases hx with rfl | hmem
        · left
          simp only [lowerSet]
          rw [if_neg (by omega)]
        · exact .inr ((List.mem_cons.mp hmem).resolve_left (fun h => hax h.symm))

theorem winningSet_of_lowest {l : List (Nat × Held)} {o : Nat} {x : Nat × Held} (hx : x ∈ l) (hkind : x.2.kind = 2)
    (hobj : x.2.obj = o) (hlow : ∀ y ∈ l, y.2.kind = 2 → y.2.obj = o → y = x ∨ x.1 < y.1) : winningSet l o = some x := by
  rw [winningSet_eq]
  refine foldl_lowerSet_lowest (fun y hy => ?_) (by simp) (.inr (List.mem_filter.mpr ⟨hx, (setsObj_iff o x).mpr ⟨hkind, hobj⟩⟩))
  obtain ⟨hmem, hset⟩ := List.mem_filter.mp hy
  obtain ⟨hk, ho⟩ := (setsObj_iff o y).mp hset
  exact hlow y hmem hk ho

/-- Object `o` takes the SET that wins, if there is one. -/
def setWinner (l : List (Nat × Held)) (s : State) (o : Nat) : State :=
  match winningSet l o with
  | some (_, h) => objSet s o h.v
  | none => s

/-- The COUNT of an object after the SETs. -/
def countSet (l : List (Nat × Held)) (o : Nat) (c : Word) : Word :=
  match winningSet l o with
  | some (_, h) => h.v
  | none => c

theorem obj_setWinner_same (l : List (Nat × Held)) (s : State) (o : Nat) :
    obj (setWinner l s o) o = { obj s o with count := countSet l o (obj s o).count } := by
  unfold setWinner countSet
  split
  · exact obj_setObj_same ..
  · rfl

theorem obj_setWinner_other (l : List (Nat × Held)) (s : State) {o k : Nat} (h : k ≠ o) : obj (setWinner l s o) k = obj s k := by
  unfold setWinner
  split
  · exact obj_setObj_other _ _ _ _ h
  · rfl

theorem setWinner_frame (l : List (Nat × Held)) (s : State) (o : Nat) : { setWinner l s o with objs := s.objs } = s := by
  unfold setWinner
  split <;> rfl

theorem countSet_idem (l : List (Nat × Held)) (o : Nat) (c : Word) : countSet l o (countSet l o c) = countSet l o c := by
  unfold countSet
  split <;> rfl

theorem foldl_setWinner (l : List (Nat × Held)) (os : List Nat) (s : State) :
    (∀ o, obj (os.foldl (setWinner l) s) o = if o ∈ os then { obj s o with count := countSet l o (obj s o).count } else obj s o)
      ∧ { os.foldl (setWinner l) s with objs := s.objs } = s := by
  induction os generalizing s with
  | nil => exact ⟨fun o => by simp, rfl⟩
  | cons a os ih =>
    obtain ⟨hobj, hframe⟩ := ih (setWinner l s a)
    constructor
    · intro o
      rw [List.foldl_cons, hobj]
      by_cases hoa : o = a
      · subst hoa
        simp only [obj_setWinner_same, countSet_idem, List.mem_cons, true_or, if_true, ite_self]
      · simp only [obj_setWinner_other l s hoa, List.mem_cons, hoa, false_or]
    · calc { os.foldl (setWinner l) (setWinner l s a) with objs := s.objs }
          = { ({ os.foldl (setWinner l) (setWinner l s a) with objs := (setWinner l s a).objs } : State) with objs := s.objs } := rfl
        _ = s := by rw [hframe, setWinner_frame]

/-! ### Adds (R152, R167) -/

/-- An add takes effect; SETs have done so before. -/
def addRelease (s : State) (x : Nat × Held) : State := if x.2.kind = 2 then s else addSignal s x.2.obj x.2.v.toNat

theorem applyReleases_eq (s : State) (l : List (Nat × Held)) :
    applyReleases s l = l.foldl addRelease ((l.map (fun x => x.2.obj)).eraseDups.foldl (setWinner l) (latchWaits s)) := rfl

/-- A release that adds to object `o`. -/
def addsTo (o : Nat) (x : Nat × Held) : Bool := decide (x.2.kind ≠ 2 ∧ x.2.obj = o)

theorem obj_addRelease (s : State) (x : Nat × Held) (o : Nat) :
    obj (addRelease s x) o = if addsTo o x = true then (obj s o).add x.2.v.toNat else obj s o := by
  unfold addRelease
  by_cases hkind : x.2.kind = 2
  · simp [addsTo, hkind]
  · rw [if_neg hkind, obj_congr (objs_addSignal s _ _)]
    by_cases hobj : x.2.obj = o
    · subst hobj
      rw [obj_objAdd_same, if_pos (by simp [addsTo, hkind])]
    · rw [obj_objAdd_other _ _ _ _ (fun h => hobj h.symm), if_neg (by simp [addsTo, hobj])]

/-- The sum of the adds of a list to an object. -/
def addSum (o : Nat) (l : List (Nat × Held)) : Nat := ((l.filter (addsTo o)).map (fun x => x.2.v.toNat)).sum

theorem addSum_cons (o : Nat) (x : Nat × Held) (l : List (Nat × Held)) :
    addSum o (x :: l) = (if addsTo o x = true then x.2.v.toNat else 0) + addSum o l := by
  unfold addSum
  rw [List.filter_cons]
  split <;> simp

theorem foldl_addRelease_obj (l : List (Nat × Held)) (s : State) (o : Nat) :
    (obj (l.foldl addRelease s) o).count.toNat = min ((obj s o).count.toNat + addSum o l) (2 ^ 64 - 1)
      ∧ ∀ lo w, lo + w ≤ 20 ∨ 21 ≤ lo → (obj (l.foldl addRelease s) o).ctrl.extractLsb' lo w = (obj s o).ctrl.extractLsb' lo w := by
  induction l generalizing s with
  | nil =>
    have := (obj s o).count.isLt
    exact ⟨by simp only [List.foldl_nil, addSum, List.filter_nil, List.map_nil, List.sum_nil]; omega, fun _ _ _ => rfl⟩
  | cons x l ih =>
    obtain ⟨hcount, hctrl⟩ := ih (addRelease s x)
    rw [List.foldl_cons, hcount, addSum_cons, obj_addRelease]
    refine ⟨?_, fun lo w h => ?_⟩
    · split
      · rw [add_count]; omega
      · omega
    · rw [hctrl lo w h, obj_addRelease]
      split
      · exact add_ctrl_beside _ _ h
      · rfl

/-- Between two states objects, and what a token's arrival writes, alone may differ. -/
def AddsMoved (s t : State) : Prop :=
  { t with objs := s.objs, slotQ := s.slotQ, mem := s.mem, bad := s.bad, csr := s.csr } = s

theorem AddsMoved.trans {s t u : State} (h : AddsMoved s t) (h' : AddsMoved t u) : AddsMoved s u :=
  calc { u with objs := s.objs, slotQ := s.slotQ, mem := s.mem, bad := s.bad, csr := s.csr }
      = { ({ u with objs := t.objs, slotQ := t.slotQ, mem := t.mem, bad := t.bad, csr := t.csr } : State) with
          objs := s.objs, slotQ := s.slotQ, mem := s.mem, bad := s.bad, csr := s.csr } := rfl
    _ = { t with objs := s.objs, slotQ := s.slotQ, mem := s.mem, bad := s.bad, csr := s.csr } := by rw [h']
    _ = s := by exact h

theorem TokenMoved.addsMoved {s t : State} (h : TokenMoved s t) : AddsMoved s t :=
  calc { t with objs := s.objs, slotQ := s.slotQ, mem := s.mem, bad := s.bad, csr := s.csr }
      = { ({ t with slotQ := s.slotQ, mem := s.mem, bad := s.bad, csr := s.csr } : State) with objs := s.objs } := rfl
    _ = s := by rw [h]

theorem addsMoved_addRelease (s : State) (x : Nat × Held) : AddsMoved s (addRelease s x) := by
  unfold addRelease
  split
  · rfl
  · exact AddsMoved.trans (t := objAdd s x.2.obj x.2.v.toNat) rfl (tokenMoved_addSignal s _ _).addsMoved

theorem addsMoved_foldl (l : List (Nat × Held)) (s : State) : AddsMoved s (l.foldl addRelease s) := by
  induction l generalizing s with
  | nil => rfl
  | cons x l ih => exact (addsMoved_addRelease s x).trans (ih _)

theorem slotOfArrive_none {s : State} (h : ∀ k, slotValid s k = false) (o : Nat) : slotOfArrive s o = none := by
  unfold slotOfArrive
  exact List.find?_eq_none.mpr fun k _ => by simp [h k]

/-- Without a valid slot an add changes objects alone. -/
theorem foldl_addRelease_of_no_slot (l : List (Nat × Held)) {s : State} (h : ∀ k, slotValid s k = false) :
    { l.foldl addRelease s with objs := s.objs } = s := by
  induction l generalizing s with
  | nil => rfl
  | cons x l ih =>
    have hx : { addRelease s x with objs := s.objs } = s := by
      unfold addRelease
      split
      · rfl
      · rw [addSignal_of_no_slot s (slotOfArrive_none h _)]; rfl
    have hslots : (addRelease s x).slots = s.slots := (congrArg State.slots hx :)
    have hvalid : ∀ k, slotValid (addRelease s x) k = false := fun k => by
      rw [← h k]; unfold slotValid slotWord; rw [hslots]
    calc { l.foldl addRelease (addRelease s x) with objs := s.objs }
        = { ({ l.foldl addRelease (addRelease s x) with objs := (addRelease s x).objs } : State) with objs := s.objs } := rfl
      _ = s := by rw [ih hvalid]; exact hx

end Sys2Proof.Proofs
end

section
/-! SETTLES O19. Releases of a cycle take effect together, and waits end at their value (R153, R201, R237, R374). -/
namespace Sys2Proof.Proofs
open Sys2Proof.Machine Sys2Proof.Machine.Claims Sys2Proof.Laws

theorem ifRunning_of_running {s : State} (h : running s = true) (k : State) : ifRunning s k = k := if_pos h

/-! ### Releases -/

section
variable {s t : State}

/-- A change of objects alone is within what adds may change. -/
theorem addsMoved_of_objs (h : { t with objs := s.objs } = s) : AddsMoved s t :=
  calc { t with objs := s.objs, slotQ := s.slotQ, mem := s.mem, bad := s.bad, csr := s.csr }
      = { ({ t with objs := s.objs } : State) with slotQ := s.slotQ, mem := s.mem, bad := s.bad, csr := s.csr } := rfl
    _ = s := by rw [h]

/-- What the releases of a list make of a state, seen from the state in which the waits have been noted. -/
theorem applyReleases_addsMoved (s : State) (l : List (Nat × Held)) : AddsMoved (latchWaits s) (applyReleases s l) := by
  rw [applyReleases_eq]
  obtain ⟨_, hframe⟩ := foldl_setWinner l (l.map (fun x => x.2.obj)).eraseDups (latchWaits s)
  exact (addsMoved_of_objs hframe).trans (addsMoved_foldl l _)

theorem obj_applyReleases (s : State) (l : List (Nat × Held)) (o : Nat) :
    (obj (applyReleases s l) o).count.toNat = min ((countSet l o (obj s o).count).toNat + addSum o l) (2 ^ 64 - 1)
      ∧ ∀ lo w, lo + w ≤ 20 ∨ 21 ≤ lo → (obj (applyReleases s l) o).ctrl.extractLsb' lo w = (obj s o).ctrl.extractLsb' lo w := by
  rw [applyReleases_eq]
  obtain ⟨hobj, _⟩ := foldl_setWinner l (l.map (fun x => x.2.obj)).eraseDups (latchWaits s)
  generalize (l.map (fun x => x.2.obj)).eraseDups.foldl (setWinner l) (latchWaits s) = u at hobj ⊢
  have hu : obj u o = { obj s o with count := countSet l o (obj s o).count } := by
    rw [hobj, obj_latchWaits]
    split
    · rfl
    · rename_i hnot
      have hnone : winningSet l o = none := winningSet_of_none fun x hx h => hnot (by
        rw [List.mem_eraseDups]; exact List.mem_map.mpr ⟨x, hx, h.2⟩)
      unfold countSet
      rw [hnone]
  have hadds := foldl_addRelease_obj l u o
  rwa [hu] at hadds

theorem applyReleases_of_no_slot {l : List (Nat × Held)} (h : ∀ k, slotValid s k = false) :
    { applyReleases s l with objs := s.objs } = latchWaits s := by
  rw [applyReleases_eq]
  obtain ⟨_, hframe⟩ := foldl_setWinner l (l.map (fun x => x.2.obj)).eraseDups (latchWaits s)
  generalize (l.map (fun x => x.2.obj)).eraseDups.foldl (setWinner l) (latchWaits s) = u at hframe ⊢
  have hslots : u.slots = s.slots := by
    have := (congrArg State.slots hframe :)
    rw [this]; simp
  have hvalid : ∀ k, slotValid u k = false := fun k => by
    rw [← h k]; unfold slotValid slotWord; rw [hslots]
  have hobjs : (latchWaits s).objs = s.objs := by simp
  calc { l.foldl addRelease u with objs := s.objs }
      = { ({ l.foldl addRelease u with objs := u.objs } : State) with objs := s.objs } := rfl
    _ = { u with objs := s.objs } := by rw [foldl_addRelease_of_no_slot l hvalid]
    _ = latchWaits s := by rw [← hobjs]; exact hframe

theorem core_of_addsMoved (h : AddsMoved s t) (m : Nat) : Machine.core t m = Machine.core s m := by
  unfold Machine.core; rw [(congrArg State.cores h :)]

end

theorem countSet_of_base {s : State} {l : List (Nat × Held)} {o base : Nat}
    (h : (∀ x ∈ l, ¬ (x.2.kind = 2 ∧ x.2.obj = o)) ∧ base = (obj s o).count.toNat
      ∨ ∃ x ∈ l, x.2.kind = 2 ∧ x.2.obj = o ∧ base = x.2.v.toNat
          ∧ ∀ y ∈ l, y.2.kind = 2 → y.2.obj = o → y = x ∨ x.1 < y.1) :
    (countSet l o (obj s o).count).toNat = base := by
  unfold countSet
  rcases h with ⟨hnone, hbase⟩ | ⟨x, hx, hkind, hobj, hbase, hlow⟩
  · rw [winningSet_of_none hnone, hbase]
  · rw [winningSet_of_lowest hx hkind hobj hlow, hbase]

theorem releasesOfACycleTakeEffectTogether : ReleasesOfACycleTakeEffectTogether := by
  intro cores s hrun hnodup
  obtain ⟨u, htake, hin, hout, hframe⟩ := takeReleases_eq hnodup s []
  have hobjs : u.objs = s.objs := (congrArg State.objs hframe :)
  have hmoved := applyReleases_addsMoved u (readyOf s cores)
  have hcore : ∀ m, Machine.core (applyReleases u (readyOf s cores)) m = waitNoted s (Machine.core u m) := fun m => by
    rw [core_of_addsMoved hmoved, core_latchWaits, waitNoted_congr hobjs]
  have hcoll : (applyReleases u (readyOf s cores)).coll = (latchWaits s).coll :=
    (congrArg State.coll hmoved :).trans (latchWaits_coll_congr hobjs (congrArg State.coll hframe :))
  have hsec : (applyReleases u (readyOf s cores)).sec = (latchWaits s).sec :=
    (congrArg State.sec hmoved :).trans (latchWaits_sec_congr hobjs (congrArg State.sec hframe :))
  refine ⟨applyReleases u (readyOf s cores), ?_, ?_, ?_, ?_, hcoll, hsec, ?_, ?_⟩
  · show Host.Outcome.next _ = _
    rw [ifRunning_of_running hrun, htake, List.nil_append]
  · intro l hl o base hbase
    obtain ⟨hcount, hctrl⟩ := obj_applyReleases u (readyOf s cores) o
    rw [obj_congr hobjs] at hcount hctrl
    refine ⟨?_, hctrl 0 20 (by omega), hctrl 21 43 (by omega)⟩
    rw [hcount, ← countSet_of_base hbase, hl]
    rfl
  · intro n hn
    rw [hcore, hin n hn]
    rfl
  · intro m hm
    rw [hcore, hout m hm]
    rfl
  · intro hslots
    have hnone := applyReleases_of_no_slot (s := u) (l := readyOf s cores)
      (fun k => by rw [← hslots k]; unfold slotValid slotWord; rw [(congrArg State.slots hframe :)])
    calc { applyReleases u (readyOf s cores) with cores := s.cores, objs := s.objs, coll := s.coll, sec := s.sec }
        = { ({ applyReleases u (readyOf s cores) with objs := u.objs } : State) with
            cores := s.cores, objs := s.objs, coll := s.coll, sec := s.sec } := rfl
      _ = { ({ u with cores := s.cores } : State) with objs := s.objs, coll := s.coll, sec := s.sec } := by
          rw [hnone, latchWaits_eq]
      _ = s := by rw [hframe]
  · calc { applyReleases u (readyOf s cores) with
            cores := s.cores, objs := s.objs, coll := s.coll, sec := s.sec, slotQ := s.slotQ, mem := s.mem, bad := s.bad, csr := s.csr }
        = { ({ applyReleases u (readyOf s cores) with
                objs := (latchWaits u).objs, slotQ := (latchWaits u).slotQ, mem := (latchWaits u).mem,
                bad := (latchWaits u).bad, csr := (latchWaits u).csr } : State) with
            cores := s.cores, objs := s.objs, coll := s.coll, sec := s.sec, slotQ := s.slotQ, mem := s.mem, bad := s.bad, csr := s.csr } := rfl
      _ = { ({ u with cores := s.cores } : State) with
            objs := s.objs, coll := s.coll, sec := s.sec, slotQ := s.slotQ, mem := s.mem, bad := s.bad, csr := s.csr } := by
          rw [hmoved, latchWaits_eq]
      _ = s := by rw [hframe]

/-! ### Waits -/

section
variable {s : State}

/-- The smallest index whose object has reached a wait's value. -/
theorem waitHit_eq_some {w : CoreWait} {i : Nat} (hi : i ≤ w.count) (hreached : w.v.toNat ≤ (obj s (w.obj + i)).count.toNat)
    (hbelow : ∀ j, j < i → (obj s (w.obj + j)).count.toNat < w.v.toNat) : waitHit s w = some i := by
  unfold waitHit
  rw [List.find?_range_eq_some]
  refine ⟨by simpa using hreached, List.mem_range.mpr (by omega), fun j hj => ?_⟩
  simpa using hbelow j hj

theorem waitHit_eq_none {w : CoreWait} (h : ∀ i, i ≤ w.count → (obj s (w.obj + i)).count.toNat < w.v.toNat) : waitHit s w = none := by
  unfold waitHit
  rw [List.find?_eq_none]
  intro i hi
  simpa using h i (by have := List.mem_range.mp hi; omega)

/-- A wait that is met, now or at the end of an earlier cycle, ends with the index that it was met for. -/
theorem wakeCore_met {n : CoreId} {w : CoreWait} {i : Nat} (hw : (Machine.core s n).wait = some w)
    (hmet : (w.hit <|> waitHit s w) = some i) :
    (coreAwake s n = true → wakeCore s n =
        (match w.dst with
          | some r => setG (setCore s n { Machine.core s n with wait := none }) (.core n) r (BitVec.ofNat 64 i)
          | none => setCore s n { Machine.core s n with wait := none }))
      ∧ (coreAwake s n = false → wakeCore s n = startWake (startWake
          (setCore s n { Machine.core s n with wait := some { w with hit := some i } }) (80 + n / 5)) n) := by
  constructor <;> intro hawake <;> unfold wakeCore <;> rw [hw] <;> dsimp only <;> rw [hmet] <;> simp only [hawake] <;> rfl

theorem getG_setCore_wait (s : State) (n : CoreId) (w : Option CoreWait) (r : GReg) :
    getG (setCore s n { Machine.core s n with wait := w }) (.core n) r = getG s (.core n) r := by
  simp only [getG, core_setCore_same]

/-- A core's wait ends: FIRST's register takes the index, and nothing else changes. -/
theorem wakeCore_awake_effect {n : CoreId} {w : CoreWait} {i : Nat} {t : State}
    (ht : t = (match w.dst with
      | some r => setG (setCore s n { Machine.core s n with wait := none }) (.core n) r (BitVec.ofNat 64 i)
      | none => setCore s n { Machine.core s n with wait := none })) :
    (Machine.core t n).wait = none
      ∧ (∀ r, getG t (.core n) r = if w.dst = some r ∧ r ≠ 0 then BitVec.ofNat 64 i else getG s (.core n) r)
      ∧ { Machine.core t n with wait := (Machine.core s n).wait, g := (Machine.core s n).g } = Machine.core s n
      ∧ CoresKept s t [n.val] ∧ { t with cores := s.cores } = s := by
  have hkept : ∀ c d : Core, CoresKept s (setCore (setCore s n c) n d) [n.val] := fun c d m hm => by
    have hne : m ≠ n.val := by simpa using hm
    rw [core_setCore_other _ _ _ _ hne, core_setCore_other _ _ _ _ hne]
  cases hdst : w.dst with
  | none =>
    rw [hdst] at ht
    subst ht
    refine ⟨by rw [core_setCore_same], fun r => by rw [getG_setCore_wait]; simp, by rw [core_setCore_same], ?_, rfl⟩
    intro m hm
    exact core_setCore_other _ _ _ _ (by simpa using hm)
  | some d =>
    rw [hdst] at ht
    subst ht
    refine ⟨?_, fun r => ?_, ?_, hkept _ _, rfl⟩
    · simp only [setG, core_setCore_same]
    · rw [getG_setG, getG_setCore_wait]
      simp only [Option.some.injEq, eq_comm]
    · simp only [setG, core_setCore_same]

theorem flow_wake_eq (s : State) (e : Engine) (f : Flow) :
    (match f.wait with
      | some (o, v) => if f.engine = e.val ∧ v.toNat ≤ (obj s o).count.toNat then { f with wait := none } else f
      | none => f) = if f.engine = e.val ∧ flowSatisfied s f = true then { f with wait := none } else f := by
  unfold flowSatisfied
  cases f.wait with
  | none => simp
  | some w => simp

/-- The flow sequencers of a launch on an engine whose objects have reached their values wait no more. -/
def flowsWoken (s : State) (e : Engine) (x : Launch) : Launch :=
  { x with flows := x.flows.map (fun f => if f.engine = e.val ∧ flowSatisfied s f = true then { f with wait := none } else f) }

theorem wakeFlow_eq {e : Engine} {l : Nat} {x : Launch} (h : launch s l = some x) : wakeFlow s e l = setLaunch s (flowsWoken s e x) := by
  unfold wakeFlow
  rw [h]
  exact congrArg (fun fs => setLaunch s { x with flows := fs }) (List.map_congr_left fun f _ => flow_wake_eq s e f)

/-- With no provenance request served next, the end of a cycle notes nothing for one. -/
theorem latchProv_of_not_next (h : nextWork s ≠ some .prov) : latchProv s = s := by
  unfold latchProv
  cases s.sec.prov with
  | nil => rfl
  | cons q qs => exact if_neg h

theorem latchProv_of_next {q : ProvReq} {qs : List ProvReq} (hq : s.sec.prov = q :: qs) (h : nextWork s = some .prov) :
    latchProv s = { s with sec := { s.sec with prov := q.latch s :: qs } } := by
  unfold latchProv
  rw [hq]
  exact if_pos h

/-- The end of a cycle is noted for the provenance request in progress, and nothing else changes. -/
theorem latchProv_effect (s : State) :
    (latchProv s).sec = { s.sec with prov := (latchProv s).sec.prov } ∧ { latchProv s with sec := s.sec } = s
      ∧ (∀ q qs, s.sec.prov = q :: qs → nextWork s = some .prov → (latchProv s).sec.prov = q.latch s :: qs)
      ∧ (nextWork s ≠ some .prov → latchProv s = s) := by
  have hframe : (latchProv s).sec = { s.sec with prov := (latchProv s).sec.prov } ∧ { latchProv s with sec := s.sec } = s := by
    unfold latchProv
    split
    · exact ⟨rfl, rfl⟩
    · split <;> exact ⟨rfl, rfl⟩
  exact ⟨hframe.1, hframe.2, fun q qs hq h => by rw [latchProv_of_next hq h], latchProv_of_not_next⟩

end

/-- WAIT_WAKE while the chip runs. -/
theorem exec_waitWake {s t : State} (hrun : running s = true) :
    (∀ n, wakeCore s n = t → exec (.waitWake (.core n)) s = .next t)
      ∧ (∀ e l, wakeFlow s e l = t → exec (.waitWake (.flow e l)) s = .next t)
      ∧ (latchProv s = t → exec (.waitWake .prov) s = .next t) :=
  ⟨fun _ h => congrArg Host.Outcome.next ((ifRunning_of_running hrun _).trans h),
    fun _ _ h => congrArg Host.Outcome.next ((ifRunning_of_running hrun _).trans h),
    fun h => congrArg Host.Outcome.next ((ifRunning_of_running hrun _).trans h)⟩

/-- A wait is met for an index when that is what it noted, or the smallest one whose object has reached the value. -/
theorem waitMet_eq_some {s : State} {w : CoreWait} {i : Nat}
    (h : w.hit = some i ∨ (w.hit = none ∧ i ≤ w.count ∧ w.v.toNat ≤ (obj s (w.obj + i)).count.toNat
      ∧ ∀ j, j < i → (obj s (w.obj + j)).count.toNat < w.v.toNat)) : (w.hit <|> waitHit s w) = some i := by
  rcases h with hhit | ⟨hhit, hi, hreached, hbelow⟩
  · rw [hhit]; rfl
  · rw [hhit, waitHit_eq_some hi hreached hbelow]; rfl

theorem wakeCore_of_unmet {s : State} {n : CoreId} {w : CoreWait} (hw : (Machine.core s n).wait = some w) (hhit : w.hit = none)
    (h : ∀ i, i ≤ w.count → (obj s (w.obj + i)).count.toNat < w.v.toNat) : wakeCore s n = s := by
  unfold wakeCore
  rw [hw]
  dsimp only
  rw [hhit, waitHit_eq_none h]
  rfl

theorem waitsEndAtTheirValue : WaitsEndAtTheirValue := by
  intro s hrun
  refine ⟨fun n w i hw hmet => ?_, fun n w hw hhit hbelow => ?_, fun e l x hx => ?_, ?_⟩
  · obtain ⟨hawake, hasleep⟩ := wakeCore_met hw (waitMet_eq_some hmet)
    exact ⟨fun h => ⟨_, (exec_waitWake hrun).1 n rfl, wakeCore_awake_effect (hawake h)⟩,
      fun h => ⟨_, (exec_waitWake hrun).1 n (hasleep h), rfl⟩⟩
  · exact (exec_waitWake hrun).1 n (wakeCore_of_unmet hw hhit hbelow)
  · have hno : x.no = l := launch_no hx
    subst hno
    obtain ⟨hsame, hother⟩ := launch_setLaunch hx (y := flowsWoken s e x) rfl
    exact ⟨_, _, (exec_waitWake hrun).2.1 e x.no (wakeFlow_eq hx), hsame, rfl, hother, rfl, rfl⟩
  · exact ⟨_, (exec_waitWake hrun).2.2 rfl, latchProv_effect s⟩

/-- Settles O19: the releases of a cycle, core by core and object by object, and the end of each kind of wait. -/
theorem releasesAndWaitsMeet : Obligations.ReleasesAndWaitsMeet :=
  ⟨releasesOfACycleTakeEffectTogether, waitsEndAtTheirValue⟩

end Sys2Proof.Proofs
end

section
/-! SUPPORT. Storage read and written where no failing code word is touched, and rows of numbers as bytes. -/
namespace Sys2Proof.Proofs
open Sys2Proof.Machine Sys2Proof.Machine.Claims Sys2Proof.Laws

/-! ### Lists -/

section
variable {α β : Type}

/-- The element `c` of the part `k` of parts of one length. -/
theorem getElem?_flatMap_of_length {f : α → List β} {m c : Nat} (hlen : ∀ a, (f a).length = m) (hc : c < m) (l : List α) (k : Nat) :
    (l.flatMap f)[m * k + c]? = l[k]?.bind (fun a => (f a)[c]?) := by
  induction l generalizing k with
  | nil => simp
  | cons a l ih =>
    rw [List.flatMap_cons]
    cases k with
    | zero => simp [List.getElem?_append_left, hlen, hc]
    | succ k =>
      have hsub : m * (k + 1) + c - m = m * k + c := by rw [Nat.mul_succ]; omega
      rw [List.getElem?_append_right (by rw [hlen, Nat.mul_succ]; omega), hlen, hsub, ih]
      rfl

theorem length_flatMap_of_length {f : α → List β} {m : Nat} (hlen : ∀ a, (f a).length = m) (l : List α) :
    (l.flatMap f).length = m * l.length := by
  induction l with
  | nil => simp
  | cons a l ih => simp [hlen, ih, Nat.mul_succ, Nat.add_comm]

/-- A fold that appends the first components and joins the second ones. -/
theorem foldl_append_fst {γ : Type} (g : α → β × γ) (h : γ → γ → γ) (l : List α) (acc : List β × γ) :
    (l.foldl (fun acc n => (acc.1 ++ [(g n).1], h acc.2 (g n).2)) acc).1 = acc.1 ++ l.map (fun n => (g n).1) := by
  induction l generalizing acc with
  | nil => simp
  | cons a l ih => simp [ih]

/-- A sum over an initial segment is the sum over a longer one whose further terms are 0. -/
theorem sum_range_ite (f : Nat → Int) {k n : Nat} (h : k ≤ n) :
    ((List.range n).map (fun i => if i < k then f i else 0)).sum = ((List.range k).map f).sum := by
  obtain ⟨m, rfl⟩ := Nat.exists_eq_add_of_le h
  have hfirst : (List.range k).map (fun i => if i < k then f i else 0) = (List.range k).map f :=
    List.map_congr_left fun i hi => if_pos (List.mem_range.mp hi)
  rw [List.range_add, List.map_append, List.sum_append, hfirst, List.map_map, List.sum_eq_zero (l := List.map _ (List.range m)), add_zero]
  intro x hx
  obtain ⟨i, -, rfl⟩ := List.mem_map.mp hx
  exact if_neg (Nat.not_lt.mpr (Nat.le_add_right k i))

end

/-! ### Bytes -/

section
variable {s t : State} {k : Nat} {bs : List Byte}

theorem getElem?_rdBytes (s : State) (k n j : Nat) : (rdBytes s k n)[j]? = if j < n then some (rdByte s (k + j)) else none := by
  induction n generalizing k j with
  | zero => simp [rdBytes]
  | succ n ih =>
    cases j with
    | zero => simp [rdBytes]
    | succ j => simp [rdBytes, ih, Nat.add_assoc, Nat.add_comm 1 j]

/-- The bytes of a range are those that stand at its keys. -/
theorem rdBytes_eq_of (h : ∀ j, j < bs.length → bs[j]? = some (rdByte t (k + j))) : rdBytes t k bs.length = bs := by
  apply List.ext_getElem?
  intro j
  rw [getElem?_rdBytes]
  split
  · exact (h j ‹_›).symm
  · exact (List.getElem?_eq_none (by omega)).symm

theorem rdBytes_congr {n : Nat} (h : ∀ j, j < n → rdByte t (k + j) = rdByte s (k + j)) : rdBytes t k n = rdBytes s k n := by
  apply List.ext_getElem?
  intro j
  rw [getElem?_rdBytes, getElem?_rdBytes]
  split
  · rw [h j ‹_›]
  · rfl

theorem ofBytes_singleton (b : Byte) : ofBytes [b] = b.toNat := by simp [ofBytes]

/-- A code word that a range covers overlaps it. -/
theorem overlaps_of_covers {w n : Nat} (h : covers w k n = true) : overlaps w k n = true := by
  have hcw : 0 < codeWord w := by unfold codeWord; split <;> [skip; split] <;> decide
  simp only [covers, overlaps, Bool.and_eq_true, decide_eq_true_eq] at h ⊢
  omega

/-- A write that no failing word overlaps writes all its bytes and no failing word is cured. -/
theorem wrBytes_of_clean (h : ∀ w ∈ s.bad, overlaps w k bs.length = false) : wrBytes s k bs = (wrBytesBut [] s k bs, none) := by
  have hkept : s.bad.filter (fun w => overlaps w k bs.length && !(covers w k bs.length)) = [] :=
    List.filter_eq_nil_iff.mpr fun w hw => by simp [h w hw]
  have hbad : s.bad.filter (fun w => !(covers w k bs.length)) = s.bad :=
    List.filter_eq_self.mpr fun w hw => by
      cases hc : covers w k bs.length with
      | false => rfl
      | true => exact absurd (overlaps_of_covers hc) (by rw [h w hw]; simp)
  have hframe := wrBytesBut_frame s [] k bs
  have hb : (wrBytesBut [] s k bs).bad = s.bad := (congrArg State.bad hframe :)
  unfold wrBytes
  simp only [hkept, hbad]
  rw [← hb]
  rfl

/-- What such a write leaves at each key. -/
theorem rdByte_wrBytesBut_nil (s : State) (k a : Nat) (bs : List Byte) :
    rdByte (wrBytesBut [] s k bs) a = if k ≤ a ∧ a < k + bs.length then bs.getD (a - k) 0 else rdByte s a := by
  rw [rdByte_wrBytesBut]
  simp [inBad]

/-- Between two states memory alone differs. -/
def MemMoved (s t : State) : Prop := { t with mem := s.mem } = s

theorem MemMoved.trans {u : State} (h : MemMoved s t) (h' : MemMoved t u) : MemMoved s u :=
  calc { u with mem := s.mem } = { ({ u with mem := t.mem } : State) with mem := s.mem } := rfl
    _ = { t with mem := s.mem } := by rw [h']
    _ = s := by exact h

theorem MemMoved.bad_eq (h : MemMoved s t) : t.bad = s.bad := (congrArg State.bad h :)
theorem MemMoved.cores_eq (h : MemMoved s t) : t.cores = s.cores := (congrArg State.cores h :)
theorem MemMoved.core_eq (h : MemMoved s t) (n : Nat) : Machine.core t n = Machine.core s n := by
  unfold Machine.core; rw [h.cores_eq]

theorem memMoved_wrBytesBut (s : State) (skip : List Nat) (k : Nat) (bs : List Byte) : MemMoved s (wrBytesBut skip s k bs) :=
  wrBytesBut_frame s skip k bs

theorem writeRows_cons_of_clean {l : List Span} {r : Nat} {bss : List (List Byte)} {w : Option Nat}
    (h : ∀ x ∈ s.bad, overlaps x (rowKey l r) bs.length = false) :
    writeRows l r (bs :: bss) s w = writeRows l (r + 1) bss (wrBytesBut [] s (rowKey l r) bs) w := by
  have hw : (w <|> none) = w := by cases w <;> rfl
  rw [writeRows, wrBytes_of_clean h]
  exact congrArg (writeRows l (r + 1) bss _) hw

/-- Rows of bytes written where no failing word is touched: no failing word is met, memory alone differs, and outside the rows
it is as it was. -/
theorem writeRows_of_clean {l : List Span} {r : Nat} {bss : List (List Byte)} {w : Option Nat}
    (h : ∀ i (hi : i < bss.length), ∀ x ∈ s.bad, overlaps x (rowKey l (r + i)) bss[i].length = false) :
    (writeRows l r bss s w).2 = w ∧ MemMoved s (writeRows l r bss s w).1
      ∧ ∀ a, (∀ i (hi : i < bss.length), a < rowKey l (r + i) ∨ rowKey l (r + i) + bss[i].length ≤ a) →
          rdByte (writeRows l r bss s w).1 a = rdByte s a := by
  induction bss generalizing r s w with
  | nil => exact ⟨rfl, rfl, fun _ _ => rfl⟩
  | cons bs bss ih =>
    have hmoved := memMoved_wrBytesBut s [] (rowKey l r) bs
    have hfirst : ∀ x ∈ s.bad, overlaps x (rowKey l r) bs.length = false := h 0 (by simp)
    have hrest : ∀ i (hi : i < bss.length), ∀ x ∈ (wrBytesBut [] s (rowKey l r) bs).bad,
        overlaps x (rowKey l (r + 1 + i)) bss[i].length = false := fun i hi x hx => by
      have := h (i + 1) (by simpa using hi) x (by rwa [hmoved.bad_eq] at hx)
      rwa [Nat.add_assoc, Nat.add_comm 1 i]
    obtain ⟨hnone, hframe, hout⟩ := ih (w := w) hrest
    rw [writeRows_cons_of_clean hfirst]
    refine ⟨hnone, hmoved.trans hframe, fun a ha => ?_⟩
    rw [hout a fun i hi => by
      have := ha (i + 1) (by simpa using hi)
      rwa [Nat.add_assoc, Nat.add_comm 1 i], rdByte_wrBytesBut_nil, if_neg]
    have := ha 0 (by simp)
    simp only [Nat.add_zero, List.getElem_cons_zero] at this
    omega

end

end Sys2Proof.Proofs
end

section
/-! SUPPORT. What an MMA and a WLD compute, element by element (R76, R134, R136, R140, R142). -/
namespace Sys2Proof.Proofs
open Sys2Proof.Machine Sys2Proof.Machine.Claims Sys2Proof.Laws

/-! ### INT8 products -/

/-- `signed 8` of a byte is its two's complement value. -/
theorem signed_toNat_byte (b : Byte) : signed 8 b.toNat = b.toInt := by
  have hlt : b.toNat < 2 ^ 8 := b.isLt
  unfold signed
  rw [BitVec.toInt_eq_toNat_cond, Nat.mod_eq_of_lt hlt]
  norm_num
  split <;> split <;> omega

theorem ofInt_signed_unsigned (x : Int) : BitVec.ofInt 32 (signed 32 (unsigned 32 x)) = BitVec.ofInt 32 x := by
  apply BitVec.eq_of_toNat_eq
  rw [BitVec.toNat_ofInt, BitVec.toNat_ofInt]
  unfold signed unsigned
  split <;> omega

theorem ofNat_unsigned (x : Int) : BitVec.ofNat 32 (unsigned 32 x) = BitVec.ofInt 32 x := by
  apply BitVec.eq_of_toNat_eq
  rw [BitVec.toNat_ofInt, BitVec.toNat_ofNat]
  unfold unsigned
  omega

/-- A bit string is that of its signed value. -/
theorem ofInt_signed (x : Nat) : BitVec.ofInt 32 (signed 32 x) = BitVec.ofNat 32 x := by
  apply BitVec.eq_of_toNat_eq
  rw [BitVec.toNat_ofInt, BitVec.toNat_ofNat]
  unfold signed
  split <;> omega

/-- The INT32 accumulation wraps at each product, so it is the sum modulo 2^32. -/
theorem accInt_fst (xs : List (Machine.Num × Machine.Num)) (run : Int) (f : Fl) :
    BitVec.ofNat 32 (accInt xs run f).1
      = BitVec.ofInt 32 run + BitVec.ofInt 32 (xs.map (fun x => accInt.intOf x.1 * accInt.intOf x.2)).sum := by
  induction xs generalizing run f with
  | nil => simp [accInt, ofNat_unsigned]
  | cons x xs ih =>
    rw [accInt, ih, ofInt_signed_unsigned, List.map_cons, List.sum_cons, BitVec.ofInt_add, BitVec.ofInt_add, BitVec.add_assoc]

theorem accInt_lt (xs : List (Machine.Num × Machine.Num)) (run : Int) (f : Fl) : (accInt xs run f).1 < 2 ^ 32 := by
  induction xs generalizing run f with
  | nil => simp only [accInt, unsigned]; omega
  | cons x xs ih => rw [accInt]; exact ih _ _

/-- The integer of a decoded INT8 code. -/
theorem intOf_decodeNum_int8 (c : Nat) : accInt.intOf (decodeNum 9 c).1 = signed 8 c := by
  simp only [decodeNum, ffmt, ifmt, if_true, accInt.intOf, shl, le_refl, Int.toNat_zero, Nat.shiftLeft_zero, sgn, decide_eq_true_eq]
  split <;> omega

theorem elemAt_byte (s : State) (k i : Nat) : elemAt s 8 k i = (rdByte s (k + i)).toNat := by
  have hlt : (rdByte s (k + i)).toNat < 256 := (rdByte s (k + i)).isLt
  simp only [elemAt, Nat.mul_div_cancel_left i (by decide : 0 < 8), Nat.mul_mod_right, Nat.shiftRight_zero]
  simp [rdBytes, ofBytes, hlt]

/-- Activation `k` of row 0 in INT8. -/
theorem intOf_actAt {s : State} {d : BitVec 128} {b : Bank} (feed k : Nat) (ha : mmaAFmt d = 9) :
    accInt.intOf (actAt s d b feed 0 k).1 = if k < b.kRows then (rdByte s (feed + 65 * k)).toInt else 0 := by
  unfold actAt
  split
  · have hpos : feedPos d feed 0 k = (feed, 65 * k) := by
      simp only [feedPos, ha, mmaClass, feedIndex]
      norm_num
      omega
    rw [hpos, ha]
    show accInt.intOf (decodeNum 9 (elemAt s 8 feed (65 * k))).1 = _
    rw [intOf_decodeNum_int8, elemAt_byte, signed_toNat_byte]
  · rfl

/-- The products of row 0 with a column, in INT8. -/
theorem sum_products_int8 {s : State} {d : BitVec 128} {b : Bank} (feed c : Nat) (ha : mmaAFmt d = 9) (hrows : b.kRows ≤ 64) :
    ((((List.range 64).map (fun k => actAt s d b feed 0 k)).map Prod.fst).zip (weightCol b 9 c)
        |>.map (fun x => accInt.intOf x.1 * accInt.intOf x.2)).sum
      = ((List.range b.kRows).map (fun k => (rdByte s (feed + 65 * k)).toInt * signed 8 (b.w.getD (64 * k + c) 0))).sum := by
  rw [← sum_range_ite _ hrows]
  unfold weightCol
  rw [List.map_map, List.zip_map', List.map_map]
  refine congrArg List.sum (List.map_congr_left fun k _ => ?_)
  simp only [Function.comp_apply, intOf_actAt feed k ha]
  split
  · rw [intOf_decodeNum_int8]
  · rfl

/-! ### The rows of an MMA -/

/-- The column sums of a bank's weights that an MMA multiplies. -/
def weightCols (d : BitVec 128) (b : Bank) : List (List Machine.Num) := (List.range (mmaCols d)).map (weightCol b (mmaWFmt d))

/-- The bank that an MMA reads. -/
def mmaBank (c : Core) (o : ZtOp) : Bank := if o.bank then c.bank1 else c.bank0

/-- The rows that an MMA computes. -/
def mmaResult (s : State) (o : ZtOp) (b : Bank) : List (List Nat × Fl) :=
  mmaRows' s o.d b o (weightCols o.d b) (mmaRows o.d)

/-- The bytes that it writes. -/
def mmaBytes (s : State) (o : ZtOp) (b : Bank) : List (List Byte) := (mmaResult s o b).map (fun x => codesToBytes 4 x.1)

theorem length_mmaRow (s : State) (d : BitVec 128) (b : Bank) (o : ZtOp) (cols : List (List Machine.Num)) (r : Nat) :
    (mmaRow s d b o cols r).1.length = mmaCols d := by
  unfold mmaRow
  rw [foldl_append_fst (g := fun n => mmaElem d _ _ _ _ _) (h := Fl.or)]
  simp

theorem length_codesToBytes (n : Nat) (l : List Nat) : (codesToBytes n l).length = n * l.length :=
  length_flatMap_of_length (fun a => toBytes_length n a) l

theorem mem_mmaRows' {s : State} {d : BitVec 128} {b : Bank} {o : ZtOp} {cols : List (List Machine.Num)} (k : Nat) :
    (mmaRows' s d b o cols k).length = k ∧ ∀ x ∈ mmaRows' s d b o cols k, x.1.length = mmaCols d := by
  induction k with
  | zero => exact ⟨rfl, by simp [mmaRows']⟩
  | succ k ih =>
    obtain ⟨hlen, hrow⟩ := ih
    refine ⟨by simp [mmaRows', hlen], fun x hx => ?_⟩
    rcases List.mem_append.mp hx with h | h
    · exact hrow x h
    · rw [List.mem_singleton.mp h]; exact length_mmaRow ..

theorem length_mmaBytes (s : State) (o : ZtOp) (b : Bank) :
    (mmaBytes s o b).length = mmaRows o.d ∧ ∀ bs ∈ mmaBytes s o b, bs.length = 4 * mmaCols o.d := by
  obtain ⟨hlen, hrow⟩ := mem_mmaRows' (s := s) (d := o.d) (b := b) (o := o) (cols := weightCols o.d b) (mmaRows o.d)
  refine ⟨by rw [mmaBytes, List.length_map]; exact hlen, fun bs hbs => ?_⟩
  obtain ⟨x, hx, rfl⟩ := List.mem_map.mp hbs
  rw [length_codesToBytes, hrow x hx]

/-- The code of column `c` of the only row of an unscaled INT8 MMA. -/
theorem mmaRow_int8 {s : State} {o : ZtOp} {b : Bank} (ha : mmaAFmt o.d = 9) (hw : mmaWFmt o.d = 9) (hi : mmaIscale o.d = false)
    (hrows : b.kRows ≤ 64) {c : Nat} (hc : c < mmaCols o.d) :
    ∃ x, (mmaRow s o.d b o (weightCols o.d b) 0).1[c]? = some x ∧ x < 2 ^ 32
      ∧ BitVec.ofNat 32 x = (if mmaAcc o.d then BitVec.ofNat 32 (numAt s (rowKey o.writes 0 + 4 * c) 4) else 0)
          + BitVec.ofInt 32 ((List.range b.kRows).map (fun k =>
              (rdByte s (rowKey o.reads 0 + 65 * k)).toInt * signed 8 (b.w.getD (64 * k + c) 0))).sum := by
  have hclass : mmaClass (mmaAFmt o.d) ≠ 2 := by rw [ha]; decide
  have hint : mmaInt o.d = true := by simp [mmaInt, ha, hw, hi, isIntFmt]
  have hcol : (weightCols o.d b).getD c [] = weightCol b 9 c := by simp [weightCols, hc, hw]
  unfold mmaRow
  rw [foldl_append_fst (g := fun n => mmaElem o.d _ _ _ _ _) (h := Fl.or)]
  refine ⟨_, by rw [List.nil_append, List.getElem?_map, List.getElem?_range hc]; rfl, ?_⟩
  simp only [mmaElem, if_neg hclass, hint, if_true, hcol]
  refine ⟨accInt_lt _ _ _, ?_⟩
  rw [accInt_fst, sum_products_int8 _ _ ha hrows]
  congr 1
  cases mmaAcc o.d with
  | false => rfl
  | true => exact ofInt_signed _

end Sys2Proof.Proofs
end

section
/-! SETTLES O23. The oldest MMA writes its products, and the oldest WLD loads the other bank. -/
namespace Sys2Proof.Proofs
open Sys2Proof.Machine Sys2Proof.Machine.Claims Sys2Proof.Laws

/-! ### MMA -/

/-- A unit that raises its flags leaves those of the other units. -/
theorem raise_effect (c : Core) {i : Nat} (hi : i ≠ 4) (f : Fl) (pc : BitVec 32) :
    (c.raise i f pc).flags[4]? = c.flags[4]? ∧ { c.raise i f pc with flags := c.flags } = c :=
  ⟨by simp [Core.raise, hi], rfl⟩

/-- Array flags alone rise in a core whose MMA completes. -/
theorem raiseArrays_effect (c : Core) (l : List (List Nat × Fl)) (pc : BitVec 32) :
    (c.raiseArrays l pc).flags[4]? = c.flags[4]? ∧ { c.raiseArrays l pc with flags := c.flags } = c := by
  unfold Core.raiseArrays
  have h : ∀ (js : List Nat) (c : Core), (∀ j ∈ js, j ≠ 4) →
      (js.foldl (fun c j => c.raise j (arrayFlags j l) pc) c).flags[4]? = c.flags[4]?
        ∧ { js.foldl (fun c j => c.raise j (arrayFlags j l) pc) c with flags := c.flags } = c := by
    intro js
    induction js with
    | nil => exact fun c _ => ⟨rfl, rfl⟩
    | cons j js ih =>
      intro c hjs
      obtain ⟨hflag, hrest⟩ := ih (c.raise j (arrayFlags j l) pc) (fun j hj => hjs j (List.mem_cons_of_mem _ hj))
      refine ⟨hflag.trans (raise_effect c (hjs j List.mem_cons_self) _ pc).1, ?_⟩
      exact congrArg (fun d : Core => { d with flags := c.flags }) hrest
  exact h (List.range 4) c (by decide)

section
variable {s : State}

/-- With no failing word a finished MMA writes its rows and raises its arrays' flags. -/
theorem mmaFinish_of_no_bad (n : CoreId) (o : ZtOp) (hbad : s.bad = []) :
    mmaFinish s n o
      = setCore (writeRows o.writes 0 (mmaBytes s o (mmaBank (Machine.core s n) o)) s none).1 n
          ((Machine.core s n).raiseArrays (mmaResult s o (mmaBank (Machine.core s n) o)) o.pc) := by
  obtain ⟨hnone, hmoved, -⟩ := writeRows_of_clean (s := s) (l := o.writes) (r := 0) (bss := mmaBytes s o (mmaBank (Machine.core s n) o))
    (w := none) (by rw [hbad]; intro _ _ _ h; cases h)
  unfold mmaFinish
  simp only [hbad, List.isEmpty_nil, if_true]
  change (match (writeRows o.writes 0 (mmaBytes s o (mmaBank (Machine.core s n) o)) s none).2 with
    | some w => _
    | none => _) = _
  rw [hnone]
  show setCore _ _ ((Machine.core (writeRows o.writes 0 (mmaBytes s o (mmaBank (Machine.core s n) o)) s none).1 n).raiseArrays _ _) = _
  rw [hmoved.core_eq n]
  rfl

/-- The bytes of an MMA's rows lie in the ranges it writes. -/
theorem outside_of_mmaBytes {o : ZtOp} (b : Bank) (hlen : o.writes.length = mmaRows o.d)
    (hrow : ∀ x ∈ o.writes, x.len = 4 * mmaCols o.d) {a : Nat} (ha : Outside o.writes a) (i : Nat) (hi : i < (mmaBytes s o b).length) :
    a < rowKey o.writes (0 + i) ∨ rowKey o.writes (0 + i) + (mmaBytes s o b)[i].length ≤ a := by
  obtain ⟨hn, hbytes⟩ := length_mmaBytes s o b
  have hw : i < o.writes.length := by omega
  have hkey : rowKey o.writes (0 + i) = o.writes[i].lo := by simp [rowKey, hw]
  rw [hkey, hbytes _ (List.getElem_mem hi), ← hrow _ (List.getElem_mem hw)]
  exact ha _ (List.getElem_mem hw)

/-- The number that an INT8 MMA of one row leaves in column `c`. -/
theorem numAt_writeRows_int8 {o : ZtOp} {b : Bank} (hbad : s.bad = []) (ha : mmaAFmt o.d = 9) (hw : mmaWFmt o.d = 9)
    (hi : mmaIscale o.d = false) (hone : mmaRows o.d = 1) (hrows : b.kRows ≤ 64) {c : Nat} (hc : c < mmaCols o.d) :
    BitVec.ofNat 32 (numAt (writeRows o.writes 0 (mmaBytes s o b) s none).1 (rowKey o.writes 0 + 4 * c) 4)
      = (if mmaAcc o.d then BitVec.ofNat 32 (numAt s (rowKey o.writes 0 + 4 * c) 4) else 0)
        + BitVec.ofInt 32 ((List.range b.kRows).map (fun k =>
            (rdByte s (rowKey o.reads 0 + 65 * k)).toInt * signed 8 (b.w.getD (64 * k + c) 0))).sum := by
  obtain ⟨x, hx, hlt, hval⟩ := mmaRow_int8 (s := s) ha hw hi hrows hc
  rw [← hval]
  generalize hcodes : (mmaRow s o.d b o (weightCols o.d b) 0).1 = codes at hx
  have hbytes : mmaBytes s o b = [codesToBytes 4 codes] := by
    unfold mmaBytes mmaResult
    rw [hone, ← hcodes]
    rfl
  have hclen : codes.length = mmaCols o.d := by rw [← hcodes]; exact length_mmaRow ..
  rw [hbytes, writeRows_cons_of_clean (by rw [hbad]; intro _ h; cases h)]
  have hread : rdBytes (wrBytesBut [] s (rowKey o.writes 0) (codesToBytes 4 codes)) (rowKey o.writes 0 + 4 * c) (toBytes 4 x).length
      = toBytes 4 x := by
    apply rdBytes_eq_of
    intro j hj
    rw [toBytes_length] at hj
    have hpart : (codesToBytes 4 codes)[4 * c + j]? = (toBytes 4 x)[j]? := by
      rw [codesToBytes, getElem?_flatMap_of_length (toBytes_length 4) hj, hx]; rfl
    have hin : 4 * c + j < (codesToBytes 4 codes).length := by rw [length_codesToBytes]; omega
    rw [rdByte_wrBytesBut_nil, if_pos (by omega), Nat.add_assoc, Nat.add_sub_cancel_left, ← hpart]
    simp [hin]
  unfold numAt
  rw [toBytes_length] at hread
  show BitVec.ofNat 32 (ofBytes (rdBytes (wrBytesBut [] s _ _) _ 4)) = _
  rw [hread, ofBytes_toBytes, Nat.mod_eq_of_lt (by simpa using hlt)]

/-- What a finished MMA leaves: array flags raised in its core, and the bytes of its rows. -/
theorem mmaFinish_effect (n : CoreId) {o : ZtOp} (hlen : o.writes.length = mmaRows o.d)
    (hrow : ∀ x ∈ o.writes, x.len = 4 * mmaCols o.d) (hbad : s.bad = []) :
    Machine.core (mmaFinish s n o) n
        = (Machine.core s n).raiseArrays (mmaResult s o (mmaBank (Machine.core s n) o)) o.pc
      ∧ CoresKept s (mmaFinish s n o) [n.val]
      ∧ { mmaFinish s n o with cores := s.cores, mem := s.mem } = s
      ∧ (∀ k, Outside o.writes k → rdByte (mmaFinish s n o) k = rdByte s k)
      ∧ (mmaAFmt o.d = 9 → mmaWFmt o.d = 9 → mmaIscale o.d = false → mmaRows o.d = 1 →
          (mmaBank (Machine.core s n) o).kRows ≤ 64 → ∀ c, c < mmaCols o.d →
            BitVec.ofNat 32 (numAt (mmaFinish s n o) (rowKey o.writes 0 + 4 * c) 4)
              = (if mmaAcc o.d then BitVec.ofNat 32 (numAt s (rowKey o.writes 0 + 4 * c) 4) else 0)
                + BitVec.ofInt 32 ((List.range (mmaBank (Machine.core s n) o).kRows).map (fun k =>
                    (rdByte s (rowKey o.reads 0 + 65 * k)).toInt
                      * signed 8 ((mmaBank (Machine.core s n) o).w.getD (64 * k + c) 0))).sum) := by
  obtain ⟨-, hmoved, hout⟩ := writeRows_of_clean (s := s) (l := o.writes) (r := 0) (bss := mmaBytes s o (mmaBank (Machine.core s n) o))
    (w := none) (by rw [hbad]; intro _ _ _ h; cases h)
  rw [mmaFinish_of_no_bad n o hbad]
  refine ⟨core_setCore_same _ _ _, fun m hm => ?_, ?_, fun k hk => ?_, fun ha hw hi hone hrows c hc => ?_⟩
  · rw [core_setCore_other _ _ _ _ (by simpa using hm), hmoved.core_eq]
  · calc _ = { ({ (writeRows o.writes 0 (mmaBytes s o (mmaBank (Machine.core s n) o)) s none).1 with mem := s.mem } : State) with
              cores := s.cores } := rfl
      _ = s := by rw [hmoved]
  · rw [rdByte_setCore]
    exact hout k (outside_of_mmaBytes _ hlen hrow hk)
  · exact numAt_writeRows_int8 hbad ha hw hi hone hrows hc

end

/-- A core whose MMA has left its queue. -/
def mmaLeft (c : Core) (o : ZtOp) : Core := { c with mx := c.mx.filter (fun x => x.no != o.no), feedHeld := false, drainHeld := false }

theorem exec_mmaCompletion {n : CoreId} {s : State} {o : ZtOp} (hrun : running s = true) (ho : mxNext (Machine.core s n) 0x06 = some o) :
    (∀ h, exec (.mmaCompletion n (some h)) s = .next (interrupt s n o h))
      ∧ exec (.mmaCompletion n none) s = .next (evalIdle (mmaFinish (setCore s n (mmaLeft (Machine.core s n) o)) n o) n) := by
  constructor
  · intro h
    show Host.Outcome.next _ = _
    rw [ifRunning_of_running hrun, ho]
  · show Host.Outcome.next _ = _
    rw [ifRunning_of_running hrun, ho]
    rfl

/-- The effect of an interruption on the core, its counter and its status. -/
theorem interrupt_effect {s t : State} {n : CoreId} {c : Core} {f : Fld} (hf : f.lo + f.w ≤ 64)
    (ht : t = setF (bump (setCore s n c) (CORE_STALL n) f 1) (CORE_STATUS n) CORE_STATUS_STALL_EVENT 1) :
    Machine.core t n = c ∧ getF t (CORE_STALL n) f = min (getF s (CORE_STALL n) f + 1) (2 ^ f.w - 1)
      ∧ isSet t (CORE_STATUS n) CORE_STATUS_STALL_EVENT = true
      ∧ CoresKept s t [n.val] ∧ CsrKept s t [CORE_STALL n, CORE_STATUS n] ∧ { t with cores := s.cores, csr := s.csr } = s := by
  subst ht
  have hne : CORE_STALL n ≠ CORE_STATUS n := by unfold CORE_STALL CORE_STATUS; omega
  refine ⟨by simp, ?_, ?_, fun m hm => ?_, ?_, rfl⟩
  · rw [getF_setF_other _ _ _ _ _ _ hne, getF_bump_same _ _ _ _ hf]; rfl
  · rw [isSet_iff, getF_setF_same _ _ _ _ (by decide)]; rfl
  · rw [core_setF, core_bump, core_setCore_other _ _ _ _ (by simpa using hm)]
  · exact (((CsrKept.refl s _).of_csr_eq (u := setCore s n c) rfl).after_bump (by simp) _ _).after_setF (by simp) _ _

theorem any_inCluster {l : List Span} : l.any Span.inCluster = true ↔ ∃ x ∈ l, cluKey 0 ≤ x.lo := by
  simp [List.any_eq_true, Span.inCluster]

theorem any_inCluster_of_own {l : List Span} (h : ∀ x ∈ l, x.lo < cluKey 0) : l.any Span.inCluster = false := by
  simp only [List.any_eq_false, Span.inCluster, decide_eq_true_eq, Nat.not_le]
  exact h

theorem mmaWritesItsProducts : MmaWritesItsProducts := by
  intro n s o hrun ho
  obtain ⟨hinterrupt, hfinish⟩ := exec_mmaCompletion hrun ho
  refine ⟨fun hlen hrow hbad => ⟨_, hfinish, ?_⟩, ?_, ?_⟩
  · obtain ⟨hcore, hbytes, hframe, hout, hnum⟩ := mmaFinish_effect (s := setCore s n (mmaLeft (Machine.core s n) o)) n hlen hrow hbad
    rw [core_setCore_same] at hcore hnum
    obtain ⟨hflag, hflags⟩ := raiseArrays_effect (mmaLeft (Machine.core s n) o)
      (mmaResult (setCore s n (mmaLeft (Machine.core s n) o)) o (mmaBank (mmaLeft (Machine.core s n) o) o)) o.pc
    rw [← hcore] at hflag hflags
    generalize mmaFinish (setCore s n (mmaLeft (Machine.core s n) o)) n o = t at hcore hflag hflags hbytes hframe hout hnum ⊢
    refine ⟨(congrArg Core.mx hflags :), hflag, (congrArg Core.feedHeld hflags :), (congrArg Core.drainHeld hflags :), ?_,
      ⟨fun m hm => ?_, hout, (congrArg State.bad hframe :)⟩, ?_, ?_⟩
    · exact congrArg (fun c : Core => { c with
        mx := (Machine.core s n).mx, feedHeld := (Machine.core s n).feedHeld, drainHeld := (Machine.core s n).drainHeld }) hflags
    · rw [hbytes m hm, core_setCore_other _ _ _ _ (by simpa using hm)]
    · exact congrArg (fun u : State => { u with cores := s.cores }) hframe
    · rintro b rfl ha hw hi hone hrows c hc
      exact hnum ha hw hi hone hrows c hc
  · rintro h f hmem hown
    rw [hinterrupt]
    fin_cases hmem
    · exact congrArg Host.Outcome.next (if_neg (Bool.eq_false_iff.mp (any_inCluster_of_own hown)))
    · exact congrArg Host.Outcome.next (if_neg (Bool.eq_false_iff.mp (any_inCluster_of_own hown)))
  · rintro h f hmem hclu
    rw [hinterrupt]
    fin_cases hmem
    · exact ⟨_, rfl, interrupt_effect (by decide) (if_pos (any_inCluster.mpr hclu))⟩
    · exact ⟨_, rfl, interrupt_effect (by decide) (if_pos (any_inCluster.mpr hclu))⟩

/-! ### WLD -/

theorem badSpans_of_clean {s : State} {l : List Span} (h : Clean s l) : badSpans s l = none := by
  unfold badSpans
  rw [List.find?_eq_none]
  intro w hw hany
  obtain ⟨x, hx, hover⟩ := List.any_eq_true.mp hany
  exact absurd hover (by rw [h w hw x hx]; decide)

/-- Without a SWAP in the queue nothing settles. -/
theorem runSwaps_of_no_swap {l : List ZtOp} (h : ∀ x ∈ l, x.is 0x0E = false) : runSwaps l = (l, false) := by
  induction l with
  | nil => rfl
  | cons o os ih =>
    rw [runSwaps, ih fun x hx => h x (List.mem_cons_of_mem _ hx), h o List.mem_cons_self]
    simp

theorem settleMx_of_no_swap {c : Core} (h : ∀ x ∈ c.mx, x.is 0x0E = false) : settleMx c = c := by
  unfold settleMx
  rw [runSwaps_of_no_swap h]
  simp

theorem is_eq_false {o : ZtOp} {op : Nat} (h : o.d.toNat % 256 ≠ op) : o.is op = false := by
  simpa [ZtOp.is, dNat, ext] using h

/-- The weights of row `k` of a WLD's tile. -/
theorem getElem?_wldBank_w {s : State} {o : ZtOp} {k c : Nat} (hk : k < wldRows o.d) (hc : c < 64) :
    (wldBank s o).w[64 * k + c]? = some (numAt s (rowKey o.reads k) (rowBytes (fmtWidth (wldFmt o.d)) 64)
      / 2 ^ (fmtWidth (wldFmt o.d) * c) % 2 ^ fmtWidth (wldFmt o.d)) := by
  have hrow : ∀ k, (rowCodes s (fmtWidth (wldFmt o.d)) (rowKey o.reads k)).length = 64 := fun k => by simp [rowCodes]
  show ((List.range (wldRows o.d)).flatMap (fun k => rowCodes s (fmtWidth (wldFmt o.d)) (rowKey o.reads k)))[64 * k + c]? = _
  rw [getElem?_flatMap_of_length hrow hc, List.getElem?_range hk]
  show (rowCodes s _ _)[c]? = _
  unfold rowCodes unpackAt numAt
  rw [List.getElem?_map, List.getElem?_range hc, Option.map_some, Nat.shiftRight_eq_div_pow]

theorem exec_wldCompletion {n : CoreId} {s : State} {o : ZtOp} (hrun : running s = true) (ho : mxNext (Machine.core s n) 0x0A = some o)
    (hclean : Clean s o.reads) {c : Core} (hc : c = settleMx { Machine.core s n with mx := (Machine.core s n).mx.filter (fun x => x.no != o.no) }) :
    exec (.wldCompletion n) s
      = .next (evalIdle (setCore s n (if o.bank then { c with bank0 := wldBank s o } else { c with bank1 := wldBank s o })) n) := by
  subst hc
  show Host.Outcome.next _ = _
  rw [ifRunning_of_running hrun, ho]
  dsimp only
  rw [badSpans_of_clean hclean]

theorem wldLoadsTheOtherBank : WldLoadsTheOtherBank := by
  intro n s o hrun ho hclean
  refine ⟨_, wldBank s o, _, exec_wldCompletion hrun ho hclean rfl, rfl, core_setCore_same _ _ _, fun hswap => ?_, ?_, ?_, rfl,
    fun k c hk hc => getElem?_wldBank_w hk hc, fun hscale => if_neg hscale, fun m hm => ?_, rfl⟩
  · exact settleMx_of_no_swap fun x hx => is_eq_false (hswap x (List.mem_of_mem_filter hx))
  · exact congrArg some (BitVec.ofNat_toNat 4 _)
  · exact bne_iff_ne
  · exact core_setCore_other _ _ _ _ (by simpa using hm)

/-- Settles O23: the rows that an MMA writes and its stretches, and the bank that a WLD loads. -/
theorem theMatrixUnitMultiplies : Obligations.TheMatrixUnitMultiplies :=
  ⟨mmaWritesItsProducts, wldLoadsTheOtherBank⟩

end Sys2Proof.Proofs
end

section
/-! SUPPORT. What the transfers of the DMA engine make of memory: FILL, COPY and SKEW (R136, R148). -/
namespace Sys2Proof.Proofs
open Sys2Proof.Machine Sys2Proof.Machine.Claims Sys2Proof.Laws

/-- A word that does not overlap a range overlaps no part of it. -/
theorem overlaps_part {w k n k' n' : Nat} (h : overlaps w k n = false) (hk : k ≤ k') (hn : k' + n' ≤ k + n) :
    overlaps w k' n' = false := by
  simp only [overlaps, Bool.and_eq_false_iff, decide_eq_false_iff_not] at h ⊢
  omega

section
variable {s : State}

theorem clean_of_moved {t : State} {l : List Span} (h : Clean s l) (hmoved : MemMoved s t) : Clean t l := by
  unfold Clean
  rw [hmoved.bad_eq]
  exact h

theorem clean_tail {x : Span} {l : List Span} (h : Clean s (x :: l)) : Clean s l := fun w hw y hy => h w hw y (List.mem_cons_of_mem _ hy)

theorem clean_head {x : Span} {l : List Span} (h : Clean s (x :: l)) : ∀ w ∈ s.bad, overlaps w x.lo x.len = false :=
  fun w hw => h w hw x List.mem_cons_self

/-! ### FILL -/

theorem length_fillRow (v : Word) (n : Nat) : (fillRow v n).length = n := by simp [fillRow]

theorem getD_fillRow {v : Word} {n j : Nat} (hj : j < n) : (fillRow v n).getD j 0 = v.extractLsb' (8 * (j % 8)) 8 := by
  simp [fillRow, hj]
  rfl

/-- FILL's pattern stands in every row, and outside them memory is as it was. -/
theorem fillRows_of_clean (v : Word) {l : List Span} (w : Option Nat) (hclean : Clean s l) (hapart : l.Pairwise Apart) :
    (fillRows v l s w).2 = w ∧ MemMoved s (fillRows v l s w).1
      ∧ (∀ x ∈ l, ∀ j, j < x.len → rdByte (fillRows v l s w).1 (x.lo + j) = v.extractLsb' (8 * (j % 8)) 8)
      ∧ ∀ k, Outside l k → rdByte (fillRows v l s w).1 k = rdByte s k := by
  induction l generalizing s with
  | nil => exact ⟨rfl, rfl, fun _ h => absurd h (by simp), fun _ _ => rfl⟩
  | cons b bs ih =>
    obtain ⟨hb, hbs⟩ := List.pairwise_cons.mp hapart
    have hmoved := memMoved_wrBytesBut s [] b.lo (fillRow v b.len)
    have hw : (w <|> none) = w := by cases w <;> rfl
    have heq : fillRows v (b :: bs) s w = fillRows v bs (wrBytesBut [] s b.lo (fillRow v b.len)) w := by
      rw [fillRows, wrBytes_of_clean (by rw [length_fillRow]; exact clean_head hclean)]
      exact congrArg (fillRows v bs _) hw
    obtain ⟨hnone, hrest, hin, hout⟩ := ih (clean_of_moved (clean_tail hclean) hmoved) hbs
    rw [heq]
    refine ⟨hnone, hmoved.trans hrest, fun x hx j hj => ?_, fun k hk => ?_⟩
    · rcases List.mem_cons.mp hx with rfl | hx
      · rw [hout _ fun y hy => by have := hb y hy; unfold Apart at this; omega,
          rdByte_wrBytesBut_nil, if_pos (by rw [length_fillRow]; omega), Nat.add_sub_cancel_left, getD_fillRow hj]
      · exact hin x hx j hj
    · rw [hout k fun y hy => hk y (List.mem_cons_of_mem _ hy), rdByte_wrBytesBut_nil, if_neg]
      have := hk b List.mem_cons_self
      rw [length_fillRow]
      omega

/-! ### COPY -/

/-- A row copied by units to a place that shares no byte with it. -/
theorem copyUnits_of_clean (k : Nat) {src dst len : Nat} (w : Option Nat) (hclean : ∀ x ∈ s.bad, overlaps x dst len = false)
    (hapart : src + len ≤ dst ∨ dst + len ≤ src) (hk : len ≤ 256 * k) :
    (copyUnits k s src dst len w).2 = w ∧ MemMoved s (copyUnits k s src dst len w).1
      ∧ (∀ j, j < len → rdByte (copyUnits k s src dst len w).1 (dst + j) = rdByte s (src + j))
      ∧ ∀ a, a < dst ∨ dst + len ≤ a → rdByte (copyUnits k s src dst len w).1 a = rdByte s a := by
  induction k generalizing s src dst len with
  | zero => exact ⟨rfl, rfl, fun j hj => by omega, fun _ _ => rfl⟩
  | succ k ih =>
    have hw : (w <|> none) = w := by cases w <;> rfl
    generalize hm : min 256 len = m
    generalize hu : wrBytesBut [] s dst (rdBytes s src m) = u
    have hmoved : MemMoved s u := hu ▸ memMoved_wrBytesBut s [] dst _
    have hbyte : ∀ a, rdByte u a = if dst ≤ a ∧ a < dst + m then rdByte s (src + (a - dst)) else rdByte s a := fun a => by
      rw [← hu, rdByte_wrBytesBut_nil, rdBytes_length]
      split
      · rw [List.getD_eq_getElem?_getD, getElem?_rdBytes, if_pos (by omega)]; rfl
      · rfl
    have heq : copyUnits (k + 1) s src dst len w = copyUnits k u (src + m) (dst + m) (len - m) w := by
      rw [copyUnits, hm, wrBytes_of_clean fun x hx => by
        rw [rdBytes_length]; exact overlaps_part (hclean x hx) (le_refl _) (by omega), hu]
      exact congrArg (copyUnits k u (src + m) (dst + m) (len - m)) hw
    obtain ⟨hnone, hrest, hin, hout⟩ := ih (s := u) (src := src + m) (dst := dst + m) (len := len - m)
      (by rw [hmoved.bad_eq]; exact fun x hx => overlaps_part (hclean x hx) (by omega) (by omega)) (by omega) (by omega)
    rw [heq]
    refine ⟨hnone, hmoved.trans hrest, fun j hj => ?_, fun a ha => ?_⟩
    · by_cases hjm : j < m
      · rw [hout _ (by omega), hbyte, if_pos (by omega), Nat.add_sub_cancel_left]
      · have hlater := hin (j - m) (by omega)
        rw [show dst + m + (j - m) = dst + j by omega, show src + m + (j - m) = src + j by omega, hbyte, if_neg (by omega)] at hlater
        exact hlater
    · rw [hout a (by omega), hbyte, if_neg (by omega)]

theorem le_mul_cdiv (n : Nat) : n ≤ 256 * cdiv n 256 := by unfold cdiv; omega

/-- COPY's rows stand at their destinations, and outside them memory is as it was. -/
theorem copyRows_of_clean {as bs : List Span} (w : Option Nat) (hclean : Clean s bs) (hlen : as.length = bs.length)
    (hrow : ∀ i, i < as.length → (as.getD i ⟨0, 0⟩).len = (bs.getD i ⟨0, 0⟩).len) (hpair : bs.Pairwise Apart)
    (hapart : ∀ x ∈ as, ∀ y ∈ bs, Apart x y) :
    (copyRows as bs s w).2 = w ∧ MemMoved s (copyRows as bs s w).1
      ∧ (∀ i j, i < bs.length → j < (bs.getD i ⟨0, 0⟩).len →
          rdByte (copyRows as bs s w).1 ((bs.getD i ⟨0, 0⟩).lo + j) = rdByte s ((as.getD i ⟨0, 0⟩).lo + j))
      ∧ ∀ k, Outside bs k → rdByte (copyRows as bs s w).1 k = rdByte s k := by
  induction as generalizing bs s w with
  | nil =>
    have hnil : bs = [] := List.eq_nil_of_length_eq_zero hlen.symm
    subst hnil
    exact ⟨rfl, rfl, fun i _ hi => absurd hi (by simp), fun _ _ => rfl⟩
  | cons a as ih =>
    obtain _ | ⟨b, bs⟩ := bs
    · cases hlen
    · obtain ⟨hb, hbs⟩ := List.pairwise_cons.mp hpair
      have hab : a.len = b.len := hrow 0 (by simp)
      have hone : Apart a b := hapart a List.mem_cons_self b List.mem_cons_self
      obtain ⟨hnone, hmoved, hin, hout⟩ := copyUnits_of_clean (s := s) (cdiv a.len 256) (src := a.lo) (dst := b.lo) (len := a.len) w
        (by rw [hab]; exact clean_head hclean) (by unfold Apart at hone; omega) (le_mul_cdiv _)
      generalize hu : (copyUnits (cdiv a.len 256) s a.lo b.lo a.len w).1 = u at hmoved hin hout
      have heq : copyRows (a :: as) (b :: bs) s w = copyRows as bs u w := by
        rw [copyRows, ← hu]
        exact congrArg (copyRows as bs _) hnone
      obtain ⟨hnone', hmoved', hin', hout'⟩ := ih (s := u) (bs := bs) w (clean_of_moved (clean_tail hclean) hmoved) (by simpa using hlen)
        (fun i hi => hrow (i + 1) (by simpa using hi)) hbs
        (fun x hx y hy => hapart x (List.mem_cons_of_mem _ hx) y (List.mem_cons_of_mem _ hy))
      rw [heq]
      refine ⟨hnone', hmoved.trans hmoved', fun i j hi hj => ?_, fun k hk => ?_⟩
      · cases i with
        | zero =>
          have hj : j < b.len := hj
          show rdByte _ (b.lo + j) = rdByte s (a.lo + j)
          rw [hout' _ fun y hy => by have := hb y hy; unfold Apart at this; omega, hin j (by omega)]
        | succ i =>
          have hi : i < bs.length := by simpa using hi
          have hj : j < (bs.getD i ⟨0, 0⟩).len := hj
          show rdByte _ ((bs.getD i ⟨0, 0⟩).lo + j) = rdByte s ((as.getD i ⟨0, 0⟩).lo + j)
          have hai : i < as.length := by simp at hlen; omega
          have hmem : as.getD i ⟨0, 0⟩ ∈ as := by simp [hai]
          have hap := hapart _ (List.mem_cons_of_mem a hmem) b List.mem_cons_self
          have hl := hrow (i + 1) (by simpa using hai)
          simp only [List.getD_cons_succ] at hl
          rw [hin' i j hi hj, hout _ (by unfold Apart at hap; omega)]
      · rw [hout' k fun y hy => hk y (List.mem_cons_of_mem _ hy), hout k (by have := hk b List.mem_cons_self; omega)]

/-! ### SKEW -/

theorem unpackAt_ofBytes (bs : List Byte) (k : Nat) : unpackAt 8 (ofBytes bs) k = (bs.getD k 0).toNat := by
  unfold unpackAt
  induction bs generalizing k with
  | nil => simp [ofBytes]
  | cons b bs ih =>
    have hb : b.toNat < 256 := b.isLt
    cases k with
    | zero =>
      simp only [ofBytes, Nat.mul_zero, Nat.shiftRight_zero, List.getD_cons_zero]
      omega
    | succ k =>
      rw [List.getD_cons_succ, ← ih k, ofBytes, Nat.mul_succ, Nat.add_comm (8 * k) 8, Nat.shiftRight_add]
      congr 2
      rw [Nat.shiftRight_eq_div_pow]
      omega

/-- An 8-bit element put in its slot writes its byte and no other. -/
theorem putElem_byte (s : State) {k i v : Nat} (hv : v < 256) (hclean : ∀ w ∈ s.bad, overlaps w (k + i) 1 = false) :
    putElem s 8 k i v = (wrBytesBut [] s (k + i) [BitVec.ofNat 8 v], none) := by
  have hold : (rdByte s (k + i)).toNat < 256 := (rdByte s (k + i)).isLt
  have hspan : elemSpan 8 k i = ⟨k + i, 1⟩ := by
    simp only [elemSpan, Nat.mul_div_cancel_left i (by decide : 0 < 8), Nat.mul_mod_right]
  unfold putElem
  rw [hspan]
  simp only [rdBytes, ofBytes_singleton, Nat.mul_mod_right, Nat.shiftRight_zero, pow_zero, Nat.mul_one, Nat.mod_eq_of_lt hv,
    Nat.mod_eq_of_lt hold, Nat.sub_self, Nat.zero_add, toBytes, Nat.reducePow]
  exact wrBytes_of_clean hclean

/-- The elements below `m` of row 0 of a SKEW stand at their slots. -/
theorem skewSlots_of_clean {base x m : Nat} (w : Option Nat) (hm : m ≤ 64) (hclean : ∀ z ∈ s.bad, overlaps z base 8192 = false) :
    let r := (List.range m).foldl (fun (acc : State × Option Nat) k =>
      let (s', w') := putElem acc.1 8 base (65 * k) (unpackAt 8 x k)
      (s', acc.2 <|> w')) (s, w)
    r.2 = w ∧ MemMoved s r.1 ∧ (∀ k, k < m → rdByte r.1 (base + 65 * k) = BitVec.ofNat 8 (unpackAt 8 x k))
      ∧ ∀ a, (∀ j, j < m → a ≠ base + 65 * j) → rdByte r.1 a = rdByte s a := by
  induction m with
  | zero => exact ⟨rfl, rfl, fun k hk => by omega, fun _ _ => rfl⟩
  | succ m ih =>
    obtain ⟨hnone, hmoved, hin, hout⟩ := ih (by omega)
    rw [List.range_succ, List.foldl_append]
    generalize (List.range m).foldl _ (s, w) = r at hnone hmoved hin hout ⊢
    have hlt : unpackAt 8 x m < 256 := Nat.mod_lt _ (by decide)
    have hput := putElem_byte r.1 (k := base) (i := 65 * m) hlt (by
      rw [hmoved.bad_eq]
      exact fun z hz => overlaps_part (hclean z hz) (by omega) (by omega))
    simp only [List.foldl_cons, List.foldl_nil, hput]
    refine ⟨?_, hmoved.trans (memMoved_wrBytesBut _ _ _ _), fun k hk => ?_, fun a ha => ?_⟩
    · rw [hnone]; cases w <;> rfl
    · rw [rdByte_wrBytesBut_nil]
      simp only [List.length_singleton]
      by_cases h : k = m
      · subst h
        rw [if_pos (by omega)]
        simp
      · rw [if_neg (by omega), hin k (by omega)]
    · have := ha m (by omega)
      rw [rdByte_wrBytesBut_nil, if_neg (by simp only [List.length_singleton]; omega), hout a fun j hj => ha j (by omega)]

/-- SKEW of one row of 8-bit elements. -/
theorem skewRows_of_clean {d : BitVec 128} {x y : Span} (w : Option Nat) (hew : dmaEw d = 2) (hx : x.len = 64) (hy : y.len = 8192)
    (hclean : ∀ z ∈ s.bad, overlaps z y.lo y.len = false) :
    (skewRows d y.lo 0 [x] s w).2 = w ∧ MemMoved s (skewRows d y.lo 0 [x] s w).1
      ∧ (∀ k, k < 64 → rdByte (skewRows d y.lo 0 [x] s w).1 (y.lo + 65 * k) = rdByte s (x.lo + k))
      ∧ ∀ a, (∀ j, j < 64 → a ≠ y.lo + 65 * j) → rdByte (skewRows d y.lo 0 [x] s w).1 a = rdByte s a := by
  have hslot : ∀ k, feedIndex 0 0 k = 65 * k := fun k => by simp only [feedIndex]; norm_num; omega
  have heq : skewRows d y.lo 0 [x] s w = (List.range 64).foldl (fun (acc : State × Option Nat) k =>
      let (s', w') := putElem acc.1 8 y.lo (65 * k) (unpackAt 8 (ofBytes (rdBytes s x.lo 64)) k)
      (s', acc.2 <|> w')) (s, w) := by
    simp only [skewRows, skewRow, hew, hx, ewClass, ewBits, Nat.zero_div, Nat.zero_mul, Nat.add_zero, Nat.zero_mod, hslot]
  obtain ⟨hnone, hmoved, hin, hout⟩ := skewSlots_of_clean (base := y.lo) (x := ofBytes (rdBytes s x.lo 64)) w (le_refl 64)
    (by rw [← hy]; exact hclean)
  rw [heq]
  refine ⟨hnone, hmoved, fun k hk => ?_, hout⟩
  rw [hin k hk, unpackAt_ofBytes, BitVec.ofNat_toNat, List.getD_eq_getElem?_getD, getElem?_rdBytes, if_pos hk]
  simp

end

end Sys2Proof.Proofs
end

section
/-! SETTLES O22, first part: a local DMA moves its rows, leaves its queue and signals (R148, R150). -/
namespace Sys2Proof.Proofs
open Sys2Proof.Machine Sys2Proof.Machine.Claims Sys2Proof.Laws

section
variable {s u : State} {n : CoreId} {o : ZtOp}

/-- A core's DMA queue has emptied and memory may have changed; all else is as it was. -/
structure DmaLeft (s u : State) (n : CoreId) : Prop where
  core : Machine.core u n = { Machine.core s n with dma := [] }
  kept : CoresKept s u [n.val]
  frame : { u with cores := s.cores, mem := s.mem } = s

/-- A state in which waits have been noted since a DMA left its queue. -/
theorem onlyWaitsNoted_latchWaits (h : DmaLeft s u n) : OnlyWaitsNoted s (latchWaits u) [n.val] := by
  have hcoll : (latchWaits u).coll = { s.coll with launches := s.coll.launches.map (flowsNoted u) } := by
    rw [latchWaits_eq, (congrArg State.coll h.frame :)]
  refine ⟨fun m hm => ?_, by rw [hcoll], ?_⟩
  · rw [core_latchWaits, h.kept m hm]; rfl
  · rw [hcoll]
    simp only [List.map_map]
    refine List.map_congr_left fun x _ => ?_
    simp only [Function.comp_apply, flowsNoted, List.map_map]
    rfl

/-- The signal of a DMA that has left its queue. -/
theorem dmaDone_effect (h : DmaLeft s u n) (hslot : dmaSyncEn o.d = true → slotOfArrive s (dmaDoneSync o.d) = none) :
    DmaSignalled s (dmaDone u o) n o ∧ (dmaDone u o).mem = u.mem := by
  have hobjs : u.objs = s.objs := (congrArg State.objs h.frame :)
  unfold dmaDone
  by_cases hen : dmaSyncEn o.d = true
  · have hnone : slotOfArrive (latchWaits u) (dmaDoneSync o.d) = none := by
      rw [← hslot hen]
      unfold slotOfArrive slotValid slotWord
      rw [show (latchWaits u).slots = s.slots by rw [latchWaits_eq]; exact (congrArg State.slots h.frame :)]
    rw [if_pos hen, signal, addSignal_of_no_slot _ hnone]
    refine ⟨?_, by rw [latchWaits_eq]; rfl⟩
    unfold DmaSignalled
    simp only [hen, if_true]
    refine ⟨?_, onlyWaitsNoted_latchWaits h, ?_, ⟨?_, fun k hk => ?_⟩, ?_, ?_⟩
    · show Machine.core (latchWaits u) n = _
      rw [core_latchWaits, h.core, waitNoted_congr hobjs]
      rfl
    · rw [latchWaits_eq]
      exact (congrArg State.bad h.frame :)
    · rw [objAdd, obj_setObj_same, add_eq_addTo, obj_latchWaits, obj_congr hobjs]
    · rw [objAdd, obj_setObj_other _ _ _ _ (by simpa using hk), obj_latchWaits, obj_congr hobjs]
    · show (latchWaits u).sec = _
      exact latchWaits_sec_congr hobjs (congrArg State.sec h.frame :)
    · rw [latchWaits_eq]
      exact congrArg (fun t : State => { t with objs := s.objs, coll := s.coll, sec := s.sec }) h.frame
  · rw [if_neg hen]
    refine ⟨?_, rfl⟩
    unfold DmaSignalled
    simp only [hen]
    have hlaunches : u.coll = s.coll := (congrArg State.coll h.frame :)
    refine ⟨h.core, ⟨fun m hm => by rw [h.kept m hm], by rw [hlaunches], by rw [hlaunches]⟩, (congrArg State.bad h.frame :),
      ⟨hobjs, h.kept, hlaunches⟩, (congrArg State.sec h.frame :), ?_⟩
    exact congrArg (fun t : State => { t with objs := s.objs, coll := s.coll, sec := s.sec }) h.frame

/-- With an empty queue the engine has nothing to go on with. -/
theorem dmaGoOn_of_empty (h : (Machine.core u n).dma = []) : dmaGoOn u n = u := by
  have hadvance : dmaAdvance u n = u := by unfold dmaAdvance dmaTaken; rw [h]; rfl
  unfold dmaGoOn
  rw [h]
  exact hadvance

/-- The last DMA of a queue leaves it. -/
theorem dmaLeft_dropDma {p : ZtOp} (hcore : Machine.core u n = { Machine.core s n with dma := [p] }) (hkept : CoresKept s u [n.val])
    (hframe : { u with cores := s.cores, mem := s.mem } = s) : DmaLeft s (dropDma u n p) n where
  core := by
    unfold dropDma
    rw [core_setCore_same, hcore]
    simp
  kept m hm := (core_setCore_other _ _ _ _ (by simpa using hm)).trans (hkept m hm)
  frame := hframe

/-- A DMA that has left an empty queue signals, and nothing else follows. -/
theorem dmaDone_goOn {p : ZtOp} (h : DmaLeft s u n) (hd : p.d = o.d)
    (hslot : dmaSyncEn o.d = true → slotOfArrive s (dmaDoneSync o.d) = none) :
    DmaSignalled s (dmaDone u p) n o ∧ (dmaDone u p).mem = u.mem ∧ (Machine.core (dmaDone u p) n).dma = [] := by
  have heq : dmaDone u p = dmaDone u o := by unfold dmaDone; rw [hd]
  obtain ⟨hsignal, hmem⟩ := dmaDone_effect h hslot
  rw [heq]
  exact ⟨hsignal, hmem, by rw [hsignal.1]⟩

/-- A queue of one DMA that has completed: the DMA leaves it and signals. -/
theorem dmaSignals_single {p : ZtOp} (hdma : (Machine.core u n).dma = [p]) (hp : p.finished = true) :
    dmaSignals n (Machine.core u n).dma u = dmaDone (dropDma u n p) p := by
  rw [hdma, dmaSignals, if_pos hp]
  rfl

theorem dmaComplete_eq (u : State) (n : CoreId) (o : ZtOp) : dmaComplete u n o =
    if dmaUnord o.d then dmaSignals n (Machine.core (dmaDone (dropDma u n o) o) n).dma (dmaDone (dropDma u n o) o)
    else dmaSignals n (Machine.core (setDma u n { o with finished := true }) n).dma (setDma u n { o with finished := true }) := rfl

/-- The only DMA of a queue completes: it leaves the queue and then signals. -/
theorem dmaComplete_single (hmoved : MemMoved s u) (hdma : (Machine.core s n).dma = [o])
    (hslot : dmaSyncEn o.d = true → slotOfArrive s (dmaDoneSync o.d) = none) :
    DmaSignalled s (dmaGoOn (dmaComplete u n o) n) n o ∧ (dmaGoOn (dmaComplete u n o) n).mem = u.mem := by
  have hcore : Machine.core u n = { Machine.core s n with dma := [o] } := by rw [hmoved.core_eq, ← hdma]
  have hkept : CoresKept s u [n.val] := fun m _ => hmoved.core_eq m
  have hframe : { u with cores := s.cores, mem := s.mem } = s := congrArg (fun t : State => { t with cores := s.cores }) hmoved
  rw [dmaComplete_eq]
  split
  · obtain ⟨hsignal, hkeep, hempty⟩ := dmaDone_goOn (p := o) (dmaLeft_dropDma hcore hkept hframe) rfl hslot
    rw [hempty, dmaSignals, dmaGoOn_of_empty hempty]
    exact ⟨hsignal, hkeep⟩
  · generalize hp : ({ o with finished := true } : ZtOp) = p
    have hd : p.d = o.d := by rw [← hp]
    have hset : Machine.core (setDma u n p) n = { Machine.core s n with dma := [p] } := by
      unfold setDma
      rw [core_setCore_same, hcore]
      simp [← hp]
    have hsetKept : CoresKept s (setDma u n p) [n.val] := fun m hm =>
      (core_setCore_other _ _ _ _ (by simpa using hm)).trans (hkept m hm)
    obtain ⟨hsignal, hkeep, hempty⟩ := dmaDone_goOn (dmaLeft_dropDma hset hsetKept hframe) hd hslot
    rw [dmaSignals_single (p := p) (by rw [hset]) (by rw [← hp]), dmaGoOn_of_empty hempty]
    exact ⟨hsignal, hkeep⟩

/-- The engine finishes the DMA it has taken: with no failing word in the way its transfer stands in memory. -/
theorem exec_dmaCompletion {w : State × Option Nat} (hrun : running s = true) (hdma : (Machine.core s n).dma = [o])
    (hrank : dmaRankG o.d = 0) (hfin : o.finished = false) (hform : o.formed = false)
    (hthere : (o.reads ++ o.writes).all (stillThere s) = true) (hawake : asleepAt s o = none) (hclean : Clean s o.reads)
    (hmove : dmaMove s o = w) (hnone : w.2 = none) :
    exec (.dmaCompletion n 0) s = .next (evalIdle (dmaGoOn (dmaComplete w.1 n o) n) n) := by
  have htaken : dmaTaken (Machine.core s n) = some o := by
    unfold dmaTaken ZtOp.passed
    rw [hdma]
    simp [hfin, hform]
  have hfinish : dmaFinish s n o = dmaComplete w.1 n o := by
    obtain ⟨t, x⟩ := w
    cases hnone
    unfold dmaFinish
    rw [hfin, htaken, hthere, hawake, badSpans_of_clean hclean, hmove]
    simp [hrank]
  show Host.Outcome.next _ = _
  rw [ifRunning_of_running hrun, hdma]
  show Host.Outcome.next (evalIdle (dmaGoOn (dmaFinish s n o) n) n) = _
  rw [hfinish]

end

theorem rdByte_of_mem_eq {s t : State} (h : t.mem = s.mem) (k : Nat) : rdByte t k = rdByte s k := by unfold rdByte; rw [h]

theorem localDmaMovesItsRows : LocalDmaMovesItsRows := by
  intro n s o hrun hdma hrank hfin hform hthere hawake hclean hslot
  have hrd : Clean s o.reads := fun w hw x hx => hclean w hw x (List.mem_append_left _ hx)
  have hwr : Clean s o.writes := fun w hw x hx => hclean w hw x (List.mem_append_right _ hx)
  have hexec : ∀ w, dmaMove s o = w → w.2 = none → exec (.dmaCompletion n 0) s = .next (evalIdle (dmaGoOn (dmaComplete w.1 n o) n) n) :=
    fun w => exec_dmaCompletion hrun hdma hrank hfin hform hthere hawake hrd
  refine ⟨fun hmode hpair => ?_, fun hmode hlen hrow hpair hapart => ?_, fun x y hmode hew hx hy hxl hyl _ => ?_⟩
  · obtain ⟨hnone, hmoved, hin, hout⟩ := fillRows_of_clean (o.r.headD 0) none hwr hpair
    obtain ⟨hsignal, hmem⟩ := dmaComplete_single hmoved hdma hslot
    exact ⟨_, hexec _ (by unfold dmaMove; rw [hmode]; rfl) hnone,
      fun x hx j hj => (rdByte_of_mem_eq hmem _).trans (hin x hx j hj),
      fun k hk => (rdByte_of_mem_eq hmem _).trans (hout k hk), hsignal⟩
  · obtain ⟨hnone, hmoved, hin, hout⟩ := copyRows_of_clean none hwr hlen hrow hpair hapart
    obtain ⟨hsignal, hmem⟩ := dmaComplete_single hmoved hdma hslot
    exact ⟨_, hexec _ (by unfold dmaMove; rw [hmode]; rfl) hnone,
      fun i j hi hj => (rdByte_of_mem_eq hmem _).trans (hin i j hi hj),
      fun k hk => (rdByte_of_mem_eq hmem _).trans (hout k hk), hsignal⟩
  · rw [hy] at hwr
    obtain ⟨hnone, hmoved, hin, hout⟩ := skewRows_of_clean (d := o.d) none hew hxl hyl (clean_head hwr)
    obtain ⟨hsignal, hmem⟩ := dmaComplete_single hmoved hdma hslot
    exact ⟨_, hexec _ (by unfold dmaMove; rw [hmode, hx, hy]; rfl) hnone,
      fun k hk => (rdByte_of_mem_eq hmem _).trans (hin k hk),
      fun k hk => (rdByte_of_mem_eq hmem _).trans (hout k hk), hsignal⟩

end Sys2Proof.Proofs
end

section
/-! SETTLES O22. A remote DMA forms its packets in order (R149, R278, R281). -/
namespace Sys2Proof.Proofs
open Sys2Proof.Machine Sys2Proof.Machine.Claims Sys2Proof.Laws

/-! ### Pieces -/

theorem rdBytes_add (s : State) (k a b : Nat) : rdBytes s k (a + b) = rdBytes s k a ++ rdBytes s (k + a) b := by
  induction a generalizing k with
  | zero => simp [rdBytes]
  | succ a ih => rw [Nat.succ_add, rdBytes, ih, rdBytes, List.cons_append, Nat.add_assoc, Nat.add_comm 1 a]

/-- The bytes of a piece. -/
def pieceBytes (s : State) (x : Nat × Nat × Nat) : List Byte := rdBytes s x.2.1 x.2.2

theorem cutRow_pieces (s : State) (k : Nat) {a key len : Nat} (h : len ≤ 2048 * k) :
    ((cutRow k a key len).map (pieceBytes s)).flatten = rdBytes s key len ∧ ∀ x ∈ cutRow k a key len, x.2.2 ≤ 2048 := by
  induction k generalizing a key len with
  | zero =>
    have hlen : len = 0 := by omega
    subst hlen
    exact ⟨rfl, fun _ h => absurd h (by simp [cutRow])⟩
  | succ k ih =>
    obtain ⟨hbytes, hsize⟩ := ih (a := a + 2048) (key := key + 2048) (len := len - 2048) (by omega)
    rw [cutRow]
    refine ⟨?_, fun x hx => ?_⟩
    · rw [List.map_cons, List.flatten_cons, hbytes]
      show rdBytes s key (min 2048 len) ++ _ = _
      rcases Nat.le_total len 2048 with hle | hle
      · rw [Nat.min_eq_right hle, Nat.sub_eq_zero_of_le hle]
        exact List.append_nil _
      · rw [Nat.min_eq_left hle, ← rdBytes_add, Nat.add_sub_cancel' hle]
    · rcases List.mem_cons.mp hx with rfl | hx
      · exact Nat.min_le_left _ _
      · exact hsize x hx

/-- The pieces of a transfer, in order, are the bytes of its rows. -/
theorem remotePieces_bytes (s : State) (d : BitVec 128) (dst : Nat) (r : Nat) (rd : List Span) :
    ((remotePieces d dst r rd).map (pieceBytes s)).flatten = rd.flatMap (fun x => rdBytes s x.lo x.len)
      ∧ ∀ x ∈ remotePieces d dst r rd, x.2.2 ≤ 2048 := by
  induction rd generalizing r with
  | nil => exact ⟨rfl, fun _ h => absurd h (by simp [remotePieces])⟩
  | cons a as ih =>
    obtain ⟨hbytes, hsize⟩ := ih (r + 1)
    obtain ⟨hrow, hcut⟩ := cutRow_pieces s (cdiv a.len 2048) (a := dst + r * dmaDstStride d) (key := a.lo) (len := a.len)
      (by unfold cdiv; omega)
    rw [remotePieces]
    refine ⟨by rw [List.map_append, List.flatten_append, hrow, hbytes, List.flatMap_cons], fun x hx => ?_⟩
    rcases List.mem_append.mp hx with hx | hx
    · exact hcut x hx
    · exact hsize x hx

/-! ### Packets -/

theorem shiftLeft_eq_mul (a : Nat) {k : Nat} (h : 12 ≤ k) : ∃ x, a <<< k = 4096 * x := by
  obtain ⟨m, rfl⟩ := Nat.exists_eq_add_of_le h
  exact ⟨a * 2 ^ m, by rw [Nat.shiftLeft_eq, pow_add]; ring⟩

/-- A header's low bits: VERSION, VC and FENCE, and above them multiples of 2^12. -/
theorem low_eq (h : Hdr) (len crc : Nat) :
    ∃ x, h.low len + crc <<< 480 = 82 + h.vc * 256 + b2n h.fence * 2048 + 4096 * x := by
  obtain ⟨x12, e12⟩ := shiftLeft_eq_mul h.type (k := 12) (by decide)
  obtain ⟨x16, e16⟩ := shiftLeft_eq_mul h.job (k := 16) (by decide)
  obtain ⟨x32, e32⟩ := shiftLeft_eq_mul h.src (k := 32) (by decide)
  obtain ⟨x64, e64⟩ := shiftLeft_eq_mul h.dst (k := 64) (by decide)
  obtain ⟨x84, e84⟩ := shiftLeft_eq_mul len (k := 84) (by decide)
  obtain ⟨x96, e96⟩ := shiftLeft_eq_mul h.hash (k := 96) (by decide)
  obtain ⟨x128, e128⟩ := shiftLeft_eq_mul h.fcount (k := 128) (by decide)
  obtain ⟨x160, e160⟩ := shiftLeft_eq_mul h.origin (k := 160) (by decide)
  obtain ⟨x192, e192⟩ := shiftLeft_eq_mul h.birth (k := 192) (by decide)
  obtain ⟨x256, e256⟩ := shiftLeft_eq_mul h.group (k := 256) (by decide)
  obtain ⟨x272, e272⟩ := shiftLeft_eq_mul h.lseq (k := 272) (by decide)
  obtain ⟨x320, e320⟩ := shiftLeft_eq_mul h.offset (k := 320) (by decide)
  obtain ⟨x401, e401⟩ := shiftLeft_eq_mul h.ckind (k := 401) (by decide)
  obtain ⟨x404, e404⟩ := shiftLeft_eq_mul h.pfmt (k := 404) (by decide)
  obtain ⟨x408, e408⟩ := shiftLeft_eq_mul h.input (k := 408) (by decide)
  obtain ⟨x480, e480⟩ := shiftLeft_eq_mul crc (k := 480) (by decide)
  have e8 : h.vc <<< 8 = h.vc * 256 := Nat.shiftLeft_eq _ _
  have e11 : b2n h.fence <<< 11 = b2n h.fence * 2048 := Nat.shiftLeft_eq _ _
  cases hsync : h.sync with
  | none =>
    refine ⟨x12 + x16 + x32 + x64 + x84 + x96 + x128 + x160 + x192 + x256 + x272 + x320 + x401 + x404 + x408 + x480, ?_⟩
    unfold Hdr.low
    rw [hsync, e8, e11, e12, e16, e32, e64, e84, e96, e128, e160, e192, e256, e272, e320, e401, e404, e408, e480]
    dsimp only
    omega
  | some o =>
    obtain ⟨x384, e384⟩ := shiftLeft_eq_mul (o + 0x10000) (k := 384) (by decide)
    refine ⟨x12 + x16 + x32 + x64 + x84 + x96 + x128 + x160 + x192 + x256 + x272 + x320 + x401 + x404 + x408 + x480 + x384, ?_⟩
    unfold Hdr.low
    rw [hsync, e8, e11, e12, e16, e32, e64, e84, e96, e128, e160, e192, e256, e272, e320, e401, e404, e408, e480]
    dsimp only
    rw [e384]
    omega

/-- The fence bit of a packet as its sender forms it (R245). -/
theorem fence_mkPacket (h : Hdr) (hvc : h.vc < 8) (bs : List Byte) : (mkPacket h bs).fence = h.fence := by
  have hbit : b2n h.fence ≤ 1 := by cases h.fence <;> decide
  generalize hg : ({ h with hash := h.drawn.getD (pinHash h.job h.src h.dst h.vc) } : Hdr) = g
  have hvcg : g.vc = h.vc := by rw [← hg]
  have hfg : g.fence = h.fence := by rw [← hg]
  have hhdr : (mkPacket h bs).hdr = BitVec.ofNat 512 (g.low bs.length + hdrCrc (g.low bs.length) <<< 480) := by rw [← hg]; rfl
  obtain ⟨x, hx⟩ := low_eq g bs.length (hdrCrc (g.low bs.length))
  have hval : hF (mkPacket h bs).hdr 11 1 = b2n h.fence := by
    rw [hhdr, hx, hvcg, hfg]
    unfold hF
    rw [BitVec.toNat_ofNat, Nat.shiftRight_eq_div_pow, show 512 = 11 + 501 from rfl, pow_add, Nat.mod_mul_right_div_self,
      Nat.mod_mod_of_dvd _ (by norm_num)]
    omega
  unfold Packet.fence
  rw [hval]
  cases h.fence <;> rfl

/-- Between two states what units have sent alone differs. -/
def NetSent (s t : State) : Prop :=
  { t with net := s.net } = s ∧ { t.net with outbox := s.net.outbox, senders := s.net.senders, nextNo := s.net.nextNo } = s.net

theorem NetSent.refl (s : State) : NetSent s s := ⟨rfl, rfl⟩

theorem NetSent.trans {s t u : State} (h : NetSent s t) (h' : NetSent t u) : NetSent s u := by
  obtain ⟨hstate, hnet⟩ := h
  obtain ⟨hstate', hnet'⟩ := h'
  constructor
  · calc { u with net := s.net } = { ({ u with net := t.net } : State) with net := s.net } := rfl
      _ = { t with net := s.net } := by rw [hstate']
      _ = s := hstate
  · calc { u.net with outbox := s.net.outbox, senders := s.net.senders, nextNo := s.net.nextNo }
        = { ({ u.net with outbox := t.net.outbox, senders := t.net.senders, nextNo := t.net.nextNo } : Net) with
            outbox := s.net.outbox, senders := s.net.senders, nextNo := s.net.nextNo } := rfl
      _ = { t.net with outbox := s.net.outbox, senders := s.net.senders, nextNo := s.net.nextNo } := by rw [hnet']
      _ = s.net := hnet

theorem stamp_effect (s : State) (h : Hdr) :
    NetSent s (stamp s h).1 ∧ (stamp s h).1.net.outbox = s.net.outbox ∧ (stamp s h).2.fence = h.fence ∧ (stamp s h).2.vc = h.vc := by
  unfold stamp
  dsimp only
  split
  · exact ⟨⟨rfl, rfl⟩, rfl, rfl, rfl⟩
  · exact ⟨⟨rfl, rfl⟩, rfl, rfl, rfl⟩

theorem netSent_sendOut (s : State) (d input : Nat) (p : Packet) (owner : Option Nat) (dest : Dest) (injected : Bool) :
    NetSent s (sendOut s d input p owner dest injected) := ⟨rfl, rfl⟩

/-- What the packets of a transfer carry: the pieces in order, the last one alone fenced. -/
structure FormedFrom (n : CoreId) (s : State) (ps : List (Nat × Nat × Nat)) (l : List Pkt) : Prop where
  payload : l.map (fun x => x.p.payload) = ps.map (pieceBytes s)
  sender : ∀ x ∈ l, x.owner = some n.val ∧ x.die = n.val / 20
  fence : ∀ i, i < l.length → ((l.map (fun x => x.p.fence)).getD i false = true ↔ i + 1 = l.length)

theorem FormedFrom.length_eq {n : CoreId} {s : State} {ps : List (Nat × Nat × Nat)} {l : List Pkt} (h : FormedFrom n s ps l) :
    l.length = ps.length := by simpa using congrArg List.length h.payload

theorem pieceBytes_congr {s t : State} (h : t.mem = s.mem) : pieceBytes t = pieceBytes s := by
  funext x
  exact rdBytes_congr fun j _ => rdByte_of_mem_eq h _

/-- A packet before those of the further pieces: it is fenced when there are none. -/
theorem FormedFrom.cons {n : CoreId} {s : State} {ps : List (Nat × Nat × Nat)} {l : List Pkt} {x : Pkt} {y : Nat × Nat × Nat}
    (h : FormedFrom n s ps l) (hpayload : x.p.payload = pieceBytes s y) (hsender : x.owner = some n.val ∧ x.die = n.val / 20)
    (hfence : x.p.fence = ps.isEmpty) : FormedFrom n s (y :: ps) (x :: l) where
  payload := by rw [List.map_cons, List.map_cons, hpayload, h.payload]
  sender z hz := by
    rcases List.mem_cons.mp hz with rfl | hz
    · exact hsender
    · exact h.sender z hz
  fence i hi := by
    have hlen := h.length_eq
    cases i with
    | zero =>
      rw [List.map_cons, List.getD_cons_zero, hfence, List.isEmpty_iff, List.length_cons, ← List.length_eq_zero_iff, ← hlen]
      omega
    | succ i =>
      have := h.fence i (by simpa using hi)
      rw [List.map_cons, List.getD_cons_succ, this, List.length_cons]
      omega

/-- The packet of a piece leaves, and the rest of the pieces follow. -/
theorem formPieces_cons {o : ZtOp} (n : CoreId) (h : Hdr) (hspray : dmaSpray o.d = false) (x : Nat × Nat × Nat)
    (ps : List (Nat × Nat × Nat)) (s : State) :
    ∃ h1 : Hdr, formPieces n o h (x :: ps) s = formPieces n o h ps (sendOut (stamp s h1).1 (n.val / 20) (263 + n.val % 20)
          (mkPacket (stamp s h1).2 (pieceBytes (stamp s h1).1 x)) (some n.val) .here true)
      ∧ h1.vc = h.vc ∧ h1.fence = ps.isEmpty := by
  obtain ⟨a, key, len⟩ := x
  rw [formPieces]
  simp only [hspray, Bool.false_and, Bool.false_eq_true, if_false]
  exact ⟨_, rfl, rfl, rfl⟩

theorem formPieces_effect {n : CoreId} {o : ZtOp} {h : Hdr} (hvc : h.vc < 8) (hspray : dmaSpray o.d = false)
    (ps : List (Nat × Nat × Nat)) (s : State) :
    ∃ l, (formPieces n o h ps s).net.outbox = s.net.outbox ++ l ∧ FormedFrom n s ps l ∧ NetSent s (formPieces n o h ps s) := by
  induction ps generalizing s with
  | nil => exact ⟨[], (List.append_nil _).symm, ⟨rfl, by simp, by simp⟩, NetSent.refl s⟩
  | cons x ps ih =>
    obtain ⟨h1, heq, hvc1, hfence1⟩ := formPieces_cons n h hspray x ps s
    obtain ⟨hstamp, hout, hfence, hvc2⟩ := stamp_effect s h1
    have hmem : (stamp s h1).1.mem = s.mem := (congrArg State.mem hstamp.1 :)
    obtain ⟨l, houtbox, hformed, hsent⟩ := ih (sendOut (stamp s h1).1 (n.val / 20) (263 + n.val % 20)
      (mkPacket (stamp s h1).2 (pieceBytes (stamp s h1).1 x)) (some n.val) .here true)
    rw [heq]
    have hrest : FormedFrom n s ps l := ⟨hformed.payload.trans (by rw [pieceBytes_congr (t := sendOut _ _ _ _ _ _ _) hmem]),
      hformed.sender, hformed.fence⟩
    refine ⟨_, houtbox.trans (by rw [sendOut, hout, List.append_assoc]; rfl), hrest.cons ?_ ⟨rfl, rfl⟩ ?_,
      hstamp.trans ((netSent_sendOut _ _ _ _ _ _ _).trans hsent)⟩
    · show pieceBytes (stamp s h1).1 x = _
      rw [pieceBytes_congr hmem]
    · show (mkPacket (stamp s h1).2 _).fence = _
      rw [fence_mkPacket _ (by rw [hvc2, hvc1]; exact hvc), hfence, hfence1]

/-! ### Issue and the engine -/

section
variable {s t : State}

/-- A key names a store of a bounded number. -/
theorem storeOfKey_bound (k : Nat) :
    (∀ p, storeOfKey k = .core p → p < 2 ^ 15) ∧ ∀ c, storeOfKey k = .cluster c → c < 2 ^ 15 := by
  unfold storeOfKey
  split
  · exact ⟨fun _ h => (nomatch h), fun _ h => (nomatch h)⟩
  split
  · exact ⟨fun _ h => (nomatch h), fun _ h => (nomatch h)⟩
  split
  · exact ⟨fun _ h => (nomatch h), fun _ h => (nomatch h)⟩
  split
  · exact ⟨fun _ h => (nomatch h), fun c h => by cases h; omega⟩
  · exact ⟨fun p h => by cases h; omega, fun _ h => (nomatch h)⟩

/-- A core's ISSUE count says nothing of what sleeps. -/
theorem sleeper_congr {n : CoreId} (h : CsrKept s t [CORE_CNT_ISSUE n]) (k : Nat) :
    sleeper t (storeOfKey k) = sleeper s (storeOfKey k) := by
  have hawake : ∀ u, u < 2 ^ 16 → awake t u = awake s u := fun u hu => by
    have hne : PWR_DOMAIN u ∉ [CORE_CNT_ISSUE n] := by
      simp only [List.mem_singleton, PWR_DOMAIN, CORE_CNT_ISSUE]; omega
    unfold awake domState
    rw [h.getF_eq hne]
  obtain ⟨hcore, hcluster⟩ := storeOfKey_bound k
  unfold sleeper
  split
  · rename_i p hp
    have := hcore p hp
    rw [hawake _ (by omega), hawake _ (by omega)]
  · rename_i c hc
    have := hcluster c hc
    rw [hawake _ (by omega)]
  · rfl

theorem asleepAt_congr {n : CoreId} (h : CsrKept s t [CORE_CNT_ISSUE n]) (o : ZtOp) : asleepAt t o = asleepAt s o := by
  unfold asleepAt
  simp only [sleeper_congr h]

/-- A descriptor whose checks give ranges and no wait issues: its operation joins the queue. -/
theorem issueZt_issued {n : CoreId} {d : BitVec 128} {r : List Word} {rd wr : List Span} (hissue : canIssue s (.core n) = true)
    (hdma : (Machine.core s n).dma = []) :
    ZtIssued s (issueZt s n .dma d false (.ok (r, rd, wr, false))) n { Machine.core s n with dma := [opOf s n d r rd wr] } 0 := by
  obtain ⟨hready, hcode⟩ := Bool.and_eq_true_iff.mp hissue
  have hroom : decide (queueRoom ≤ ((Machine.core s n).queue .dma).length) = false := by rw [Core.queue, hdma]; rfl
  have hnote : Machine.core (noteIssue s n) n = { Machine.core s n with lastPc := (Machine.core s n).pc } := by
    unfold noteIssue chargeIssue
    rw [core_bump, core_setCore_same]
  unfold issueZt issueCore
  dsimp only
  rw [hready, hcode, hroom]
  simp only [Bool.false_or, if_true, Bool.false_eq_true, if_false]
  refine ⟨?_, fun m hm => ?_, ?_, rfl⟩
  · unfold push mkOp
    rw [core_setCore_same, hnote]
    simp only [hdma]
    unfold opOf
    generalize Machine.core s n = c
    rw [show c.srPos + BitVec.ofNat 32 0 = c.srPos from BitVec.add_zero _]
    rfl
  · unfold push noteIssue chargeIssue
    rw [core_setCore_other _ _ _ _ (by simpa using hm), core_bump, core_setCore_other _ _ _ _ (by simpa using hm)]
  · exact ((CsrKept.refl s _).of_csr_eq (u := setCore s n _) rfl).after_bump (by simp) _ _

/-- The only transfer of a queue has been formed into a number of packets that have still to leave. -/
def transferFormed (s : State) (n : CoreId) (o : ZtOp) (k : Nat) : State :=
  setCore (setDma s n { o with formed := true }) n { Machine.core (setDma s n { o with formed := true }) n with unsent := k }

theorem transferFormed_effect {n : CoreId} {o : ZtOp} (hdma : (Machine.core s n).dma = [o]) (k : Nat) :
    Machine.core (transferFormed s n o k) n = { Machine.core s n with dma := [{ o with formed := true }], unsent := k }
      ∧ CoresKept s (transferFormed s n o k) [n.val] ∧ { transferFormed s n o k with cores := s.cores } = s := by
  unfold transferFormed setDma
  refine ⟨by rw [core_setCore_same, core_setCore_same, hdma]; simp, fun m hm => ?_, rfl⟩
  have hne : m ≠ n.val := by simpa using hm
  rw [core_setCore_other _ _ _ _ hne, core_setCore_other _ _ _ _ hne]

/-- The engine forms the packets of the remote transfer it has taken, the only one of its queue. -/
theorem dmaAdvance_forms {n : CoreId} {o : ZtOp} (hdma : (Machine.core s n).dma = [o]) (hfin : o.finished = false)
    (hform : o.formed = false) (hrank : dmaRankG o.d ≠ 0) (hspray : dmaSpray o.d = false) (hawake : asleepAt s o = none)
    (hclean : Clean s o.reads) :
    dmaAdvance s n = formPieces n o (remoteHdr s n o) (remotePieces o.d (wordAt o.r 1).toNat 0 o.reads)
      (transferFormed s n o (remotePieces o.d (wordAt o.r 1).toNat 0 o.reads).length) := by
  have htaken : dmaTaken (Machine.core s n) = some o := by
    unfold dmaTaken ZtOp.passed
    rw [hdma]
    simp [hfin, hform]
  have hpush : pushing (Machine.core s n) = false := by
    unfold pushing
    rw [hdma]
    simp [hform]
  have hwait : sprayWaits s (remoteHdr s n o) o = false := by
    unfold sprayWaits
    rw [hspray]
    rfl
  unfold dmaAdvance
  rw [htaken]
  dsimp only
  rw [if_neg (by simp [hrank, hpush, hwait]), hawake, badSpans_of_clean hclean]
  rfl

theorem dmaVc_lt (d : BitVec 128) : dmaVc d < 8 := (ext d 122 3).isLt

theorem exec_dma {n : CoreId} {d : BitVec 128} {r : List Word} {rd wr : List Span} (hissue : canIssue s (.core n) = true)
    (hdesc : descOk 0x02 d = true) (hprep : dmaPrep s n d = .ok (r, rd, wr, false)) :
    exec (.dma n d) s = .next (dmaAdvance (issueZt s n .dma d false (.ok (r, rd, wr, false))) n) := by
  have hrun : running s = true := by
    simp only [canIssue, coreReady, Bool.and_eq_true] at hissue
    exact hissue.1.1.1.1.1
  show checked _ _ = _
  rw [ifRunning_of_running hrun, hprep, checked, if_pos hdesc]

end

theorem FormedFrom.payload_le {n : CoreId} {s : State} {ps : List (Nat × Nat × Nat)} {l : List Pkt} (h : FormedFrom n s ps l)
    (hsize : ∀ y ∈ ps, y.2.2 ≤ 2048) {x : Pkt} (hx : x ∈ l) : x.p.payload.length ≤ 2048 := by
  have hmem : x.p.payload ∈ ps.map (pieceBytes s) := by rw [← h.payload]; exact List.mem_map_of_mem hx
  obtain ⟨y, hy, heq⟩ := List.mem_map.mp hmem
  rw [← heq, pieceBytes, rdBytes_length]
  exact hsize y hy

theorem NetSent.core_eq {s t : State} (h : NetSent s t) (m : Nat) : Machine.core t m = Machine.core s m := by
  unfold Machine.core
  rw [(congrArg State.cores h.1 :)]

theorem remoteDmaFormsPackets : RemoteDmaFormsPackets := by
  intro n d s hissue hdesc hrank r rd wr hprep hdma hspray hawake hclean _ _
  obtain ⟨hcore, hkept, hcsr, hframe⟩ := issueZt_issued (d := d) (r := r) (rd := rd) (wr := wr) hissue hdma
  have hexec := exec_dma hissue hdesc hprep
  generalize issueZt s n .dma d false (.ok (r, rd, wr, false)) = v at hcore hkept hcsr hframe hexec
  have hvdma : (Machine.core v n).dma = [opOf s n d r rd wr] := by rw [hcore]
  have hvpc : (Machine.core v n).pc = (Machine.core s n).pc + 4 := by rw [hcore]
  have hvclean : Clean v rd := by
    unfold Clean
    rw [(congrArg State.bad hframe :)]
    exact hclean
  have hvnet : v.net = s.net := (congrArg State.net hframe :)
  have hvmem : v.mem = s.mem := (congrArg State.mem hframe :)
  rw [dmaAdvance_forms hvdma rfl rfl hrank hspray (by rw [asleepAt_congr hcsr]; exact hawake) hvclean] at hexec
  change exec (.dma n d) s = .next (formPieces n (opOf s n d r rd wr) _ (remotePieces d (wordAt r 1).toNat 0 rd)
    (transferFormed v n _ (remotePieces d (wordAt r 1).toNat 0 rd).length)) at hexec
  obtain ⟨hbytes, hsize⟩ := remotePieces_bytes v d (wordAt r 1).toNat 0 rd
  generalize remotePieces d (wordAt r 1).toNat 0 rd = ps at hexec hbytes hsize
  obtain ⟨hwcore, hwkept, hwframe⟩ := transferFormed_effect hvdma ps.length
  generalize transferFormed v n (opOf s n d r rd wr) ps.length = w at hexec hwcore hwkept hwframe
  obtain ⟨l, houtbox, hformed, hsent⟩ := formPieces_effect (n := n) (o := opOf s n d r rd wr)
    (h := remoteHdr v n (opOf s n d r rd wr)) (dmaVc_lt d) hspray ps w
  have hwnet : w.net = s.net := (congrArg State.net hwframe :).trans hvnet
  have hwmem : w.mem = v.mem := (congrArg State.mem hwframe :)
  generalize formPieces n (opOf s n d r rd wr) (remoteHdr v n (opOf s n d r rd wr)) ps w = t at hexec houtbox hsent
  refine ⟨t, l, hexec, by rw [houtbox, hwnet], ?_, ?_, fun x hx => ⟨hformed.payload_le hsize hx, hformed.sender x hx⟩,
    hformed.fence, ?_, ?_, fun m hm => ?_, ?_, ?_⟩
  · rw [hsent.core_eq, hwcore, hformed.length_eq]
  · rw [hformed.payload, pieceBytes_congr hwmem, hbytes]
    refine List.flatMap_congr fun x _ => ?_
    exact rdBytes_congr fun j _ => rdByte_of_mem_eq hvmem _
  · rw [hsent.core_eq, hwcore]
  · rw [hsent.core_eq, hwcore, ← hvpc]
  · rw [hsent.core_eq, hwkept m hm, hkept m hm]
  · rw [← hwnet]
    exact hsent.2
  · calc { t with cores := s.cores, csr := s.csr, net := s.net }
        = { ({ t with net := w.net } : State) with cores := s.cores, csr := s.csr, net := s.net } := rfl
      _ = { ({ w with cores := v.cores } : State) with cores := s.cores, csr := s.csr, net := s.net } := by rw [hsent.1]
      _ = { v with cores := s.cores, csr := s.csr, net := s.net } := by rw [hwframe]
      _ = { v with cores := s.cores, csr := s.csr } := by rw [← hvnet]
      _ = s := hframe

/-- Settles O22: a local DMA's rows, and a remote one's packets. -/
theorem dmaMovesDataHereAndAway : Obligations.DmaMovesDataHereAndAway :=
  ⟨localDmaMovesItsRows, remoteDmaFormsPackets⟩

end Sys2Proof.Proofs
end

section
/-! REFUTES O34. The rank's address is translated anew once the refusal has set REFUSE_EVENT (`refusePkt`), and the statement reads
the translation of the state before. A RTT_BASE of 131071 puts the entry of rank 2 of die 0's table where the status of die 1 stands
(`SWC_RTT 0 (131071 + 2)` is `SWC_STATUS 1`). -/
namespace Sys2Proof.Proofs
open Sys2Proof.Machine Sys2Proof.Machine.Claims Sys2Proof.Laws

/-- A DATA packet of job 1 from rank 2, of one byte to offset 0, delivered on die 1. -/
def strayX : Pkt :=
  { no := 0, p := mkPacket { type := 0, vc := 0, job := 1, src := 2 } [1], die := 1, port := none, input := 0, key := 0,
    arrived := 0, vc := 0, twin := 0, injected := false, buf := none, dest := .here, hold := 0, since := 0, deferred := false,
    whole := true, owner := none }

/-- Job 1 has three ranks from entry 131071 of the table of die 0, and no region. The entry of rank 2 is the status word of die 1
and its fence timeout: valid, of KIND 2 with a port of its own, until REFUSE_EVENT makes it KIND 3. -/
def strayRankS : State :=
  { State.reset with
    boot := { State.reset.boot with porst := false, perst := false, up := true, opened := true, pcieUp := true }
    csr := [(SWC_JOB 0 0, 1 + 1 * 2 ^ 1 + 131071 * 2 ^ 17 + 3 * 2 ^ 34), (SWC_STATUS 1, 1 + 2 * 2 ^ 1),
      (SWC_FENCE_TIMEOUT 1, 2 + 1 * 2 ^ 20)]
    net := { State.reset.net with locals := [strayX] } }

/-- The packet of `strayRankS` has arrived: nothing holds it, and no fence holds another. -/
theorem strayX_arrived : Arrived strayRankS 0 strayX 0 := by
  have hfirst : running strayRankS = true ∧ localPkt strayRankS 0 = some strayX ∧ strayX.p.type = 0 ∧ strayX.p.stomp = false := by
    decide +kernel
  have hnone : ∀ y ∈ strayRankS.net.locals ++ strayRankS.net.ports.flatMap (fun e => e.2.q), y.hold = 0 := by decide +kernel
  obtain ⟨hrun, hlocal, htype, hstomp⟩ := hfirst
  refine ⟨hrun, hlocal, htype, hstomp, rfl, rfl, by decide, ?_, ?_, ?_⟩
  · intro b hb; cases hb
  · intro a ha; cases ha
  · intro y hy
    have h0 := hnone y hy
    exact ⟨by omega, fun h3 => by omega⟩

/-- It carries no fence, lies in no region of its job, and its source translates before the refusal. -/
theorem strayX_premises :
    strayX.p.fence = false ∧ inRegion strayRankS strayX.p.job strayX.p.offset strayX.p.payload.length true = false
      ∧ translates strayRankS strayX.p.job strayX.p.src = true ∧ strayX.p.type ≠ 3 ∧ strayX.p.type ≠ 7
      ∧ strayRankS.net.outbox = [] := by
  (repeat' apply And.intro) <;> decide +kernel

/-- The refused packet sends nothing: its source no longer translates. -/
theorem strayRankS_sends_no_refusal :
    (match exec (.dataPacket 0) strayRankS with
      | .next t => t.net.outbox.isEmpty
      | _ => false) = true := by decide +kernel

/-- Refutes O34: the clause of a DATA packet outside every region promises a REFUSE to each source that translates in the state
before; the refusal first sets REFUSE_EVENT, and in `strayRankS` that bit belongs to the source's own table entry, which then
leads nowhere. -/
theorem not_packetsAreDelivered : ¬ Obligations.PacketsAreDelivered := by
  rintro ⟨hdeliver, _⟩
  obtain ⟨_, hregion, _⟩ := hdeliver 0 strayRankS strayX
  obtain ⟨hfence, houtside, htranslates, hradd, hrefuse, hbefore⟩ := strayX_premises
  obtain ⟨t, hexec, ⟨_, _, _, _, _, _, hsent⟩, _⟩ := hregion strayX_arrived hfence (Or.inl houtside)
  obtain ⟨y, houtbox, _⟩ := hsent hradd hrefuse htranslates
  have hempty := strayRankS_sends_no_refusal
  rw [hexec] at hempty
  simp [houtbox, hbefore] at hempty

end Sys2Proof.Proofs
end

section
/-! SUPPORT. An instruction that issues on a core, or waits there for room (R209, R159). -/
namespace Sys2Proof.Proofs
open Sys2Proof.Machine Sys2Proof.Machine.Claims Sys2Proof.Laws

variable {s : State} {n : CoreId}

theorem issueCore_takes (hissue : canIssue s (.core n) = true) (k : State → State) :
    issueCore s n false k = k (noteIssue s n) := by
  obtain ⟨hready, hcode⟩ := Bool.and_eq_true_iff.mp hissue
  exact issue_core_ready s n k hready hcode

theorem issueCore_waits (hissue : canIssue s (.core n) = true) (k : State → State) :
    issueCore s n true k = chargeBusy s n := by
  obtain ⟨hready, hcode⟩ := Bool.and_eq_true_iff.mp hissue
  unfold issueCore
  rw [if_pos hready, if_pos hcode, if_pos rfl]

/-- A core that can issue has no wait. -/
theorem wait_of_canIssue (hissue : canIssue s (.core n) = true) : (Machine.core s n).wait = none := by
  simp only [canIssue, coreReady, Bool.and_eq_true, Option.isNone_iff_eq_none] at hissue
  exact hissue.1.2

/-- A period of waiting writes a counter and nothing else. -/
theorem chargeBusy_frame : { chargeBusy s n with csr := s.csr } = s := by
  unfold chargeBusy
  split <;> rfl

theorem chargeBusy_cores : (chargeBusy s n).cores = s.cores := by
  unfold chargeBusy
  split <;> rfl

theorem core_noteIssue : Machine.core (noteIssue s n) n = { Machine.core s n with lastPc := (Machine.core s n).pc } :=
  issued_core s n

/-- A core put after the issue, beside what else of the core has changed. -/
theorem setCore_since {u : State} {l : List Nat} (hkept : CoresKept s u [n.val]) (hcsr : CsrKept s u l)
    (hframe : { u with cores := s.cores, csr := s.csr } = s) (c : Core) :
    Machine.core (setCore u n c) n = c ∧ CoresKept s (setCore u n c) [n.val] ∧ CsrKept s (setCore u n c) l
      ∧ { setCore u n c with cores := s.cores, csr := s.csr } = s := by
  refine ⟨core_setCore_same .., fun m hm => ?_, hcsr.of_csr_eq rfl, hframe⟩
  rw [core_setCore_other _ _ _ _ (by simpa using hm)]
  exact hkept m hm

/-- What an instruction leaves that issues and writes nothing but its core. -/
theorem noteIssue_setCore_effect (c : Core) :
    Machine.core (setCore (noteIssue s n) n c) n = c ∧ CoresKept s (setCore (noteIssue s n) n c) [n.val]
      ∧ CsrKept s (setCore (noteIssue s n) n c) [CORE_CNT_ISSUE n]
      ∧ { setCore (noteIssue s n) n c with cores := s.cores, csr := s.csr } = s :=
  setCore_since (fun m hm => issued_core_other s n m (by simpa using hm)) (fun o ho => issued_reg_other s n o (by simpa using ho))
    rfl c

end Sys2Proof.Proofs
end

section
/-! SETTLES O18. SYNC instructions release and wait (R181, R201, R237, R238, R408). -/
namespace Sys2Proof.Proofs
open Sys2Proof.Machine Sys2Proof.Machine.Claims Sys2Proof.Laws

variable {s u : State} {n : CoreId} {d : BitVec 128}

/-! ### Operands -/

theorem syncTarget_eq : syncTarget s n d = objOf s n d := rfl

theorem syncValue_eq : syncValue s n d = valOf s n d := by
  unfold syncValue valOf
  refine if_congr Iff.rfl ?_ rfl
  show BitVec.ofNat 64 (ext d 39 32).toNat = _
  exact BitVec.eq_of_toNat_eq (by simp [ext])

/-- The objects of a bound range pass the check at issue. -/
theorem boundRange_of_bound {o k : Nat} (h : Bound s n o k) : boundRange s n o k = true := by
  obtain ⟨hrange, hjob, hall⟩ := h
  unfold boundRange
  rw [Bool.and_eq_true, decide_eq_true_eq, List.all_eq_true]
  refine ⟨hrange, fun i hi => ?_⟩
  have hi : i ≤ k := Nat.lt_succ_iff.mp (List.mem_range.mp hi)
  rw [Bool.and_eq_true, beq_iff_eq, bne_iff_ne]
  exact ⟨hall i hi, hjob⟩

/-- A SYNC of bound objects, and of a sum below 2^32, raises no trap. -/
theorem syncBad_of_bound (hbound : Bound s n (objOf s n d) (if syncSop d = 4 then syncFirstN d else 0))
    (hsum : syncSop d = 1 → (syncValue s n d).toNat ≤ 2 ^ 32 - 1) : syncBad s n d = false := by
  unfold syncBad
  rw [syncTarget_eq]
  dsimp only
  rw [boundRange_of_bound hbound, Bool.not_true, Bool.false_or, Bool.and_eq_false_imp]
  intro hadd
  have := hsum (by simpa using hadd)
  exact decide_eq_false (by omega)

theorem syncBad_noteIssue : syncBad (noteIssue s n) n d = syncBad s n d := by
  unfold syncBad boundRange syncTarget syncValue
  rw [core_noteIssue]
  rfl

/-! ### Issue -/

/-- What a SYNC does to its core: releases join those that wait, or a wait holds it. -/
def syncCore (held : List Held) (w : Option CoreWait) (c : Core) : Core := { c with held := c.held ++ held, wait := w }

/-- The core past a SYNC. -/
def syncPast (c : Core) : Core := { c with nextNo := c.nextNo + 1, pc := c.pc + 4 }

/-- A SYNC with room in the port's queue, of bound objects, issues. -/
theorem issueSync_issues (hissue : canIssue s (.core n) = true) (hroom : (Machine.core s n).held.length < 8)
    (hbad : syncBad s n d = false) {held : List Held} {w : Option CoreWait} {k : Core → Core}
    (hk : ∀ c : Core, c.wait = none → c.nextNo = (Machine.core s n).nextNo → k c = syncCore held w c) :
    SyncIssued s (issueSync s n d k) n held w := by
  have heq : issueSync s n d k
      = setCore (noteIssue s n) n (syncPast (syncCore held w { Machine.core s n with lastPc := (Machine.core s n).pc })) :=
    calc issueSync s n d k
        = (if syncBad (noteIssue s n) n d then _ else setCore (noteIssue s n) n (syncPast (k (Machine.core (noteIssue s n) n)))) := by
          unfold issueSync
          rw [decide_eq_false (show ¬ syncRoom ≤ _ by unfold syncRoom; omega), issueCore_takes hissue]
          rfl
      _ = _ := by
          rw [syncBad_noteIssue, hbad, if_neg Bool.false_ne_true, core_noteIssue]
          exact congrArg (fun c => setCore (noteIssue s n) n (syncPast c)) (hk _ (wait_of_canIssue hissue) rfl)
  rw [heq]
  exact noteIssue_setCore_effect _

theorem issueSync_releases (hissue : canIssue s (.core n) = true) (hroom : (Machine.core s n).held.length < 8)
    (hbad : syncBad s n d = false) (kind : Fin 3) (o : Nat) (v : Word) :
    SyncIssued s (issueSync s n d (holdRelease kind o v)) n [⟨(Machine.core s n).nextNo, kind, o, v⟩] none :=
  issueSync_issues hissue hroom hbad fun c hwait hno =>
    calc holdRelease kind o v c = syncCore [⟨c.nextNo, kind, o, v⟩] c.wait c := rfl
      _ = _ := by rw [hwait, hno]

theorem issueSync_holds (hissue : canIssue s (.core n) = true) (hroom : (Machine.core s n).held.length < 8)
    (hbad : syncBad s n d = false) (w : CoreWait) :
    SyncIssued s (issueSync s n d (fun c => { c with wait := some w })) n [] (some w) :=
  issueSync_issues hissue hroom hbad fun c _ _ =>
    calc { c with wait := some w } = { c with held := c.held, wait := some w } := rfl
      _ = _ := by rw [syncCore, List.append_nil]

/-- A SYNC with no room waits at issue. -/
theorem issueSync_waits (hissue : canIssue s (.core n) = true) (hfull : 8 ≤ (Machine.core s n).held.length) (k : Core → Core) :
    issueSync s n d k = chargeBusy s n := by
  unfold issueSync
  rw [decide_eq_true (show syncRoom ≤ _ from hfull), issueCore_waits hissue]

/-- A core whose releases wait is not idle. -/
theorem evalIdle_of_held (h : (Machine.core s n).held ≠ []) : evalIdle s n = s := by
  unfold evalIdle
  refine if_neg ?_
  simp [coreIdle, h]

theorem not_canIssue_of_syncIssued {held : List Held} {w : CoreWait} (h : SyncIssued s u n held (some w)) : canIssue u (.core n) = false := by
  simp [canIssue, coreReady, h.1]

/-! ### The five SYNCs -/

/-- The SYNC of an SOP as a command. -/
def syncCommand (n : CoreId) (d : BitVec 128) : Nat → Instr
  | 0 => .syncOpSignal n d
  | 1 => .syncOpAdd n d
  | 2 => .syncOpSet n d
  | 3 => .syncOpWait n d
  | _ => .syncFirst n d

theorem eq_syncCommand {i : Instr} {k : Nat} (h : (i, k) ∈ [(Instr.syncOpSignal n d, 0), (.syncOpAdd n d, 1), (.syncOpSet n d, 2),
    (.syncOpWait n d, 3), (.syncFirst n d, 4)]) : i = syncCommand n d k ∧ k ≤ 4 := by
  simp only [List.mem_cons, Prod.mk.injEq, List.not_mem_nil, or_false] at h
  rcases h with ⟨rfl, rfl⟩ | ⟨rfl, rfl⟩ | ⟨rfl, rfl⟩ | ⟨rfl, rfl⟩ | ⟨rfl, rfl⟩ <;> exact ⟨rfl, by decide⟩

/-- A SYNC is what its core does at issue; one that waits is evaluated after it. -/
theorem exec_syncCommand (s : State) {k : Nat} (hk : k ≤ 4) :
    ∃ f, exec (syncCommand n d k) s
      = checked (descOk 0x1A d && syncSop d == k)
          (if k ≤ 2 then issueSync s n d f else evalIdle (issueSync s n d f) n) := by
  interval_cases k <;> exact ⟨_, rfl⟩

/-- A SYNC under another SOP is refused. -/
theorem exec_syncCommand_of_other {k : Nat} (hk : k ≤ 4) (hsop : syncSop d ≠ k) :
    exec (syncCommand n d k) s = .refused .illFormed := by
  obtain ⟨f, hexec⟩ := exec_syncCommand (n := n) (d := d) s hk
  rw [hexec, checked, if_neg (by simp [hsop])]

/-- A SYNC with no room waits: its core's counters alone move. -/
theorem exec_syncCommand_of_full {k : Nat} (hk : k ≤ 4) (hdesc : descOk 0x1A d = true) (hsop : syncSop d = k)
    (hissue : canIssue u (.core n) = true) (hfull : 8 ≤ (Machine.core u n).held.length) :
    exec (syncCommand n d k) u = .next (chargeBusy u n) := by
  obtain ⟨f, hexec⟩ := exec_syncCommand (n := n) (d := d) u hk
  have hheld : (Machine.core (chargeBusy u n) n).held ≠ [] := by
    rw [Machine.core, chargeBusy_cores]
    exact List.ne_nil_of_length_pos (Nat.lt_of_lt_of_le (by decide) hfull)
  rw [hexec, checked, if_pos (by simp [hdesc, hsop]), issueSync_waits hissue hfull, evalIdle_of_held hheld, ite_self]

/-- Settles O18: the effect of each SOP at issue, the refusal of another's descriptor, and the wait for room. -/
theorem syncInstructionsReleaseAndWait : Obligations.SyncInstructionsReleaseAndWait := by
  intro n d s hissue hroom hdesc
  rw [← syncValue_eq]
  have hchecked : ∀ {k : Nat} (t : State), syncSop d = k → checked (descOk 0x1A d && syncSop d == k) t = .next t :=
    fun t hsop => if_pos (by simp [hdesc, hsop])
  have hbad : syncSop d ≠ 4 → (syncSop d = 1 → (syncValue s n d).toNat ≤ 2 ^ 32 - 1) → Bound s n (objOf s n d) 0 →
      syncBad s n d = false := fun hsop hsum hbound => syncBad_of_bound (by rw [if_neg hsop]; exact hbound) hsum
  refine ⟨fun hsop hbound => ?_, fun hsop hbound hsum => ?_, fun hsop hbound => ?_, fun hsop hbound => ?_, fun hsop hbound => ?_,
    fun i k hi hsop => ?_, fun i k u hi hsop hready hfull => ?_⟩
  · exact ⟨_, hchecked _ hsop, issueSync_releases hissue hroom (hbad (by omega) (by omega) hbound) ..⟩
  · exact ⟨_, hchecked _ hsop, issueSync_releases hissue hroom (hbad (by omega) (fun _ => hsum) hbound) ..⟩
  · exact ⟨_, hchecked _ hsop, issueSync_releases hissue hroom (hbad (by omega) (by omega) hbound) ..⟩
  · have hissued := issueSync_holds hissue hroom (hbad (by omega) (by omega) hbound) ⟨objOf s n d, 0, syncValue s n d, none, none⟩
    exact ⟨_, hchecked _ hsop, hissued, not_canIssue_of_syncIssued hissued⟩
  · have hissued := issueSync_holds hissue hroom (syncBad_of_bound (by rw [if_pos hsop]; exact hbound) (by omega))
      ⟨objOf s n d, syncFirstN d, syncValue s n d, some (syncFirstG d), none⟩
    exact ⟨_, hchecked _ hsop, hissued, not_canIssue_of_syncIssued hissued⟩
  · obtain ⟨rfl, hk⟩ := eq_syncCommand hi
    exact exec_syncCommand_of_other hk hsop
  · obtain ⟨rfl, hk⟩ := eq_syncCommand hi
    exact ⟨_, exec_syncCommand_of_full hk hdesc hsop hready hfull, chargeBusy_cores, chargeBusy_frame⟩

end Sys2Proof.Proofs
end

section
/-! SETTLES O20. Descriptors join their queues, and SWAP takes its place (R133, R135, R181, R219, R225). -/
namespace Sys2Proof.Proofs
open Sys2Proof.Machine Sys2Proof.Machine.Claims Sys2Proof.Laws

variable {s : State} {n : CoreId} {d : BitVec 128} {r : List Word} {rd wr : List Span}

/-! ### Queues -/

/-- An operation joins a queue of a core. -/
def enqueued (q : Queue) (o : ZtOp) (c : Core) : Core :=
  match q with
  | .dma => { c with dma := c.dma ++ [o] }
  | .mx => { c with mx := c.mx ++ [o] }
  | .vec => { c with vec := c.vec ++ [o] }

/-- A core past a descriptor, with the SR position `sr` further on. -/
def pastDesc (sr : Nat) (c : Core) : Core :=
  { c with nextNo := c.nextNo + 1, pc := c.pc + 4, lastPc := c.pc, srPos := c.srPos + BitVec.ofNat 32 sr }

/-- The operation that is pushed carries the values at issue, and the core has moved past the descriptor. -/
theorem push_eq (q : Queue) (sr : Bool) :
    push (noteIssue s n) n q (mkOp (noteIssue s n) n d r rd wr) sr
      = setCore (noteIssue s n) n (enqueued q (opOf s n d r rd wr) (pastDesc (if sr then 1 else 0) (Machine.core s n))) := by
  have hop : mkOp (noteIssue s n) n d r rd wr = opOf s n d r rd wr := by
    unfold mkOp
    rw [core_noteIssue]
    rfl
  have hsr : ∀ x : BitVec 32, (if sr then x + 1 else x) = x + BitVec.ofNat 32 (if sr then 1 else 0) := fun x => by
    cases sr
    · exact (BitVec.add_zero x).symm
    · rfl
  rw [hop]
  unfold push enqueued pastDesc
  rw [core_noteIssue, ← hsr]
  cases q <;> rfl

/-- A descriptor that issues joins its queue. -/
theorem push_issued (q : Queue) (sr : Bool) :
    ZtIssued s (push (noteIssue s n) n q (mkOp (noteIssue s n) n d r rd wr) sr) n
      (enqueued q (opOf s n d r rd wr) (Machine.core s n)) (if sr then 1 else 0) := by
  rw [push_eq]
  obtain ⟨hcore, hrest⟩ := noteIssue_setCore_effect (s := s) (n := n)
    (enqueued q (opOf s n d r rd wr) (pastDesc (if sr then 1 else 0) (Machine.core s n)))
  exact ⟨hcore.trans (by cases q <;> rfl), hrest⟩

/-- A descriptor whose checks give ranges and no wait joins its unit's queue where there is room. -/
theorem issueZt_joins (hissue : canIssue s (.core n) = true) {q : Queue} (hroom : ((Machine.core s n).queue q).length < 9) (sr : Bool) :
    ZtIssued s (issueZt s n q d sr (.ok (r, rd, wr, false))) n
      (enqueued q (opOf s n d r rd wr) (Machine.core s n)) (if sr then 1 else 0) := by
  have heq : issueZt s n q d sr (.ok (r, rd, wr, false)) = push (noteIssue s n) n q (mkOp (noteIssue s n) n d r rd wr) sr := by
    unfold issueZt
    dsimp only
    rw [Bool.false_or, decide_eq_false (show ¬ queueRoom ≤ _ by unfold queueRoom; omega), issueCore_takes hissue]
  rw [heq]
  exact push_issued q sr

/-! ### DMA -/

/-- An engine whose queue holds only transfers inside the chip forms no packets. -/
theorem dmaAdvance_of_local (h : ∀ o ∈ (Machine.core s n).dma, dmaRankG o.d = 0) : dmaAdvance s n = s := by
  unfold dmaAdvance
  split
  · rfl
  · rename_i o ho
    exact if_pos (Or.inl (h o (List.mem_of_find?_eq_some ho)))

/-! ### SWAP (R135, R225) -/

theorem is_eq_true {o : ZtOp} {op : Nat} (h : o.d.toNat % 256 = op) : o.is op = true := by
  simpa [ZtOp.is, dNat, ext] using h

/-- A SWAP passes operations that are neither WLD nor SWAP. -/
theorem runSwaps_append {l : List ZtOp} (h : ∀ o ∈ l, o.d.toNat % 256 ≠ 0x0A ∧ o.d.toNat % 256 ≠ 0x0E) (m : List ZtOp) :
    runSwaps (l ++ m) = (l ++ (runSwaps m).1, (runSwaps m).2) := by
  induction l with
  | nil => rfl
  | cons o os ih =>
    obtain ⟨hwld, hswap⟩ := h o List.mem_cons_self
    rw [List.cons_append, runSwaps, ih fun x hx => h x (List.mem_cons_of_mem _ hx), is_eq_false hwld, is_eq_false hswap]
    rfl

/-- No SWAP passes a WLD. -/
theorem runSwaps_cons_wld {w : ZtOp} (h : w.d.toNat % 256 = 0x0A) (m : List ZtOp) : runSwaps (w :: m) = (w :: m, false) := by
  rw [runSwaps, is_eq_true h, if_pos rfl]

/-- A SWAP joins the matrix queue, which then goes on. -/
theorem exec_swap_issued (hissue : canIssue s (.core n) = true) (hroom : (Machine.core s n).mx.length < 9) :
    ∃ t, exec (.swap n) s = .next t
      ∧ ZtIssued s t n (settleMx { Machine.core s n with mx := (Machine.core s n).mx ++ [opOf s n 0x0E [] [] []] }) 0 := by
  have hexec : exec (.swap n) s = .next (setCore (push (noteIssue s n) n .mx (mkOp (noteIssue s n) n 0x0E [] [] []) false) n
      (settleMx (Machine.core (push (noteIssue s n) n .mx (mkOp (noteIssue s n) n 0x0E [] [] []) false) n))) := by
    show Host.Outcome.next _ = _
    rw [decide_eq_false (show ¬ queueRoom ≤ _ by unfold queueRoom; omega), issueCore_takes hissue]
  have hpushed := push_issued (s := s) (n := n) (d := 0x0E) (r := []) (rd := []) (wr := []) .mx false
  generalize push (noteIssue s n) n .mx (mkOp (noteIssue s n) n 0x0E [] [] []) false = v at hexec hpushed
  obtain ⟨hcore, hkept, hcsr, hframe⟩ := hpushed
  refine ⟨_, hexec, ?_⟩
  rw [hcore]
  exact setCore_since hkept hcsr hframe _

theorem swap_at_once (hissue : canIssue s (.core n) = true) (hroom : (Machine.core s n).mx.length < 9)
    (hclear : ∀ o ∈ (Machine.core s n).mx, o.d.toNat % 256 ≠ 0x0A ∧ o.d.toNat % 256 ≠ 0x0E) :
    ∃ t, exec (.swap n) s = .next t ∧ ZtIssued s t n { Machine.core s n with bankSel := !(Machine.core s n).bankSel } 0 := by
  have hruns : runSwaps ((Machine.core s n).mx ++ [opOf s n 0x0E [] [] []]) = ((Machine.core s n).mx, true) := by
    rw [runSwaps_append hclear]
    exact congrArg (·, true) (List.append_nil _)
  have hissued := exec_swap_issued hissue hroom
  unfold settleMx at hissued
  dsimp only at hissued
  rw [hruns, Bool.bne_true] at hissued
  exact hissued

theorem swap_behind_wld (hissue : canIssue s (.core n) = true) (hroom : (Machine.core s n).mx.length < 9) {l m : List ZtOp} {w : ZtOp}
    (hmx : (Machine.core s n).mx = l ++ w :: m) (hwld : w.d.toNat % 256 = 0x0A)
    (hclear : ∀ o ∈ l, o.d.toNat % 256 ≠ 0x0A ∧ o.d.toNat % 256 ≠ 0x0E) :
    ∃ t, exec (.swap n) s = .next t
      ∧ ZtIssued s t n { Machine.core s n with mx := (Machine.core s n).mx ++ [opOf s n 0x0E [] [] []] } 0 := by
  have hruns : runSwaps ((Machine.core s n).mx ++ [opOf s n 0x0E [] [] []])
      = ((Machine.core s n).mx ++ [opOf s n 0x0E [] [] []], false) := by
    rw [hmx, List.append_assoc, runSwaps_append hclear, List.cons_append, runSwaps_cons_wld hwld]
  have hissued := exec_swap_issued hissue hroom
  unfold settleMx at hissued
  dsimp only at hissued
  rw [hruns, Bool.bne_false] at hissued
  exact hissued

/-- What the loader refuses is refused. -/
theorem checked_of_false {ok : Bool} (h : ok = false) (t : State) : checked ok t = .refused .illFormed := by
  rw [checked, h]
  rfl

/-- Settles O20: each unit's descriptor joins its queue, a SWAP runs or waits behind the first WLD, and a descriptor that the
loader refuses is refused. -/
theorem descriptorsJoinTheirQueues : Obligations.DescriptorsJoinTheirQueues := by
  intro n d s hissue r rd wr
  refine ⟨fun hdesc hrank hprep hroom hlocal => ?_, fun hdesc hprep hroom => ?_, fun hdesc hprep hroom => ?_,
    fun hdesc hprep hroom => ?_, fun hdesc hprep hroom => ?_, fun hroom hclear => swap_at_once hissue hroom hclear,
    fun hroom l w m hmx hwld hclear => swap_behind_wld hissue hroom hmx hwld hclear, fun i op hi hdesc => ?_⟩
  · have hjoined := issueZt_joins (d := d) (r := r) (rd := rd) (wr := wr) hissue (q := .dma) hroom false
    have hstays := dmaAdvance_of_local (s := issueZt s n .dma d false (.ok (r, rd, wr, false))) (n := n) fun o ho => by
      rw [hjoined.1] at ho
      rcases List.mem_append.mp ho with hold | hnew
      · exact hlocal o hold
      · rw [List.mem_singleton.mp hnew]
        exact hrank
    exact ⟨_, (exec_dma hissue hdesc hprep).trans (congrArg _ hstays), hjoined⟩
  · exact ⟨_, (if_pos hdesc).trans (by rw [hprep]), issueZt_joins hissue (q := .mx) hroom false⟩
  · exact ⟨_, (if_pos hdesc).trans (by rw [hprep]), issueZt_joins hissue (q := .mx) hroom false⟩
  · have hjoined := issueZt_joins (d := d) (r := r) (rd := rd) (wr := wr) hissue (q := .vec) hroom (vecRm d == 2)
    simp only [beq_iff_eq] at hjoined
    exact ⟨_, (if_pos hdesc).trans (by rw [hprep]), hjoined⟩
  · have hjoined := issueZt_joins (d := d) (r := r) (rd := rd) (wr := wr) hissue (q := .vec) hroom (cvtRm d == 2)
    simp only [beq_iff_eq] at hjoined
    exact ⟨_, (if_pos hdesc).trans (by rw [hprep]), hjoined⟩
  · simp only [List.mem_cons, Prod.mk.injEq, List.not_mem_nil, or_false] at hi
    rcases hi with ⟨rfl, rfl⟩ | ⟨rfl, rfl⟩ | ⟨rfl, rfl⟩ | ⟨rfl, rfl⟩ | ⟨rfl, rfl⟩ <;> exact checked_of_false hdesc _

end Sys2Proof.Proofs
end

section
/-! SETTLES O16. Steps begin at their entries (R51, R167, R193, R195). -/
namespace Sys2Proof.Proofs
open Sys2Proof.Machine Sys2Proof.Machine.Claims Sys2Proof.Laws

variable {s t u : State}

/-! ### The wake of a domain that is awake -/

theorem outsideRegs_setDomain (s : State) (u st : Nat) : outsideRegs (setDomain s u st) = outsideRegs s := by
  have hfold : ∀ (f : State → Nat → State) (l : List Nat) (v : State), (∀ t j, outsideRegs (f t j) = outsideRegs t) →
      outsideRegs (l.foldl f v) = outsideRegs v := fun f l v h => outsideRegs_foldl f h l v
  unfold setDomain
  dsimp only
  split
  · rfl
  split
  · split
    · exact hfold _ _ _ fun t j => rfl
    · exact hfold _ _ _ fun t j => rfl
  · rfl

theorem csrKept_foldl {l : List Nat} {f : State → Nat → State} {js : List Nat} (h : CsrKept s t l)
    (hf : ∀ v j, j ∈ js → CsrKept s v l → CsrKept s (f v j) l) : CsrKept s (js.foldl f t) l := by
  induction js generalizing t with
  | nil => exact h
  | cons j js ih => exact ih (hf t j List.mem_cons_self h) fun v i hi => hf v i (List.mem_cons_of_mem _ hi)

/-- The registers that show the state of a core's domain or a cluster's. -/
def domainRegs (u : Nat) : List Nat :=
  PWR_DOMAIN u :: if u < 80 then [CORE_STATUS u] else (List.range 5).map (fun j => CORE_STATUS (5 * (u - 80) + j))

/-- A core's domain, or a cluster's, put in ELAND. -/
theorem csrKept_setDomain {u : Nat} (hu : u < 96) : CsrKept s (setDomain s u 0) (domainRegs u) := by
  have hshown := ((CsrKept.refl s (domainRegs u)).after_setF List.mem_cons_self PWR_DOMAIN_STATE 0).after_setF List.mem_cons_self
    PWR_DOMAIN_NEXT (match nextEvent (setF s (PWR_DOMAIN u) PWR_DOMAIN_STATE 0) u with | some x => x | none => 2 ^ 56 - 1)
  unfold setDomain
  dsimp only
  by_cases hcore : u < 80
  · rw [if_pos hcore]
    refine CsrKept.after_setF hshown (off := CORE_STATUS u) ?_ _ _
    rw [domainRegs, if_pos hcore]
    exact List.mem_cons_of_mem _ List.mem_cons_self
  · rw [if_neg hcore, if_pos hu, if_neg (by decide)]
    refine csrKept_foldl hshown fun v j hj hv => CsrKept.after_setF hv (off := CORE_STATUS (5 * (u - 80) + j)) ?_ _ _
    rw [domainRegs, if_neg hcore]
    exact List.mem_cons_of_mem _ (List.mem_map_of_mem hj)

/-- A wake of a domain that is awake writes registers alone. -/
theorem startWake_of_awake {u : Nat} (hu : u < 96) (hawake : awake s u = true) :
    CsrKept s (startWake s u) (domainRegs u) ∧ outsideRegs (startWake s u) = outsideRegs s := by
  have hstate : domState s u < 2 := of_decide_eq_true hawake
  unfold startWake
  split
  · exact ⟨CsrKept.refl s _, rfl⟩
  · rw [if_pos (by omega)]
    exact ⟨csrKept_setDomain hu, outsideRegs_setDomain ..⟩

/-- The wakes with which a step begins, on a core that is awake. -/
theorem coreWoken_effect {n : Nat} (hn : n < 80) (hawake : coreAwake s n = true) :
    CsrKept s (startWake (startWake s (80 + n / 5)) n) (domainRegs (80 + n / 5) ++ domainRegs n)
      ∧ outsideRegs (startWake (startWake s (80 + n / 5)) n) = outsideRegs s := by
  obtain ⟨hcore, hcluster⟩ := Bool.and_eq_true_iff.mp hawake
  obtain ⟨hkept, hout⟩ := startWake_of_awake (by omega) hcluster
  have hbeside : PWR_DOMAIN n ∉ domainRegs (80 + n / 5) := by
    rw [domainRegs, if_neg (by omega)]
    simp only [List.mem_cons, List.mem_map, List.mem_range, not_or, not_exists, not_and, PWR_DOMAIN, CORE_STATUS]
    exact ⟨by omega, fun j hj => by omega⟩
  have hcore' : awake (startWake s (80 + n / 5)) n = true := by
    unfold awake domState
    rw [hkept.getF_eq hbeside]
    exact hcore
  obtain ⟨hkept', hout'⟩ := startWake_of_awake (by omega) hcore'
  exact ⟨(hkept.mono (List.subset_append_left ..)).trans (hkept'.mono (List.subset_append_right ..)), hout'.trans hout⟩

/-! ### The beginning of a step (R193, R195) -/

theorem domainRegs_subset_beginRegs {n : Nat} (hn : n < 80) : domainRegs (80 + n / 5) ++ domainRegs n ⊆ beginRegs n := by
  intro o ho
  rw [domainRegs, domainRegs, if_neg (by omega), if_pos hn, Nat.add_sub_cancel_left] at ho
  simp only [beginRegs, List.mem_append, List.mem_cons, List.not_mem_nil, or_false] at ho ⊢
  tauto

/-- A slip that a late start counts (R51). -/
theorem slipIfLate_effect (s : State) (planned : Word) :
    CsrKept s (slipIfLate s 2 planned) [FTU_SLIP 2, FTU_SLIP_LAST]
      ∧ getF (slipIfLate s 2 planned) (FTU_SLIP 2) FTU_SLIP_COUNT
          = min (getF s (FTU_SLIP 2) FTU_SLIP_COUNT + if planned.toNat < (now s).toNat then 1 else 0) (2 ^ FTU_SLIP_COUNT.w - 1) := by
  unfold slipIfLate
  split
  · unfold slip
    dsimp only
    refine ⟨?_, ?_⟩
    · exact ((((CsrKept.refl s _).after_bump List.mem_cons_self _ _).after_setF (by simp) _ _).after_setF (by simp) _ _).after_setF
        (by simp) _ _
    · rw [getF_setF_other _ _ _ _ _ _ (by decide), getF_setF_other _ _ _ _ _ _ (by decide), getF_setF_other _ _ _ _ _ _ (by decide)]
      exact getF_bump_same _ _ _ _ (by decide)
  · refine ⟨CsrKept.refl s _, ?_⟩
    have := fget_lt FTU_SLIP_COUNT (reg s (FTU_SLIP 2))
    rw [Nat.add_zero, Nat.min_eq_left (by unfold getF; omega)]

/-- Core `c` as a step of entry `e` begins at `ft`, `late` slips of its own counted. -/
def stepCore (c : Core) (e : Nat) (d : EntryDef) (slot : BitVec 7) (token : Word) (late : Nat) (ft : Word) : Core :=
  { c with
    pc := d.pc, lastPc := d.pc, entry := BitVec.ofNat 16 e, slot := slot, token := token, step := c.step + 1,
    running := true, ended := false, trap := none, errPc := 0xFFFFFFFF#32, wait := none, nextNo := 0,
    flags := List.replicate 5 UnitFlags.clear, g0 := c.g, srPos0 := c.srPos, retries := 0,
    slips := late + c.owedSlips, owedSlips := 0, ftStart := ft, runStart := ft, heldAt := none, paths := [] }

/-- What the beginning of a step leaves: the core as the step begins, its slip counted, and no more than the registers that show
its state. -/
structure StepBegun (s t : State) (n : Nat) (c : Core) (late : Nat) : Prop where
  core : Machine.core t n = c
  kept : CoresKept s t [n]
  state : getF t (CORE_STATUS n) CORE_STATUS_STATE = 3
  count : getF t (FTU_SLIP 2) FTU_SLIP_COUNT = min (getF s (FTU_SLIP 2) FTU_SLIP_COUNT + late) (2 ^ FTU_SLIP_COUNT.w - 1)
  csr : CsrKept s t (beginRegs n)
  frame : { t with cores := s.cores, csr := s.csr } = s

/-- A start later than planned. -/
def lateStart (s : State) (planned : Word) : Nat := if planned.toNat < (now s).toNat then 1 else 0

/-- A slip of the slot that awaits the step of a token. -/
def slotSlip (s : State) (slot : Nat) (token : Word) : Nat := b2n ((slotQueue s slot).late.contains token.toNat && slot < 64)

theorem beginStep_begun {n e : Nat} {d : EntryDef} (hn : n < 80)
    (hentry : (imageOf s (Machine.core s n).job.toNat).bind (fun i => i.entries[e]?) = some d) (hawake : coreAwake s n = true)
    (planned : Word) (slot : Nat) (token : Word) :
    StepBegun s (beginStep s n e planned slot token) n
      (stepCore (Machine.core s n) e d (BitVec.ofNat 7 slot) token (lateStart s planned + slotSlip s slot token) (now s))
      (lateStart s planned) := by
  obtain ⟨hwokenCsr, hwokenOut⟩ := coreWoken_effect hn hawake
  unfold beginStep
  rw [hentry]
  dsimp only
  generalize startWake (startWake s (80 + n / 5)) n = v at hwokenCsr hwokenOut
  obtain ⟨hslipCsr, hcount⟩ := slipIfLate_effect v planned
  have hout : outsideRegs (slipIfLate v 2 planned) = outsideRegs s := (outsideRegs_slipIfLate v 2 planned).trans hwokenOut
  have hnowv : now v = now s := (congrArg now hwokenOut :)
  generalize slipIfLate v 2 planned = w at hslipCsr hcount hout
  have hcorew : ∀ m, Machine.core w m = Machine.core s m := fun m => (congrArg (Machine.core · m) hout :)
  have hnow : now w = now s := (congrArg now hout :)
  have hslot : slotQueue w slot = slotQueue s slot := (congrArg (slotQueue · slot) hout :)
  have hcsr : CsrKept s w (beginRegs n) :=
    (hwokenCsr.mono (domainRegs_subset_beginRegs hn)).trans (hslipCsr.mono (by intro o; simp [beginRegs]; tauto))
  have hfree : FTU_SLIP 2 ∉ domainRegs (80 + n / 5) ++ domainRegs n := by
    rw [domainRegs, domainRegs, if_neg (by omega), if_pos hn]
    simp only [List.mem_append, List.mem_cons, List.mem_map, List.not_mem_nil, or_false, not_or, not_exists, not_and, FTU_SLIP, PWR_DOMAIN,
      CORE_STATUS]
    exact ⟨⟨by omega, fun j _ => by omega⟩, by omega, by omega⟩
  refine ⟨?_, fun m hm => ?_, ?_, ?_, ?_, ?_⟩
  · unfold coreState
    rw [core_setF, core_setCore_same, hcorew, hnow, hslot, stepCore, lateStart, slotSlip, Nat.add_right_comm]
    rfl
  · unfold coreState
    rw [core_setF, core_setCore_other _ _ _ _ (by simpa using hm), hcorew]
  · exact getF_setF_same _ _ _ _ (by decide)
  · unfold coreState
    rw [getF_setF_other _ _ _ _ _ _ (by simp only [FTU_SLIP, CORE_STATUS]; omega), ← hwokenCsr.getF_eq hfree, lateStart, ← hnowv]
    exact hcount
  · exact CsrKept.after_setF (hcsr.of_csr_eq rfl) (by simp [beginRegs]) _ _
  · exact (congrArg (fun x : State => { x with cores := s.cores, csr := s.csr }) hout :)

theorem StepBegun.now_eq {n k : Nat} {c : Core} (h : StepBegun s t n c k) : now t = now s := (congrArg now h.frame :)

theorem StepBegun.began {n e k late : Nat} {d : EntryDef} {slot : BitVec 7} {token : Word}
    (h : StepBegun s t n (stepCore (Machine.core s n) e d slot token late (now s)) k) : Began s t n e d slot token late := by
  refine ⟨?_, h.state, h.kept⟩
  rw [h.core, h.now_eq]
  rfl

/-! ### STEP_START (R193, R49) -/

theorem dropFired_eq_erase (x : Fired) (l : List Fired) : dropFired x l = l.erase x := by
  induction l with
  | nil => rfl
  | cons y ys ih => rw [dropFired, List.erase_cons, ih]; simp only [beq_iff_eq]

/-- A fired action has left the line, at the instant it is due. -/
def actionTaken (s : State) (x : Fired) : State :=
  advanceTo { s with ftu := { s.ftu with fired := s.ftu.fired.erase x } } x.due

theorem tookEffect_of_ftu {x : Fired} (h : t.ftu = (actionTaken s x).ftu) : TookEffect s t x := by
  unfold TookEffect
  rw [h]
  exact ⟨rfl, rfl, rfl⟩

theorem action_of_firedNext {n : AlarmId} {action : Nat} {x : Fired} (h : firedNext s n action = some x) : x.action.toNat = action := by
  unfold firedNext at h
  split at h
  · cases h
  · rename_i y hfind
    split at h
    · cases h
    · cases h
      have := List.find?_some hfind
      simp only [Bool.and_eq_true, beq_iff_eq] at this
      exact this.2

/-- A fired action whose index names a destination takes effect. -/
theorem act_of_firedNext {n : AlarmId} {action : Nat} {x : Fired} (hrun : running s = true) (hnext : firedNext s n action = some x)
    (hrange : x.index.toNat < alarmRange action) (k : State → Fired → State) : act s n action k = k (actionTaken s x) x := by
  have hunit : x.unit.isSome = true := by
    unfold Fired.unit
    rw [action_of_firedNext hnext]
    dsimp only
    rw [if_neg (by omega)]
    split <;> rfl
  unfold act
  rw [if_pos hrun, hnext]
  dsimp only
  rw [dropFired_eq_erase, if_pos hunit]
  rfl

/-- The instant for which a STEP_START was planned: a delay at a waking domain is not counted again. -/
def startPlanned (s : State) (x : Fired) : Word := if x.met = true then now (actionTaken s x) else x.target

theorem lateStart_startPlanned (x : Fired) :
    lateStart (actionTaken s x) (startPlanned s x)
      = if x.met = false ∧ x.target.toNat < (now (actionTaken s x)).toNat then 1 else 0 := by
  unfold lateStart startPlanned
  cases x.met
  · simp
  · simp

theorem exec_stepStart {n : AlarmId} {x : Fired} {c e : Nat} (hrun : running s = true) (hnext : firedNext s n 6 = some x)
    (hrange : x.index.toNat < 64) (hcore : coreOf s x.index.toNat = some c)
    (htied : tiedEntry s (Machine.core s c).job.toNat n = some e) :
    exec (.stepStart n) s = .next (entryDue (actionTaken s x) c e (startPlanned s x)) := by
  have hcore' : coreOf (actionTaken s x) x.index.toNat = some c := hcore
  have htied' : tiedEntry (actionTaken s x) (Machine.core (actionTaken s x) c).job.toNat n = some e := htied
  show Host.Outcome.next _ = _
  rw [act_of_firedNext hrun hnext hrange, hcore']
  dsimp only
  rw [htied']
  rfl

theorem stepStart_begins {n : AlarmId} {x : Fired} {c e : Nat} {d : EntryDef} (hc : c < 80) (hrun : running s = true)
    (hnext : firedNext s n 6 = some x) (hrange : x.index.toNat < 64) (hcore : coreOf s x.index.toNat = some c)
    (htied : tiedEntry s (Machine.core s c).job.toNat n = some e)
    (hentry : (imageOf s (Machine.core s c).job.toNat).bind (fun i => i.entries[e]?) = some d) (hawake : coreAwake s c = true)
    (hmay : mayBegin s c = true) (hdue : (Machine.core s c).dueEntries = []) :
    ∃ t, exec (.stepStart n) s = .next t ∧ StepBegun (actionTaken s x) t c
      (stepCore (Machine.core s c) e d 0x40#7 0 (lateStart (actionTaken s x) (startPlanned s x)) (now (actionTaken s x)))
      (lateStart (actionTaken s x) (startPlanned s x)) := by
  have hmay' : mayBegin (actionTaken s x) c = true := hmay
  have hawake' : coreAwake (actionTaken s x) c = true := hawake
  have hdue' : (Machine.core (actionTaken s x) c).dueEntries = [] := hdue
  have hbegun := beginStep_begun (s := actionTaken s x) hc hentry hawake (startPlanned s x) 0x40 0
  have hslip : slotSlip (actionTaken s x) 0x40 0 = 0 := by simp [slotSlip, b2n]
  rw [hslip, Nat.add_zero] at hbegun
  refine ⟨_, ?_, hbegun⟩
  rw [exec_stepStart hrun hnext hrange hcore htied, entryDue, hmay', hawake', hdue']
  rfl

/-- On a core that may not begin a step the entry waits. -/
theorem stepStart_waits {n : AlarmId} {x : Fired} {c e : Nat} (hrun : running s = true) (hnext : firedNext s n 6 = some x)
    (hrange : x.index.toNat < 64) (hcore : coreOf s x.index.toNat = some c)
    (htied : tiedEntry s (Machine.core s c).job.toNat n = some e) (hawake : coreAwake s c = true) (hmay : mayBegin s c = false) :
    exec (.stepStart n) s = .next (setCore (actionTaken s x) c { Machine.core s c with
      dueEntries := (Machine.core s c).dueEntries ++ [(BitVec.ofNat 16 e, startPlanned s x)] }) := by
  have hmay' : mayBegin (actionTaken s x) c = false := hmay
  have hawake' : coreAwake (actionTaken s x) c = true := hawake
  rw [exec_stepStart hrun hnext hrange hcore htied, entryDue, hmay', hawake']
  rfl

/-! ### SLOT_ENTRY (R193, R167) -/

theorem slotSlip_eq (s : State) (k : BitVec 6) (token : Word) :
    slotSlip s k.toNat token = if (slotQueue s k.toNat).late.contains token.toNat = true then 1 else 0 := by
  rw [slotSlip, decide_eq_true k.isLt, Bool.and_true]
  rfl

theorem slotEntry_begins {l : LCore} {c e : Nat} {d : EntryDef} (hc : c < 80) (hcore : coreOf s l = some c)
    (hmay : mayBegin s c = true) (hawake : coreAwake s c = true)
    (hslot : slotEntryOf s (Machine.core s c).job.toNat l = some (e, d))
    (hentry : (imageOf s (Machine.core s c).job.toNat).bind (fun i => i.entries[e]?) = some d) :
    ∃ v, exec (.slotEntry l) s = .next (setCore v c { Machine.core v c with nextToken := (Machine.core s c).nextToken + 1 })
      ∧ StepBegun s v c (stepCore (Machine.core s c) e d (d.slot.setWidth 7) (Machine.core s c).nextToken
          (lateStart s ((Machine.core s c).heldAt.getD (now s)) + slotSlip s d.slot.toNat (Machine.core s c).nextToken) (now s))
        (lateStart s ((Machine.core s c).heldAt.getD (now s))) := by
  have hbegun := beginStep_begun hc hentry hawake ((Machine.core s c).heldAt.getD (now s)) d.slot.toNat (Machine.core s c).nextToken
  rw [show BitVec.ofNat 7 d.slot.toNat = d.slot.setWidth 7 from BitVec.eq_of_toNat_eq (by simp)] at hbegun
  refine ⟨_, ?_, hbegun⟩
  show Host.Outcome.next _ = _
  rw [hcore]
  dsimp only
  rw [hmay, hawake, Bool.true_and, if_pos rfl, hslot]

/-- Settles O16: the beginning of a step for an alarm and for a token, and the wait of an entry whose core may not begin one. -/
theorem stepsBeginAtTheirEntries : Obligations.StepsBeginAtTheirEntries := by
  intro s c hrun hc
  refine ⟨fun n x e d hnext hrange hcore htied hentry hawake => ⟨fun hmay hdue => ?_, fun hmay => ?_⟩,
    fun l e d hcore hmay hawake hslot hentry => ?_⟩
  · obtain ⟨t, hexec, hbegun⟩ := stepStart_begins hc hrun hnext hrange hcore htied hentry hawake hmay hdue
    have hlate := lateStart_startPlanned (s := s) x
    rw [← hbegun.now_eq] at hlate
    rw [hlate] at hbegun
    refine ⟨t, hexec, tookEffect_of_ftu (congrArg State.ftu hbegun.frame :), hbegun.began, ?_, ?_, hbegun.count, hbegun.csr, ?_⟩
    · rw [hbegun.core]
      exact hdue
    · rw [hbegun.core]
      rfl
    · exact (congrArg (fun v : State => { v with ftu := s.ftu }) hbegun.frame :)
  · refine ⟨_, stepStart_waits hrun hnext hrange hcore htied hawake hmay, tookEffect_of_ftu rfl, core_setCore_same .., fun m hm => ?_, rfl⟩
    exact core_setCore_other _ _ _ _ (by simpa using hm)
  · obtain ⟨v, hexec, hbegun⟩ := slotEntry_begins hc hcore hmay hawake hslot hentry
    rw [slotSlip_eq] at hbegun
    obtain ⟨hcoreBegun, hstate, hkept⟩ := hbegun.began
    refine ⟨_, hexec, ⟨?_, hstate, fun m hm => ?_⟩, ?_, ?_, hbegun.csr.of_csr_eq rfl, hbegun.frame⟩
    · rw [core_setCore_same]
      exact hcoreBegun
    · rw [core_setCore_other _ _ _ _ (by simpa using hm)]
      exact hkept m hm
    · rw [core_setCore_same]
    · rw [core_setCore_same, hbegun.core]
      rfl

end Sys2Proof.Proofs
end

section
/-! REFUTES O17. The step record (Table 7.10) holds RETRIES in bits 17:16 of its word 4 and ERR_PC in bits 63:32, and `stepRecord`
adds the count of retries without cutting it to its field. The statement bounds no core's count, and one of 65,536 reaches ERR_PC.
R195 allows two retries, so no run of the model comes to such a count: what is missing is that premise. -/
namespace Sys2Proof.Proofs
open Sys2Proof.Machine Sys2Proof.Machine.Claims Sys2Proof.Laws

/-- An image of one SLOT-free entry that reports its steps. -/
def reportingImage : Image :=
  { code := [], seed := 0, stepLimit := 0, hasV := false, fpReq := false,
    entries := [{ lcore := 0, kind := 0, retry := false, report := true, slot := 0, pc := 0, schedRef := 0xFFFFFFFF }],
    events := [], gates := [], leaves := [], raw := [], job := 1, objs := [], slots := [], cores := [0], alarms := [] }

/-- Job 1 runs that image, and its completions go to ring 0. -/
def reportingJob : Job :=
  { cq := 0, vcEn := 0, index := 0, rank := 0, rttBase := 0, rttCount := 0, circuits := [], regions := [],
    image := some reportingImage, next := none, flowNext := [], cores := [0], restartFt := 0, timing := [] }

/-- Core 0 has ended a step of job 1 with 65,536 retries behind it and ERR_PC 0, while a poll of ring 0 runs. -/
def retriedS : State :=
  { State.reset with
    boot := { State.reset.boot with porst := false, perst := false, up := true, opened := true, pcieUp := true }
    cores := [(0, { Core.init with job := 1, running := true, ended := true, errPc := 0, retries := 65536 })]
    jobs := [(1, reportingJob)]
    qrings := [(0, { head := 0, waiting := [], uncovered := 0, holdFirst := none, polling := true, full := false })] }

/-- The record of the step of `retriedS`, in line for ring 0, names ERR_PC 1. -/
theorem retriedS_record_errPc :
    (match exec (.stepCompletion 0) retriedS with
      | .next t => (qring t 0).waiting.map (fun c => (wordAt c.body 4).extractLsb' 32 32)
      | _ => []) = [1] := by decide +kernel

/-- The step of `retriedS` has ended with nothing outstanding, and its entry reports. -/
theorem retriedS_meets :
    running retriedS = true ∧ (Machine.core retriedS 0).running = true ∧ quietCore (Machine.core retriedS 0) = true
      ∧ (Machine.core retriedS 0).dueEntries = [] ∧ (Machine.core retriedS 0).trap = none ∧ (Machine.core retriedS 0).ended = true
      ∧ entryOf retriedS 0 = reportingImage.entries[0]? ∧ job retriedS (Machine.core retriedS 0).job.toNat = some reportingJob
      ∧ (Machine.core retriedS 0).errPc = 0 ∧ (qring retriedS 0).polling = true ∧ (qring retriedS 0).waiting = [] := by
  (repeat' apply And.intro) <;> decide +kernel

/-- Refutes O17: the record of a step that has ended names the core's ERR_PC, says its clause; that of `retriedS` names 1, where
the core's is 0. -/
theorem not_stepsEndOrAreRetried : ¬ Obligations.StepsEndOrAreRetried := by
  rintro ⟨hends, _⟩
  obtain ⟨hrun, hstep, hquiet, hdue, htrap, hended, hentry, hjob, herr, hpoll, hempty⟩ := retriedS_meets
  obtain ⟨t, hexec, _, _, _, _, _, _, hrecord, _⟩ := hends 0 retriedS hrun hstep hquiet hdue (fun a ha => nomatch ha) 0 0
    (Or.inl ⟨htrap, hended, rfl, rfl⟩)
  obtain ⟨r, ⟨_, hlined⟩, _, _, _, _, _, _, _, _, _, _, _, hrecErr, _⟩ := hrecord _ _ hentry (Or.inl rfl) hjob
  have hshown := retriedS_record_errPc
  rw [hexec] at hshown
  dsimp only at hshown
  rw [show (qring t 0).waiting = (qring retriedS 0).waiting ++ [r] from hlined hpoll, hempty, List.nil_append, List.map_singleton] at hshown
  have hone : (wordAt r.body 4).extractLsb' 32 32 = 1 := List.singleton_inj.mp hshown
  rw [hrecErr, show (Machine.core retriedS ((0 : CoreId) : Nat)).errPc = 0 from herr] at hone
  exact absurd hone (by decide)

end Sys2Proof.Proofs
end

section
/-! REFUTES O43. A LOAD that fails keeps the objects, says the statement (`Fails`); its completion goes to a ring behind the entries
that already wait there, and an entry that is written signals its object (R123, R394). -/
namespace Sys2Proof.Proofs
open Sys2Proof.Machine Sys2Proof.Machine.Claims Sys2Proof.Laws

/-- A LOAD for job 1 of an image of no bytes. -/
def emptyLoad : CmdEntry := { index := 0, words := [5 + 1 * 2 ^ 16] }

/-- The record of a launch, whose writing adds 1 to object 5. -/
def launchRecord : Cpl := { kind := 1, cmdRing := 0, cmdIndex := 0, job := 1, body := [], signal := some (5, 1) }

/-- QID 0 holds job 1. -/
def heldJob1 : Qid :=
  { ring := 0, index := 0, tag := 0, jobs := [1], portMap := 0, internal := false, restartFt := 0, group := [], since := 0, stopped := [] }

/-- Job 1 is quiesced, its LOAD stands at the front of command ring 0, and in completion ring 0, enabled and with room, the record
of a launch waits. -/
def signalWaitsS : State :=
  { State.reset with
    boot := { State.reset.boot with porst := false, perst := false, up := true, opened := true, pcieUp := true }
    csr := [(HIF_QR_CTRL 0, 1 + 3 * 2 ^ 1), (PUP_QER 0, 2)]
    jobs := [(1, reportingJob)]
    qids := [(0, heldJob1)]
    crings := [(0, { queue := [emptyLoad], fetchAt := none, fetching := none, again := none, serial := false, point := 0 })]
    qrings := [(0, { head := 0, waiting := [launchRecord], uncovered := 0, holdFirst := none, polling := false, full := false })] }

/-- The LOAD of `signalWaitsS` fails, and object 5 has received 1. -/
theorem signalWaitsS_signals :
    (match exec (.load 0 (some []) ⟨false, false, false, false⟩ 0 []) signalWaitsS with
      | .next t => (obj t 5).count
      | _ => 0) = 1 := by decide +kernel

/-- The LOAD of `signalWaitsS` keeps the form of Table 15.3 and names an admitted, quiesced job. -/
theorem signalWaitsS_meets :
    AtFront signalWaitsS 0 emptyLoad ∧ (wordAt emptyLoad.words 0).toNat % 2 ^ 8 = 5 ∧ FormOk emptyLoad [2, 3]
      ∧ bits (wordAt emptyLoad.words 3).toNat 31 1 = 0 ∧ profile [] ≠ 1 ∧ job signalWaitsS (jobOfEntry emptyLoad) = some reportingJob
      ∧ jobQuiesced signalWaitsS (jobOfEntry emptyLoad) = true ∧ bit (wordAt emptyLoad.words 3).toNat 0 = false
      ∧ bits (wordAt emptyLoad.words 3).toNat 63 32 < 256 ∧ (obj signalWaitsS 5).count = 0 := by
  refine ⟨⟨by decide +kernel, by decide +kernel⟩, by decide, ⟨by decide, by decide, fun i hi h2 h3 => ?_⟩, ?_⟩
  · interval_cases i <;> rfl
  · (repeat' apply And.intro) <;> decide +kernel

/-- Refutes O43: the LOAD of `signalWaitsS`, of an image shorter than a header, ends with status 1 as R191 says, and the record that
waited before its completion signals object 5. -/
theorem not_loadsCheckAndBindTheirImages : ¬ Obligations.LoadsCheckAndBindTheirImages := by
  rintro ⟨_, hload⟩
  obtain ⟨hfront, htype, hform, hword, hprofile, hjob, hquiesced, hhost, hshort, hcount⟩ := signalWaitsS_meets
  obtain ⟨_, _, _, hfails⟩ := hload 0 signalWaitsS emptyLoad _ ⟨false, false, false, false⟩ 0 [] hfront rfl htype hform hword
  obtain ⟨hfailsShort, _⟩ := hfails reportingJob [] _ (fun h => absurd h hprofile) hjob hquiesced hhost rfl
  obtain ⟨t, hexec, _, _, _, _, hobjs, _⟩ := hfailsShort hshort
  have hsignalled := signalWaitsS_signals
  rw [hexec] at hsignalled
  dsimp only at hsignalled
  rw [obj, hobjs] at hsignalled
  exact absurd (hcount.symm.trans hsignalled) (by decide)

end Sys2Proof.Proofs
end

section
/-! SUPPORT. What a scalar instruction leaves that issues (R209, R210): its unit's registers, index and counts, and the rest. -/
namespace Sys2Proof.Proofs
open Sys2Proof.Machine Sys2Proof.Machine.Claims Sys2Proof.Laws

variable {s t : State} {u : ZsUnit} {k : Nat}

theorem issue_takes (hissue : canIssue s u = true) (f : State → State) : issue s u false f = f (issued s u) := by
  cases u with
  | core n => exact issueCore_takes hissue f
  | pup p =>
    obtain ⟨hready, hcode⟩ := Bool.and_eq_true_iff.mp hissue
    exact issue_pup_ready s p false f hready hcode

theorem running_of_canIssue (hissue : canIssue s u = true) : running s = true := by
  cases u with
  | core n => simp only [canIssue, coreReady, Bool.and_eq_true] at hissue; exact hissue.1.1.1.1.1
  | pup p => simp only [canIssue, pupReady, Bool.and_eq_true] at hissue; exact hissue.1.1.1.1

/-! ### The frame of an instruction -/

/-- A bump of the ISSUE count, read as one field of its register. -/
theorem reg_chargeIssue (s : State) (n : CoreId) (k : Nat) :
    reg (chargeIssue s n k) (CORE_CNT_ISSUE n) = fset CORE_CNT_ISSUE_COUNT (reg s (CORE_CNT_ISSUE n))
      (min (getF s (CORE_CNT_ISSUE n) CORE_CNT_ISSUE_COUNT + k) (2 ^ 48 - 1)) :=
  reg_setReg_same ..

theorem unitFrame_issued (s : State) (u : ZsUnit) : UnitFrame s (issued s u) u 1 := by
  cases u with
  | core n =>
    refine ⟨rfl, fun m hm => issued_core_other s n m (by simpa using hm), fun o ho => issued_reg_other s n o (by simpa using ho),
      reg_chargeIssue _ n 1, ?_, ?_⟩ <;> rw [issued_core]
  | pup p =>
    have hpup : pup (issued s (.pup p)) p = { pup s p with trace := ((pup s p).pc :: (pup s p).trace).take 1024 } := pup_setPup_same ..
    refine ⟨rfl, fun m hm => pup_setPup_other _ _ _ _ (by simpa using hm), ?_, ?_⟩ <;> rw [hpup]

/-- A core's registers and its program index lie outside the frame. -/
theorem unitFrame_setCore {n : CoreId} (h : UnitFrame s t (.core n) k) (g : Vector Word 32) (x : BitVec 32) :
    UnitFrame s (setCore t n { Machine.core t n with g := g, pc := x }) (.core n) k := by
  obtain ⟨hframe, hcores, hcsr, hcount, hcore, hlast⟩ := h
  refine ⟨hframe, fun m hm => ?_, hcsr, hcount, ?_, ?_⟩
  · exact (core_setCore_other _ _ _ _ (by simpa using hm)).trans (hcores m hm)
  · rw [core_setCore_same]
    exact hcore
  · rw [core_setCore_same]
    exact hlast

theorem unitFrame_setPup {p : PupId} (h : UnitFrame s t (.pup p) k) (g : Vector Word 32) (x : BitVec 32) :
    UnitFrame s (setPup t p { pup t p with g := g, pc := x }) (.pup p) k := by
  obtain ⟨hframe, hpups, hpup, htrace⟩ := h
  refine ⟨hframe, fun m hm => ?_, ?_, ?_⟩
  · exact (pup_setPup_other _ _ _ _ (by simpa using hm)).trans (hpups m hm)
  · rw [pup_setPup_same]
    exact hpup
  · rw [pup_setPup_same]
    exact htrace

theorem unitFrame_setG (h : UnitFrame s t u k) (d : GReg) (v : Word) : UnitFrame s (setG t u d v) u k := by
  cases u with
  | core n => exact unitFrame_setCore h (regWrite (Machine.core t n).g d v) (Machine.core t n).pc
  | pup p => exact unitFrame_setPup h (regWrite (pup t p).g d v) (pup t p).pc

theorem unitFrame_setPc (h : UnitFrame s t u k) (x : BitVec 32) : UnitFrame s (setPc t u x) u k := by
  cases u with
  | core n => exact unitFrame_setCore h (Machine.core t n).g x
  | pup p => exact unitFrame_setPup h (pup t p).g x

/-- A taken transfer charges two further periods (R214). -/
theorem unitFrame_transferGap (h : UnitFrame s t u 1) : UnitFrame s (transferGap t u) u 3 := by
  cases u with
  | core n =>
    obtain ⟨hframe, hcores, hcsr, hcount, hcore, hlast⟩ := h
    refine ⟨hframe, hcores, hcsr.after_bump (by simp) _ _, ?_, hcore, hlast⟩
    have hlt : min (getF s (CORE_CNT_ISSUE n) CORE_CNT_ISSUE_COUNT + 1) (2 ^ 48 - 1) < 2 ^ CORE_CNT_ISSUE_COUNT.w := by
      rw [show CORE_CNT_ISSUE_COUNT.w = 48 from rfl]
      omega
    have hread : getF t (CORE_CNT_ISSUE n) CORE_CNT_ISSUE_COUNT = min (getF s (CORE_CNT_ISSUE n) CORE_CNT_ISSUE_COUNT + 1) (2 ^ 48 - 1) := by
      rw [getF, hcount, fget_fset_same _ _ _ (by decide), Nat.mod_eq_of_lt hlt]
    rw [transferGap, reg_chargeIssue, hread, hcount, fset_fset]
    congr 1
    omega
  | pup p => exact h

@[simp] theorem getG_transferGap (t : State) (u : ZsUnit) (r : GReg) : getG (transferGap t u) u r = getG t u r := by cases u <;> rfl
@[simp] theorem getPc_transferGap (t : State) (u : ZsUnit) : getPc (transferGap t u) u = getPc t u := by cases u <;> rfl

/-! ### Instructions that write a register, and those that set the index -/

/-- The result of an instruction in the state at its issue. -/
theorem wrote_retire (s : State) (u : ZsUnit) (d : GReg) (v : Word) (k : Nat) : Wrote s (retire (issued s u) u d v k) u d v k := by
  refine ⟨fun r => ?_, ?_, unitFrame_setPc (unitFrame_setG (unitFrame_issued s u) d _) _⟩
  · rw [getG_retire, getG_issued]
  · rw [getPc_retire, getPc_issued]

/-- An instruction that issues and writes one register (R210). -/
theorem wrote_of_retire (hissue : canIssue s u = true) (d : GReg) (v : State → Word) (k : Nat) :
    Wrote s (issue s u false (fun s => retire s u d (v s) k)) u d (v (issued s u)) k := by
  rw [issue_takes hissue]
  exact wrote_retire ..

/-- The program index set on a state that differs from the one at issue in the unit's index and counts alone. -/
theorem jumped_setPc (s : State) (u : ZsUnit) (x : BitVec 32) : Jumped s (setPc (issued s u) u x) u x 1 :=
  ⟨fun r => by rw [getG_setPc, getG_issued], getPc_setPc .., unitFrame_setPc (unitFrame_issued s u) x⟩

theorem jumped_advance (s : State) (u : ZsUnit) : Jumped s (advance (issued s u) u 1) u (getPc s u + 1) 1 := by
  rw [advance, getPc_issued]
  exact jumped_setPc ..

theorem jumped_transferGap {x : BitVec 32} (h : Jumped s t u x 1) : Jumped s (transferGap t u) u x 3 := by
  obtain ⟨hregs, hpc, hframe⟩ := h
  exact ⟨fun r => by rw [getG_transferGap, hregs r], by rw [getPc_transferGap, hpc], unitFrame_transferGap hframe⟩

end Sys2Proof.Proofs
end

section
/-! SETTLES O2. ALU and ALUL (R211, R212, Table 8.2). -/
namespace Sys2Proof.Proofs
open Sys2Proof.Machine Sys2Proof.Machine.Claims Sys2Proof.Laws

/-! ### The functions of Table 8.2 on words -/

theorem word_shiftLeft_eq (a : Word) (k : Nat) : a <<< k = BitVec.ofNat 64 (a.toNat * 2 ^ k) := by
  apply BitVec.eq_of_toNat_eq
  rw [BitVec.toNat_shiftLeft, BitVec.toNat_ofNat, Nat.shiftLeft_eq]

theorem word_shiftRight_eq (a : Word) (k : Nat) : a >>> k = BitVec.ofNat 64 (a.toNat / 2 ^ k) := by
  apply BitVec.eq_of_toNat_eq
  rw [BitVec.toNat_ushiftRight, BitVec.toNat_ofNat, Nat.shiftRight_eq_div_pow,
    Nat.mod_eq_of_lt (Nat.lt_of_le_of_lt (Nat.div_le_self ..) a.isLt)]

theorem word_sshiftRight_eq (a : Word) (k : Nat) : a.sshiftRight k = BitVec.ofInt 64 (a.toInt / 2 ^ k) := by
  rw [BitVec.sshiftRight, Int.shiftRight_eq_div_pow]
  norm_cast

theorem b2w_slt (a b : Word) : b2w (a.slt b) = if a.toInt < b.toInt then 1 else 0 := by
  simp [b2w, BitVec.slt]

theorem b2w_ult (a b : Word) : b2w (a.ult b) = if a.toNat < b.toNat then 1 else 0 := by
  simp [b2w, BitVec.ult]

/-- The lower and the higher of two words in an order that tells them apart, decided by `<` or by `≤`. -/
theorem choose_lt_eq_le {α : Type} [LinearOrder α] {f : Word → α} (hf : Function.Injective f) (a b : Word) {lt : Bool}
    (hlt : lt = decide (f a < f b)) :
    (if lt then a else b) = (if f a ≤ f b then a else b) ∧ (if lt then b else a) = (if f a ≤ f b then b else a) := by
  subst hlt
  rcases lt_trichotomy (f a) (f b) with h | h | h
  · simp [h, h.le]
  · simp [hf h]
  · simp [h.not_gt, h.not_ge]

theorem word_mul_eq (a b : Word) : a * b = BitVec.ofInt 64 (a.toInt * b.toInt) := by
  rw [BitVec.ofInt_mul, BitVec.ofInt_toInt, BitVec.ofInt_toInt]

theorem word_sdiv_eq (a b : Word) : a.sdiv b = BitVec.ofInt 64 (a.toInt.tdiv b.toInt) := by
  apply BitVec.eq_of_toInt_eq
  rw [BitVec.toInt_sdiv, BitVec.toInt_ofInt]

theorem divS_eq (a b : Word) : divS a b = if b = 0 then 0 else BitVec.ofInt 64 (a.toInt.tdiv b.toInt) := by
  rw [divS, word_sdiv_eq]

theorem divU_eq (a b : Word) : divU a b = if b = 0 then 0 else BitVec.ofNat 64 (a.toNat / b.toNat) := by
  rw [divU, ← BitVec.toNat_udiv, BitVec.ofNat_toNat, BitVec.setWidth_eq]

/-- A remainder is what the quotient leaves of the dividend. -/
theorem remS_eq (a b : Word) : remS a b = if b = 0 then a else BitVec.ofInt 64 (a.toInt.tmod b.toInt) := by
  rw [remS, divS]
  split
  · rfl
  · calc a - b * a.sdiv b
        = BitVec.ofInt 64 (b.toInt * a.toInt.tdiv b.toInt + a.toInt.tmod b.toInt) - b * a.sdiv b := by
          rw [Int.mul_tdiv_add_tmod, BitVec.ofInt_toInt]
      _ = _ := by
          rw [BitVec.ofInt_add, BitVec.ofInt_mul, BitVec.ofInt_toInt, ← word_sdiv_eq, BitVec.add_comm, BitVec.add_sub_cancel]

theorem remU_eq (a b : Word) : remU a b = if b = 0 then a else BitVec.ofNat 64 (a.toNat % b.toNat) := by
  rw [remU, divU]
  split
  · rfl
  · calc a - b * (a / b)
        = BitVec.ofNat 64 (b.toNat * (a.toNat / b.toNat) + a.toNat % b.toNat) - b * (a / b) := by
          rw [Nat.div_add_mod, BitVec.ofNat_toNat, BitVec.setWidth_eq]
      _ = _ := by
          rw [BitVec.ofNat_add, BitVec.ofNat_mul, ← BitVec.toNat_udiv, BitVec.ofNat_toNat, BitVec.ofNat_toNat, BitVec.setWidth_eq,
            BitVec.setWidth_eq, BitVec.add_comm, BitVec.add_sub_cancel]

/-- What the model computes is what the table says. -/
theorem aluFn_of_mem : ∀ e ∈ aluTable, ∀ a b, aluFn e.1 a b = e.2 a b := by
  have hsigned := fun a b : Word => choose_lt_eq_le (f := BitVec.toInt) (fun _ _ => BitVec.eq_of_toInt_eq) a b (lt := a.slt b) rfl
  have hunsigned := fun a b : Word => choose_lt_eq_le (f := BitVec.toNat) (fun _ _ => BitVec.eq_of_toNat_eq) a b (lt := a.ult b) rfl
  simp only [aluTable, List.forall_mem_cons, List.not_mem_nil, false_implies, implies_true, and_true]
  exact ⟨fun _ _ => rfl, fun _ _ => rfl, fun _ _ => rfl, fun _ _ => rfl, fun _ _ => rfl,
    fun a b => word_shiftLeft_eq a (b.toNat % 64), fun a b => word_shiftRight_eq a (b.toNat % 64),
    fun a b => word_sshiftRight_eq a (b.toNat % 64), b2w_slt, b2w_ult,
    fun a b => (hsigned a b).1, fun a b => (hsigned a b).2, fun a b => (hunsigned a b).1, fun a b => (hunsigned a b).2,
    word_mul_eq, fun _ _ => rfl, fun _ _ => rfl, divS_eq, divU_eq, remS_eq, remU_eq⟩

theorem aluTable_codes : aluTable.map Prod.fst = aluFuncs := rfl

/-- Settles O2: the functions of the table, and FUNC against the lists that the loader accepts. -/
theorem aluFunctionsFollowTheTable : Obligations.AluFunctionsFollowTheTable := by
  intro u gd ga gb s hissue
  have haccept : ∀ {l : List Nat} {k : Nat} {t : State}, k ∈ l → checked (l.contains k) t = .next t :=
    fun h => if_pos (List.contains_iff_mem.mpr h)
  have hrefuse : ∀ {l : List Nat} {k : Nat} {t : State}, k ∉ l → checked (l.contains k) t = .refused .illFormed :=
    fun h => if_neg fun hin => h (List.contains_iff_mem.mp hin)
  refine ⟨fun func f hf => ⟨_, haccept (aluTable_codes ▸ List.mem_map_of_mem hf), ?_⟩,
    fun func hfunc => hrefuse (aluTable_codes ▸ hfunc), fun func imm f hf hfunc => ⟨_, haccept hfunc, ?_⟩,
    fun func imm hfunc => hrefuse hfunc⟩
  · have hwrote := wrote_of_retire hissue gd (fun s => aluFn func.toNat (getG s u ga) (getG s u gb)) 1
    rw [aluFn_of_mem _ hf, getG_issued, getG_issued] at hwrote
    exact hwrote
  · have hwrote := wrote_of_retire hissue gd (fun s => aluFn func.toNat (getG s u ga) (imm32 imm)) 2
    rw [aluFn_of_mem _ hf, getG_issued] at hwrote
    exact hwrote

end Sys2Proof.Proofs
end

section
/-! SETTLES O3. Arithmetic with immediates, and constants (R210). -/
namespace Sys2Proof.Proofs
open Sys2Proof.Machine Sys2Proof.Machine.Claims Sys2Proof.Laws

variable {s : State} {u : ZsUnit}

/-- A command that issues and writes one register has that effect. -/
theorem exec_wrote (hissue : canIssue s u = true) {i : Instr} {d : GReg} {f : State → Word} {k : Nat} {v : Word}
    (hexec : exec i s = .next (issue s u false (fun s => retire s u d (f s) k))) (hv : f (issued s u) = v) :
    ∃ t, exec i s = .next t ∧ Wrote s t u d v k :=
  ⟨_, hexec, hv ▸ wrote_of_retire hissue d f k⟩

theorem toInt_sext (imm : BitVec 14) : (imm.signExtend 64).toInt = imm.toInt := BitVec.toInt_signExtend_of_le (by decide)

/-- The low word of a register under a high word (LIH). -/
theorem word_or_high (a : Word) (w : BitVec 32) :
    (a &&& 0xFFFFFFFF#64) ||| (zext w <<< 32) = BitVec.ofNat 64 (a.toNat % 2 ^ 32 + w.toNat * 2 ^ 32) := by
  apply BitVec.eq_of_toNat_eq
  have hlow : a.toNat % 2 ^ 32 < 2 ^ 32 := Nat.mod_lt _ (by decide)
  have hw := w.isLt
  have hfits : a.toNat % 2 ^ 32 + w.toNat * 2 ^ 32 < 2 ^ 64 := by omega
  have hhigh : (zext w <<< 32).toNat = w.toNat <<< 32 := by
    rw [BitVec.toNat_shiftLeft, zext, BitVec.toNat_setWidth, Nat.shiftLeft_eq, Nat.shiftLeft_eq]
    omega
  calc ((a &&& 0xFFFFFFFF#64) ||| (zext w <<< 32)).toNat
      = (a.toNat &&& (2 ^ 32 - 1)) ||| w.toNat <<< 32 := by rw [BitVec.toNat_or, BitVec.toNat_and, hhigh]; rfl
    _ = w.toNat <<< 32 + a.toNat % 2 ^ 32 := by
      rw [Nat.and_two_pow_sub_one_eq_mod, Nat.or_comm, Nat.shiftLeft_add_eq_or_of_lt hlow]
    _ = _ := by
      rw [BitVec.toNat_ofNat, Nat.mod_eq_of_lt hfits, Nat.shiftLeft_eq, Nat.add_comm]

/-- Settles O3: each form's result, the shifts on both sides of their range, and the two constants. -/
theorem immediateArithmeticWritesItsResult : Obligations.ImmediateArithmeticWritesItsResult := by
  intro u gd ga imm s hissue
  refine ⟨?_, fun hlt => ?_, fun hge => ?_, fun w => exec_wrote hissue rfl rfl, fun w => ?_⟩
  · have himm : ∀ e ∈ immediateForms u gd ga imm (getG s u ga), ∃ t, exec e.1 s = .next t ∧ Wrote s t u gd e.2 1 := by
      simp only [immediateForms, List.forall_mem_cons, List.not_mem_nil, false_implies, implies_true, and_true]
      refine ⟨exec_wrote hissue rfl (by rw [getG_issued]; rfl), exec_wrote hissue rfl (by rw [getG_issued]; rfl),
        exec_wrote hissue rfl (by rw [getG_issued]; rfl), exec_wrote hissue rfl (by rw [getG_issued]; rfl),
        exec_wrote hissue rfl ?_, exec_wrote hissue rfl ?_⟩
      · rw [getG_issued, b2w_slt, imm14, sext, toInt_sext]
      · rw [getG_issued, b2w_ult]
        rfl
    exact fun i v h => himm (i, v) h
  · have hmod : imm.toNat % 64 = imm.toNat := Nat.mod_eq_of_lt hlt
    have hshift : ∀ e ∈ shiftForms u gd ga imm (getG s u ga), ∃ t, exec e.1 s = .next t ∧ Wrote s t u gd e.2 1 := by
      simp only [shiftForms, List.forall_mem_cons, List.not_mem_nil, false_implies, implies_true, and_true]
      refine ⟨exec_wrote hissue (if_pos (decide_eq_true hlt)) ?_, exec_wrote hissue (if_pos (decide_eq_true hlt)) ?_,
        exec_wrote hissue (if_pos (decide_eq_true hlt)) ?_⟩
      · rw [getG_issued, hmod, word_shiftLeft_eq]
      · rw [getG_issued, hmod, word_shiftRight_eq]
      · rw [getG_issued, hmod, word_sshiftRight_eq]
    exact fun i v h => hshift (i, v) h
  · have hrefuse : ∀ e ∈ shiftForms u gd ga imm (getG s u ga), exec e.1 s = .refused .illFormed := by
      simp only [shiftForms, List.forall_mem_cons, List.not_mem_nil, false_implies, implies_true, and_true]
      have hno : decide (imm.toNat < 64) = false := decide_eq_false (by omega)
      exact ⟨checked_of_false hno _, checked_of_false hno _, checked_of_false hno _⟩
    exact fun i v h => hrefuse (i, v) h
  · exact exec_wrote hissue rfl (by rw [getG_issued, word_or_high])

end Sys2Proof.Proofs
end

section
/-! SETTLES O4 and O5. Loads and stores (R9, R213, R356). -/
namespace Sys2Proof.Proofs
open Sys2Proof.Machine Sys2Proof.Machine.Claims Sys2Proof.Laws

variable {s : State} {u : ZsUnit} {k size : Nat}

/-! ### Where an access goes -/

theorem scalarAddr_of_accessKey {n : CoreId} {ea : Word} (h : accessKey s (.core n) ea size = some k) :
    ∃ st, scalarAddr s n ea size = .ok (st, k) := by
  simp only [accessKey] at h
  split at h
  · rename_i st k' heq
    exact ⟨st, heq.trans (by rw [Option.some.inj h])⟩
  · exact absurd h (by simp)

theorem pupAddr_of_accessKey {p : PupId} {ea : Word} (h : accessKey s (.pup p) ea size = some k) : pupAddr p ea = k :=
  Option.some.inj h

/-! ### Loads -/

theorem ofBytes_lt (bs : List Byte) : ofBytes bs < 256 ^ bs.length := by
  induction bs with
  | nil => simp [ofBytes]
  | cons b bs ih =>
    have hb := b.isLt
    rw [ofBytes, List.length_cons, Nat.pow_succ]
    omega

/-- The signed value of a field is that of its bit string. -/
theorem signed_eq_toInt {w : Nat} (hw : 0 < w) (x : Nat) : signed w x = (BitVec.ofNat w x).toInt := by
  obtain ⟨m, rfl⟩ : ∃ m, w = m + 1 := ⟨w - 1, by omega⟩
  unfold signed
  rw [BitVec.toInt_eq_toNat_cond, BitVec.toNat_ofNat, Nat.add_sub_cancel, Nat.pow_succ]
  split <;> split <;> omega

/-- What a load extends (Table 8.1). -/
theorem loadValue_eq {bs : List Byte} (hsize : 0 < size) (hlen : bs.length = size) (sx : Bool) :
    loadValue sx size bs = extended sx size bs := by
  unfold loadValue extended
  refine if_congr Iff.rfl ?_ ?_
  · rw [signed_eq_toInt (by omega)]
    rfl
  · have hlt : ofBytes bs < 2 ^ (8 * size) := by
      rw [Nat.pow_mul, ← hlen]
      exact ofBytes_lt bs
    apply BitVec.eq_of_toNat_eq
    rw [zext, BitVec.toNat_setWidth, BitVec.toNat_ofNat, BitVec.toNat_ofNat, Nat.mod_eq_of_lt hlt]

theorem rdBytes_issued (s : State) (u : ZsUnit) (k size : Nat) : rdBytes (issued s u) k size = rdBytes s k size :=
  rdBytes_congr fun _ _ => by cases u <;> rfl

/-- A load that reaches storage, waits for no write and meets no failing word. -/
theorem load_eq (hissue : canIssue s u = true) {gd ga : GReg} {imm : BitVec 14} (sx : Bool)
    (hkey : accessKey s u (effAddr s u ga imm) size = some k) (hfree : rangeFree s u k size false = true)
    (hgood : ∀ n, u = .core n → badIn s k size = none) :
    load s u gd ga imm size sx = retire (issued s u) u gd (loadValue sx size (rdBytes s k size)) 1 := by
  cases u with
  | core n =>
    obtain ⟨st, hloc⟩ := scalarAddr_of_accessKey hkey
    have hwaits : readWaits (Machine.core s n) k size = false := by simpa [rangeFree] using hfree
    have hbad : badIn (issued s (.core n)) k size = none := hgood n rfl
    unfold load
    dsimp only
    rw [hloc]
    dsimp only
    rw [hwaits, issue_takes hissue, hbad, rdBytes_issued]
  | pup p =>
    unfold load
    dsimp only
    rw [pupAddr_of_accessKey hkey, issue_takes hissue, rdBytes_issued]

/-- The loads with their sizes. -/
theorem exec_loadForms {gd ga : GReg} {imm : BitVec 14} : ∀ e ∈ loadForms u gd ga imm,
    0 < e.2.1 ∧ ∀ s, exec e.1 s = .next (load s u gd ga imm e.2.1 e.2.2) := by
  simp only [loadForms, List.forall_mem_cons, List.not_mem_nil, false_implies, implies_true, and_true]
  exact ⟨⟨by decide, fun _ => rfl⟩, ⟨by decide, fun _ => rfl⟩, ⟨by decide, fun _ => rfl⟩, ⟨by decide, fun _ => rfl⟩,
    ⟨by decide, fun _ => rfl⟩, ⟨by decide, fun _ => rfl⟩, ⟨by decide, fun _ => rfl⟩⟩

/-- Settles O4: a load is one function of its size, and its value is that of the bytes. -/
theorem loadsReadLittleEndianBytes : Obligations.LoadsReadLittleEndianBytes := by
  intro u gd ga imm s k hissue i size sx hform hkey hfree hgood
  obtain ⟨hsize, hexec⟩ := exec_loadForms (i, size, sx) hform
  refine ⟨_, hexec s, ?_⟩
  rw [load_eq hissue sx hkey hfree hgood, loadValue_eq hsize (rdBytes_length s k size)]
  exact wrote_retire ..

/-! ### Stores -/

theorem getD_toBytes {n j : Nat} (hj : j < n) (x : Nat) : (toBytes n x).getD j 0 = BitVec.ofNat 8 (x / 256 ^ j) := by
  induction n generalizing x j with
  | zero => exact absurd hj (Nat.not_lt_zero j)
  | succ n ih =>
    cases j with
    | zero => simp [toBytes]
    | succ j => rw [toBytes, List.getD_cons_succ, ih (Nat.lt_of_succ_lt_succ hj), Nat.div_div_eq_div_mul, Nat.pow_succ', Nat.mul_comm]

theorem getD_toBytes_word {n j : Nat} (hj : j < n) (v : Word) : (toBytes n v.toNat).getD j 0 = v.extractLsb' (8 * j) 8 := by
  rw [getD_toBytes hj, BitVec.extractLsb', Nat.shiftRight_eq_div_pow, Nat.pow_mul]

/-- A write that covers every failing word it overlaps writes all its bytes and cures those words (R356). -/
theorem wrBytes_of_covers {bs : List Byte} (h : ∀ w ∈ s.bad, overlaps w k bs.length = true → covers w k bs.length = true) :
    wrBytes s k bs = ({ wrBytesBut [] s k bs with bad := s.bad.filter (fun w => !covers w k bs.length) }, none) := by
  have hkept : s.bad.filter (fun w => overlaps w k bs.length && !(covers w k bs.length)) = [] :=
    List.filter_eq_nil_iff.mpr fun w hw => by simpa using h w hw
  unfold wrBytes
  simp only [hkept]
  rfl

/-- A store that reaches storage, waits for nothing and covers each failing word that it overlaps. -/
theorem store_eq (hissue : canIssue s u = true) {gs ga : GReg} {imm : BitVec 14}
    (hkey : accessKey s u (effAddr s u ga imm) size = some k) (hfree : rangeFree s u k size true = true)
    (hcovers : ∀ w ∈ s.bad, overlaps w k size = true → covers w k size = true) :
    store s u gs ga imm size = advance { wrBytesBut [] (issued s u) k (toBytes size (getG s u gs).toNat) with
      bad := s.bad.filter (fun w => !covers w k size) } u 1 := by
  have hwrite : wrBytes (issued s u) k (toBytes size (getG s u gs).toNat)
      = ({ wrBytesBut [] (issued s u) k (toBytes size (getG s u gs).toNat) with bad := s.bad.filter (fun w => !covers w k size) }, none) := by
    have hbad : (issued s u).bad = s.bad := (congrArg State.bad (issued_frame s u) :)
    have h := wrBytes_of_covers (s := issued s u) (k := k) (bs := toBytes size (getG s u gs).toNat)
      (by rw [hbad, toBytes_length]; exact hcovers)
    rwa [hbad, toBytes_length] at h
  cases u with
  | core n =>
    obtain ⟨st, hloc⟩ := scalarAddr_of_accessKey hkey
    have hwaits : writeWaits (Machine.core s n) k size = false := by simpa [rangeFree] using hfree
    unfold store
    dsimp only
    rw [hloc]
    dsimp only
    rw [hwaits, issue_takes hissue, hwrite]
  | pup p =>
    unfold store
    dsimp only
    rw [pupAddr_of_accessKey hkey, issue_takes hissue]
    exact congrArg (fun x : State × Option Nat => advance x.1 (.pup p) 1) hwrite

/-- Storage and its failing words lie beside what an issue notes. -/
theorem issued_with_mem (s : State) (u : ZsUnit) (m : List Host.Cell) (b : List Nat) :
    { issued s u with mem := m, bad := b } = issued { s with mem := m, bad := b } u := by cases u <;> rfl

theorem advance_mem (s : State) (u : ZsUnit) (x : Nat) : (advance s u x).mem = s.mem := by cases u <;> rfl
theorem advance_bad (s : State) (u : ZsUnit) (x : Nat) : (advance s u x).bad = s.bad := by cases u <;> rfl

/-- An instruction that writes storage and goes on: beside storage it is one that only goes on. -/
theorem jumped_advance_mem {x : State} (h : { x with mem := (issued s u).mem, bad := (issued s u).bad } = issued s u) :
    Jumped { s with mem := x.mem, bad := x.bad } (advance x u 1) u (getPc s u + 1) 1 := by
  have hx : x = issued { s with mem := x.mem, bad := x.bad } u :=
    (congrArg (fun y : State => { y with mem := x.mem, bad := x.bad }) h).trans (issued_with_mem ..)
  generalize x.mem = m, x.bad = b at hx ⊢
  rw [hx]
  have hpc : getPc { s with mem := m, bad := b } u = getPc s u := by cases u <;> rfl
  exact hpc ▸ jumped_advance { s with mem := m, bad := b } u

/-- The stores with their sizes. -/
theorem exec_storeForms {gs ga : GReg} {imm : BitVec 14} : ∀ e ∈ storeForms u gs ga imm,
    ∀ s, exec e.1 s = .next (store s u gs ga imm e.2) := by
  simp only [storeForms, List.forall_mem_cons, List.not_mem_nil, false_implies, implies_true, and_true]
  exact ⟨fun _ => rfl, fun _ => rfl, fun _ => rfl, fun _ => rfl⟩

/-- Settles O5: a store writes its bytes at its address, byte by byte, and moves on beside storage. -/
theorem storesWriteLittleEndianBytes : Obligations.StoresWriteLittleEndianBytes := by
  intro u gs ga imm s k hissue i size hform hkey hfree hcovers
  refine ⟨_, exec_storeForms (i, size) hform s, ?_⟩
  rw [store_eq hissue hkey hfree hcovers]
  have hread : ∀ a, rdByte (advance { wrBytesBut [] (issued s u) k (toBytes size (getG s u gs).toNat) with
      bad := s.bad.filter (fun w => !covers w k size) } u 1) a
        = if k ≤ a ∧ a < k + size then (toBytes size (getG s u gs).toNat).getD (a - k) 0 else rdByte s a := fun a => by
    rw [rdByte, advance_mem]
    refine (rdByte_wrBytesBut_nil (issued s u) k a (toBytes size (getG s u gs).toNat)).trans ?_
    rw [toBytes_length, show rdByte (issued s u) a = rdByte s a by cases u <;> rfl]
  refine ⟨fun j hj => ?_, fun a ha => ?_, advance_bad .., ?_⟩
  · rw [hread, if_pos (by omega), Nat.add_sub_cancel_left, getD_toBytes_word hj]
  · rw [hread, if_neg (by omega)]
  · rw [advance_mem, advance_bad]
    exact jumped_advance_mem (congrArg (fun y : State => { y with bad := (issued s u).bad }) (memMoved_wrBytesBut ..))

end Sys2Proof.Proofs
end

section
/-! SUPPORT. What a trap of a core leaves (R198, R430, Table 17.3). -/
namespace Sys2Proof.Proofs
open Sys2Proof.Machine Sys2Proof.Machine.Claims Sys2Proof.Laws

variable {s x : State} {n : CoreId} {cause : Nat}

theorem trapCore_cores (s : State) (n : CoreId) (no cause : Nat) (pc : BitVec 32) :
    (trapCore s n no cause pc).cores = (trapStop s n no cause pc).cores := by simp [trapCore]

theorem core_trapCore (s : State) (n : CoreId) (no cause : Nat) (pc : BitVec 32) :
    Machine.core (trapCore s n no cause pc) n
      = { Machine.core s n with trap := some (BitVec.ofNat 8 cause), errPc := pc, ended := false, wait := none,
                                held := (Machine.core s n).held.filter (fun h => decide (h.no < no)) } := by
  rw [Machine.core, trapCore_cores]
  exact trapStop_core s n no cause pc

/-- A core that has trapped issues nothing. -/
theorem not_canIssue_of_trap (h : (Machine.core s n).trap.isSome = true) : canIssue s (.core n) = false := by
  obtain ⟨c, hc⟩ := Option.isSome_iff_exists.mp h
  simp [canIssue, coreReady, hc]

/-- A trap in a state that differs from `s` in its core and its ISSUE count: its fault, and all that it writes. -/
theorem trapCore_effect (hcores : CoresKept s x [n.val]) (hcsr : CsrKept s x [CORE_CNT_ISSUE n])
    (hframe : { x with cores := s.cores, csr := s.csr } = s) (hjob : (Machine.core x n).job = (Machine.core s n).job)
    (no cause : Nat) (pc : BitVec 32) :
    Raised s (trapCore x n no cause pc) n.val 0x01 1 (Machine.core s n).job (BitVec.ofNat 32 cause)
      ∧ TrapFrame s (trapCore x n no cause pc) n := by
  have hkept : CoresKept s (trapCore x n no cause pc) [n.val] := fun m hm => by
    rw [Machine.core, trapCore_cores]
    exact (trapStop_core_other x n no cause m pc (by simpa using hm)).trans (hcores m hm)
  have hstop : { trapStop x n no cause pc with cores := s.cores, csr := s.csr } = s := hframe
  have hstopCsr : CsrKept s (trapStop x n no cause pc) [CORE_CNT_ISSUE n] := hcsr
  have htrap : trapCore x n no cause pc
      = fault (trapStop x n no cause pc) n.val 0x01 1 (Machine.core s n).job (BitVec.ofNat 32 cause) := by rw [trapCore, hjob]
  generalize trapStop x n no cause pc = y at hstop hstopCsr htrap
  have hrest := fault_frame y n.val 0x01 1 (Machine.core s n).job (BitVec.ofNat 32 cause) false
  have hregs := fault_csrKept y n.val 0x01 1 (Machine.core s n).job (BitVec.ofNat 32 cause) false
  have hraised := raised_fault y n.val 0x01 1 (Machine.core s n).job (BitVec.ofNat 32 cause) false (by decide) (by omega)
  rw [← htrap] at hrest hregs hraised
  refine ⟨raised_of_kept _ _ _ _ _ _ hraised ?_ ?_ hstopCsr (congrArg State.flt hstop :) (congrArg now hstop :) (CsrKept.refl _ _) rfl rfl,
    ?_, hkept, ?_⟩
  · simp only [FLT_CNT, CORE_CNT_ISSUE, List.mem_singleton]
    omega
  · simp only [FLT_SRC, CORE_CNT_ISSUE, List.mem_singleton]
    omega
  · exact (congrArg (fun z : State => { z with cores := s.cores, csr := s.csr, flt := s.flt, out := s.out }) hrest :).trans
      (congrArg (fun z : State => { z with flt := s.flt, out := s.out }) hstop)
  · exact (hstopCsr.mono (List.cons_subset_cons _ (List.nil_subset _))).trans (hregs.mono (List.subset_cons_self _ _))

/-- A trap in a state where the core has at most noted its last index: it stops with its registers as they were. -/
theorem stopped_trapCore (hcore : { Machine.core x n with lastPc := (Machine.core s n).lastPc } = Machine.core s n) (cause : Nat) (pc : BitVec 32) :
    Stopped s (trapCore x n (Machine.core x n).nextNo cause pc) n cause pc := by
  have hx : Machine.core x n = { Machine.core s n with lastPc := (Machine.core x n).lastPc } :=
    (congrArg (fun c : Core => { c with lastPc := (Machine.core x n).lastPc }) hcore :)
  unfold Stopped
  rw [core_trapCore]
  generalize (Machine.core x n).lastPc = last at hx
  rw [hx]
  exact ⟨rfl, rfl, rfl, rfl, rfl, rfl, rfl, rfl⟩

/-- The instruction at the core's program index traps. -/
def trapHere (n : CoreId) (cause : Nat) (s : State) : State := trapCore s n (Machine.core s n).nextNo cause (Machine.core s n).pc

/-- An instruction that traps at its own index (R198). -/
theorem trapHere_effect (hissue : canIssue s (.core n) = true) (cause : Nat) :
    Stopped s (issueCore s n false (trapHere n cause)) n cause (Machine.core s n).pc
      ∧ Raised s (issueCore s n false (trapHere n cause)) n.val 0x01 1 (Machine.core s n).job (BitVec.ofNat 32 cause)
      ∧ TrapFrame s (issueCore s n false (trapHere n cause)) n := by
  rw [issueCore_takes hissue, trapHere]
  have hcore := core_noteIssue (s := s) (n := n)
  rw [(congrArg Core.pc hcore :)]
  exact ⟨stopped_trapCore (by rw [hcore]) cause _, trapCore_effect (x := noteIssue s n)
    (fun m hm => issued_core_other s n m (by simpa using hm)) (fun o ho => issued_reg_other s n o (by simpa using ho)) rfl
    (congrArg Core.job hcore :) _ cause _⟩

end Sys2Proof.Proofs
end

section
/-! SETTLES O6. Branches, jumps and their checks (R214). -/
namespace Sys2Proof.Proofs
open Sys2Proof.Machine Sys2Proof.Machine.Claims Sys2Proof.Laws

variable {s : State} {u : ZsUnit}

/-! ### Branches -/

theorem branch_effect (hissue : canIssue s u = true) (cond : Word → Word → Bool) (ga gb : GReg) (off : BitVec 14) :
    (cond (getG s u ga) (getG s u gb) = true → Jumped s (branch s u cond ga gb off) u (getPc s u + off.signExtend 32) 3)
      ∧ (¬ cond (getG s u ga) (getG s u gb) = true → Jumped s (branch s u cond ga gb off) u (getPc s u + 1) 1) := by
  unfold branch
  rw [issue_takes hissue, getG_issued, getG_issued, getPc_issued]
  refine ⟨fun h => ?_, fun h => ?_⟩
  · rw [if_pos h]
    exact jumped_transferGap (jumped_setPc ..)
  · rw [if_neg h]
    exact jumped_advance ..

/-- Each branch with the test that it makes. -/
theorem exec_branchForms {ga gb : GReg} {off : BitVec 14} {a b : Word} : ∀ e ∈ branchForms u ga gb off a b,
    ∃ cond : Word → Word → Bool, (∀ s, exec e.1 s = .next (branch s u cond ga gb off)) ∧ (cond a b = true ↔ e.2) := by
  simp only [branchForms, List.forall_mem_cons, List.not_mem_nil, false_implies, implies_true, and_true]
  exact ⟨⟨_, fun _ => rfl, beq_iff_eq⟩, ⟨_, fun _ => rfl, bne_iff_ne⟩, ⟨_, fun _ => rfl, BitVec.slt_iff_toInt_lt⟩,
    ⟨_, fun _ => rfl, by simp [BitVec.slt]⟩, ⟨_, fun _ => rfl, BitVec.ult_iff_toNat_lt⟩, ⟨_, fun _ => rfl, by simp [BitVec.ult]⟩⟩

/-! ### Jumps that link -/

/-- A link written and the index set, as a taken transfer (JAL, and JALR to a sound target). -/
theorem linked_transfer (s : State) (u : ZsUnit) (gd : GReg) (v : Word) (x : BitVec 32) :
    (∀ r, getG (transferGap (setPc (setG (issued s u) u gd v) u x) u) u r = if r = gd ∧ r ≠ 0 then v else getG s u r)
      ∧ getPc (transferGap (setPc (setG (issued s u) u gd v) u x) u) u = x
      ∧ UnitFrame s (transferGap (setPc (setG (issued s u) u gd v) u x) u) u 3 :=
  ⟨fun r => by rw [getG_transferGap, getG_setPc, getG_setG, getG_issued], by rw [getPc_transferGap, getPc_setPc],
    unitFrame_transferGap (unitFrame_setPc (unitFrame_setG (unitFrame_issued s u) gd v) x)⟩

theorem controlTransfersSetTheProgramIndex : ControlTransfersSetTheProgramIndex := by
  intro u ga gb gd off imm s hissue
  refine ⟨fun i p hform => ?_, ?_, ?_⟩
  · obtain ⟨cond, hexec, hcond⟩ := exec_branchForms (i, p) hform
    obtain ⟨htaken, hnot⟩ := branch_effect hissue cond ga gb off
    exact ⟨fun hp => ⟨_, hexec s, htaken (hcond.mpr hp)⟩, fun hp => ⟨_, hexec s, hnot fun h => hp (hcond.mp h)⟩⟩
  · refine ⟨_, congrArg Host.Outcome.next (issue_takes hissue _), ?_⟩
    rw [getPc_issued]
    exact linked_transfer ..
  · refine ⟨_, congrArg Host.Outcome.next (issue_takes hissue _), ?_⟩
    exact jumped_advance s u

/-! ### JALR -/

/-- The state of a JALR that has written its link. -/
def linked (s : State) (u : ZsUnit) (gd : GReg) : State := setG (issued s u) u gd (zext (getPc s u + 1))

theorem core_linked (s : State) (n : CoreId) (gd : GReg) : Machine.core (linked s (.core n) gd) n = { Machine.core s n with
    g := regWrite (Machine.core s n).g gd (zext (getPc s (.core n) + 1)), lastPc := (Machine.core s n).pc } := by
  rw [linked, setG, core_setCore_same, issued_core]

theorem pup_linked (s : State) (p : PupId) (gd : GReg) : pup (linked s (.pup p) gd) p = { pup s p with
    g := regWrite (pup s p).g gd (zext (getPc s (.pup p) + 1)), trace := ((pup s p).pc :: (pup s p).trace).take 1024 } := by
  rw [linked, setG, pup_setPup_same, issued, tracePup, pup_setPup_same]

/-- JALR once it has issued and written its link: the transfer, or the trap. -/
theorem exec_jalr_core {n : CoreId} (hissue : canIssue s (.core n) = true) (gd ga : GReg) :
    exec (.jalr (.core n) gd ga) s = .next (
      if isStart (Machine.core s n).code (getG s (.core n) ga).toNat = true
      then transferGap (setPc (linked s (.core n) gd) (.core n) ((getG s (.core n) ga).setWidth 32)) (.core n)
      else trapCore (linked s (.core n) gd) n (Machine.core s n).nextNo 0x04 (Machine.core s n).pc) := by
  have hcode := (congrArg Core.code (core_linked s n gd) :)
  have hno := (congrArg Core.nextNo (core_linked s n gd) :)
  refine congrArg Host.Outcome.next ((issue_takes hissue _).trans ?_)
  rw [getPc_issued, getG_issued, ← hcode, ← hno]
  rfl

theorem exec_jalr_pup {p : PupId} (hissue : canIssue s (.pup p) = true) (gd ga : GReg) :
    exec (.jalr (.pup p) gd ga) s = .next (
      if isStart (pup s p).code (getG s (.pup p) ga).toNat = true
      then transferGap (setPc (linked s (.pup p) gd) (.pup p) ((getG s (.pup p) ga).setWidth 32)) (.pup p)
      else setPup (linked s (.pup p) gd) p { pup (linked s (.pup p) gd) p with trap := some (pup s p).pc }) := by
  have hcode := (congrArg PupCore.code (pup_linked s p gd) :)
  refine congrArg Host.Outcome.next ((issue_takes hissue _).trans ?_)
  rw [getPc_issued, getG_issued, ← hcode]
  rfl

/-- A core whose JALR finds no instruction traps there, with its link written. -/
theorem jalr_of_core_traps (s : State) (n : CoreId) (gd : GReg) :
    let t := trapCore (linked s (.core n) gd) n (Machine.core s n).nextNo 0x04 (Machine.core s n).pc
    (Machine.core t n).trap = some 0x04 ∧ (Machine.core t n).errPc = (Machine.core s n).pc ∧ (Machine.core t n).pc = (Machine.core s n).pc
      ∧ getG t (.core n) gd = (if gd = 0 then 0 else (getPc s (.core n) + 1).setWidth 64)
      ∧ Raised s t n.val 0x01 1 (Machine.core s n).job 4 ∧ TrapFrame s t n := by
  obtain ⟨hframe, hcores, hcsr, -⟩ := unitFrame_setG (unitFrame_issued s (.core n)) gd (zext (getPc s (.core n) + 1))
  have heffect := trapCore_effect (x := linked s (.core n) gd) hcores hcsr hframe (congrArg Core.job (core_linked s n gd) :)
    (Machine.core s n).nextNo 4 (Machine.core s n).pc
  refine ⟨?_, ?_, ?_, ?_, heffect⟩
  · rw [core_trapCore]
    rfl
  · rw [core_trapCore]
  · rw [core_trapCore, core_linked]
  · rw [getG, core_trapCore, core_linked, regRead_regWrite]
    by_cases h0 : gd = 0
    · rw [if_neg (fun h => h.2 h0), if_pos h0, h0, regRead_zero]
    · rw [if_pos ⟨rfl, h0⟩, if_neg h0, zext]

/-- A Puppeteer core whose JALR finds no instruction issues nothing more (log entry 74). -/
theorem jalr_of_pup_traps (s : State) (p : PupId) (gd : GReg) :
    let t := setPup (linked s (.pup p) gd) p { pup (linked s (.pup p) gd) p with trap := some (pup s p).pc }
    (pup t p).trap = some (pup s p).pc ∧ (pup t p).pc = (pup s p).pc
      ∧ (∀ r, getG t (.pup p) r = if r = gd ∧ r ≠ 0 then (getPc s (.pup p) + 1).setWidth 64 else getG s (.pup p) r)
      ∧ canIssue t (.pup p) = false ∧ { t with pups := s.pups } = s ∧ PupsKept s t [p.val]
      ∧ (pup t p).trace = ((pup s p).pc :: (pup s p).trace).take 1024
      ∧ { pup t p with g := (pup s p).g, trap := (pup s p).trap, trace := (pup s p).trace } = pup s p := by
  intro t
  have hpup : pup t p = { pup s p with
      g := regWrite (pup s p).g gd (zext (getPc s (.pup p) + 1)), trap := some (pup s p).pc,
      trace := ((pup s p).pc :: (pup s p).trace).take 1024 } := (pup_setPup_same ..).trans (by rw [pup_linked])
  obtain ⟨hframe, hpups, -⟩ := unitFrame_setG (unitFrame_issued s (.pup p)) gd (zext (getPc s (.pup p) + 1))
  refine ⟨by rw [hpup], by rw [hpup], fun r => ?_, ?_, hframe, fun m hm => ?_, by rw [hpup], by rw [hpup]⟩
  · rw [getG, hpup, regRead_regWrite]
    rfl
  · simp [canIssue, pupReady, hpup]
  · exact (pup_setPup_other _ _ _ _ (by simpa using hm)).trans (hpups m hm)

theorem jalrChecksItsTarget : JalrChecksItsTarget := by
  intro u gd ga s hissue
  refine ⟨fun hcore hpup => ?_, fun n hu hstart => ?_, fun p hu hstart => ?_⟩
  · refine ⟨transferGap (setPc (linked s u gd) u ((getG s u ga).setWidth 32)) u, ?_, linked_transfer ..⟩
    cases u with
    | core n => rw [exec_jalr_core hissue, if_pos (hcore n rfl)]
    | pup p => rw [exec_jalr_pup hissue, if_pos (hpup p rfl)]
  · subst hu
    exact ⟨_, (exec_jalr_core hissue gd ga).trans (by rw [if_neg (by rw [hstart]; exact Bool.false_ne_true)]), jalr_of_core_traps s n gd⟩
  · subst hu
    exact ⟨_, (exec_jalr_pup hissue gd ga).trans (by rw [if_neg (by rw [hstart]; exact Bool.false_ne_true)]), jalr_of_pup_traps s p gd⟩

/-- Settles O6: its two parts. -/
theorem controlTransfersAndTheirChecks : Obligations.ControlTransfersAndTheirChecks :=
  ⟨controlTransfersSetTheProgramIndex, jalrChecksItsTarget⟩

end Sys2Proof.Proofs
end

section
/-! SETTLES O7 and O8. State registers, time, and the ends of issue (R215–R217). -/
namespace Sys2Proof.Proofs
open Sys2Proof.Machine Sys2Proof.Machine.Claims Sys2Proof.Laws

variable {s : State} {u : ZsUnit} {n : CoreId}

/-! ### State registers (R215) -/

theorem stateReg_issued (s : State) (n : CoreId) (k : Nat) : stateReg (issued s (.core n)) n k = stateReg s n k := by
  have hstatus : getF (issued s (.core n)) (CORE_STATUS n) CORE_STATUS_LOGICAL = getF s (CORE_STATUS n) CORE_STATUS_LOGICAL :=
    congrArg (fget CORE_STATUS_LOGICAL) (issued_reg_other s n _ (by simp only [CORE_STATUS, CORE_CNT_ISSUE]; omega))
  unfold stateReg
  rw [issued_core, hstatus]

/-- Table 8.3 by number. -/
theorem stateReg_of_listed {k : Nat} {v : Word}
    (h : [BitVec.ofNat 64 (getF s (CORE_STATUS n) CORE_STATUS_LOGICAL), (Machine.core s n).job.setWidth 64,
      (Machine.core s n).rank.setWidth 64, (Machine.core s n).entry.setWidth 64, (Machine.core s n).slot.setWidth 64,
      (Machine.core s n).token, (Machine.core s n).step, (Machine.core s n).srPos.setWidth 64][k]? = some v) :
    k < 8 ∧ stateReg s n k = v := by
  obtain ⟨hk, -⟩ := List.getElem?_eq_some_iff.mp h
  simp only [List.length_cons, List.length_nil] at hk
  refine ⟨by omega, ?_⟩
  interval_cases k <;> exact Option.some.inj h

/-! ### Time (R216) -/

theorem ftu_issued (s : State) (u : ZsUnit) : (issued s u).ftu = s.ftu := by cases u <;> rfl

/-- TIME.READ writes both parts of one instant. -/
theorem timeRead_effect (hissue : canIssue s u = true) {gd gb : GReg} (hdst : gd ≠ gb ∨ gd = 0) :
    ∃ t, exec (.timeRead u gd gb) s = .next t
      ∧ (∀ r, getG t u r = if r ≠ 0 ∧ r = gd then BitVec.ofNat 64 (s.ftu.ft / 65536)
            else if r ≠ 0 ∧ r = gb then BitVec.ofNat 64 (s.ftu.ft % 65536) else getG s u r)
      ∧ getPc t u = getPc s u + 1 ∧ UnitFrame s t u 1 := by
  have hexec : exec (.timeRead u gd gb) s
      = .next (retire (setG (issued s u) u gb (BitVec.ofNat 64 (s.ftu.ft % 65536))) u gd (BitVec.ofNat 64 (s.ftu.ft / 65536)) 1) := by
    refine (if_pos (by simpa using hdst)).trans (congrArg Host.Outcome.next ((issue_takes hissue _).trans ?_))
    rw [now, ftu_issued]
  refine ⟨_, hexec, fun r => ?_, ?_, unitFrame_setPc (unitFrame_setG (unitFrame_setG (unitFrame_issued s u) gb _) gd _) _⟩
  · rw [getG_retire, getG_setG, getG_issued]
    simp only [and_comm]
  · rw [getPc_retire, getPc_setG, getPc_issued]
    rfl

/-- Settles O7: MFS reads the table of state registers, and TIME.READ writes the two parts of FT. -/
theorem stateRegistersAndTimeAreRead : Obligations.StateRegistersAndTimeAreRead := by
  refine ⟨fun n gd func s hissue => ⟨fun v hv => ?_, fun hge => ?_⟩, fun u gd gb s hissue => ⟨timeRead_effect hissue, fun heq hne => ?_⟩⟩
  · obtain ⟨hlt, hread⟩ := stateReg_of_listed hv
    exact exec_wrote hissue (if_pos (decide_eq_true (by omega))) (by rw [stateReg_issued, hread])
  · exact checked_of_false (decide_eq_false (by omega)) _
  · exact checked_of_false (by simp [heq, heq ▸ hne]) _

/-! ### STEP.END and TRAP (R217) -/

/-- STEP.END marks its core and moves on. -/
theorem stepEnd_effect (hissue : canIssue s (.core n) = true) :
    ∃ t, exec (.stepEnd n) s = .next t
      ∧ Machine.core t n = { Machine.core s n with
          ended := true, pc := (Machine.core s n).pc + 1, lastPc := (Machine.core s n).pc }
      ∧ CoresKept s t [n.val] ∧ CsrKept s t [CORE_CNT_ISSUE n] ∧ { t with cores := s.cores, csr := s.csr } = s := by
  have hexec : exec (.stepEnd n) s
      = .next (advance (setCore (noteIssue s n) n { Machine.core (noteIssue s n) n with ended := true }) (.core n) 1) :=
    congrArg Host.Outcome.next (issue_takes hissue _)
  have hended := noteIssue_setCore_effect (s := s) (n := n) { Machine.core (noteIssue s n) n with ended := true }
  generalize setCore (noteIssue s n) n { Machine.core (noteIssue s n) n with ended := true } = y at hexec hended
  obtain ⟨hcore, hkept, hcsr, hframe⟩ := hended
  obtain ⟨hcore', hrest⟩ := setCore_since hkept hcsr hframe { Machine.core y n with pc := (Machine.core y n).pc + 1 }
  exact ⟨_, hexec, hcore'.trans (by rw [hcore, core_noteIssue]), hrest⟩

/-- Settles O8: what each leaves of its core, after which nothing issues there. -/
theorem stepEndAndTrapEndIssue : Obligations.StepEndAndTrapEndIssue := by
  intro n s hissue
  constructor
  · obtain ⟨t, hexec, hcore, hkept, hcsr, hframe⟩ := stepEnd_effect hissue
    refine ⟨t, hexec, by rw [hcore], ?_, by rw [getPc, hcore]; rfl, by rw [hcore], hframe, hkept, hcsr⟩
    simp [canIssue, coreReady, hcore]
  · obtain ⟨hstopped, hrest⟩ := trapHere_effect hissue 0x07
    exact ⟨issueCore s n false (trapHere n 0x07), rfl, hstopped, not_canIssue_of_trap (by rw [hstopped.1]; rfl), hrest⟩

end Sys2Proof.Proofs
end

section
/-! SETTLES O21. What traps: accesses, running past the code, foreign objects, and descriptors (R147, R198, R213, R222–R224, R228,
R237, R238). -/
namespace Sys2Proof.Proofs
open Sys2Proof.Machine Sys2Proof.Machine.Claims Sys2Proof.Laws

variable {s : State} {n : CoreId} {d : BitVec 128}

/-- A command that only issues a trap has a trap's effect. -/
theorem exec_traps (hissue : canIssue s (.core n) = true) {i : Instr} {cause : Nat}
    (hexec : exec i s = .next (issueCore s n false (trapHere n cause))) :
    ∃ t, exec i s = .next t ∧ Stopped s t n cause (Machine.core s n).pc
      ∧ Raised s t n.val 0x01 1 (Machine.core s n).job (BitVec.ofNat 32 cause) ∧ TrapFrame s t n :=
  ⟨_, hexec, trapHere_effect hissue cause⟩

/-! ### Accesses (R213) -/

/-- An access to a store fails with ADDRESS when the store is another's, and with ALIGN when it is not aligned. -/
theorem ownAligned_error {own aligned : Prop} [Decidable own] [Decidable aligned] {x : Store × Nat} {cause : Nat}
    (h : (if own then (if aligned then .ok x else .error 2) else .error 1 : Except Nat (Store × Nat)) = .error cause) :
    cause = 1 ∨ cause = 2 := by
  split at h
  · split at h
    · cases h
    · cases h
      exact .inr rfl
  · cases h
    exact .inl rfl

theorem scalarAddr_error {ea : Word} {size cause : Nat} (h : scalarAddr s n ea size = .error cause) : cause = 1 ∨ cause = 2 := by
  unfold scalarAddr at h
  split at h
  · exact ownAligned_error h
  · exact ownAligned_error h
  · cases h
    exact .inl rfl

theorem exec_access_of_error {gd ga : GReg} {imm : BitVec 14} {cause : Nat} : ∀ e ∈ storeForms (.core n) gd ga imm
      ++ (loadForms (.core n) gd ga imm).map (fun x => (x.1, x.2.1)),
    scalarAddr s n (effAddr s (.core n) ga imm) e.2 = .error cause →
      exec e.1 s = .next (issueCore s n false (trapHere n cause)) := by
  intro e he herr
  rcases List.mem_append.mp he with hstore | hload
  · rw [exec_storeForms e hstore, store]
    simp only [herr]
    rfl
  · obtain ⟨x, hx, rfl⟩ := List.mem_map.mp hload
    rw [(exec_loadForms x hx).2, load]
    simp only [herr]
    rfl

/-! ### Past the code (R214) -/

theorem past_code_traps (hready : coreReady s n = true) (hcode : inCode s n = false) :
    ∃ t, exec (.nop (.core n)) s = .next t ∧ Stopped s t n 0x04 (Machine.core s n).lastPc
      ∧ Raised s t n.val 0x01 1 (Machine.core s n).job 4 ∧ TrapFrame s t n := by
  have hexec : exec (.nop (.core n)) s = .next (trapCore s n (Machine.core s n).nextNo 0x04 (Machine.core s n).lastPc) := by
    show Host.Outcome.next (issueCore s n false (fun s => advance s (.core n) 1)) = _
    rw [issueCore, if_pos hready, hcode]
    rfl
  exact ⟨_, hexec, stopped_trapCore rfl 4 _, trapCore_effect (fun _ _ => rfl) (CsrKept.refl _ _) rfl rfl _ 4 _⟩

theorem pup_past_code_stops {p : PupId} (hready : pupReady s p = true) (hcode : (pup s p).code.length ≤ (pup s p).pc.toNat) :
    ∃ t, exec (.nop (.pup p)) s = .next t ∧ t = setPup s p { pup s p with trap := some ((pup s p).trace.headD 0) }
      ∧ canIssue t (.pup p) = false := by
  refine ⟨_, ?_, rfl, by simp [canIssue, pupReady]⟩
  show Host.Outcome.next (issuePup s p (fun s => advance s (.pup p) 1)) = _
  rw [issuePup, if_pos hready, if_neg (by simp [pupInCode, hcode])]

theorem badAccessesTrap : BadAccessesTrap := fun _ _ _ _ _ =>
  ⟨fun hissue _ _ _ hform herr => ⟨scalarAddr_error herr, exec_traps hissue (exec_access_of_error _ hform herr)⟩,
    past_code_traps, fun _ => pup_past_code_stops⟩

/-! ### Foreign objects (R237, R238) -/

/-- Objects that are not bound, or a sum of 2^32 or more, fail the check at issue. -/
theorem syncBad_of_foreign {k : Nat} (hsop : syncSop d = k)
    (h : ¬ Bound s n (objOf s n d) (if k = 4 then syncFirstN d else 0) ∨ (k = 1 ∧ 2 ^ 32 - 1 < (valOf s n d).toNat)) :
    syncBad s n d = true := by
  unfold syncBad
  rw [syncTarget_eq, syncValue_eq, hsop, Bool.or_eq_true]
  rcases h with hforeign | ⟨rfl, hsum⟩
  · left
    rw [Bool.not_eq_true', ← Bool.not_eq_true]
    intro hbound
    refine hforeign ?_
    simp only [boundRange, Bool.and_eq_true, decide_eq_true_eq, List.all_eq_true, List.mem_range, beq_iff_eq, bne_iff_ne] at hbound
    obtain ⟨hrange, hall⟩ := hbound
    exact ⟨hrange, (hall 0 (by omega)).2, fun i hi => (hall i (by omega)).1⟩
  · right
    rw [Bool.and_eq_true, beq_self_eq_true, decide_eq_true_eq]
    exact ⟨rfl, by omega⟩

/-- A SYNC that fails its check traps. -/
theorem issueSync_traps (hissue : canIssue s (.core n) = true) (hroom : (Machine.core s n).held.length < 8)
    (hbad : syncBad s n d = true) (k : Core → Core) : issueSync s n d k = issueCore s n false (trapHere n 3) := by
  unfold issueSync
  rw [decide_eq_false (show ¬ syncRoom ≤ _ by unfold syncRoom; omega), issueCore_takes hissue, issueCore_takes hissue,
    syncBad_noteIssue, hbad, if_pos rfl, trapHere]

/-- A core that has trapped still runs its step, so it is not idle. -/
theorem evalIdle_of_stopped {t : State} {cause : Nat} {pc : BitVec 32} (hissue : canIssue s (.core n) = true)
    (h : Stopped s t n cause pc) : evalIdle t n = t := by
  obtain ⟨-, -, -, hwait, -, -, -, hrest⟩ := h
  have hrun : (Machine.core s n).running = true := by
    simp only [canIssue, coreReady, Bool.and_eq_true] at hissue
    exact hissue.1.1.1.1.2
  have hrun' : (Machine.core t n).running = true := (congrArg Core.running hrest :).trans hrun
  unfold evalIdle
  exact if_neg (by simp [coreIdle, hrun', hwait])

theorem syncOfAForeignObjectTraps : SyncOfAForeignObjectTraps := by
  intro n d s hissue hroom hdesc i k hi hsop hforeign
  obtain ⟨rfl, hk⟩ := eq_syncCommand hi
  obtain ⟨f, hexec⟩ := exec_syncCommand (n := n) (d := d) s hk
  refine exec_traps hissue (hexec.trans ((if_pos (by simp [hdesc, hsop])).trans ?_))
  rw [issueSync_traps hissue hroom (syncBad_of_foreign hsop hforeign), evalIdle_of_stopped hissue (trapHere_effect hissue 3).1, ite_self]

/-! ### Descriptors (R147, R222–R224, R228) -/

/-- A descriptor whose checks fail traps with their cause. -/
theorem issueZt_error (q : Queue) (sr : Bool) (cause : Nat) :
    issueZt s n q d sr (.error cause) = issueCore s n false (trapHere n cause) := rfl

theorem mmaPrep_error (h : ((Machine.core s n).bankView (Machine.core s n).sel).1 ≠ some (d.extractLsb' 12 4)
      ∨ (getG s (.core n) (mmaFeedG d)).toNat % 64 ≠ 0 ∨ (getG s (.core n) (mmaDstG d)).toNat % 64 ≠ 0 ∨ mmaDstStride d < 256) :
    mmaPrep s n d = .error 3 := by
  have hfmt : BitVec.ofNat 4 (mmaWFmt d) = d.extractLsb' 12 4 := by rw [mmaWFmt, dNat, BitVec.ofNat_toNat, BitVec.setWidth_eq]; rfl
  refine if_pos ?_
  rw [hfmt]
  rcases h with hbank | hfeed | hdst | hstride
  · exact .inl hbank
  · exact .inr (.inr (.inl hfeed))
  · exact .inr (.inr (.inr (.inl hdst)))
  · exact .inr (.inr (.inr (.inr (.inr (.inr hstride)))))

theorem dmaPrep_error (hrank : dmaRankG d ≠ 0) (h : 2 ^ 37 ≤ (getG s (.core n) (dmaRankG d)).toNat) : dmaPrep s n d = .error 3 := by
  unfold dmaPrep
  dsimp only
  rw [if_pos hrank]
  split
  · rfl
  · exact if_pos (Or.inl h)

/-- An empty queue gives its engine nothing. -/
theorem dmaAdvance_of_stopped {t : State} {cause : Nat} {pc : BitVec 32} (hempty : (Machine.core s n).dma = [])
    (h : Stopped s t n cause pc) : dmaAdvance t n = t := by
  obtain ⟨-, -, -, -, -, -, -, hrest⟩ := h
  refine dmaAdvance_of_local fun o ho => ?_
  rw [(congrArg Core.dma hrest :).trans hempty] at ho
  cases ho

theorem badDescriptorsTrap : BadDescriptorsTrap := by
  intro n d s hissue i hbad
  refine exec_traps hissue ?_
  rcases hbad with ⟨rfl, hdesc, h⟩ | ⟨rfl, hdesc, h⟩ | ⟨rfl, hdesc, h⟩ | ⟨rfl, hdesc, hrank, h, hempty⟩
  · exact (if_pos hdesc).trans (by rw [mmaPrep_error h, issueZt_error])
  · exact (if_pos hdesc).trans (by rw [show wldPrep s n d = .error 3 from if_pos (Or.inl h), issueZt_error])
  · exact (if_pos hdesc).trans (by rw [show vecPrep s n d = .error 3 from if_pos (Or.inl h), issueZt_error])
  · refine (if_pos hdesc).trans (congrArg Host.Outcome.next ?_)
    rw [ifRunning_of_running (running_of_canIssue hissue), dmaPrep_error hrank h, issueZt_error,
      dmaAdvance_of_stopped hempty (trapHere_effect hissue 3).1]

/-- Settles O21: its three parts. -/
theorem trapsStopTheCore : Obligations.TrapsStopTheCore := ⟨badAccessesTrap, syncOfAForeignObjectTraps, badDescriptorsTrap⟩

end Sys2Proof.Proofs
end

section
/-! SETTLES O14. IRQ.WAIT, and the actions of alarms at their destinations (R49, R152, R218, R301, R302, Table 2.2). -/
namespace Sys2Proof.Proofs
open Sys2Proof.Machine Sys2Proof.Machine.Claims Sys2Proof.Laws

variable {s t : State} {n : AlarmId} {x : Fired}

/-! ### IRQ.WAIT (R218) -/

theorem pup_issued (s : State) (p : PupId) :
    pup (issued s (.pup p)) p = { pup s p with trace := ((pup s p).pc :: (pup s p).trace).take 1024 } := pup_setPup_same ..

theorem exec_irqWait {p : PupId} (hissue : canIssue s (.pup p) = true) (gd : GReg) :
    exec (.irqWait p gd) s = .next (irqWait (issued s (.pup p)) p gd) :=
  congrArg Host.Outcome.next (issue_takes hissue (fun s => irqWait s p gd))

/-- A Puppeteer core put in a state that differs in it alone. -/
theorem setPup_since {p : PupId} {v : State} (hkept : PupsKept s v [p.val]) (hframe : { v with pups := s.pups } = s) (c : PupCore) :
    PupsKept s (setPup v p c) [p.val] ∧ { setPup v p c with pups := s.pups } = s :=
  ⟨fun m hm => (pup_setPup_other _ _ _ _ (by simpa using hm)).trans (hkept m hm), hframe⟩

/-- With causes pending IRQ.WAIT writes their bitmap and goes on. -/
theorem irqWait_pending (s : State) (p : PupId) (gd : GReg) {v : Word} (hv : (pup s p).irq = some v) :
    pup (irqWait (issued s (.pup p)) p gd) p = { pup s p with
        g := regWrite (pup s p).g gd v, irq := none, pc := (pup s p).pc + 1, trace := ((pup s p).pc :: (pup s p).trace).take 1024 }
      ∧ PupsKept s (irqWait (issued s (.pup p)) p gd) [p.val]
      ∧ { irqWait (issued s (.pup p)) p gd with pups := s.pups } = s := by
  obtain ⟨hframe, hkept, -⟩ := unitFrame_issued s (.pup p)
  have hwait : irqWait (issued s (.pup p)) p gd
      = retire (setPup (issued s (.pup p)) p { pup (issued s (.pup p)) p with irq := none }) (.pup p) gd v 1 := by
    have hirq : (pup (issued s (.pup p)) p).irq = some v := (congrArg PupCore.irq (pup_issued s p) :).trans hv
    unfold irqWait
    dsimp only
    rw [hirq]
  obtain ⟨hkept, hframe⟩ := setPup_since hkept hframe { pup (issued s (.pup p)) p with irq := none }
  rw [hwait]
  refine ⟨?_, fun m hm => ?_, ?_⟩
  · rw [retire_pup, pup_setPup_same, pup_issued]
    rfl
  · rw [retire_pup_other _ _ _ _ _ _ (by simpa using hm)]
    exact hkept m hm
  · generalize setPup (issued s (.pup p)) p { pup (issued s (.pup p)) p with irq := none } = w at hframe
    exact hframe

/-- With none pending it halts the core. -/
theorem irqWait_halts (s : State) (p : PupId) (gd : GReg) (hnone : (pup s p).irq = none) :
    pup (irqWait (issued s (.pup p)) p gd) p
        = { pup s p with wait := some gd, trace := ((pup s p).pc :: (pup s p).trace).take 1024 }
      ∧ getF (irqWait (issued s (.pup p)) p gd) (PUP_CORE p) PUP_CORE_STATE = 1
      ∧ PupsKept s (irqWait (issued s (.pup p)) p gd) [p.val] ∧ CsrKept s (irqWait (issued s (.pup p)) p gd) [PUP_CORE p]
      ∧ { irqWait (issued s (.pup p)) p gd with pups := s.pups, csr := s.csr } = s := by
  obtain ⟨hframe, hkept, -⟩ := unitFrame_issued s (.pup p)
  have hwait : irqWait (issued s (.pup p)) p gd
      = setF (setPup (issued s (.pup p)) p { pup (issued s (.pup p)) p with wait := some gd }) (PUP_CORE p) PUP_CORE_STATE 1 := by
    have hirq : (pup (issued s (.pup p)) p).irq = none := (congrArg PupCore.irq (pup_issued s p) :).trans hnone
    unfold irqWait
    dsimp only
    rw [hirq]
  obtain ⟨hkept, hframe⟩ := setPup_since hkept hframe { pup (issued s (.pup p)) p with wait := some gd }
  rw [hwait]
  refine ⟨?_, getF_setF_same _ _ _ _ (by decide), hkept, ?_, (congrArg (fun v : State => { v with csr := s.csr }) hframe :)⟩
  · rw [pup_setF, pup_setPup_same, pup_issued]
  · exact ((CsrKept.refl s _).of_csr_eq (congrArg State.csr hframe :)).after_setF (by simp) _ _

theorem irqWaitHaltsUntilACause : IrqWaitHaltsUntilACause := by
  intro p gd s hissue
  refine ⟨fun v hv => ⟨_, exec_irqWait hissue gd, ?_⟩, fun hnone => ⟨_, exec_irqWait hissue gd, ?_⟩⟩
  · obtain ⟨hpup, hkept, hframe⟩ := irqWait_pending s p gd hv
    refine ⟨by rw [hpup], fun r => ?_, by rw [getPc, hpup]; rfl, by rw [hpup], by rw [hpup], hkept, hframe⟩
    rw [getG, hpup]
    exact regRead_regWrite ..
  · obtain ⟨hpup, hstate, hkept, hcsr, hframe⟩ := irqWait_halts s p gd hnone
    exact ⟨hpup, by simp [canIssue, pupReady, hpup], hstate, hkept, hcsr, hframe⟩

/-! ### Alarm actions (R49) -/

/-- An action whose index names no destination leaves the line and does nothing. -/
theorem act_of_no_destination {action : Nat} (hrun : running s = true) (hnext : firedNext s n action = some x)
    (hrange : alarmRange action ≤ x.index.toNat) (k : State → Fired → State) : act s n action k = actionTaken s x := by
  have hunit : x.unit = none := by
    unfold Fired.unit
    rw [action_of_firedNext hnext]
    exact if_pos hrange
  unfold act
  rw [if_pos hrun, hnext]
  dsimp only
  rw [dropFired_eq_erase, hunit]
  rfl

/-! ### GATE_CYCLE (R301, R302) -/

theorem gateStatus_injective {p q : Nat} (h : TSC_GATE_STATUS p = TSC_GATE_STATUS q) : p = q := by
  unfold TSC_GATE_STATUS at h
  omega

/-- The lists of some ports start a cycle: each port among them, and no other. -/
theorem restartLists_effect (a : Word) {l : List Nat} (hnodup : l.Nodup) (s : State) :
    (∀ q ∈ l, port (l.foldl (restartList a) s) q = { port s q with cycleAt := a }
      ∧ getF (l.foldl (restartList a) s) (TSC_GATE_STATUS q) TSC_GATE_STATUS_CYCLES
          = (getF s (TSC_GATE_STATUS q) TSC_GATE_STATUS_CYCLES + 1) % 2 ^ TSC_GATE_STATUS_CYCLES.w)
    ∧ (∀ q, q ∉ l → port (l.foldl (restartList a) s) q = port s q
        ∧ reg (l.foldl (restartList a) s) (TSC_GATE_STATUS q) = reg s (TSC_GATE_STATUS q))
    ∧ CsrKept s (l.foldl (restartList a) s) (l.map TSC_GATE_STATUS)
    ∧ { l.foldl (restartList a) s with csr := s.csr, net := s.net } = s
    ∧ { (l.foldl (restartList a) s).net with ports := s.net.ports } = s.net := by
  induction l generalizing s with
  | nil => exact ⟨fun q hq => absurd hq (by simp), fun q _ => ⟨rfl, rfl⟩, CsrKept.refl s _, rfl, rfl⟩
  | cons p ps ih =>
    obtain ⟨hp, hps⟩ := List.nodup_cons.mp hnodup
    obtain ⟨hin, hout, hcsr, hframe, hnet⟩ := ih hps (restartList a s p)
    rw [List.foldl_cons]
    have hport : port (restartList a s p) p = { port s p with cycleAt := a } := port_setPort_same ..
    have hcycles : getF (restartList a s p) (TSC_GATE_STATUS p) TSC_GATE_STATUS_CYCLES
        = (getF s (TSC_GATE_STATUS p) TSC_GATE_STATUS_CYCLES + 1) % 2 ^ TSC_GATE_STATUS_CYCLES.w := by
      unfold restartList
      rw [getF_setF_same _ _ _ _ (by decide)]
      exact Nat.mod_mod_of_dvd _ (dvd_refl _)
    have hother : ∀ q, q ≠ p → port (restartList a s p) q = port s q
        ∧ reg (restartList a s p) (TSC_GATE_STATUS q) = reg s (TSC_GATE_STATUS q) := fun q hq =>
      ⟨port_setPort_other _ _ _ _ hq, reg_setF_other _ _ _ _ _ fun h => hq (gateStatus_injective h)⟩
    refine ⟨fun q hq => ?_, fun q hq => ?_, ?_, ?_, (congrArg (fun y : Net => { y with ports := s.net.ports }) hnet :)⟩
    · rcases List.mem_cons.mp hq with rfl | hq
      · obtain ⟨hsame, hreg⟩ := hout q hp
        exact ⟨hsame.trans hport, (congrArg (fget TSC_GATE_STATUS_CYCLES) hreg).trans hcycles⟩
      · obtain ⟨hsame, hreg⟩ := hother q fun h => hp (h ▸ hq)
        obtain ⟨hthere, hcount⟩ := hin q hq
        rw [hthere, hcount, hsame, getF, hreg]
        exact ⟨rfl, rfl⟩
    · obtain ⟨hne, hmem⟩ := not_or.mp (fun h => hq (List.mem_cons.mpr h))
      obtain ⟨hsame, hreg⟩ := hother q hne
      obtain ⟨hthere, hthereReg⟩ := hout q hmem
      exact ⟨hthere.trans hsame, hthereReg.trans hreg⟩
    · exact (((CsrKept.refl s _).of_csr_eq rfl).after_setF (t := setPort s p { port s p with cycleAt := a }) (by simp) _ _).trans
        (hcsr.mono (List.subset_cons_self _ _))
    · exact (congrArg (fun y : State => { y with csr := s.csr, net := s.net }) hframe :)

theorem gateCycle_effect (hrun : running s = true) (hnext : firedNext s n 1 = some x) (hrange : x.index.toNat < 1024) :
    ∃ t, exec (.gateCycle n) s = .next t ∧ TookEffect s t x
      ∧ (∀ q, q < 1024 → gateLen s q ≠ 0 → getF s (TSC_GATE_CTRL q) TSC_GATE_CTRL_LEADER = x.index.toNat →
          port t q = { port s q with cycleAt := x.target }
          ∧ getF t (TSC_GATE_STATUS q) TSC_GATE_STATUS_CYCLES
              = (getF s (TSC_GATE_STATUS q) TSC_GATE_STATUS_CYCLES + 1) % 2 ^ TSC_GATE_STATUS_CYCLES.w)
      ∧ (∀ q, gateLen s q = 0 ∨ getF s (TSC_GATE_CTRL q) TSC_GATE_CTRL_LEADER ≠ x.index.toNat →
          port t q = port s q ∧ reg t (TSC_GATE_STATUS q) = reg s (TSC_GATE_STATUS q))
      ∧ CsrKept s t ((List.range 1024).map TSC_GATE_STATUS)
      ∧ { t.net with ports := s.net.ports } = s.net ∧ { t with csr := s.csr, net := s.net, ftu := s.ftu } = s := by
  have hexec : exec (.gateCycle n) s = .next ((followers s x.index.toNat).foldl (restartList x.target) (actionTaken s x)) :=
    congrArg Host.Outcome.next (act_of_firedNext hrun hnext hrange _)
  have hmem : ∀ q, q ∈ followers s x.index.toNat ↔
      q < 1024 ∧ gateLen s q ≠ 0 ∧ getF s (TSC_GATE_CTRL q) TSC_GATE_CTRL_LEADER = x.index.toNat := fun q => by
    simp [followers]
  have hnodup : (followers s x.index.toNat).Nodup := List.nodup_range.filter _
  have hsub : (followers s x.index.toNat).map TSC_GATE_STATUS ⊆ (List.range 1024).map TSC_GATE_STATUS :=
    List.map_subset _ fun q hq => List.mem_range.mpr ((hmem q).mp hq).1
  generalize followers s x.index.toNat = l at hexec hmem hnodup hsub
  obtain ⟨hin, hout, hcsr, hframe, hnet⟩ := restartLists_effect x.target hnodup (actionTaken s x)
  refine ⟨_, hexec, ?_⟩
  refine ⟨tookEffect_of_ftu (congrArg State.ftu hframe :), fun q hq hlen hleads => hin q ((hmem q).mpr ⟨hq, hlen, hleads⟩),
    fun q hq => hout q fun h => ?_, ?_, hnet, (congrArg (fun y : State => { y with ftu := s.ftu }) hframe :)⟩
  · obtain ⟨-, hlen, hleads⟩ := (hmem q).mp h
    exact hq.elim hlen fun hne => hne hleads
  · exact CsrKept.mono hcsr hsub

/-! ### SYNC_SIGNAL (R152) -/

/-- The waits note their objects whatever the time is. -/
theorem latchWaits_actionTaken (s : State) (x : Fired) : { latchWaits (actionTaken s x) with ftu := s.ftu } = latchWaits s := by
  have hsec : (latchProv (actionTaken s x)).sec = (latchProv s).sec := latchProv_sec_congr rfl rfl
  have hflow : flowsNoted (actionTaken s x) = flowsNoted s := by
    funext y
    unfold flowsNoted
    rw [flow_latch_congr (s := s) (t := actionTaken s x) rfl]
  rw [latchWaits_eq, latchWaits_eq, hsec, hflow, waitNoted_congr (s := s) (t := actionTaken s x) rfl]
  rfl

theorem syncSignal_effect (hrun : running s = true) (hnext : firedNext s n 3 = some x) (hrange : x.index.toNat < 65536)
    (hawake : awake s (80 + x.index.toNat / 4096) = true) :
    ∃ t, exec (.syncSignal n) s = .next (evalDomain t (80 + x.index.toNat / 4096)) ∧ TookEffect s t x
      ∧ obj t x.index.toNat = addTo (obj s x.index.toNat) ((obj s x.index.toNat).ctrl.extractLsb' 32 32).toNat
      ∧ ObjsKept s t [x.index.toNat] ∧ { t with objs := s.objs, ftu := s.ftu } = latchWaits s := by
  have hobj : obj (latchWaits (actionTaken s x)) = obj s := obj_latchWaits _
  have hexec : exec (.syncSignal n) s = .next (evalDomain (objAdd (latchWaits (actionTaken s x)) x.index.toNat
      (obj s x.index.toNat).timerInc.toNat) (80 + x.index.toNat / 4096)) := by
    refine congrArg Host.Outcome.next ((act_of_firedNext hrun hnext hrange _).trans ?_)
    exact if_pos hawake
  refine ⟨_, hexec, tookEffect_of_ftu (by simp), ?_, fun m hm => ?_, ?_⟩
  · rw [obj_objAdd_same, hobj, add_eq_addTo]
    rfl
  · rw [obj_objAdd_other _ _ _ _ (by simpa using hm), hobj]
  · have hobjs : (latchWaits (actionTaken s x)).objs = s.objs := by simp [actionTaken]
    have h := latchWaits_actionTaken s x
    generalize latchWaits (actionTaken s x) = y at hobjs h
    rw [← h, ← hobjs]
    rfl

/-! ### PUP_IRQ (R218) -/

theorem exec_pupIrq {p : PupId} (hrun : running s = true) (hnext : firedNext s n 7 = some x) (hindex : x.index.toNat = p.val) :
    exec (.pupIrq n) s = .next (pupInterrupt (actionTaken s x) p) := by
  have hp : Fin.ofNat 8 x.index.toNat = p := Fin.ext (by simp [hindex])
  refine congrArg Host.Outcome.next ((act_of_firedNext hrun hnext (by rw [hindex]; exact p.isLt) _).trans ?_)
  rw [hp]

/-- A core in IRQ.WAIT goes on with a free value as its bitmap. -/
theorem pupInterrupt_of_waiting {p : PupId} {gd : GReg} (hwait : (pup s p).wait = some gd) :
    pupInterrupt s p = setF (setPup (fresh s).2 p { pup s p with
      g := regWrite (pup s p).g gd (Config.freeWord s.free), wait := none, pc := (pup s p).pc + 1 }) (PUP_CORE p) PUP_CORE_STATE 0 := by
  unfold pupInterrupt
  dsimp only
  rw [show pup (fresh s).2 p = pup s p from rfl, hwait]
  rfl

/-- One that runs notes the cause. -/
theorem pupInterrupt_of_running {p : PupId} (hwait : (pup s p).wait = none) :
    pupInterrupt s p = setPup (fresh s).2 p { pup s p with irq := some ((pup s p).irq.getD 0 ||| Config.freeWord s.free) } := by
  unfold pupInterrupt
  dsimp only
  rw [show pup (fresh s).2 p = pup s p from rfl, hwait]
  rfl

/-- Whatever the core does, the interrupt writes it, its STATE, and the count of free values. -/
theorem pupInterrupt_frame (s : State) (p : PupId) : (pupInterrupt s p).ftu = s.ftu ∧ PupsKept s (pupInterrupt s p) [p.val]
    ∧ CsrKept s (pupInterrupt s p) [PUP_CORE p] ∧ { pupInterrupt s p with pups := s.pups, csr := s.csr, free := s.free } = s := by
  have hpups : ∀ c, PupsKept s (setPup (fresh s).2 p c) [p.val] := fun c m hm => pup_setPup_other _ _ _ _ (by simpa using hm)
  have hcsr : ∀ c, CsrKept s (setPup (fresh s).2 p c) [PUP_CORE p] := fun c => (CsrKept.refl s _).of_csr_eq rfl
  cases hwait : (pup s p).wait with
  | some gd =>
    rw [pupInterrupt_of_waiting hwait]
    exact ⟨rfl, hpups _, (hcsr _).after_setF (by simp) _ _, rfl⟩
  | none =>
    rw [pupInterrupt_of_running hwait]
    exact ⟨rfl, hpups _, hcsr _, rfl⟩

theorem pupIrq_effect {p : PupId} (hrun : running s = true) (hnext : firedNext s n 7 = some x) (hindex : x.index.toNat = p.val) :
    ∃ t, exec (.pupIrq n) s = .next t ∧ TookEffect s t x
      ∧ (∀ gd, (pup s p).wait = some gd → (pup t p).wait = none ∧ (pup t p).pc = (pup s p).pc + 1
          ∧ (∀ r, getG t (.pup p) r = if r = gd ∧ r ≠ 0 then Config.freeWord s.free else getG s (.pup p) r)
          ∧ getF t (PUP_CORE p) PUP_CORE_STATE = 0)
      ∧ ((pup s p).wait = none → pup t p = { pup s p with irq := some ((pup s p).irq.getD 0 ||| Config.freeWord s.free) }
          ∧ t.csr = s.csr)
      ∧ PupsKept s t [p.val] ∧ CsrKept s t [PUP_CORE p]
      ∧ { t with pups := s.pups, csr := s.csr, ftu := s.ftu, free := s.free } = s := by
  obtain ⟨hftu, hpups, hcsr, hframe⟩ := pupInterrupt_frame (actionTaken s x) p
  refine ⟨_, exec_pupIrq hrun hnext hindex, tookEffect_of_ftu hftu, fun gd hwait => ?_, fun hwait => ?_, hpups, hcsr,
    (congrArg (fun y : State => { y with ftu := s.ftu }) hframe :)⟩
  · have heq := pupInterrupt_of_waiting (s := actionTaken s x) (p := p) hwait
    have hpup := (congrArg (pup · p) heq).trans (by rw [pup_setF, pup_setPup_same])
    refine ⟨(congrArg PupCore.wait hpup :), (congrArg PupCore.pc hpup :), fun r => ?_, ?_⟩
    · exact (congrArg (fun c : PupCore => regRead c.g r) hpup :).trans (regRead_regWrite ..)
    · rw [heq]
      exact getF_setF_same _ _ _ _ (by decide)
  · have heq := pupInterrupt_of_running (s := actionTaken s x) (p := p) hwait
    exact ⟨(congrArg (pup · p) heq).trans (pup_setPup_same ..), (congrArg State.csr heq :)⟩

theorem alarmActionsTakeEffect : AlarmActionsTakeEffect := by
  intro n s x hrun
  refine ⟨gateCycle_effect hrun, syncSignal_effect hrun, fun p => pupIrq_effect hrun, fun c a hc hnext hrange => ?_⟩
  simp only [List.mem_cons, Prod.mk.injEq, List.not_mem_nil, or_false] at hc
  rcases hc with ⟨rfl, rfl⟩ | ⟨rfl, rfl⟩ | ⟨rfl, rfl⟩ | ⟨rfl, rfl⟩ | ⟨rfl, rfl⟩ <;>
    exact ⟨_, congrArg Host.Outcome.next (act_of_no_destination hrun hnext hrange _), tookEffect_of_ftu rfl, rfl⟩

/-- Settles O14: its two parts. -/
theorem alarmActionsActAndIrqWaitsEnd : Obligations.AlarmActionsActAndIrqWaitsEnd := ⟨irqWaitHaltsUntilACause, alarmActionsTakeEffect⟩

end Sys2Proof.Proofs
end

section
/-! SUPPORT. A flow sequencer that issues, and the launch it puts back (R182, R241, R242). -/
namespace Sys2Proof.Proofs
open Sys2Proof.Machine Sys2Proof.Machine.Claims Sys2Proof.Laws

variable {s t : State} {e : Engine} {l : Nat} {g : Group} {x y : Launch} {f : Flow} {c : Chunk}

/-- The sequencer of a flow that issues runs its operation on the launch, its group and the flow. -/
theorem onFlow_of_issues (h : OnFlow s e l g x f) (k : State → Group → Launch → Flow → State) : onFlow s e l k = k s g x f := by
  obtain ⟨hrun, hx, hg, hf, hstage, hwait, hfend⟩ := h
  unfold onFlow
  rw [if_pos hrun, hx]
  dsimp only
  rw [hg, hf]
  exact if_pos ⟨hstage, hwait, hfend⟩

theorem onChunk_of_issues {fa : FReg} (h : OnFlow s e l g x f) (hc : getChunk g x e (fRead f fa).toNat = some c)
    (k : State → Group → Launch → Flow → Chunk → State) : onChunk s e l fa k = k s g x f c := by
  unfold onChunk
  rw [onFlow_of_issues h, hc]

theorem engine_of_issues (h : OnFlow s e l g x f) : f.engine = e.val := by
  obtain ⟨-, -, -, hf, -⟩ := h
  have := List.find?_some hf
  rwa [beq_iff_eq] at this

theorem launch_of_issues (h : OnFlow s e l g x f) : launch s l = some x := h.2.1

theorem updFlow_const (x : Launch) (e : Engine) (f : Flow) : updFlow x e.val (fun _ => f) = withFlow x e f := rfl

theorem fRead_eq (f : Flow) (r : FReg) : fRead f r = if r = 0 then 0 else f.f[r.val] := rfl

theorem fWrite_next (f : Flow) (r : FReg) (v : Word) :
    (fWrite f r v).next = { f with pc := f.pc + 1, f := if r = 0 then f.f else f.f.set r.val v } := by
  unfold fWrite
  split <;> rfl

/-- A launch put back under its own number. -/
theorem launchBecomes_setLaunch (hx : launch s l = some x) (hno : y.no = x.no) : LaunchBecomes s (setLaunch s y) l y := by
  have hl := launch_no hx
  subst hl
  obtain ⟨hsame, hother⟩ := launch_setLaunch hx hno
  exact ⟨hsame, hother, rfl⟩

/-- Flow `f` of a launch `y` of the issuing launch's number, put back as `f'`. -/
theorem launchBecomes_putFlow {f' : Flow} (h : OnFlow s e l g x f) (hno : y.no = x.no) (hf' : f'.engine = f.engine) :
    LaunchBecomes s (putFlow s y f') l (withFlow y e f') := by
  unfold putFlow
  rw [hf', engine_of_issues h, updFlow_const]
  exact launchBecomes_setLaunch (launch_of_issues h) hno

/-- A chunk operation of a flow that issues: the chunk changes, the flow moves on, and the launch goes on. -/
theorem chunkOp_effect (h : OnFlow s e l g x f) (c : Chunk) :
    ∃ t, chunkOp s x f c = advanceLaunch t l ∧ LaunchBecomes s t l (withFlow (putChunk x c) e { f with pc := f.pc + 1 }) :=
  ⟨putFlow s (putChunk x c) f.next, congrArg (advanceLaunch _) (launch_no (launch_of_issues h)),
    launchBecomes_putFlow (y := putChunk x c) (f' := f.next) h rfl rfl⟩

end Sys2Proof.Proofs
end

section
/-! SUPPORT. FALU, FPARAM, FBR and FWAIT (R182, R241). -/
namespace Sys2Proof.Proofs
open Sys2Proof.Machine Sys2Proof.Machine.Claims Sys2Proof.Laws

variable {s t : State} {e : Engine} {l : Nat} {g : Group} {x : Launch} {f : Flow}

/-- Table 8.13's functions as the model computes them. -/
theorem faluResult_of_table {n : Nat} {a b v : Word} (h : (n, v) ∈ faluTable a b) : faluResult s n a b = (v, s) := by
  simp only [faluTable, List.mem_cons, Prod.mk.injEq, List.not_mem_nil, or_false] at h
  rcases h with ⟨rfl, rfl⟩ | ⟨rfl, rfl⟩ | ⟨rfl, rfl⟩ | ⟨rfl, rfl⟩ | ⟨rfl, rfl⟩ | ⟨rfl, rfl⟩
  · rfl
  · rfl
  · rfl
  · rfl
  · exact congrArg (·, s) (by rw [BitVec.ofNat_mul, BitVec.ofNat_toNat, BitVec.ofNat_toNat, BitVec.setWidth_eq, BitVec.setWidth_eq])
  · refine congrArg (·, s) ?_
    show (if a.toNat ≤ b.toNat then a else b) = _
    split
    · rename_i hle
      rw [min_eq_left hle, BitVec.ofNat_toNat, BitVec.setWidth_eq]
    · rename_i hle
      rw [min_eq_right (by omega), BitVec.ofNat_toNat, BitVec.setWidth_eq]

theorem faluResult_shiftLeft {a b : Word} (h : b.toNat < 64) :
    faluResult s 4 a b = (BitVec.ofNat 64 (a.toNat * 2 ^ b.toNat), s) := by
  refine (if_pos h).trans (congrArg (·, s) (BitVec.eq_of_toNat_eq ?_))
  rw [BitVec.toNat_shiftLeft, BitVec.toNat_ofNat, Nat.shiftLeft_eq]

theorem faluResult_shiftRight {a b : Word} (h : b.toNat < 64) :
    faluResult s 5 a b = (BitVec.ofNat 64 (a.toNat / 2 ^ b.toNat), s) := by
  refine (if_pos h).trans (congrArg (·, s) (BitVec.eq_of_toNat_eq ?_))
  rw [BitVec.toNat_ushiftRight, BitVec.toNat_ofNat, Nat.shiftRight_eq_div_pow,
    Nat.mod_eq_of_lt (Nat.lt_of_le_of_lt (Nat.div_le_self ..) a.isLt)]

/-- A shift by 64 or more gives a free value. -/
theorem faluResult_free {n : Nat} {a b : Word} (hn : n = 4 ∨ n = 5) (h : 64 ≤ b.toNat) : faluResult s n a b = fresh s := by
  rcases hn with rfl | rfl <;> exact if_neg (Nat.not_lt.mpr h)

theorem fbrTaken_eq_true {n : Nat} {a b : Word} {p : Prop} (h : (n, p) ∈ fbrTable a b) : fbrTaken n a b = true ↔ p := by
  simp only [fbrTable, List.mem_cons, Prod.mk.injEq, List.not_mem_nil, or_false] at h
  rcases h with ⟨rfl, rfl⟩ | ⟨rfl, rfl⟩ | ⟨rfl, rfl⟩ | ⟨rfl, rfl⟩ | ⟨rfl, rfl⟩
  · simp [fbrTaken]
  · simp [fbrTaken]
  · simp [fbrTaken]
  · exact decide_eq_true_iff
  · exact decide_eq_true_iff

theorem func_le_of_table {n : Nat} {a b : Word} {p : Prop} (h : (n, p) ∈ fbrTable a b) : n ≤ 4 := by
  simp only [fbrTable, List.mem_cons, Prod.mk.injEq, List.not_mem_nil, or_false] at h
  omega

theorem func_le_of_faluTable {n : Nat} {a b v : Word} (h : (n, v) ∈ faluTable a b) : n ≤ 7 := by
  simp only [faluTable, List.mem_cons, Prod.mk.injEq, List.not_mem_nil, or_false] at h
  omega

/-- FALU once its function's result is known; the state goes on with what the result has drawn. -/
theorem falu_effect {fd fa fb : FReg} {func : BitVec 14} {imm : BitVec 32} {v : Word} {u : State} (h : OnFlow s e l g x f)
    (hfunc : func.toNat ≤ 7) (hres : faluResult s func.toNat (fRead f fa) (fRead f fb + imm.signExtend 64) = (v, u))
    (hu : OnFlow u e l g x f) :
    ∃ t, exec (.falu e l fd fa fb func imm) s = .next t
      ∧ LaunchBecomes u t l (withFlow x e { f with pc := f.pc + 1, f := if fd = 0 then f.f else f.f.set fd.val v }) := by
  refine ⟨putFlow u x (fWrite f fd v).next, (if_pos hfunc).trans (congrArg Host.Outcome.next ?_), ?_⟩
  · rw [onFlow_of_issues h]
    exact congrArg (fun p : Word × State => putFlow p.2 x (fWrite f fd p.1).next) hres
  · rw [← fWrite_next]
    exact launchBecomes_putFlow hu rfl (by rw [fWrite_next])

theorem fbr_effect {fa fb : FReg} {func : BitVec 14} {imm : BitVec 32} {pc : Nat} (h : OnFlow s e l g x f)
    (hfunc : func.toNat ≤ 4)
    (hpc : (if fbrTaken func.toNat (fRead f fa) (fRead f fb) then { f with pc := imm.toNat } else f.next) = { f with pc := pc }) :
    ∃ t, exec (.fbr e l fa fb func imm) s = .next t ∧ LaunchBecomes s t l (withFlow x e { f with pc := pc }) :=
  ⟨putFlow s x { f with pc := pc },
    (if_pos hfunc).trans (congrArg Host.Outcome.next ((onFlow_of_issues h _).trans (congrArg (putFlow s x) hpc))),
    launchBecomes_putFlow h rfl rfl⟩

theorem flowInstructionsActOnTheirFlow : FlowInstructionsActOnTheirFlow := by
  intro s e l g x f fd fa fb func imm a b h ha hb
  rw [← fRead_eq] at ha hb
  subst ha hb
  refine ⟨fun v hv => ?_, fun hfunc hshift => ?_, fun himm => ⟨?_, ?_⟩, fun p hp => ⟨fun htaken => ?_, fun hnot => ?_⟩,
    fun hfunc => if_neg (by omega), fun hfunc => if_neg (by omega)⟩
  · rcases hv with htable | ⟨hfunc, hshift, rfl⟩ | ⟨hfunc, hshift, rfl⟩
    · exact falu_effect h (func_le_of_faluTable htable) (faluResult_of_table htable) h
    · exact falu_effect h (by omega) (by rw [hfunc]; exact faluResult_shiftLeft hshift) h
    · exact falu_effect h (by omega) (by rw [hfunc]; exact faluResult_shiftRight hshift) h
  · exact falu_effect (u := { s with free := s.free + 1 }) h (by omega) (faluResult_free hfunc hshift) h
  · refine ⟨putFlow s x (fWrite f fd (wordAt x.words imm.toNat)).next, congrArg Host.Outcome.next ?_, ?_⟩
    · rw [onFlow_of_issues h]
      exact if_neg (Nat.not_le.mpr himm)
    · rw [← fWrite_next]
      exact launchBecomes_putFlow h rfl (by rw [fWrite_next])
  · refine ⟨putFlow s x { f.next with wait := some (paramObj x imm.toNat, fRead f fa) }, congrArg Host.Outcome.next ?_, ?_⟩
    · rw [onFlow_of_issues h]
      exact if_neg (Nat.not_le.mpr himm)
    · rw [show (wordAt x.words imm.toNat).toNat % 2 ^ 16 = paramObj x imm.toNat by simp [paramObj, bits]]
      exact launchBecomes_putFlow (f' := { f.next with wait := some (paramObj x imm.toNat, fRead f fa) }) h rfl rfl
  · exact fbr_effect h (func_le_of_table hp) (if_pos ((fbrTaken_eq_true hp).mpr htaken))
  · exact fbr_effect h (func_le_of_table hp) (if_neg (mt (fbrTaken_eq_true hp).mp hnot))

end Sys2Proof.Proofs
end

section
/-! SUPPORT. Packets queued for the slice by a launch and by the management endpoint (R104, R250, R115). -/
namespace Sys2Proof.Proofs
open Sys2Proof.Machine Sys2Proof.Machine.Claims Sys2Proof.Laws

variable {s t u : State} {l : Nat} {g : Group} {x : Launch} {qs rs : List Pkt}

/-- The packets `qs` wait behind those that waited to enter a slice, and nothing else of the network has changed. -/
def Queued (s t : State) (qs : List Pkt) : Prop :=
  t.net.outbox = s.net.outbox ++ qs ∧ { t.net with outbox := s.net.outbox, nextNo := s.net.nextNo } = s.net

theorem Queued.refl (s : State) : Queued s s [] := ⟨(List.append_nil _).symm, rfl⟩

theorem Queued.trans (h : Queued s t qs) (h' : Queued t u rs) : Queued s u (qs ++ rs) := by
  obtain ⟨hout, hnet⟩ := h
  obtain ⟨hout', hnet'⟩ := h'
  exact ⟨by rw [hout', hout, List.append_assoc],
    ((congrArg (fun n : Net => { n with outbox := s.net.outbox, nextNo := s.net.nextNo }) hnet' :) ).trans hnet⟩

theorem queued_sendOut (s : State) (d input : Nat) (p : Packet) (owner : Option Nat) (dest : Dest) (injected : Bool) :
    ∃ q : Pkt, q.p = p ∧ Queued s (sendOut s d input p owner dest injected) [q] := ⟨_, rfl, rfl, rfl⟩

/-! ### Packets of a launch -/

/-- Launch `l`, which was `x`, has queued the packets `ps`: they count as unsent, and nothing else has changed. -/
def LaunchSent (s t : State) (l : Nat) (x : Launch) (ps : List Packet) : Prop :=
  ∃ qs, Queued s t qs ∧ qs.map (fun q => q.p) = ps ∧ launch t l = some { x with unsent := x.unsent + qs.length }
    ∧ (∀ k, k ≠ l → launch t k = launch s k)
    ∧ { t with net := s.net, coll := { t.coll with launches := s.coll.launches } } = s

theorem launchSent_nil (hx : launch s l = some x) : LaunchSent s s l x [] :=
  ⟨[], .refl s, rfl, hx, fun _ _ => rfl, rfl⟩

theorem LaunchSent.trans {ps ps' : List Packet} {m : Nat} (h : LaunchSent s t l x ps) (hm : m = x.unsent + ps.length)
    (h' : LaunchSent t u l { x with unsent := m } ps') : LaunchSent s u l x (ps ++ ps') := by
  obtain ⟨qs, hq, hp, -, hother, hframe⟩ := h
  obtain ⟨rs, hq', hp', hlaunch, hother', hframe'⟩ := h'
  have hlen : ps.length = qs.length := by rw [← hp, List.length_map]
  refine ⟨qs ++ rs, hq.trans hq', by rw [List.map_append, hp, hp'], ?_, fun k hk => (hother' k hk).trans (hother k hk), ?_⟩
  · rw [hlaunch, hm, hlen, List.length_append, Nat.add_assoc]
  · exact (congrArg (fun y : State => { y with net := s.net, coll := { y.coll with launches := s.coll.launches } }) hframe' :).trans hframe

theorem now_of_sent {ps : List Packet} (h : LaunchSent s t l x ps) : now t = now s := by
  obtain ⟨-, -, -, -, -, hframe⟩ := h
  exact (congrArg now hframe :)

/-- The packet that a launch of engine `e` sends with an element's bytes to a rank. -/
def launchPacket (s : State) (g : Group) (x : Launch) (e off kind fmt : Nat) (bytes : List Byte) (dst : Nat) : Packet :=
  mkPacket { type := 1, vc := g.vc, job := x.job, src := g.own, dst := dst, origin := 0x0100 + g.server e,
             birth := (now s).toNat % 2 ^ 40, group := x.gid, lseq := x.seq, offset := off, ckind := kind, pfmt := fmt,
             input := g.own } bytes

theorem launchSent_collSend (hx : launch s l = some x) (g : Group) (e dst off kind fmt : Nat) (bytes : List Byte) :
    LaunchSent s (collSend s g l e dst off kind fmt bytes) l x [launchPacket s g x e off kind fmt bytes dst] := by
  have hno : x.no = l := launch_no hx
  subst hno
  obtain ⟨hsame, hother⟩ := launch_setLaunch hx (y := { x with unsent := x.unsent + 1 }) rfl
  unfold collSend
  rw [hx]
  exact ⟨_, ⟨rfl, rfl⟩, rfl, hsame, hother, rfl⟩

/-- Bytes sent to each of a list of ranks. -/
theorem launchSent_foldl (g : Group) (e off kind fmt : Nat) (bytes : List Byte) (ranks : List Nat) (hx : launch s l = some x) :
    LaunchSent s (ranks.foldl (fun s r => collSend s g l e r off kind fmt bytes) s) l x
      (ranks.map (launchPacket s g x e off kind fmt bytes)) := by
  induction ranks generalizing s x with
  | nil => exact launchSent_nil hx
  | cons r ranks ih =>
    have hfirst := launchSent_collSend hx g e r off kind fmt bytes
    have hnow := now_of_sent hfirst
    obtain ⟨qs, -, hp, hlaunch, -⟩ := id hfirst
    have hlen : qs.length = 1 := by rw [← List.length_map (f := fun q : Pkt => q.p), hp]; rfl
    rw [hlen] at hlaunch
    have hrest := ih hlaunch
    have hsame : launchPacket (collSend s g l e r off kind fmt bytes) g { x with unsent := x.unsent + 1 } e off kind fmt bytes
        = launchPacket s g x e off kind fmt bytes := by
      unfold launchPacket
      rw [hnow]
      rfl
    rw [hsame] at hrest
    exact hfirst.trans rfl hrest

/-- Bytes sent down a shard's tree. -/
theorem launchSent_collDown (hx : launch s l = some x) (g : Group) (e : Nat) (sh : Shard) (off kind fmt : Nat) (bytes : List Byte) :
    LaunchSent s (collDown s g l e sh off kind fmt bytes) l x
      ((downRanks g sh).map (launchPacket s g x e off kind fmt bytes)) := launchSent_foldl g e off kind fmt bytes _ hx

/-! ### Packets of the management endpoint -/

/-- The CTRL packet that tells a device of a group, with a word the spec leaves open. -/
def ctrlPacket (s : State) (g : Group) (k n : Nat) : Packet :=
  mkPacket { type := 4, vc := 6, job := g.job, src := g.own, dst := g.devices.getD k 0, origin := 0x0200,
             birth := (now s).toNat % 2 ^ 40 } (toBytes 8 (Config.freeWord n).toNat)

/-- One device told. -/
def tellOne (g : Group) (s : State) (k : Nat) : State :=
  hubSend (fresh s).2 { type := 4, vc := 6, job := g.job, src := g.own, dst := g.devices.getD k 0 } (toBytes 8 (fresh s).1.toNat)

theorem queued_tellOne (s : State) (g : Group) (k : Nat) :
    ∃ q : Pkt, q.p = ctrlPacket s g k s.free ∧ Queued s (tellOne g s k) [q] :=
  queued_sendOut (fresh s).2 0 283 (ctrlPacket s g k s.free) none .here true

theorem tellOthers_eq (s : State) (g : Group) :
    tellOthers s g = ((List.range g.devices.length).filter (fun k => k != g.me)).foldl (tellOne g) s := rfl

/-- Each device of a list is told, with the words next drawn. -/
theorem tellOne_foldl (g : Group) (ks : List Nat) (s : State) :
    ∃ qs, Queued s (ks.foldl (tellOne g) s) qs
      ∧ (∀ base n, s.free = base + n → qs.map (fun q => q.p) = (ks.zipIdx n).map (fun k => ctrlPacket s g k.1 (base + k.2)))
      ∧ (ks.foldl (tellOne g) s).free = s.free + qs.length
      ∧ { ks.foldl (tellOne g) s with net := s.net, free := s.free } = s := by
  induction ks generalizing s with
  | nil => exact ⟨[], .refl s, fun _ _ _ => rfl, rfl, rfl⟩
  | cons k ks ih =>
    obtain ⟨q, hq, hqueued⟩ := queued_tellOne s g k
    obtain ⟨qs, hqueued', hp, hfree, hframe⟩ := ih (tellOne g s k)
    refine ⟨q :: qs, hqueued.trans hqueued', fun base n hn => ?_, ?_, ?_⟩
    · rw [List.zipIdx_cons, List.map_cons, List.map_cons, hq, hn,
        hp base (n + 1) (by rw [← Nat.add_assoc, ← hn]; rfl)]
      rfl
    · exact hfree.trans (by rw [List.length_cons, Nat.add_comm qs.length, ← Nat.add_assoc]; rfl)
    · exact (congrArg (fun y : State => { y with net := s.net, free := s.free }) hframe :)

/-- The other devices of a group are told. -/
theorem tellOthers_effect (s : State) (g : Group) :
    ∃ qs, Queued s (tellOthers s g) qs
      ∧ qs.map (fun q => q.p) = ((List.range g.devices.length).filter (fun k => k != g.me)).zipIdx.map
          (fun k => ctrlPacket s g k.1 (s.free + k.2))
      ∧ (tellOthers s g).free = s.free + qs.length ∧ { tellOthers s g with net := s.net, free := s.free } = s := by
  rw [tellOthers_eq]
  obtain ⟨qs, hqueued, hp, hfree, hframe⟩ := tellOne_foldl g ((List.range g.devices.length).filter (fun k => k != g.me)) s
  exact ⟨qs, hqueued, hp s.free 0 rfl, hfree, hframe⟩

end Sys2Proof.Proofs
end

section
/-! SETTLES O25. The instructions of flow programs (R241, R242). -/
namespace Sys2Proof.Proofs
open Sys2Proof.Machine Sys2Proof.Machine.Claims Sys2Proof.Laws

variable {s t : State} {e : Engine} {l : Nat} {g : Group} {x : Launch} {f : Flow} {fa : FReg} {c : Chunk}

/-- An instruction on a chunk, once its operation on that chunk is known. -/
theorem chunk_instr_eq {i : Instr} {k : State → Group → Launch → Flow → Chunk → State} {u : State} (h : OnFlow s e l g x f)
    (hi : exec i s = .next (onChunk s e l fa k)) (hc : getChunk g x e (fRead f fa).toNat = some c) (hk : k s g x f c = u) :
    exec i s = .next u := by rw [hi, onChunk_of_issues h hc, hk]

/-- An instruction that marks its chunk. -/
theorem mark_effect {i : Instr} {k : State → Group → Launch → Flow → Chunk → State} {c' : Chunk} (h : OnFlow s e l g x f)
    (hi : exec i s = .next (onChunk s e l fa k)) (hc : getChunk g x e (fRead f fa).toNat = some c)
    (hk : k s g x f c = chunkOp s x f c') :
    ∃ t, exec i s = .next (advanceLaunch t l) ∧ LaunchBecomes s t l (withFlow (putChunk x c') e { f with pc := f.pc + 1 }) := by
  obtain ⟨t, hop, hbecomes⟩ := chunkOp_effect h c'
  exact ⟨t, chunk_instr_eq h hi hc (hk.trans hop), hbecomes⟩

/-- The operations that only mark their chunk. -/
theorem chunkForms_effect (h : OnFlow s e l g x f) (hc : getChunk g x e (fRead f fa).toNat = some c) :
    ∀ i c', (i, c') ∈ chunkForms e l fa c → ∃ t, exec i s = .next (advanceLaunch t l)
      ∧ LaunchBecomes s t l (withFlow (putChunk x c') e { f with pc := f.pc + 1 }) := by
  intro i c' hi
  simp only [chunkForms, List.mem_cons, Prod.mk.injEq, List.not_mem_nil, or_false] at hi
  rcases hi with ⟨rfl, rfl⟩ | ⟨rfl, rfl⟩ | ⟨rfl, rfl⟩
  · exact mark_effect h rfl hc rfl
  · exact mark_effect h rfl hc rfl
  · exact mark_effect h rfl hc rfl

/-- CH.OPEN: of a chunk not yet open within WINDOW, beyond WINDOW, and of an open chunk. -/
theorem chOpen_effect (h : OnFlow s e l g x f) (hc : getChunk g x e (fRead f fa).toNat = some c) :
    (c.opened = false → openChunks x e < x.window → ∃ t, exec (.chOpen e l fa) s = .next (advanceLaunch t l)
      ∧ LaunchBecomes s t l (withFlow (putChunk x { c with opened := true }) e { f with pc := f.pc + 1 }))
    ∧ (c.opened = false → x.window ≤ openChunks x e → exec (.chOpen e l fa) s = .next s)
    ∧ (c.opened = true → ∃ t, exec (.chOpen e l fa) s = .next t
      ∧ LaunchBecomes s t l (withFlow x e { f with pc := f.pc + 1 })) := by
  refine ⟨fun hshut hroom => mark_effect h rfl hc ?_, fun hshut hfull => chunk_instr_eq h rfl hc ?_,
    fun hopen => ⟨putFlow s x f.next, chunk_instr_eq h rfl hc (if_pos hopen), launchBecomes_putFlow h rfl rfl⟩⟩
  · exact (if_neg (by simp [hshut])).trans (if_neg (Nat.not_le.mpr hroom))
  · exact (if_neg (by simp [hshut])).trans (if_pos hfull)

/-- GA.SRC of a launch with DEST_ADDR reads its chunk. -/
theorem exec_gaSrc (h : OnFlow s e l g x f) (hc : getChunk g x e (fRead f fa).toNat = some c) (hdest : x.dest ≠ 0) :
    exec (.gaSrc e l fa) s = .next (gatherFrom s g x f c) := chunk_instr_eq h rfl hc (if_neg hdest)

/-- GA.SRC: the chunk's bytes go to each receiver down the tree. -/
theorem gaSrc_sends {bs : List Byte} (h : OnFlow s e l g x f) (hc : getChunk g x e (fRead f fa).toNat = some c)
    (hdest : x.dest ≠ 0) (hmx : x.mx = false)
    (hread : readAt s (destAddr x x.inFmt c.first) (chunkLen x c) = .ok bs) :
    ∃ t ps, exec (.gaSrc e l fa) s = .next (advanceLaunch t l)
      ∧ t.net.outbox = s.net.outbox ++ ps
      ∧ ps.map (fun y => y.p) = (downRanks g (shardAt g c.shard)).map (fun r => mkPacket (gatherHdr s g x c r) bs)
      ∧ launch t l = some { withFlow (putChunk x { c with sentDown := true }) e { f with pc := f.pc + 1 } with
          unsent := x.unsent + ps.length }
      ∧ (∀ k, k ≠ l → launch t k = launch s k)
      ∧ { t.net with outbox := s.net.outbox, nextNo := s.net.nextNo } = s.net
      ∧ { t with net := s.net, coll := { t.coll with launches := s.coll.launches } } = s := by
  have hno := launch_no (launch_of_issues h)
  obtain ⟨hput, hother, hframe⟩ :=
    launchBecomes_putFlow (y := putChunk x { c with sentDown := true }) (f' := f.next) h rfl rfl
  obtain ⟨qs, ⟨hout, hnet⟩, hp, hlaunch, hother', hframe'⟩ :=
    launchSent_collDown hput g c.engine (shardAt g c.shard) c.first 3 x.inFmt bs
  refine ⟨_, qs, (exec_gaSrc h hc hdest).trans (congrArg Host.Outcome.next ?_), hout, hp, hlaunch,
    fun k hk => (hother' k hk).trans (hother k hk), hnet, ?_⟩
  · unfold gatherFrom
    rw [hread]
    dsimp only [afterRead]
    rw [hmx, hno]
    rfl
  · exact (congrArg (fun y : State => { y with net := s.net, coll := { y.coll with launches := s.coll.launches } }) hframe' :).trans hframe

/-- GA.SRC of MX-scaled data reads the chunk's elements and scales. -/
theorem gaSrc_reads {bs qs : List Byte} (h : OnFlow s e l g x f) (hc : getChunk g x e (fRead f fa).toNat = some c)
    (hdest : x.dest ≠ 0) (hmx : x.mx = true) (hread : readAt s (destAddr x x.inFmt c.first) (chunkLen x c) = .ok bs)
    (hscales : readAt s (scaleAddr x c.first) (c.len / 32) = .ok qs) :
    ∃ t, exec (.gaSrc e l fa) s = .next (advanceLaunch t l)
      ∧ LaunchBecomes s t l (withFlow (putChunk x { c with
          sourced := true, result := some (x.inFmt, unpackCodes x.inFmt bs),
          scales := (List.range qs.length).zip (qs.map BitVec.toNat) }) e { f with pc := f.pc + 1 }) := by
  obtain ⟨t, hop, hbecomes⟩ := chunkOp_effect h { c with
    sourced := true, result := some (x.inFmt, unpackCodes x.inFmt bs), scales := (List.range qs.length).zip (qs.map BitVec.toNat) }
  refine ⟨t, (exec_gaSrc h hc hdest).trans (congrArg Host.Outcome.next (Eq.trans ?_ hop)), hbecomes⟩
  unfold gatherFrom
  rw [hread]
  dsimp only [afterRead]
  rw [hmx, hscales]
  rfl

/-- The release that FSIG notes: it waits for the chunks of its engine whose work is outstanding. -/
def flowSig (e : Engine) (g : Group) (x : Launch) (o : Nat) (v : Word) : FlowSig :=
  ⟨e, o, v, (x.chunks.filter (fun c => c.engine == e.val && !chunkQuiet g x c)).map (fun c => c.idx)⟩

theorem mem_flowSig_after {o i : Nat} {v : Word} : i ∈ (flowSig e g x o v).after
    ↔ ∃ c ∈ x.chunks, c.idx = i ∧ c.engine = e.val ∧ chunkQuiet g x c = false := by
  simp only [flowSig, List.mem_map, List.mem_filter, Bool.and_eq_true, beq_iff_eq, Bool.not_eq_true']
  constructor
  · rintro ⟨c, ⟨hc, heng, hquiet⟩, hidx⟩
    exact ⟨c, hc, hidx, heng, hquiet⟩
  · rintro ⟨c, hc, hidx, heng, hquiet⟩
    exact ⟨c, ⟨hc, heng, hquiet⟩, hidx⟩

/-- FSIG notes its release with the chunks of its engine whose work is outstanding. -/
theorem fsig_effect {imm : BitVec 32} (h : OnFlow s e l g x f) (himm : imm.toNat < 24) :
    ∃ t r, exec (.fsig e l fa imm) s = .next (advanceLaunch t l)
      ∧ r.engine = e.val ∧ r.obj = (wordAt x.words imm.toNat).toNat % 2 ^ 16 ∧ r.v = fRead f fa
      ∧ (∀ i, i ∈ r.after ↔ ∃ c ∈ x.chunks, c.idx = i ∧ c.engine = e.val ∧ chunkQuiet g x c = false)
      ∧ LaunchBecomes s t l (withFlow { x with sigs := x.sigs ++ [r] } e { f with pc := f.pc + 1 }) := by
  exact ⟨putFlow s { x with sigs := x.sigs ++ [flowSig e g x (paramObj x imm.toNat) (fRead f fa)] } f.next,
    flowSig e g x (paramObj x imm.toNat) (fRead f fa),
    congrArg Host.Outcome.next ((onFlow_of_issues h _).trans (if_neg (Nat.not_le.mpr himm))), rfl,
    by simp [flowSig, paramObj, bits], rfl, fun _ => mem_flowSig_after, launchBecomes_putFlow h rfl rfl⟩

/-- HH.LEAF and HH.FINAL note their request for the engine's current shard. -/
theorem herdRequests_effect {fb : FReg} {i : Nat} (h : OnFlow s e l g x f)
    (hshard : currentShard g x e (fRead f fb).toNat = some i) :
    ((fRead f fa).toNat < leafCount (shardBytes g x i) → ∃ t, exec (.hhLeaf e l fa fb) s = .next (advanceLaunch t l)
      ∧ LaunchBecomes s t l (withFlow { x with leafReq := x.leafReq ++ [(e.val, i, (fRead f fb).toNat, (fRead f fa).toNat)] } e
          { f with pc := f.pc + 1 }))
    ∧ ∃ t, exec (.hhFinal e l fb) s = .next (advanceLaunch t l)
      ∧ LaunchBecomes s t l (withFlow { x with finalReq := x.finalReq ++ [(i, (fRead f fb).toNat)] } e { f with pc := f.pc + 1 }) := by
  refine ⟨fun hleaf => ⟨putFlow s { x with leafReq := x.leafReq ++ [(e.val, i, (fRead f fb).toNat, (fRead f fa).toNat)] } f.next,
      congrArg Host.Outcome.next ((onFlow_of_issues h _).trans ?_), launchBecomes_putFlow h rfl rfl⟩,
    ⟨putFlow s { x with finalReq := x.finalReq ++ [(i, (fRead f fb).toNat)] } f.next,
      congrArg Host.Outcome.next ((onFlow_of_issues h _).trans ?_), launchBecomes_putFlow h rfl rfl⟩⟩
  · dsimp only
    rw [hshard]
    exact if_pos hleaf
  · dsimp only
    rw [hshard]

/-! ### ST.FINAL -/

/-- The launch as ST.FINAL leaves it: the engine's part counts. -/
def statCounted (x : Launch) (e : Engine) (f : Flow) : Launch := withFlow x e { f with pc := f.pc + 1, statDone := true }

/-- ST.FINAL passes the device's part on, or not, and the launch goes on. -/
theorem exec_stFinal (h : OnFlow s e l g x f) :
    exec (.stFinal e l) s = .next (advanceLaunch
      (if x.stats && !f.statDone && (statCounted x e f).flows.all (fun y => y.statDone) then
        tellOthers (setLaunch s (statCounted x e f)) g else setLaunch s (statCounted x e f)) l) :=
  congrArg Host.Outcome.next (onFlow_of_issues h _)

/-- Every part counts once those of the other engines do. -/
theorem statCounted_all : (statCounted x e f).flows.all (fun y => y.statDone) = true
    ↔ ∀ y ∈ x.flows, y.engine ≠ e.val → y.statDone = true := by
  simp only [statCounted, withFlow, List.all_map, List.all_eq_true, Function.comp_apply]
  refine forall₂_congr fun y _ => ?_
  by_cases hy : y.engine = e.val <;> simp [hy]

theorem launchBecomes_statCounted (h : OnFlow s e l g x f) : LaunchBecomes s (setLaunch s (statCounted x e f)) l (statCounted x e f) :=
  launchBecomes_setLaunch (launch_of_issues h) rfl

/-- ST.FINAL that does not complete the device's part. -/
theorem stFinal_quiet (h : OnFlow s e l g x f)
    (hquiet : (x.stats && !f.statDone && (statCounted x e f).flows.all (fun y => y.statDone)) = false) :
    ∃ t, exec (.stFinal e l) s = .next (advanceLaunch t l)
      ∧ LaunchBecomes s t l (withFlow x e { f with pc := f.pc + 1, statDone := true }) := by
  refine ⟨setLaunch s (statCounted x e f), (exec_stFinal h).trans ?_, launchBecomes_statCounted h⟩
  rw [hquiet]
  rfl

/-- ST.FINAL of the last engine of a statistics launch tells the other devices. -/
theorem stFinal_last (h : OnFlow s e l g x f) (hstats : x.stats = true) (hnew : f.statDone = false)
    (hall : ∀ y ∈ x.flows, y.engine ≠ e.val → y.statDone = true) :
    ∃ t ps, exec (.stFinal e l) s = .next (advanceLaunch t l)
      ∧ t.net.outbox = s.net.outbox ++ ps
      ∧ ps.map (fun y => y.p) = ((List.range g.devices.length).filter (fun k => k != g.me)).zipIdx.map (fun k =>
          mkPacket { type := 4, vc := 6, job := g.job, src := g.own, dst := g.devices.getD k.1 0, origin := 0x0200,
                     birth := (now s).toNat % 2 ^ 40 } (toBytes 8 (Config.freeWord (s.free + k.2)).toNat))
      ∧ launch t l = some (withFlow x e { f with pc := f.pc + 1, statDone := true })
      ∧ (∀ k, k ≠ l → launch t k = launch s k) ∧ t.free = s.free + ps.length
      ∧ { t.net with outbox := s.net.outbox, nextNo := s.net.nextNo } = s.net
      ∧ { t with net := s.net, free := s.free, coll := { t.coll with launches := s.coll.launches } } = s := by
  obtain ⟨hput, hother, hframe⟩ := launchBecomes_statCounted h
  obtain ⟨qs, ⟨hout, hnet⟩, hp, hfree, hframe'⟩ := tellOthers_effect (setLaunch s (statCounted x e f)) g
  have hcoll : ∀ k, launch (tellOthers (setLaunch s (statCounted x e f)) g) k = launch (setLaunch s (statCounted x e f)) k :=
    launch_of_coll_eq (tellOthers_coll _ _)
  refine ⟨tellOthers (setLaunch s (statCounted x e f)) g, qs, (exec_stFinal h).trans ?_, hout, hp, (hcoll l).trans hput,
    fun k hk => (hcoll k).trans (hother k hk), hfree, hnet, ?_⟩
  · rw [hstats, hnew, statCounted_all.mpr hall]
    rfl
  · exact (congrArg (fun y : State => { y with coll := { y.coll with launches := s.coll.launches } }) hframe' :).trans hframe

theorem flowOperationsAreNoted : FlowOperationsAreNoted := by
  intro s e l g x f fa fb imm a b h ha hb
  rw [← fRead_eq] at ha hb
  subst ha hb
  refine ⟨fun c hc => ⟨chunkForms_effect h hc, (chOpen_effect h hc).1, (chOpen_effect h hc).2.1, (chOpen_effect h hc).2.2,
      fun hdest => ⟨putFlow s x f.next, chunk_instr_eq h rfl hc (if_pos hdest), launchBecomes_putFlow h rfl rfl⟩,
      fun bs hdest hmx hread => gaSrc_sends h hc hdest hmx hread,
      fun bs qs hdest hmx hread hscales => gaSrc_reads h hc hdest hmx hread hscales⟩,
    fsig_effect h, fun i hi => herdRequests_effect h hi, fun hstats => stFinal_quiet h (by rw [hstats]; rfl),
    fun _ hopen => stFinal_quiet h ?_, stFinal_last h,
    ⟨putFlow s x { f.next with fend := true }, congrArg Host.Outcome.next (onFlow_of_issues h _), launchBecomes_putFlow h rfl rfl⟩⟩
  obtain ⟨y, hy, heng, hnot⟩ := hopen
  have hall : (statCounted x e f).flows.all (fun y => y.statDone) = false := by
    rw [← Bool.not_eq_true, statCounted_all]
    exact fun hall => absurd (hall y hy heng) (by simp [hnot])
  rw [hall, Bool.and_false]

/-- Settles O25: each instruction of a flow program, on the registers of its flow or on the launch it serves. -/
theorem flowProgramsRun : Obligations.FlowProgramsRun := ⟨flowInstructionsActOnTheirFlow, flowOperationsAreNoted⟩

end Sys2Proof.Proofs
end

section
/-! SUPPORT. Rows that a vector operation writes where no failing word is touched, and its end (R198, R228, R234). -/
namespace Sys2Proof.Proofs
open Sys2Proof.Machine Sys2Proof.Machine.Claims Sys2Proof.Laws

variable {s t u : State} {l : List Span} {k : Nat} {bs : List Byte} {r r' : State × Option Nat}

/-! ### Writes inside the rows -/

/-- A write met no failing word: memory alone differs, and outside the rows `l` it is as it was. -/
def RowsWritten (s : State) (l : List Span) (r : State × Option Nat) : Prop :=
  r.2 = none ∧ MemMoved s r.1 ∧ ∀ a, Outside l a → rdByte r.1 a = rdByte s a

theorem RowsWritten.refl (s : State) (l : List Span) : RowsWritten s l (s, none) := ⟨rfl, rfl, fun _ _ => rfl⟩

theorem RowsWritten.trans (h : RowsWritten s l r) (h' : RowsWritten r.1 l r') : RowsWritten s l (r'.1, r.2 <|> r'.2) := by
  obtain ⟨hnone, hmoved, hout⟩ := h
  obtain ⟨hnone', hmoved', hout'⟩ := h'
  exact ⟨by rw [hnone, hnone']; rfl, hmoved.trans hmoved', fun a ha => (hout' a ha).trans (hout a ha)⟩

theorem RowsWritten.clean (h : RowsWritten s l r) {m : List Span} (hclean : Clean s m) : Clean r.1 m := clean_of_moved hclean h.2.1

/-- Bytes that lie in one of the rows. -/
theorem rowsWritten_wrBytes (hclean : Clean s l) {x : Span} (hx : x ∈ l) (hlo : x.lo ≤ k) (hhi : k + bs.length ≤ x.lo + x.len) :
    wrBytes s k bs = (wrBytesBut [] s k bs, none) ∧ RowsWritten s l (wrBytes s k bs) := by
  have heq : wrBytes s k bs = (wrBytesBut [] s k bs, none) :=
    wrBytes_of_clean fun w hw => overlaps_part (hclean w hw x hx) hlo hhi
  refine ⟨heq, ?_⟩
  rw [heq]
  refine ⟨rfl, memMoved_wrBytesBut s [] k bs, fun a ha => ?_⟩
  have := ha x hx
  exact (rdByte_wrBytesBut_nil s k a bs).trans (if_neg (by omega))

/-- Steps that write inside the rows, one after the other. -/
theorem rowsWritten_foldl {ι : Type} {step : State × Fl × Option Nat → ι → State × Fl × Option Nat} {is : List ι}
    (hstep : ∀ i ∈ is, ∀ acc, Clean acc.1 l → ∃ r, RowsWritten acc.1 l r ∧ (step acc i).1 = r.1
      ∧ (step acc i).2.2 = (acc.2.2 <|> r.2)) {acc : State × Fl × Option Nat} (hclean : Clean acc.1 l) (hnone : acc.2.2 = none) :
    RowsWritten acc.1 l ((is.foldl step acc).1, (is.foldl step acc).2.2) := by
  induction is generalizing acc with
  | nil => exact ⟨hnone, rfl, fun _ _ => rfl⟩
  | cons i is ih =>
    obtain ⟨r, hr, hstate, hword⟩ := hstep i List.mem_cons_self acc hclean
    have hnone' : (step acc i).2.2 = none := by rw [hword, hnone, hr.1]; rfl
    have hrest := ih (fun j hj => hstep j (List.mem_cons_of_mem _ hj)) (acc := step acc i) (by rw [hstate]; exact hr.clean hclean) hnone'
    rw [hstate] at hrest
    obtain ⟨hnone'', hmoved, hout⟩ := hr.trans hrest
    exact ⟨hrest.1, hmoved, hout⟩

/-- The number of a row is a place in the list of rows. -/
theorem rowKey_mem {i : Nat} (hi : i < l.length) : ∃ x ∈ l, x.lo = rowKey l i ∧ x = l.getD i ⟨0, 0⟩ :=
  ⟨l[i], List.getElem_mem hi, by simp [rowKey, hi], by simp [hi]⟩

/-! ### Numbers written and read -/

/-- The bytes of a number from the place `a` on are those of the number divided. -/
theorem getD_toBytes_div {m n a j x : Nat} (hj : j < n) (ha : a + n ≤ m) :
    (toBytes m x).getD (a + j) 0 = (toBytes n (x / 256 ^ a)).getD j 0 := by
  rw [getD_toBytes (by omega), getD_toBytes hj, Nat.div_div_eq_div_mul, Nat.pow_add]

/-- A part of a number written is read back. -/
theorem numAt_wrBytesBut_part (s : State) (k x : Nat) {m n a : Nat} (ha : a + n ≤ m) :
    numAt (wrBytesBut [] s k (toBytes m x)) (k + a) n = x / 256 ^ a % 256 ^ n := by
  have hread : rdBytes (wrBytesBut [] s k (toBytes m x)) (k + a) (toBytes n (x / 256 ^ a)).length = toBytes n (x / 256 ^ a) := by
    apply rdBytes_eq_of
    intro j hj
    have hjn : j < n := by rwa [toBytes_length] at hj
    rw [rdByte_wrBytesBut_nil, toBytes_length, if_pos (by omega), Nat.add_assoc, Nat.add_sub_cancel_left, getD_toBytes_div hjn ha,
      List.getD_eq_getElem?_getD, List.getElem?_eq_getElem hj, Option.getD_some]
  rw [toBytes_length] at hread
  rw [numAt, hread, ofBytes_toBytes]

theorem numAt_wrBytesBut_same (s : State) (k n x : Nat) : numAt (wrBytesBut [] s k (toBytes n x)) k n = x % 256 ^ n := by
  simpa using numAt_wrBytesBut_part s k x (a := 0) (Nat.zero_add n).le

theorem numAt_congr {n : Nat} (h : ∀ j, j < n → rdByte t (k + j) = rdByte s (k + j)) : numAt t k n = numAt s k n :=
  congrArg ofBytes (rdBytes_congr h)

/-- Packed codes are found in their places (R56). -/
theorem unpackAt_packCodes (w : Nat) (cs : List Nat) (c : Nat) : unpackAt w (packCodes w cs) c = cs.getD c 0 % 2 ^ w := by
  induction cs generalizing c with
  | nil => simp [unpackAt, packCodes]
  | cons x cs ih =>
    unfold unpackAt at *
    cases c with
    | zero => simp [packCodes, Nat.shiftLeft_eq]
    | succ c =>
      have hshift : packCodes w (x :: cs) >>> w = packCodes w cs := by
        rw [packCodes, Nat.shiftRight_eq_div_pow, Nat.shiftLeft_eq, Nat.add_mul_div_right _ _ (Nat.two_pow_pos w),
          Nat.div_eq_of_lt (Nat.mod_lt _ (Nat.two_pow_pos w)), Nat.zero_add]
      rw [Nat.mul_succ, Nat.add_comm, Nat.shiftRight_add, hshift, ih]
      rfl

/-! ### The end of a vector operation -/

variable {n : CoreId} {o : ZtOp} {os : List ZtOp}

/-- The core as its completed vector operation has left the queue. -/
def vecLeft (s : State) (n : CoreId) (os : List ZtOp) : State := setCore s n { Machine.core s n with vec := os }

/-- What an operation that has left the queue `o :: os` and has written rows `l` leaves beside those rows; `srh` tells whether
it has drawn from the entropy source. -/
def VecLeaves (s t : State) (n : CoreId) (os : List ZtOp) (l : List Span) (srh : Bool) : Prop :=
  (Machine.core t n).vec = os ∧ (∀ i, i ≠ 4 → (Machine.core t n).flags[i]? = (Machine.core s n).flags[i]?)
    ∧ { Machine.core t n with vec := (Machine.core s n).vec, flags := (Machine.core s n).flags } = Machine.core s n
    ∧ TensorFrame s t n l ∧ { t with cores := s.cores, mem := s.mem, free := s.free } = s ∧ (srh = false → t.free = s.free)

theorem raise_flags_other (c : Core) (f : Fl) (pc : BitVec 32) {i : Nat} (hi : i ≠ 4) :
    (c.raise 4 f pc).flags[i]? = c.flags[i]? := by simp [Core.raise, Ne.symm hi]

/-- Words drawn from the entropy source. -/
def drawn (srh : Bool) (count : Nat) (s : State) : State := if srh then { s with free := s.free + count } else s

/-- A vector operation that met no failing word raises its flags, and no more. -/
theorem vecEnd_of_written {x : State × Fl × Option Nat} (h : x.2.2 = none) (srh : Bool) (count : Nat) :
    vecEnd n o srh count x = drawn srh count (setCore x.1 n ((Machine.core x.1 n).raise 4 x.2.1 o.pc)) := by
  obtain ⟨u, f, w⟩ := x
  cases h
  rfl

theorem drawn_frame (srh : Bool) (count : Nat) (s : State) :
    (drawn srh count s).cores = s.cores ∧ (drawn srh count s).mem = s.mem ∧ { drawn srh count s with free := s.free } = s
      ∧ (srh = false → (drawn srh count s).free = s.free) := by
  cases srh with
  | false => exact ⟨rfl, rfl, rfl, fun _ => rfl⟩
  | true => exact ⟨rfl, rfl, rfl, fun h => absurd h (by decide)⟩

/-- The state that a vector operation leaves, from what its rows have become. -/
theorem vecEnd_leaves {x : State × Fl × Option Nat} (h : RowsWritten (vecLeft s n os) l (x.1, x.2.2)) (srh : Bool) (count : Nat) :
    VecLeaves s (vecEnd n o srh count x) n os l srh ∧ (vecEnd n o srh count x).mem = x.1.mem := by
  obtain ⟨hnone, hmoved, hout⟩ := h
  rw [vecEnd_of_written hnone]
  have hcoreu : Machine.core x.1 n = { Machine.core s n with vec := os } := (hmoved.core_eq n).trans (core_setCore_same _ _ _)
  rw [hcoreu]
  obtain ⟨hcores, hmem, hframe, hfree⟩ := drawn_frame srh count
    (setCore x.1 n (({ Machine.core s n with vec := os } : Core).raise 4 x.2.1 o.pc))
  generalize drawn srh count (setCore x.1 n (({ Machine.core s n with vec := os } : Core).raise 4 x.2.1 o.pc)) = t
    at hcores hmem hframe hfree ⊢
  have hcore : ∀ m, Machine.core t m
      = Machine.core (setCore x.1 n (({ Machine.core s n with vec := os } : Core).raise 4 x.2.1 o.pc)) m := fun m => by
    unfold Machine.core
    rw [hcores]
    rfl
  have hself : Machine.core t n = ({ Machine.core s n with vec := os } : Core).raise 4 x.2.1 o.pc :=
    (hcore n).trans (core_setCore_same _ _ _)
  have hbare : { x.1 with cores := s.cores, mem := s.mem } = s := (congrArg (fun y : State => { y with cores := s.cores }) hmoved :)
  have hall : { t with cores := s.cores, mem := s.mem, free := x.1.free } = s :=
    ((congrArg (fun y : State => { y with cores := s.cores, mem := s.mem }) hframe :)).trans hbare
  refine ⟨⟨by rw [hself]; rfl, fun i hi => ?_, by rw [hself]; rfl, ⟨fun m hm => ?_, fun k hk => ?_, ?_⟩, ?_, fun hsrh => ?_⟩, hmem⟩
  · rw [hself, raise_flags_other _ _ _ hi]
  · have hm' : m ≠ n := by simpa using hm
    rw [hcore, core_setCore_other _ _ _ _ hm', hmoved.core_eq, vecLeft, core_setCore_other _ _ _ _ hm']
  · rw [rdByte_of_mem_eq hmem]
    exact hout k hk
  · exact (congrArg State.bad hall :)
  · exact (congrArg (fun y : State => { y with free := s.free }) hall :)
  · exact (hfree hsrh).trans (congrArg State.free hbare :)

end Sys2Proof.Proofs
end

section
/-! SUPPORT. VEC and CVT: the elements and rows that they write (R228, R229, R233–R235). -/
namespace Sys2Proof.Proofs
open Sys2Proof.Machine Sys2Proof.Machine.Claims Sys2Proof.Laws

variable {s t u : State} {n : CoreId} {o : ZtOp} {os : List ZtOp}

/-! ### VEC, element by element -/

/-- The code of operand `j` that element `i` reads. -/
def vecCode (o : ZtOp) (s : State) (i j : Nat) : Nat :=
  numAt s (rowKey o.reads (j * vecRows o.d + i / vecCols o.d) + i % vecCols o.d * vecW o.d) (vecW o.d)

/-- The second operand of element `i`: from B, or the low bits of a register. -/
def vecSecond (o : ZtOp) (s : State) (i : Nat) : Nat :=
  if vecBTensor o.d then vecCode o s i 1 else (o.r.headD 0).toNat % 2 ^ (8 * vecW o.d)

/-- Element `i` of the result, with its flags. -/
def vecValue (seed : Word) (o : ZtOp) (s : State) (i : Nat) : Nat × Fl :=
  vecElem (vecOp o.d) (vecFmt o.d) (rmode (vecRm o.d)) (roundU (vecRm o.d) seed o.sr s.free i) (vecPred o.d)
    (vecCode o s i 0) (vecSecond o s i) (if vecHasC (vecOp o.d) then vecCode o s i (if vecBTensor o.d then 2 else 1) else 0)

/-- The place of element `i` of the result. -/
def vecPlace (o : ZtOp) (i : Nat) : Nat := rowKey o.writes (i / vecCols o.d) + i % vecCols o.d * vecW o.d

theorem vecStep_eq (seed : Word) (o : ZtOp) (acc : State × Fl × Option Nat) (i : Nat) :
    vecStep seed o acc i
      = ((wrBytes acc.1 (vecPlace o i) (toBytes (vecW o.d) (vecValue seed o acc.1 i).1)).1, acc.2.1.or (vecValue seed o acc.1 i).2,
          acc.2.2 <|> (wrBytes acc.1 (vecPlace o i) (toBytes (vecW o.d) (vecValue seed o acc.1 i).1)).2) := rfl

/-- The elements of a row reduction. -/
def vecRowCodes (o : ZtOp) (s : State) (r : Nat) : List Nat :=
  (List.range (vecCols o.d)).map (fun c => numAt s (rowKey o.reads r + c * vecW o.d) (vecW o.d))

/-- The result of the reduction of row `r`, with its flags. -/
def vecRowValue (o : ZtOp) (s : State) (r : Nat) : Nat × Fl := rowReduce (vecOp o.d) (vecFmt o.d) (vecRowCodes o s r)

theorem vecRowStep_eq (o : ZtOp) (acc : State × Fl × Option Nat) (r : Nat) :
    vecRowStep o acc r
      = ((wrBytes acc.1 (rowKey o.writes r) (toBytes (vecW o.d) (vecRowValue o acc.1 r).1)).1, acc.2.1.or (vecRowValue o acc.1 r).2,
          acc.2.2 <|> (wrBytes acc.1 (rowKey o.writes r) (toBytes (vecW o.d) (vecRowValue o acc.1 r).1)).2) := rfl

/-- An element lies in its row. -/
theorem vecPlace_inside (hlen : o.writes.length = vecRows o.d) (hrow : ∀ x ∈ o.writes, x.len = vecCols o.d * vecW o.d) {i : Nat}
    (hi : i < vecRows o.d * vecCols o.d) :
    ∃ x ∈ o.writes, x.lo ≤ vecPlace o i ∧ vecPlace o i + vecW o.d ≤ x.lo + x.len := by
  have hcols : 0 < vecCols o.d := Nat.pos_of_ne_zero fun h => by rw [h] at hi; omega
  have hr : i / vecCols o.d < vecRows o.d := Nat.div_lt_of_lt_mul (by rwa [Nat.mul_comm])
  obtain ⟨x, hx, hlo, -⟩ := rowKey_mem (hlen ▸ hr)
  have hin : i % vecCols o.d * vecW o.d + vecW o.d ≤ vecCols o.d * vecW o.d := by
    rw [← Nat.succ_mul]
    exact Nat.mul_le_mul_right _ (Nat.mod_lt i hcols)
  exact ⟨x, hx, by rw [hlo]; exact Nat.le_add_right .., by rw [hlo, hrow x hx, vecPlace]; omega⟩

/-- The elements of a VEC are written inside its rows. -/
theorem vecStep_writes (seed : Word) (hlen : o.writes.length = vecRows o.d)
    (hrow : ∀ x ∈ o.writes, x.len = vecCols o.d * vecW o.d) {i : Nat} (hi : i < vecRows o.d * vecCols o.d)
    (acc : State × Fl × Option Nat) (hclean : Clean acc.1 o.writes) :
    ∃ r, RowsWritten acc.1 o.writes r ∧ (vecStep seed o acc i).1 = r.1 ∧ (vecStep seed o acc i).2.2 = (acc.2.2 <|> r.2) := by
  obtain ⟨x, hx, hlo, hhi⟩ := vecPlace_inside hlen hrow hi
  rw [vecStep_eq]
  exact ⟨_, (rowsWritten_wrBytes hclean hx hlo (by rwa [toBytes_length])).2, rfl, rfl⟩

/-- The reduction of a row is written at the row's place. -/
theorem vecRowStep_writes (hlen : o.writes.length = vecRows o.d) (hrow : ∀ x ∈ o.writes, x.len = vecW o.d) {r : Nat}
    (hr : r < vecRows o.d) (acc : State × Fl × Option Nat) (hclean : Clean acc.1 o.writes) :
    ∃ q, RowsWritten acc.1 o.writes q ∧ (vecRowStep o acc r).1 = q.1 ∧ (vecRowStep o acc r).2.2 = (acc.2.2 <|> q.2) := by
  obtain ⟨x, hx, hlo, -⟩ := rowKey_mem (l := o.writes) (i := r) (by omega)
  rw [vecRowStep_eq]
  exact ⟨_, (rowsWritten_wrBytes hclean hx hlo.le (by rw [toBytes_length, hlo, hrow x hx])).2, rfl, rfl⟩

/-- The elements that a VEC writes, one after the other. -/
def vecElems (seed : Word) (o : ZtOp) (k : Nat) (s : State) : State × Fl × Option Nat :=
  (List.range k).foldl (vecStep seed o) (s, Fl.none, none)

theorem vecElems_written (seed : Word) (hlen : o.writes.length = vecRows o.d)
    (hrow : ∀ x ∈ o.writes, x.len = vecCols o.d * vecW o.d) (hclean : Clean s o.writes) {k : Nat}
    (hk : k ≤ vecRows o.d * vecCols o.d) : RowsWritten s o.writes ((vecElems seed o k s).1, (vecElems seed o k s).2.2) :=
  rowsWritten_foldl (acc := (s, Fl.none, none))
    (fun _ hi acc => vecStep_writes seed hlen hrow (Nat.lt_of_lt_of_le (List.mem_range.mp hi) hk) acc) hclean rfl

theorem vecElems_succ (seed : Word) (o : ZtOp) (k : Nat) (s : State) :
    vecElems seed o (k + 1) s = vecStep seed o (vecElems seed o k s) k := by
  unfold vecElems
  rw [List.range_succ, List.foldl_append]
  rfl

/-! ### INT32 elements -/

/-- Table 8.8's INT32 functions as the model computes them, modulo 2^32. -/
theorem vecInt_of_table {op pred a b x : Nat} {f : BitVec 32 → BitVec 32 → BitVec 32} (h : (op, f) ∈ int32Table)
    (hb : b < 2 ^ 32) : BitVec.ofNat 32 (vecInt op pred a b x).1 = f (BitVec.ofNat 32 a) (BitVec.ofNat 32 b) := by
  have hshift : (BitVec.ofNat 32 b).toNat = b := by rw [BitVec.toNat_ofNat, Nat.mod_eq_of_lt hb]
  have hback : ∀ v : BitVec 32, BitVec.ofNat 32 v.toNat = v := fun v => by simp
  simp only [int32Table, List.mem_cons, Prod.mk.injEq, List.not_mem_nil, or_false] at h
  rcases h with ⟨rfl, rfl⟩ | ⟨rfl, rfl⟩ | ⟨rfl, rfl⟩ | ⟨rfl, rfl⟩ | ⟨rfl, rfl⟩ | ⟨rfl, rfl⟩
    | ⟨rfl, rfl⟩ | ⟨rfl, rfl⟩ | ⟨rfl, rfl⟩
  · exact (ofNat_unsigned _).trans (by rw [BitVec.ofInt_add, ofInt_signed, ofInt_signed])
  · exact (ofNat_unsigned _).trans (by
      rw [Int.sub_eq_add_neg, BitVec.ofInt_add, BitVec.ofInt_neg, ofInt_signed, ofInt_signed, ← BitVec.sub_eq_add_neg])
  · exact (ofNat_unsigned _).trans (by rw [BitVec.ofInt_mul, ofInt_signed, ofInt_signed])
  · exact hback _
  · exact hback _
  · exact hback _
  · exact (hback _).trans (by dsimp only; rw [hshift])
  · exact (hback _).trans (by dsimp only; rw [hshift])
  · exact (hback _).trans (by dsimp only; rw [hshift])

/-- Of the functions of the table each reads a second operand. -/
theorem vecHasB_of_table {op : Nat} {f : BitVec 32 → BitVec 32 → BitVec 32} (h : (op, f) ∈ int32Table) :
    vecHasB op = true ∧ op < 22 := by
  simp only [int32Table, List.mem_cons, Prod.mk.injEq, List.not_mem_nil, or_false] at h
  rcases h with ⟨rfl, -⟩ | ⟨rfl, -⟩ | ⟨rfl, -⟩ | ⟨rfl, -⟩ | ⟨rfl, -⟩ | ⟨rfl, -⟩
    | ⟨rfl, -⟩ | ⟨rfl, -⟩ | ⟨rfl, -⟩ <;> decide

/-- The second operand of an INT32 element of a single row. -/
def int32Second (o : ZtOp) (s : State) (c : Nat) : BitVec 32 :=
  if vecBScalar o.d then (o.r.headD 0).setWidth 32 else BitVec.ofNat 32 (numAt s (rowKey o.reads 1 + 4 * c) 4)

/-- An INT32 operation of one row. -/
structure Int32Row (o : ZtOp) (f : BitVec 32 → BitVec 32 → BitVec 32) : Prop where
  op : (vecOp o.d, f) ∈ int32Table
  fmt : vecFmt o.d = 8
  row : vecRows o.d = 1

theorem Int32Row.width {f : BitVec 32 → BitVec 32 → BitVec 32} (h : Int32Row o f) : vecW o.d = 4 := by rw [vecW, h.fmt]; rfl

theorem Int32Row.code {f : BitVec 32 → BitVec 32 → BitVec 32} (h : Int32Row o f) {c : Nat} (hc : c < vecCols o.d) (j : Nat) :
    vecCode o s c j = numAt s (rowKey o.reads j + 4 * c) 4 := by
  rw [vecCode, h.width, h.row, Nat.div_eq_of_lt hc, Nat.mod_eq_of_lt hc, Nat.mul_one, Nat.add_zero, Nat.mul_comm c]

theorem Int32Row.place {f : BitVec 32 → BitVec 32 → BitVec 32} (h : Int32Row o f) {c : Nat} (hc : c < vecCols o.d) :
    vecPlace o c = rowKey o.writes 0 + 4 * c := by
  rw [vecPlace, h.width, Nat.div_eq_of_lt hc, Nat.mod_eq_of_lt hc, Nat.mul_comm c]

theorem numAt_lt (s : State) (k size : Nat) : numAt s k size < 256 ^ size := by
  have := ofBytes_lt (rdBytes s k size)
  rwa [rdBytes_length] at this

theorem Int32Row.second {f : BitVec 32 → BitVec 32 → BitVec 32} (h : Int32Row o f) {c : Nat} (hc : c < vecCols o.d) :
    vecSecond o s c < 2 ^ 32 ∧ BitVec.ofNat 32 (vecSecond o s c) = int32Second o s c := by
  unfold vecSecond int32Second vecBTensor
  rw [(vecHasB_of_table h.op).1, Bool.true_and, h.width]
  cases vecBScalar o.d with
  | false =>
    refine ⟨?_, ?_⟩
    · exact Nat.lt_of_lt_of_eq (by rw [h.code hc]; exact numAt_lt _ _ _) (by norm_num : 256 ^ 4 = 2 ^ 32)
    · exact congrArg (BitVec.ofNat 32) (h.code hc 1)
  | true =>
    refine ⟨Nat.mod_lt _ (by norm_num), BitVec.eq_of_toNat_eq ?_⟩
    simp

/-- Element `c` of an INT32 operation of one row. -/
theorem Int32Row.value {f : BitVec 32 → BitVec 32 → BitVec 32} (h : Int32Row o f) (seed : Word) {c : Nat} (hc : c < vecCols o.d) :
    BitVec.ofNat 32 (vecValue seed o s c).1 = f (BitVec.ofNat 32 (numAt s (rowKey o.reads 0 + 4 * c) 4)) (int32Second o s c) := by
  obtain ⟨hlt, hsecond⟩ := h.second (s := s) hc
  rw [← hsecond, ← h.code hc]
  unfold vecValue vecElem
  rw [if_pos h.fmt]
  exact vecInt_of_table h.op hlt

/-- Numbers of rows apart from the written ones stay. -/
theorem numAt_of_written {l m : List Span} {q : State × Option Nat} (h : RowsWritten s l q) (hapart : ∀ x ∈ m, ∀ y ∈ l, Apart x y)
    {j a size : Nat} (hj : j < m.length) (hin : a + size ≤ (m.getD j ⟨0, 0⟩).len) :
    numAt q.1 (rowKey m j + a) size = numAt s (rowKey m j + a) size := by
  obtain ⟨x, hx, hlo, heq⟩ := rowKey_mem hj
  rw [← heq] at hin
  refine numAt_congr fun i hi => h.2.2 _ fun y hy => ?_
  have := hapart x hx y hy
  unfold Apart at this
  omega

/-- The first `k` elements of an INT32 operation of one row whose operands share no byte with its destination. -/
theorem vecElems_int32 (seed : Word) {f : BitVec 32 → BitVec 32 → BitVec 32} (h : Int32Row o f) (hlen : o.writes.length = vecRows o.d)
    (hrow : ∀ x ∈ o.writes, x.len = vecCols o.d * vecW o.d) (hclean : Clean s o.writes)
    (hapart : ∀ x ∈ o.reads, ∀ y ∈ o.writes, Apart x y) (hreads : ∀ x ∈ o.reads, x.len = 4 * vecCols o.d)
    (hcount : o.reads.length = (if vecBScalar o.d then 1 else 2)) {k : Nat} (hk : k ≤ vecCols o.d) :
    ∀ c, c < k → BitVec.ofNat 32 (numAt (vecElems seed o k s).1 (rowKey o.writes 0 + 4 * c) 4)
      = f (BitVec.ofNat 32 (numAt s (rowKey o.reads 0 + 4 * c) 4)) (int32Second o s c) := by
  have hall : vecRows o.d * vecCols o.d = vecCols o.d := by rw [h.row, Nat.one_mul]
  induction k with
  | zero => exact fun c hc => absurd hc (Nat.not_lt_zero c)
  | succ k ih =>
    intro c hc
    have hkc : k < vecCols o.d := hk
    have hbefore := vecElems_written seed hlen hrow hclean (k := k) (by omega)
    obtain ⟨x, hx, hlo, hhi⟩ := vecPlace_inside hlen hrow (i := k) (by omega)
    have hput := (rowsWritten_wrBytes (bs := toBytes (vecW o.d) (vecValue seed o (vecElems seed o k s).1 k).1)
      (hbefore.clean hclean) hx hlo (by rwa [toBytes_length])).1
    rw [vecElems_succ, vecStep_eq]
    dsimp only
    rw [hput, h.place hkc, h.width]
    dsimp only
    rcases Nat.lt_succ_iff_lt_or_eq.mp hc with hlt | rfl
    · rw [← ih (Nat.le_of_lt hkc) c hlt]
      refine congrArg (BitVec.ofNat 32) (numAt_congr fun j hj => ?_)
      rw [rdByte_wrBytesBut_nil, if_neg (by omega)]
    · rw [numAt_wrBytesBut_same]
      have hmod : BitVec.ofNat 32 ((vecValue seed o (vecElems seed o c s).1 c).1 % 256 ^ 4)
          = BitVec.ofNat 32 (vecValue seed o (vecElems seed o c s).1 c).1 := BitVec.eq_of_toNat_eq (by simp)
      have hkept : ∀ j, j < o.reads.length →
          numAt (vecElems seed o c s).1 (rowKey o.reads j + 4 * c) 4 = numAt s (rowKey o.reads j + 4 * c) 4 := fun j hj =>
        numAt_of_written hbefore hapart hj (by
          obtain ⟨y, hy, -, heq⟩ := rowKey_mem hj
          rw [← heq, hreads y hy]
          omega)
      rw [hmod, h.value seed hkc]
      congr 1
      · rw [hkept 0 (by rw [hcount]; split <;> decide)]
      · unfold int32Second
        cases hscalar : vecBScalar o.d with
        | true => rfl
        | false => exact congrArg (BitVec.ofNat 32) (hkept 1 (by rw [hcount, hscalar]; decide))

end Sys2Proof.Proofs
end

section
/-! SETTLES O24. The oldest operation of a vector engine writes its rows (R228, R229, R233–R235). -/
namespace Sys2Proof.Proofs
open Sys2Proof.Machine Sys2Proof.Machine.Claims Sys2Proof.Laws

variable {s t u : State} {n : CoreId} {o : ZtOp} {os : List ZtOp} {l : List Span}

/-! ### VEC -/

theorem exec_vecCompletion (hrun : running s = true) (hvec : (Machine.core s n).vec = o :: os) (hop : o.d.toNat % 256 = 0x12) :
    exec (.vecCompletion n) s = .next (evalIdle (vecFinish (vecLeft s n os) n o) n) := by
  show Host.Outcome.next _ = _
  rw [ifRunning_of_running hrun]
  unfold vecPop
  rw [hvec]
  dsimp only
  rw [if_pos (is_eq_true hop)]
  rfl

theorem exec_cvtCompletion (hrun : running s = true) (hvec : (Machine.core s n).vec = o :: os) (hop : o.d.toNat % 256 = 0x16) :
    exec (.cvtCompletion n) s = .next (evalIdle (cvtFinish (vecLeft s n os) n o) n) := by
  show Host.Outcome.next _ = _
  rw [ifRunning_of_running hrun]
  unfold vecPop
  rw [hvec]
  dsimp only
  rw [if_pos (is_eq_true hop)]
  rfl

/-- A VEC that reads no failing word ends after its reductions, or after its elements. -/
theorem vecFinish_of_clean (hclean : Clean s o.reads) :
    (vecIsRow o.d = true → vecFinish s n o = vecEnd n o false 0 ((List.range (vecRows o.d)).foldl (vecRowStep o) (s, Fl.none, none)))
    ∧ (vecIsRow o.d = false → vecFinish s n o
        = vecEnd n o (vecRm o.d == 3) (vecRows o.d * vecCols o.d) (vecElems (seedOf s n) o (vecRows o.d * vecCols o.d) s)) := by
  unfold vecFinish
  rw [badSpans_of_clean hclean]
  exact ⟨fun h => if_pos h, fun h => if_neg (by rw [h]; decide)⟩

/-- A number is read from memory alone. -/
theorem numAt_of_mem_eq (h : t.mem = s.mem) (k size : Nat) : numAt t k size = numAt s k size :=
  numAt_congr fun _ _ => rdByte_of_mem_eq h _

/-- A VEC that is no row reduction leaves its elements. -/
theorem vecFinish_elems (hreads : Clean s o.reads) (hclean : Clean s o.writes) (hlen : o.writes.length = vecRows o.d)
    (hrow : ∀ x ∈ o.writes, x.len = vecCols o.d * vecW o.d) (hkind : vecIsRow o.d = false) :
    VecLeaves s (vecFinish (vecLeft s n os) n o) n os o.writes (vecRm o.d == 3)
      ∧ (vecFinish (vecLeft s n os) n o).mem
        = (vecElems (seedOf (vecLeft s n os) n) o (vecRows o.d * vecCols o.d) (vecLeft s n os)).1.mem := by
  rw [(vecFinish_of_clean (s := vecLeft s n os) hreads).2 hkind]
  exact vecEnd_leaves (vecElems_written (s := vecLeft s n os) _ hlen hrow hclean le_rfl) _ _

/-- A row reduction leaves one element in each row. -/
theorem vecFinish_rows (hreads : Clean s o.reads) (hclean : Clean s o.writes) (hlen : o.writes.length = vecRows o.d)
    (hrow : ∀ x ∈ o.writes, x.len = vecW o.d) (hkind : vecIsRow o.d = true) :
    VecLeaves s (vecFinish (vecLeft s n os) n o) n os o.writes false := by
  rw [(vecFinish_of_clean (s := vecLeft s n os) hreads).1 hkind]
  exact (vecEnd_leaves (rowsWritten_foldl (acc := (vecLeft s n os, Fl.none, none))
    (fun _ hr acc => vecRowStep_writes hlen hrow (List.mem_range.mp hr) acc) hclean rfl) _ _).1

/-- What a finished VEC leaves, in either kind; only one with SRH rounding draws free values. -/
theorem vecFinish_leaves (hreads : Clean s o.reads) (hclean : Clean s o.writes) (hlen : o.writes.length = vecRows o.d)
    (hrow : ∀ x ∈ o.writes, x.len = if 22 ≤ vecOp o.d then vecW o.d else vecCols o.d * vecW o.d) :
    ∃ srh, (vecRm o.d ≠ 3 → srh = false) ∧ VecLeaves s (vecFinish (vecLeft s n os) n o) n os o.writes srh := by
  by_cases hop : 22 ≤ vecOp o.d
  · simp only [if_pos hop] at hrow
    exact ⟨false, fun _ => rfl, vecFinish_rows hreads hclean hlen hrow (decide_eq_true hop)⟩
  · simp only [if_neg hop] at hrow
    exact ⟨_, fun hrm => beq_eq_false_iff_ne.mpr hrm, (vecFinish_elems hreads hclean hlen hrow (decide_eq_false hop)).1⟩

/-- The elements of an INT32 operation of one row whose operands share no byte with its destination. -/
theorem vecFinish_int32 {f : BitVec 32 → BitVec 32 → BitVec 32} (h : Int32Row o f) (hreads : Clean s o.reads)
    (hclean : Clean s o.writes) (hlen : o.writes.length = vecRows o.d)
    (hrow : ∀ x ∈ o.writes, x.len = if 22 ≤ vecOp o.d then vecW o.d else vecCols o.d * vecW o.d)
    (hapart : ∀ x ∈ o.reads, ∀ y ∈ o.writes, Apart x y) (hlens : ∀ x ∈ o.reads, x.len = 4 * vecCols o.d)
    (hcount : o.reads.length = (if vecBScalar o.d then 1 else 2)) {c : Nat} (hc : c < vecCols o.d) :
    BitVec.ofNat 32 (numAt (vecFinish (vecLeft s n os) n o) (rowKey o.writes 0 + 4 * c) 4)
      = f (BitVec.ofNat 32 (numAt s (rowKey o.reads 0 + 4 * c) 4)) (int32Second o s c) := by
  have hop : ¬ 22 ≤ vecOp o.d := Nat.not_le.mpr (vecHasB_of_table h.op).2
  simp only [if_neg hop] at hrow
  rw [numAt_of_mem_eq (vecFinish_elems hreads hclean hlen hrow (decide_eq_false hop)).2, h.row, Nat.one_mul]
  exact vecElems_int32 (s := vecLeft s n os) _ h hlen hrow hclean hapart hlens hcount le_rfl c hc

/-! ### CVT -/

/-- The codes of source row `r`. -/
def cvtCodes (o : ZtOp) (s : State) (r : Nat) : List Nat :=
  (List.range (cvtCols o.d)).map (fun c => unpackAt (fmtWidth (cvtSrcFmt o.d))
    (ofBytes (rdBytes s (rowKey o.reads r) (rowBytes (fmtWidth (cvtSrcFmt o.d)) (cvtCols o.d)))) c)

/-- Row `r` converted: its codes, its scales and its flags. -/
def cvtValue (seed : Word) (o : ZtOp) (s : State) (r : Nat) : List Nat × List Byte × Fl :=
  cvtRow o.d (fun i => roundU (cvtRm o.d) seed o.sr s.free i) r (cvtCodes o s r)

/-- A converted row written, with MX scaling block by block. -/
def cvtPut (o : ZtOp) (s : State) (r : Nat) (v : List Nat × List Byte × Fl) : State × Option Nat :=
  if cvtMx o.d then mxPut (fmtWidth (cvtDstFmt o.d)) s (rowKey o.writes r) (rowKey o.writes (cvtRows o.d + r)) v.1 v.2.1
  else wrBytes s (rowKey o.writes r)
    (toBytes (rowBytes (fmtWidth (cvtDstFmt o.d)) (cvtCols o.d)) (packCodes (fmtWidth (cvtDstFmt o.d)) v.1))

theorem cvtStep_eq (seed : Word) (o : ZtOp) (acc : State × Fl × Option Nat) (r : Nat) :
    cvtStep seed o acc r
      = ((cvtPut o acc.1 r (cvtValue seed o acc.1 r)).1, acc.2.1.or (cvtValue seed o acc.1 r).2.2,
          acc.2.2 <|> (cvtPut o acc.1 r (cvtValue seed o acc.1 r)).2) := rfl

/-- Blocks and scales are written inside the two rows that hold them. -/
theorem mxPut_written (wd : Nat) {x y : Span} (hx : x ∈ l) (hy : y ∈ l) {xs : List Byte} {k sk : Nat} {cs : List Nat}
    (hclean : Clean s l) (hk : x.lo ≤ k) (hkhi : k + 4 * wd * xs.length ≤ x.lo + x.len) (hsk : y.lo ≤ sk)
    (hskhi : sk + xs.length ≤ y.lo + y.len) : RowsWritten s l (mxPut wd s k sk cs xs) := by
  induction xs generalizing s k sk cs with
  | nil => exact .refl s l
  | cons b bs ih =>
    rw [List.length_cons] at hkhi hskhi
    rw [Nat.mul_succ] at hkhi
    obtain ⟨-, hblock⟩ := rowsWritten_wrBytes (k := k) (bs := toBytes (4 * wd) (packCodes wd (cs.take 32))) hclean hx hk
      (by rw [toBytes_length]; omega)
    have hclean1 := hblock.clean hclean
    obtain ⟨-, hscale⟩ := rowsWritten_wrBytes (k := sk) (bs := [b]) hclean1 hy hsk (by rw [List.length_singleton]; omega)
    have hrest := ih (k := k + 4 * wd) (sk := sk + 1) (cs := cs.drop 32) (hscale.clean hclean1) (by omega) (by omega) (by omega) (by omega)
    exact hblock.trans (hscale.trans hrest)

/-- Each step of a fold adds one scale. -/
theorem length_foldl_scales {ι α γ : Type} {step : α × List Byte × γ → ι → α × List Byte × γ}
    (h : ∀ acc j, (step acc j).2.1.length = acc.2.1.length + 1) (js : List ι) (acc : α × List Byte × γ) :
    (js.foldl step acc).2.1.length = acc.2.1.length + js.length := by
  induction js generalizing acc with
  | nil => rfl
  | cons j js ih => rw [List.foldl_cons, ih, h, List.length_cons]; omega

/-- A row converted with MX scaling has one scale for each block of 32. -/
theorem length_cvtValue_scales (seed : Word) (hmx : cvtMx o.d = true) (s : State) (r : Nat) :
    (cvtValue seed o s r).2.1.length = cvtCols o.d / 32 := by
  unfold cvtValue cvtRow
  rw [if_pos hmx]
  refine (length_foldl_scales (fun acc j => List.length_append) _ _).trans ?_
  rw [List.length_range]
  exact Nat.zero_add _

/-- The rows that a CVT writes: those of the codes and, with MX scaling, those of the scales. -/
structure CvtRows (o : ZtOp) : Prop where
  count : o.writes.length = cvtRows o.d * (if cvtMx o.d then 2 else 1)
  codes : ∀ i, i < cvtRows o.d → (o.writes.getD i ⟨0, 0⟩).len = rowBytes (fmtWidth (cvtDstFmt o.d)) (cvtCols o.d)
  scales : ∀ i, cvtRows o.d ≤ i → i < o.writes.length → (o.writes.getD i ⟨0, 0⟩).len = cvtCols o.d / 32

theorem CvtRows.le (h : CvtRows o) : cvtRows o.d ≤ o.writes.length := by
  rw [h.count]
  split <;> omega

/-- Whole blocks of 32 codes fit in the row. -/
theorem blocks_le_rowBytes (w n : Nat) : 4 * w * (n / 32) ≤ rowBytes w n := by
  have h : w * (32 * (n / 32)) ≤ w * n := Nat.mul_le_mul_left w (Nat.mul_div_le n 32)
  have hassoc : w * (32 * (n / 32)) = 8 * (4 * w * (n / 32)) := by ring
  unfold rowBytes
  omega

/-- A converted row is written inside its rows. -/
theorem cvtPut_written (seed : Word) (h : CvtRows o) (hclean : Clean s o.writes) {r : Nat} (hr : r < cvtRows o.d) :
    RowsWritten s o.writes (cvtPut o s r (cvtValue seed o s r)) := by
  obtain ⟨x, hx, hlo, hxeq⟩ := rowKey_mem (Nat.lt_of_lt_of_le hr h.le)
  have hxlen := h.codes r hr
  rw [← hxeq] at hxlen
  unfold cvtPut
  cases hmx : cvtMx o.d with
  | false => exact (rowsWritten_wrBytes hclean hx hlo.le (by rw [toBytes_length, hlo, hxlen])).2
  | true =>
    have hcount : o.writes.length = cvtRows o.d * 2 := by rw [h.count, hmx]; rfl
    have hscaleRow : cvtRows o.d + r < o.writes.length := by omega
    obtain ⟨y, hy, hylo, hyeq⟩ := rowKey_mem hscaleRow
    have hylen := h.scales _ (Nat.le_add_right _ r) hscaleRow
    rw [← hyeq] at hylen
    refine mxPut_written _ hx hy hclean hlo.le ?_ hylo.le ?_
    · rw [length_cvtValue_scales seed hmx, hlo, hxlen]
      exact Nat.add_le_add_left (blocks_le_rowBytes _ _) _
    · rw [length_cvtValue_scales seed hmx, hylo, hylen]

/-- The rows that a CVT converts, one after the other. -/
def cvtAll (seed : Word) (o : ZtOp) (s : State) : State × Fl × Option Nat :=
  (List.range (cvtRows o.d)).foldl (cvtStep seed o) (s, Fl.none, none)

theorem cvtAll_written (seed : Word) (h : CvtRows o) (hclean : Clean s o.writes) :
    RowsWritten s o.writes ((cvtAll seed o s).1, (cvtAll seed o s).2.2) :=
  rowsWritten_foldl (acc := (s, Fl.none, none))
    (fun r hr acc hacc => ⟨_, cvtPut_written seed h hacc (List.mem_range.mp hr), by rw [cvtStep_eq], by rw [cvtStep_eq]⟩) hclean rfl

/-- What a finished CVT leaves. -/
theorem cvtFinish_leaves (hreads : Clean s o.reads) (hclean : Clean s o.writes) (h : CvtRows o) :
    VecLeaves s (cvtFinish (vecLeft s n os) n o) n os o.writes (cvtRm o.d == 3)
      ∧ (cvtFinish (vecLeft s n os) n o).mem = (cvtAll (seedOf (vecLeft s n os) n) o (vecLeft s n os)).1.mem := by
  have heq : cvtFinish (vecLeft s n os) n o = vecEnd n o (cvtRm o.d == 3) (cvtRows o.d * cvtCols o.d)
      (cvtAll (seedOf (vecLeft s n os) n) o (vecLeft s n os)) := by
    unfold cvtFinish
    rw [badSpans_of_clean (s := vecLeft s n os) hreads]
    rfl
  rw [heq]
  exact vecEnd_leaves (cvtAll_written (s := vecLeft s n os) _ h hclean) _ _

/-- Element `c` of a row converted without scaling. -/
theorem cvtRow_getD (d : BitVec 128) (u : Nat → BitVec 32) (r : Nat) (codes : List Nat) (hmx : cvtMx d = false) {c : Nat}
    (hc : c < cvtCols d) : (cvtRow d u r codes).1.getD c 0
      = (convert (cvtSrcFmt d) (cvtDstFmt d) (rmode (cvtRm d)) (cvtSat d) (u (r * cvtCols d + c)) (codes.getD c 0)).1 := by
  have hfst : (cvtRow d u r codes).1 = (List.range (cvtCols d)).map (fun c =>
      (convert (cvtSrcFmt d) (cvtDstFmt d) (rmode (cvtRm d)) (cvtSat d) (u (r * cvtCols d + c)) (codes.getD c 0)).1) := by
    unfold cvtRow
    rw [if_neg (by rw [hmx]; decide)]
    exact foldl_append_fst
      (g := fun c => ((convert (cvtSrcFmt d) (cvtDstFmt d) (rmode (cvtRm d)) (cvtSat d) (u (r * cvtCols d + c)) (codes.getD c 0)).1,
        (([] : List Byte), (convert (cvtSrcFmt d) (cvtDstFmt d) (rmode (cvtRm d)) (cvtSat d) (u (r * cvtCols d + c)) (codes.getD c 0)).2)))
      (h := fun p q => ([], p.2.or q.2)) _ ([], [], Fl.none)
  rw [hfst]
  simp [hc]

/-- The code of an 8-bit source. -/
theorem getD_cvtCodes_byte (hw : fmtWidth (cvtSrcFmt o.d) = 8) {c : Nat} (hc : c < cvtCols o.d) (r : Nat) :
    (cvtCodes o s r).getD c 0 = (rdByte s (rowKey o.reads r + c)).toNat := by
  have hbytes : rowBytes 8 (cvtCols o.d) = cvtCols o.d := by unfold rowBytes; omega
  unfold cvtCodes
  rw [hw, hbytes]
  simp only [unpackAt_ofBytes, List.getD_eq_getElem?_getD, List.getElem?_map, List.getElem?_range hc, getElem?_rdBytes, if_pos hc,
    Option.map_some, Option.getD_some]

/-- The numbers that a CVT of one row of 8-bit codes to a 32-bit format leaves, rounded to nearest even. -/
theorem cvtFinish_byte {z : Span} (hreads : Clean s o.reads) (hclean : Clean s o.writes) (h : CvtRows o) (hmx : cvtMx o.d = false)
    (hone : cvtRows o.d = 1) (hw : o.writes = [z]) (hsrc : fmtWidth (cvtSrcFmt o.d) = 8) (hdst : fmtWidth (cvtDstFmt o.d) = 32)
    (hrm : cvtRm o.d = 0) {c : Nat} (hc : c < cvtCols o.d) :
    numAt (cvtFinish (vecLeft s n os) n o) (z.lo + 4 * c) 4
      = (convert (cvtSrcFmt o.d) (cvtDstFmt o.d) .rne (cvtSat o.d) 0 (rdByte s (rowKey o.reads 0 + c)).toNat).1 % 2 ^ 32 := by
  rw [numAt_of_mem_eq (cvtFinish_leaves hreads hclean h).2]
  generalize seedOf (vecLeft s n os) n = seed
  have hkey : rowKey o.writes 0 = z.lo := by rw [hw]; rfl
  have hbytes : rowBytes 32 (cvtCols o.d) = 4 * cvtCols o.d := by unfold rowBytes; omega
  have hlen : z.len = 4 * cvtCols o.d := by
    have := h.codes 0 (by omega)
    rwa [hw, hdst, hbytes] at this
  have hput : cvtPut o (vecLeft s n os) 0 (cvtValue seed o (vecLeft s n os) 0)
      = (wrBytesBut [] (vecLeft s n os) z.lo (toBytes (4 * cvtCols o.d) (packCodes 32 (cvtValue seed o (vecLeft s n os) 0).1)), none) := by
    unfold cvtPut
    rw [if_neg (by rw [hmx]; decide), hdst, hkey, hbytes]
    exact (rowsWritten_wrBytes (s := vecLeft s n os) hclean (x := z) (by rw [hw]; exact List.mem_singleton_self z) le_rfl
      (by rw [toBytes_length, hlen])).1
  have hall : (cvtAll seed o (vecLeft s n os)).1 = (cvtPut o (vecLeft s n os) 0 (cvtValue seed o (vecLeft s n os) 0)).1 := by
    unfold cvtAll
    rw [hone]
    rfl
  have hcode : 256 ^ (4 * c) = 2 ^ (32 * c) := by
    rw [show (256 : Nat) = 2 ^ 8 from rfl, ← Nat.pow_mul, ← Nat.mul_assoc]
  have hpow : 256 ^ 4 = 2 ^ 32 := by norm_num
  calc numAt (cvtAll seed o (vecLeft s n os)).1 (z.lo + 4 * c) 4
      = packCodes 32 (cvtValue seed o (vecLeft s n os) 0).1 / 256 ^ (4 * c) % 256 ^ 4 := by
        rw [hall, hput]
        exact numAt_wrBytesBut_part _ _ _ (by omega)
    _ = (cvtValue seed o (vecLeft s n os) 0).1.getD c 0 % 2 ^ 32 := by
        rw [hcode, hpow, ← unpackAt_packCodes, unpackAt, Nat.shiftRight_eq_div_pow]
    _ = _ := by
        unfold cvtValue
        rw [cvtRow_getD _ _ _ _ hmx hc, getD_cvtCodes_byte hsrc hc, hrm]
        rfl

/-- Settles O24: the writes of an operation stay inside its rows, and its end raises the engine's flags. -/
theorem vectorOperationsWriteTheirRows : Obligations.VectorOperationsWriteTheirRows := by
  intro n s o os hrun hvec hclean
  have hrd : Clean s o.reads := fun w hw x hx => hclean w hw x (List.mem_append_left _ hx)
  have hwr : Clean s o.writes := fun w hw x hx => hclean w hw x (List.mem_append_right _ hx)
  refine ⟨fun hop hlen hrow => ?_, fun hop hcount hcodes hscales => ?_⟩
  · obtain ⟨srh, hsrh, hqueue, hflags, hcore, hframe, hstate, hfree⟩ := vecFinish_leaves (n := n) (os := os) hrd hwr hlen hrow
    refine ⟨_, exec_vecCompletion hrun hvec hop, hqueue, hflags, hcore, hframe, hstate, fun hrm => hfree (hsrh hrm), ?_⟩
    rintro _ f hmem rfl hfmt hone hapart hlens hcnt c hc
    exact vecFinish_int32 ⟨hmem, hfmt, hone⟩ hrd hwr hlen hrow hapart hlens hcnt hc
  · obtain ⟨⟨hqueue, hflags, hcore, hframe, hstate, hfree⟩, -⟩ :=
      cvtFinish_leaves (n := n) (os := os) hrd hwr ⟨hcount, hcodes, hscales⟩
    refine ⟨_, exec_cvtCompletion hrun hvec hop, hqueue, hflags, hcore, hframe, hstate,
      fun hrm => hfree (beq_eq_false_iff_ne.mpr hrm), ?_⟩
    intro y z hmx hone hy hz hsrc hdst hrm c hc
    rw [cvtFinish_byte hrd hwr ⟨hcount, hcodes, hscales⟩ hmx hone hz hsrc hdst hrm hc, hy]
    rfl

end Sys2Proof.Proofs
end
